-- ==== Sys2Proof/Word.lean ====
section
/-! DEFINITION. Word.lean: the word types of the QV2080 block and the plainest byte and list helpers over them.
Multi-byte fields are little-endian (R9). -/
namespace Sys2Proof

abbrev Byte := BitVec 8
abbrev W16 := BitVec 16
abbrev W32 := BitVec 32
abbrev W64 := BitVec 64

/-- A course time held in one value: course number in [63:16], phase in [15:0] (R7). -/
abbrev CTime := BitVec 64

end Sys2Proof
end

