-- ==== Sys2Proof/Syntax.lean ====
section
/-! DEFINITION. Syntax.lean: the commands of the block, one constructor for each row of spec/opcode_table.json.
An operand is what a command meets from outside the block: received bytes, conversion codes, measured values, the outcome of a physical
process. Everything the spec computes from state is computed from State, never handed in. -/
namespace Sys2Proof

/-- The two PCIe endpoints (R385). -/
abbrev Ep := Fin 2
/-- The twelve Kenlink ports, physical numbers (R366). -/
abbrev Port := Fin 12
/-- A die code of spall key 8: 0-7 AD, 8-15 GD, 16-17 HD, 18-19 UD, 20-27 MS, 28 module (R485). -/
abbrev DieCode := Fin 29

/-- The transport a PDX frame arrives on (R416). -/
inductive Path where
  | mailbox (ep : Ep)
  | sgmii
  /-- Kenlink CLASS 4, with the sender's side, pallet and slot and the port. -/
  | kenlink (side : Bool) (pallet slot : BitVec 6)
  deriving DecidableEq, Repr

/-- A PDX request as received, header field by field (R417); the operation is the command's own. -/
structure PdxReq where
  version : BitVec 4
  /-- a reserved header bit, or STATUS or RESPONSE of a request, is set -/
  reservedSet : Bool
  auth : Bool
  sessionId : W32
  sequence : W64
  index : W16
  sub : Byte
  offset : W32
  length : W32
  forward : Bool
  tgtSide : Bool
  tgtPallet : BitVec 6
  tgtSlot : BitVec 6
  body : List Byte
  trailer : List Byte
  deriving DecidableEq, Repr

/-- An error pattern on one protected word: the byte address of its 32-byte word within the store and the xor of the 36 symbols
on the first read and on the one reissue (R341, R342); the seal symbols' patterns likewise (R345, R346). -/
structure Upset where
  addr : Nat
  first : List Byte
  again : List Byte
  sealFirst : List Byte
  sealAgain : List Byte
  deriving DecidableEq, Repr

/-- What a descriptor's work meets while it runs (R26, R80, R185, R221, R222, R342, R395). -/
inductive HwErr where
  /-- residue-check failure on a promotion of the tile (R221); `replayed`: the replay on another cell of the block succeeded;
      `repeatOk`: the original cell's repeat agreed (R474) -/
  | residue (die block cell : Nat) (replayed repeatOk : Bool)
  /-- bed parity error (R222) -/
  | parity (die block : Nat) (group limb : Nat) (replayed : Bool)
  /-- a store word uncorrectable after the reissue, met by a demand read (R342) -/
  | store (store addr : Nat) (committed : Bool)
  /-- host transfer error (R395): UR or CA, poisoned, no path to the host -/
  | host
  /-- bridge stopped under the transfer (R19) -/
  | bridge (link : Nat)
  deriving DecidableEq, Repr

/-- One calibration point of a column over 65,536 strikes: sums of code and of code squared, the strikes that set the over-range bit,
the largest code (R157). -/
structure Point where
  sum : Nat
  sumSq : Nat
  overs : Nat
  max : Nat
  deriving DecidableEq, Repr

/-- What a pattern wave measures on one bit-column (R157): row verify still failing after WRITE_VERIFY_LIMIT, the four raw points,
the verify points 0, 254, 256, 128, the leakage point, and the witness test of step 9 (mismatch on a strike and its retry) the first
and the second time it runs. -/
structure ColMeas where
  writeFail : Bool
  raw : List Point
  k0 : Point
  k254 : Point
  k256 : Point
  k128 : Point
  leak : Point
  witFail : Bool
  witFailAgain : Bool
  deriving DecidableEq, Repr

/-- A cell's pattern measurements, all 536 bit-columns in order. -/
structure CellMeas where
  cell : Nat
  cols : List ColMeas
  deriving DecidableEq, Repr

/-- One conversion of a sampling round: converter, code, input beyond full scale, input below zero (R427). -/
structure Sample where
  conv : Fin 8
  code : BitVec 12
  above : Bool
  below : Bool
  deriving DecidableEq, Repr

/-- How a Kenlink port's training ends (R357). -/
inductive Training where
  | failed
  | trained
  deriving DecidableEq, Repr

/-- The outcome of the comparison of one audited cell (R470): largest |code - count|, sum of squares and number of codes compared, and the
repeat's result (R474). -/
structure ArrayAudit where
  cell : Nat
  rows : Nat
  largest : Nat
  sumSq : Nat
  count : Nat
  repeatAgrees : Bool
  deriving DecidableEq, Repr

/-- The digital comparison of one gradient-die block (R471): the bits of the block's own result, of the second and of the third
computation, for the MAC sub-tile or the row; the cells that computed. -/
structure DigitalAudit where
  rowEngine : Bool
  own : Nat
  second : Nat
  third : Nat
  cell : Nat
  secondBlock : Nat
  secondCell : Nat
  repeatAgrees : Bool
  deriving DecidableEq, Repr

/-- What an audit grant compares. -/
inductive AuditData where
  | abandoned
  | array (cells : List ArrayAudit)
  | digital (mac row : DigitalAudit)
  deriving DecidableEq, Repr

/-- Outcome of a PMBus transaction on the wire, after the two retries of R437. -/
inductive PmbReply where
  | failed
  | ok (data : List Byte)
  deriving DecidableEq, Repr

/-- Maintenance activities of the Foreman (R481), in priority order. -/
inductive Activity where
  | calibration | audit | spallExport | scrubbing | firmwareStaging | slice
  deriving DecidableEq, Repr

/-- Where a spall record is exported to (R487). -/
inductive SpallDest where
  | flash | host | collector
  deriving DecidableEq, Repr

/-- The commands of the block. -/
inductive Instr where
  -- course time base (02)
  /-- COURSE_FRAME: the raw timestamp of the first transition, the idle before it in ns, the received half-bit levels. -/
  | courseFrame (markTs : Nat) (idleNs : Nat) (levels : List Bool)
  | unmarkedWrap
  | courseMasterFrame
  -- course events
  | contributionDeadline
  | voteDeadline
  | broadcastDeadline
  | commitEvent
  | calibrationTableSwap
  | firmwareActivation
  | measurementTrigger
  | courseScheduledFreeze
  | runEntry
  -- streams (03)
  | doorbell (ep : Ep) (addr : Nat) (size : Nat) (value : W64)
  | descriptorEntry (stream : Nat)
  | descriptorComplete (stream : Nat) (hostData : List Byte) (errs : List HwErr)
  | streamHalt (stream : Nat)
  | retry (stream : BitVec 18) (reserved : BitVec 12)
  | skip (stream : BitVec 18) (reserved : BitVec 12)
  | streamReset (stream : BitVec 18) (reserved : BitVec 12)
  -- plan and placement (04)
  | planLoad
  | planUnload
  | planLoadComplete
  | placement
  | arrayOperationStart
  | arrayOperationEnd
  -- arrays (05)
  /-- STRIKE: the cell, the code and the over-range bit of each of its 536 bit-columns. -/
  | strike (cell : Nat) (codes : List Byte) (overs : List Bool)
  | digitalSubstitution (cell : Nat)
  /-- WEIGHT_WRITE: the cell, the row, and for each write of the row the bit-columns that read back wrong. -/
  | weightWrite (cell : Nat) (row : Nat) (wrong : List (List Nat))
  -- calibration (06)
  | calibrationWave (wave : Fin 8) (meas : List CellMeas)
  | calibrationDone
  | calRunPattern
  | calRunResident
  /-- RESIDENT_PROBE_SET: the cell and, probe by probe, the codes of its bit-columns. -/
  | residentProbeSet (cell : Nat) (codes : List (List Byte))
  | bankSettled
  | setFlashWrite (die : Fin 8) (set : Fin 5)
  -- numerics history (07)
  | histSave
  | histSaveAtBoundary
  | histRestore
  -- joints (08)
  | joint (layer : Nat) (kind : Byte) (tileRow tileCol : Nat)
  | jointRecord (link : Nat) (bytes : List Byte)
  -- backward pass (09)
  | recompute (microBatch : Nat) (segment : Nat)
  | checkpointPrefetch (microBatch : Nat)
  -- training step (10)
  | localVerdict
  | stepVoidReq
  | verdictReceived (port : Port) (msg : List Byte)
  | decisionReceived (port : Port) (msg : List Byte)
  | updateEnd
  | writebackEnd
  -- exchange (11)
  | contributionRecord (bytes : List Byte)
  | lateNotice (bytes : List Byte)
  | excludeRecord (bytes : List Byte)
  | setRecord (bytes : List Byte)
  | stageRecord (bytes : List Byte)
  | gatherRecord (bytes : List Byte)
  | gatherDeadline
  | twinShard (bytes : List Byte)
  | twinShardDeadline
  | twinDelta (bytes : List Byte)
  -- update (12)
  | rootJob (die : Fin 2)
  | updImageSave
  | updImageRestore (region : List Byte) (hostOk : Bool)
  -- memory and bridges (13, 01)
  /-- PATROL_SCRUB: the store, the words found struck, and the words newly written since the patrol read them. -/
  | patrolScrub (store : Nat) (upsets : List Upset) (overtaken : List Nat)
  | bar2Write (ep : Ep) (offset : Nat) (data : List Byte) (upsets : List Upset)
  | bar2Read (ep : Ep) (offset : Nat) (length : Nat) (upsets : List Upset)
  /-- BRIDGE_FLIT: the connection, the two received codewords of 36 symbols, the received CRC. -/
  | bridgeFlit (link : Nat) (words : List (List Byte)) (crc : W32)
  -- Kenlink (14)
  | portTraining (port : Port) (result : Training)
  | portTrainingRetry (port : Port) (farIdle : Bool)
  /-- DATA_FLIT: the 256 bytes, and whether the codewords that carried it were decodable, and how many were corrected (R358). -/
  | dataFlit (port : Port) (bytes : List Byte) (fecOk : Bool) (corrected : Nat)
  | idleFlit (port : Port) (bytes : List Byte) (fecOk : Bool) (corrected : Nat)
  | identityFlit (port : Port) (bytes : List Byte) (fecOk : Bool) (corrected : Nat)
  | identityResend (port : Port)
  | replayTimeout (port : Port)
  | codewordTimeout (port : Port)
  | retrainLimit (port : Port)
  | reassemblyTimeout (side : Bool) (pallet slot : BitVec 6) (cls : BitVec 3) (tag : W16)
  | discoveryRestart
  | discoveryWindowEnd
  -- host interface (15)
  | irqStatusClear (ep : Ep) (value : W16)
  | irqMaskWrite (ep : Ep) (value : W16)
  | mboxReqLen (ep : Ep) (value : W16)
  | mailboxResponse (ep : Ep)
  | coalesceIntervalEnd (ep : Ep) (vector : Nat)
  | hostDmaTimeout (stream : Nat)
  | perst (ep : Ep) (level : Bool)
  | functionLevelReset (ep : Ep)
  -- parameter dictionary (16)
  | read (path : Path) (req : PdxReq)
  | readStaged (path : Path) (req : PdxReq)
  | write (path : Path) (req : PdxReq)
  | describe (path : Path) (req : PdxReq)
  | next (path : Path) (req : PdxReq)
  | sessionOpen (path : Path) (req : PdxReq)
  | sessionClose (path : Path) (req : PdxReq)
  | sessionIdleTimeout (sessionId : W32)
  | pdxForward (path : Path) (op : Byte) (req : PdxReq)
  | forwardTimeout (sequence : W64)
  | cfgCommit
  | cfgValidationDone
  | cfgDiscard
  | cfgStageDefaults
  | stateReqArm
  | stateReqHold
  | ownerKey (path : Path) (authenticated : Bool) (key : List Byte)
  -- measurement and control (17)
  | adcTrigger (group : Byte)
  | extTrig (rising : Bool)
  | timerExpiry (timer : Fin 16)
  | samplingGroupDone (group : Fin 16) (rounds : List (List Sample))
  | channelStale (channel : Fin 128)
  | sliceCalibration (conv : Fin 8) (weight : Nat)
  | levelTick
  | levelEvaluation
  | levelTickLate
  /-- FAST_CLAMP: the hub and its instantaneous current sum, in mA, and the current LEVEL_PEAK_W / 2 draws at the measured voltages. -/
  | fastClamp (hub : Fin 2) (milliAmps limitMilliAmps : Nat)
  | throttleIn (asserted : Bool)
  | tachStall (input : Fin 8)
  | pmbPoll (row : Nat) (status vout iout temp voutMode : PmbReply)
  | pmbXfer (bytes : List Byte) (reply : PmbReply)
  -- clocks, reset and start-up (18)
  | powerOff
  | resetAssert (pwrGood : Bool)
  | resetRelease (slotId : BitVec 6) (bondSide : Bool) (refclk : Bool)
  | loopsLocked
  | firmwareVerified
  | bridgesTrained (trained : List Nat)
  /-- MEMORY_STEP_DONE: stacks that filled, per channel (fitted and listing 6,400 MT/s, trained, capacity, ranks), weak rows repaired. -/
  | memoryStepDone (stacksOk : List Bool) (channels : List (Bool × Bool × Nat × Nat)) (repaired : List Nat)
  | flashReadsDone
  | refclkLoss
  | refclkReturn
  | domainSnapshot
  -- faults (19)
  | audit (die block : Nat) (data : AuditData)
  | foremanBound (activity : Activity) (resource : Nat)
  | spallExport (dest : SpallDest)
  | spallReceived (bytes : List Byte)
  -- freeze (20)
  | freezeN (level : Bool)
  | freezeCmd (value : Byte)
  | freezeAt (time : CTime)
  /-- READOUT_END: the words the engine found struck (store and pattern), and the REFCLK cycles from the latch to the end of the LAST frame. -/
  | readoutEnd (upsets : List (Nat × Upset)) (cycles : Nat)
  -- firmware and security (21)
  | fwStageBegin
  | fwStageAbandon
  | fwData (piece : List Byte)
  | firmwareStagingGrant (flashOk : Bool)
  | stagingVerified
  | fwActivateAt (time : CTime)
  | attestReq (nonce : List Byte)
  | attestReport
  -- rows the table adds at its end
  | powerUp
  | wrap
  | loopLockTimeout (loop : Nat)
  | lockLoss (loop : Nat)
  | msixTableWrite (ep : Ep) (vector : Fin 2048) (dword : Fin 4) (value : W32)
  | bar0Write (ep : Ep) (offset : Nat) (size : Nat) (value : W64)
  | arpNdAndEchoRequest (frame : List Byte)
  | pdxForwardedResponse (bytes : List Byte)
  | tachEdge (input : Fin 8) (at10ns : Nat)
  | historyObjectComplete
  | paneImageComplete
  deriving DecidableEq, Repr

end Sys2Proof
end

