-- ==== Sys2Proof/Machine/Keys.lean ====
section
/-! DEFINITION. Machine/Keys.lean: the keys of the parameter dictionary entries, index * 256 + subindex (R399), by the names the
dictionary tables give them. -/
namespace Sys2Proof.Machine.PD

abbrev DEVICE_NAME : Nat := 0x000001
abbrev STEPPING : Nat := 0x000002
abbrev SERIAL : Nat := 0x000003
abbrev PD_VERSION : Nat := 0x000004
abbrev IDENTITY_KEY : Nat := 0x000005
abbrev IDENTITY_CERT : Nat := 0x000006
abbrev TYPE_TABLE : Nat := 0x001001
abbrev DEVICE_STATE : Nat := 0x100001
abbrev STATE_REQ : Nat := 0x100002
abbrev STATE_REQ_RESULT : Nat := 0x100003
abbrev CFG_COMMIT : Nat := 0x100101
abbrev CFG_STATUS : Nat := 0x100102
abbrev CFG_FAULTS : Nat := 0x100103
abbrev CFG_STAGED : Nat := 0x100104
abbrev CFG_GENERATION : Nat := 0x100105
abbrev CFG_DIGEST : Nat := 0x100106
abbrev CFG_APPLY_STEP : Nat := 0x100107
abbrev CFG_CMD_RESULT : Nat := 0x100108
abbrev BALL_SELECT : Nat := 0x100201
abbrev STAGING_FIXED : Nat := 0x100202
abbrev CLAIM_TABLE : Nat := 0x100204
abbrev HEALTH_DIE_MASK : Nat := 0x110001
abbrev HEALTH_CELLS_RETIRED : Nat := 0x110002
abbrev HEALTH_BLOCKS_RETIRED : Nat := 0x110003
abbrev HEALTH_MAP : Nat := 0x110004
abbrev HEALTH_MAP_DIGEST : Nat := 0x110005
abbrev ESC_CELL_TO_BLOCK : Nat := 0x110101
abbrev ESC_BLOCK_TO_REGION : Nat := 0x110102
abbrev ESC_REGION_TO_DEVICE : Nat := 0x110103
abbrev HOST_EP_TABLE : Nat := 0x120001
abbrev HOST_DMA_TIMEOUT_MS : Nat := 0x120002
abbrev IRQ_COALESCE_NS : Nat := 0x120003
abbrev BAR0_DISCARDED : Nat := 0x120101
abbrev MBOX_DROPPED : Nat := 0x120102
abbrev HOST_DMA_ERR : Nat := 0x120103
abbrev HOST_REGIONS : Nat := 0x121001
abbrev COURSE_PERIOD_NS : Nat := 0x200001
abbrev COURSE_IN_DELAY_NS : Nat := 0x200002
abbrev COURSE_HOLDOVER_LIMIT : Nat := 0x200003
abbrev COURSE_LOCK_COUNT : Nat := 0x200004
abbrev COURSE_MASTER_EN : Nat := 0x200005
abbrev COURSE_MASTER_START : Nat := 0x200006
abbrev COURSE_MASTER_TAG : Nat := 0x200007
abbrev COURSE_NOW : Nat := 0x201001
abbrev COURSE_STATE : Nat := 0x201002
abbrev COURSE_HOLDOVER_COUNT : Nat := 0x201003
abbrev COURSE_PERIOD_MEAS : Nat := 0x201004
abbrev COURSE_LAST_TAG : Nat := 0x201005
abbrev COURSE_PHASE_ERR : Nat := 0x201006
abbrev COURSE_FLAGS : Nat := 0x201007
abbrev COURSE_FRAMES_GOOD : Nat := 0x201101
abbrev COURSE_CRC_ERR : Nat := 0x201102
abbrev COURSE_DECODE_ERR : Nat := 0x201103
abbrev COURSE_VERSION_ERR : Nat := 0x201104
abbrev COURSE_DISCORDANT : Nat := 0x201105
abbrev COURSE_OUT_OF_WINDOW : Nat := 0x201106
abbrev COURSE_UNMARKED : Nat := 0x201107
abbrev COURSE_LOST_ENTRIES : Nat := 0x201108
abbrev EVENT_QUEUE : Nat := 0x202001
abbrev EVENT_QUEUE_FREE : Nat := 0x202002
abbrev EVENT_REJECTED : Nat := 0x202003
abbrev CLK_DOMAIN_TABLE : Nat := 0x210001
abbrev CLK_FLAGS : Nat := 0x210002
abbrev REFCLK_LOSSES : Nat := 0x210101
abbrev COAST_NS : Nat := 0x210102
abbrev LOCK_LOSSES : Nat := 0x210103
abbrev STOPPED_ACCESS : Nat := 0x210104
abbrev START_TABLE : Nat := 0x210201
abbrev RESET_CAUSE : Nat := 0x210202
abbrev READY_TIME_MS : Nat := 0x210203
abbrev PLAN_OFFSET : Nat := 0x300001
abbrev PLAN_LENGTH : Nat := 0x300002
abbrev PLAN_LOAD : Nat := 0x300003
abbrev PLAN_STATUS : Nat := 0x300004
abbrev PLAN_DIGEST : Nat := 0x300005
abbrev PLAN_FAULTS : Nat := 0x300006
abbrev DENSE_ENABLE : Nat := 0x301001
abbrev DENSE_ON_SHARE : Nat := 0x301002
abbrev DENSE_OFF_SHARE : Nat := 0x301003
abbrev DENSE_WINDOW : Nat := 0x301004
abbrev CKPT_BUDGET_PCT : Nat := 0x301005
abbrev STREAM_COUNT : Nat := 0x310001
abbrev STREAM_TABLE : Nat := 0x310002
abbrev STREAM_SELECT : Nat := 0x310101
abbrev STREAM_STATE : Nat := 0x310102
abbrev STREAM_HEAD : Nat := 0x310103
abbrev STREAM_TAIL : Nat := 0x310104
abbrev STREAM_ERROR : Nat := 0x310105
abbrev STREAM_ERR_INDEX : Nat := 0x310106
abbrev STREAM_TILES_DONE : Nat := 0x310107
abbrev STREAM_BLOCKED_ON : Nat := 0x310108
abbrev STREAM_OPEN_GROUPS : Nat := 0x310109
abbrev STREAM_RESUME : Nat := 0x310201
abbrev STREAM_CMD_RESULT : Nat := 0x310202
abbrev DOORBELL_DROPPED : Nat := 0x310301
abbrev DOORBELL_STALE : Nat := 0x310302
abbrev DESC_REJECTED : Nat := 0x310303
abbrev STREAM_HALTS : Nat := 0x310304
abbrev PLACE_VERSION : Nat := 0x320001
abbrev PLACE_DIGEST : Nat := 0x320002
abbrev PLACE_MODE_USED : Nat := 0x320003
abbrev PLACE_LAYERS : Nat := 0x320004
abbrev PLACE_STATIONS : Nat := 0x320005
abbrev PLACE_TENSORS : Nat := 0x320006
abbrev PLACE_CHECKPOINTS : Nat := 0x320007
abbrev PLACE_SEQUENCE : Nat := 0x320008
abbrev PLACE_ROWMODE : Nat := 0x320009
abbrev PLACE_TRIGGERS : Nat := 0x32000A
abbrev PLACE_COUNT : Nat := 0x320101
abbrev PLACE_WAIT_NS : Nat := 0x320102
abbrev DENSE_SWITCHES : Nat := 0x320103
abbrev CELL_TAKEOVERS : Nat := 0x320104
abbrev RESIDENCY_WAITS : Nat := 0x320105
abbrev WIT_TOL_64 : Nat := 0x400001
abbrev WIT_TOL_128 : Nat := 0x400002
abbrev WIT_TOL_256 : Nat := 0x400003
abbrev SKIP_ZERO_PHASES : Nat := 0x400004
abbrev WRITE_VERIFY_LIMIT : Nat := 0x400005
abbrev ARR_STRIKES : Nat := 0x401001
abbrev ARR_SKIPPED : Nat := 0x401002
abbrev ARR_OVERRANGE : Nat := 0x401003
abbrev ARR_REPLAY_HALVES : Nat := 0x401004
abbrev ARR_SCALE_SPLITS : Nat := 0x401005
abbrev ARR_WIT_MISMATCH : Nat := 0x401006
abbrev ARR_WIT_RETRY_OK : Nat := 0x401007
abbrev ARR_SUBSTITUTED : Nat := 0x401008
abbrev ARR_FLAG_FAULTS : Nat := 0x401009
abbrev ARR_DOUBLE_EXTRA : Nat := 0x40100A
abbrev ARR_PROMOTIONS : Nat := 0x40100B
abbrev ARR_ROWS_WRITTEN : Nat := 0x40100C
abbrev ARR_ROWS_UNCHANGED : Nat := 0x40100D
abbrev ARR_VERIFY_FAIL : Nat := 0x40100E
abbrev ARR_WRITE_REMAPS : Nat := 0x40100F
abbrev ARR_WRITE_RETIRES : Nat := 0x401010
abbrev ARR_DIE_STATS : Nat := 0x401101
abbrev SPARE_MAP : Nat := 0x401201
abbrev SPARE_FREE : Nat := 0x401202
abbrev SPARE_FREE_MIN : Nat := 0x401203
abbrev CAL_MODE : Nat := 0x410001
abbrev CAL_COMPAT_DELTA : Nat := 0x410002
abbrev CAL_TRIM_STEP : Nat := 0x410003
abbrev CAL_DRIFT_GAIN : Nat := 0x410004
abbrev CAL_DRIFT_OFS : Nat := 0x410005
abbrev CAL_PERSIST : Nat := 0x410006
abbrev CAL_RUN : Nat := 0x410101
abbrev CAL_RUN_RESULT : Nat := 0x410102
abbrev CAL_STATE : Nat := 0x411001
abbrev CAL_BANK : Nat := 0x411002
abbrev CAL_SWAPS : Nat := 0x411003
abbrev CAL_SWAPS_DEFERRED : Nat := 0x411004
abbrev CAL_LAST_SWAP : Nat := 0x411005
abbrev CAL_DIE_TABLE : Nat := 0x411006
abbrev CAL_RUNS : Nat := 0x411007
abbrev CAL_COMPAT_TRIGGERS : Nat := 0x411008
abbrev CAL_DIGEST : Nat := 0x411009
abbrev CAL_COLUMNS_FAILED : Nat := 0x41100A
abbrev CAL_SET_TABLE : Nat := 0x412001
abbrev CAL_SET_COUNT : Nat := 0x412002
abbrev CAL_SET_TEMPS : Nat := 0x412003
abbrev CAL_SET_RESTORED : Nat := 0x412004
abbrev CAL_SET_BAD : Nat := 0x412005
abbrev NUM_LAYER_TABLE : Nat := 0x500001
abbrev GROUT_TAU : Nat := 0x501001
abbrev GROUT_EXCESS_LIMIT : Nat := 0x501002
abbrev GROUT_SCORE_ALPHA : Nat := 0x501003
abbrev GROUT_VALUES : Nat := 0x501101
abbrev GROUT_EXCESS : Nat := 0x501102
abbrev GROUT_FLAGGED : Nat := 0x501103
abbrev WIDEN_ENABLE : Nat := 0x502001
abbrev WIDEN_MAX_RUNG : Nat := 0x502002
abbrev WIDEN_CLEAN_STEPS : Nat := 0x502003
abbrev STORM_SHARE : Nat := 0x502004
abbrev STORM_POLICY : Nat := 0x502005
abbrev WIDEN_EVENTS : Nat := 0x502101
abbrev WIDEN_REPEATS : Nat := 0x502102
abbrev NARROWINGS : Nat := 0x502103
abbrev RESCALES : Nat := 0x502104
abbrev RESCALE_CLIPS : Nat := 0x502105
abbrev STORMS : Nat := 0x502106
abbrev WIDEN_LOG : Nat := 0x502107
abbrev PLUMB_FACTOR : Nat := 0x503001
abbrev PLUMB_ALPHA : Nat := 0x503002
abbrev PLUMB_ACTION_FWD : Nat := 0x503003
abbrev PLUMB_ACTION_GRAD : Nat := 0x503004
abbrev PLUMB_WARMUP : Nat := 0x503005
abbrev PLUMB_EVENTS : Nat := 0x503101
abbrev PLUMB_LOG : Nat := 0x503102
abbrev GAUGE_PCT : Nat := 0x504001
abbrev GAUGE_HEADROOM : Nat := 0x504002
abbrev GAUGE_UNDERFLOW : Nat := 0x504003
abbrev GAUGE_FLOOR : Nat := 0x504004
abbrev GAUGE_TABLE : Nat := 0x504101
abbrev GAUGE_CHANGES : Nat := 0x504102
abbrev COLD_LAYERS : Nat := 0x505001
abbrev HIST_OFFSET : Nat := 0x505002
abbrev HIST_SAVE : Nat := 0x505003
abbrev HIST_RESTORE : Nat := 0x505004
abbrev HIST_RESULT : Nat := 0x505005
abbrev HIST_LENGTH : Nat := 0x505006
abbrev REF_ALL : Nat := 0x506001
abbrev REF_TILES : Nat := 0x506002
abbrev Q_UNDERFLOW : Nat := 0x507001
abbrev Q_NONFINITE : Nat := 0x507002
abbrev W2T_INVALID : Nat := 0x507003
abbrev SCOUT_PASSES : Nat := 0x507004
abbrev JOINT_MODE : Nat := 0x508001
abbrev JOINT_AUTO : Nat := 0x508002
abbrev JOINT_SEED : Nat := 0x508003
abbrev CANCEL_ON : Nat := 0x508004
abbrev CANCEL_OFF : Nat := 0x508005
abbrev JOINT_CLEAN_STEPS : Nat := 0x508006
abbrev BED_SPILL_MIB : Nat := 0x508007
abbrev JOINT_TABLE : Nat := 0x508101
abbrev JOINTS_ROUNDED : Nat := 0x508102
abbrev JOINTS_EXACT : Nat := 0x508103
abbrev JOINT_EXACT_BYTES : Nat := 0x508104
abbrev JOINT_SWITCHES : Nat := 0x508105
abbrev BED_PROMOTIONS : Nat := 0x508201
abbrev BED_SOLO_PROMOTIONS : Nat := 0x508202
abbrev BED_INEXACT : Nat := 0x508203
abbrev BED_OVERFLOW : Nat := 0x508204
abbrev BED_RESIDUE_ERR : Nat := 0x508205
abbrev BED_PARITY_ERR : Nat := 0x508206
abbrev BED_SPILL_ROWS : Nat := 0x508207
abbrev BED_SPILL_WAITS : Nat := 0x508208
abbrev GROUP_SAVES : Nat := 0x508209
abbrev TOPK_NAN : Nat := 0x508301
abbrev TOPK_ROWS : Nat := 0x508302
abbrev ACT_GELU_FORM : Nat := 0x510001
abbrev ROW_EPS : Nat := 0x510002
abbrev BWDW_X_FORMAT : Nat := 0x510003
abbrev ATTN_SCALE : Nat := 0x510004
abbrev CKPT_PREFETCH_DEPTH : Nat := 0x510005
abbrev BWDX_TILES : Nat := 0x510101
abbrev BWDW_TILES : Nat := 0x510102
abbrev BWDW_ZERO_BLOCKS : Nat := 0x510103
abbrev BWDW_REBLOCKED : Nat := 0x510104
abbrev ACT_DERIV_TILES : Nat := 0x510105
abbrev ROW_ROWS : Nat := 0x510106
abbrev RECOMPUTE_OPS : Nat := 0x510107
abbrev CKPT_SPILL_BYTES : Nat := 0x510108
abbrev CKPT_PREFETCH_BYTES : Nat := 0x510109
abbrev CKPT_WAITS : Nat := 0x51010A
abbrev FROG_SPILL_RUNS : Nat := 0x51010B
abbrev FROG_WAITS : Nat := 0x51010C
abbrev FROG_MISSING : Nat := 0x51010D
abbrev ATTN_DROPPED : Nat := 0x51010E
abbrev KEPT_MISSING : Nat := 0x51010F
abbrev FROG_TABLE : Nat := 0x510201
abbrev KEEP_TABLE : Nat := 0x510202
abbrev STEP_NUMBER : Nat := 0x600001
abbrev STEP_ATTEMPT : Nat := 0x600002
abbrev STEP_OPEN : Nat := 0x600003
abbrev STEP_REASONS : Nat := 0x600004
abbrev STEP_FIRST : Nat := 0x600005
abbrev STEP_VOID_REQ : Nat := 0x600006
abbrev STEP_LAST_DECISION : Nat := 0x600007
abbrev VOTE_PARENT_PORT : Nat := 0x600101
abbrev VOTE_WINDOW : Nat := 0x600102
abbrev VOTE_COMMIT_LEAD : Nat := 0x600103
abbrev VOTE_DOMAIN_SIZE : Nat := 0x600104
abbrev VOTE_MAX_ATTEMPTS : Nat := 0x600105
abbrev VOTE_CHILD_MASK : Nat := 0x600106
abbrev STEPS_COMMITTED : Nat := 0x600201
abbrev STEPS_VOIDED : Nat := 0x600202
abbrev VOID_LOCAL : Nat := 0x600203
abbrev VERDICTS_LATE : Nat := 0x600204
abbrev VOTE_MSG_ERR : Nat := 0x600205
abbrev VOTE_CMD_IGNORED : Nat := 0x600206
abbrev STEP_PHASE_TABLE : Nat := 0x600301
abbrev STEP_VOID_LOG : Nat := 0x600302
abbrev EXCH_SIZE : Nat := 0x610001
abbrev EXCH_MEMBER : Nat := 0x610002
abbrev EXCH_MEMBERS : Nat := 0x610003
abbrev EXCH_PANES : Nat := 0x610004
abbrev EXCH_FIRST_DEADLINE : Nat := 0x610005
abbrev EXCH_PERIOD : Nat := 0x610006
abbrev EXCH_POLICY : Nat := 0x610007
abbrev EXCH_CARRY_LATE : Nat := 0x610008
abbrev EXCH_MIN_SHARE : Nat := 0x610009
abbrev EXCH_STEP_SAMPLES : Nat := 0x61000A
abbrev EXCH_GATHER_WINDOW : Nat := 0x61000B
abbrev EXCH_RECORDS : Nat := 0x610101
abbrev EXCH_LATE : Nat := 0x610102
abbrev EXCH_CARRIED : Nat := 0x610103
abbrev EXCH_NOTICE_LATE : Nat := 0x610104
abbrev EXCH_UNSENT : Nat := 0x610105
abbrev EXCH_EMPTY : Nat := 0x610106
abbrev EXCH_EXCLUDED : Nat := 0x610107
abbrev EXCH_REC_ERR : Nat := 0x610108
abbrev EXCH_STALE : Nat := 0x610109
abbrev STAGE_TILES : Nat := 0x61010A
abbrev GATHER_MISSING : Nat := 0x61010B
abbrev THIN_TABLE : Nat := 0x611001
abbrev PRIV_CHANNELS : Nat := 0x611002
abbrev STAGE_TABLE : Nat := 0x612001
abbrev BOND_ALONE : Nat := 0x615001
abbrev BOND_BAND_FLOOR : Nat := 0x615002
abbrev BOND_BAND_FACTOR : Nat := 0x615003
abbrev BOND_PERSIST : Nat := 0x615004
abbrev BOND_DISAGREE : Nat := 0x615101
abbrev BOND_CONTESTED : Nat := 0x615102
abbrev BOND_RBAR : Nat := 0x615103
abbrev UPD_LR : Nat := 0x620001
abbrev UPD_BETA1 : Nat := 0x620002
abbrev UPD_BETA2 : Nat := 0x620003
abbrev UPD_BETA_STAT : Nat := 0x620004
abbrev UPD_EPS_DIAG : Nat := 0x620005
abbrev UPD_WEIGHT_DECAY : Nat := 0x620006
abbrev ROOT_INTERVAL : Nat := 0x620007
abbrev ROOT_EPS_REL : Nat := 0x620008
abbrev ROOT_RETRIES : Nat := 0x620009
abbrev ROOT_MAX_ITER : Nat := 0x62000A
abbrev ROOT_TOL : Nat := 0x62000B
abbrev ROOT_RESID_MAX : Nat := 0x62000C
abbrev QUANT_HYST : Nat := 0x62000D
abbrev UPD_LAYER_TABLE : Nat := 0x62000E
abbrev UPD_IMAGE_REGION : Nat := 0x620101
abbrev UPD_IMAGE_CMD : Nat := 0x620102
abbrev UPD_IMAGE_RESULT : Nat := 0x620103
abbrev UPD_IMAGE_LENGTH : Nat := 0x620104
abbrev UPD_PANES : Nat := 0x620201
abbrev ROOT_FIRST : Nat := 0x620202
abbrev ROOT_DAMPED : Nat := 0x620203
abbrev ROOT_KEPT : Nat := 0x620204
abbrev ROOT_DIAG : Nat := 0x620205
abbrev ROOT_ZERO : Nat := 0x620206
abbrev ROOT_OVERRUN : Nat := 0x620207
abbrev UPD_NONFINITE : Nat := 0x620208
abbrev QUANT_CODES_CHANGED : Nat := 0x620209
abbrev QUANT_SCALES_REPLACED : Nat := 0x62020A
abbrev UPD_PANE_TABLE : Nat := 0x620301
abbrev LINK_POLICY : Nat := 0x700001
abbrev SWAP_TOLERATE : Nat := 0x700002
abbrev MANIFEST_MATCH : Nat := 0x700003
abbrev PALLET_NUMBER : Nat := 0x700004
abbrev DISCOVERY_WINDOW_MS : Nat := 0x700005
abbrev WIRING_PLAN : Nat := 0x700006
abbrev ROUTE_TABLE : Nat := 0x700007
abbrev PORT11_ROLE : Nat := 0x700008
abbrev RETRAIN_LIMIT_MS : Nat := 0x700009
abbrev DISCOVERY_RESTART : Nat := 0x70000A
abbrev PORT_TABLE : Nat := 0x700101
abbrev LOGICAL_MAP : Nat := 0x700102
abbrev DISCOVERY_STATE : Nat := 0x700103
abbrev DISCOVERY_FINDINGS : Nat := 0x700104
abbrev KL_PROTO_MIN : Nat := 0x700105
abbrev KL_PROTO_MAX : Nat := 0x700106
abbrev FEC_CORRECTED : Nat := 0x700201
abbrev FEC_UNCORRECTABLE : Nat := 0x700202
abbrev FLIT_CRC_ERR : Nat := 0x700203
abbrev FLIT_REPLAYS : Nat := 0x700204
abbrev LINK_RETRAINS : Nat := 0x700205
abbrev LINK_DROPS : Nat := 0x700206
abbrev FLITS_FORWARDED : Nat := 0x700207
abbrev FLITS_NO_ROUTE : Nat := 0x700208
abbrev MSG_REASSEMBLY_DROPS : Nat := 0x700209
abbrev FLITS_FLUSHED : Nat := 0x70020A
abbrev IDENTITY_CHANGES : Nat := 0x70020B
abbrev SLOW_CAPACITY : Nat := 0x800001
abbrev SLOW_CHANNEL_TABLE : Nat := 0x800002
abbrev SLOW_PPR : Nat := 0x800003
abbrev SCRUB_PERIOD_STACK : Nat := 0x800101
abbrev SCRUB_PERIOD_SLOW : Nat := 0x800102
abbrev SCRUB_PERIOD_SRAM : Nat := 0x800103
abbrev SCRUB_PASS_TABLE : Nat := 0x800104
abbrev GUARD_CORRECTED : Nat := 0x800201
abbrev GUARD_UNCORRECTABLE : Nat := 0x800202
abbrev GUARD_REISSUE_OK : Nat := 0x800203
abbrev SEAL_MISMATCH : Nat := 0x800204
abbrev SEAL_REPAIRED : Nat := 0x800205
abbrev SCRUB_WRITEBACKS : Nat := 0x800206
abbrev SCRUB_WRITEBACK_DROPPED : Nat := 0x800207
abbrev GUARD_STORE_TABLE : Nat := 0x800208
abbrev WEAK_TABLE : Nat := 0x800301
abbrev BAR2_DISCARDED : Nat := 0x800302
abbrev BAR2_ABORTS : Nat := 0x800303
abbrev ADC_INT_CORR : Nat := 0x900001
abbrev ADC_EXT_CORR : Nat := 0x900002
abbrev ADC_GROUPS : Nat := 0x900101
abbrev ADC_TRIGGER : Nat := 0x900102
abbrev ADC_TRIGGER_RESULT : Nat := 0x900103
abbrev ADC_RESULTS : Nat := 0x900201
abbrev ADC_URGENT_DROPPED : Nat := 0x900202
abbrev ADC_TRIGGER_MERGED : Nat := 0x900203
abbrev ADC_RANGE_FLAGS : Nat := 0x900204
abbrev ADC_CAPTURE : Nat := 0x900205
abbrev ADC_SAMPLES : Nat := 0x900206
abbrev ADC_ROTATION_S : Nat := 0x900301
abbrev ADC_SLICE_TABLE : Nat := 0x900302
abbrev TIMER_TABLE : Nat := 0x900401
abbrev DIE_T16 : Nat := 0x900501
abbrev PWM_TABLE : Nat := 0x901001
abbrev PWM_TIMER : Nat := 0x901002
abbrev TACH_TABLE : Nat := 0x901101
abbrev TACH_RESULTS : Nat := 0x901102
abbrev PMB_DEVICE_TABLE : Nat := 0x902001
abbrev PMB_RESULTS : Nat := 0x902002
abbrev PMB_XFER : Nat := 0x902003
abbrev PMB_XFER_RESULT : Nat := 0x902004
abbrev PMB_ERRORS : Nat := 0x902005
abbrev LEVEL_CAP_W : Nat := 0x903001
abbrev LEVEL_TIMER : Nat := 0x903002
abbrev LEVEL_GROUP : Nat := 0x903003
abbrev LEVEL_PEAK_W : Nat := 0x903004
abbrev THROTTLE_IN_W : Nat := 0x903005
abbrev TJ_THROTTLE : Nat := 0x903006
abbrev COOL_ALARM_CAP_W : Nat := 0x903007
abbrev COOL_INLET_CHAN : Nat := 0x903008
abbrev COOL_FLOW_TACH : Nat := 0x903009
abbrev FLOW_MIN : Nat := 0x90300A
abbrev LEAK_CHAN : Nat := 0x90300B
abbrev LEAK_THRESHOLD_V : Nat := 0x90300C
abbrev VALVE_EN : Nat := 0x90300D
abbrev VALVE_PWM : Nat := 0x90300E
abbrev VALVE_TARGET : Nat := 0x90300F
abbrev VALVE_KP : Nat := 0x903010
abbrev VALVE_KI : Nat := 0x903011
abbrev VALVE_MIN_DUTY : Nat := 0x903012
abbrev LEVEL_F : Nat := 0x903101
abbrev LEVEL_P1 : Nat := 0x903102
abbrev LEVEL_ALARMS : Nat := 0x903103
abbrev LEVEL_TICKS_LATE : Nat := 0x903104
abbrev LEVEL_FAST_CLAMPS : Nat := 0x903105
abbrev LEVEL_THROTTLE_TICKS : Nat := 0x903106
abbrev AUDIT_INTERVAL : Nat := 0xA00001
abbrev AUDIT_SUSPECT_FACTOR : Nat := 0xA00002
abbrev AUDIT_RMS_FACTOR : Nat := 0xA00003
abbrev SUSPECT_STEPS : Nat := 0xA00004
abbrev RETIRE_CONFIRMS : Nat := 0xA00005
abbrev AUDITS_DONE : Nat := 0xA00101
abbrev AUDITS_ABANDONED : Nat := 0xA00102
abbrev AUDIT_MISMATCHES : Nat := 0xA00103
abbrev AUDIT_DRIFTS : Nat := 0xA00104
abbrev REPEATS_TRANSIENT : Nat := 0xA00105
abbrev REPEATS_CONFIRMED : Nat := 0xA00106
abbrev SUSPECTS_CLEARED : Nat := 0xA00107
abbrev SUSPECT_RETIREMENTS : Nat := 0xA00108
abbrev ESC_COINCIDENT : Nat := 0xA00109
abbrev SUSPECT_TABLE : Nat := 0xA00201
abbrev AUDIT_TABLE : Nat := 0xA00202
abbrev FOREMAN_TABLE : Nat := 0xA01001
abbrev FOREMAN_QUEUE : Nat := 0xA01002
abbrev FOREMAN_LATE : Nat := 0xA01003
abbrev SPALL_NEWEST : Nat := 0xA10001
abbrev SPALL_OLDEST : Nat := 0xA10002
abbrev SPALL_SELECT : Nat := 0xA10003
abbrev SPALL_RECORD : Nat := 0xA10004
abbrev SPALL_ACK : Nat := 0xA10005
abbrev SPALL_LOST : Nat := 0xA10006
abbrev SPALL_HOST_REGION : Nat := 0xA10007
abbrev SPALL_COLLECTOR : Nat := 0xA10008
abbrev SPALL_FLASH_EN : Nat := 0xA10009
abbrev SPALL_FLASH_NEXT : Nat := 0xA1000A
abbrev FREEZE_MAP : Nat := 0xA20001
abbrev FREEZE_RELEASE : Nat := 0xA20002
abbrev FREEZE_CMD : Nat := 0xA20003
abbrev FREEZE_AT : Nat := 0xA20004
abbrev FREEZE_RESULT : Nat := 0xA20005
abbrev FREEZE_COUNT : Nat := 0xA20006
abbrev FREEZE_IGNORED : Nat := 0xA20007
abbrev FREEZE_LAST : Nat := 0xA20008
abbrev FW_OWNER_SIG_REQUIRED : Nat := 0xB00001
abbrev FW_MANIFEST_DIGEST : Nat := 0xB00002
abbrev FW_MANIFEST : Nat := 0xB00003
abbrev FW_ROLLBACK_MIN : Nat := 0xB00004
abbrev VENDOR_KEY_REVOKED : Nat := 0xB00005
abbrev FW_STAGE : Nat := 0xB01001
abbrev FW_PACKAGE_LENGTH : Nat := 0xB01002
abbrev FW_DATA : Nat := 0xB01003
abbrev FW_RECEIVED : Nat := 0xB01004
abbrev FW_STAGE_STATE : Nat := 0xB01005
abbrev FW_RESULT : Nat := 0xB01006
abbrev FW_ACTIVATE_AT : Nat := 0xB01007
abbrev FW_STAGED_DIGEST : Nat := 0xB01008
abbrev FW_ACTIVATIONS : Nat := 0xB01101
abbrev FW_PIECES_DISCARDED : Nat := 0xB01102
abbrev ATTEST_REQ : Nat := 0xB10001
abbrev ATTEST_RESULT : Nat := 0xB10002
abbrev ATTEST_REPORT : Nat := 0xB10003
abbrev OWNER_KEY : Nat := 0xB20001
abbrev PDX_MAC : Nat := 0xB20002
abbrev PDX_IPV6_ADDR : Nat := 0xB20003
abbrev PDX_IPV6_GATEWAY : Nat := 0xB20004
abbrev PDX_IPV4_ADDR : Nat := 0xB20005
abbrev PDX_SESSION_IDLE_S : Nat := 0xB20006
abbrev MBOX_AUTH_REQUIRED : Nat := 0xB20007
abbrev OWNER_KEY_DIGEST : Nat := 0xB20008
abbrev PDX_IPV4_MASK : Nat := 0xB20009
abbrev PDX_IPV4_GATEWAY : Nat := 0xB2000A
abbrev PDX_FRAMES : Nat := 0xB20101
abbrev PDX_AUTH_DROPPED : Nat := 0xB20102
abbrev PDX_BAD_FRAMES : Nat := 0xB20103
abbrev PDX_FORWARDED : Nat := 0xB20104
abbrev PDX_SESSIONS : Nat := 0xB20105

end Sys2Proof.Machine.PD
end

