-- ==== Sys2Proof/Config.lean ====
section
/-! DEFINITION. Config.lean: what an implementation fixes or the spec leaves open. Every constant is opaque: nothing evaluates it, and a
claim holds whatever it is (DESIGN CHOICE, log 7, 9, 10, 20, 21). -/
namespace Sys2Proof.Config

/-! ## Values the spec leaves open (DESIGN CHOICE, log 7) -/

/-- Payload bits of a NaN that the module writes in a format with m fraction bits, and its sign. -/
opaque nanPayload : Nat → Nat
opaque nanSign : Bool

/-- Element code of format f written at element i of a block or row that is marked whole as not-a-number (R184). -/
opaque markedCode : Nat → Nat → Nat

/-- Sum of FP32 terms whose order or intermediate rounding the rules leave open: tag of the use and the terms' encodings. -/
opaque sumF32 : Nat → List W32 → W32

/-- A function the rules give only to within a bound: tag of the function, argument encodings. -/
opaque fnF32 : Nat → List W32 → W32

/-- Wide results left open: tag, arguments, index of the element. -/
opaque fnNat : Nat → List Nat → Nat → Nat

/-- Bytes left undefined: tag, indices. -/
opaque fnByte : Nat → Nat → Nat → Byte

/-! ## Cryptographic functions (DESIGN CHOICE, log 9) -/

/-- SHA-384 (FIPS 180-4). -/
opaque sha384 : List Byte → List Byte
/-- HMAC-SHA-384: key, message. -/
opaque hmac : List Byte → List Byte → List Byte
/-- HKDF-SHA-384: salt, input key, info; 48 bytes. -/
opaque hkdf : List Byte → List Byte → List Byte → List Byte
/-- ECDSA over brainpoolP384r1 with SHA-384: public point, message, signature. -/
opaque ecdsaOk : List Byte → List Byte → List Byte → Bool
/-- The signature made with the identity key over a message, the i-th made. -/
opaque identitySign : Nat → List Byte → List Byte
/-- The 97-byte string is a point of the curve. -/
opaque onCurve : List Byte → Bool
/-- x-coordinate of the product of a peer's point with the i-th ephemeral key. -/
opaque ecdh : Nat → List Byte → List Byte
/-- The i-th ephemeral public point. -/
opaque ephemeral : Nat → List Byte
/-- The i-th random byte string of n bytes. -/
opaque random : Nat → Nat → List Byte

/-! ## The part's own fused and factory values (DESIGN CHOICE, log 20) -/

opaque serial : W64
opaque mac : List Byte
opaque identityKey : List Byte
opaque identityCert : List Byte
/-- Factory coefficient pair of a bit-column: GAIN, OFFSET by key ((die*5+set)*2048+cell)*536+column. -/
opaque factoryGain : Nat → W16
opaque factoryOffset : Nat → W16
/-- Measured temperature of a factory set at its build, in 1/16 °C, by die*5+set. -/
opaque factoryTemp : Nat → Int
/-- Fused correction of an internal ADC channel: OFS as I16 in 1/16 LSB, GAIN as F32. -/
opaque adcOfs : Nat → W16
opaque adcGain : Nat → W32
/-- The four release public keys in the ROM (R506). -/
opaque vendorKey : Nat → List Byte

/-- The package that the part is supplied with (DESIGN CHOICE, log 21): version, length and body digest by part code. -/
opaque factoryVersion : Nat → Nat
opaque factoryLength : Nat → Nat
opaque factoryDigest : Nat → List Byte

/-! ## Implementation-fixed values (DESIGN CHOICE, log 10, 21) -/

/-- The die holds the value of an entry, for the REGISTERS region of a read-out (R494): die, key. -/
opaque dieHolds : Nat → Nat → Bool
/-- Nominal stack interface rate in MHz. -/
opaque stackMHz : Nat
/-- Measured frequency of a clock domain, in MHz: die and domain. -/
opaque measuredMHz : Nat → Nat → Nat

end Sys2Proof.Config
end

