-- ==== Sys2Proof/Machine/Bytes.lean ====
section
/-! DEFINITION. Machine/Bytes.lean: byte strings and fields. Multi-byte values are little-endian (R9), bit 0 the least significant. -/
namespace Sys2Proof.Machine

/-- Bits [lo + len - 1 : lo] of a number (R9). -/
def bits (n lo len : Nat) : Nat := n / 2 ^ lo % 2 ^ len

/-- Bit i of a number. -/
def bit (n i : Nat) : Bool := n / 2 ^ i % 2 = 1

/-- A Bool as 0 or 1. -/
def b2n (b : Bool) : Nat := if b then 1 else 0

/-- n with bit i at b. -/
def setBit (n i : Nat) (b : Bool) : Nat := n - b2n (bit n i) * 2 ^ i + b2n b * 2 ^ i

/-- The n little-endian bytes of v (R401). -/
def le (n v : Nat) : List Byte :=
  match n with
  | 0 => []
  | n + 1 => BitVec.ofNat 8 v :: le n (v / 256)

/-- The number a little-endian byte string spells. -/
def ofLe : List Byte → Nat
  | [] => 0
  | b :: bs => b.toNat + 256 * ofLe bs

/-- The n big-endian bytes of v. -/
def be (n v : Nat) : List Byte := (le n v).reverse

/-- The number a big-endian byte string spells. -/
def ofBe (bs : List Byte) : Nat := ofLe bs.reverse

/-- Bytes [o, o + n) of a string; bytes past its end are left out. -/
def sub (bs : List Byte) (o n : Nat) : List Byte := (bs.drop o).take n

/-- The little-endian field of n bytes at byte o. -/
def fieldAt (bs : List Byte) (o n : Nat) : Nat := ofLe (sub bs o n)

/-- n zero bytes. -/
def zeros (n : Nat) : List Byte := List.replicate n 0

/-- The string followed by zero bytes up to n bytes, cut at n. -/
def padTo (n : Nat) (bs : List Byte) : List Byte := (bs ++ zeros n).take n

/-- Every byte is zero. -/
def allZero (bs : List Byte) : Bool := bs.all (· = 0)

/-- The two's complement value of an n-bit number. -/
def signed (n v : Nat) : Int := if v % 2 ^ n < 2 ^ (n - 1) then (v % 2 ^ n : Nat) else (v % 2 ^ n : Nat) - (2 ^ n : Nat)

/-- The n-bit two's complement encoding of an integer. -/
def unsigned (n : Nat) (v : Int) : Nat := (v % (2 ^ n : Nat)).toNat

/-- The bytes of an ASCII name. -/
def ascii (s : String) : List Byte := s.toList.map fun c => BitVec.ofNat 8 c.toNat

/-- The byte string cut into strings of n bytes, `fuel` of them at most. -/
def chunks (n : Nat) : Nat → List Byte → List (List Byte)
  | 0, _ => []
  | fuel + 1, bs => if bs.isEmpty then [] else bs.take n :: chunks n fuel (bs.drop n)

/-- The bits of a byte, least significant first. -/
def byteBits (b : Byte) : List Bool := (List.range 8).map fun i => b.getLsbD i

/-- The number that a list of bits spells, first bit most significant. -/
def ofBitsMsb (l : List Bool) : Nat := l.foldl (fun n b => 2 * n + b2n b) 0

/-- The number that a list of bits spells, first bit least significant. -/
def ofBitsLsb : List Bool → Nat
  | [] => 0
  | b :: bs => b2n b + 2 * ofBitsLsb bs

/-- The n bits of v, most significant first. -/
def bitsMsb (n v : Nat) : List Bool := (List.range n).map fun i => bit v (n - 1 - i)

/-- The n bits of v, least significant first. -/
def bitsLsb (n v : Nat) : List Bool := (List.range n).map fun i => bit v i

/-- One bit through the CRC register of R40. -/
def crc16Bit (crc : Nat) (b : Bool) : Nat :=
  let fb := bit crc 15 != b
  let c := crc * 2 % 2 ^ 16
  if fb then c ^^^ 0x1021 else c

/-- The CRC of R40 over bits in transmission order. -/
def crc16 (l : List Bool) : Nat := l.foldl crc16Bit 0xFFFF

/-- One bit through a reflected CRC-32C register, polynomial 0x1EDC6F41. -/
def crc32cBit (crc : Nat) : Nat := if bit crc 0 then crc / 2 ^^^ 0x82F63B78 else crc / 2

def crc32cByte (crc : Nat) (b : Byte) : Nat :=
  let c := crc ^^^ b.toNat
  crc32cBit (crc32cBit (crc32cBit (crc32cBit (crc32cBit (crc32cBit (crc32cBit (crc32cBit c)))))))

/-- CRC-32C (Castagnoli) of a byte string: register all ones, reflected, final inversion. -/
def crc32c (bs : List Byte) : Nat := (bs.foldl crc32cByte 0xFFFFFFFF) ^^^ 0xFFFFFFFF

/-- Population count. -/
def popcount (n w : Nat) : Nat := ((List.range w).filter fun i => bit n i).length

/-- Ceiling division. -/
def ceilDiv (a b : Nat) : Nat := (a + b - 1) / b

/-- The list with element i replaced, unchanged past its end. -/
def setAt {α : Type} (l : List α) (i : Nat) (v : α) : List α := l.set i v

/-- The sum of a list. -/
def total (l : List Nat) : Nat := l.foldl (· + ·) 0

/-- Insertion into a list in rising order of a key, after equal keys. -/
def insertBy {α : Type} (le : α → α → Bool) (x : α) : List α → List α
  | [] => [x]
  | y :: ys => if le y x then y :: insertBy le x ys else x :: y :: ys

/-- Stable insertion sort. -/
def sortBy {α : Type} (le : α → α → Bool) (l : List α) : List α := l.foldl (fun acc x => insertBy le x acc) []

end Sys2Proof.Machine
end

