-- ==== Sys2Proof/Machine/Num.lean ====
section
/-! DEFINITION. Machine/Num.lean: exact values, IEEE encodings and correctly rounded arithmetic (R175-R177, R179). -/
namespace Sys2Proof.Machine

/-- An exact value: a sign and a quotient of naturals, an infinity, or not-a-number. -/
inductive FV where
  | nan
  | inf (neg : Bool)
  | fin (neg : Bool) (n d : Nat)
  deriving DecidableEq, Repr

def FV.zero : FV := .fin false 0 1
def FV.one : FV := .fin false 1 1
def FV.ofNat (n : Nat) : FV := .fin false n 1
def FV.ofInt (i : Int) : FV := .fin (decide (i < 0)) i.natAbs 1
/-- n / d -/
def FV.ratio (n d : Nat) : FV := .fin false n d

def FV.isFinite : FV → Bool
  | .fin _ _ _ => true
  | _ => false

def FV.isNan : FV → Bool
  | .nan => true
  | _ => false

def FV.isZero : FV → Bool
  | .fin _ n _ => n = 0
  | _ => false

def FV.isNeg : FV → Bool
  | .nan => false
  | .inf s => s
  | .fin s n _ => s && n ≠ 0

def FV.neg : FV → FV
  | .nan => .nan
  | .inf s => .inf (!s)
  | .fin s n d => .fin (!s) n d

def FV.abs : FV → FV
  | .nan => .nan
  | .inf _ => .inf false
  | .fin _ n d => .fin false n d

/-- v × 2^k -/
def FV.scale : FV → Int → FV
  | .fin s n d, .ofNat k => .fin s (n * 2 ^ k) d
  | .fin s n d, .negSucc k => .fin s n (d * 2 ^ (k + 1))
  | v, _ => v

/-- Exact sum; an exact zero from terms of opposite sign is +0. -/
def FV.add : FV → FV → FV
  | .nan, _ => .nan
  | _, .nan => .nan
  | .inf a, .inf b => if a = b then .inf a else .nan
  | .inf a, _ => .inf a
  | _, .inf b => .inf b
  | .fin a n d, .fin b m e =>
    let x := n * e
    let y := m * d
    if a = b then .fin a (x + y) (d * e)
    else if x = y then .fin false 0 1
    else if y < x then .fin a (x - y) (d * e)
    else .fin b (y - x) (d * e)

def FV.sub (x y : FV) : FV := x.add y.neg

def FV.mul : FV → FV → FV
  | .nan, _ => .nan
  | _, .nan => .nan
  | .inf a, .inf b => .inf (a != b)
  | .inf a, .fin b m _ => if m = 0 then .nan else .inf (a != b)
  | .fin a n _, .inf b => if n = 0 then .nan else .inf (a != b)
  | .fin a n d, .fin b m e => .fin (a != b) (n * m) (d * e)

def FV.div : FV → FV → FV
  | .nan, _ => .nan
  | _, .nan => .nan
  | .inf _, .inf _ => .nan
  | .inf a, .fin b _ _ => .inf (a != b)
  | .fin a _ _, .inf b => .fin (a != b) 0 1
  | .fin a n d, .fin b m e =>
    if m = 0 then (if n = 0 then .nan else .inf (a != b)) else .fin (a != b) (n * e) (d * m)

/-- x < y; false when either is not-a-number. -/
def FV.lt : FV → FV → Bool
  | .nan, _ => false
  | _, .nan => false
  | .inf a, .inf b => a && !b
  | .inf a, _ => a
  | _, .inf b => !b
  | .fin a n d, .fin b m e =>
    match a && n ≠ 0, b && m ≠ 0 with
    | false, false => n * e < m * d
    | true, true => m * d < n * e
    | true, false => true
    | false, true => false

/-- x = y as values; false when either is not-a-number. -/
def FV.eqv : FV → FV → Bool
  | .fin a n d, .fin b m e => n * e = m * d && (n = 0 || a = b)
  | .inf a, .inf b => a = b
  | _, _ => false

def FV.le (x y : FV) : Bool := x.lt y || x.eqv y
def FV.max (x y : FV) : FV := if x.lt y then y else x
def FV.min (x y : FV) : FV := if y.lt x then y else x

/-- floor(log2 (n / d)) for n, d > 0. -/
def ilog2 (n d : Nat) : Int :=
  let k : Int := (Nat.log2 n : Int) - (Nat.log2 d : Int)
  -- 2^(k-1) < n/d < 2^(k+1)
  match k with
  | .ofNat j => if d * 2 ^ j ≤ n then k else k - 1
  | .negSucc j => if d ≤ n * 2 ^ (j + 1) then k else k - 1

/-- n / d to the nearest natural, ties to even. -/
def rne (n d : Nat) : Nat :=
  let q := n / d
  let r := n % d
  if 2 * r < d then q else if d < 2 * r then q + 1 else q + q % 2

/-- (n / d) / 2^e to the nearest natural, ties to even. -/
def rneAt (n d : Nat) : Int → Nat
  | .ofNat k => rne n (d * 2 ^ k)
  | .negSucc k => rne (n * 2 ^ (k + 1)) d

/-- floor((n / d) / 2^e), and whether it is exact. -/
def floorAt (n d : Nat) : Int → Nat × Bool
  | .ofNat k => (n / (d * 2 ^ k), n % (d * 2 ^ k) = 0)
  | .negSucc k => (n * 2 ^ (k + 1) / d, n * 2 ^ (k + 1) % d = 0)

/-- Rounding to an integer: to nearest, ties to even, of a finite value. -/
def FV.toInt : FV → Int
  | .fin s n d => if s then -(rne n d : Int) else (rne n d : Int)
  | _ => 0

/-- A grid of m fraction bits with smallest exponent emin: the code (exponent and fraction fields) nearest to n / d, ties to even. -/
def gridCode (m : Nat) (emin : Int) (n d : Nat) : Nat :=
  if n = 0 then 0 else
  let e := max (ilog2 n d) emin
  ((e - emin).toNat) * 2 ^ m + rneAt n d (e - m)

/-- The value of a grid code. -/
def gridValue (m : Nat) (emin : Int) (s : Bool) (code : Nat) : FV :=
  let x := code / 2 ^ m
  let f := code % 2 ^ m
  if x = 0 then (FV.fin s f 1).scale (emin - m) else (FV.fin s (2 ^ m + f) 1).scale (emin - m + ((x : Int) - 1))

/-- An IEEE 754 binary format by its exponent and fraction bits (R177). -/
structure Ieee where
  eb : Nat
  mb : Nat
  deriving DecidableEq, Repr

def Ieee.emin (f : Ieee) : Int := 2 - (2 ^ (f.eb - 1) : Nat)
def Ieee.infCode (f : Ieee) : Nat := (2 ^ f.eb - 1) * 2 ^ f.mb

def fp16 : Ieee := ⟨5, 10⟩
def bf16 : Ieee := ⟨8, 7⟩
def fp32 : Ieee := ⟨8, 23⟩
def fp64 : Ieee := ⟨11, 52⟩

/-- The value an encoding holds. -/
def Ieee.decode (f : Ieee) (w : Nat) : FV :=
  let s := bit w (f.eb + f.mb)
  let c := w % 2 ^ (f.eb + f.mb)
  if c = f.infCode then .inf s
  else if f.infCode < c then .nan
  else gridValue f.mb f.emin s c

/-- A NaN's encoding: any pattern of the format that is a NaN (DESIGN CHOICE, log 7). -/
def Ieee.nanCode (f : Ieee) : Nat :=
  b2n Config.nanSign * 2 ^ (f.eb + f.mb) + f.infCode + 1 + Config.nanPayload f.mb % (2 ^ f.mb - 1)

/-- The encoding nearest to a value, ties to even; beyond the largest finite value an infinity. -/
def Ieee.encode (f : Ieee) : FV → Nat
  | .nan => f.nanCode
  | .inf s => b2n s * 2 ^ (f.eb + f.mb) + f.infCode
  | .fin s n d => b2n s * 2 ^ (f.eb + f.mb) + min (gridCode f.mb f.emin n d) f.infCode

/-- The value rounded once to the format. -/
def Ieee.round (f : Ieee) (v : FV) : FV :=
  match v with
  | .fin s n d => let c := gridCode f.mb f.emin n d
    if f.infCode ≤ c then .inf s else gridValue f.mb f.emin s c
  | v => v

/-- The smallest encoding of a positive finite value that is not below it (rounding upward, R180). -/
def Ieee.encodeUp (f : Ieee) (n d : Nat) : Nat :=
  if n = 0 then 0 else
  let e := max (ilog2 n d) f.emin
  let (q, exact) := floorAt n d (e - f.mb)
  ((e - f.emin).toNat) * 2 ^ f.mb + q + (if exact then 0 else 1)

/-- The largest integer whose square does not exceed n, built from bit b down. -/
def isqrtAux (n : Nat) : Nat → Nat → Nat
  | 0, r => if (r + 1) * (r + 1) ≤ n then r + 1 else r
  | b + 1, r => let c := r + 2 ^ (b + 1)
    isqrtAux n b (if c * c ≤ n then c else r)

def isqrt (n : Nat) : Nat := isqrtAux n (Nat.log2 n / 2 + 1) 0

/-- A value that rounds like the square root in every format of up to 64 fraction bits: 70 or more bits and a sticky bit. -/
def FV.sqrt : FV → FV
  | .nan => .nan
  | .inf s => if s then .nan else .inf false
  | .fin s n d =>
    if n = 0 then .fin s 0 1
    else if s then .nan
    else
      let p : Nat := (160 - ilog2 n d).toNat / 2
      let q := n * 4 ^ p
      let r := isqrt (q / d)
      let exact := r * r * d = q
      .fin false (2 * r + b2n (!exact)) (2 ^ (p + 1))

/-! ## FP32 and FP64 arithmetic on encodings: one rounding an operation -/

def f32 (w : W32) : FV := fp32.decode w.toNat
def toF32 (v : FV) : W32 := BitVec.ofNat 32 (fp32.encode v)
def f64 (w : W64) : FV := fp64.decode w.toNat
def toF64 (v : FV) : W64 := BitVec.ofNat 64 (fp64.encode v)

def FV.r32 (v : FV) : FV := fp32.round v
def FV.r64 (v : FV) : FV := fp64.round v

/-- FP32 operations on values: the exact result rounded once. -/
def add32 (x y : FV) : FV := (x.add y).r32
def sub32 (x y : FV) : FV := (x.sub y).r32
def mul32 (x y : FV) : FV := (x.mul y).r32
def div32 (x y : FV) : FV := (x.div y).r32
def sqrt32 (x : FV) : FV := x.sqrt.r32
def add64 (x y : FV) : FV := (x.add y).r64
def mul64 (x y : FV) : FV := (x.mul y).r64
def div64 (x y : FV) : FV := (x.div y).r64

/-- Sum in list order, rounded after each addition. -/
def sum64 (l : List FV) : FV := l.foldl add64 .zero
def sum32 (l : List FV) : FV := l.foldl add32 .zero

/-- FP32 encoding classes. -/
def f32Finite (w : Nat) : Bool := (fp32.decode w).isFinite
def f64Finite (w : Nat) : Bool := (fp64.decode w).isFinite

end Sys2Proof.Machine
end

