-- ==== Sys2Proof/Machine/State.lean ====
section
/-! DEFINITION. Machine/State.lean: the state of the block as plain data, unit by unit, and the state right after reset.
A field's default is its reset value; fields for which the spec gives none are named in log entry 2. Sparse tables are lists of (key, value)
in rising key order with no entry equal to what an unlisted key reads as (Machine/Kv.lean). -/
namespace Sys2Proof.Machine

/-- Why the block stops with a fault. -/
inductive Fault where
  /-- An access to a BAR2 offset at or beyond 64 GiB, which the spec says does not exist (R352). Raised by BAR2_WRITE and BAR2_READ. Safe:
      the model stops where no such access can reach the part. -/
  | outsideBar2
  deriving DecidableEq, Repr

/-- Why the block refuses a command. -/
inductive Refusal where
  /-- A command that has no meaning yet. Raised by Dispatch only. Safe: nothing can be proved of a run past it. -/
  | notModelled (mnemonic : String)
  deriving DecidableEq, Repr

/-- A dictionary value: a scalar by its little-endian encoding read as a number, octets, or a table by its rows of encoded columns (R401). -/
inductive PdVal where
  | num (n : Nat)
  | bytes (b : List Byte)
  | table (rows : List (List Nat))
  deriving DecidableEq, Repr

/-- The module states, in DEVICE_STATE order (R455). -/
inductive Mode where
  | off | reset | boot | calibrate | held | armed | run | drain | frozen | coast | fault | loader
  deriving DecidableEq, Repr

/-- What leaves the module, in the order in which it leaves. -/
inductive Out where
  /-- MSI-X message on an endpoint (R389-R391). -/
  | msix (ep : Ep) (vector : Nat)
  /-- PDX response or forwarded frame on its transport (R416). -/
  | pdx (path : Path) (bytes : List Byte)
  /-- One course frame on COURSE_OUT, bit 1 sent at the head (R56). -/
  | courseOut (bits : List Bool)
  /-- A pulse on COURSE_AUX (R412). -/
  | courseAux
  /-- One flit sent on a Kenlink port. -/
  | kenlink (port : Port) (flit : List Byte)
  /-- Bytes written into a host region (R395). -/
  | hostWrite (region : Nat) (offset : Nat) (bytes : List Byte)
  /-- Completion of a BAR2 read; none for Completer Abort (R353). -/
  | bar2 (ep : Ep) (data : Option (List Byte))
  /-- One FROUT frame, header first, SYNC and CRC included (R497). -/
  | frout (bytes : List Byte)
  /-- An answer on the SGMII port outside PDX (R418). -/
  | sgmii (bytes : List Byte)
  /-- A PMBus transaction (R437). -/
  | pmbus (bytes : List Byte)
  deriving DecidableEq, Repr

/- ## Course time base (02) -/

/-- PD 0x2010.02 COURSE_STATE. -/
inductive CourseState where
  | unlocked | acquiring | locked | holdover | lost
  deriving DecidableEq, Repr

/-- The course master's run of frames (R56): the next number, the period of the interval in progress and the timestamp at which the next frame
starts. -/
structure Master where
  nextNumber : BitVec 48
  period : Nat
  start : Nat
  deriving DecidableEq, Repr

/-- A stretch of the phase oscillator (R43-R45): from hub cycle `start` at position `pos` (course counter and accumulator as one number) the
increment is `freq`, and a slew adds up to -`slewE` over the first `slewN` cycles. -/
structure Seg where
  start : Nat
  pos : Nat
  freq : Nat
  slewE : Int
  slewN : Nat
  deriving DecidableEq, Repr

structure Course where
  /-- course counter (R43) -/
  count : BitVec 48 := 0
  /-- phase accumulator (R43) -/
  acc : BitVec 48 := 0
  st : CourseState := .unlocked
  /-- P in hub cycles, with 16 fraction bits (R44) -/
  period : Nat := 0
  /-- the oscillator's stretches, newest first, as far back as a mark can lie; none while published time stands -/
  segs : List Seg := []
  /-- the 1.0 GHz timestamp counter of R42 -/
  now : Nat := 0
  /-- number and mark of the last used mark (R44) -/
  lastUsed : Option (BitVec 48 × Nat) := none
  /-- the run of ACQUIRING, newest first: number and mark (R48) -/
  run : List (BitVec 48 × Nat) := []
  /-- the discordant frames that number one another consecutively, newest first (R46) -/
  series : List (BitVec 48 × Nat) := []
  /-- out-of-window marks since the last used mark (R47) -/
  oow : Nat := 0
  /-- the last wrap that has been marked or counted as unmarked (R49) -/
  judged : BitVec 48 := 0
  /-- a configuration has been committed since RESET (R52) -/
  configured : Bool := false
  master : Option Master := none
  deriving DecidableEq, Repr

/-- Event kinds of R55; the vote-deadline kind holds D_v, D_b (R287) and the two record deadlines of R314 and R315 (DEDUCED, log 8). -/
inductive EventKind where
  | contribution | vote | broadcast | twinShard | gather | commit | swap | firmware | measure | freeze
  deriving DecidableEq, Repr

structure Event where
  time : CTime
  kind : EventKind
  /-- repeat interval in courses, 0 for once -/
  interval : Nat
  /-- the sampling group of a measurement trigger; the decision's VOID bit of a commit -/
  owner : Nat
  deriving DecidableEq, Repr

/- ## Streams, beds and groups (03, 08) -/

/-- A 640-bit bed with its flags (R213, R215, R216). -/
structure Bed where
  b : BitVec 640 := 0
  inexact : Bool := false
  overflow : Bool := false
  deriving DecidableEq, Repr

/-- PD 0x3101.02 STREAM_STATE. -/
inductive StreamState where
  | undefined | idle | active | blocked | halted | paused
  deriving DecidableEq, Repr

/-- An open accumulation group (R84, R226). -/
structure Group where
  num : Nat
  layer : Nat
  dstTile : Nat
  /-- elements of the extent (R224) -/
  extent : Nat
  step : Nat
  microBatch : Nat
  /-- bytes of bed spill pool reserved at OPEN (R225) -/
  pool : Nat
  /-- beds by element of the extent -/
  beds : List (Nat × Bed)
  deriving DecidableEq, Repr

/-- A descriptor that has entered its station and is not finished (R82). -/
structure Entered where
  index : W32
  desc : BitVec 512
  /-- the contributions its strikes have promoted so far, by element (R142) -/
  beds : List (Nat × Bed)
  /-- it contributes to its group, not to beds of its own (R78, DEDUCED, log 22) -/
  grouped : Bool
  /-- its result is being joined (R228) -/
  joining : Bool
  deriving DecidableEq, Repr

/-- The failing descriptor of a halt that waits for earlier ones (R88). -/
structure Failing where
  index : W32
  status : Byte
  tilesDone : Nat
  deriving DecidableEq, Repr

structure Stream where
  st : StreamState := .undefined
  head : W32 := 0
  tail : W32 := 0
  error : Byte := 0
  errIndex : W32 := 0
  tilesDone : Nat := 0
  blockedOn : W32 := 0
  entered : List Entered := []
  /-- the descriptor at the front, read and checked once, that waits under R82 or for its place (R104, R225) -/
  front : Option (BitVec 512) := none
  /-- the wait of the front descriptor has been counted (R104, R225) -/
  counted : Bool := false
  failing : Option Failing := none
  groups : List Group := []
  /-- the groups open in the entry view (R544) -/
  entryView : BitVec 16 := 0
  /-- the internal ring of a plan-fed stream, by slot (R72) -/
  ring : List (Nat × BitVec 512) := []
  deriving DecidableEq, Repr

/- ## Plan and placement (04) -/

/-- A layer record (R94). -/
structure Layer where
  kind : Nat
  wFormat : Nat
  aFormat : Nat
  rowGroup : Nat
  doubleStrike : Nat
  pin : Bool
  noCkpt : Bool
  k : Nat
  n : Nat
  weight : Nat
  groutG : Nat
  deriving DecidableEq, Repr

/-- A tensor record (R95). -/
structure Tensor where
  id : Nat
  format : Nat
  cls : Nat
  home : Nat
  wgrad : Bool
  owner : Nat
  rows : Nat
  cols : Nat
  region : Nat
  deriving DecidableEq, Repr

/-- A stream definition (R541). -/
structure StreamDef where
  station : Nat
  hostFed : Bool
  ep0 : Bool
  ep1 : Bool
  ringCode : Nat
  priority : Nat
  groups : Nat
  deriving DecidableEq, Repr

/-- A schedule entry (R96). -/
structure Sched where
  micro : Nat
  backward : Bool
  first : Nat
  last : Nat
  deriving DecidableEq, Repr

structure Plan where
  mode : Nat
  microTokens : Nat
  layers : List Layer
  tensors : List Tensor
  streams : List StreamDef
  sched : List Sched
  ckptRegion : Nat
  digest : List Byte
  /-- UPD_LAYER_TABLE as taken at this load (R322) -/
  rules : List (List Nat)
  deriving DecidableEq, Repr

/-- One row of PLAN_FAULTS: code, the layer, tensor or stream concerned, the field (R97). -/
structure PlanFault where
  code : Nat
  obj : Nat
  field : Nat
  deriving DecidableEq, Repr

/-- A column group in its cells: replica, column slice, section, die and the cells of its row slices in order (R98). -/
structure ColGroup where
  replica : Nat
  slice : Nat
  sect : Nat
  die : Nat
  cells : List Nat
  deriving DecidableEq, Repr

/-- An array layer's place on a leaf set (R98; leaf 0 A, 1 B, 2 both). -/
structure LayerPlace where
  layer : Nat
  leaf : Nat
  wFormat : Nat
  sections : Nat
  replicas : Nat
  kslices : Nat
  nslices : Nat
  groups : List ColGroup
  deriving DecidableEq, Repr

/-- Where a tensor lives: memory store (or host region with `host`), byte offset in it, bytes from tile to tile (R109). -/
structure Home where
  tensor : Nat
  companion : Bool
  host : Bool
  store : Nat
  offset : Nat
  stride : Nat
  deriving DecidableEq, Repr

/-- One operation of the array sequence (R102). -/
structure SeqOp where
  layer : Nat
  micro : Nat
  leaf : Nat
  sect : Nat
  recompute : Bool
  deriving DecidableEq, Repr

structure Placement where
  mode : Nat
  layers : List LayerPlace
  /-- gradient die, station, first and last quarter block (R107) -/
  stations : List (Nat × Nat × Nat × Nat)
  homes : List Home
  /-- layer and its update die (R110) -/
  updDie : List (Nat × Nat)
  /-- checkpointed layer and whether it is kept in host memory (R111) -/
  ckpts : List (Nat × Bool)
  ckptK : Nat
  sequence : List SeqOp
  /-- host-fed stream, store and byte offset of its ring (R72) -/
  rings : List (Nat × Nat × Nat)
  triggers : Nat
  deriving DecidableEq, Repr

/- ## Arrays (05) -/

/-- One strike a cell still owes (R123): descriptor, token, first row and rows of the cell, phase, and what it replaces. -/
structure StrikePos where
  stream : Nat
  index : W32
  token : Nat
  row : Nat
  rows : Nat
  phase : Nat
  /-- replaces part of a discarded 256-row strike (R130) -/
  half : Bool
  /-- the strike's one retry (R135) -/
  retried : Bool
  /-- an added repetition of double strike (R140) -/
  extra : Bool
  /-- substituted digitally (R135) -/
  digital : Bool
  deriving DecidableEq, Repr

/-- The narrow adders of one run (R141): the run's descriptor, token, first row, rows, whether it is the upper run of an A8 group, and the
sum of each data bit-column. -/
structure NarrowRun where
  stream : Nat
  index : W32
  token : Nat
  row : Nat
  rows : Nat
  upper : Bool
  sums : List Int
  deriving DecidableEq, Repr

/-- An analogue cell: stored bits by row, scale registers, spare map, and its sequencer (R117-R125, R137). -/
structure Cell where
  rows : List (Nat × BitVec 536) := []
  scales : List (Nat × W16) := []
  /-- spare-map entries that are not zero, by spare number (R137) -/
  spare : List (Nat × W16) := []
  todo : List StrikePos := []
  runs : List NarrowRun := []
  deriving DecidableEq, Repr

/-- The operation that strikes now (R144). -/
structure ArrayOp where
  layer : Nat
  micro : Nat
  leaf : Nat
  sect : Nat
  recompute : Bool
  /-- consecutive section of a widened layer on its current cells (R116) -/
  part : Nat
  deriving DecidableEq, Repr

/-- Row-group mode of an AUTO layer (R105, R106): over-range and all pair conversions, set and all input bits, of the open step and of the
committed steps of the window (newest first, over-range and all); the last committed step's share and density. -/
structure RowMode where
  layer : Nat
  dense : Bool := false
  overs : Nat := 0
  pairs : Nat := 0
  bits : Nat := 0
  inputs : Nat := 0
  window : List (Nat × Nat) := []
  lastBits : Nat := 0
  lastInputs : Nat := 0
  deriving DecidableEq, Repr

/-- Codes of a half already struck, for the pair it makes with the other half (R105): cell, stream, index, token, first row of the pair, phase,
and the codes. -/
structure HalfCodes where
  cell : Nat
  stream : Nat
  index : W32
  token : Nat
  row : Nat
  phase : Nat
  codes : List Nat
  deriving DecidableEq, Repr

/-- An input tile in the lintel: layer and micro-batch it is an input of, tile of the input tensor, BF16 image (R186). -/
structure Lintel where
  layer : Nat
  micro : Nat
  tile : Nat
  image : List Byte
  deriving DecidableEq, Repr

structure Arrays where
  /-- next operation of the array sequence -/
  seqPos : Nat := 0
  op : Option ArrayOp := none
  /-- what leaf A (0), leaf B (1) and, in RESIDENT placement, each layer's own cells (2 + layer) were last loaded with, by a key of layer,
      section and format; 0 for nothing (R102, R147) -/
  loaded : List (Nat × Nat) := []
  /-- rows still to be written, by cell and row (R147) -/
  writes : List (Nat × Nat) := []
  rowModes : List RowMode := []
  halves : List HalfCodes := []
  lintel : List Lintel := []
  deriving DecidableEq, Repr

/- ## Calibration (06) -/

/-- A coefficient pair (R151). -/
structure Pair where
  gain : W16
  offset : BitVec 16
  deriving DecidableEq, Repr

/-- State of a temperature set: 0 GOOD, 1 STALE, 2 RESTORED, 3 BAD; mean T16 of its last run; refreshes; refreshed at all (R161, R172). -/
structure SetInfo where
  state : Nat := 0
  temp : Int := 0
  refreshes : Nat := 0
  refreshed : Bool := false
  deriving DecidableEq, Repr

structure DieCal where
  /-- T16 at which the trims in force were taken (R155) -/
  applied : Int := 0
  /-- T16 at the end of the last completed run (R164) -/
  tLast : Int := 0
  /-- kind of the last run: 0 none, 1 pattern, 2 resident -/
  lastRun : Nat := 0
  nearest : Nat := 0
  failed : Nat := 0
  offsetOnly : Nat := 0
  /-- sum and number of the T16 read over the run (R160) -/
  tSum : Int := 0
  tCount : Nat := 0
  /-- a resident run is in progress, and the cells that have a complete probe set (R163) -/
  running : Bool := false
  done : List Nat := []
  /-- new pairs await a swap (R163) -/
  awaiting : Bool := false
  deriving DecidableEq, Repr

/-- The idle trim banks (R166, R167). -/
inductive IdleBank where
  | free | settling | settled | queued
  deriving DecidableEq, Repr

structure Cal where
  /-- stored pairs that differ from the factory's, key ((die*5+set)*2048+cell)*536+column (R153, R171) -/
  sets : List (Nat × Pair) := []
  /-- by die*5+set -/
  info : List (Nat × SetInfo) := []
  /-- pairs of the last run, key (die*2048+cell)*536+column (R154) -/
  measured : List (Nat × Pair) := []
  /-- pairs in force in the two banks, same key (R166) -/
  bank0 : List (Nat × Pair) := []
  bank1 : List (Nat × Pair) := []
  idle : IdleBank := .free
  dies : List (Nat × DieCal) := []
  /-- the next pattern wave, and the run is a CAL_RUN 1 (R156, R165) -/
  wave : Nat := 0
  fromHeld : Bool := false
  /-- refreshed sets not yet in flash: die, set, data sectors written (R171, R172) -/
  flashDue : List (Nat × Nat × Bool) := []
  deriving DecidableEq, Repr

/- ## Numerics (07) -/

/-- A layer's numerics state (R194-R209); F32 values by their encoding. -/
structure LayerNum where
  rung : Nat := 0
  clean : Nat := 0
  /-- Gauge ring, oldest first, each 32 bins (R204) -/
  ring : List (List Nat) := []
  /-- the step's histogram so far -/
  last : List Nat := []
  gradFormat : Nat := 0x10
  /-- Plumb widening in force to the end of the step (R203) -/
  plumbFormat : Option Nat := none
  emaFwd : W32 := 0
  emaGrad : W32 := 0
  countFwd : Nat := 0
  countGrad : Nat := 0
  sumFwd : W32 := 0
  sumGrad : W32 := 0
  cntFwd : Nat := 0
  cntGrad : Nat := 0
  /-- channel scores by channel (R193) -/
  scores : List (Nat × W32) := []
  set : List Nat := []
  /-- a_c of the step by channel (R193) -/
  stagedA : List (Nat × W32) := []
  excess : Nat := 0
  /-- the same at the next lower rung, and the elements it was measured over (R200) -/
  excessLow : Nat := 0
  quantisedLow : Nat := 0
  flagged : Bool := false
  quantised : Nat := 0
  /-- an overflow or Plumb event fell in this step, and every quantisation would have held one rung lower (R200) -/
  event : Bool := false
  lowerHeld : Bool := true
  /-- widened by an event in this step (R201) -/
  widened : Bool := false
  /-- repeats of the operation in progress (R196) -/
  repeats : Nat := 0
  deriving DecidableEq, Repr

/-- One row of WIDEN_LOG or PLUMB_LOG: step, micro-batch, layer, and three further columns. -/
abbrev LogRow := List Nat

/- ## Joints (08) -/

/-- Mode of a joint by layer and kind, the step's smallest ratio and the consecutive clean steps (R235). -/
structure JointMode where
  layer : Nat
  kind : Nat
  exact : Bool
  minRho : Option W32
  lastRho : Option W32
  clean : Nat
  deriving DecidableEq, Repr

/-- A part of a joint that has arrived: its beds by element and its rounded values (R229, R232). -/
structure JointPart where
  layer : Nat
  kind : Nat
  tileRow : Nat
  tileCol : Nat
  part : Nat
  rows : Nat
  cols : Nat
  micro : Nat
  exact : Bool
  beds : List (Nat × Bed)
  deriving DecidableEq, Repr

/-- A destination tile whose parts are to be joined: its tensor and tile, its shape, what its header carries, its parts (R228). -/
structure JointWait where
  layer : Nat
  kind : Nat
  tensor : Nat
  tile : Nat
  tileRow : Nat
  tileCol : Nat
  rows : Nat
  cols : Nat
  seqPos : Nat
  /-- micro-batch of the tile's header, and of the joint hash (R231) -/
  micro : Nat
  hashMicro : Nat
  parts : Nat
  exact : Bool
  deriving DecidableEq, Repr

/- ## Backward pass (09) -/

/-- A frog run (R263): the layer, micro-batch and head that wrote it, its die, whether it is spilled, its entries. -/
structure FrogRun where
  layer : Nat
  micro : Nat
  tileRow : Nat
  head : Nat
  die : Nat
  spilled : Bool
  retained : Bool
  entries : List (W32 × W32)
  /-- a derivative has read it -/
  used : Bool
  deriving DecidableEq, Repr

/-- A kept operand (R250): role 0 input, 1 second operand, 2 mask, 3 output O; its tensor and the tile image that is kept. -/
structure Kept where
  layer : Nat
  micro : Nat
  role : Nat
  tile : Nat
  image : List Byte
  deriving DecidableEq, Repr

/-- An array operation of a recompute set under way: its forward descriptor and the contributions struck so far (R252). -/
structure Replay where
  layer : Nat
  micro : Nat
  stream : Nat
  index : W32
  desc : BitVec 512
  beds : List (Nat × Bed)
  deriving DecidableEq, Repr

/-- A copy of a forward descriptor of the step: stream, index, micro-batch, descriptor, and the rung at its end (R252, R253). -/
structure Fwd where
  stream : Nat
  index : W32
  micro : Nat
  desc : BitVec 512
  rung : Nat
  deriving DecidableEq, Repr

structure Backward where
  frog : List FrogRun := []
  kept : List Kept := []
  forward : List Fwd := []
  replays : List Replay := []
  /-- operations of a recompute set that have been replayed: layer, micro-batch -/
  replayed : List (Nat × Nat) := []
  /-- segments recomputed: micro-batch, segment -/
  recomputed : List (Nat × Nat) := []
  /-- host-held checkpoints landed or in flight in the prefetch area: micro-batch, layer (R254) -/
  prefetched : List (Nat × Nat) := []
  /-- tiles emitted so far by tensor and micro-batch, for the Plumb (R202) -/
  emitted : List (Nat × Nat × List Nat) := []
  /-- gain beds by layer: column for gamma, 2^20 + column for beta (R262) -/
  gain : List (Nat × List (Nat × Bed)) := []
  deriving DecidableEq, Repr

/- ## Training step (10) -/

inductive Phase where
  | forward | backward | reduce | vote | update | writeback
  deriving DecidableEq, Repr

/-- A phase of the open attempt (R278). -/
structure PhaseRec where
  phase : Phase
  start : CTime
  stop : Option CTime
  deriving DecidableEq, Repr

/-- A VERDICT held from a child port: port, VOID, reasons, modules, excluded, origin (R285). -/
structure Verdict where
  port : Nat
  void : Bool
  reasons : Nat
  modules : Nat
  excluded : Nat
  origin : Nat
  deriving DecidableEq, Repr

/-- The decision known to this module: VOID, reasons, modules, origin, commit time (R284, R286). -/
structure Decision where
  void : Bool
  reasons : Nat
  modules : Nat
  excluded : Nat
  origin : Nat
  time : CTime
  deriving DecidableEq, Repr

structure Step where
  opened : Bool := false
  /-- an attempt is under way: its deadlines are derived and its verdict is owed (R303) -/
  attempt : Bool := false
  /-- deadlines of the attempt that the queue refused as PAST and that act at once (DEDUCED, log 15) -/
  due : List EventKind := []
  /-- T of the attempt, and C (R303) -/
  tBase : CTime := 0
  contribution : CTime := 0
  /-- the first attempt after ARMED has not opened yet -/
  firstAfterArm : Bool := true
  /-- the local verdict is formed; its reasons when it is VOID (R282) -/
  verdictFormed : Bool := false
  verdictReasons : Nat := 0
  /-- this node has sent its VERDICT (R285) -/
  sent : Bool := false
  children : List Verdict := []
  /-- origin of the first VOID seen -/
  origin : Option Nat := none
  decision : Option Decision := none
  /-- C has passed for this attempt (R304) -/
  deadlinePassed : Bool := false
  phases : List PhaseRec := []
  /-- UPDATE and WRITEBACK of the last commit under way (R276) -/
  updating : Bool := false
  writing : Bool := false
  /-- WRITEBACK of the last commit waits for copies and gather records -/
  boundary : Bool := true
  /-- hold at the verdict or at once for an error of R292, R293, R350, R480 -/
  holdAtVerdict : Bool := false
  /-- the same, for the next attempt (R350) -/
  nextHold : Bool := false
  /-- reason for the next step (R114, R350) -/
  nextReasons : Nat := 0
  /-- HIST_SAVE and UPD_IMAGE save wait for the boundary (R209, R335) -/
  histDue : Bool := false
  imageDue : Bool := false
  /-- STEP_PHASE_TABLE and STEP_VOID_LOG, newest last (R278, R294) -/
  phaseTable : List (List Nat) := []
  voidLog : List (List Nat) := []
  /-- EXCH_STEP_SAMPLES as it stood when the step opened (R302) -/
  samples : Nat := 0
  /-- micro-batches whose BACKWARD completed, by layer (R302) -/
  backwardDone : List (Nat × Nat) := []
  deriving DecidableEq, Repr

/- ## Exchange (11) -/

/-- An accepted exchange record (R298). -/
structure ExchRec where
  kind : Nat
  layer : Nat
  pane : Nat
  sender : Nat
  samples : Nat
  carried : Bool
  body : List Byte
  deriving DecidableEq, Repr

/-- The reduced gradient of an owned pane with its absent rows (R308). -/
structure Shard where
  layer : Nat
  pane : Nat
  g : List W32
  absent : List Nat
  deriving DecidableEq, Repr

/-- A contested pane: suspect side 0 own, 1 twin's, or none (R316). -/
structure Contested where
  layer : Nat
  pane : Nat
  suspect : Option Nat
  history : List W64
  deriving DecidableEq, Repr

structure Exchange where
  accepted : List ExchRec := []
  /-- senders whose EXCLUDE was accepted, and this module's own exclusion (R310) -/
  excluded : List Nat := []
  selfExcluded : Bool := false
  /-- every EXCLUDE record left before C -/
  excludeSent : Bool := false
  /-- layers whose records were sent in this attempt (R298, R304) -/
  sentLayers : List Nat := []
  /-- own records named by LATE notices in time: layer, pane, kind (R306) -/
  missed : List (Nat × Nat × Nat) := []
  /-- stretchers by layer * 2^40 + element (R300) -/
  stretch : List (Nat × BitVec 320) := []
  /-- committed samples since the layer's last send that was not carried (R302) -/
  accum : List (Nat × Nat) := []
  /-- carried samples by layer * 16 + kind (R307) -/
  carriedSamples : List (Nat × Nat) := []
  shards : List Shard := []
  /-- proposals accepted for outlier sets: layer, sender, channels (R313) -/
  proposals : List (Nat × Nat × List Nat) := []
  unions : List (Nat × List Nat) := []
  /-- GATHER records received for the last commit: layer, pane, kind, sender (R312) -/
  gathered : List (Nat × Nat × Nat) := []
  /-- GATHER records awaited: layer, pane, kind -/
  awaited : List (Nat × Nat × Nat) := []
  /-- IN tiles received in this attempt: tensor, tile (R311) -/
  stageIn : List (Nat × Nat) := []
  /-- twin's shards and deltas received (R315, R317) -/
  twinShards : List Shard := []
  twinDeltas : List Shard := []
  /-- own deltas waiting for the twin's: layer, pane, d -/
  ownDeltas : List Shard := []
  ratios : List (Nat × Nat × W64) := []
  /-- consecutive disagreeing attempts by pane: layer, pane, count (R316) -/
  disagree : List (Nat × Nat × Nat) := []
  contested : List Contested := []
  deriving DecidableEq, Repr

/- ## Update (12) -/

/-- Outcome of an inverse root (R327). -/
inductive RootOutcome where
  | first | damped | kept | diagonal | zero
  deriving DecidableEq, Repr

/-- A root installed or staged: the matrix and its damping. -/
structure Root where
  x : List W32
  eps : W32
  deriving DecidableEq, Repr

/-- An owned pane's state (R320). -/
structure Pane where
  layer : Nat
  pane : Nat
  rows : Nat
  cols : Nat
  rule : Nat
  die : Nat
  master : List W32
  m : List W32
  v : List W32
  l : List W32
  r : List W32
  lroot : Option Root
  rroot : Option Root
  u : Nat
  outcomes : List RootOutcome
  deriving DecidableEq, Repr

/-- A root job: queued or running, then staged (R326, R328). -/
structure RootJob where
  die : Nat
  layer : Nat
  pane : Nat
  l : List W32
  r : List W32
  staged : Option (Option Root × Option Root × List RootOutcome)
  deriving DecidableEq, Repr

/-- An outlier row in the stacks: QF8A scale bytes over 32 columns and codes (R190). -/
structure OutRow where
  layer : Nat
  channel : Nat
  scales : List Nat
  codes : List Nat
  deriving DecidableEq, Repr

structure Update where
  outRows : List OutRow := []
  panes : List Pane := []
  jobs : List RootJob := []
  /-- the image command in progress: 0 none, 1 save, 2 restore, with the result it will take and the length -/
  imageCmd : Nat := 0
  imageResult : Nat := 0
  imageLength : Nat := 0
  /-- the history command in progress likewise -/
  histCmd : Nat := 0
  histResult : Nat := 0
  histLength : Nat := 0
  /-- wall of columns: layers whose copies were quantised once in the format in use (R332) -/
  quantised : List Nat := []
  /-- outcome of the commit, for the end of UPDATE: layer, pane, its master changed, its L and R changed (R326, R331) -/
  updated : List (Nat × Nat × Bool × Bool) := []
  deriving DecidableEq, Repr

/- ## Memory (13) -/

structure MemUnit where
  /-- rows corrected on the last pass, by store * 2^48 + row (R351) -/
  corrected : List Nat := []
  /-- WEAK_TABLE: store, row, state 0 PENDING, 1 REPAIRED, 2 NO_SPARE -/
  weak : List (Nat × Nat × Nat) := []
  /-- patrol position in MiB and passes completed with their time, by store (R348) -/
  scrubPos : List (Nat × Nat) := []
  scrubPass : List (Nat × Nat × CTime) := []
  /-- words corrected and uncorrectable by store -/
  storeCount : List (Nat × Nat × Nat) := []
  deriving DecidableEq, Repr

/-- A die-to-die connection (R19). -/
structure Bridge where
  tries : Nat := 0
  stopped : Bool := false
  corrected : Nat := 0
  deriving DecidableEq, Repr

/- ## Kenlink (14) -/

inductive LinkState where
  | down | training | identify | active | quiet
  deriving DecidableEq, Repr

structure LinkPort where
  st : LinkState := .down
  /-- the peer's identity frame, W0 lowest (R376) -/
  peer : Option (BitVec 1024) := none
  /-- the frame it was checked with at the last decision (R378, R382) -/
  known : Option (BitVec 1024) := none
  version : Nat := 0
  /-- next SEQ to send, and the last SEQ accepted (R361) -/
  nextSeq : W16 := 0
  lastRx : W16 := 0xFFFF
  /-- a NACK has been returned for the present gap -/
  nacked : Bool := false
  /-- unacknowledged flits, oldest first, with how often each was sent -/
  replay : List (List Byte × Nat) := []
  /-- credits held for the 20 pairs and shared ones (R363) -/
  credits : List Nat := []
  shared : Nat := 0
  owed : List Nat := []
  owedShared : Nat := 0
  /-- a retrain is in progress, with the identity it must meet again (R362) -/
  retraining : Bool := false
  /-- flits waiting for a credit -/
  waiting : List (List Byte) := []
  fecCorrected : Nat := 0
  fecBad : Nat := 0
  crcErr : Nat := 0
  replays : Nat := 0
  retrains : Nat := 0
  drops : Nat := 0
  deriving DecidableEq, Repr

/-- A message under reassembly (R365). -/
structure Reasm where
  side : Bool
  pallet : BitVec 6
  slot : BitVec 6
  cls : BitVec 3
  tag : W16
  bytes : List Byte
  deriving DecidableEq, Repr

/-- A row of DISCOVERY_FINDINGS (R379). -/
structure Finding where
  code : Nat
  logical : Nat
  physical : Nat
  expected : Nat
  seen : Nat
  deriving DecidableEq, Repr

structure Kenlink where
  ports : List (Nat × LinkPort) := []
  /-- LOGICAL_MAP: physical port by logical port -/
  logical : List (Option Nat) := [some 0, some 1, some 2, some 3, some 4, some 5, some 6, some 7, some 8, some 9, some 10, some 11]
  findings : List Finding := []
  reasm : List Reasm := []
  /-- next MSG_TAG by class 1 to 5 (R365) -/
  tags : List Nat := [0, 0, 0, 0, 0]
  /-- output port taken at the FIRST flit of a message in progress: source key, class, tag, port (R371) -/
  routes : List (Nat × Nat × Nat × Nat) := []
  /-- messages delivered to this module: class and bytes, oldest first -/
  inbox : List (Nat × List Byte) := []
  /-- discovery has run since READY (R374) -/
  ran : Bool := false
  deriving DecidableEq, Repr

/- ## Host interface (15) -/

structure Endpoint where
  linkUp : Bool := false
  ready : Bool := false
  busMaster : Bool := true
  msixOn : Bool := true
  status : W16 := 0
  mask : W16 := 0xFFFF
  reqLen : W16 := 0
  rspLen : W16 := 0
  /-- MBOX_STATE: 0 IDLE, 1 BUSY, 2 RESPONSE_READY -/
  mbox : Nat := 0
  /-- MSI-X table words that are not zero, key vector*4+dword, and the pending bits -/
  msix : List (Nat × W32) := []
  pending : List Nat := []
  /-- vectors inside a merge interval, and those with a merged completion (R391) -/
  merging : List Nat := []
  merged : List Nat := []
  /-- request and response buffers by byte -/
  request : List (Nat × Byte) := []
  response : List Byte := []
  perstN : Bool := true
  perstEvents : Nat := 0
  flrEvents : Nat := 0
  deriving DecidableEq, Repr

/- ## Parameter dictionary (16) -/

structure Session where
  id : W32
  path : Path
  kcm : List Byte
  kmc : List Byte
  lastSeq : W64
  lastResponse : List Byte
  /-- hub time of its last frame -/
  lastAt : Nat
  deriving DecidableEq, Repr

/-- A request that a mailbox has started: its frame as the buffer held it, and whether its response is discarded because the endpoint has been
reset since (R393, R397). -/
structure MailReq where
  ep : Ep
  frame : List Byte
  dead : Bool
  deriving DecidableEq, Repr

/-- A forwarded request outstanding (R421). -/
structure Forward where
  sequence : W64
  path : Path
  /-- its mailbox has been reset since (R397) -/
  dead : Bool
  index : W16
  sub : Byte
  offset : W32
  op : Byte
  deriving DecidableEq, Repr

structure Dictionary where
  /-- staged values by entry key (R404) -/
  staged : List (Nat × PdVal) := []
  /-- tables being staged in pieces: key and the bytes so far -/
  pieces : List (Nat × List Byte) := []
  /-- waiting RWS values with the CFG_APPLY_STEP they keep (R407) -/
  waiting : Option (Nat × List (Nat × PdVal)) := none
  sessions : List Session := []
  forwards : List Forward := []
  /-- mailbox requests in the order of their MBOX_REQ_LEN writes (R393) -/
  queue : List MailReq := []
  /-- responses that wait to be written into a mailbox (R393) -/
  answers : List (Ep × List Byte) := []
  /-- owner key and FW_OWNER_SIG_REQUIRED as flash holds them (R403, R422) -/
  ownerKey : List Byte := []
  ownerSig : Bool := false
  /-- an invalid commit in HELD silences COURSE_OUT and the links until a valid one, and holds these balls (R408) -/
  silenced : Bool := false
  heldBalls : List Nat := []
  /-- a freeze by FREEZE_CMD waits for its response (R489) -/
  freezeAfter : Bool := false
  deriving DecidableEq, Repr

/- ## Measurement and control (17) -/

/-- A channel's result (R433). -/
structure ChanResult where
  code : BitVec 12 := 0
  value : W32 := 0
  ovr : Bool := false
  unr : Bool := false
  stale : Bool := false
  group : Nat := 0
  time : CTime := 0
  deriving DecidableEq, Repr

structure PmbResult where
  vout : W32 := 0
  iout : W32 := 0
  temp : W32 := 0
  status : W16 := 0
  absent : Bool := false
  deriving DecidableEq, Repr

structure Tach where
  /-- qualified edges in the last second, by time in 10 ns -/
  edges : List Nat := []
  stall : Bool := false
  deriving DecidableEq, Repr

structure Slice where
  slice : Nat := 0
  weights : List Nat := []
  rotations : Nat := 0
  time : CTime := 0
  deriving DecidableEq, Repr

structure Measure where
  /-- sampling groups running, with the hub time of their start, and pending (R432) -/
  running : List (Nat × Nat) := []
  waiting : List Nat := []
  results : List (Nat × ChanResult) := []
  capture : List (List Nat) := []
  /-- hub time of each event timer's last restart (R434) -/
  timers : List (Nat × Nat) := []
  /-- duties of PWM0-7 in force, and those that wait for the period boundary (R435) -/
  duty : List (Nat × Nat) := []
  dutyNext : List (Nat × Nat) := []
  tach : List (Nat × Tach) := []
  pmb : List (Nat × PmbResult) := []
  slices : List (Nat × Slice) := []
  throttleIn : Bool := false
  throttleOutN : Bool := true
  /-- a tick waits for its group and its evaluation (R439) -/
  tickOpen : Bool := false
  /-- that group has completed since the tick (R439, R441) -/
  tickDone : Bool := false
  /-- the raw transaction that PMB_XFER has started (R437) -/
  xfer : Option (List Byte) := none
  /-- ticks without the cause: of THROTTLE_OUT_N, of each alarm; ticks with the cause of FLOW_LOW, LEAK, TJ_TRIP (R438, R443) -/
  quietTicks : Nat := 0
  clearTicks : List (Nat × Nat) := []
  causeTicks : List (Nat × Nat) := []
  /-- the integral term of the valve loop, F32 (R442) -/
  integ : W32 := 0
  deriving DecidableEq, Repr

/- ## Clocks and start-up (18) -/

structure Clocks where
  refclk : Bool := true
  /-- loops locked and multiplexers on their loop (R449) -/
  loopsLocked : Bool := false
  onLoop : Bool := false
  /-- a multiplexer switch waits (R449) -/
  waiting : Bool := false
  /-- state COAST returns to (R452) -/
  coastFrom : Mode := .held
  /-- start-up steps of R459 that have ended -/
  firmware : Bool := false
  bridges : Bool := false
  memory : Bool := false
  flashReads : Bool := false
  /-- BOOT is a warm restart (R458) -/
  warm : Bool := false
  /-- CTIME of the last snapshot (R454) -/
  snapshot : Nat := 0
  startTable : List (List Nat) := []
  /-- fitted channels: usable capacity by channel, ranks (R344) -/
  channels : List (Nat × Nat × Nat × Bool) := []
  deriving DecidableEq, Repr

/- ## Faults (19) -/

structure Suspect where
  die : Nat
  block : Nat
  /-- cell in the block, 255 for common logic -/
  cell : Nat
  confirms : Nat
  left : Nat
  lastStep : Nat
  deriving DecidableEq, Repr

/-- An open recovery window (R478): level, scope key, the unit under recovery, SEQ of its record. -/
structure Window where
  level : Nat
  scope : Nat
  die : Nat
  block : Nat
  cell : Nat
  seq : Nat
  deriving DecidableEq, Repr

/-- A request to the Foreman (R481). -/
structure Request where
  activity : Activity
  resource : Nat
  time : CTime
  bound : Bool
  deriving DecidableEq, Repr

structure Faults where
  /-- retired cells (die*2048+block*16+cell) and blocks (die*128+block), dies 0-15 (R26, R28) -/
  retiredCells : List Nat := []
  retiredBlocks : List Nat := []
  /-- blocks to be retired at the boundary (R479) -/
  retireBlocks : List Nat := []
  suspects : List Suspect := []
  windows : List Window := []
  /-- last clean audit step by die*128+block (R469) -/
  audits : List (Nat × Nat) := []
  /-- cells whose drift mismatch their next audit repeats, by die*2048+block*16+cell (R474) -/
  drifts : List Nat := []
  /-- blocks audited ahead of due ones (R473) -/
  immediate : List Nat := []
  queue : List Request := []
  running : List Request := []
  /-- requests, grants and longest wait by activity (R481) -/
  stats : List (Nat × Nat × Nat) := []
  /-- the ring: SEQ and record, oldest first (R486) -/
  ring : List (Nat × List Byte) := []
  /-- last SEQ exported to flash, host and collector (R487) -/
  toFlash : Nat := 0
  toHost : Nat := 0
  toCollector : Nat := 0
  /-- highest SEQ in the flash log (R487) -/
  flashSeq : Nat := 0
  deriving DecidableEq, Repr

/- ## Freeze (20) -/

structure Freeze where
  from_ : Mode := .held
  /-- trigger code: 0 PIN, 1 COMMAND, 2 COURSE (R489) -/
  trigger : Nat := 0
  latch : CTime := 0
  /-- COURSE_STATE that the entry to LOST of R491 left -/
  courseBefore : Nat := 0
  /-- frames sent in the read-out, UNCORR frames, REFCLK cycles it took, and whether the LAST frame has gone (R497, R498) -/
  frames : Nat := 0
  uncorr : Nat := 0
  cycles : Nat := 0
  lastSent : Bool := false
  /-- the row of FREEZE_LAST (R499) -/
  last : List (List Nat) := []
  deriving DecidableEq, Repr

/- ## Firmware and security (21) -/

/-- A part image seen in staging: part, version, offset, length, digest, rollback (R503-R505). -/
structure ImageRec where
  part : Nat
  version : Nat
  offset : Nat
  length : Nat
  digest : List Byte
  deriving DecidableEq, Repr

structure Firmware where
  /-- bytes of the package taken and not yet programmed (R508) -/
  buffer : List Byte := []
  /-- bytes programmed into the package region, and bytes of it erased for this staging (R510) -/
  programmed : Nat := 0
  erased : Nat := 0
  /-- a flash operation of this staging has been made -/
  flashed : Bool := false
  /-- images of this staging whose header has passed, and the offset of the next header (R509) -/
  images : List ImageRec := []
  nextHeader : Nat := 0
  /-- ROLLBACK of the staged manifest -/
  rollback : Nat := 0
  /-- the valid marker of the firmware state block (R510) -/
  valid : Bool := true
  /-- images of the package that the marker vouches for; none for the package the part was supplied with (DESIGN CHOICE, log 21) -/
  package : List ImageRec := []
  packageRollback : Nat := 0
  /-- activation is due at the end of WRITEBACK after the next COMMIT; a COMMIT has been applied since (R511) -/
  due : Bool := false
  dueCommit : Bool := false
  /-- running manifest digest and parts (R505, R518) -/
  running : List ImageRec := []
  runningDigest : List Byte := []
  /-- nonce of the attestation report in progress (R517) -/
  nonce : List Byte := []
  deriving DecidableEq, Repr

/- ## The whole block -/

structure State where
  mode : Mode := .reset
  /-- pins as sampled (R520, R532) -/
  resetN : Bool := false
  pwrGood : Bool := true
  freezeN : Bool := true
  slotId : BitVec 6 := 0
  bondSide : Bool := false
  ready : Bool := false
  faultN : Bool := true
  /-- dictionary values in force that differ from their default, by index*256+subindex (R399) -/
  pd : List (Nat × PdVal) := []
  course : Course := {}
  events : List Event := []
  streams : List (Nat × Stream) := []
  plan : Option Plan := none
  /-- the load in progress: the parsed plan, and the faults found so far (R92, R97) -/
  loading : Option (Option Plan × List PlanFault) := none
  place : Option Placement := none
  /-- triggers recorded for the next boundary, and those the boundary under way answers to (R113) -/
  triggers : Nat := 0
  placeDue : Nat := 0
  /-- the boundary's placement has rows still to be written and verified, and the hub time since which FORWARD waits for it (R113) -/
  placing : Bool := false
  placeWait : Option Nat := none
  arrays : Arrays := {}
  cells : List (Nat × Cell) := []
  cal : Cal := {}
  layers : List (Nat × LayerNum) := []
  widenLog : List LogRow := []
  plumbLog : List LogRow := []
  storm : Bool := false
  jointModes : List JointMode := []
  jointParts : List JointPart := []
  jointWaits : List JointWait := []
  backward : Backward := {}
  /-- most live frog bytes seen, by gradient die (R264) -/
  frogMost : List (Nat × Nat) := []
  step : Step := {}
  exch : Exchange := {}
  upd : Update := {}
  /-- every store as one list of bytes that are not what an unlisted byte reads as (R338, R347) -/
  mem : List Host.Cell := []
  memUnit : MemUnit := {}
  bridges : List (Nat × Bridge) := []
  link : Kenlink := {}
  ep0 : Endpoint := {}
  ep1 : Endpoint := {}
  dict : Dictionary := {}
  meas : Measure := {}
  clk : Clocks := {}
  faults : Faults := {}
  freeze : Freeze := {}
  fw : Firmware := {}
  /-- what has left the module, in order (the model's own field, DESIGN CHOICE, log 3) -/
  outs : List Out := []
  /-- the counter that indexes free values (the model's own field, DESIGN CHOICE, log 3) -/
  free : Nat := 0
  /-- commands that wait, first in, first out (the block form's queue) -/
  pending : List Instr := []
  deriving DecidableEq, Repr

/-- The machine right after reset: supplies present and RESET_N low (R455), every field at its default, no command waiting. -/
def State.reset : State := {}

end Sys2Proof.Machine
end

