-- ==== Sys2Proof/Machine/Dict.lean ====
section
/-! DEFINITION. Machine/Dict.lean: the parameter dictionary's entries: name, type, class, size, default, range and columns, from the
dictionary tables of every chapter (R399-R404). Column types are the model's (DESIGN CHOICE, log 6). -/
namespace Sys2Proof.Machine

/-- The values a write of the entry accepts, in its encoding (R540). -/
inductive Rng where
  /-- every value of the type; finite for F32 and F64 -/
  | any
  | nat (lo hi : Nat)
  | set (l : List Nat)
  | mult (lo hi step : Nat)
  /-- F32 from lo to hi, inclusive, by encodings of non-negative values -/
  | f32 (lo hi : Nat)
  /-- no bit outside the mask, or the one other value -/
  | mask (m other : Nat)
  deriving DecidableEq, Repr

structure Meta where
  key : Nat
  name : String
  /-- type code of R401 -/
  ty : Nat
  /-- 0 RO, 1 RW, 2 RWH, 3 RWS, 4 CMD, 5 WOK (R540) -/
  cls : Nat
  /-- bytes; 0 for a variable size -/
  size : Nat
  dflt : PdVal
  rng : Rng
  /-- columns of a table: name, type code, bytes -/
  cols : List (String × Nat × Nat)
  deriving DecidableEq, Repr

/-- Bytes of a fixed-size scalar type (R401). -/
def tySize (ty : Nat) : Nat :=
  if ty = 1 ∨ ty = 2 then 1 else if ty = 3 then 2 else if ty = 4 ∨ ty = 6 ∨ ty = 8 then 4
  else if ty = 5 ∨ ty = 7 ∨ ty = 9 ∨ ty = 13 then 8 else 0

def sca (key : Nat) (name : String) (ty cls d : Nat) (r : Rng) : Meta := ⟨key, name, ty, cls, tySize ty, .num d, r, []⟩
def oct (key : Nat) (name : String) (ty cls size : Nat) (d : PdVal) : Meta := ⟨key, name, ty, cls, size, d, .any, []⟩
def tab (key : Nat) (name : String) (cls : Nat) (d : PdVal) (cols : List (String × Nat × Nat)) : Meta :=
  ⟨key, name, 14, cls, 0, d, .any, cols⟩

/-- n columns of one type, numbered from 0. -/
def run (name : String) (ty size n : Nat) : List (String × Nat × Nat) :=
  (List.range n).map fun i => (name ++ toString i, ty, size)

/-- The link-local IPv6 address of the fused MAC address: fe80::/64 with the modified EUI-64 interface identifier (R418). -/
def linkLocal : List Byte :=
  let m := padTo 6 Config.mac
  [0xFE, 0x80, 0, 0, 0, 0, 0, 0] ++ ((m.take 1).map fun b => b ^^^ 0x02) ++ (m.drop 1).take 2 ++ [0xFF, 0xFE] ++ m.drop 3
/-- Default correction of an external channel: OFS 0, GAIN 1.8 / 4,096 in FP32 (R428). -/
def extCorr : List Nat := [0, fp32.encode (.ratio 18 40960)]
/-- Default PWM rows: enable, duty, FAILSAFE (1 HIGH) (R446). -/
def pwmDefault : List (List Nat) := List.replicate 4 [1, 4000, 1] ++ List.replicate 4 [0, 0, 1]
/-- A disabled sampling group (R430). -/
def groupNone : List Nat := [0, 0, 0, 0, 0, 0, 1] ++ List.replicate 128 255
/-- Default group 0: trigger LEVEL, 12 rounds of all internal channels (R439, R446). -/
def groupLevel : List Nat :=
  [7, 0, 0, 0, 0, 0, 12] ++ (List.range 128).map fun i => if i / 8 < 12 then 12 * (i % 8) + i / 8 else 255
def groupDefault : List (List Nat) := groupLevel :: List.replicate 15 groupNone


def metas00 : List Meta := [
  oct PD.DEVICE_NAME "DEVICE_NAME" 10 0 0 (.bytes (ascii "QV2080")),
  sca PD.STEPPING "STEPPING" 2 0 0 .any,
  sca PD.SERIAL "SERIAL" 5 0 0 .any,
  sca PD.PD_VERSION "PD_VERSION" 3 0 1 .any,
  oct PD.IDENTITY_KEY "IDENTITY_KEY" 11 0 97 (.bytes (zeros 97)),
  oct PD.IDENTITY_CERT "IDENTITY_CERT" 11 0 2048 (.bytes (zeros 2048)),
  tab PD.TYPE_TABLE "TYPE_TABLE" 0 (.table []) [("CODE", 2, 1), ("NAME", 10, 32), ("SIZE", 3, 2)],
  sca PD.DEVICE_STATE "DEVICE_STATE" 2 0 0 .any,
  sca PD.STATE_REQ "STATE_REQ" 2 4 0 .any,
  sca PD.STATE_REQ_RESULT "STATE_REQ_RESULT" 2 0 0 .any,
  sca PD.CFG_COMMIT "CFG_COMMIT" 2 4 0 .any,
  sca PD.CFG_STATUS "CFG_STATUS" 2 0 0 .any,
  tab PD.CFG_FAULTS "CFG_FAULTS" 0 (.table []) [("CODE", 2, 1), ("ENTRY", 4, 4), ("OTHER", 4, 4), ("RESOURCE", 4, 4)],
  sca PD.CFG_STAGED "CFG_STAGED" 4 0 0 .any,
  sca PD.CFG_GENERATION "CFG_GENERATION" 4 0 0 .any,
  oct PD.CFG_DIGEST "CFG_DIGEST" 12 0 48 (.bytes (zeros 48)),
  sca PD.CFG_APPLY_STEP "CFG_APPLY_STEP" 5 1 0 .any,
  sca PD.CFG_CMD_RESULT "CFG_CMD_RESULT" 2 0 0 .any,
  tab PD.BALL_SELECT "BALL_SELECT" 2 (.table [[0], [1], [2], [3], [4], [5], [6], [7], [4], [5]]) [("BALL", 2, 1)],
  tab PD.STAGING_FIXED "STAGING_FIXED" 2 (.table [[0, 0, 0, 0], [0, 0, 0, 0], [0, 0, 0, 0], [0, 0, 0, 0], [0, 0, 0, 0], [0, 0, 0, 0], [0, 0, 0, 0], [0, 0, 0, 0]]) [("FROG_OFFSET", 3, 2), ("FROG_SIZE", 3, 2), ("CKPT_OFFSET", 3, 2), ("CKPT_SIZE", 3, 2)],
  tab PD.CLAIM_TABLE "CLAIM_TABLE" 0 (.table []) [("OWNER", 4, 4)],
  sca PD.HEALTH_DIE_MASK "HEALTH_DIE_MASK" 4 0 0xFFFFF .any,
  sca PD.HEALTH_CELLS_RETIRED "HEALTH_CELLS_RETIRED" 4 0 0 .any,
  sca PD.HEALTH_BLOCKS_RETIRED "HEALTH_BLOCKS_RETIRED" 4 0 0 .any,
  tab PD.HEALTH_MAP "HEALTH_MAP" 0 (.table []) [("DIE", 2, 1), ("BLOCK", 2, 1), ("WORKING", 3, 2), ("SUSPECT", 3, 2)]]

def metas01 : List Meta := [
  oct PD.HEALTH_MAP_DIGEST "HEALTH_MAP_DIGEST" 12 0 48 (.bytes (zeros 48)),
  sca PD.ESC_CELL_TO_BLOCK "ESC_CELL_TO_BLOCK" 5 0 0 .any,
  sca PD.ESC_BLOCK_TO_REGION "ESC_BLOCK_TO_REGION" 5 0 0 .any,
  sca PD.ESC_REGION_TO_DEVICE "ESC_REGION_TO_DEVICE" 5 0 0 .any,
  tab PD.HOST_EP_TABLE "HOST_EP_TABLE" 0 (.table []) [("LINK_UP", 1, 1), ("RATE", 2, 1), ("WIDTH", 2, 1), ("BUS_MASTER", 1, 1), ("MSIX", 1, 1), ("PERST", 5, 8), ("FLR", 5, 8)],
  sca PD.HOST_DMA_TIMEOUT_MS "HOST_DMA_TIMEOUT_MS" 3 2 0x32 (.nat 1 1000),
  sca PD.IRQ_COALESCE_NS "IRQ_COALESCE_NS" 4 2 0 (.nat 0 1000000),
  sca PD.BAR0_DISCARDED "BAR0_DISCARDED" 5 0 0 .any,
  sca PD.MBOX_DROPPED "MBOX_DROPPED" 5 0 0 .any,
  sca PD.HOST_DMA_ERR "HOST_DMA_ERR" 5 0 0 .any,
  tab PD.HOST_REGIONS "HOST_REGIONS" 2 (.table []) [("REGION", 3, 2), ("ENDPOINT", 2, 1), ("BUS_ADDR", 5, 8), ("SIZE", 5, 8), ("NO_SNOOP", 1, 1)],
  sca PD.COURSE_PERIOD_NS "COURSE_PERIOD_NS" 4 2 0xF4240 (.mult 50000 100000000 1000),
  sca PD.COURSE_IN_DELAY_NS "COURSE_IN_DELAY_NS" 4 2 0 (.nat 0 100000),
  sca PD.COURSE_HOLDOVER_LIMIT "COURSE_HOLDOVER_LIMIT" 3 2 0x100 (.nat 1 65535),
  sca PD.COURSE_LOCK_COUNT "COURSE_LOCK_COUNT" 2 2 4 (.nat 2 16),
  sca PD.COURSE_MASTER_EN "COURSE_MASTER_EN" 1 2 0 .any,
  sca PD.COURSE_MASTER_START "COURSE_MASTER_START" 5 2 0 (.nat 0 281474976710655),
  sca PD.COURSE_MASTER_TAG "COURSE_MASTER_TAG" 2 2 0 .any,
  sca PD.COURSE_NOW "COURSE_NOW" 13 0 0 .any,
  sca PD.COURSE_STATE "COURSE_STATE" 2 0 0 .any,
  sca PD.COURSE_HOLDOVER_COUNT "COURSE_HOLDOVER_COUNT" 3 0 0 .any,
  sca PD.COURSE_PERIOD_MEAS "COURSE_PERIOD_MEAS" 9 0 0 .any,
  sca PD.COURSE_LAST_TAG "COURSE_LAST_TAG" 2 0 0 .any,
  sca PD.COURSE_PHASE_ERR "COURSE_PHASE_ERR" 6 0 0 .any,
  sca PD.COURSE_FLAGS "COURSE_FLAGS" 2 0 0 .any]

def metas02 : List Meta := [
  sca PD.COURSE_FRAMES_GOOD "COURSE_FRAMES_GOOD" 5 0 0 .any,
  sca PD.COURSE_CRC_ERR "COURSE_CRC_ERR" 5 0 0 .any,
  sca PD.COURSE_DECODE_ERR "COURSE_DECODE_ERR" 5 0 0 .any,
  sca PD.COURSE_VERSION_ERR "COURSE_VERSION_ERR" 5 0 0 .any,
  sca PD.COURSE_DISCORDANT "COURSE_DISCORDANT" 5 0 0 .any,
  sca PD.COURSE_OUT_OF_WINDOW "COURSE_OUT_OF_WINDOW" 5 0 0 .any,
  sca PD.COURSE_UNMARKED "COURSE_UNMARKED" 5 0 0 .any,
  sca PD.COURSE_LOST_ENTRIES "COURSE_LOST_ENTRIES" 4 0 0 .any,
  tab PD.EVENT_QUEUE "EVENT_QUEUE" 0 (.table []) [("CTIME", 13, 8), ("KIND", 2, 1), ("REPEAT", 3, 2), ("OWNER", 3, 2)],
  sca PD.EVENT_QUEUE_FREE "EVENT_QUEUE_FREE" 3 0 0x400 .any,
  sca PD.EVENT_REJECTED "EVENT_REJECTED" 5 0 0 .any,
  tab PD.CLK_DOMAIN_TABLE "CLK_DOMAIN_TABLE" 0 (.table []) [("DIE", 2, 1), ("DOMAIN", 2, 1), ("NOMINAL_MHZ", 3, 2), ("MEASURED_MHZ", 3, 2), ("SOURCE", 2, 1), ("LOCKED", 1, 1), ("ALIVE", 1, 1)],
  sca PD.CLK_FLAGS "CLK_FLAGS" 2 0 0 .any,
  sca PD.REFCLK_LOSSES "REFCLK_LOSSES" 5 0 0 .any,
  sca PD.COAST_NS "COAST_NS" 5 0 0 .any,
  sca PD.LOCK_LOSSES "LOCK_LOSSES" 5 0 0 .any,
  sca PD.STOPPED_ACCESS "STOPPED_ACCESS" 5 0 0 .any,
  tab PD.START_TABLE "START_TABLE" 0 (.table []) [("START_US", 4, 4), ("DURATION_US", 4, 4), ("RESULT", 2, 1)],
  sca PD.RESET_CAUSE "RESET_CAUSE" 2 0 0 .any,
  sca PD.READY_TIME_MS "READY_TIME_MS" 4 0 0 .any,
  sca PD.PLAN_OFFSET "PLAN_OFFSET" 5 2 0 (.mult 0 18446744073709551552 64),
  sca PD.PLAN_LENGTH "PLAN_LENGTH" 4 2 0 (.nat 1 4294967295),
  sca PD.PLAN_LOAD "PLAN_LOAD" 2 4 0 .any,
  sca PD.PLAN_STATUS "PLAN_STATUS" 2 0 0 .any,
  oct PD.PLAN_DIGEST "PLAN_DIGEST" 12 0 48 (.bytes (zeros 48))]

def metas03 : List Meta := [
  tab PD.PLAN_FAULTS "PLAN_FAULTS" 0 (.table []) [("CODE", 2, 1), ("OBJECT", 4, 4), ("FIELD", 3, 2)],
  sca PD.DENSE_ENABLE "DENSE_ENABLE" 1 2 1 .any,
  sca PD.DENSE_ON_SHARE "DENSE_ON_SHARE" 8 2 0x3CA3D70A .any,
  sca PD.DENSE_OFF_SHARE "DENSE_OFF_SHARE" 8 2 0x3D4CCCCD .any,
  sca PD.DENSE_WINDOW "DENSE_WINDOW" 2 2 4 (.nat 1 64),
  sca PD.CKPT_BUDGET_PCT "CKPT_BUDGET_PCT" 2 2 0x19 (.nat 1 90),
  sca PD.STREAM_COUNT "STREAM_COUNT" 4 0 0 .any,
  tab PD.STREAM_TABLE "STREAM_TABLE" 0 (.table []) [("STATION", 2, 1), ("FEED", 2, 1), ("ENDPOINTS", 2, 1), ("RING_CODE", 2, 1), ("RING_OFFSET", 5, 8), ("HOME_DIE", 2, 1), ("PRIORITY", 2, 1), ("GROUPS", 2, 1)],
  sca PD.STREAM_SELECT "STREAM_SELECT" 4 1 0 (.nat 0 262143),
  sca PD.STREAM_STATE "STREAM_STATE" 2 0 0 .any,
  sca PD.STREAM_HEAD "STREAM_HEAD" 4 0 0 .any,
  sca PD.STREAM_TAIL "STREAM_TAIL" 4 0 0 .any,
  sca PD.STREAM_ERROR "STREAM_ERROR" 2 0 0 .any,
  sca PD.STREAM_ERR_INDEX "STREAM_ERR_INDEX" 4 0 0 .any,
  sca PD.STREAM_TILES_DONE "STREAM_TILES_DONE" 4 0 0 .any,
  sca PD.STREAM_BLOCKED_ON "STREAM_BLOCKED_ON" 4 0 0 .any,
  sca PD.STREAM_OPEN_GROUPS "STREAM_OPEN_GROUPS" 3 0 0 .any,
  sca PD.STREAM_RESUME "STREAM_RESUME" 4 4 0 .any,
  sca PD.STREAM_CMD_RESULT "STREAM_CMD_RESULT" 2 0 0 .any,
  sca PD.DOORBELL_DROPPED "DOORBELL_DROPPED" 5 0 0 .any,
  sca PD.DOORBELL_STALE "DOORBELL_STALE" 5 0 0 .any,
  sca PD.DESC_REJECTED "DESC_REJECTED" 5 0 0 .any,
  sca PD.STREAM_HALTS "STREAM_HALTS" 5 0 0 .any,
  sca PD.PLACE_VERSION "PLACE_VERSION" 4 0 0 .any,
  oct PD.PLACE_DIGEST "PLACE_DIGEST" 12 0 48 (.bytes (zeros 48))]

def metas04 : List Meta := [
  sca PD.PLACE_MODE_USED "PLACE_MODE_USED" 2 0 0 .any,
  tab PD.PLACE_LAYERS "PLACE_LAYERS" 0 (.table []) ([("LAYER", 3, 2), ("LEAF", 2, 1), ("FORMAT", 2, 1), ("S", 2, 1), ("R", 3, 2), ("KSLICES", 4, 4), ("NSLICES", 4, 4)] ++ run "GROUPS" 3 2 8 ++ run "FIRST" 3 2 8),
  tab PD.PLACE_STATIONS "PLACE_STATIONS" 0 (.table []) [("DIE", 2, 1), ("STATION", 2, 1), ("FIRST", 2, 1), ("LAST", 2, 1)],
  tab PD.PLACE_TENSORS "PLACE_TENSORS" 0 (.table []) [("TENSOR", 4, 4), ("STORE", 2, 1), ("DIE", 3, 2), ("OFFSET", 5, 8), ("BAR2", 5, 8)],
  tab PD.PLACE_CHECKPOINTS "PLACE_CHECKPOINTS" 0 (.table []) [("LAYER", 3, 2), ("STORE", 2, 1), ("K", 3, 2)],
  tab PD.PLACE_SEQUENCE "PLACE_SEQUENCE" 0 (.table []) [("LAYER", 3, 2), ("MICRO_BATCH", 3, 2), ("LEAF", 2, 1)],
  tab PD.PLACE_ROWMODE "PLACE_ROWMODE" 0 (.table []) [("LAYER", 3, 2), ("MODE", 3, 2), ("S", 8, 4), ("DENSITY", 8, 4)],
  sca PD.PLACE_TRIGGERS "PLACE_TRIGGERS" 3 0 0 .any,
  sca PD.PLACE_COUNT "PLACE_COUNT" 5 0 0 .any,
  sca PD.PLACE_WAIT_NS "PLACE_WAIT_NS" 5 0 0 .any,
  sca PD.DENSE_SWITCHES "DENSE_SWITCHES" 5 0 0 .any,
  sca PD.CELL_TAKEOVERS "CELL_TAKEOVERS" 5 0 0 .any,
  sca PD.RESIDENCY_WAITS "RESIDENCY_WAITS" 5 0 0 .any,
  sca PD.WIT_TOL_64 "WIT_TOL_64" 2 2 2 (.nat 1 15),
  sca PD.WIT_TOL_128 "WIT_TOL_128" 2 2 3 (.nat 1 15),
  sca PD.WIT_TOL_256 "WIT_TOL_256" 2 2 4 (.nat 1 15),
  sca PD.SKIP_ZERO_PHASES "SKIP_ZERO_PHASES" 1 2 1 .any,
  sca PD.WRITE_VERIFY_LIMIT "WRITE_VERIFY_LIMIT" 2 2 3 (.nat 1 7),
  sca PD.ARR_STRIKES "ARR_STRIKES" 5 0 0 .any,
  sca PD.ARR_SKIPPED "ARR_SKIPPED" 5 0 0 .any,
  sca PD.ARR_OVERRANGE "ARR_OVERRANGE" 5 0 0 .any,
  sca PD.ARR_REPLAY_HALVES "ARR_REPLAY_HALVES" 5 0 0 .any,
  sca PD.ARR_SCALE_SPLITS "ARR_SCALE_SPLITS" 5 0 0 .any,
  sca PD.ARR_WIT_MISMATCH "ARR_WIT_MISMATCH" 5 0 0 .any,
  sca PD.ARR_WIT_RETRY_OK "ARR_WIT_RETRY_OK" 5 0 0 .any]

def metas05 : List Meta := [
  sca PD.ARR_SUBSTITUTED "ARR_SUBSTITUTED" 5 0 0 .any,
  sca PD.ARR_FLAG_FAULTS "ARR_FLAG_FAULTS" 5 0 0 .any,
  sca PD.ARR_DOUBLE_EXTRA "ARR_DOUBLE_EXTRA" 5 0 0 .any,
  sca PD.ARR_PROMOTIONS "ARR_PROMOTIONS" 5 0 0 .any,
  sca PD.ARR_ROWS_WRITTEN "ARR_ROWS_WRITTEN" 5 0 0 .any,
  sca PD.ARR_ROWS_UNCHANGED "ARR_ROWS_UNCHANGED" 5 0 0 .any,
  sca PD.ARR_VERIFY_FAIL "ARR_VERIFY_FAIL" 5 0 0 .any,
  sca PD.ARR_WRITE_REMAPS "ARR_WRITE_REMAPS" 5 0 0 .any,
  sca PD.ARR_WRITE_RETIRES "ARR_WRITE_RETIRES" 5 0 0 .any,
  tab PD.ARR_DIE_STATS "ARR_DIE_STATS" 0 (.table []) (run "C" 5 8 16),
  tab PD.SPARE_MAP "SPARE_MAP" 0 (.table []) ([("DIE", 2, 1), ("BLOCK", 2, 1), ("CELL", 2, 1)] ++ run "ENTRY" 3 2 16),
  tab PD.SPARE_FREE "SPARE_FREE" 0 (.table []) [("FREE", 2, 1)],
  sca PD.SPARE_FREE_MIN "SPARE_FREE_MIN" 2 0 0x10 .any,
  sca PD.CAL_MODE "CAL_MODE" 2 2 0 (.nat 0 1),
  sca PD.CAL_COMPAT_DELTA "CAL_COMPAT_DELTA" 3 2 0x80 (.nat 16 640),
  sca PD.CAL_TRIM_STEP "CAL_TRIM_STEP" 3 2 0x10 (.nat 1 160),
  sca PD.CAL_DRIFT_GAIN "CAL_DRIFT_GAIN" 3 2 0x3D7 .any,
  sca PD.CAL_DRIFT_OFS "CAL_DRIFT_OFS" 3 2 0x200 .any,
  sca PD.CAL_PERSIST "CAL_PERSIST" 1 2 1 .any,
  sca PD.CAL_RUN "CAL_RUN" 2 4 0 .any,
  sca PD.CAL_RUN_RESULT "CAL_RUN_RESULT" 2 0 0 .any,
  sca PD.CAL_STATE "CAL_STATE" 2 0 0 .any,
  sca PD.CAL_BANK "CAL_BANK" 2 0 0 .any,
  sca PD.CAL_SWAPS "CAL_SWAPS" 5 0 0 .any,
  sca PD.CAL_SWAPS_DEFERRED "CAL_SWAPS_DEFERRED" 5 0 0 .any]

def metas06 : List Meta := [
  sca PD.CAL_LAST_SWAP "CAL_LAST_SWAP" 13 0 0 .any,
  tab PD.CAL_DIE_TABLE "CAL_DIE_TABLE" 0 (.table []) [("T16", 3, 2), ("T_LAST", 3, 2), ("LAST_RUN", 2, 1), ("NEAREST", 2, 1), ("FAILED", 4, 4), ("OFFSET_ONLY", 4, 4)],
  sca PD.CAL_RUNS "CAL_RUNS" 5 0 0 .any,
  sca PD.CAL_COMPAT_TRIGGERS "CAL_COMPAT_TRIGGERS" 5 0 0 .any,
  oct PD.CAL_DIGEST "CAL_DIGEST" 12 0 48 (.bytes (zeros 48)),
  sca PD.CAL_COLUMNS_FAILED "CAL_COLUMNS_FAILED" 4 0 0 .any,
  tab PD.CAL_SET_TABLE "CAL_SET_TABLE" 0 (.table []) [("DIE", 2, 1), ("SET", 2, 1), ("ORIGIN", 2, 1), ("STATE", 2, 1), ("TEMP_MEAS", 3, 2), ("REFRESH_COUNT", 4, 4)],
  sca PD.CAL_SET_COUNT "CAL_SET_COUNT" 2 0 5 .any,
  tab PD.CAL_SET_TEMPS "CAL_SET_TEMPS" 0 (.table []) [("TEMP", 2, 1)],
  sca PD.CAL_SET_RESTORED "CAL_SET_RESTORED" 4 0 0 .any,
  sca PD.CAL_SET_BAD "CAL_SET_BAD" 4 0 0 .any,
  tab PD.NUM_LAYER_TABLE "NUM_LAYER_TABLE" 0 (.table []) [("W_FORMAT", 2, 1), ("A_FORMAT", 2, 1), ("RUNG", 2, 1), ("W_USED", 2, 1), ("A_USED", 2, 1), ("GRAD_FORMAT", 2, 1), ("COLD", 1, 1), ("CLEAN", 3, 2), ("M", 4, 4), ("EXCESS", 1, 1)],
  sca PD.GROUT_TAU "GROUT_TAU" 8 2 0x40C00000 (.f32 1065353216 1115684864),
  sca PD.GROUT_EXCESS_LIMIT "GROUT_EXCESS_LIMIT" 8 2 0x37800000 (.f32 1 1065353216),
  sca PD.GROUT_SCORE_ALPHA "GROUT_SCORE_ALPHA" 8 2 0x3D800000 (.f32 1 1065353216),
  sca PD.GROUT_VALUES "GROUT_VALUES" 5 0 0 .any,
  sca PD.GROUT_EXCESS "GROUT_EXCESS" 5 0 0 .any,
  sca PD.GROUT_FLAGGED "GROUT_FLAGGED" 4 0 0 .any,
  sca PD.WIDEN_ENABLE "WIDEN_ENABLE" 1 2 1 .any,
  sca PD.WIDEN_MAX_RUNG "WIDEN_MAX_RUNG" 2 2 3 (.nat 0 3),
  sca PD.WIDEN_CLEAN_STEPS "WIDEN_CLEAN_STEPS" 3 2 0x40 (.nat 1 65535),
  sca PD.STORM_SHARE "STORM_SHARE" 8 2 0x3F000000 (.f32 1 1065353216),
  sca PD.STORM_POLICY "STORM_POLICY" 2 2 0 (.nat 0 1),
  sca PD.WIDEN_EVENTS "WIDEN_EVENTS" 5 0 0 .any,
  sca PD.WIDEN_REPEATS "WIDEN_REPEATS" 5 0 0 .any]

def metas07 : List Meta := [
  sca PD.NARROWINGS "NARROWINGS" 5 0 0 .any,
  sca PD.RESCALES "RESCALES" 5 0 0 .any,
  sca PD.RESCALE_CLIPS "RESCALE_CLIPS" 5 0 0 .any,
  sca PD.STORMS "STORMS" 5 0 0 .any,
  tab PD.WIDEN_LOG "WIDEN_LOG" 0 (.table []) [("STEP", 5, 8), ("MICRO_BATCH", 3, 2), ("LAYER", 3, 2), ("EVENT", 2, 1), ("BEFORE", 2, 1), ("AFTER", 2, 1)],
  sca PD.PLUMB_FACTOR "PLUMB_FACTOR" 8 2 0x41000000 (.f32 1065353217 2139095039),
  sca PD.PLUMB_ALPHA "PLUMB_ALPHA" 8 2 0x3D800000 (.f32 1 1065353216),
  sca PD.PLUMB_ACTION_FWD "PLUMB_ACTION_FWD" 2 2 0 (.nat 0 2),
  sca PD.PLUMB_ACTION_GRAD "PLUMB_ACTION_GRAD" 2 2 0 (.nat 0 2),
  sca PD.PLUMB_WARMUP "PLUMB_WARMUP" 2 2 0x10 (.nat 1 255),
  sca PD.PLUMB_EVENTS "PLUMB_EVENTS" 5 0 0 .any,
  tab PD.PLUMB_LOG "PLUMB_LOG" 0 (.table []) [("STEP", 5, 8), ("MICRO_BATCH", 3, 2), ("LAYER", 3, 2), ("MONITOR", 2, 1), ("RATIO", 8, 4), ("ACTION", 2, 1)],
  sca PD.GAUGE_PCT "GAUGE_PCT" 8 2 0x3F7FF972 (.f32 1056964608 1065353216),
  sca PD.GAUGE_HEADROOM "GAUGE_HEADROOM" 2 2 2 (.nat 0 8),
  sca PD.GAUGE_UNDERFLOW "GAUGE_UNDERFLOW" 8 2 0x39800000 (.f32 1 2139095039),
  sca PD.GAUGE_FLOOR "GAUGE_FLOOR" 2 2 8 (.set [8, 9, 10, 11, 16]),
  tab PD.GAUGE_TABLE "GAUGE_TABLE" 0 (.table []) ([("RING", 2, 1)] ++ run "BIN" 5 8 32 ++ [("P", 2, 1)] ++ run "SHARE" 8 4 4 ++ [("FORMAT", 2, 1)]),
  sca PD.GAUGE_CHANGES "GAUGE_CHANGES" 5 0 0 .any,
  sca PD.COLD_LAYERS "COLD_LAYERS" 4 0 0 .any,
  sca PD.HIST_OFFSET "HIST_OFFSET" 5 2 0 (.mult 0 18446744073709551552 64),
  sca PD.HIST_SAVE "HIST_SAVE" 2 4 0 .any,
  sca PD.HIST_RESTORE "HIST_RESTORE" 2 4 0 .any,
  sca PD.HIST_RESULT "HIST_RESULT" 2 0 0 .any,
  sca PD.HIST_LENGTH "HIST_LENGTH" 4 0 0 .any,
  sca PD.REF_ALL "REF_ALL" 1 2 0 .any]

def metas08 : List Meta := [
  sca PD.REF_TILES "REF_TILES" 5 0 0 .any,
  sca PD.Q_UNDERFLOW "Q_UNDERFLOW" 5 0 0 .any,
  sca PD.Q_NONFINITE "Q_NONFINITE" 5 0 0 .any,
  sca PD.W2T_INVALID "W2T_INVALID" 5 0 0 .any,
  sca PD.SCOUT_PASSES "SCOUT_PASSES" 5 0 0 .any,
  sca PD.JOINT_MODE "JOINT_MODE" 2 2 0 (.nat 0 1),
  sca PD.JOINT_AUTO "JOINT_AUTO" 1 2 1 .any,
  sca PD.JOINT_SEED "JOINT_SEED" 5 2 0 .any,
  sca PD.CANCEL_ON "CANCEL_ON" 8 2 0x37800000 (.f32 1 2139095039),
  sca PD.CANCEL_OFF "CANCEL_OFF" 8 2 0x39800000 (.f32 1 1065353216),
  sca PD.JOINT_CLEAN_STEPS "JOINT_CLEAN_STEPS" 3 2 0x40 (.nat 1 65535),
  sca PD.BED_SPILL_MIB "BED_SPILL_MIB" 3 2 0x20 (.nat 1 96),
  tab PD.JOINT_TABLE "JOINT_TABLE" 0 (.table []) [("LAYER", 3, 2), ("KIND", 2, 1), ("J", 2, 1), ("DIE", 2, 1), ("MODE", 2, 1), ("RHO", 8, 4), ("CLEAN", 3, 2)],
  sca PD.JOINTS_ROUNDED "JOINTS_ROUNDED" 5 0 0 .any,
  sca PD.JOINTS_EXACT "JOINTS_EXACT" 5 0 0 .any,
  sca PD.JOINT_EXACT_BYTES "JOINT_EXACT_BYTES" 5 0 0 .any,
  sca PD.JOINT_SWITCHES "JOINT_SWITCHES" 5 0 0 .any,
  sca PD.BED_PROMOTIONS "BED_PROMOTIONS" 5 0 0 .any,
  sca PD.BED_SOLO_PROMOTIONS "BED_SOLO_PROMOTIONS" 5 0 0 .any,
  sca PD.BED_INEXACT "BED_INEXACT" 5 0 0 .any,
  sca PD.BED_OVERFLOW "BED_OVERFLOW" 5 0 0 .any,
  sca PD.BED_RESIDUE_ERR "BED_RESIDUE_ERR" 5 0 0 .any,
  sca PD.BED_PARITY_ERR "BED_PARITY_ERR" 5 0 0 .any,
  sca PD.BED_SPILL_ROWS "BED_SPILL_ROWS" 5 0 0 .any,
  sca PD.BED_SPILL_WAITS "BED_SPILL_WAITS" 5 0 0 .any]

def metas09 : List Meta := [
  sca PD.GROUP_SAVES "GROUP_SAVES" 5 0 0 .any,
  sca PD.TOPK_NAN "TOPK_NAN" 5 0 0 .any,
  sca PD.TOPK_ROWS "TOPK_ROWS" 5 0 0 .any,
  sca PD.ACT_GELU_FORM "ACT_GELU_FORM" 2 2 0 (.nat 0 1),
  sca PD.ROW_EPS "ROW_EPS" 8 2 0x3727C5AC (.f32 1 1065353216),
  sca PD.BWDW_X_FORMAT "BWDW_X_FORMAT" 2 2 0xA (.set [8, 9, 10, 16]),
  sca PD.ATTN_SCALE "ATTN_SCALE" 8 2 0x3DB504F3 (.f32 1 2139095039),
  sca PD.CKPT_PREFETCH_DEPTH "CKPT_PREFETCH_DEPTH" 2 2 2 (.nat 1 8),
  sca PD.BWDX_TILES "BWDX_TILES" 5 0 0 .any,
  sca PD.BWDW_TILES "BWDW_TILES" 5 0 0 .any,
  sca PD.BWDW_ZERO_BLOCKS "BWDW_ZERO_BLOCKS" 5 0 0 .any,
  sca PD.BWDW_REBLOCKED "BWDW_REBLOCKED" 5 0 0 .any,
  sca PD.ACT_DERIV_TILES "ACT_DERIV_TILES" 5 0 0 .any,
  sca PD.ROW_ROWS "ROW_ROWS" 5 0 0 .any,
  sca PD.RECOMPUTE_OPS "RECOMPUTE_OPS" 5 0 0 .any,
  sca PD.CKPT_SPILL_BYTES "CKPT_SPILL_BYTES" 5 0 0 .any,
  sca PD.CKPT_PREFETCH_BYTES "CKPT_PREFETCH_BYTES" 5 0 0 .any,
  sca PD.CKPT_WAITS "CKPT_WAITS" 5 0 0 .any,
  sca PD.FROG_SPILL_RUNS "FROG_SPILL_RUNS" 5 0 0 .any,
  sca PD.FROG_WAITS "FROG_WAITS" 5 0 0 .any,
  sca PD.FROG_MISSING "FROG_MISSING" 5 0 0 .any,
  sca PD.ATTN_DROPPED "ATTN_DROPPED" 5 0 0 .any,
  sca PD.KEPT_MISSING "KEPT_MISSING" 5 0 0 .any,
  tab PD.FROG_TABLE "FROG_TABLE" 0 (.table []) [("ENTRIES", 4, 4), ("SPILLED", 4, 4), ("PLANNED", 5, 8), ("PEAK", 5, 8)],
  tab PD.KEEP_TABLE "KEEP_TABLE" 0 (.table []) [("FIRST", 3, 2), ("LAST", 3, 2), ("STORE", 2, 1), ("RETAINED", 3, 2), ("RECOMPUTE", 3, 2)]]

def metas10 : List Meta := [
  sca PD.STEP_NUMBER "STEP_NUMBER" 5 0 0 .any,
  sca PD.STEP_ATTEMPT "STEP_ATTEMPT" 3 0 0 .any,
  sca PD.STEP_OPEN "STEP_OPEN" 1 0 0 .any,
  sca PD.STEP_REASONS "STEP_REASONS" 4 0 0 .any,
  sca PD.STEP_FIRST "STEP_FIRST" 5 2 0 (.nat 0 281474976710655),
  sca PD.STEP_VOID_REQ "STEP_VOID_REQ" 2 4 0 .any,
  sca PD.STEP_LAST_DECISION "STEP_LAST_DECISION" 2 0 0 .any,
  sca PD.VOTE_PARENT_PORT "VOTE_PARENT_PORT" 2 2 0xFF (.set [0, 1, 2, 3, 4, 5, 6, 7, 8, 9, 10, 11, 255]),
  sca PD.VOTE_WINDOW "VOTE_WINDOW" 3 2 0x2000 (.nat 1 65535),
  sca PD.VOTE_COMMIT_LEAD "VOTE_COMMIT_LEAD" 3 2 0x1000 (.nat 1 65535),
  sca PD.VOTE_DOMAIN_SIZE "VOTE_DOMAIN_SIZE" 3 2 1 (.nat 1 4096),
  sca PD.VOTE_MAX_ATTEMPTS "VOTE_MAX_ATTEMPTS" 2 2 3 (.nat 1 255),
  sca PD.VOTE_CHILD_MASK "VOTE_CHILD_MASK" 3 2 0 (.nat 0 4095),
  sca PD.STEPS_COMMITTED "STEPS_COMMITTED" 5 0 0 .any,
  sca PD.STEPS_VOIDED "STEPS_VOIDED" 5 0 0 .any,
  sca PD.VOID_LOCAL "VOID_LOCAL" 5 0 0 .any,
  sca PD.VERDICTS_LATE "VERDICTS_LATE" 5 0 0 .any,
  sca PD.VOTE_MSG_ERR "VOTE_MSG_ERR" 5 0 0 .any,
  sca PD.VOTE_CMD_IGNORED "VOTE_CMD_IGNORED" 5 0 0 .any,
  tab PD.STEP_PHASE_TABLE "STEP_PHASE_TABLE" 0 (.table []) ([("STEP", 5, 8), ("ATTEMPT", 3, 2), ("VERDICT", 2, 1)] ++ run "START" 13 8 6 ++ run "DURATION" 4 4 6),
  tab PD.STEP_VOID_LOG "STEP_VOID_LOG" 0 (.table []) [("STEP", 5, 8), ("ATTEMPT", 3, 2), ("REASONS", 4, 4), ("MODULES", 3, 2), ("ORIGIN", 3, 2), ("COMMIT_TIME", 13, 8), ("LOCAL", 1, 1)],
  sca PD.EXCH_SIZE "EXCH_SIZE" 3 2 1 (.nat 1 4096),
  sca PD.EXCH_MEMBER "EXCH_MEMBER" 3 2 0 .any,
  tab PD.EXCH_MEMBERS "EXCH_MEMBERS" 2 (.table []) [("PALLET", 2, 1), ("SLOT", 2, 1), ("BOND_SIDE", 2, 1)],
  tab PD.EXCH_PANES "EXCH_PANES" 0 (.table []) [("LAYER", 3, 2), ("INDEX", 4, 4), ("OWNER", 3, 2), ("VALID", 4, 4)]]

def metas11 : List Meta := [
  sca PD.EXCH_FIRST_DEADLINE "EXCH_FIRST_DEADLINE" 13 2 0 .any,
  sca PD.EXCH_PERIOD "EXCH_PERIOD" 4 2 0x10000 (.nat 1 4294967295),
  sca PD.EXCH_POLICY "EXCH_POLICY" 2 2 0 (.nat 0 1),
  sca PD.EXCH_CARRY_LATE "EXCH_CARRY_LATE" 1 2 0 .any,
  sca PD.EXCH_MIN_SHARE "EXCH_MIN_SHARE" 8 2 0x3F000000 (.f32 1 1065353216),
  sca PD.EXCH_STEP_SAMPLES "EXCH_STEP_SAMPLES" 4 1 0 .any,
  sca PD.EXCH_GATHER_WINDOW "EXCH_GATHER_WINDOW" 4 2 0x8000 (.nat 1 4294967295),
  sca PD.EXCH_RECORDS "EXCH_RECORDS" 5 0 0 .any,
  sca PD.EXCH_LATE "EXCH_LATE" 5 0 0 .any,
  sca PD.EXCH_CARRIED "EXCH_CARRIED" 5 0 0 .any,
  sca PD.EXCH_NOTICE_LATE "EXCH_NOTICE_LATE" 5 0 0 .any,
  sca PD.EXCH_UNSENT "EXCH_UNSENT" 5 0 0 .any,
  sca PD.EXCH_EMPTY "EXCH_EMPTY" 5 0 0 .any,
  sca PD.EXCH_EXCLUDED "EXCH_EXCLUDED" 5 0 0 .any,
  sca PD.EXCH_REC_ERR "EXCH_REC_ERR" 5 0 0 .any,
  sca PD.EXCH_STALE "EXCH_STALE" 5 0 0 .any,
  sca PD.STAGE_TILES "STAGE_TILES" 5 0 0 .any,
  sca PD.GATHER_MISSING "GATHER_MISSING" 5 0 0 .any,
  tab PD.THIN_TABLE "THIN_TABLE" 2 (.table []) [("LAYER", 3, 2), ("N", 2, 1), ("K", 3, 2)],
  tab PD.PRIV_CHANNELS "PRIV_CHANNELS" 2 (.table []) [("LAYER", 3, 2), ("CHANNEL", 4, 4)],
  tab PD.STAGE_TABLE "STAGE_TABLE" 2 (.table []) [("TENSOR", 4, 4), ("DIRECTION", 2, 1), ("PALLET", 2, 1), ("SLOT", 2, 1), ("PEER_TENSOR", 4, 4)],
  sca PD.BOND_ALONE "BOND_ALONE" 1 2 0 .any,
  sca PD.BOND_BAND_FLOOR "BOND_BAND_FLOOR" 8 2 0x3C800000 (.f32 1 2139095039),
  sca PD.BOND_BAND_FACTOR "BOND_BAND_FACTOR" 8 2 0x40800000 (.f32 1065353216 2139095039),
  sca PD.BOND_PERSIST "BOND_PERSIST" 2 2 2 (.nat 1 8)]

def metas12 : List Meta := [
  sca PD.BOND_DISAGREE "BOND_DISAGREE" 5 0 0 .any,
  tab PD.BOND_CONTESTED "BOND_CONTESTED" 0 (.table []) ([("LAYER", 3, 2), ("PANE", 4, 4), ("SUSPECT", 2, 1)] ++ run "R" 9 8 8),
  sca PD.BOND_RBAR "BOND_RBAR" 9 0 0 .any,
  sca PD.UPD_LR "UPD_LR" 8 3 0x38D1B717 (.f32 0 2139095039),
  sca PD.UPD_BETA1 "UPD_BETA1" 8 2 0x3F666666 (.f32 0 1065353215),
  sca PD.UPD_BETA2 "UPD_BETA2" 8 2 0x3F7FBE77 (.f32 0 1065353215),
  sca PD.UPD_BETA_STAT "UPD_BETA_STAT" 8 2 0x3F7D70A4 (.f32 0 1065353215),
  sca PD.UPD_EPS_DIAG "UPD_EPS_DIAG" 8 2 0x322BCC77 (.f32 1 2139095039),
  sca PD.UPD_WEIGHT_DECAY "UPD_WEIGHT_DECAY" 8 3 0 (.f32 0 2139095039),
  sca PD.ROOT_INTERVAL "ROOT_INTERVAL" 3 2 0x20 (.nat 1 4096),
  sca PD.ROOT_EPS_REL "ROOT_EPS_REL" 8 2 0x358637BD (.f32 1 2139095039),
  sca PD.ROOT_RETRIES "ROOT_RETRIES" 2 2 4 (.nat 0 8),
  sca PD.ROOT_MAX_ITER "ROOT_MAX_ITER" 2 2 0x18 (.nat 4 64),
  sca PD.ROOT_TOL "ROOT_TOL" 8 2 0x3A83126F (.f32 1 2139095039),
  sca PD.ROOT_RESID_MAX "ROOT_RESID_MAX" 8 2 0x3C23D70A (.f32 1 2139095039),
  sca PD.QUANT_HYST "QUANT_HYST" 8 2 0x3DCCCCCD (.f32 0 1055286886),
  tab PD.UPD_LAYER_TABLE "UPD_LAYER_TABLE" 2 (.table []) [("RULE", 2, 1), ("LR_MULT", 8, 4), ("DECAY", 1, 1)],
  sca PD.UPD_IMAGE_REGION "UPD_IMAGE_REGION" 3 2 0 (.nat 1 65535),
  sca PD.UPD_IMAGE_CMD "UPD_IMAGE_CMD" 2 4 0 .any,
  sca PD.UPD_IMAGE_RESULT "UPD_IMAGE_RESULT" 2 0 0 .any,
  sca PD.UPD_IMAGE_LENGTH "UPD_IMAGE_LENGTH" 5 0 0 .any,
  sca PD.UPD_PANES "UPD_PANES" 5 0 0 .any,
  sca PD.ROOT_FIRST "ROOT_FIRST" 5 0 0 .any,
  sca PD.ROOT_DAMPED "ROOT_DAMPED" 5 0 0 .any,
  sca PD.ROOT_KEPT "ROOT_KEPT" 5 0 0 .any]

def metas13 : List Meta := [
  sca PD.ROOT_DIAG "ROOT_DIAG" 5 0 0 .any,
  sca PD.ROOT_ZERO "ROOT_ZERO" 5 0 0 .any,
  sca PD.ROOT_OVERRUN "ROOT_OVERRUN" 5 0 0 .any,
  sca PD.UPD_NONFINITE "UPD_NONFINITE" 5 0 0 .any,
  sca PD.QUANT_CODES_CHANGED "QUANT_CODES_CHANGED" 5 0 0 .any,
  sca PD.QUANT_SCALES_REPLACED "QUANT_SCALES_REPLACED" 5 0 0 .any,
  tab PD.UPD_PANE_TABLE "UPD_PANE_TABLE" 0 (.table []) [("LAYER", 3, 2), ("PANE", 4, 4), ("DIE", 2, 1), ("RULE", 2, 1), ("U", 5, 8), ("ROOTS", 2, 1), ("OUT_L", 2, 1), ("OUT_R", 2, 1), ("EPS_L", 8, 4), ("EPS_R", 8, 4), ("JOB", 2, 1)],
  sca PD.LINK_POLICY "LINK_POLICY" 2 2 0 (.nat 0 1),
  sca PD.SWAP_TOLERATE "SWAP_TOLERATE" 1 2 0 .any,
  sca PD.MANIFEST_MATCH "MANIFEST_MATCH" 1 2 1 .any,
  sca PD.PALLET_NUMBER "PALLET_NUMBER" 2 2 0 (.nat 0 63),
  sca PD.DISCOVERY_WINDOW_MS "DISCOVERY_WINDOW_MS" 3 2 0x7D0 (.nat 500 10000),
  tab PD.WIRING_PLAN "WIRING_PLAN" 2 (.table []) [("PRESENT", 1, 1), ("SIDE", 2, 1), ("PALLET", 2, 1), ("SLOT", 2, 1)],
  tab PD.ROUTE_TABLE "ROUTE_TABLE" 2 (.table []) [("PALLET", 2, 1), ("SLOT", 2, 1), ("PORT", 2, 1)],
  sca PD.PORT11_ROLE "PORT11_ROLE" 2 2 0 (.nat 0 1),
  sca PD.RETRAIN_LIMIT_MS "RETRAIN_LIMIT_MS" 3 2 0x3E8 (.nat 10 60000),
  sca PD.DISCOVERY_RESTART "DISCOVERY_RESTART" 2 4 0 .any,
  tab PD.PORT_TABLE "PORT_TABLE" 0 (.table []) ([("STATE", 2, 1), ("LOGICAL", 2, 1), ("FRAME", 11, 128), ("VERSION", 2, 1)] ++ run "COUNT" 5 8 6),
  tab PD.LOGICAL_MAP "LOGICAL_MAP" 0 (.table []) [("PHYSICAL", 2, 1)],
  sca PD.DISCOVERY_STATE "DISCOVERY_STATE" 2 0 0 .any,
  tab PD.DISCOVERY_FINDINGS "DISCOVERY_FINDINGS" 0 (.table []) [("CODE", 2, 1), ("LOGICAL", 2, 1), ("PHYSICAL", 2, 1), ("EXPECTED", 5, 8), ("SEEN", 5, 8)],
  sca PD.KL_PROTO_MIN "KL_PROTO_MIN" 2 0 1 .any,
  sca PD.KL_PROTO_MAX "KL_PROTO_MAX" 2 0 1 .any,
  sca PD.FEC_CORRECTED "FEC_CORRECTED" 5 0 0 .any,
  sca PD.FEC_UNCORRECTABLE "FEC_UNCORRECTABLE" 5 0 0 .any]

def metas14 : List Meta := [
  sca PD.FLIT_CRC_ERR "FLIT_CRC_ERR" 5 0 0 .any,
  sca PD.FLIT_REPLAYS "FLIT_REPLAYS" 5 0 0 .any,
  sca PD.LINK_RETRAINS "LINK_RETRAINS" 5 0 0 .any,
  sca PD.LINK_DROPS "LINK_DROPS" 5 0 0 .any,
  sca PD.FLITS_FORWARDED "FLITS_FORWARDED" 5 0 0 .any,
  sca PD.FLITS_NO_ROUTE "FLITS_NO_ROUTE" 5 0 0 .any,
  sca PD.MSG_REASSEMBLY_DROPS "MSG_REASSEMBLY_DROPS" 5 0 0 .any,
  sca PD.FLITS_FLUSHED "FLITS_FLUSHED" 5 0 0 .any,
  sca PD.IDENTITY_CHANGES "IDENTITY_CHANGES" 5 0 0 .any,
  sca PD.SLOW_CAPACITY "SLOW_CAPACITY" 5 0 0 .any,
  tab PD.SLOW_CHANNEL_TABLE "SLOW_CHANNEL_TABLE" 0 (.table []) [("FITTED", 1, 1), ("CAPACITY", 5, 8), ("RANKS", 2, 1), ("TRAINED", 1, 1), ("USED", 5, 8)],
  sca PD.SLOW_PPR "SLOW_PPR" 1 2 1 .any,
  sca PD.SCRUB_PERIOD_STACK "SCRUB_PERIOD_STACK" 3 2 0x18 (.nat 1 168),
  sca PD.SCRUB_PERIOD_SLOW "SCRUB_PERIOD_SLOW" 3 2 0x18 (.nat 1 168),
  sca PD.SCRUB_PERIOD_SRAM "SCRUB_PERIOD_SRAM" 3 2 1 (.nat 1 24),
  tab PD.SCRUB_PASS_TABLE "SCRUB_PASS_TABLE" 0 (.table []) [("PASSES", 5, 8), ("LAST", 13, 8)],
  sca PD.GUARD_CORRECTED "GUARD_CORRECTED" 5 0 0 .any,
  sca PD.GUARD_UNCORRECTABLE "GUARD_UNCORRECTABLE" 5 0 0 .any,
  sca PD.GUARD_REISSUE_OK "GUARD_REISSUE_OK" 5 0 0 .any,
  sca PD.SEAL_MISMATCH "SEAL_MISMATCH" 5 0 0 .any,
  sca PD.SEAL_REPAIRED "SEAL_REPAIRED" 5 0 0 .any,
  sca PD.SCRUB_WRITEBACKS "SCRUB_WRITEBACKS" 5 0 0 .any,
  sca PD.SCRUB_WRITEBACK_DROPPED "SCRUB_WRITEBACK_DROPPED" 5 0 0 .any,
  tab PD.GUARD_STORE_TABLE "GUARD_STORE_TABLE" 0 (.table []) [("CORRECTED", 5, 8), ("UNCORRECTABLE", 5, 8)],
  tab PD.WEAK_TABLE "WEAK_TABLE" 0 (.table []) [("STORE", 2, 1), ("DIE", 2, 1), ("ROW", 5, 8), ("STATE", 2, 1)]]

def metas15 : List Meta := [
  sca PD.BAR2_DISCARDED "BAR2_DISCARDED" 5 0 0 .any,
  sca PD.BAR2_ABORTS "BAR2_ABORTS" 5 0 0 .any,
  tab PD.ADC_INT_CORR "ADC_INT_CORR" 0 (.table []) [("OFS", 3, 2), ("GAIN", 8, 4)],
  tab PD.ADC_EXT_CORR "ADC_EXT_CORR" 2 (.table (List.replicate 32 extCorr)) [("OFS", 3, 2), ("GAIN", 8, 4)],
  tab PD.ADC_GROUPS "ADC_GROUPS" 2 (.table groupDefault) ([("TRIGGER", 2, 1), ("TIMER", 2, 1), ("COURSE_PHASE", 3, 2), ("INTERVAL", 3, 2), ("URGENT", 1, 1), ("CAPTURE", 1, 1), ("ROUNDS", 2, 1)] ++ run "CHAN" 2 1 128),
  sca PD.ADC_TRIGGER "ADC_TRIGGER" 2 4 0 .any,
  sca PD.ADC_TRIGGER_RESULT "ADC_TRIGGER_RESULT" 2 0 0 .any,
  tab PD.ADC_RESULTS "ADC_RESULTS" 0 (.table []) [("CODE", 3, 2), ("VALUE", 8, 4), ("OVR", 1, 1), ("UNR", 1, 1), ("STALE", 1, 1), ("GROUP", 2, 1), ("CTIME", 13, 8)],
  sca PD.ADC_URGENT_DROPPED "ADC_URGENT_DROPPED" 5 0 0 .any,
  sca PD.ADC_TRIGGER_MERGED "ADC_TRIGGER_MERGED" 5 0 0 .any,
  sca PD.ADC_RANGE_FLAGS "ADC_RANGE_FLAGS" 5 0 0 .any,
  tab PD.ADC_CAPTURE "ADC_CAPTURE" 0 (.table []) ([("GROUP", 2, 1), ("ROUND", 2, 1), ("CTIME", 13, 8)] ++ run "CODE" 3 2 8),
  sca PD.ADC_SAMPLES "ADC_SAMPLES" 5 0 0 .any,
  sca PD.ADC_ROTATION_S "ADC_ROTATION_S" 3 2 0x3C (.nat 10 3600),
  tab PD.ADC_SLICE_TABLE "ADC_SLICE_TABLE" 0 (.table []) [("SLICE", 2, 1), ("CTIME", 13, 8), ("ROTATIONS", 5, 8)],
  tab PD.TIMER_TABLE "TIMER_TABLE" 2 (.table [[1000000, 1], [40000, 0], [0, 0], [0, 0], [0, 0], [0, 0], [0, 0], [0, 0], [0, 0], [0, 0], [0, 0], [0, 0], [0, 0], [0, 0], [0, 0], [0, 0]]) [("PERIOD_NS", 4, 4), ("ALIGN", 1, 1)],
  tab PD.DIE_T16 "DIE_T16" 0 (.table []) [("T16", 3, 2)],
  tab PD.PWM_TABLE "PWM_TABLE" 1 (.table pwmDefault) [("ENABLE", 1, 1), ("DUTY", 3, 2), ("FAILSAFE", 2, 1)],
  sca PD.PWM_TIMER "PWM_TIMER" 2 2 1 (.nat 0 15),
  tab PD.TACH_TABLE "TACH_TABLE" 2 (.table (List.replicate 8 [0, 0x3F800000, 100])) [("ENABLE", 1, 1), ("PULSES_PER_UNIT", 8, 4), ("STALL_MS", 3, 2)],
  tab PD.TACH_RESULTS "TACH_RESULTS" 0 (.table []) [("FREQUENCY", 8, 4), ("RATE", 8, 4), ("STALL", 1, 1)],
  tab PD.PMB_DEVICE_TABLE "PMB_DEVICE_TABLE" 2 (.table []) [("ADDRESS", 2, 1), ("RAIL", 10, 16), ("POLL_MS", 3, 2)],
  tab PD.PMB_RESULTS "PMB_RESULTS" 0 (.table []) [("VOUT", 8, 4), ("IOUT", 8, 4), ("TEMPERATURE", 8, 4), ("STATUS_WORD", 3, 2), ("ABSENT", 1, 1)],
  oct PD.PMB_XFER "PMB_XFER" 11 4 0 (.bytes (zeros 0)),
  oct PD.PMB_XFER_RESULT "PMB_XFER_RESULT" 11 0 33 (.bytes (zeros 33))]

def metas16 : List Meta := [
  sca PD.PMB_ERRORS "PMB_ERRORS" 5 0 0 .any,
  sca PD.LEVEL_CAP_W "LEVEL_CAP_W" 8 1 0x453B8000 (.f32 1140457472 1161527296),
  sca PD.LEVEL_TIMER "LEVEL_TIMER" 2 2 0 (.nat 0 15),
  sca PD.LEVEL_GROUP "LEVEL_GROUP" 2 2 0 (.nat 0 15),
  sca PD.LEVEL_PEAK_W "LEVEL_PEAK_W" 8 2 0x45610000 (.f32 1140457472 1163984896),
  sca PD.THROTTLE_IN_W "THROTTLE_IN_W" 8 1 0x44BB8000 (.f32 1140457472 1161527296),
  sca PD.TJ_THROTTLE "TJ_THROTTLE" 8 2 0x42C80000 (.f32 1116471296 1120927744),
  sca PD.COOL_ALARM_CAP_W "COOL_ALARM_CAP_W" 8 1 0x44BB8000 (.f32 1140457472 1161527296),
  sca PD.COOL_INLET_CHAN "COOL_INLET_CHAN" 2 2 0xFF (.set [96, 97, 98, 99, 100, 101, 102, 103, 104, 105, 106, 107, 108, 109, 110, 111, 112, 113, 114, 115, 116, 117, 118, 119, 120, 121, 122, 123, 124, 125, 126, 127, 255]),
  sca PD.COOL_FLOW_TACH "COOL_FLOW_TACH" 2 2 0xFF (.set [0, 1, 2, 3, 4, 5, 6, 7, 255]),
  sca PD.FLOW_MIN "FLOW_MIN" 8 2 0x40C00000 .any,
  sca PD.LEAK_CHAN "LEAK_CHAN" 2 2 0xFF (.set [96, 97, 98, 99, 100, 101, 102, 103, 104, 105, 106, 107, 108, 109, 110, 111, 112, 113, 114, 115, 116, 117, 118, 119, 120, 121, 122, 123, 124, 125, 126, 127, 255]),
  sca PD.LEAK_THRESHOLD_V "LEAK_THRESHOLD_V" 8 2 0x3F666666 .any,
  sca PD.VALVE_EN "VALVE_EN" 1 2 0 .any,
  sca PD.VALVE_PWM "VALVE_PWM" 2 2 1 (.nat 0 7),
  sca PD.VALVE_TARGET "VALVE_TARGET" 8 2 0x42AA0000 .any,
  sca PD.VALVE_KP "VALVE_KP" 8 2 0x3D4CCCCD (.f32 0 2139095039),
  sca PD.VALVE_KI "VALVE_KI" 8 2 0x3CA3D70A (.f32 0 2139095039),
  sca PD.VALVE_MIN_DUTY "VALVE_MIN_DUTY" 8 2 0x3E4CCCCD (.f32 0 1065353216),
  sca PD.LEVEL_F "LEVEL_F" 2 0 0x40 .any,
  sca PD.LEVEL_P1 "LEVEL_P1" 8 0 0 .any,
  sca PD.LEVEL_ALARMS "LEVEL_ALARMS" 3 0 0 .any,
  sca PD.LEVEL_TICKS_LATE "LEVEL_TICKS_LATE" 5 0 0 .any,
  sca PD.LEVEL_FAST_CLAMPS "LEVEL_FAST_CLAMPS" 5 0 0 .any,
  sca PD.LEVEL_THROTTLE_TICKS "LEVEL_THROTTLE_TICKS" 5 0 0 .any]

def metas17 : List Meta := [
  sca PD.AUDIT_INTERVAL "AUDIT_INTERVAL" 3 2 0x40 (.nat 1 4096),
  sca PD.AUDIT_SUSPECT_FACTOR "AUDIT_SUSPECT_FACTOR" 2 2 8 (.nat 1 64),
  sca PD.AUDIT_RMS_FACTOR "AUDIT_RMS_FACTOR" 8 2 0x3FC00000 (.f32 1065353217 2139095039),
  sca PD.SUSPECT_STEPS "SUSPECT_STEPS" 4 2 0x2710 (.nat 1 4294967295),
  sca PD.RETIRE_CONFIRMS "RETIRE_CONFIRMS" 2 2 3 (.nat 1 15),
  sca PD.AUDITS_DONE "AUDITS_DONE" 5 0 0 .any,
  sca PD.AUDITS_ABANDONED "AUDITS_ABANDONED" 5 0 0 .any,
  sca PD.AUDIT_MISMATCHES "AUDIT_MISMATCHES" 5 0 0 .any,
  sca PD.AUDIT_DRIFTS "AUDIT_DRIFTS" 5 0 0 .any,
  sca PD.REPEATS_TRANSIENT "REPEATS_TRANSIENT" 5 0 0 .any,
  sca PD.REPEATS_CONFIRMED "REPEATS_CONFIRMED" 5 0 0 .any,
  sca PD.SUSPECTS_CLEARED "SUSPECTS_CLEARED" 5 0 0 .any,
  sca PD.SUSPECT_RETIREMENTS "SUSPECT_RETIREMENTS" 5 0 0 .any,
  sca PD.ESC_COINCIDENT "ESC_COINCIDENT" 5 0 0 .any,
  tab PD.SUSPECT_TABLE "SUSPECT_TABLE" 0 (.table []) [("DIE", 2, 1), ("BLOCK", 2, 1), ("CELL", 2, 1), ("CONFIRMATIONS", 2, 1), ("STEPS_LEFT", 4, 4), ("LAST_STEP", 5, 8)],
  tab PD.AUDIT_TABLE "AUDIT_TABLE" 0 (.table []) [("DIE", 2, 1), ("BLOCK", 2, 1), ("LAST_CLEAN", 5, 8), ("DUE", 5, 8), ("SUSPECT", 1, 1)],
  tab PD.FOREMAN_TABLE "FOREMAN_TABLE" 0 (.table []) [("REQUESTS", 5, 8), ("GRANTS", 5, 8), ("LONGEST_US", 4, 4)],
  tab PD.FOREMAN_QUEUE "FOREMAN_QUEUE" 0 (.table []) [("ACTIVITY", 2, 1), ("RESOURCE", 4, 4), ("ARRIVAL", 13, 8)],
  sca PD.FOREMAN_LATE "FOREMAN_LATE" 5 0 0 .any,
  sca PD.SPALL_NEWEST "SPALL_NEWEST" 5 0 0 .any,
  sca PD.SPALL_OLDEST "SPALL_OLDEST" 5 0 1 .any,
  sca PD.SPALL_SELECT "SPALL_SELECT" 5 1 0 .any,
  oct PD.SPALL_RECORD "SPALL_RECORD" 11 0 512 (.bytes (zeros 512)),
  sca PD.SPALL_ACK "SPALL_ACK" 5 1 0 .any,
  sca PD.SPALL_LOST "SPALL_LOST" 5 0 0 .any]

def metas18 : List Meta := [
  sca PD.SPALL_HOST_REGION "SPALL_HOST_REGION" 3 2 0 .any,
  sca PD.SPALL_COLLECTOR "SPALL_COLLECTOR" 3 2 0xFFFF (.mask 0x1FFF 65535),
  sca PD.SPALL_FLASH_EN "SPALL_FLASH_EN" 1 2 1 .any,
  sca PD.SPALL_FLASH_NEXT "SPALL_FLASH_NEXT" 4 0 0 .any,
  tab PD.FREEZE_MAP "FREEZE_MAP" 2 (.table []) [("DIE", 2, 1), ("KIND", 2, 1), ("OFFSET", 4, 4), ("LENGTH", 4, 4)],
  sca PD.FREEZE_RELEASE "FREEZE_RELEASE" 2 2 0 (.nat 0 1),
  sca PD.FREEZE_CMD "FREEZE_CMD" 2 4 0 .any,
  sca PD.FREEZE_AT "FREEZE_AT" 13 4 0 .any,
  sca PD.FREEZE_RESULT "FREEZE_RESULT" 2 0 0 .any,
  sca PD.FREEZE_COUNT "FREEZE_COUNT" 5 0 0 .any,
  sca PD.FREEZE_IGNORED "FREEZE_IGNORED" 5 0 0 .any,
  tab PD.FREEZE_LAST "FREEZE_LAST" 0 (.table []) [("TRIGGER", 2, 1), ("LATCH", 13, 8), ("FRAMES", 4, 4), ("UNCORR", 4, 4), ("FROZEN_NS", 5, 8)],
  sca PD.FW_OWNER_SIG_REQUIRED "FW_OWNER_SIG_REQUIRED" 1 2 0 .any,
  oct PD.FW_MANIFEST_DIGEST "FW_MANIFEST_DIGEST" 12 0 48 (.bytes (zeros 48)),
  tab PD.FW_MANIFEST "FW_MANIFEST" 0 (.table []) [("PART", 2, 1), ("PART_VERSION", 4, 4), ("LENGTH", 4, 4), ("BODY_DIGEST", 11, 48)],
  sca PD.FW_ROLLBACK_MIN "FW_ROLLBACK_MIN" 4 0 0 .any,
  sca PD.VENDOR_KEY_REVOKED "VENDOR_KEY_REVOKED" 2 0 0 .any,
  sca PD.FW_STAGE "FW_STAGE" 2 4 0 .any,
  sca PD.FW_PACKAGE_LENGTH "FW_PACKAGE_LENGTH" 4 1 0 (.nat 1024 532676608),
  oct PD.FW_DATA "FW_DATA" 11 4 1032 (.bytes (zeros 1032)),
  sca PD.FW_RECEIVED "FW_RECEIVED" 4 0 0 .any,
  sca PD.FW_STAGE_STATE "FW_STAGE_STATE" 2 0 0 .any,
  sca PD.FW_RESULT "FW_RESULT" 2 0 0 .any,
  sca PD.FW_ACTIVATE_AT "FW_ACTIVATE_AT" 13 4 0 .any,
  oct PD.FW_STAGED_DIGEST "FW_STAGED_DIGEST" 12 0 48 (.bytes (zeros 48))]

def metas19 : List Meta := [
  sca PD.FW_ACTIVATIONS "FW_ACTIVATIONS" 5 0 0 .any,
  sca PD.FW_PIECES_DISCARDED "FW_PIECES_DISCARDED" 5 0 0 .any,
  oct PD.ATTEST_REQ "ATTEST_REQ" 11 4 32 (.bytes (zeros 32)),
  sca PD.ATTEST_RESULT "ATTEST_RESULT" 2 0 0 .any,
  oct PD.ATTEST_REPORT "ATTEST_REPORT" 11 0 416 (.bytes (zeros 416)),
  oct PD.OWNER_KEY "OWNER_KEY" 11 5 97 (.bytes (zeros 97)),
  oct PD.PDX_MAC "PDX_MAC" 11 0 6 (.bytes (zeros 6)),
  oct PD.PDX_IPV6_ADDR "PDX_IPV6_ADDR" 11 2 16 (.bytes linkLocal),
  oct PD.PDX_IPV6_GATEWAY "PDX_IPV6_GATEWAY" 11 2 16 (.bytes (zeros 16)),
  sca PD.PDX_IPV4_ADDR "PDX_IPV4_ADDR" 4 2 0 .any,
  sca PD.PDX_SESSION_IDLE_S "PDX_SESSION_IDLE_S" 3 2 0x3C (.nat 5 3600),
  sca PD.MBOX_AUTH_REQUIRED "MBOX_AUTH_REQUIRED" 1 2 0 .any,
  oct PD.OWNER_KEY_DIGEST "OWNER_KEY_DIGEST" 12 0 48 (.bytes (zeros 48)),
  sca PD.PDX_IPV4_MASK "PDX_IPV4_MASK" 4 2 0 .any,
  sca PD.PDX_IPV4_GATEWAY "PDX_IPV4_GATEWAY" 4 2 0 .any,
  sca PD.PDX_FRAMES "PDX_FRAMES" 5 0 0 .any,
  sca PD.PDX_AUTH_DROPPED "PDX_AUTH_DROPPED" 5 0 0 .any,
  sca PD.PDX_BAD_FRAMES "PDX_BAD_FRAMES" 5 0 0 .any,
  sca PD.PDX_FORWARDED "PDX_FORWARDED" 5 0 0 .any,
  tab PD.PDX_SESSIONS "PDX_SESSIONS" 0 (.table []) [("SESSION_ID", 4, 4), ("TRANSPORT", 2, 1), ("PEER", 4, 4), ("IDLE_S", 4, 4), ("LAST_SEQUENCE", 5, 8)]]

/-- Every entry of the dictionary in index and subindex order. -/
def metas : List Meta :=
  metas00 ++ metas01 ++ metas02 ++ metas03 ++ metas04 ++ metas05 ++ metas06 ++ metas07 ++ metas08 ++ metas09 ++
  metas10 ++ metas11 ++ metas12 ++ metas13 ++ metas14 ++ metas15 ++ metas16 ++ metas17 ++ metas18 ++ metas19

/-- The metadata of an entry (R399). -/
def metaOf (k : Nat) : Option Meta := metas.find? fun m => m.key = k

/-- The default of an entry (R403). -/
def pdDefault (k : Nat) : PdVal :=
  match metaOf k with
  | some m => m.dflt
  | none => .num 0

/-- The highest subindex in use at an index; 0 when the index holds no entry (R399). -/
def highestSub (index : Nat) : Nat :=
  metas.foldl (fun h m => if m.key / 256 = index then max h (m.key % 256) else h) 0

/-- A value lies in the range of a scalar entry (R401, R540). -/
def Rng.admits (r : Rng) (ty n : Nat) : Bool :=
  (if ty = 8 then f32Finite n else if ty = 9 then f64Finite n else true) &&
  match r with
  | .any => true
  | .nat lo hi => lo ≤ n && n ≤ hi
  | .set l => l.contains n
  | .mult lo hi step => lo ≤ n && n ≤ hi && n % step = 0
  | .f32 lo hi => (fp32.decode lo).le (fp32.decode n) && (fp32.decode n).le (fp32.decode hi)
  | .mask m other => n &&& m = n || n = other

/-- Smallest and largest values that a write accepts, in the entry's encoding (R540). -/
def Rng.bounds (r : Rng) (ty : Nat) : Nat × Nat :=
  match r with
  | .nat lo hi => (lo, hi)
  | .set l => (l.foldl min (2 ^ 64), l.foldl max 0)
  | .mult lo hi _ => (lo, hi)
  | .f32 lo hi => (lo, hi)
  | .mask m other => (0, max m other)
  | .any =>
    if ty = 1 then (0, 1) else if ty = 8 then (0xFF7FFFFF, 0x7F7FFFFF)
    else if ty = 9 then (0xFFEFFFFFFFFFFFFF, 0x7FEFFFFFFFFFFFFF)
    else if ty = 6 then (0x80000000, 0x7FFFFFFF) else if ty = 7 then (0x8000000000000000, 0x7FFFFFFFFFFFFFFF)
    else (0, 256 ^ tySize ty - 1)

/-- Bytes of a table row. -/
def Meta.rowBytes (m : Meta) : Nat := total (m.cols.map fun c => c.2.2)

/-- A row packs its columns in order (R401). -/
def packCols : List (String × Nat × Nat) → List Nat → List Byte
  | [], _ => []
  | (_, _, n) :: cs, vs => le n (vs.headD 0) ++ packCols cs vs.tail

def unpackCols : List (String × Nat × Nat) → List Byte → List Nat
  | [], _ => []
  | (_, _, n) :: cs, bs => ofLe (bs.take n) :: unpackCols cs (bs.drop n)

/-- The R401 encoding of a value. -/
def Meta.encode (m : Meta) : PdVal → List Byte
  | .num n => le m.size n
  | .bytes b => b
  | .table rows => le 4 rows.length ++ le 2 m.rowBytes ++ le 2 0 ++ rows.flatMap (packCols m.cols)

/-- Every BOOL column of a row holds 0 or 1. -/
def colsOk : List (String × Nat × Nat) → List Nat → Bool
  | [], _ => true
  | (_, ty, _) :: cs, vs => (if ty = 1 then vs.headD 0 ≤ 1 else true) && colsOk cs vs.tail

/-- The value that a whole written string spells, if its length, encoding and column layout are right (R401, R404). -/
def Meta.parse (m : Meta) (b : List Byte) : Option PdVal :=
  if m.ty = 14 then
    let n := fieldAt b 0 4
    if 8 ≤ b.length ∧ fieldAt b 4 2 = m.rowBytes ∧ fieldAt b 6 2 = 0 ∧ b.length = 8 + n * m.rowBytes then
      let rows := (chunks m.rowBytes n (b.drop 8)).map (unpackCols m.cols)
      if rows.all (colsOk m.cols) then some (.table rows) else none
    else none
  else if m.ty = 10 ∨ m.ty = 11 ∨ m.ty = 12 then
    if m.size = 0 ∨ b.length = m.size then some (.bytes b) else none
  else if b.length = m.size then
    if m.ty = 1 ∧ 1 < ofLe b then none else some (.num (ofLe b))
  else none

end Sys2Proof.Machine
end

