-- ==== Sys2Proof/Machine/Kv.lean ====
section
/-! DEFINITION. Machine/Kv.lean: sparse tables. A table is a list of (key, value) pairs whose keys strictly rise and whose values
differ from the value `d k` that an unlisted key k reads as, so equal tables are equal lists. -/
namespace Sys2Proof.Machine

/-- The value of key `k`; `d` when it is not listed. -/
def kvGet {α : Type} (d : Nat → α) : List (Nat × α) → Nat → α
  | [], k => d k
  | (j, v) :: m, k => if j = k then v else kvGet d m k

/-- The entry (k, v), left out when v is what an unlisted key reads as. -/
def kvEntry {α : Type} [DecidableEq α] (d : Nat → α) (k : Nat) (v : α) : List (Nat × α) :=
  if v = d k then [] else [(k, v)]

/-- The table with key `k` at value `v`; canonical when the table was. -/
def kvSet {α : Type} [DecidableEq α] (d : Nat → α) : List (Nat × α) → Nat → α → List (Nat × α)
  | [], k, v => kvEntry d k v
  | (j, w) :: m, k, v =>
    if j = k then kvSet d m k v
    else if k < j then kvEntry d k v ++ (j, w) :: m.filter (fun x => decide (x.1 ≠ k))
    else (j, w) :: kvSet d m k v

/-- The table with `f` applied to the value of key `k`. -/
def kvMod {α : Type} [DecidableEq α] (d : Nat → α) (m : List (Nat × α)) (k : Nat) (f : α → α) : List (Nat × α) :=
  kvSet d m k (f (kvGet d m k))

/-- Every key of the table is above `k`. -/
def kvAbove {α : Type} (k : Nat) (m : List (Nat × α)) : Bool := m.all fun e => decide (k < e.1)

/-- The canonical form: keys strictly rising, no entry at `d`. -/
def kvWf {α : Type} [DecidableEq α] (d : Nat → α) : List (Nat × α) → Bool
  | [] => true
  | (j, v) :: m => decide (v ≠ d j) && kvAbove j m && kvWf d m

/-- Writes the values of a list at consecutive keys from `k`. -/
def kvSetList {α : Type} [DecidableEq α] (d : Nat → α) (m : List (Nat × α)) (k : Nat) : List α → List (Nat × α)
  | [] => m
  | v :: vs => kvSetList d (kvSet d m k v) (k + 1) vs

/-- The values at `n` consecutive keys from `k`. -/
def kvGetList {α : Type} (d : Nat → α) (m : List (Nat × α)) (k : Nat) : Nat → List α
  | 0 => []
  | n + 1 => kvGet d m k :: kvGetList d m (k + 1) n

end Sys2Proof.Machine
end

