-- ==== Sys2Proof/Machine/Ops.lean ====
section
/-! DEFINITION. Machine/Ops.lean: the named operations over the state that every family shares: dictionary values and counters, memory,
what leaves the module, interrupts, spall records, module states. -/
namespace Sys2Proof.Machine

/-! ## Dictionary values in force -/

/-- The value in force of an entry (R405). -/
def State.pdGet (s : State) (k : Nat) : PdVal := kvGet pdDefault s.pd k

def PdVal.toNat : PdVal → Nat
  | .num n => n
  | _ => 0

def PdVal.toRows : PdVal → List (List Nat)
  | .table r => r
  | _ => []

def PdVal.toBytes : PdVal → List Byte
  | .bytes b => b
  | _ => []

/-- A scalar entry's value in force, by its encoding. -/
def State.num (s : State) (k : Nat) : Nat := (s.pdGet k).toNat
/-- A BOOL entry's value in force. -/
def State.flag (s : State) (k : Nat) : Bool := s.num k ≠ 0
/-- A table entry's rows in force. -/
def State.rows (s : State) (k : Nat) : List (List Nat) := (s.pdGet k).toRows
/-- An F32 entry's value in force. -/
def State.fv (s : State) (k : Nat) : FV := fp32.decode (s.num k)

def State.pdSet (s : State) (k : Nat) (v : PdVal) : State := { s with pd := kvSet pdDefault s.pd k v }
def State.setNum (s : State) (k n : Nat) : State := s.pdSet k (.num n)
def State.setRows (s : State) (k : Nat) (r : List (List Nat)) : State := s.pdSet k (.table r)
def State.setBytes (s : State) (k : Nat) (b : List Byte) : State := s.pdSet k (.bytes b)

/-- A counter entry gains n, modulo 2^64 (DESIGN CHOICE, log 11). -/
def State.bumpBy (s : State) (k n : Nat) : State := s.setNum k ((s.num k + n) % 2 ^ 64)
def State.bump (s : State) (k : Nat) : State := s.bumpBy k 1

/-- A log table takes a row and keeps its last n. -/
def pushLast {α : Type} (n : Nat) (l : List α) (x : α) : List α := (l ++ [x]).drop (l.length + 1 - n)

/-! ## What leaves the module -/

def State.emit (s : State) (o : Out) : State := { s with outs := s.outs ++ [o] }
def State.emits (s : State) (os : List Out) : State := { s with outs := s.outs ++ os }

/-- The index of a fresh free value, and the state that has taken it. -/
def State.fresh (s : State) : Nat × State := (s.free, { s with free := s.free + 1 })

/-! ## Memory (R338, R347, R352)

Store numbers: 0-7 staging of GD0-GD7, 8-15 frog of GD0-GD7, 16-23 stacks MS0-MS7, 24-25 hub SRAM, 26-27 update-die SRAM, 28-29 slow tier
of UD0 and UD1 by die-local byte address, 30 flash. -/

def stStaging (n : Nat) : Nat := n
def stFrog (n : Nat) : Nat := 8 + n
def stStack (n : Nat) : Nat := 16 + n
def stHub (n : Nat) : Nat := 24 + n
def stUpd (n : Nat) : Nat := 26 + n
def stSlow (n : Nat) : Nat := 28 + n
def stFlash : Nat := 30

/-- The key of a byte of a store. -/
def memKey (store addr : Nat) : Nat := store * 2 ^ 48 + addr

/-- What a byte that nothing has written reads as: zero words in every store (R347), erased bytes in flash (DESIGN CHOICE, log 5). -/
def memDefault (k : Nat) : Byte := if k / 2 ^ 48 = stFlash then 0xFF else 0

/-- Memory is in canonical form. -/
def Memory.wf (m : List Host.Cell) : Bool := kvWf memDefault m

def State.readByte (s : State) (store addr : Nat) : Byte := kvGet memDefault s.mem (memKey store addr)
def State.read (s : State) (store addr n : Nat) : List Byte := kvGetList memDefault s.mem (memKey store addr) n
def State.write (s : State) (store addr : Nat) (bs : List Byte) : State :=
  { s with mem := kvSetList memDefault s.mem (memKey store addr) bs }

/-- Every byte of a store goes back to what it reads as before any write. -/
def State.clearStore (s : State) (store : Nat) : State := { s with mem := s.mem.filter fun c => c.1 / 2 ^ 48 ≠ store }

/-- Where a BAR2 offset leads (R352): a store and an address; none for unbacked space. -/
def bar2Map (o : Nat) : Option (Nat × Nat) :=
  if o < 0x80000000 then
    let n := o / 0x10000000
    let a := o % 0x10000000
    if a < 0x0C000000 then some (stStaging n, a) else none
  else
    let p := o - 0x80000000
    let n := p / 0x1F0000000
    if n < 8 then some (stStack n, p % 0x1F0000000) else none

/-- The BAR2 offset of a byte of a store, where it has one (R352, R354). -/
def bar2Of (store addr : Nat) : Option Nat :=
  if store < 8 then some (store * 0x10000000 + addr)
  else if 16 ≤ store ∧ store < 24 ∧ addr < 0x1F0000000 then some (0x80000000 + (store - 16) * 0x1F0000000 + addr)
  else none

/-- Reads n bytes through the window, byte by byte; unbacked offsets read zero (R353). -/
def State.readBar2 (s : State) (o : Nat) : Nat → List Byte
  | 0 => []
  | n + 1 => (match bar2Map o with
    | some (st, a) => s.readByte st a
    | none => 0) :: s.readBar2 (o + 1) n

/-- Writes bytes through the window; unbacked offsets are discarded. -/
def State.writeBar2 (s : State) (o : Nat) : List Byte → State
  | [] => s
  | b :: bs => (match bar2Map o with
    | some (st, a) => s.write st a [b]
    | none => s).writeBar2 (o + 1) bs

/-! ## Endpoints and interrupts (R389-R391) -/

def State.ep (s : State) (i : Ep) : Endpoint := if i = 0 then s.ep0 else s.ep1
def State.setEp (s : State) (i : Ep) (e : Endpoint) : State := if i = 0 then { s with ep0 := e } else { s with ep1 := e }

/-- The MSI-X table at reset: zero, with every vector's mask bit set as PCI Express resets it (PRESUMED, log 12). -/
def msixDefault (k : Nat) : W32 := if k % 4 = 3 then 1 else 0

/-- The vector is masked in the MSI-X table. -/
def Endpoint.vectorMasked (e : Endpoint) (v : Nat) : Bool := (kvGet msixDefault e.msix (v * 4 + 3)).getLsbD 0

/-- A message on a vector of an endpoint with MSI-X enabled: sent, or pending while the vector is masked (R390). Nothing is sent in
FROZEN (R396). -/
def State.sendVector (s : State) (i : Ep) (v : Nat) : State :=
  let e := s.ep i
  if s.mode = .frozen then s
  else if e.vectorMasked v then s.setEp i { e with pending := if e.pending.contains v then e.pending else e.pending ++ [v] }
  else s.emit (.msix i v)

/-- Cause k on one endpoint (R390). -/
def State.causeAt (s : State) (i : Ep) (k : Nat) : State :=
  let e := s.ep i
  if e.linkUp then
    if e.status.getLsbD k then s
    else
      let s' := s.setEp i { e with status := e.status ||| (1#16 <<< k) }
      if !e.mask.getLsbD k && e.msixOn then s'.sendVector i k else s'
  else s

/-- A device cause on both endpoints (R389, R390). -/
def State.cause (s : State) (k : Nat) : State := (s.causeAt 0 k).causeAt 1 k

def irqVerdict : Nat := 0
def irqStream : Nat := 1
def irqState : Nat := 2
def irqMailbox : Nat := 3
def irqCommand : Nat := 4
def irqSpall : Nat := 5
def irqCourse : Nat := 6
def irqLink : Nat := 7
def irqPower : Nat := 8
def irqFirmware : Nat := 9

/-- A result entry takes its final value, with cause COMMAND (R389). -/
def State.result (s : State) (k v : Nat) : State := (s.setNum k v).cause irqCommand

/-! ## Course time -/

/-- Published course time (R43). -/
def Course.time (c : Course) : CTime := c.count ++ c.acc.extractLsb' 32 16

def State.ctime (s : State) : CTime := s.course.time

/-- Deadlines and events exist while the unit is LOCKED or HOLDOVER (R53). -/
def State.timed (s : State) : Bool := s.course.st = .locked || s.course.st = .holdover

/-! ## Spall records (R484-R486) -/

def Mode.code : Mode → Nat
  | .off => 0 | .reset => 1 | .boot => 2 | .calibrate => 3 | .held => 4 | .armed => 5 | .run => 6 | .drain => 7
  | .frozen => 8 | .coast => 9 | .fault => 10 | .loader => 11

/-- The head of a CBOR item in the shortest form (RFC 8949 section 4.2.1). -/
def cborHead (major n : Nat) : List Byte :=
  if n < 24 then [BitVec.ofNat 8 (major * 32 + n)]
  else if n < 2 ^ 8 then BitVec.ofNat 8 (major * 32 + 24) :: be 1 n
  else if n < 2 ^ 16 then BitVec.ofNat 8 (major * 32 + 25) :: be 2 n
  else if n < 2 ^ 32 then BitVec.ofNat 8 (major * 32 + 26) :: be 4 n
  else BitVec.ofNat 8 (major * 32 + 27) :: be 8 n

def cborUint (n : Nat) : List Byte := cborHead 0 n
def cborArray (l : List Nat) : List Byte := cborHead 4 l.length ++ l.flatMap cborUint
def cborNull : List Byte := [0xF6]
def cborTrue : List Byte := [0xF5]
def cborOpt : Option Nat → List Byte
  | some n => cborUint n
  | none => cborNull

/-- One spall to record: kind, level, place, mechanism, outcome, encoded detail entries in key order, and the optional keys 15 and 16. -/
structure Spall where
  kind : Nat
  level : Nat
  die : Nat := 28
  block : Option Nat := none
  cell : Option Nat := none
  mech : Nat
  outcome : Nat := 0
  detail : List (List Byte) := []
  /-- manifest digest of the package concerned, in kinds 0x32 and 0x40 -/
  manifest : List Byte := []
  span : Option (Nat × Nat) := none
  causeSeq : Option Nat := none
  deriving DecidableEq, Repr

/-- Detail entry with a uint value. -/
def detailUint (key n : Nat) : List Byte := cborUint key ++ cborUint n
def detailArray (key : Nat) (l : List Nat) : List Byte := cborUint key ++ cborArray l

/-- The record of a spall with its detail cut to the entries given; `cut` writes key 17 (R485). -/
def spallBytes (s : State) (seq : Nat) (p : Spall) (detail : List (List Byte)) (cut : Bool) : List Byte :=
  let ext := b2n (!detail.isEmpty) + b2n (!p.manifest.isEmpty) + b2n p.span.isSome + b2n p.causeSeq.isSome + b2n cut
  cborHead 5 (13 + ext)
  ++ detailUint 0 1 ++ detailUint 1 seq ++ detailUint 2 Config.serial.toNat
  ++ cborUint 3 ++ (if s.course.st = .unlocked then cborNull else cborUint s.ctime.toNat)
  ++ detailUint 4 (s.num PD.STEP_NUMBER) ++ detailUint 5 (s.num PD.STEP_ATTEMPT)
  ++ detailUint 6 p.kind ++ detailUint 7 p.level
  ++ cborUint 8 ++ cborHead 4 3 ++ cborUint p.die ++ cborOpt p.block ++ cborOpt p.cell
  ++ detailUint 9 p.mech ++ detailUint 10 p.outcome ++ detailUint 11 s.mode.code
  ++ detailUint 12 (if s.step.opened then s.num PD.STEP_REASONS else 0)
  ++ (if detail.isEmpty then [] else cborUint 13 ++ cborHead 5 detail.length ++ detail.flatten)
  ++ (if p.manifest.isEmpty then [] else cborUint 14 ++ cborHead 2 8 ++ padTo 8 (p.manifest.take 8))
  ++ (match p.span with
    | some (a, b) => detailArray 15 [a, b]
    | none => [])
  ++ (match p.causeSeq with
    | some q => detailUint 16 q
    | none => [])
  ++ (if cut then cborUint 17 ++ cborTrue else [])

/-- The record of a spall, its detail dropped from the highest key down until it fits 512 bytes (R485). -/
def spallFit (s : State) (seq : Nat) (p : Spall) : Nat → List Byte
  | 0 => spallBytes s seq p [] true
  | n + 1 =>
    let d := p.detail.take (n + 1)
    let b := spallBytes s seq p d (decide (d.length < p.detail.length))
    if b.length ≤ 512 then b else spallFit s seq p n

def spallRecord (s : State) (seq : Nat) (p : Spall) : List Byte :=
  if p.detail.isEmpty then spallBytes s seq p [] false else spallFit s seq p p.detail.length

/-- A record enters the ring of 4,096 under the next SEQ; an overwritten record above SPALL_ACK is lost (R486). -/
def State.ringPush (s : State) (rec : List Byte) : State :=
  let seq := s.num PD.SPALL_NEWEST + 1
  let ring := s.faults.ring ++ [(seq, rec)]
  let s := s.setNum PD.SPALL_NEWEST seq
  if ring.length ≤ 4096 then { s with faults := { s.faults with ring := ring } }
  else
    let old : Nat := (ring.head?.map (·.1)).getD 0
    let s := { s with faults := { s.faults with ring := ring.tail } }
    if s.num PD.SPALL_ACK < old then s.bump PD.SPALL_LOST else s

/-- Records a spall and raises cause SPALL (R486). -/
def State.spall (s : State) (p : Spall) : State :=
  (s.ringPush (spallRecord s (s.num PD.SPALL_NEWEST + 1) p)).cause irqSpall

/-! ## The open step (R275, R282) -/

def rsNonfinite : Nat := 0
def rsPlumb : Nat := 1
def rsStorm : Nat := 2
def rsFault : Nat := 3
def rsCourse : Nat := 4
def rsExchange : Nat := 5
def rsBond : Nat := 6
def rsMissing : Nat := 7
def rsHost : Nat := 8
def rsAudit : Nat := 9
def rsPlacement : Nat := 10

/-- n with bit i set. -/
def orBit (n i : Nat) : Nat := if bit n i then n else n + 2 ^ i

/-- Records a reason on the attempt under way; nothing without one (R282). -/
def State.reason (s : State) (r : Nat) : State :=
  if s.step.opened || s.step.attempt then s.setNum PD.STEP_REASONS (orBit (s.num PD.STEP_REASONS) r) else s

/-- Records a reason on the attempt under way, or on the next one without one (R114, R350). -/
def State.reasonOrNext (s : State) (r : Nat) : State :=
  if s.step.opened || s.step.attempt then s.reason r else { s with step := { s.step with nextReasons := orBit s.step.nextReasons r } }

/-! ## Module states (R455) -/

def Mode.readyPin (m : Mode) (was : Bool) : Bool :=
  match m with
  | .held | .armed | .run | .drain => true
  | .frozen => was
  | _ => false

def Mode.faultPin (m : Mode) (was : Bool) : Bool :=
  match m with
  | .fault => false
  | .coast | .frozen => was
  | _ => true

/-- The module takes a state: its pins follow the table of R455, and a change of STATE or READY raises cause STATE (R389); the entry to
FROZEN raises nothing, because the interrupt logic has stopped (R396). -/
def State.enter (s : State) (m : Mode) : State :=
  let r := m.readyPin s.ready
  let s' := { s with mode := m, ready := r, faultN := m.faultPin s.faultN }
  if m ≠ .frozen ∧ (m ≠ s.mode ∨ r ≠ s.ready) then s'.cause irqState else s'

/-- States in which the course unit, the streams and the dictionary's configuration work: from HELD to DRAIN. -/
def Mode.working : Mode → Bool
  | .held | .armed | .run | .drain => true
  | _ => false

/-- RUN or DRAIN, where descriptors enter (R87). -/
def Mode.running : Mode → Bool
  | .run | .drain => true
  | _ => false

/-- The hub firmware answers: not without supplies, in RESET, with the clocks stopped, or in COAST. -/
def Mode.hubRuns : Mode → Bool
  | .off | .reset | .frozen | .coast => false
  | _ => true

/-- Applies a state function n times' worth of list items in order. -/
def State.each {α : Type} (s : State) (l : List α) (f : State → α → State) : State := l.foldl f s

/-- The outcome of a meaning that goes on. -/
abbrev Res := Host.Outcome State Fault Refusal

end Sys2Proof.Machine
end

