-- ==== Sys2Proof/Machine/LinkOps.lean ====
section
/-! DEFINITION. Machine/LinkOps.lean: Kenlink as every family uses it: addresses, the wiring plan, routing, flits, and the sending of
messages (R359-R372). -/
namespace Sys2Proof.Machine

/-- A module's address: side, pallet, slot (R368). -/
structure Addr where
  side : Nat
  pallet : Nat
  slot : Nat
  deriving DecidableEq, Repr

def State.self (s : State) : Addr := ⟨b2n s.bondSide, s.num PD.PALLET_NUMBER, s.slotId.toNat⟩
def State.twin (s : State) : Addr := { s.self with side := 1 - s.self.side }

/-- The torus neighbours of a slot in the order +x, −x, +y, −y (R369). -/
def torus (slot : Nat) : List Nat :=
  let x := slot % 8
  let y := slot / 8
  [(x + 1) % 8 + 8 * y, (x + 7) % 8 + 8 * y, x + 8 * ((y + 1) % 4), x + 8 * ((y + 3) % 4)]

/-- The default wiring plan of R375: rows of present, side, pallet, slot. -/
def torusPlan (a : Addr) : List (List Nat) :=
  ((List.range 8).map fun p => [1, a.side, a.pallet, ((torus a.slot)[p / 2]?).getD 0]) ++ List.replicate 4 [0, 0, 0, 0]

/-- The wiring plan in force. -/
def State.wiring (s : State) : List (List Nat) :=
  if (s.rows PD.WIRING_PLAN).isEmpty then torusPlan s.self else s.rows PD.WIRING_PLAN

/-- The peer that logical port p expects; none when it is ABSENT. -/
def State.expected (s : State) (p : Nat) : Option Addr :=
  match s.wiring[p]? with
  | some [1, a, b, c] => some ⟨a, b, c⟩
  | _ => none

def State.port (s : State) (p : Nat) : LinkPort := kvGet (fun _ => {}) s.link.ports p
def State.setPort (s : State) (p : Nat) (l : LinkPort) : State :=
  { s with link := { s.link with ports := kvSet (fun _ => {}) s.link.ports p l } }

/-- The physical port of a logical port (R378). -/
def State.physical (s : State) (logical : Nat) : Option Nat := (s.link.logical[logical]?).getD none
/-- The logical port of a physical port. -/
def State.logicalOf (s : State) (phys : Nat) : Option Nat := (List.range 12).find? fun l => s.physical l = some phys

/-- A port can carry a message: ACTIVE, or retraining with its replay buffer kept (R372). -/
def LinkPort.usable (l : LinkPort) : Bool := l.st = .active || l.retraining

/-- A routing decision: deliver here, a logical port, or no route (R371, R372). -/
inductive Route where
  | here
  | out (logical : Nat)
  | none
  deriving DecidableEq, Repr

/-- The port of a pair that a FIRST flit takes: the one of its tag's parity when ACTIVE, else the other; none when neither is usable. -/
def State.pick (s : State) (first : Nat) (tag : Nat) : Route :=
  let a := if tag % 2 = 0 then first else first + 1
  let b := if tag % 2 = 0 then first + 1 else first
  let act : Nat → Bool := fun l => match s.physical l with
    | some p => (s.port p).st = .active
    | Option.none => false
  let use : Nat → Bool := fun l => match s.physical l with
    | some p => (s.port p).usable
    | Option.none => false
  if act a then .out a else if act b then .out b else if use a then .out a else if use b then .out b else .none

/-- A single port, when it is usable. -/
def State.pickOne (s : State) (l : Nat) : Route :=
  match s.physical l with
  | some p => if (s.port p).usable then .out l else .none
  | Option.none => .none

/-- The routing procedure of R371 with the discards of R372. -/
def State.route (s : State) (d : Addr) (tag : Nat) : Route :=
  let me := s.self
  if d = me then .here
  else if d.side ≠ me.side ∧ d.pallet = me.pallet ∧ d.slot = me.slot then
    if s.num PD.PORT11_ROLE = 0 then s.pickOne 11 else .none
  else
    let torusTo := fun target =>
      let dx := (target % 8 + 8 - me.slot % 8) % 8
      let dy := (target / 8 + 4 - me.slot / 8 % 4) % 4
      let dir := if dx ≠ 0 then (if dx ≤ 4 then 0 else 1) else if dy ≤ 2 then 2 else 3
      s.pick (2 * dir) tag
    if d.pallet ≠ me.pallet then
      match (s.rows PD.ROUTE_TABLE).find? fun r => r.headD 0 = d.pallet with
      | some [_, gs, gp] => if gs = me.slot then s.pickOne gp else torusTo gs
      | _ => .none
    else torusTo d.slot

/-- The VC of a flit on the link it leaves by (R364, DEDUCED, log 13): segment bit set across a switch port, dateline bit set across a wraparound
link, cleared at the turn from x to y and across a switch port. `from_` is the direction pair the flit came in on, if any. -/
def nextVc (slot : Nat) (vc : Nat) (from_ : Option Nat) (logical : Nat) : Nat :=
  let x := slot % 8
  let y := slot / 8
  if 8 ≤ logical then (if logical = 11 then vc else 2)
  else
    let dir := logical / 2
    let turned := match from_ with
      | some f => f / 4 = 0 && 2 ≤ dir
      | none => false
    let base := if turned then vc / 2 * 2 else vc
    let wraps := (dir = 0 && x = 7) || (dir = 1 && x = 0) || (dir = 2 && y = 3) || (dir = 3 && y = 0)
    if wraps then base / 2 * 2 + 1 else base

/-- A flit's bytes with its trailer (R359, R360). -/
def sealFlit (head : Nat) (payload : List Byte) (seq ack : Nat) : List Byte :=
  let b := le 8 head ++ padTo 240 payload ++ le 2 seq ++ le 2 ack
  b ++ le 4 (crc32c b)

/-- The header word of a DATA flit, NACK left clear. -/
def dataHead (cls : Nat) (first last : Bool) (len : Nat) (dst src : Addr) (tag vc : Nat) : Nat :=
  1 + cls * 2 ^ 4 + b2n first * 2 ^ 7 + b2n last * 2 ^ 8 + len * 2 ^ 9 + dst.pallet * 2 ^ 17 + dst.slot * 2 ^ 23 + dst.side * 2 ^ 29
    + src.pallet * 2 ^ 30 + src.slot * 2 ^ 36 + src.side * 2 ^ 42 + tag * 2 ^ 43 + vc * 2 ^ 60

/-- A DATA flit waiting for a credit holds its header word and payload; W31 is written when it is sent. -/
def packWaiting (head : Nat) (payload : List Byte) : List Byte := le 8 head ++ payload

def creditIndex (cls vc : Nat) : Nat := (cls - 1) * 4 + vc

/-- Until a valid commit, an invalid one in HELD lets a port send nothing but IDLE and IDENTITY flits and forwarded PDX frames (R408). -/
def State.linkSilent (s : State) (cls : Nat) : Bool := s.dict.silenced && cls ≠ 4

/-- One flit leaves on a physical port, or waits for its class's credit, for room in the replay buffer, for the end of a retrain or for a
valid configuration (R361-R363, R408). It waits also while an earlier flit of its class and VC does, so that the flits of a message stay in order
(R365). -/
def State.sendFlit (s : State) (phys head : Nat) (payload : List Byte) : State :=
  let l := s.port phys
  let cls := bits head 4 3
  let i := creditIndex cls (bits head 60 2)
  let own := (l.credits[i]?).getD 0
  let behind : Bool := l.waiting.any fun f => creditIndex (bits (fieldAt f 0 8) 4 3) (bits (fieldAt f 0 8) 60 2) = i
  if l.st ≠ .active ∨ l.retraining ∨ 4096 ≤ l.replay.length ∨ (own = 0 ∧ l.shared = 0) ∨ s.linkSilent cls ∨ behind then
    s.setPort phys { l with waiting := l.waiting ++ [packWaiting head payload] }
  else
    let f := sealFlit head payload l.nextSeq.toNat l.lastRx.toNat
    let l := if own = 0 then { l with shared := l.shared - 1 } else { l with credits := l.credits.set i (own - 1) }
    (s.setPort phys { l with nextSeq := l.nextSeq + 1, replay := l.replay ++ [(f, 1)] }).emit (.kenlink (Fin.ofNat 12 phys) f)

/-- Sends the waiting flits of a port again, by the priority of their classes (R25: votes, exchange, all-gather, PDX, spalls) and within a class in
order; those that still cannot leave wait on. -/
def State.sendWaiting (s : State) (phys : Nat) : State :=
  let l := s.port phys
  let w := (List.range 8).flatMap fun k => l.waiting.filter fun f => bits (fieldAt f 0 8) 4 3 = k
  (s.setPort phys { l with waiting := [] }).each w fun s f => s.sendFlit phys (fieldAt f 0 8) (f.drop 8)

/-- The flits of a message: header words and payload pieces (R365). -/
def messageFlits (cls : Nat) (dst src : Addr) (tag vc : Nat) (bytes : List Byte) : List (Nat × List Byte) :=
  let ps := chunks 240 (ceilDiv bytes.length 240) bytes
  ps.zipIdx.map fun p => (dataHead cls (p.2 = 0) (p.2 + 1 = ps.length) p.1.length dst src tag vc, p.1)

/-- The next MSG_TAG of a class (R365). -/
def State.takeTag (s : State) (cls : Nat) : Nat × State :=
  let t := (s.link.tags[cls - 1]?).getD 0
  (t, { s with link := { s.link with tags := s.link.tags.set (cls - 1) ((t + 1) % 2 ^ 16) } })

/-- Sends a message out of a logical port. -/
def State.sendOn (s : State) (logical cls : Nat) (dst : Addr) (bytes : List Byte) : State :=
  match s.physical logical with
  | none => s
  | some p =>
    let (t, s) := s.takeTag cls
    s.each (messageFlits cls dst s.self t (nextVc s.self.slot 0 none logical) bytes) fun s f => s.sendFlit p f.1 f.2

/-- Sends a message of a class to a module (R365, R371). A message without a route is not sent; its flits count in FLITS_NO_ROUTE. -/
def State.send (s : State) (cls : Nat) (dst : Addr) (bytes : List Byte) : State :=
  let t := (s.link.tags[cls - 1]?).getD 0
  match s.route dst t with
  | .here => { s with link := { s.link with inbox := s.link.inbox ++ [(cls, bytes)] } }
  | .out l => s.sendOn l cls dst bytes
  | .none => (s.takeTag cls).2.bumpBy PD.FLITS_NO_ROUTE (ceilDiv bytes.length 240)

/-- A route to a module exists. -/
def State.reaches (s : State) (dst : Addr) : Bool :=
  match s.route dst ((s.link.tags[3]?).getD 0) with
  | .none => false
  | _ => true

/-- The command that handles a delivered message takes it from the inbox (DESIGN CHOICE, log 14). -/
def State.takeMessage (s : State) (cls : Nat) (bytes : List Byte) : State :=
  { s with link := { s.link with inbox := s.link.inbox.erase (cls, bytes) } }

/-- Every Kenlink port goes down at once, its flits neither sent nor replayed (R383). -/
def State.dropPorts (s : State) : State :=
  s.each (List.range 12) fun s p => s.setPort p { s.port p with st := .down, peer := none, retraining := false, replay := [], waiting := [] }

end Sys2Proof.Machine
end

