-- ==== Sys2Proof/Machine/Osc.lean ====
section
/-! DEFINITION. Machine/Osc.lean: the phase oscillator of the course unit in closed form (R43-R45) and the passing of time. -/
namespace Sys2Proof.Machine

/-- Position of a stretch at a hub cycle: the slew's corrections over the first k cycles add up to floor(-E k / N) (R45). -/
def Seg.posAt (g : Seg) (t : Nat) : Nat :=
  let k : Nat := min (t - g.start) g.slewN
  let slew : Int := if g.slewN = 0 then 0 else (-g.slewE * k) / (g.slewN : Int)
  if g.start ≤ t then ((g.pos + g.freq * (t - g.start) : Nat) + slew).toNat else g.pos - g.freq * (g.start - t)

/-- Position of the oscillator at a hub cycle, by the newest stretch that had begun; the oldest one carries on backward. -/
def posOf : List Seg → Nat → Nat
  | [], _ => 0
  | [g], t => g.posAt t
  | g :: gs, t => if g.start ≤ t then g.posAt t else posOf gs t

/-- Course counter and accumulator as one number. -/
def Course.pos (c : Course) : Nat := c.count.toNat * 2 ^ 48 + c.acc.toNat

/-- The counter and the accumulator at a position. -/
def Course.setPos (c : Course) (p : Nat) : Course :=
  { c with count := BitVec.ofNat 48 (p / 2 ^ 48), acc := BitVec.ofNat 48 p }

/-- Hub time reaches cycle t; published time follows its oscillator, and stands where there is none (R43). -/
def Course.runTo (c : Course) (t : Nat) : Course :=
  if t ≤ c.now then c
  else if c.segs.isEmpty then { c with now := t }
  else ({ c with now := t }).setPos (posOf c.segs t)

/-- A new stretch begins at the present cycle. -/
def Course.push (c : Course) (freq : Nat) (slewE : Int) (slewN : Nat) : Course :=
  { c with segs := (⟨c.now, c.pos, freq, slewE, slewN⟩ :: c.segs).take 8 }

/-- Least t in (lo, hi] at which the stretch has reached p, given that it has at hi; fuel halves the gap. -/
def Seg.search (g : Seg) (p : Nat) : Nat → Nat → Nat → Nat
  | 0, _, hi => hi
  | fuel + 1, lo, hi =>
    if hi ≤ lo + 1 then hi
    else
      let mid := (lo + hi) / 2
      if p ≤ g.posAt mid then g.search p fuel lo mid else g.search p fuel mid hi

/-- The first hub cycle at which the oscillator equals or passes a position (R54). -/
def Course.cycleOf (c : Course) (p : Nat) : Nat :=
  match c.segs with
  | [] => c.now
  | g :: _ =>
    if p ≤ c.pos then c.now
    else
      let stop := g.start + g.slewN
      if c.now < stop ∧ p ≤ g.posAt stop then g.search p 64 c.now stop
      else
        let base := max c.now stop
        if g.freq = 0 then c.now else base + ceilDiv (p - g.posAt base) g.freq

/-- The hub cycle of the last wrap of published time. -/
def Course.wrapCycle (c : Course) : Nat :=
  match c.segs with
  | [] => c.now
  | g :: _ => if c.count.toNat * 2 ^ 48 ≤ g.pos then g.start else g.search (c.count.toNat * 2 ^ 48) 64 g.start c.now

/-- n wraps of published time have passed: COURSE_AUX pulses once for each while BALL_SELECT gives it a ball (R412), and the timers with ALIGN
restart (R434). -/
def State.wrapped (s : State) (n : Nat) : State :=
  if n = 0 then s
  else
    let aux : Bool := match (s.rows PD.BALL_SELECT)[9]? with
      | some [b] => decide (b < 8) && !s.dict.heldBalls.contains b
      | _ => false
    let s := if aux && s.mode != .frozen then s.emits (List.replicate n .courseAux) else s
    let at_ := s.course.wrapCycle
    let aligned := (List.range 16).filter fun i => ((s.rows PD.TIMER_TABLE)[i]?).any fun r => r.getD 1 0 ≠ 0
    { s with meas := { s.meas with timers := aligned.foldl (fun m i => kvSet (fun _ => 0) m i at_) s.meas.timers } }

/-- Hub time reaches cycle t, with the wraps on the way. -/
def State.runTo (s : State) (t : Nat) : State :=
  let c := s.course.runTo t
  { s with course := c }.wrapped ((c.count - s.course.count).toNat)

/-- Published time comes to t if it lies ahead: it only moves forward (R43, DESIGN CHOICE, log 4). -/
def State.advanceTo (s : State) (t : CTime) : State := s.runTo (s.course.cycleOf (t.toNat * 2 ^ 32))

/-- One hub cycle passes: what a step on an empty queue does (DESIGN CHOICE, log 4). Nothing moves without REFCLK, in OFF or in FROZEN. -/
def State.tick (s : State) : State :=
  if s.clk.refclk ∧ s.mode ≠ .off ∧ s.mode ≠ .frozen then s.runTo (s.course.now + 1) else s

end Sys2Proof.Machine
end

