-- ==== Sys2Proof/Machine/StepOps.lean ====
section
/-! DEFINITION. Machine/StepOps.lean: the event queue (R53-R55), streams as a step resets and pauses them (R87, R89, R291), and the step as
a transaction: attempts, deadlines, votes, voids and holds (R274-R294). -/
namespace Sys2Proof.Machine

/-! ## The event queue -/

/-- Rank of a kind among events due on one hub cycle (R55, DEDUCED, log 8). -/
def EventKind.rank : EventKind → Nat
  | .contribution => 1
  | .vote | .broadcast | .twinShard | .gather => 2
  | .commit => 3
  | .swap => 4
  | .firmware => 5
  | .measure => 6
  | .freeze => 7

/-- Outcome of presenting an entry (R53), by the codes of R490 and R511. -/
inductive EvStatus where
  | ok | past | tooFar | full | notLocked
  deriving DecidableEq, Repr

def EvStatus.code : EvStatus → Nat
  | .ok => 0 | .past => 1 | .tooFar => 2 | .full => 3 | .notLocked => 4

/-- The tests of R53 in their order. -/
def State.evTest (s : State) (t : CTime) : EvStatus :=
  if !s.timed then .notLocked
  else if t.toNat ≤ s.ctime.toNat then .past
  else if s.ctime.toNat + 2 ^ 24 * 65536 < t.toNat then .tooFar
  else if 1024 ≤ s.events.length then .full
  else .ok

/-- Presents an entry to the queue; a refusal counts in EVENT_REJECTED and leaves the queue as it was (R53). -/
def State.present (s : State) (e : Event) : EvStatus × State :=
  match s.evTest e.time with
  | .ok => (.ok, { s with events := s.events ++ [e] })
  | r => (r, s.bump PD.EVENT_REJECTED)

/-- e fires before or with f: earlier course time, then rank, then order of entry (R54, R55). -/
def Event.before (e f : Event) : Bool :=
  e.time.toNat < f.time.toNat || (e.time.toNat = f.time.toNat && e.kind.rank ≤ f.kind.rank)

/-- The first event to fire. -/
def firstEvent : List Event → Option Event
  | [] => none
  | e :: es => match firstEvent es with
    | none => some e
    | some f => if e.before f then some e else some f

/-- Takes the first event off the queue when it is of this kind: time comes to its CTIME, and a repeating event is entered again (R54). -/
def State.fire (s : State) (k : EventKind) : Option (Event × State) :=
  if !s.timed || !s.mode.hubRuns then none else
  match firstEvent s.events with
  | some e =>
    if e.kind = k then
      let es := s.events.erase e
      let es := if e.interval = 0 then es else es ++ [{ e with time := e.time + BitVec.ofNat 64 (e.interval * 65536) }]
      some (e, { s.advanceTo e.time with events := es })
    else none
  | none => none

/-- A deadline of the attempt acts: the queue refused it as PAST, or it is the first event to fire (DEDUCED, log 15). -/
def State.fireDeadline (s : State) (k : EventKind) : Option State :=
  if s.step.due.contains k && s.mode.hubRuns then some { s with step := { s.step with due := s.step.due.erase k } }
  else (s.fire k).map (·.2)

def State.dropEvents (s : State) (p : EventKind → Bool) : State := { s with events := s.events.filter fun e => !p e.kind }

/-! ## Streams -/

def State.stream (s : State) (n : Nat) : Stream := kvGet (fun _ => {}) s.streams n
def State.setStream (s : State) (n : Nat) (t : Stream) : State := { s with streams := kvSet (fun _ => {}) s.streams n t }

/-- The definition of a stream in the loaded plan (R541). -/
def State.streamDef (s : State) (n : Nat) : Option StreamDef := s.plan.bind fun p => p.streams[n]?

/-- Entries in a stream's ring (R72). -/
def StreamDef.ring (d : StreamDef) : Nat := 2 ^ d.ringCode

/-- Groups open, one bit each (R90). -/
def Stream.openMask (t : Stream) : Nat := t.groups.foldl (fun n g => orBit n g.num) 0

/-- Descriptors published and not completed (R73). -/
def Stream.pending (t : Stream) : Nat := (t.tail - t.head).toNat

/-- Nothing of the stream is in progress any more: its groups are discarded, HEAD is TAIL, it is IDLE (R89, R291). -/
def Stream.reset (t : Stream) (clearError : Bool) : Stream :=
  { t with st := .idle, head := t.tail, entered := [], front := none, counted := false, failing := none, groups := [], entryView := 0,
           blockedOn := 0, error := if clearError then 0 else t.error }

/-- Every defined stream is reset: host-fed streams as by STREAM_RESUME RESET, plan-fed ones to IDLE (R291 steps 3 and 4). -/
def State.resetStreams (s : State) : State :=
  { s with streams := s.streams.map fun p =>
      if p.2.st = .undefined then p
      else (p.1, p.2.reset ((s.streamDef p.1).any (·.hostFed))) }

/-- Descriptors in progress stop at their tile boundary and will run again from their start; ACTIVE and BLOCKED streams pause (R87). -/
def Stream.pause (t : Stream) : Stream :=
  let t := { t with entered := [], front := none, counted := false, entryView := BitVec.ofNat 16 t.openMask }
  if t.st = .active ∨ t.st = .blocked then { t with st := .paused } else t

/-- A cell's strikes end; its stored bits, scales and spare map stay. -/
def Cell.quiet (c : Cell) : Cell := { c with todo := [], runs := [] }

/-- The array operation in progress stops; it runs again from its start (R87, R144). -/
def State.stopArrays (s : State) : State :=
  { s with arrays := { s.arrays with op := none, halves := [] }, cells := s.cells.map fun c => (c.1, c.2.quiet) }

def State.pauseStreams (s : State) : State :=
  { s.stopArrays with streams := s.streams.map fun p => (p.1, p.2.pause) }

/-- A PAUSED stream goes on when the module is back in RUN (state table of R87). -/
def State.unpauseStreams (s : State) : State :=
  { s with streams := s.streams.map fun p =>
      if p.2.st = .paused then (p.1, { p.2 with st := if p.2.pending = 0 then .idle else .active }) else p }

/-! ## Phases (R276, R278) -/

def Phase.num : Phase → Nat
  | .forward => 0 | .backward => 1 | .reduce => 2 | .vote => 3 | .update => 4 | .writeback => 5

def Step.has (t : Step) (p : Phase) : Bool := t.phases.any fun r => r.phase = p

/-- A phase begins, once an attempt. -/
def State.beginPhase (s : State) (p : Phase) : State :=
  if s.step.has p then s else { s with step := { s.step with phases := s.step.phases ++ [⟨p, s.ctime, none⟩] } }

/-- A phase ends, if it is under way. -/
def State.endPhase (s : State) (p : Phase) : State :=
  { s with step := { s.step with phases := s.step.phases.map fun r => if r.phase = p ∧ r.stop.isNone then { r with stop := some s.ctime } else r } }

/-- Duration in phase units as a U32; all ones for 65,536 courses or more (R278). -/
def duration (start stop : Nat) : Nat := if 2 ^ 32 ≤ stop - start then 0xFFFFFFFF else stop - start

/-- The row of STEP_PHASE_TABLE for the attempt (R278). -/
def State.phaseRow (s : State) (verdict : Nat) : List Nat :=
  let of := fun (i : Nat) => s.step.phases.find? fun r => r.phase.num = i
  [s.num PD.STEP_NUMBER, s.num PD.STEP_ATTEMPT, verdict]
  ++ (List.range 6).map (fun i => match of i with
    | some r => r.start.toNat
    | none => 0)
  ++ (List.range 6).map (fun i => match of i with
    | some r => duration r.start.toNat ((r.stop.getD s.ctime).toNat)
    | none => 0)

/-! ## Scratch and staged state (R279, R199) -/

/-- A VOID discards a layer's staged numerics; rung and clean count stay (R199). -/
def LayerNum.discard (l : LayerNum) : LayerNum :=
  { l with last := [], plumbFormat := none, sumFwd := 0, sumGrad := 0, cntFwd := 0, cntGrad := 0, stagedA := [], excess := 0, excessLow := 0, quantisedLow := 0,
           flagged := false, quantised := 0, event := false, lowerHeld := true, widened := false, repeats := 0 }

def JointMode.discard (j : JointMode) : JointMode := { j with minRho := none }
def RowMode.discard (r : RowMode) : RowMode := { r with overs := 0, pairs := 0, bits := 0, inputs := 0 }

/-- The exchange state of the attempt; stretchers, accumulated counts and what the last commit awaits stay (R279). -/
def Exchange.discard (x : Exchange) : Exchange :=
  { x with accepted := [], excluded := [], selfExcluded := false, excludeSent := false, sentLayers := [], missed := [], shards := [],
           proposals := [], stageIn := [], twinShards := [], ratios := [] }

/-- Scratch and staged state of the attempt goes (R279, R291 step 2). -/
def State.discard (s : State) : State :=
  { s with layers := s.layers.map fun l => (l.1, l.2.discard)
           storm := false
           jointModes := s.jointModes.map JointMode.discard
           jointParts := []
           jointWaits := []
           backward := {}
           arrays := { s.arrays with rowModes := s.arrays.rowModes.map RowMode.discard, seqPos := 0, lintel := [] }
           exch := s.exch.discard }

/-! ## Attempts and deadlines (R274, R287, R303) -/

def EventKind.ofAttempt : EventKind → Bool
  | .contribution | .vote | .broadcast | .twinShard | .commit => true
  | _ => false

/-- The attempt is over: its deadlines and its commit event go, no step is open. -/
def State.endAttempt (s : State) : State :=
  let s := s.dropEvents EventKind.ofAttempt
  let s := (s.setNum PD.STEP_OPEN 0).setNum PD.STEP_REASONS 0
  { s with step := { s.step with opened := false, attempt := false, due := [], verdictFormed := false, verdictReasons := 0, sent := false,
                                 children := [], origin := none, decision := none, deadlinePassed := false, phases := [],
                                 holdAtVerdict := false, backwardDone := [] } }

/-- Presents a deadline; one that is past acts at once, and one refused for another reason acts at once with reason EXCHANGE (DEDUCED, log 15). -/
def State.deadline (s : State) (k : EventKind) (t : CTime) : State :=
  match s.present ⟨t, k, 0, 0⟩ with
  | (.ok, s) => s
  | (.past, s) => { s with step := { s.step with due := s.step.due ++ [k] } }
  | (_, s) => { s with step := { s.step with due := s.step.due ++ [k], nextReasons := orBit s.step.nextReasons rsExchange } }

/-- The module runs with its twin: port 11 leads to it and BOND_ALONE is clear (R315, R318). -/
def State.bonded (s : State) : Bool := s.num PD.PORT11_ROLE = 0 && !s.flag PD.BOND_ALONE && s.expected 11 = some s.twin

/-- The next attempt begins at T: its contribution, vote and broadcast deadlines are queued (R287, R303), and the twin's in bond mode
(R315). Reasons recorded since the last attempt count for it (R114, R350). -/
def State.beginAttempt (s : State) (t : CTime) : State :=
  let c := t + BitVec.ofNat 64 (s.num PD.EXCH_PERIOD)
  let dv := c + BitVec.ofNat 64 (s.num PD.VOTE_WINDOW)
  let db := dv + BitVec.ofNat 64 (s.num PD.VOTE_COMMIT_LEAD)
  let s := { s with step := { s.step with attempt := true, tBase := t, contribution := c } }
  let s := ((s.deadline .contribution c).deadline .vote dv).deadline .broadcast db
  let s := if s.bonded
    then s.deadline .twinShard (c + BitVec.ofNat 64 (s.num PD.VOTE_WINDOW / 2)) else s
  let s := s.setNum PD.STEP_REASONS (if c.toNat ≤ s.ctime.toNat then orBit s.step.nextReasons rsExchange else s.step.nextReasons)
  { s with step := { s.step with nextReasons := 0, holdAtVerdict := s.step.nextHold, nextHold := false } }

/-- The first FORWARD descriptor opens the step; an attempt whose C has gone records EXCHANGE (R275, R303, R456). -/
def State.openStep (s : State) : State :=
  if s.step.opened then s else
  let s := { s.setNum PD.STEP_OPEN 1 with step := { s.step with opened := true, boundary := false, samples := s.num PD.EXCH_STEP_SAMPLES } }
  if s.step.contribution.toNat ≤ s.ctime.toNat then s.reason rsExchange else s

/-! ## Votes (R284-R286) -/

def State.isRoot (s : State) : Bool := s.num PD.VOTE_PARENT_PORT = 0xFF

def State.childPorts (s : State) : List Nat := (List.range 12).filter fun p => bit (s.num PD.VOTE_CHILD_MASK) p

/-- A vote message's fields (R284). -/
structure Vote where
  kind : Nat
  attempt : Nat
  step : Nat
  void : Bool
  reasons : Nat
  modules : Nat
  excluded : Nat
  origin : Nat
  time : Nat
  deriving DecidableEq, Repr

def Vote.bytes (v : Vote) : List Byte :=
  le 8 (1 + v.kind * 2 ^ 4 + v.attempt % 65536 * 2 ^ 16) ++ le 8 (v.step % 2 ^ 48)
  ++ le 8 (b2n v.void + v.reasons % 2 ^ 32 * 2 ^ 32) ++ le 8 (v.modules % 65536 + v.excluded % 65536 * 2 ^ 16)
  ++ le 8 (v.origin % 2 ^ 13) ++ le 8 v.time ++ zeros 16

/-- The fields of a 64-byte vote message with version 1 and every reserved field zero. -/
def Vote.parse (m : List Byte) : Option Vote :=
  let w := fun i => fieldAt m (8 * i) 8
  if m.length = 64 ∧ bits (w 0) 0 4 = 1 ∧ bits (w 0) 8 8 = 0 ∧ bits (w 0) 32 32 = 0 ∧ bits (w 1) 48 16 = 0 ∧ bits (w 2) 1 31 = 0
      ∧ bits (w 3) 32 32 = 0 ∧ bits (w 4) 13 51 = 0 ∧ w 6 = 0 ∧ w 7 = 0 then
    some ⟨bits (w 0) 4 4, bits (w 0) 16 16, bits (w 1) 0 48, bit (w 2) 0, bits (w 2) 32 32, bits (w 3) 0 16, bits (w 3) 16 16,
      bits (w 4) 0 13, w 5⟩
  else none

/-- This module as ORIGIN: slot, pallet, side (R284). -/
def State.origin (s : State) : Nat := s.self.slot + s.self.pallet * 2 ^ 6 + s.self.side * 2 ^ 12

/-- Reasons of this module's verdict: those recorded when it was formed; the root's own grow until it decides (R282, R286). -/
def State.ownReasons (s : State) : Nat :=
  if s.step.verdictFormed then (if s.isRoot then s.num PD.STEP_REASONS else s.step.verdictReasons) else 0

def State.anyVoid (s : State) : Bool := s.ownReasons ≠ 0 || s.step.children.any (·.void)
def State.unionReasons (s : State) : Nat := s.step.children.foldl (fun r c => r ||| c.reasons) s.ownReasons
/-- Modules covered: this one, and its twin under BOND_ALONE, and the children's (R285, R318). -/
def State.covered (s : State) : Nat :=
  (if s.step.verdictFormed then (if s.flag PD.BOND_ALONE then 2 else 1) else 0) + total (s.step.children.map (·.modules))
def State.excludedCount (s : State) : Nat :=
  b2n (s.exch.selfExcluded && s.step.verdictFormed && s.ownReasons = 0) + total (s.step.children.map (·.excluded))

/-- Sends a vote message on a logical port, to the peer that the wiring plan names there (R284). -/
def State.sendVote (s : State) (logical : Nat) (m : List Byte) : State :=
  match s.expected logical with
  | some a => s.sendOn logical 1 a m
  | none => s

/-- ORIGIN of a message: that of the first VOID seen, zero for COMMIT (R284, R285). -/
def State.originFor (s : State) (void : Bool) : Nat := if void then s.step.origin.getD s.origin else 0

/-- A node's one VERDICT of the attempt, with extra reasons (R285). -/
def State.sendVerdict (s : State) (extra : Nat) : State :=
  let void := s.anyVoid || extra ≠ 0
  let m : Vote := ⟨1, s.num PD.STEP_ATTEMPT, s.num PD.STEP_NUMBER, void, s.unionReasons ||| extra, max 1 s.covered, s.excludedCount,
    s.originFor void, 0⟩
  let s := { s with step := { s.step with sent := true } }
  s.sendVote (s.num PD.VOTE_PARENT_PORT) m.bytes

/-! ## Applying a VOID (R288, R291-R293) -/

/-- Triggers that a boundary answers to: those recorded before the verdict, and bit 1 for blocks that region level set aside (R113, R479). -/
def State.boundaryTriggers (s : State) : Nat := if s.faults.retireBlocks.isEmpty then s.triggers else orBit s.triggers 1

/-- The effects of a VOID on the module's step state: phase row, void log, discards, stream resets, attempt count; verdict codes are
2 VOID and 3 local VOID (R291, R294). -/
def State.voidStep (s : State) (code reasons modules origin time : Nat) : State :=
  let s := s.endPhase .vote
  let s := { s with step := { s.step with
    phaseTable := pushLast 64 s.step.phaseTable (s.phaseRow code)
    voidLog := pushLast 64 s.step.voidLog
      [s.num PD.STEP_NUMBER, s.num PD.STEP_ATTEMPT, reasons, modules, origin, time, b2n (code = 3)] } }
  let s := (s.stopArrays.discard).resetStreams
  let s := s.setNum PD.STEP_ATTEMPT ((s.num PD.STEP_ATTEMPT + 1) % 2 ^ 16)
  let s := (s.endAttempt).setNum PD.STEP_LAST_DECISION code
  { s with step := { s.step with boundary := true }, placeDue := s.placeDue ||| s.boundaryTriggers, triggers := 0 }.cause irqVerdict

/-- The module voids locally; the caller records the spall and moves to HELD (R288). A node that has not sent its VERDICT sends VOID when
its parent port carries it (R293). -/
def State.voidLocally (s : State) : State :=
  let s := if !s.isRoot && !s.step.sent && s.pickOne (s.num PD.VOTE_PARENT_PORT) ≠ .none
    then { s with step := { s.step with verdictFormed := true, verdictReasons := s.num PD.STEP_REASONS } }.sendVerdict 0 else s
  (s.voidStep 3 (s.num PD.STEP_REASONS ||| s.unionReasons) (max 1 s.covered) (s.originFor true)
    (match s.step.decision with
      | some d => d.time.toNat
      | none => 0)).bump PD.VOID_LOCAL

/-- Leaves RUN, DRAIN or ARMED for a state without steps: streams pause (R87). -/
def State.leaveFor (s : State) (m : Mode) : State :=
  let s := if s.mode.running then s.pauseStreams else s
  (s.endAttempt).enter m

/-- R293: leaving RUN or DRAIN with a step open records the reason, votes VOID and voids locally with spall LOCAL_VOID; with none open the
attempt just ends. -/
def State.abandon (s : State) (r : Nat) (outcome : Nat) : State :=
  if s.step.opened then
    ((s.reason r).spall { kind := 0x21, level := 3, mech := 17, outcome := outcome }).voidLocally
  else s.endAttempt

/-- HELD, from RUN or DRAIN with R293, or from ARMED; no effect elsewhere. -/
def State.hold (s : State) (r : Nat) : State :=
  if s.mode.running then (s.abandon r 3).leaveFor .held
  else if s.mode = .armed then s.leaveFor .held
  else s

/-- Both endpoints whose PERSTn_N is high train and are ready (R396). -/
def State.epsUp (s : State) : State :=
  s.each [0, 1] fun s i =>
    let e := s.ep i
    if e.perstN then s.setEp i { e with linkUp := true, ready := true } else s

/-- FAULT from any state from BOOT on (R17, R455); the endpoints are up in it (R396). -/
def State.fault (s : State) : State :=
  match s.mode with
  | .off | .reset | .fault => s
  | .boot => (s.leaveFor .fault).epsUp
  | .run | .drain => (s.abandon rsFault 4).leaveFor .fault
  | .frozen => { s with freeze := { s.freeze with from_ := .fault } }
  | _ => s.leaveFor .fault

/-- A device-level error that touches uncommitted state: reason FAULT (R26). One that touches committed state also holds: at the verdict of
the open step or of the next one (R292, R350), at once during UPDATE and WRITEBACK (R293). -/
def State.deviceError (s : State) (committed : Bool) : State :=
  if !committed then s.reasonOrNext rsFault
  else if s.step.updating ∨ s.step.writing then s.hold rsFault
  else if s.step.opened then
    let s := s.reason rsFault
    { s with step := { s.step with holdAtVerdict := true } }
  else
    let s := s.reasonOrNext rsFault
    if s.step.attempt then { s with step := { s.step with holdAtVerdict := true } } else { s with step := { s.step with nextHold := true } }

/-! ## Firmware results (R510, R515) -/

/-- FW_RESULT codes that are not final. -/
def fwPending : Nat := 1

/-- Offset of the package region in flash (R502). -/
def packageBase : Nat := 0x00400000

/-- Bytes [o, o + n) of the package as taken so far: from flash as far as it is programmed, then from the buffer. -/
def State.stagedBytes (s : State) (o n : Nat) : List Byte :=
  let fromFlash := min n (s.fw.programmed - o)
  s.read stFlash (packageBase + o) fromFlash ++ sub s.fw.buffer (o + fromFlash - s.fw.programmed) (n - fromFlash)

/-- Manifest digest of the package in flash that the valid marker vouches for, or vouched for last; the supplied one's where none has been
staged (DESIGN CHOICE, log 21). -/
def State.flashDigest (s : State) : List Byte := ((s.fw.package.head?.map (·.digest)).getD (Config.factoryDigest 1))

/-- Manifest digest of the package concerned (R515): the staged one's, or that in flash at a boot. Of a package whose manifest header has not
been taken, or that no valid marker names, it is open (DESIGN CHOICE, log 7). -/
def State.concernedDigest (s : State) (event : Nat) : List Byte × State :=
  if event = 3 ∧ s.fw.valid then (s.flashDigest, s)
  else match (if event = 3 then none else s.fw.images.head?) with
    | some r => (r.digest, s)
    | none =>
      if 80 ≤ s.num PD.FW_RECEIVED ∧ event = 0 then (s.stagedBytes 32 48, s)
      else
        let (i, s) := s.fresh
        ((List.range 48).map (Config.fnByte i 1000), s)

/-- A spall of kind 0x40 (R515). -/
def State.fwSpall (s : State) (event code part : Nat) : State :=
  let (d, s) := s.concernedDigest event
  s.spall { kind := 0x40, level := 3, mech := 15, outcome := 0, detail := [detailUint 0 event, detailUint 1 code, detailUint 2 part],
            manifest := padTo 48 d }

/-- A final value of FW_RESULT raises cause FIRMWARE (R389). -/
def State.fwResult (s : State) (code : Nat) : State := (s.setNum PD.FW_RESULT code).cause irqFirmware

/-- Staging ends with a failure (R509, R510): FAILED, and a spall. -/
def State.fwFail (s : State) (code part : Nat) : State :=
  let s : State := { s.setNum PD.FW_STAGE_STATE 4 with fw := { s.fw with buffer := [] } }
  (s.fwSpall 0 code part).fwResult code

/-- A scheduled activation, queued or due, is cancelled (R508, R511). -/
def State.fwCancel (s : State) : State :=
  let queued : Bool := s.events.any fun e => e.kind = .firmware
  if !queued && !s.fw.due then s
  else
    let s : State := { s.dropEvents fun k => decide (k = .firmware) with fw := { s.fw with due := false, dueCommit := false } }
    (s.fwSpall 2 10 0).fwResult 10

/-! ## Loss of course (R50) -/

/-- The actions of R50 in order, with the spall of an entry to LOST: events cancelled, a local VOID of the open step, HELD from ARMED, RUN
or DRAIN. `before` is the COURSE_STATE left; `stay` keeps the module's state, as in COAST and FROZEN where other rules place it. -/
def State.courseActions (s : State) (before : Nat) (stay : Bool) : State :=
  let activation : Bool := s.events.any fun e => e.kind = .firmware
  let s : State := { s with events := [], cal := { s.cal with idle := if s.cal.idle = .queued then .settled else s.cal.idle } }
  let s := if activation then (s.fwSpall 2 10 0).fwResult 10 else s
  let s := s.reason rsCourse
  let held := s.mode = .armed ∨ s.mode.running
  let s := s.spall { kind := 0x22, level := 3, mech := 12, outcome := if held ∧ !stay then 3 else 0, detail := [detailUint 0 before] }
  let s := if s.step.opened then s.voidLocally else s.endAttempt
  if held ∧ !stay then s.leaveFor .held else s

def CourseState.code : CourseState → Nat
  | .unlocked => 0 | .acquiring => 1 | .locked => 2 | .holdover => 3 | .lost => 4

/-- Row of a sampling group (R430): trigger, TIMER, COURSE_PHASE, INTERVAL, URGENT, CAPTURE, rounds, then 16 x 8 channels. -/
def State.groupCol (s : State) (g c : Nat) : Nat := ((s.rows PD.ADC_GROUPS)[g]?.getD []).getD c 0

/-- A COURSE group without an event queues one at the first n + COURSE_PHASE ahead, repeating every INTERVAL courses (R431). -/
def State.queueMeasure (s : State) (g : Nat) : State :=
  if s.groupCol g 0 ≠ 1 ∨ s.events.any (fun e => e.kind = .measure && e.owner = g) then s
  else
    let phase := s.groupCol g 2 % 65536
    let n := s.ctime.toNat / 65536
    let t := if s.ctime.toNat < n * 65536 + phase then n * 65536 + phase else (n + 1) * 65536 + phase
    (s.present ⟨BitVec.ofNat 64 t, .measure, s.groupCol g 3, g⟩).2

def State.queueMeasures (s : State) : State := s.each (List.range 16) State.queueMeasure

/-- COURSE_STATE changes: the entry, cause COURSE, and on an entry to LOCKED the events of COURSE groups (R49, R389, R431). -/
def State.setCourse (s : State) (st : CourseState) : State :=
  if s.course.st = st then s
  else
    let s := { s with course := { s.course with st := st } }
    let s := if st = .locked then s.queueMeasures else s
    s.cause irqCourse

/-- The unit is LOST; its tracking state is forgotten and the published time stands (R43, R50). -/
def State.courseLost (s : State) : State :=
  let s := { s with course := { s.course with lastUsed := none, run := [], series := [], oow := 0, segs := [] } }
  (s.bump PD.COURSE_LOST_ENTRIES).setCourse .lost

/-- From LOST to ACQUIRING, or to UNLOCKED when no configuration has been committed since RESET (R52). -/
def State.courseRestart (s : State) : State := s.setCourse (if s.course.configured then .acquiring else .unlocked)

/-- A LOST condition of R46, R47 or R49: LOST, the actions of R50, then ACQUIRING at once (state table of R47). -/
def State.loseCourse (s : State) : State :=
  let before := s.course.st.code
  ((s.courseLost).courseActions before false).courseRestart

end Sys2Proof.Machine
end

