-- ==== Sys2Proof/Machine/FaultOps.lean ====
section
/-! DEFINITION. Machine/FaultOps.lean: errors and the levels that settle them: recovery windows, confirmations, suspects, retirement,
uncorrectable words, stopped bridges (R17-R19, R26-R28, R342, R350, R474-R480). -/
namespace Sys2Proof.Machine

/-- A unit: die code, block, cell; 255 for a block's common logic (R475). -/
structure FaultUnit where
  die : Nat
  block : Nat
  cell : Nat
  deriving DecidableEq, Repr

/-! ## Recovery windows (R478) -/

/-- Scope of a level's window: the block, the wythe, the module. -/
def FaultUnit.scope (u : FaultUnit) (level : Nat) : Nat :=
  if level = 0 then u.die * 128 + u.block else if level = 1 then u.die % 8 else 0

def State.openWindow (s : State) (level : Nat) (u : FaultUnit) (seq : Nat) : State :=
  { s with faults := { s.faults with windows := s.faults.windows ++ [⟨level, u.scope level, u.die, u.block, u.cell, seq⟩] } }

def State.closeWindows (s : State) (p : Window → Bool) : State :=
  { s with faults := { s.faults with windows := s.faults.windows.filter fun w => !p w } }

/-- The windows of a level that a unit's recovery opened close. -/
def State.closeWindow (s : State) (level : Nat) (u : FaultUnit) : State :=
  s.closeWindows fun w => w.level = level && w.die = u.die && w.block = u.block && w.cell = u.cell

/-- The highest open window, at or above a level, in the scope of a unit that is not under that recovery (R479). -/
def State.coinciding (s : State) (level : Nat) (u : FaultUnit) : Option Window :=
  (s.faults.windows.filter fun w =>
    level ≤ w.level && w.scope = u.scope w.level && !(w.die = u.die && w.block = u.block && w.cell = u.cell)).foldl
    (fun (b : Option Window) w => match b with
      | none => some w
      | some x => if x.level < w.level then some w else some x) none

/-! ## Retirement (R26, R28, R476) -/

/-- Working cells of a block, of one leaf (0 A, 1 B) or both (2). -/
def State.blockCells (s : State) (die block leaf : Nat) : List Nat :=
  ((List.range 16).filter fun c => leaf = 2 || c / 8 = leaf).filter fun c => !s.faults.retiredCells.contains (die * 2048 + block * 16 + c)

def spallPlace (p : Spall) (u : FaultUnit) : Spall :=
  { p with die := u.die, block := some u.block, cell := if u.cell = 255 then none else some u.cell }

/-- A block is retired: the health map, trigger 1 and a spall (R26, R113, R484). -/
def State.retireBlock (s : State) (die block cause mech : Nat) : State :=
  if s.faults.retiredBlocks.contains (die * 128 + block) then s
  else
    let s : State := { s with
      triggers := orBit s.triggers 1
      faults := { s.faults with retiredBlocks := s.faults.retiredBlocks ++ [die * 128 + block],
                                suspects := s.faults.suspects.filter fun x => !(x.die = die && x.block = block) } }
    s.spall (spallPlace { kind := 0x06, level := 1, mech := mech, outcome := 5, detail := [detailUint 0 cause] } ⟨die, block, 255⟩)

/-- A cell is retired; its block too when a leaf would hold fewer than six working cells (R26). -/
def State.retireCell (s : State) (u : FaultUnit) (cause mech : Nat) : State :=
  let k := u.die * 2048 + u.block * 16 + u.cell
  if s.faults.retiredCells.contains k then s
  else
    let s : State := { s with
      triggers := orBit s.triggers 1
      faults := { s.faults with retiredCells := s.faults.retiredCells ++ [k],
                                suspects := s.faults.suspects.filter fun x => !(x.die = u.die && x.block = u.block && x.cell = u.cell) } }
    let s := s.spall (spallPlace { kind := 0x05, level := 0, mech := mech, outcome := 5, detail := [detailUint 0 cause] } u)
    let few : Bool := if u.die < 8 then decide ((s.blockCells u.die u.block (u.cell / 8)).length < 6) else (s.blockCells u.die u.block 2).isEmpty
    if few then s.retireBlock u.die u.block cause mech else s

/-- One confirmation of a unit; at RETIRE_CONFIRMS it retires (R475, R476). `mech` names the error. -/
def State.confirm (s : State) (u : FaultUnit) (mech : Nat) : State :=
  let s := s.bump PD.REPEATS_CONFIRMED
  let old := (s.faults.suspects.find? fun x => x.die = u.die ∧ x.block = u.block ∧ x.cell = u.cell).map (·.confirms)
  let n := (old.getD 0) + 1
  let row : Suspect := ⟨u.die, u.block, u.cell, n, s.num PD.SUSPECT_STEPS, s.num PD.STEP_NUMBER⟩
  let s : State := { s with faults := { s.faults with
    suspects := s.faults.suspects.filter (fun x => !(x.die = u.die && x.block = u.block && x.cell = u.cell)) ++ [row] } }
  if s.num PD.RETIRE_CONFIRMS ≤ n then
    let s := s.bump PD.SUSPECT_RETIREMENTS
    if u.cell = 255 then s.retireBlock u.die u.block 2 mech else s.retireCell u 2 mech
  else s

/-- Confirmations a unit holds. -/
def State.confirms (s : State) (u : FaultUnit) : Nat :=
  ((s.faults.suspects.find? fun x => x.die = u.die ∧ x.block = u.block ∧ x.cell = u.cell).map (·.confirms)).getD 0

/-- A committed step passes over every suspect; observations that end clear (R475, R476). -/
def State.observe (s : State) : State :=
  let old := s.faults.suspects
  let s : State := { s with faults := { s.faults with suspects := (old.filter fun x => 1 < x.left).map fun x => { x with left := x.left - 1 } } }
  s.each (old.filter fun x => x.left ≤ 1) fun s x =>
    (s.bump PD.SUSPECTS_CLEARED).spall (spallPlace { kind := 0x13, level := if x.cell = 255 then 1 else 0, mech := 17, outcome := 8,
                                                     detail := [detailUint 0 x.confirms] } ⟨x.die, x.block, x.cell⟩)

/-! ## Device level (R26, R292, R293, R480) -/

/-- A module whose VERDICT has gone, or whose step commits, can no longer vote on an error: R293. -/
def State.verdictGone (s : State) : Bool := s.step.sent || s.step.decision.isSome

/-- FAULT on the step, and HELD: at once with no step open, at the verdict otherwise, by R293 when the verdict has gone (R480). -/
def State.faultAndHold (s : State) : State :=
  if s.step.opened ∧ !s.verdictGone then
    let s := s.reason rsFault
    { s with step := { s.step with holdAtVerdict := true } }
  else if s.step.opened then s.hold rsFault
  else (s.reasonOrNext rsFault).hold rsFault

/-- An error that reaches device level (R26, R479, R480). -/
def State.toDevice (s : State) (u : FaultUnit) (committed : Bool) : State :=
  let again := s.faults.windows.any fun w => w.level = 3 && !(w.die = u.die && w.block = u.block && w.cell = u.cell)
  let s := if again then s else s.openWindow 3 u (s.num PD.SPALL_NEWEST)
  if again then s.faultAndHold else s.deviceError committed

/-- An independent error within another's window passes up one level above that window: the level that must settle it, and the state with
the counters and, from region level on, the spall ESCALATION (R479, R484). -/
def State.escalate (s : State) (level : Nat) (u : FaultUnit) : Nat × State :=
  match s.coinciding level u with
  | none => (level, s)
  | some w =>
    let s := s.bump PD.ESC_COINCIDENT
    let up := min 3 (w.level + 1)
    let s := if level = 0 ∧ 1 ≤ up then s.bump PD.ESC_CELL_TO_BLOCK else s
    let s := if level ≤ 1 ∧ 2 ≤ up then s.bump PD.ESC_BLOCK_TO_REGION else s
    let s := if 3 ≤ up then s.bump PD.ESC_REGION_TO_DEVICE else s
    (up, if 2 ≤ up then s.spall { spallPlace { kind := 0x14, level := up, mech := 17, outcome := 1, detail := [detailUint 0 w.level] } u with
                                  causeSeq := if w.seq = 0 then none else some w.seq } else s)

/-- From a block at region level: the block retires at the boundary and its unfinished tile passes to device level (R479). -/
def State.regionFromBlock (s : State) (u : FaultUnit) : State :=
  let k := u.die * 128 + u.block
  let s : State := { s with faults := { s.faults with
    retireBlocks := if s.faults.retireBlocks.contains k then s.faults.retireBlocks else s.faults.retireBlocks ++ [k] } }
  let s := s.openWindow 2 u (s.num PD.SPALL_NEWEST)
  (s.bump PD.ESC_REGION_TO_DEVICE).toDevice u false

/-- A residue or parity error on a tile (R221, R222, R26, R474): true when the tile is settled. `unit` is what the repeat tests. -/
def State.blockError (s : State) (unit : FaultUnit) (replayed repeatOk : Bool) (spall : Spall) : Bool × State :=
  let (up, s) := s.escalate 1 unit
  if 3 ≤ up then (false, s.toDevice unit false)
  else if up = 2 then (false, s.regionFromBlock unit)
  else if replayed then
    (true, if repeatOk then s.bump PD.REPEATS_TRANSIENT
      else (s.confirm unit spall.mech).spall { spallPlace spall unit with level := 1, outcome := 7 })
  else
    let s := (s.bump PD.ESC_BLOCK_TO_REGION).spall { spallPlace spall unit with level := 2, outcome := 1 }
    (false, s.regionFromBlock unit)

/-- Residue values of a failed check; which wrong value was found is open (DESIGN CHOICE, log 7). -/
def residueDetail (u : FaultUnit) : List (List Byte) :=
  [detailUint 0 (Config.fnNat 2 [u.die, u.block, u.cell] 0 % 7), detailUint 1 (Config.fnNat 2 [u.die, u.block, u.cell] 1 % 7)]

/-- The blocks that region level set aside retire at the boundary (R479). -/
def State.retireDue (s : State) : State :=
  let l := s.faults.retireBlocks
  let s : State := { s with faults := { s.faults with retireBlocks := [] } }
  s.each l fun s k => s.retireBlock (k / 128) (k % 128) 2 17

/-! ## Stores and bridges -/

/-- Die code of a store: gradient dies, stacks, hubs, update dies; flash at the module (R485). -/
def storeDie (st : Nat) : Nat :=
  if st < 8 then 8 + st else if st < 16 then st else if st < 24 then 20 + (st - 16) else if st < 26 then 16 + (st - 24)
  else if st < 28 then 18 + (st - 26) else if st < 30 then 18 + (st - 28) else 28

/-- A word that stays uncorrectable passes to device level with its spall (R342, R350). -/
def State.storeLost (s : State) (st addr : Nat) (committed : Bool) : State :=
  let s := s.bump PD.GUARD_UNCORRECTABLE
  let s := s.spall { kind := 0x07, level := 3, die := storeDie st, mech := 4, outcome := if committed then 3 else 2,
                     detail := [detailUint 0 st, detailUint 1 addr, detailUint 2 (if committed then 0 else 2)] }
  (s.bump PD.ESC_REGION_TO_DEVICE).toDevice ⟨storeDie st, 0, 255⟩ committed

def State.bridge (s : State) (n : Nat) : Bridge := kvGet (fun _ => {}) s.bridges n
def State.setBridge (s : State) (n : Nat) (b : Bridge) : State := { s with bridges := kvSet (fun _ => {}) s.bridges n b }

/-- A bridge stops after the ninth failed transmission: a device-level error (R19, R26). Connections 0-7 are the wythe bridges, 8-15 the
stack interfaces, then the mortar links and the inter-hub bridge. -/
def State.bridgeFailed (s : State) (n : Nat) : State :=
  let s := s.setBridge n { s.bridge n with stopped := true }
  let s := s.spall { kind := 0x01, level := 3, mech := 6, outcome := 3, detail := [detailUint 0 n, detailUint 1 9] }
  ((s.bump PD.ESC_REGION_TO_DEVICE).toDevice ⟨28, n, 255⟩ false).faultAndHold

end Sys2Proof.Machine
end

