-- ==== Sys2Proof/Machine/Tile.lean ====
section
/-! DEFINITION. Machine/Tile.lean: tile formats, headers, element encodings and quantisation (R61-R67, R175-R185). A tile is its image, a
byte string of header, scale section and payload. -/
namespace Sys2Proof.Machine

/-! ## Formats (R64) -/

/-- Element bits b of a format; 0 for an invalid code. -/
def fmtBits (f : Nat) : Nat :=
  if f = 0x01 ∨ f = 0x02 ∨ f = 0x06 ∨ f = 0x08 ∨ f = 0x18 ∨ f = 0x19 then 4
  else if f = 0x03 ∨ f = 0x1A ∨ f = 0x1B then 2
  else if f = 0x04 ∨ f = 0x05 ∨ f = 0x0A ∨ f = 0x0B ∨ f = 0x1C then 8
  else if f = 0x09 then 6
  else if f = 0x10 ∨ f = 0x11 then 16
  else if f = 0x12 then 32
  else if f = 0x14 then 1
  else 0

def fmtValid (f : Nat) : Bool := fmtBits f ≠ 0

/-- A formats and INT formats: a scale for each row. -/
def fmtRowScaled (f : Nat) : Bool := 1 ≤ f && f ≤ 6
/-- W formats: a scale for each column. -/
def fmtColScaled (f : Nat) : Bool := 0x18 ≤ f && f ≤ 0x1C
/-- QF formats: a scale for each 32-element block. -/
def fmtBlock (f : Nat) : Bool := 0x08 ≤ f && f ≤ 0x0B

def fmtScaleBytes (f : Nat) : Nat :=
  if fmtRowScaled f || fmtColScaled f then 256 else if fmtBlock f then 512 else 0

/-- Tile size in bytes (R64). -/
def tileSize (f : Nat) : Nat := 64 + fmtScaleBytes f + 2048 * fmtBits f

/-- Byte size of one token row of an activation format, and positive and negative limits of an integer format (R175). -/
def intLimits (f : Nat) : Nat × Nat :=
  if f = 0x04 ∨ f = 0x05 ∨ f = 0x1C then (127, 128)
  else if f = 0x01 ∨ f = 0x06 ∨ f = 0x18 then (7, 8)
  else if f = 0x02 ∨ f = 0x19 then (3, 4)
  else if f = 0x1B then (1, 1)
  else (1, 2)

/-- Bits of an integer code: 3 in a 4-bit container for A3 and W3. -/
def intBits (f : Nat) : Nat := if f = 0x02 ∨ f = 0x19 then 3 else fmtBits f

/-- The integer an integer format's code stands for; W2T code 11 counts as 0 (R175). -/
def intValue (f code : Nat) : Int :=
  if f = 0x1B then (if code % 4 = 1 then 1 else if code % 4 = 2 then -1 else 0)
  else signed (intBits f) code

/-- The code of an integer; bit 3 of a 3-bit code copies bit 2 (R62). -/
def intCode (f : Nat) (q : Int) : Nat :=
  if f = 0x1B then (if q = 1 then 1 else if q = -1 then 2 else 0)
  else unsigned (fmtBits f) q

/-- Block floating formats (R176): fraction bits, smallest normal exponent, largest value as a quotient, largest code. -/
structure Qf where
  mb : Nat
  emin : Int
  big : Nat × Nat
  top : Nat
  deriving DecidableEq, Repr

def qfOf (f : Nat) : Qf :=
  if f = 0x08 then ⟨1, 0, (6, 1), 7⟩
  else if f = 0x09 then ⟨3, 0, (15, 2), 31⟩
  else if f = 0x0A then ⟨3, -6, (448, 1), 126⟩
  else ⟨2, -14, (57344, 1), 123⟩

/-- The reach of a format in binades (R176). -/
def reach (f : Nat) : Nat := if f = 0x08 then 3 else if f = 0x09 then 5 else if f = 0x0A then 17 else 31

/-- The value of a QF code before its block scale. -/
def qfValue (f code : Nat) : FV :=
  let q := qfOf f
  let s := bit code (fmtBits f - 1)
  let c := code % 2 ^ (fmtBits f - 1)
  if f = 0x0A ∧ c = 127 then .nan
  else if f = 0x0B ∧ c = 124 then .inf s
  else if f = 0x0B ∧ 124 < c then .nan
  else gridValue q.mb q.emin s c

/-- The IEEE format of BF16, FP16, FP32 tiles. -/
def ieeeOf (f : Nat) : Ieee := if f = 0x10 then bf16 else if f = 0x11 then fp16 else fp32

/-! ## Headers (R65) -/

structure Hdr where
  format : Nat
  rows : Nat
  cols : Nat
  layer : Nat
  tileRow : Nat
  tileCol : Nat
  seqPos : Nat
  micro : Nat
  step : Nat
  tileScale : W32
  deriving DecidableEq, Repr

def f32One : W32 := 0x3F800000

def hdrBytes (h : Hdr) : List Byte :=
  le 8 (1 + h.format % 64 * 2 ^ 8 + h.rows % 256 * 2 ^ 16 + h.cols % 256 * 2 ^ 24 + h.layer % 65536 * 2 ^ 32)
  ++ le 8 (h.tileRow % 2 ^ 32 + h.tileCol % 2 ^ 32 * 2 ^ 32)
  ++ le 8 (h.seqPos % 2 ^ 24 + h.micro % 65536 * 2 ^ 32)
  ++ le 8 (h.step % 2 ^ 48)
  ++ le 8 h.tileScale.toNat
  ++ zeros 24

def hdrOf (img : List Byte) : Hdr :=
  let w := fun i => fieldAt img (8 * i) 8
  { format := bits (w 0) 8 6, rows := bits (w 0) 16 8, cols := bits (w 0) 24 8, layer := bits (w 0) 32 16,
    tileRow := bits (w 1) 0 32, tileCol := bits (w 1) 32 32, seqPos := bits (w 2) 0 24, micro := bits (w 2) 32 16,
    step := bits (w 3) 0 48, tileScale := BitVec.ofNat 32 (bits (w 4) 0 32) }

/-- TILE_SCALE is positive, normal and finite (R66). -/
def tileScaleOk (w : W32) : Bool := w.toNat / 2 ^ 23 ≠ 0 && w.toNat / 2 ^ 23 < 255

/-- The header check of R66 against the declared format and the place the tile is read from. -/
def hdrOk (img : List Byte) (fmt tileRow tileCol : Nat) : Bool :=
  let w := fun i => fieldAt img (8 * i) 8
  let h := hdrOf img
  bits (w 0) 0 4 = 1 && bits (w 0) 4 4 = 0 && bits (w 0) 14 2 = 0 && bits (w 0) 48 16 = 0
    && bits (w 2) 21 11 = 0 && bits (w 2) 48 16 = 0 && bits (w 3) 48 16 = 0 && bits (w 4) 32 32 = 0
    && w 5 = 0 && w 6 = 0 && w 7 = 0
    && fmtValid h.format && h.format = fmt && 1 ≤ h.rows && h.rows ≤ 128 && 1 ≤ h.cols && h.cols ≤ 128
    && tileScaleOk h.tileScale && h.tileRow = tileRow && h.tileCol = tileCol

/-! ## Reading elements -/

/-- The code of element (r, c) (R62). -/
def tileCode (img : List Byte) (f r c : Nat) : Nat :=
  let b := fmtBits f
  bits (fieldAt img (64 + fmtScaleBytes f + 16 * b * r + b * c / 8) 5) (b * c % 8) b

/-- The shared scale of element (r, c) (R63). -/
def tileShared (img : List Byte) (f r c : Nat) : FV :=
  if fmtRowScaled f then fp16.decode (fieldAt img (64 + 2 * r) 2)
  else if fmtColScaled f then fp16.decode (fieldAt img (64 + 2 * c) 2)
  else if fmtBlock f then
    let x := fieldAt img (64 + 4 * r + c / 32) 1
    if x = 255 then .nan else FV.one.scale ((x : Int) - 127)
  else .one

/-- The element's code value before any scale. -/
def codeValue (f code : Nat) : FV :=
  if fmtRowScaled f || fmtColScaled f then .ofInt (intValue f code)
  else if fmtBlock f then qfValue f code
  else if f = 0x14 then .ofNat code
  else (ieeeOf f).decode code

/-- Code times shared scale, TILE_SCALE left out. -/
def tileUnscaled (img : List Byte) (r c : Nat) : FV :=
  let f := (hdrOf img).format
  let x := tileShared img f r c
  let v := codeValue f (tileCode img f r c)
  if fmtBlock f && x.isNan then .nan else v.mul x

/-- The value of an element (R178): code times shared scale times TILE_SCALE. Zero outside ROWS x COLS (R66). -/
def tileVal (img : List Byte) (r c : Nat) : FV :=
  let h := hdrOf img
  if r < h.rows ∧ c < h.cols then (tileUnscaled img r c).mul (f32 h.tileScale) else .zero

/-- TILE_SCALE is a power of two from 1 to 2^16 (R214). -/
def tileScaleIn (w : W32) : Bool := w.toNat % 2 ^ 23 = 0 && 127 ≤ w.toNat / 2 ^ 23 && w.toNat / 2 ^ 23 ≤ 143

/-! ## Quantisation -/

/-- What quantising met: values rounded to zero, non-finite values, tiles rescaled. -/
structure QStat where
  under : Nat := 0
  nonfin : Nat := 0
  rescales : Nat := 0
  deriving DecidableEq, Repr

def QStat.add (a b : QStat) : QStat := ⟨a.under + b.under, a.nonfin + b.nonfin, a.rescales + b.rescales⟩

def FV.mag : FV → Nat × Nat
  | .fin _ n d => (n, d)
  | _ => (0, 1)

/-- Largest magnitude of the finite values. -/
def amax (vs : List FV) : FV := vs.foldl (fun m v => if v.isFinite then m.max v.abs else m) .zero

/-- Smallest X from 0 with largest × 2^(X − 127) ≥ amax; 255 or more when none to 254 does (R183). -/
def blockX (f : Nat) (m : FV) : Nat :=
  let (n, d) := m.mag
  let (bn, bd) := (qfOf f).big
  if n = 0 then 0 else
  let tn := n * bd
  let td := d * bn
  let k := ilog2 tn td
  let up := if (FV.fin false tn td).eqv (FV.one.scale k) then k else k + 1
  (up + 127).toNat

/-- One element of a QF8 or QF4/QF6 block under scale X: code and what it met (R183, R184). -/
def qfElem (f x : Nat) (v : FV) : Nat × QStat :=
  let q := qfOf f
  let hi := 2 ^ (fmtBits f - 1)
  match v with
  | .nan => (if f = 0x0A then b2n Config.nanSign * hi + 127
      else b2n Config.nanSign * hi + 125 + Config.nanPayload 2 % 3, { nonfin := 1 })
  | .inf s => (if f = 0x0A then b2n Config.nanSign * hi + 127 else b2n s * hi + 124, { nonfin := 1 })
  | .fin s _ _ =>
    let y := v.abs.scale (127 - (x : Int))
    if (FV.ratio q.big.1 q.big.2).lt y then
      (if f = 0x0A then b2n Config.nanSign * hi + 127 else b2n s * hi + 124, { nonfin := 1 })
    else
      let c := min (gridCode q.mb q.emin y.mag.1 y.mag.2) q.top
      (b2n s * hi + c, { under := b2n (decide (c = 0) && !v.isZero) })

/-- A 32-element block of a QF format: scale byte and codes (R183, R184). -/
def qfBlock (f : Nat) (vs : List FV) : Nat × List Nat × QStat :=
  let m := amax vs
  let x := blockX f m
  let bad := (vs.filter fun v => !v.isFinite).length
  let small := f = 0x08 ∨ f = 0x09
  if small ∧ (bad ≠ 0 ∨ 254 < x) then
    let overs := (vs.filter fun v => v.isFinite && (254 < blockX f v.abs : Bool)).length
    (255, vs.zipIdx.map (fun p => Config.markedCode f p.2 % 2 ^ fmtBits f), { nonfin := bad + overs })
  else
    let x := min x 254
    let es := vs.map (qfElem f x)
    (x, es.map (·.1), es.foldl (fun s e => s.add e.2) {})

/-- The FP16 scale of an integer row or column (R180): max(Nmax / P−, Pmax / P+) rounded upward; the infinity code above 65,504. -/
def intScale (f : Nat) (vs : List FV) : Nat :=
  let (pp, pm) := intLimits f
  let s := vs.foldl (fun (m v : FV) => if v.isFinite then m.max (v.abs.div (.ofNat (if v.isNeg then pm else pp))) else m) FV.zero
  min (fp16.encodeUp s.mag.1 s.mag.2) fp16.infCode

/-- A code under a scale: round(v / s) saturated into the range, and whether it saturated. -/
def intQuant (f : Nat) (s : FV) (v : FV) : Int × Bool :=
  let (pp, pm) := intLimits f
  if s.isZero then (0, false) else
  let q := (v.div s).toInt
  if (pp : Int) < q then (pp, true) else if q < -(pm : Int) then (-(pm : Int), true) else (q, false)

/-- A row or column of an integer format: scale encoding, codes, what it met. A non-finite value makes the scale a NaN (R184). -/
def intRow (f : Nat) (vs : List FV) : Nat × List Nat × QStat :=
  let bad := (vs.filter fun v => !v.isFinite).length
  if bad ≠ 0 then (fp16.nanCode, vs.zipIdx.map (fun p => Config.markedCode f p.2 % 2 ^ fmtBits f), { nonfin := bad })
  else
    let sc := min (intScale f vs) (fp16.infCode - 1)
    let s := fp16.decode sc
    let qs := vs.map fun v => (intQuant f s v).1
    (sc, qs.map (intCode f), { under := ((vs.zip qs).filter fun p => !p.1.isZero && decide (p.2 = 0)).length })

/-- Row bit string from codes (R62). -/
def packRow (b : Nat) (codes : List Nat) : List Byte :=
  le (16 * b) (codes.zipIdx.foldl (fun n p => n + p.1 % 2 ^ b * 2 ^ (b * p.2)) 0)

/-- k of an FP16 output range event: the smallest from 1 to 16 that brings every element within range, 16 when none does; 0 without
an event (R185). -/
def rescaleK (vs : List FV) : Nat :=
  let fits := fun (k : Nat) => vs.all fun v => !v.isFinite || (fp16.round (v.scale (-(k : Int)))).isFinite
  if fits 0 then 0 else ((List.range 16).map (· + 1)).find? fits |>.getD 16

/-- A code that a bed emits: never a negative zero (R223). -/
def bedCode (bed : Bool) (f code : Nat) : Nat := if bed && code = 2 ^ (fmtBits f - 1) then 0 else code

/-- The image of a tile of values in rows, of a BF16, FP16, FP32, QF or row-scaled format; values outside ROWS x COLS are zero
(R66, R183-R185). `bed`: the values come from beds. -/
def emitTile (h : Hdr) (vals : List (List FV)) (bed : Bool := false) : List Byte × QStat :=
  let f := h.format
  let at_ := fun r c => if r < h.rows ∧ c < h.cols then ((vals[r]?).bind (·[c]?)).getD .zero else .zero
  let rows := (List.range 128).map fun r => (List.range 128).map fun c => at_ r c
  if fmtBlock f then
    let bs := rows.map fun row => (List.range 4).map fun q => qfBlock f ((row.drop (32 * q)).take 32)
    let scales := bs.flatMap fun r => r.map fun b => BitVec.ofNat 8 b.1
    let pay := bs.flatMap fun r => packRow (fmtBits f) (r.flatMap fun b => if b.1 = 255 then b.2.1 else b.2.1.map (bedCode bed f))
    (hdrBytes h ++ scales ++ pay, bs.foldl (fun s r => r.foldl (fun s b => s.add b.2.2) s) {})
  else if fmtRowScaled f then
    let rs := rows.map (intRow f)
    (hdrBytes h ++ rs.flatMap (fun r => le 2 r.1) ++ rs.flatMap (fun r => packRow (fmtBits f) r.2.1),
      rs.foldl (fun s r => s.add r.2.2) {})
  else
    let k := if f = 0x11 then rescaleK rows.flatten else 0
    let ie := ieeeOf f
    let rows' := rows.map fun row => row.map fun v => v.scale (-(k : Int))
    let nf := total (rows'.map fun row => (row.filter fun v => !(ie.round v).isFinite).length)
    let ts : W32 := BitVec.ofNat 32 ((127 + k) * 2 ^ 23)
    (hdrBytes { h with tileScale := ts } ++ rows'.flatMap (fun row => packRow (fmtBits f) (row.map fun v => bedCode bed f (ie.encode v))),
      { nonfin := nf, rescales := b2n (decide (k ≠ 0)) })

end Sys2Proof.Machine
end

