-- ==== Sys2Proof/Machine/Beds.lean ====
section
/-! DEFINITION. Machine/Beds.lean: beds, promotions, emission and the joint hash (R213-R223, R229-R232). -/
namespace Sys2Proof.Machine

/-- What promotions count (R215-R217, R184). -/
structure BStat where
  prom : Nat := 0
  solo : Nat := 0
  inexact : Nat := 0
  overs : Nat := 0
  nonfin : Nat := 0
  deriving DecidableEq, Repr

def BStat.add (a b : BStat) : BStat :=
  ⟨a.prom + b.prom, a.solo + b.solo, a.inexact + b.inexact, a.overs + b.overs, a.nonfin + b.nonfin⟩

/-- The value a bed holds (R213). -/
def Bed.value (b : Bed) : FV := (FV.ofInt b.b.toInt).scale (-300)

/-- What a bed emits before rounding: NaN with OVERFLOW set (R216, R223). -/
def Bed.emits (b : Bed) : FV := if b.overflow then .nan else b.value

/-- One exact addition; one that would leave the range is not made and stops the bed (R216). -/
def Bed.addInt (b : Bed) (k : Int) : Bed × BStat :=
  if b.overflow then (b, {})
  else
    let t := b.b.toInt + k
    if t < -(2 ^ 639 : Int) ∨ (2 ^ 639 : Int) ≤ t then ({ b with overflow := true }, { overs := 1 })
    else ({ b with b := BitVec.ofInt 640 t }, {})

/-- v rounded to 64 significant bits, ties to even (R215). -/
def FV.round64 : FV → FV
  | .fin s n d =>
    if n = 0 then .fin s n d
    else
      let e : Int := ilog2 n d - 63
      (FV.fin s (rneAt n d e) 1).scale e
  | v => v

/-- A non-finite operand promotes nothing and stops the bed (R215). -/
def Bed.spoil (b : Bed) : Bed × BStat := if b.overflow then (b, {}) else ({ b with overflow := true }, { nonfin := 1 })

/-- One promotion of an addend; a bit below 2^-300 rounds at bit 0 (R215, R219). `rounded`: the addend was rounded before. -/
def Bed.promote (b : Bed) (v : FV) (solo rounded : Bool) : Bed × BStat :=
  match v with
  | .fin s n d =>
    if b.overflow then (b, {})
    else
      let m := rne (n * 2 ^ 300) d
      let below := n * 2 ^ 300 % d ≠ 0
      let (b', st) := b.addInt (if s then -(m : Int) else (m : Int))
      let inx := rounded || below
      ({ b' with inexact := b'.inexact || inx },
        st.add { prom := 1 - st.overs, solo := b2n solo * (1 - st.overs), inexact := b2n inx * (1 - st.overs) })
  | _ => b.spoil

/-- One operand of a product: code before scales, shared scale, TILE_SCALE, and whether its format is FP32. -/
structure Opnd where
  code : FV
  shared : FV
  ts : FV
  tsIn : Bool
  wide : Bool
  deriving DecidableEq, Repr

def Opnd.value (o : Opnd) : FV := (o.code.mul o.shared).mul o.ts
def Opnd.finite (o : Opnd) : Bool := o.code.isFinite && o.shared.isFinite && o.ts.isFinite

/-- The operand at element (r, c) of a tile; none outside its valid corner (R66). -/
def opnd (img : List Byte) (r c : Nat) : Option Opnd :=
  let h := hdrOf img
  if r < h.rows ∧ c < h.cols then
    let f := h.format
    some ⟨codeValue f (tileCode img f r c), tileShared img f r c, f32 h.tileScale, tileScaleIn h.tileScale, f = 0x12⟩
  else none

/-- A product is a multiple of 2^e. -/
def multOf (v : FV) (e : Int) : Bool :=
  match v.scale (-e) with
  | .fin _ n d => n % d = 0
  | _ => true

/-- One scale run of up to 32 products into a bed: a narrow sum and the products promoted alone (R217), or products rounded one by one
when an operand is FP32 (R215). -/
def Bed.addRun (b : Bed) (ps : List (Opnd × Opnd)) : Bed × BStat :=
  if ps.isEmpty then (b, {})
  else if ps.any fun p => !(p.1.finite && p.2.finite) then b.spoil
  else if ps.any fun p => p.1.wide || p.2.wide then
    let (b', st) := ps.foldl (fun (acc : Bed × BStat) p =>
      let (b', st) := acc.1.promote ((p.1.value.mul p.2.value).r32) true true
      (b', acc.2.add st)) (b, {})
    ({ b' with inexact := true }, st)
  else
    let prods := ps.map fun p => (p.1.code.mul p.2.code, p)
    let top := prods.foldl (fun (m : FV) q => m.max q.1.abs) FV.zero
    if top.isZero then (b, { prom := 1 })
    else
      let e : Int := max (ilog2 top.mag.1 top.mag.2 - 17) (-300)
      let dom := ps.all fun p => p.1.tsIn && p.2.tsIn
      let sc := fun (p : Opnd × Opnd) => (p.1.shared.mul p.2.shared).mul (p.1.ts.mul p.2.ts)
      let fix := fun (v : FV) => if dom then v else v.round64
      let narrow := prods.filter fun q => multOf q.1 e
      let alone := prods.filter fun q => !multOf q.1 e
      let sum := narrow.foldl (fun (m : FV) q => m.add (q.1.mul (sc q.2))) FV.zero
      let one := fun (acc : Bed × BStat) (v : FV) (solo : Bool) =>
        let w := fix v
        let (b', st) := acc.1.promote w solo (!w.eqv v)
        (b', acc.2.add st)
      let (b', st) := alone.foldl (fun acc q => one acc (q.1.mul (sc q.2)) true) (one (b, {}) sum false)
      ({ b' with inexact := b'.inexact || !dom }, st)

/-- Σ over columns [lo, hi) of A[i, c] × B[k, c] in runs of 32 aligned columns (R217, R241). -/
def Bed.addDot (b : Bed) (a bm : List Byte) (i k len : Nat) : Bed × BStat :=
  (List.range 4).foldl (fun (acc : Bed × BStat) q =>
    let ps := (List.range 32).filterMap fun j =>
      let c := 32 * q + j
      if c < len then
        match opnd a i c, opnd bm k c with
        | some x, some y => some (x, y)
        | _, _ => none
      else none
    let (b', st) := acc.1.addRun ps
    (b', acc.2.add st)) (b, {})

/-- A single term added into a bed as a sum station does (R234): exact, FP32 values and odd TILE_SCALEs under R215. -/
def Bed.addTerm (b : Bed) (o : Opnd) : Bed × BStat :=
  if !o.finite then b.spoil
  else
    let v := o.value
    let w := if o.tsIn then v else v.round64
    let (b', st) := b.promote w false (!w.eqv v)
    ({ b' with inexact := b'.inexact || !o.tsIn }, st)

/-- Exact sum of values in a row-engine bed, each term rounded once to FP32, the sum rounded once (R261). -/
def rowSum (l : List FV) : FV := (l.foldl (fun (m : FV) v => m.add v.r32) FV.zero).r32

/-! ## Beds of a destination range -/

def bedGet (m : List (Nat × Bed)) (e : Nat) : Bed := kvGet (fun _ => {}) m e
def bedSet (m : List (Nat × Bed)) (e : Nat) (b : Bed) : List (Nat × Bed) := kvSet (fun _ => {}) m e b

/-- Adds one bed into another with its flags, exactly (R84, R227). -/
def Bed.merge (a b : Bed) : Bed :=
  if a.overflow then a
  else if b.overflow then { a with overflow := true }
  else
    let r := (a.addInt b.b.toInt).1
    { r with inexact := r.inexact || b.inexact }

def mergeBeds (a b : List (Nat × Bed)) : List (Nat × Bed) := b.foldl (fun m p => bedSet m p.1 ((bedGet m p.1).merge p.2)) a

/-- Element number of (r, c) in the t-th tile of a destination range. -/
def elemNum (t r c : Nat) : Nat := t * 16384 + r * 128 + c

/-- Runs a bed function over every element of a rectangle, gathering counts. -/
def overRect (rows cols : Nat) (m : List (Nat × Bed)) (t : Nat) (f : Nat → Nat → Bed → Bed × BStat) : List (Nat × Bed) × BStat :=
  (List.range rows).foldl (fun (acc : List (Nat × Bed) × BStat) r =>
    (List.range cols).foldl (fun (acc : List (Nat × Bed) × BStat) c =>
      let e := elemNum t r c
      let (b, st) := f r c (bedGet acc.1 e)
      (bedSet acc.1 e b, acc.2.add st)) acc) (m, {})

/-- Values of the t-th tile of a range in rows, as its beds emit them. -/
def bedRows (m : List (Nat × Bed)) (t rows cols : Nat) : List (List FV) :=
  (List.range rows).map fun r => (List.range cols).map fun c => (bedGet m (elemNum t r c)).emits

/-- The promotion counters (R239, R184). -/
def State.countBeds (s : State) (st : BStat) : State :=
  let s := ((s.bumpBy PD.BED_PROMOTIONS st.prom).bumpBy PD.BED_SOLO_PROMOTIONS st.solo).bumpBy PD.BED_INEXACT st.inexact
  let s := s.bumpBy PD.BED_OVERFLOW st.overs
  if st.nonfin = 0 then s else (s.bumpBy PD.Q_NONFINITE st.nonfin).reason rsNonfinite

/-- The quantiser counters (R179, R184, R185). -/
def State.countQuant (s : State) (st : QStat) : State :=
  let s := (s.bumpBy PD.Q_UNDERFLOW st.under).bumpBy PD.RESCALES st.rescales
  if st.nonfin = 0 then s else (s.bumpBy PD.Q_NONFINITE st.nonfin).reason rsNonfinite

/-! ## Joints (R229-R232) -/

def mix64 (x : W64) : W64 :=
  let x := x ^^^ (x >>> 30)
  let x := x * 0xBF58476D1CE4E5B9
  let x := x ^^^ (x >>> 27)
  let x := x * 0x94D049BB133111EB
  x ^^^ (x >>> 31)

/-- The joint hash u (R231). -/
def jointHash (seed step layer tileRow tileCol micro joint part r c : Nat) : Nat :=
  let k0 : W64 := BitVec.ofNat 64 seed ^^^ BitVec.ofNat 64 (step % 2 ^ 48 + layer % 2 ^ 16 * 2 ^ 48)
  let w1 : W64 := BitVec.ofNat 64 (tileRow % 2 ^ 32 + tileCol % 2 ^ 32 * 2 ^ 32)
  let w2 : W64 := BitVec.ofNat 64 (micro % 2 ^ 16 + joint % 256 * 2 ^ 16 + part % 256 * 2 ^ 24 + r % 128 * 2 ^ 32 + c % 128 * 2 ^ 39)
  let h := mix64 (k0 ^^^ 0x9E3779B97F4A7C15)
  let h := mix64 (h ^^^ w1)
  let h := mix64 (h ^^^ w2)
  (h >>> 32).toNat

/-- The FP32 value a part's bed rounds to under u (R230). -/
def jointRound (b : Bed) (u : Nat) : FV :=
  if b.overflow then .nan
  else
    let n := b.b.toInt.natAbs
    let neg := decide (b.b.toInt < 0)
    let code := gridCode 23 fp32.emin n (2 ^ 300)
    let near := gridValue 23 fp32.emin false code
    let m := FV.fin false n (2 ^ 300)
    if near.eqv m ∧ code < fp32.infCode then .fin neg near.mag.1 near.mag.2
    else
      let lo := if near.lt m then min code (fp32.infCode - 1) else code - 1
      let vlo := gridValue 23 fp32.emin false lo
      let vhi := gridValue 23 fp32.emin false (lo + 1)
      let frac := (m.sub vlo).div (vhi.sub vlo)
      let r := frac.mag.1 * 2 ^ 32 / frac.mag.2
      if 2 ^ 32 ≤ u + r then (if lo + 1 = fp32.infCode then .inf neg else .fin neg vhi.mag.1 vhi.mag.2)
      else .fin neg vlo.mag.1 vlo.mag.2

/-- The 64-bit limb k of a bed (R213). -/
def limb (b : BitVec 640) (k : Nat) : Nat := b.toNat / 2 ^ (64 * k) % 2 ^ 64

/-- The element record of a bed (R232). -/
def elemRecord (b : BitVec 640) : List Byte :=
  let neg := b.msb
  let fill := if neg then 2 ^ 64 - 1 else 0
  match (List.range 10).reverse.find? fun k => limb b k ≠ fill with
  | none => le 2 (if neg then 0x8000 else 0)
  | some h =>
    let ks := (List.range 10).filter fun k => k = h ∨ (k < h ∧ limb b k ≠ 0)
    le 2 (ks.foldl (fun n k => n + 2 ^ k) 0 + (if neg then 0x8000 else 0)) ++ ks.flatMap fun k => le 8 (limb b k)

/-- An element record read back: the bed value and the bytes used; none when a reserved mask bit is set or bytes run out (R232, R233). -/
def elemParse (bs : List Byte) : Option (BitVec 640 × Nat) :=
  let mask := fieldAt bs 0 2
  if bs.length < 2 ∨ bits mask 10 5 ≠ 0 then none
  else
    let neg := bit mask 15
    let fill := if neg then 2 ^ 64 - 1 else 0
    let ks := (List.range 10).filter fun k => bit mask k
    if bs.length < 2 + 8 * ks.length then none
    else
      let top := (ks.getLast?).getD 0
      let val := fun (k : Nat) =>
        match ks.idxOf? k with
        | some i => fieldAt bs (2 + 8 * i) 8
        | none => if ks.isEmpty ∨ top < k then fill else 0
      some (BitVec.ofNat 640 ((List.range 10).foldl (fun n k => n + val k * 2 ^ (64 * k)) 0), 2 + 8 * ks.length)

end Sys2Proof.Machine
end

