-- ==== Sys2Proof/Machine/Operands.lean ====
section
/-! DEFINITION. Machine/Operands.lean: what an operation reads and writes: the plan's layers and tensors, formats in force, tiles in their
homes, host regions, descriptor fields (R64-R67, R77, R94, R95, R109, R194, R244, R271). -/
namespace Sys2Proof.Machine

/-! ## Descriptors (R77) -/

structure Desc where
  version : Nat
  opcode : Nat
  group : Nat
  opens : Bool
  closes : Bool
  fence : Bool
  irq : Bool
  waitEn : Bool
  layer : Nat
  status : Nat
  done : Bool
  src : Nat
  srcTile : Nat
  dst : Nat
  dstTile : Nat
  aux : Nat
  auxTile : Nat
  count : Nat
  length : Nat
  seqPos : Nat
  waitStream : Nat
  waitMark : Nat
  byteLen : Nat
  hostOffset : Nat
  hostRegion : Nat
  deriving DecidableEq, Repr

def descOf (w : BitVec 512) : Desc :=
  let f := fun (i lo len : Nat) => bits w.toNat (64 * i + lo) len
  { version := f 0 0 4, opcode := f 0 8 8, group := f 0 16 4, opens := f 0 20 1 = 1, closes := f 0 21 1 = 1, fence := f 0 22 1 = 1,
    irq := f 0 23 1 = 1, waitEn := f 0 24 1 = 1, layer := f 0 32 16, status := f 0 48 8, done := f 0 63 1 = 1,
    src := f 1 0 24, srcTile := f 1 32 32, dst := f 2 0 24, dstTile := f 2 32 32, aux := f 3 0 24, auxTile := f 3 32 32,
    count := f 4 0 32, length := f 4 32 32, seqPos := f 5 0 24, waitStream := f 5 32 18, waitMark := f 6 0 32, byteLen := f 6 32 32,
    hostOffset := f 7 0 48, hostRegion := f 7 48 16 }

/-- The reserved bits of a descriptor are zero. -/
def descReservedZero (w : BitVec 512) : Bool :=
  let f := fun (i lo len : Nat) => bits w.toNat (64 * i + lo) len
  f 0 4 4 = 0 && f 0 25 7 = 0 && f 0 56 7 = 0 && f 1 24 8 = 0 && f 2 24 8 = 0 && f 3 24 8 = 0 && f 5 24 8 = 0 && f 5 50 14 = 0

/-- A descriptor from its 64 bytes. -/
def descBits (bs : List Byte) : BitVec 512 := BitVec.ofNat 512 (ofLe (bs.take 64))

/-! ## Layers and tensors -/

def State.layer (s : State) (n : Nat) : Option Layer := s.plan.bind fun p => p.layers[n]?
def State.tensor (s : State) (id : Nat) : Option Tensor := s.plan.bind fun p => p.tensors.find? fun t => t.id = id
def Tensor.tiles (t : Tensor) : Nat := t.rows * t.cols

def isMatmul (l : Layer) : Bool := l.kind = 1
def hasWeights (l : Layer) : Bool := l.weight ≠ 0
/-- Exchanged layers (R296). -/
def exchanged (l : Layer) : Bool := l.kind = 1 || l.kind = 6 || l.kind = 2 || l.kind = 3
/-- Rows and columns of an exchanged layer's weight gradient (R296). -/
def gradDims (l : Layer) : Nat × Nat := if l.kind = 3 then (2, l.n) else (l.k, l.n)

/-- Weight columns of a cell (R119). -/
def cellCols (f : Nat) : Nat := if f = 0x18 then 128 else if f = 0x19 then 170 else if f = 0x1C then 64 else 256
/-- Bit-columns of a weight. -/
def weightBits (f : Nat) : Nat := if f = 0x18 then 4 else if f = 0x19 then 3 else if f = 0x1C then 8 else 2
/-- Input bits of an activation format (R122). -/
def inputBits (f : Nat) : Nat := if f = 0x01 ∨ f = 0x06 then 4 else if f = 0x02 then 3 else if f = 0x03 then 2 else 8

def State.num? (s : State) (layer : Nat) : LayerNum := kvGet (fun _ => {}) s.layers layer
def State.setLayerNum (s : State) (layer : Nat) (l : LayerNum) : State := { s with layers := kvSet (fun _ => {}) s.layers layer l }

/-- Formats in use on a rung: weights, inputs (R194). -/
def rungFormats (l : Layer) (rung : Nat) : Nat × Nat :=
  match rung with
  | 0 => (l.wFormat, l.aFormat)
  | 1 => (l.wFormat, 0x04)
  | 2 => (0x1C, 0x04)
  | _ => (0x10, 0x10)

/-- A rung is skipped when its formats equal those of the rung below it (R194). -/
def rungSkipped (l : Layer) (rung : Nat) : Bool :=
  (rung = 1 && l.aFormat = 0x04) || (rung = 2 && l.wFormat = 0x1C)

def State.rung (s : State) (layer : Nat) : Nat := (s.num? layer).rung
def State.wFormat (s : State) (layer : Nat) : Nat := ((s.layer layer).map fun l => (rungFormats l (s.rung layer)).1).getD 0
def State.aFormat (s : State) (layer : Nat) : Nat := ((s.layer layer).map fun l => (rungFormats l (s.rung layer)).2).getD 0

/-- Outlier channels M of a layer (R189). -/
def outliers (l : Layer) : Nat := ceilDiv (l.groutG * l.k) 4096

/-- A cold layer has fewer than 16 committed histograms (R208). -/
def LayerNum.cold (l : LayerNum) : Bool := l.ring.length < 16

/-- Width order of gradient formats (R203). -/
def gradWidth (f : Nat) : Nat := if f = 0x08 then 0 else if f = 0x09 then 1 else if f = 0x0A then 2 else if f = 0x0B then 3 else 4
def gradOf (w : Nat) : Nat := if w = 0 then 0x08 else if w = 1 then 0x09 else if w = 2 then 0x0A else if w = 3 then 0x0B else 0x10

/-- A tensor of CLASS GRADIENT that declares a QF format is gauged (R271). -/
def Tensor.gauged (t : Tensor) : Bool := t.cls = 5 && fmtBlock t.format

/-- The layers whose FWD work wrote the QKV tensor that an ATTN layer reads in this step (R270). -/
def State.qkvLayers (s : State) (attn : Nat) : List Nat :=
  let ds := s.backward.forward.map fun f => (f.stream, descOf f.desc)
  let qkv := (ds.filter fun p => p.2.layer = attn ∧ p.2.opcode = 1).map (·.2.src)
  ((ds.filter fun p => qkv.contains p.2.dst ∧ p.2.layer ≠ attn).map (·.2.layer)).eraseDups

/-- The gradient format in force for a layer: chosen at the last COMMIT, or widened for the rest of the step (R203, R205, R206). -/
def State.gradFormat1 (s : State) (layer : Nat) : Nat := ((s.num? layer).plumbFormat).getD (s.num? layer).gradFormat

/-- For an ATTN layer, the widest of its projections' formats (R270). -/
def State.gradFormat (s : State) (layer : Nat) : Nat :=
  match s.layer layer with
  | some l =>
    if l.kind = 5 then
      let ws := (s.qkvLayers layer).map fun k => gradWidth (s.gradFormat1 k)
      if ws.isEmpty then s.gradFormat1 layer else gradOf (ws.foldl max 0)
    else s.gradFormat1 layer
  | none => 0x10

/-- The declared format of R66 and R78: the format in force where a rung or a gradient choice decides it (R244, R271, DEDUCED, log 18). -/
def State.formatOf (s : State) (t : Tensor) : Nat :=
  if t.gauged then s.gradFormat t.owner
  else if t.cls = 1 then (if 2 ≤ s.rung t.owner then 0x0A else t.format)
  else if t.cls = 0 then (match s.layer t.owner with
    | some l => if l.kind = 1 then (rungFormats l (s.rung t.owner)).1 else t.format
    | none => t.format)
  else if 1 ≤ t.format ∧ t.format ≤ 4 then (match s.layer t.owner with
    | some l => if l.kind = 1 ∧ s.rung t.owner ≤ 2 then (rungFormats l (s.rung t.owner)).2 else t.format
    | none => t.format)
  else t.format

/-! ## Tiles in their homes (R109) -/

def State.home (s : State) (id : Nat) (companion : Bool) : Option Home :=
  s.place.bind fun p => p.homes.find? fun h => h.tensor = id ∧ h.companion = companion

/-- Bytes at an offset of a tensor's home; of a host home they are the operand the command brings. -/
def State.homeRead (s : State) (h : Home) (o n : Nat) (host : List Byte) : List Byte :=
  if h.host then padTo n (sub host o n) else s.read h.store (h.offset + o) n

def State.homeWrite (s : State) (h : Home) (o : Nat) (bs : List Byte) : State :=
  if h.host then s.emit (.hostWrite h.store (h.offset + o) bs) else s.write h.store (h.offset + o) bs

/-- The image of a tile of a tensor, sized by the format its header names; the declared format's where that is invalid. -/
def State.tileRead (s : State) (t : Tensor) (companion : Bool) (k : Nat) (host : List Byte) : List Byte :=
  match s.home t.id companion with
  | none => []
  | some h =>
    let hd := s.homeRead h (k * h.stride) 64 host
    let f := (hdrOf hd).format
    let f := if fmtValid f ∧ tileSize f ≤ h.stride then f else s.formatOf t
    s.homeRead h (k * h.stride) (tileSize f) host

def State.tileWrite (s : State) (t : Tensor) (companion : Bool) (k : Nat) (img : List Byte) : State :=
  match s.home t.id companion with
  | some h => s.homeWrite h (k * h.stride) img
  | none => s

/-- A source tile's image when its header passes; a gauged tile may carry the format in force at the start of the step or a wider one
reached since (R66, R80, R271). -/
def State.srcTile (s : State) (t : Tensor) (k : Nat) (host : List Byte) : Option (List Byte) :=
  let img := s.tileRead t false k host
  let f := s.formatOf t
  let r := k / (max t.cols 1)
  let c := k % (max t.cols 1)
  if hdrOk img f r c then some img
  else if t.gauged ∧ hdrOk img (s.num? t.owner).gradFormat r c then some img
  else none

/-- BF16 image of a tile's values. -/
def toBf16 (img : List Byte) : List Byte :=
  let h := hdrOf img
  (emitTile { h with format := 0x10, tileScale := f32One }
    ((List.range h.rows).map fun r => (List.range h.cols).map fun c => tileVal img r c)).1

/-- The image with every element's place swapped (R246, R248): values in rows of the transposed tile. -/
def transposed (img : List Byte) : List (List FV) :=
  let h := hdrOf img
  (List.range h.cols).map fun c => (List.range h.rows).map fun r => tileVal img r c

/-! ## Host regions (R394, R395) -/

/-- Registered size of a region; zero when it is not registered. -/
def State.regionSize (s : State) (r : Nat) : Nat :=
  if r = 0 then 0 else
  match (s.rows PD.HOST_REGIONS).find? fun row => row.headD 0 = r with
  | some [_, _, _, size, _] => size
  | _ => 0

def State.regionEp (s : State) (r : Nat) : Ep :=
  match (s.rows PD.HOST_REGIONS).find? fun row => row.headD 0 = r with
  | some (_ :: e :: _) => Fin.ofNat 2 e
  | _ => 0

/-- A host request can be issued: the region's endpoint is up and a bus master (R395). -/
def State.hostReachable (s : State) (r : Nat) : Bool :=
  let e := s.ep (s.regionEp r)
  s.regionSize r ≠ 0 && e.linkUp && e.busMaster

/-! ## Placement lookups -/

def State.layerPlace (s : State) (layer leaf : Nat) : Option LayerPlace :=
  s.place.bind fun p => p.layers.find? fun l => l.layer = layer ∧ (l.leaf = leaf ∨ l.leaf = 2)

/-- Segment of a layer: the checkpoint layers at or below it, layer 0 begins the first (R251). -/
def State.segStarts (s : State) : List Nat :=
  let cs := (s.place.map fun p => p.ckpts.map (·.1)).getD []
  (0 :: cs.filter (· ≠ 0)).eraseDups

def State.isCkpt (s : State) (layer : Nat) : Bool := s.place.any fun p => p.ckpts.any fun c => c.1 = layer

end Sys2Proof.Machine
end

