-- ==== Sys2Proof/Machine/Plan.lean ====
section
/-! DEFINITION. Machine/Plan.lean: plan objects: field maps, parsing and the load checks (R92-R97, R244, R262, R265, R272, R296, R321, R541). -/
namespace Sys2Proof.Machine

structure PlanHeader where
  mode : Nat
  length : Nat
  micro : Nat
  layers : Nat
  tensors : Nat
  streams : Nat
  sched : Nat
  oLayers : Nat
  oTensors : Nat
  oStreams : Nat
  oSched : Nat
  region : Nat
  deriving DecidableEq, Repr

/-- Field of word i of a record that starts at byte o. -/
def wField (bs : List Byte) (o i lo len : Nat) : Nat := bits (fieldAt bs (o + 8 * i) 8) lo len

def planHeader (b : List Byte) : PlanHeader :=
  { mode := wField b 0 0 40 2, length := wField b 0 1 0 32, micro := wField b 0 1 32 32, layers := wField b 0 2 0 16,
    tensors := wField b 0 2 32 32, streams := wField b 0 3 0 32, sched := wField b 0 3 32 32, oLayers := wField b 0 4 0 32,
    oTensors := wField b 0 4 32 32, oStreams := wField b 0 5 0 32, oSched := wField b 0 5 32 32, region := wField b 0 6 0 16 }

/-- A fault row when a condition holds. -/
def faultIf (c : Bool) (code obj field : Nat) : List PlanFault := if c then [⟨code, obj, field⟩] else []

def sectionBad (o n size len : Nat) : Bool := o % 64 ≠ 0 || len < o + n * size

/-- BAD_HEADER rows (R93); field numbers count the header table's rows. -/
def headerFaults (b : List Byte) (len : Nat) : List PlanFault :=
  let h := planHeader b
  faultIf (wField b 0 0 0 32 ≠ 0x4E414C50) 1 0 0
  ++ faultIf (wField b 0 0 32 4 ≠ 1) 1 0 1
  ++ faultIf (wField b 0 0 36 4 ≠ 0) 1 0 2
  ++ faultIf (h.mode = 3) 1 0 3
  ++ faultIf (wField b 0 0 42 22 ≠ 0) 1 0 4
  ++ faultIf (h.length ≠ len || 2 ^ 28 < len || len < 64) 1 0 5
  ++ faultIf (h.micro = 0 || 2097152 < h.micro) 1 0 6
  ++ faultIf (h.layers = 0) 1 0 7
  ++ faultIf (wField b 0 2 16 16 ≠ 0) 1 0 8
  ++ faultIf (h.tensors = 0 || 1048576 < h.tensors) 1 0 9
  ++ faultIf (h.streams = 0 || 262144 < h.streams) 1 0 10
  ++ faultIf (h.sched = 0 || 1048576 < h.sched) 1 0 11
  ++ faultIf (sectionBad h.oLayers h.layers 32 len) 1 0 12
  ++ faultIf (sectionBad h.oTensors h.tensors 32 len) 1 0 13
  ++ faultIf (sectionBad h.oStreams h.streams 16 len) 1 0 14
  ++ faultIf (sectionBad h.oSched h.sched 8 len) 1 0 15
  ++ faultIf (wField b 0 6 16 48 ≠ 0) 1 0 17
  ++ faultIf (fieldAt b 56 8 ≠ 0) 1 0 18

def layerAt (b : List Byte) (o : Nat) : Layer :=
  { kind := wField b o 0 0 8, wFormat := wField b o 0 8 6, aFormat := wField b o 0 16 6, rowGroup := wField b o 0 22 2,
    doubleStrike := wField b o 0 24 2, pin := wField b o 0 26 1 = 1, noCkpt := wField b o 0 27 1 = 1, k := wField b o 1 0 32,
    n := wField b o 1 32 32, weight := wField b o 2 0 24, groutG := wField b o 2 32 9 }

def layerReservedZero (b : List Byte) (o : Nat) : Bool :=
  wField b o 0 14 2 = 0 && wField b o 0 28 36 = 0 && wField b o 2 24 8 = 0 && wField b o 2 41 23 = 0 && fieldAt b (o + 24) 8 = 0

/-- BAD_LAYER rows of one record (R94, R265); field numbers count the record table's rows. -/
def layerFaults (b : List Byte) (o i : Nat) (ids : List Nat) : List PlanFault :=
  let l := layerAt b o
  let mm := l.kind = 1
  faultIf (l.kind = 0 || 6 < l.kind) 2 i 0
  ++ faultIf (if mm then !(0x18 ≤ l.wFormat && l.wFormat ≤ 0x1C) else l.wFormat ≠ 0) 2 i 1
  ++ faultIf (!layerReservedZero b o) 2 i 2
  ++ faultIf (if mm then !(1 ≤ l.aFormat && l.aFormat ≤ 4) else l.aFormat ≠ 0) 2 i 3
  ++ faultIf (if mm then l.rowGroup = 3 else l.rowGroup ≠ 0) 2 i 4
  ++ faultIf (if mm then l.doubleStrike = 3 else l.doubleStrike ≠ 0) 2 i 5
  ++ faultIf (l.pin && l.noCkpt) 2 i 6
  ++ faultIf (l.k = 0 || 1048576 < l.k || (l.kind = 5 && l.k ≠ 128)) 2 i 9
  ++ faultIf (l.n = 0 || (l.kind = 5 && (l.n % 128 ≠ 0 || 512 < l.n / 128))) 2 i 10
  ++ faultIf ((l.weight ≠ 0 && !ids.contains l.weight) || (mm && l.weight = 0) || (l.kind = 5 && l.weight ≠ 0)) 2 i 11
  ++ faultIf (if mm then 256 < l.groutG else l.groutG ≠ 0) 2 i 13

def tensorAt (b : List Byte) (o : Nat) : Tensor :=
  { id := wField b o 0 0 24, format := wField b o 0 24 6, cls := wField b o 0 32 4, home := wField b o 0 36 3,
    wgrad := wField b o 0 39 1 = 1, owner := wField b o 0 48 16, rows := wField b o 1 0 32, cols := wField b o 1 32 32,
    region := wField b o 2 0 16 }

/-- BAD_TENSOR rows of one record (R95). -/
def tensorFaults (b : List Byte) (o : Nat) (earlier : List Nat) (layers : Nat) : List PlanFault :=
  let t := tensorAt b o
  faultIf (t.id = 0 || earlier.contains t.id) 4 t.id 0
  ++ faultIf (!fmtValid t.format) 4 t.id 1
  ++ faultIf (wField b o 0 30 2 ≠ 0) 4 t.id 2
  ++ faultIf (7 < t.cls) 4 t.id 3
  ++ faultIf (4 < t.home) 4 t.id 4
  ++ faultIf (t.wgrad && t.cls ≠ 5) 4 t.id 5
  ++ faultIf (wField b o 0 40 8 ≠ 0) 4 t.id 6
  ++ faultIf (t.owner ≠ 0xFFFF && layers ≤ t.owner) 4 t.id 7
  ++ faultIf (t.rows = 0) 4 t.id 8
  ++ faultIf (t.cols = 0) 4 t.id 9
  ++ faultIf (t.home ≠ 4 && t.region ≠ 0) 4 t.id 10
  ++ faultIf (wField b o 2 16 48 ≠ 0 || fieldAt b (o + 24) 8 ≠ 0) 4 t.id 11

/-- Stations by code (R541). -/
def stFwd : Nat := 1
def stGrout : Nat := 2
def stBwdx : Nat := 3
def stBwdw : Nat := 4
def stAct : Nat := 5
def stRow : Nat := 6
def stAttn : Nat := 7
def stReduce : Nat := 8
def stTopk : Nat := 9
def stGauge : Nat := 10
def stHod : Nat := 11
def stUpdate : Nat := 12
def stAudit : Nat := 13

/-- Stations that keep groups (R78). -/
def keepsGroups (st : Nat) : Bool := st = 1 || st = 2 || st = 3 || st = 4 || st = 7 || st = 8

def streamAt (b : List Byte) (o : Nat) : StreamDef :=
  { station := wField b o 0 0 4, hostFed := wField b o 0 4 1 = 1, ep0 := wField b o 0 5 1 = 1, ep1 := wField b o 0 6 1 = 1,
    ringCode := wField b o 0 8 5, priority := wField b o 0 16 2, groups := wField b o 0 20 5 }

/-- BAD_STREAM rows of one definition (R68, R71, R72, R541). -/
def streamFaults (b : List Byte) (o i : Nat) : List PlanFault :=
  let d := streamAt b o
  faultIf (d.station = 0 || 13 < d.station) 5 i 0
  ++ faultIf (d.hostFed && (d.station = 2 || d.station = 10 || 12 ≤ d.station)) 5 i 1
  ++ faultIf (d.hostFed != (d.ep0 || d.ep1)) 5 i 2
  ++ faultIf (wField b o 0 7 1 ≠ 0 || wField b o 0 13 3 ≠ 0 || wField b o 0 18 2 ≠ 0 || wField b o 0 25 39 ≠ 0
      || fieldAt b (o + 8) 8 ≠ 0) 5 i 4
  ++ faultIf (d.ringCode < 4 || 20 < d.ringCode) 5 i 5
  ++ faultIf (d.groups = 0 || 16 < d.groups || (!keepsGroups d.station && d.groups ≠ 1)) 5 i 9

def schedAt (b : List Byte) (o : Nat) : Sched :=
  { micro := wField b o 0 0 16, backward := wField b o 0 16 1 = 1, first := wField b o 0 32 16, last := wField b o 0 48 16 }

/-- BAD_SCHEDULE rows of one entry (R96, R97). -/
def schedFaults (b : List Byte) (o i layers : Nat) : List PlanFault :=
  let e := schedAt b o
  faultIf (wField b o 0 17 15 ≠ 0) 9 i 2
  ++ faultIf (e.last < e.first) 9 i 3
  ++ faultIf (layers ≤ e.first || layers ≤ e.last) 9 i 4

/-- A micro-batch that some entry names lacks a FORWARD entry over some MATMUL layer. -/
def coverFaults (layers : List Layer) (sched : List Sched) : List PlanFault :=
  let ms := (sched.map (·.micro)).eraseDups
  ms.flatMap fun m => layers.zipIdx.flatMap fun l =>
    faultIf (l.1.kind = 1 && !sched.any fun e => e.micro = m ∧ !e.backward ∧ e.first ≤ l.2 ∧ l.2 ≤ e.last) 9 l.2 5

/-- Two layers name one weight tensor (R272). -/
def tiedFaults (layers : List Layer) : List PlanFault :=
  layers.zipIdx.flatMap fun l =>
    faultIf (l.1.weight ≠ 0 && (layers.take l.2).any fun m => m.weight = l.1.weight) 3 l.2 11

/-- Exactly one tensor of a kind for a layer, and its shape and format. -/
def oneOf (ts : List Tensor) (i : Nat) (p : Tensor → Bool) (ok : Tensor → Bool) (field : Nat) : List PlanFault :=
  match ts.filter fun t => t.owner = i && p t with
  | [t] => faultIf (!ok t) 4 t.id field
  | _ => [⟨4, i, field⟩]

/-- The tensors every layer must have (R244, R262, R296, R321). -/
def presenceFaults (layers : List Layer) (ts : List Tensor) : List PlanFault :=
  layers.zipIdx.flatMap (fun l =>
    let (k, n) := gradDims l.1
    let shape := fun (t : Tensor) => t.rows = ceilDiv k 128 && t.cols = ceilDiv n 128
    (if l.1.kind = 1 ∨ l.1.kind = 6 then oneOf ts l.2 (fun t => t.cls = 1) (fun t => t.format = 0x08 && shape t) 20 else [])
    ++ (if exchanged l.1 then
      oneOf ts l.2 (·.wgrad) (fun t => t.cls = 5 && (t.format = 0x12 || (t.format = 0x10 && l.1.kind ≠ 3)) && shape t) 5
      ++ oneOf ts l.2 (fun t => t.cls = 2) (fun t => t.format = 0x12 && shape t) 21
      ++ oneOf ts l.2 (fun t => t.cls = 3) (fun t => t.format = 0x12 && shape t) 22
      else []))
  ++ ts.flatMap fun t => faultIf (t.wgrad && !(layers[t.owner]?).any exchanged) 4 t.id 5

/-- The plan that a good object spells, and every check of R97 that needs no placement. -/
def checkPlan (b : List Byte) (len : Nat) (rules : List (List Nat)) : Option Plan × List PlanFault :=
  let hf := headerFaults b len
  if !hf.isEmpty then (none, hf)
  else
    let h := planHeader b
    let os := fun (o n size : Nat) => (List.range n).map fun i => o + i * size
    let ts := (os h.oTensors h.tensors 32).map (tensorAt b)
    let ids := ts.map (·.id)
    let ls := (os h.oLayers h.layers 32).map (layerAt b)
    let ss := (os h.oStreams h.streams 16).map (streamAt b)
    let es := (os h.oSched h.sched 8).map (schedAt b)
    let fs := (os h.oLayers h.layers 32).zipIdx.flatMap (fun p => layerFaults b p.1 p.2 ids)
      ++ tiedFaults ls
      ++ (os h.oTensors h.tensors 32).zipIdx.flatMap (fun p => tensorFaults b p.1 (ids.take p.2) h.layers)
      ++ presenceFaults ls ts
      ++ (os h.oStreams h.streams 16).zipIdx.flatMap (fun p => streamFaults b p.1 p.2)
      ++ (os h.oSched h.sched 8).zipIdx.flatMap (fun p => schedFaults b p.1 p.2 h.layers)
      ++ coverFaults ls es
    (some { mode := h.mode, microTokens := h.micro, layers := ls, tensors := ts, streams := ss, sched := es, ckptRegion := h.region,
            digest := Config.sha384 (b.take len), rules := rules }, fs)

/-! ## Panes and their owners (R296, R297) -/

/-- A pane's place and its valid elements. -/
structure PaneRef where
  layer : Nat
  pane : Nat
  rows : Nat
  cols : Nat
  deriving DecidableEq, Repr

def layerPanes (i : Nat) (l : Layer) : List PaneRef :=
  let (k, n) := gradDims l
  let pc := ceilDiv n 2048
  if exchanged l then
    (List.range (ceilDiv k 2048)).flatMap fun r => (List.range pc).map fun c =>
      ⟨i, r * pc + c, min 2048 (k - 2048 * r), min 2048 (n - 2048 * c)⟩
  else []

/-- Index of the least load, the lowest member on a tie. -/
def leastLoad (load : List Nat) : Nat :=
  let m := load.foldl min ((load.head?).getD 0)
  (load.idxOf? m).getD 0

/-- The owner of every pane over D members (R297). -/
def paneOwners (layers : List Layer) (d : Nat) : List (PaneRef × Nat) :=
  let all := layers.zipIdx.flatMap fun l => layerPanes l.2 l.1
  let sorted := sortBy (fun (a b : PaneRef) =>
    let x := a.rows * a.cols
    let y := b.rows * b.cols
    y < x || (x = y && (a.layer < b.layer || (a.layer = b.layer && a.pane ≤ b.pane)))) all
  (sorted.foldl (fun (acc : List (PaneRef × Nat) × List Nat) p =>
    let m := leastLoad acc.2
    (acc.1 ++ [(p, m)], acc.2.set m ((acc.2[m]?).getD 0 + p.rows * p.cols))) ([], List.replicate (max d 1) 0)).1

/-- Panes this module owns. -/
def State.ownPanes (s : State) (layers : List Layer) : List PaneRef :=
  ((paneOwners layers (s.num PD.EXCH_SIZE)).filter fun p => p.2 = s.num PD.EXCH_MEMBER).map (·.1)

/-- A layer's rule (R322): 1 KRONECKER, 2 DIAGONAL, 3 MOMENTUM. -/
def ruleOf (rules : List (List Nat)) (i : Nat) (l : Layer) : Nat :=
  let r := ((rules[i]?).bind (·.head?)).getD 0
  if r ≠ 0 then r else if l.kind = 1 ∨ l.kind = 6 then 1 else 2

/-- Bytes of a pane's state, its record included (R320). -/
def paneBytes (rule rows cols : Nat) : Nat :=
  64 + (if rule = 1 then 4 * (3 * rows * cols + 3 * (rows * rows + cols * cols))
  else if rule = 2 then 12 * rows * cols else 8 * rows * cols)

end Sys2Proof.Machine
end

