-- ==== Sys2Proof/Machine/Placer.lean ====
section
/-! DEFINITION. Machine/Placer.lean: placement of a plan: cells, homes, checkpoints, array sequence (R98-R116, R251, R264). Offsets inside a
store are the model's first-fit allocation (DESIGN CHOICE, log 17). -/
namespace Sys2Proof.Machine

/-! ## Cells -/

/-- Working cells of a leaf of an array die in (block, cell) order; leaf 0 A, 1 B, 2 both (R98). -/
def State.workingCells (s : State) (die leaf : Nat) : List Nat :=
  (List.range 128).flatMap fun b =>
    if s.faults.retiredBlocks.contains (die * 128 + b) then []
    else ((List.range 16).map fun c => die * 2048 + b * 16 + c).filter fun g =>
      (leaf = 2 || g % 16 / 8 = leaf) && !s.faults.retiredCells.contains g

/-- The next die from d with k cells free. -/
def nextDie (free : List (List Nat)) (k d : Nat) : Option Nat :=
  ((List.range 8).map fun i => (d + i) % 8).find? fun j => k ≤ ((free[j]?).getD []).length

/-- Deals groups over the dies in turn (R98): replica, slice, section of each; none when one finds no place. -/
def dealGroups (k : Nat) : List (Nat × Nat × Nat) → List (List Nat) → Nat → Option (List ColGroup × List (List Nat))
  | [], free, _ => some ([], free)
  | (r, sl, se) :: gs, free, d =>
    match nextDie free k d with
    | none => none
    | some j =>
      let cs := (free[j]?).getD []
      match dealGroups k gs (free.set j (cs.drop k)) ((j + 1) % 8) with
      | none => none
      | some (l, fr) => some (⟨r, sl, se, j, cs.take k⟩ :: l, fr)

/-- Replica and slice pairs of R replicas of slices [lo, hi). -/
def groupList (r lo hi sect : Nat) : List (Nat × Nat × Nat) :=
  (List.range r).flatMap fun rep => ((List.range (hi - lo)).map fun i => (rep, lo + i, sect))

/-- A layer on a leaf set with free cells of its own, as in RELOAD (R98); none when it needs more than 64 sections or has no cells. -/
def placeReload (i : Nat) (l : Layer) (wf leaf micro : Nat) (cells : List (List Nat)) : Option LayerPlace :=
  let ks := ceilDiv l.k 1024
  let ns := ceilDiv l.n (cellCols wf)
  let cap := total (cells.map fun c => c.length / ks)
  if cap = 0 then none
  else
    let s := if ns ≤ cap then 1 else ceilDiv ns cap
    let r := if ns ≤ cap then min (ceilDiv micro 128) (cap / ns) else 1
    if 64 < s then none
    else
      let per := ceilDiv ns s
      let secs := (List.range s).map fun se =>
        dealGroups ks (groupList r (min ns (se * per)) (min ns ((se + 1) * per)) se) cells 0
      if secs.any (·.isNone) then none
      else some ⟨i, leaf, wf, s, r, ks, ns, secs.flatMap fun x => (x.map (·.1)).getD []⟩

/-- One replica of a layer on what is left of both leaves (R100, R101). -/
def placeReplica (l : Layer) (wf rep : Nat) (free : List (List Nat)) : Option (List ColGroup × List (List Nat)) :=
  dealGroups (ceilDiv l.k 1024) (groupList 1 0 (ceilDiv l.n (cellCols wf)) 0 |>.map fun g => (rep, g.2.1, g.2.2)) free 0

/-- RESIDENT placement of one replica each, in forward order; none when a layer does not fit. -/
def placeResident : List (Nat × Layer × Nat) → List (List Nat) → Option (List LayerPlace × List (List Nat))
  | [], free => some ([], free)
  | (i, l, wf) :: ls, free =>
    match placeReplica l wf 0 free with
    | none => none
    | some (gs, free') =>
      match placeResident ls free' with
      | none => none
      | some (ps, fr) => some (⟨i, 2, wf, 1, 1, ceilDiv l.k 1024, ceilDiv l.n (cellCols wf), gs⟩ :: ps, fr)

/-- Adds replicas one at a time to the layer that has most tiles per replica and still fits (R101). -/
def addReplicas (layers : List Layer) (tiles : Nat) : Nat → List LayerPlace → List (List Nat) → List LayerPlace
  | 0, ps, _ => ps
  | fuel + 1, ps, free =>
    let can := ps.filterMap fun p =>
      match layers[p.layer]? with
      | some l => (placeReplica l p.wFormat p.replicas free).map fun x => (p, x)
      | none => none
    let best := can.foldl (fun (b : Option (LayerPlace × (List ColGroup × List (List Nat)))) x =>
      match b with
      | none => some x
      | some y => if ceilDiv tiles y.1.replicas < ceilDiv tiles x.1.replicas then some x else some y) none
    match best with
    | none => ps
    | some (p, gs, free') =>
      addReplicas layers tiles fuel
        (ps.map fun q => if q.layer = p.layer then { q with replicas := q.replicas + 1, groups := q.groups ++ gs } else q) free'

/-! ## The array sequence (R102, R251) -/

/-- First and last layer of each segment, for segment starts in rising order. -/
def segments (starts : List Nat) (n : Nat) : List (Nat × Nat) :=
  let st := sortBy (fun a b => decide (a ≤ b)) starts
  st.zipIdx.map fun p => (p.1, (st[p.2 + 1]?).getD n - 1)

/-- Array layers of the recompute sets that a BACKWARD entry needs, segment by segment downward: every layer of a segment but its last, whose
output no other layer of the segment reads (DEDUCED, log 19). -/
def recomputeOps (segs : List (Nat × Nat)) (e : Sched) (isArray : Nat → Bool) : List Nat :=
  (segs.reverse.filter fun g => g.1 ≤ e.last && e.first ≤ g.2).flatMap fun g =>
    ((List.range (g.2 - g.1)).map fun i => g.1 + i).filter isArray

/-- Leaves alternate, and a repeated operation stays (R102). -/
def alternate : List (Nat × Nat × Nat × Bool) → Option (Nat × Nat × Nat) → List SeqOp
  | [], _ => []
  | (l, m, se, rc) :: t, prev =>
    let leaf := match prev with
      | none => 0
      | some (pl, ps, pf) => if pl = l ∧ ps = se then pf else 1 - pf
    ⟨l, m, leaf, se, rc⟩ :: alternate t (some (l, se, leaf))

def arraySequence (p : Plan) (places : List LayerPlace) (segs : List (Nat × Nat)) (reload : Bool) : List SeqOp :=
  let isArray := fun i => places.any fun q => q.layer = i
  let sects := fun i => ((places.find? fun q => q.layer = i).map (·.sections)).getD 1
  let ops := p.sched.flatMap fun e =>
    let ls := if e.backward then (recomputeOps segs e isArray).map fun i => (i, true)
      else (((List.range (e.last + 1 - e.first)).map fun i => e.first + i).filter isArray).map fun i => (i, false)
    ls.flatMap fun l => (List.range (sects l.1)).map fun se => (l.1, e.micro, se, l.2)
  if reload then alternate ops none else ops.map fun o => ⟨o.1, o.2.1, 2, o.2.2.1, o.2.2.2⟩

/-! ## Stations (R107) -/

/-- Quarter blocks of n stations with work w over what is left of 256, largest remainder, ties in table order. -/
def quarterBlocks (ws : List Nat) : List Nat :=
  let n := ws.length
  let rest := 256 - n
  let sum := max (total ws) 1
  let base := ws.map fun w => 1 + rest * w / sum
  let left := 256 - total base
  let rem := ws.zipIdx.map fun p => (rest * p.1 % sum, p.2)
  let order := (sortBy (fun (a b : Nat × Nat) => decide (b.1 < a.1 ∨ (a.1 = b.1 ∧ a.2 ≤ b.2))) rem).map (·.2)
  base.zipIdx.map fun p => p.1 + b2n ((order.take left).contains p.2)

/-- The stations of a plan that run on digital cells, in table order. -/
def digitalStations (p : Plan) : List Nat :=
  [1, 2, 3, 4, 5, 7, 8, 9, 10].filter fun st => p.streams.any fun d => d.station = st

def placeStations (p : Plan) : List (Nat × Nat × Nat × Nat) :=
  let sts := digitalStations p
  (List.range 8).flatMap fun die =>
    let qs := quarterBlocks (sts.map fun st => Config.fnNat 1 [die, st] 0)
    (sts.zip qs).foldl (fun (acc : List (Nat × Nat × Nat × Nat) × Nat) x =>
      (acc.1 ++ [(die, x.1, acc.2, acc.2 + x.2 - 1)], acc.2 + x.2)) ([], 0) |>.1

/-! ## Homes (R109-R111) -/

/-- First 64-byte-aligned address at or above a with n bytes clear of the fixed regions and below a limit. -/
def fitAt (fixed : List (Nat × Nat)) (limit n : Nat) : Nat → Nat → Option Nat
  | 0, _ => none
  | fuel + 1, a =>
    let a := ceilDiv a 64 * 64
    if limit < a + n then none
    else match fixed.find? fun f => f.1 < a + n ∧ a < f.1 + f.2 with
      | some f => fitAt fixed limit n fuel (f.1 + f.2)
      | none => some a

/-- An allocation in progress: next free byte by store, and host bytes by region. -/
structure Alloc where
  next : List (Nat × Nat)
  deriving DecidableEq, Repr

/-- Usable slow-tier bytes of an update die: its trained channels times the smallest trained capacity among them (R344). -/
def State.slowDie (s : State) (d : Nat) : Nat :=
  let caps := (s.clk.channels.filter fun c => c.1 / 6 = d && c.2.2.2).map (·.2.1)
  match caps with
  | [] => 0
  | c :: cs => (cs.length + 1) * cs.foldl min c

/-- Bytes of a stack, and those of them that lie in the BAR2 window (R338, R352). -/
def stackSize : Nat := 0x2000000000
def stackWindow : Nat := 0x1F0000000

/-- Usable end of a store: staging below the bed spill pool, stacks, slow tiers. -/
def State.storeEnd (s : State) (st : Nat) : Nat :=
  if st < 8 then 0x0C000000 - s.num PD.BED_SPILL_MIB * 2 ^ 20
  else if st < 24 then stackSize
  else s.slowDie (st - 28)

def State.fixedRegions (s : State) (st : Nat) : List (Nat × Nat) :=
  match (s.rows PD.STAGING_FIXED)[st]? with
  | some [fo, fs, co, cs] => ([(fo * 2 ^ 20, fs * 2 ^ 20), (co * 2 ^ 20, cs * 2 ^ 20)]).filter fun f => f.2 ≠ 0
  | _ => []

/-- Where the next free byte of a stack's part in the BAR2 window is kept. -/
def windowKey (st : Nat) : Nat := 2000 + st

/-- A stack-homed tensor lies in the window only when the space outside it is used (R354). -/
def State.alloc (s : State) (a : Alloc) (st n : Nat) : Option (Nat × Alloc) :=
  let take := fun (key limit : Nat) (fixed : List (Nat × Nat)) =>
    (fitAt fixed limit n 8 (kvGet (fun _ => 0) a.next key)).map fun x => (x, (⟨kvSet (fun _ => 0) a.next key (x + n)⟩ : Alloc))
  if st < 8 then take st (s.storeEnd st) (s.fixedRegions st)
  else if st < 24 then (take st stackSize []).or (take (windowKey st) stackWindow [])
  else take st (s.storeEnd st) []

/-- Bytes reserved from tile to tile: the widest format the tensor can take in force (R186, R244, R271). -/
def strideOf (p : Plan) (t : Tensor) : Nat :=
  let array := (p.layers[t.owner]?).any isMatmul
  if t.gauged then 32832
  else if t.cls = 1 then 16960
  else if t.cls = 0 ∧ array then 32832
  else if 1 ≤ t.format ∧ t.format ≤ 4 then 16704
  else tileSize t.format

/-- Store of a layer's update die (R110). -/
def updStore (upd : List (Nat × Nat)) (layer : Nat) : Nat := stSlow (((upd.find? fun u => u.1 = layer).map (·.2)).getD 0)

/-- Update dies in forward order: the die with fewer owned master bytes so far, UD0 on a tie (R110). -/
def updateDies (layers : List Layer) (own : List PaneRef) : List (Nat × Nat) :=
  (layers.zipIdx.foldl (fun (acc : List (Nat × Nat) × Nat × Nat) l =>
    if exchanged l.1 then
      let n := total ((own.filter fun o => o.layer = l.2).map fun o => 4 * o.rows * o.cols)
      if acc.2.2 < acc.2.1 then (acc.1 ++ [(l.2, 1)], acc.2.1, acc.2.2 + n) else (acc.1 ++ [(l.2, 0)], acc.2.1 + n, acc.2.2)
    else acc) ([], 0, 0)).1

/-- The home of one tensor, its companion with it; a fault code when it finds none. -/
def State.homeTensor (s : State) (p : Plan) (upd : List (Nat × Nat)) (own : List PaneRef) (i : Nat) (t : Tensor) (a : Alloc) :
    Except Nat (List Home × Alloc) :=
  let stride := strideOf p t
  let n := if t.cls = 2 then total ((own.filter fun o => o.layer = t.owner).map fun o =>
      match p.layers[o.layer]? with
      | some l => paneBytes (ruleOf p.rules o.layer l) o.rows o.cols
      | none => 0)
    else if t.cls = 3 then 0 else t.tiles * stride
  let die := i % 8
  let companion := t.gauged && (p.layers[t.owner]?).any fun l => l.kind = 1 || l.kind = 6
  let size := if companion then 2 * n else n
  let homes := fun (st x : Nat) => ⟨t.id, false, false, st, x, stride⟩ :: (if companion then [⟨t.id, true, false, st, x + n, stride⟩] else [])
  let try_ := fun (sts : List Nat) (err : Nat) =>
    match sts.findSome? fun st => (s.alloc a st size).map fun r => (st, r) with
    | some (st, x, a') => Except.ok (homes st x, a')
    | none => Except.error err
  match t.home with
  | 1 => try_ [stStaging die] 8
  | 2 => try_ [stStack die] 8
  | 3 => try_ [updStore upd t.owner] 8
  | 4 =>
    let at_ := kvGet (fun _ => 0) a.next (1000 + t.region)
    if at_ + size ≤ s.regionSize t.region then
      .ok (⟨t.id, false, true, t.region, at_, stride⟩ :: (if companion then [⟨t.id, true, true, t.region, at_ + n, stride⟩] else []),
        ⟨kvSet (fun _ => 0) a.next (1000 + t.region) (at_ + size)⟩)
    else .error 8
  | _ =>
    if t.cls = 2 ∨ t.cls = 3 then try_ [updStore upd t.owner] 7
    else if t.cls = 4 ∨ t.cls = 5 ∨ t.cls = 7 then try_ [stStaging die, stStack die] 7
    else try_ [stStack die] 7

/-- Homes of all tensors in record order; fault rows for those that find none. -/
def State.homeAll (s : State) (p : Plan) (upd : List (Nat × Nat)) (own : List PaneRef) (a : Alloc) :
    List Home × Alloc × List PlanFault :=
  p.tensors.zipIdx.foldl (fun (acc : List Home × Alloc × List PlanFault) x =>
    match s.homeTensor p upd own x.2 x.1 acc.2.1 with
    | .ok (hs, a') => (acc.1 ++ hs, a', acc.2.2)
    | .error c => (acc.1, acc.2.1, acc.2.2 ++ [⟨c, x.1.id, 4⟩])) ([], a, [])

/-- BF16 bytes of a layer's input for one micro-batch. -/
def inputBytes (p : Plan) (l : Layer) : Nat :=
  ceilDiv p.microTokens 128 * ceilDiv (if l.kind = 3 then l.n else l.k) 128 * 32832

/-- BF16 bytes of a layer's output for one micro-batch. -/
def outputBytes (p : Plan) (l : Layer) : Nat := ceilDiv p.microTokens 128 * ceilDiv l.n 128 * 32832

/-- Host-fed rings, in the window part of the stack of each stream's home die (R72, R354, DESIGN CHOICE, log 17). -/
def placeRings (p : Plan) : List (Nat × Nat × Nat) × List (Nat × Nat) :=
  p.streams.zipIdx.foldl (fun (acc : List (Nat × Nat × Nat) × List (Nat × Nat)) x =>
    if x.1.hostFed then
      let st := stStack (x.2 % 8)
      let at_ := kvGet (fun _ => 0) acc.2 st
      (acc.1 ++ [(x.2, st, at_)], kvSet (fun _ => 0) acc.2 st (at_ + 64 * x.1.ring))
    else acc) ([], [])

/-- Bytes of stretchers (R300). -/
def State.stretchBytes (s : State) (p : Plan) : Nat :=
  total (p.layers.zipIdx.map fun l =>
    let (k, n) := gradDims l.1
    let thin := (s.rows PD.THIN_TABLE).any fun r => r.headD 0 = l.2 && 1 < r.getD 1 1
    let priv := (s.rows PD.PRIV_CHANNELS).any fun r => r.headD 0 = l.2
    if exchanged l.1 && ((l.1.kind ≠ 3 && (thin || priv)) || s.flag PD.EXCH_CARRY_LATE) then 40 * k * n else 0)

/-- Layers checkpointed at spacing k (R111). -/
def ckptLayers (layers : List Layer) (k : Nat) : List Nat :=
  let elig := (layers.zipIdx.filter fun l => !l.1.noCkpt).map (·.2)
  (layers.zipIdx.filter fun l => l.1.pin || (!l.1.noCkpt && ((elig.idxOf? l.2).getD 1) % k = 0)).map (·.2)

/-- The smallest spacing whose checkpoints fit, with the layers and whether each is in host memory; a fault code otherwise (R111). -/
def State.placeCkpts (s : State) (p : Plan) (free : Nat) : Except Nat (Nat × List (Nat × Bool)) :=
  let micros := max 1 ((p.sched.map (·.micro)).eraseDups).length
  let stackBudget := s.num PD.CKPT_BUDGET_PCT * free / 100
  let budget := stackBudget + s.regionSize p.ckptRegion
  let bytes := fun (ls : List Nat) => total (ls.map fun i => ((p.layers[i]?).map fun l => micros * inputBytes p l).getD 0)
  match ((List.range p.layers.length).map (· + 1)).find? fun k => bytes (ckptLayers p.layers k) ≤ budget with
  | some k =>
    let ls := ckptLayers p.layers k
    .ok (k, (ls.foldl (fun (acc : List (Nat × Bool) × Nat) i =>
      let b := bytes [i]
      if acc.2 + b ≤ stackBudget then (acc.1 ++ [(i, false)], acc.2 + b) else (acc.1 ++ [(i, true)], acc.2)) ([], 0)).1)
  | none => .error (if s.regionSize p.ckptRegion = 0 then 10 else 7)

/-- Peak of live frog bytes of the ATTN and NORM layers on one die: retained runs and the largest recompute set (R251, R264). -/
def frogPeak (p : Plan) (segs : List (Nat × Nat)) (ckpts : List Nat) (die : Nat) : Nat :=
  let micros := max 1 ((p.sched.map (·.micro)).eraseDups).length
  let b := fun (i : Nat) =>
    match p.layers[i]? with
    | some l => if l.kind = 5 then 8 * p.microTokens * (((List.range (l.n / 128)).filter fun h => h % 8 = die).length)
      else if l.kind = 3 ∧ i % 8 = die then 8 * p.microTokens else 0
    | none => 0
  let kept := ((segs.map (·.2)) ++ ckpts).eraseDups
  micros * total (kept.map b)
    + (segs.map fun g => total ((((List.range (g.2 + 1 - g.1)).map fun i => g.1 + i).filter fun i => !kept.contains i).map b)).foldl max 0

/-- Stack bytes of the keep area, sized for the segment that needs most, of the prefetch area, and of the checkpoints that the stacks hold
(R111, R252, R254). -/
def State.reserved (s : State) (p : Plan) (segs : List (Nat × Nat)) (ck : List (Nat × Bool)) : Nat :=
  let micros := max 1 ((p.sched.map (·.micro)).eraseDups).length
  let bytes := fun (f : Layer → Nat) (i : Nat) => ((p.layers[i]?).map f).getD 0
  let keep := (segs.map fun g => total ((List.range (g.2 - g.1)).map fun i => bytes (outputBytes p) (g.1 + i))).foldl max 0
  let fetch := s.num PD.CKPT_PREFETCH_DEPTH * ((ck.filter (·.2)).map fun c => bytes (inputBytes p) c.1).foldl max 0
  keep + fetch + total ((ck.filter fun c => !c.2).map fun c => micros * bytes (inputBytes p) c.1)

/-- A placement of the plan with the formats in use, or the faults that prevent it (R98-R114). -/
def State.makePlacement (s : State) (p : Plan) (triggers : Nat) : Except (List PlanFault) Placement :=
  let rung := fun i => s.rung i
  let arr := (p.layers.zipIdx.filter fun l => l.1.kind = 1 ∧ rung l.2 < 3).map fun l => (l.2, l.1, (rungFormats l.1 (rung l.2)).1)
  let tiles := ceilDiv p.microTokens 128
  let both := (List.range 8).map fun d => s.workingCells d 2
  let res := if p.mode = 2 then none else placeResident arr both
  let places : Except (List PlanFault) (List LayerPlace × Nat) :=
    match res with
    | some (ps, free) => .ok (addReplicas p.layers tiles 16384 ps free, 1)
    | none =>
      if p.mode = 1 then .error [⟨7, 0, 3⟩]
      else
        let leafCells := fun x => (List.range 8).map fun d => s.workingCells d x
        let ps := arr.flatMap fun l => [placeReload l.1 l.2.1 l.2.2 0 p.microTokens (leafCells 0),
          placeReload l.1 l.2.1 l.2.2 1 p.microTokens (leafCells 1)]
        let bad := (arr.filter fun l => (placeReload l.1 l.2.1 l.2.2 0 p.microTokens (leafCells 0)).isNone
          || (placeReload l.1 l.2.1 l.2.2 1 p.microTokens (leafCells 1)).isNone).map fun l => ⟨6, l.1, 10⟩
        if bad.isEmpty then .ok (ps.filterMap id, 2) else .error bad
  match places with
  | .error fs => .error fs
  | .ok (ps, mode) =>
    let own := s.ownPanes p.layers
    let upd := updateDies p.layers own
    let lintel := 2 * ((p.layers.filter isMatmul).map (inputBytes p)).foldl max 0 / 8
    let (rings, ends) := placeRings p
    let stackBase := stackWindow + 2 ^ 28 + s.stretchBytes p / 8
    let set := fun (m : List (Nat × Nat)) k v => kvSet (fun _ => 0) m k v
    let a0 : Alloc := ⟨(List.range 8).foldl (fun m d =>
      set (set (set m (stStaging d) lintel) (stStack d) stackBase) (windowKey (stStack d)) (kvGet (fun _ => 0) ends (stStack d))) []⟩
    let (homes, a, fs) := s.homeAll p upd own a0
    let free := total ((List.range 8).map fun d =>
      (stackSize - kvGet (fun _ => 0) a.next (stStack d)) + (stackWindow - kvGet (fun _ => 0) a.next (windowKey (stStack d))))
    if !fs.isEmpty then .error fs
    else if ends.any fun e => stackWindow < e.2 then .error [⟨7, 0, 0⟩]
    else match s.placeCkpts p free with
      | .error c => .error [⟨c, 0, 17⟩]
      | .ok (k, ck) =>
        let segs := segments ((0 :: ck.map (·.1)).eraseDups) p.layers.length
        if ((List.range 8).any fun d => 2 ^ 23 + 2 ^ 28 < frogPeak p segs (ck.map (·.1)) d) || free < s.reserved p segs ck then .error [⟨7, 0, 0⟩]
        else .ok { mode := mode, layers := ps, stations := placeStations p, homes := homes, updDie := upd, ckpts := ck, ckptK := k,
                   sequence := arraySequence p ps segs (mode = 2), rings := rings, triggers := triggers }

end Sys2Proof.Machine
end

