-- ==== Sys2Proof/Machine/NumOps.lean ====
section
/-! DEFINITION. Machine/NumOps.lean: the widening ladder, the Plumb, the Gauge and the emission of output tiles with what they feed
(R185-R206, R246). -/
namespace Sys2Proof.Machine

/-! ## The ladder (R194-R201) -/

/-- The stores that the placement holds take any rung: the Placer reserves A8 inputs and W8 copies (R197). -/
def State.rungAvailable (s : State) (r : Nat) : Bool := s.flag PD.WIDEN_ENABLE && r ≤ s.num PD.WIDEN_MAX_RUNG && r ≤ 3

/-- The lowest rung above the present one, at or above `want`, that is not skipped and is available (R195, R197). -/
def State.rungSought (s : State) (layer want : Nat) : Option Nat :=
  match s.layer layer with
  | none => none
  | some l => [1, 2, 3].find? fun r => s.rung layer < r && want ≤ r && !rungSkipped l r && s.rungAvailable r

/-- Event codes of WIDEN_LOG: 0 input range, 1 weight range, 2 grout excess, 3 Plumb widen, 4 output range (DESIGN CHOICE, log 6). -/
def State.logWiden (s : State) (micro layer event before after : Nat) : State :=
  let s := s.bump PD.WIDEN_EVENTS
  { s with widenLog := pushLast 256 s.widenLog [s.num PD.STEP_NUMBER, micro, layer, event, before, after] }

/-- ceil(F32 share × count). -/
def ceilShare (share : FV) (n : Nat) : Nat :=
  let v := share.mul (.ofNat n)
  ceilDiv v.mag.1 v.mag.2

/-- A storm: enough array layers widened by events in the step (R201). -/
def State.checkStorm (s : State) : State :=
  let arr := (s.plan.map fun p => (p.layers.filter isMatmul).length).getD 0
  let w := (s.layers.filter fun l => l.2.widened).length
  if s.storm ∨ !s.step.opened ∨ w < ceilShare (s.fv PD.STORM_SHARE) arr then s
  else
    let s := (s.bump PD.STORMS).spall { kind := 0x20, level := 3, mech := 17, detail := [detailUint 0 w, detailUint 1 (s.num PD.STORM_POLICY)] }
    let s : State := { s with storm := true, triggers := orBit s.triggers 3 }
    if s.num PD.STORM_POLICY = 1 then s.reason rsStorm else s

/-- A layer stands on a wider rung from now on; its clean count restarts, and the next boundary re-places (R196, R199, R113). -/
def State.setRung (s : State) (layer r : Nat) : State :=
  let l := s.num? layer
  let s := s.setLayerNum layer { l with rung := r, clean := 0, event := true, widened := true }
  { s with triggers := orBit s.triggers 2, upd := { s.upd with quantised := s.upd.quantised.filter (· ≠ layer) } }.checkStorm

/-- An overflow event that seeks a rung: the rung it takes, or none for a fall-back (R195-R197). -/
def State.widen (s : State) (micro layer event want : Nat) : Option Nat × State :=
  let before := s.rung layer
  let l := s.num? layer
  let s := s.setLayerNum layer { l with event := true, clean := 0 }
  match s.rungSought layer want with
  | some r => (some r, (s.logWiden micro layer event before r).setRung layer r)
  | none => (none, s.logWiden micro layer event before before)

/-! ## Plumb (R202, R203) -/

/-- L2 norm in FP32 of emitted values; the order of its roundings is open (DESIGN CHOICE, log 7). -/
def l2norm (vs : List FV) : W32 := Config.sumF32 1 (vs.map toF32)

/-- The check of one monitor; true for the GRAD one. Gives whether a forward WIDEN action is called for. -/
def State.plumb (s : State) (grad : Bool) (micro layer : Nat) (n : W32) (inRepeat : Bool) : Bool × State :=
  let l := s.num? layer
  let ema := f32 (if grad then l.emaGrad else l.emaFwd)
  let count := if grad then l.countGrad else l.countFwd
  let hit := s.num PD.PLUMB_WARMUP ≤ count && (mul32 (s.fv PD.PLUMB_FACTOR) ema).lt (f32 n)
  let action := s.num (if grad then PD.PLUMB_ACTION_GRAD else PD.PLUMB_ACTION_FWD)
  let l := if grad then { l with sumGrad := toF32 (add32 (f32 l.sumGrad) (f32 n)), cntGrad := l.cntGrad + 1 }
    else { l with sumFwd := toF32 (add32 (f32 l.sumFwd) (f32 n)), cntFwd := l.cntFwd + 1 }
  let s := s.setLayerNum layer l
  if !hit then (false, s)
  else
    let ratio := toF32 (div32 (f32 n) ema)
    let s := s.bump PD.PLUMB_EVENTS
    let s : State := { s with plumbLog := pushLast 256 s.plumbLog [s.num PD.STEP_NUMBER, micro, layer, b2n grad, ratio.toNat, action] }
    let s := s.setLayerNum layer { s.num? layer with event := true, clean := 0 }
    if inRepeat then (false, s)
    else if action = 2 then (false, s.reason rsPlumb)
    else if action = 1 then
      if grad then
        let l := s.num? layer
        let w := gradWidth (s.gradFormat1 layer)
        (false, s.setLayerNum layer { l with plumbFormat := some (gradOf (min 4 (w + 1))) })
      else (true, s)
    else (false, s)

/-- The Plumb's averages at COMMIT (R202). -/
def LayerNum.plumbCommit (l : LayerNum) (alpha : FV) : LayerNum :=
  let one := fun (cnt : Nat) (sum ema : W32) (count : Nat) =>
    if cnt = 0 then (ema, count)
    else
      let m := div32 (f32 sum) (FV.ofNat cnt).r32
      (if count = 0 then toF32 m else toF32 (add32 (f32 ema) (mul32 alpha (sub32 m (f32 ema)))), min (count + 1) 65535)
  let f := one l.cntFwd l.sumFwd l.emaFwd l.countFwd
  let g := one l.cntGrad l.sumGrad l.emaGrad l.countGrad
  { l with emaFwd := f.1, countFwd := f.2, emaGrad := g.1, countGrad := g.2, sumFwd := 0, sumGrad := 0, cntFwd := 0, cntGrad := 0 }

/-! ## Gauge (R204, R205) -/

/-- Bins of one 32-element block: d = floor(log2 max) - floor(log2 |v|), at most 31. -/
def blockBins (vs : List FV) : List Nat :=
  let m := amax vs
  if m.isZero then []
  else (vs.filter fun v => v.isFinite && !v.isZero).map fun v => min 31 (ilog2 m.mag.1 m.mag.2 - ilog2 v.mag.1 v.mag.2).toNat

def addBins (h : List Nat) (bs : List Nat) : List Nat :=
  let h := if h.isEmpty then List.replicate 32 0 else h
  bs.foldl (fun h b => h.set b ((h[b]?).getD 0 + 1)) h

/-- The bins of a tile's rows. -/
def tileBins (rows : List (List FV)) : List Nat :=
  rows.flatMap fun r => (List.range 4).flatMap fun q => blockBins ((r.drop (32 * q)).take 32)

/-- Bin-by-bin sum of a ring. -/
def mergedRing (ring : List (List Nat)) : List Nat := (List.range 32).map fun i => total (ring.map fun r => (r[i]?).getD 0)

/-- The smallest bin that GAUGE_PCT of the merged history does not pass. -/
def gaugeP (pct : FV) (h : List Nat) : Nat :=
  ((List.range 32).find? fun i => (pct.mul (.ofNat (total h))).le (.ofNat (total (h.take (i + 1))))).getD 31

/-- Share of the last step's values beyond a format's reach; an empty step gives 0. -/
def underShare (last : List Nat) (f : Nat) : FV :=
  if total last = 0 then .zero else FV.ratio (total (last.drop (min (reach f) 30 + 1))) (total last)

/-- The gradient format chosen at COMMIT (R205). -/
def gaugeChoose (ring : List (List Nat)) (last : List Nat) (pct under : FV) (headroom floor : Nat) : Nat :=
  if ring.length < 16 then 0x10
  else
    let p := gaugeP pct (mergedRing ring)
    let ok := fun f => gradWidth floor ≤ gradWidth f && p + headroom ≤ reach f && (underShare last f).lt under
    ([0x08, 0x09, 0x0A, 0x0B].find? ok).getD 0x10

/-! ## Grout scores (R193) -/

/-- The M channels with the highest scores, lower channel on a tie, in ascending order. -/
def topChannels (scores : List (Nat × W32)) (k m : Nat) : List Nat :=
  let all := (List.range k).map fun c => (c, f32 (kvGet (fun _ => 0) scores c))
  let sorted := sortBy (fun (a b : Nat × FV) => b.2.lt a.2 || (b.2.eqv a.2 && a.1 ≤ b.1)) all
  sortBy (fun (a b : Nat) => decide (a ≤ b)) ((sorted.take m).map (·.1))

/-! ## Array inputs (R132, R180, R186-R191) -/

structure GroutRow where
  scale : Nat
  codes : List Nat
  excess : Nat
  under : Nat
  nonfin : Nat
  /-- channel and |v| / r of the row's channels, r over those outside the set (R193) -/
  ratios : List (Nat × W32)
  /-- the row scale lies beyond 65,504 -/
  range : Bool
  deriving DecidableEq, Repr

/-- One token row of an A tile or an aligned pair: values by channel, the outlier set, the threshold factor, and whether it applies. -/
def groutRow (f : Nat) (vs : List (Nat × FV)) (set : List Nat) (tau : FV) (threshold : Bool) : GroutRow :=
  let bad := (vs.filter fun p => !p.2.isFinite).length
  if (vs.any fun p => !p.2.isFinite && !set.contains p.1) then
    ⟨fp16.nanCode, vs.zipIdx.map (fun p => if set.contains p.1.1 then 0 else Config.markedCode f p.2 % 2 ^ fmtBits f), 0, 0, bad, [], false⟩
  else
    let out := vs.filter fun p => !set.contains p.1
    let ms := (out.foldl (fun (m : FV) p => m.add (p.2.mul p.2)) FV.zero).div (.ofNat (max out.length 1))
    let lim := (tau.mul tau).mul ms
    let exc := fun (v : FV) => threshold && lim.lt (v.mul v)
    let keep := (out.filter fun p => !exc p.2).map (·.2)
    let t := tau.mul ms.sqrt
    let base := if keep.all (·.isZero) && out.any fun p => exc p.2 then [t, t.neg] else keep
    let sc := intScale f base
    let s := fp16.decode (min sc (fp16.infCode - 1))
    let q := vs.map fun p => if set.contains p.1 then (0 : Int) else (intQuant f s p.2).1
    let r := ms.sqrt
    ⟨min sc (fp16.infCode - 1), q.map (intCode f), (out.filter fun p => exc p.2).length,
      ((vs.zip q).filter fun p => !set.contains p.1.1 && !p.1.2.isZero && decide (p.2 = 0)).length, bad,
      if r.isZero then [] else (vs.filter (·.2.isFinite)).map fun p => (p.1, toF32 ((p.2.abs.div r).r32)), sc = fp16.infCode⟩

/-- Quantises one token tile row of an array layer's input: `tiles` are the BF16 images of an aligned group of 1 or 2 tiles, first tile
column `col`. Gives the images and the rows' statistics. -/
def groutTiles (f : Nat) (tiles : List (List Byte)) (col : Nat) (set : List Nat) (tau : FV) (threshold : Bool) :
    List (List Byte) × List GroutRow :=
  let hs := tiles.map hdrOf
  let rows := (hs.map (·.rows)).foldl max 0
  let grs := (List.range rows).map fun r =>
    groutRow f (tiles.zipIdx.flatMap fun p => (List.range 128).map fun c => (128 * (col + p.2) + c, tileVal p.1 r c)) set tau threshold
  let imgs := tiles.zipIdx.map fun p =>
    let h := { hdrOf p.1 with format := f, tileScale := f32One }
    let cut := fun (g : GroutRow) => ((g.codes.drop (128 * p.2)).take 128).zipIdx.map fun q => if q.2 < h.cols then q.1 else 0
    let pad := List.replicate (128 - rows) (0 : Nat)
    hdrBytes h ++ (grs.map (fun g => le 2 g.scale) ++ pad.map (le 2)).flatten
      ++ (grs.map (fun g => packRow (fmtBits f) (cut g)) ++ pad.map fun _ => zeros (16 * fmtBits f)).flatten
  (imgs, grs)

/-- The statistics of quantised input rows are staged (R191, R193); `set`: the set channels among theirs. -/
def State.countGrout (s : State) (layer : Nat) (set : List Nat) (elems : Nat) (grs : List GroutRow) : State :=
  let l := s.num? layer
  let exc := total (grs.map (·.excess))
  let st := grs.foldl (fun (m : List (Nat × W32)) g => g.ratios.foldl (fun m p =>
    if (f32 (kvGet (fun _ => 0) m p.1)).lt (f32 p.2) then kvSet (fun _ => 0) m p.1 p.2 else m) m) l.stagedA
  let s := s.setLayerNum layer { l with excess := l.excess + exc, flagged := l.flagged || exc ≠ 0, quantised := l.quantised + elems, stagedA := st }
  let s := (s.bumpBy PD.GROUT_EXCESS exc).bumpBy PD.Q_UNDERFLOW (total (grs.map (·.under)))
  let s := s.bumpBy PD.GROUT_VALUES (set.length * grs.length)
  let nf := total (grs.map (·.nonfin))
  if nf = 0 then s else (s.bumpBy PD.Q_NONFINITE nf).reason rsNonfinite

/-- Row-group mode of a layer: 256-row groups in use (R105). -/
def State.rowMode (s : State) (layer : Nat) : RowMode :=
  (s.arrays.rowModes.find? fun r => r.layer = layer).getD { layer := layer }

def State.setRowMode (s : State) (r : RowMode) : State :=
  { s with arrays := { s.arrays with rowModes := r :: s.arrays.rowModes.filter fun x => x.layer ≠ r.layer } }

/-- The layer may use 256-row groups (R105). -/
def State.autoDense (s : State) (l : Layer) : Bool := l.rowGroup = 0 && l.doubleStrike = 0 && s.flag PD.DENSE_ENABLE

def State.groupRows (s : State) (i : Nat) (l : Layer) : Nat :=
  if l.rowGroup = 2 then 64 else if l.rowGroup = 0 ∧ (s.rowMode i).dense ∧ s.autoDense l then 256 else 128

def State.lintelTile (s : State) (layer micro tile : Nat) : Option (List Byte) :=
  (s.arrays.lintel.find? fun x => x.layer = layer ∧ x.micro = micro ∧ x.tile = tile).map (·.image)

/-- The input of a micro-batch has a lintel (R186). -/
def State.hasLintel (s : State) (layer micro : Nat) : Bool := s.arrays.lintel.any fun x => x.layer = layer && x.micro = micro

/-- The next lower rung that is not skipped; none on rung 0. -/
def State.lowerRung (s : State) (l : Layer) (layer : Nat) : Option Nat :=
  [2, 1, 0].find? fun r => r < s.rung layer && !rungSkipped l r

/-- What a quantisation would have met at the next lower rung: a range, and the grout excess (R200). -/
def State.checkLower (s : State) (t : Tensor) (l : Layer) (layer k0 : Nat) (imgs : List (List Byte)) (set : List Nat) : State :=
  match s.lowerRung l layer with
  | none => s
  | some r =>
    let f := (rungFormats l r).2
    let grs := (groutTiles f imgs (k0 % (max t.cols 1)) set (s.fv PD.GROUT_TAU) (l.groutG ≠ 0 && f ≠ 0x04)).2
    let n := s.num? layer
    let held : Bool := n.lowerHeld && !grs.any (·.range)
    let overs : Nat := n.excessLow + total (grs.map (·.excess))
    let count : Nat := n.quantisedLow + total (imgs.map fun i => (hdrOf i).rows * (hdrOf i).cols)
    s.setLayerNum layer { n with lowerHeld := held, excessLow := overs, quantisedLow := count }

/-- Quantises tile k of an array layer's input from the lintel on the present rung, its pair with it in 256-row mode (R132, R180, R191).
`set`: the outlier set used. Gives the lowest rung an input range event names, none without one, and the tiles and codes a fall-back would
count (R195, R197). -/
def State.quantTile (s : State) (t : Tensor) (l : Layer) (layer micro k : Nat) (set : List Nat) : Option (Nat × Nat × Nat) × State :=
  let f := (rungFormats l (s.rung layer)).2
  let c := k % (max t.cols 1)
  let ks := if s.groupRows layer l = 256 ∧ c / 2 * 2 + 1 < t.cols then [k - c % 2, k - c % 2 + 1] else [k]
  let imgs := ks.filterMap fun j => s.lintelTile layer micro j
  if imgs.length < ks.length then (none, s)
  else
    let (out, grs) := groutTiles f imgs (ks.headD k % (max t.cols 1)) set (s.fv PD.GROUT_TAU) (l.groutG ≠ 0 && f ≠ 0x04)
    let elems := total (imgs.map fun i => (hdrOf i).rows * (hdrOf i).cols)
    let carried := set.filter fun ch => ks.any fun j => j % (max t.cols 1) = ch / 128
    let s := (ks.zip out).foldl (fun s p => s.tileWrite t false p.1 p.2) (s.countGrout layer carried elems grs)
    let s := s.checkLower t l layer (ks.headD k) imgs set
    if grs.any (·.range) then
      let rangeIn8 := imgs.any fun i => (List.range (hdrOf i).rows).any fun r =>
        intScale 0x04 ((List.range (hdrOf i).cols).map fun cc => tileVal i r cc) = fp16.infCode
      let lim := intLimits f
      let clips := total (grs.map fun g =>
        if g.range then (g.codes.filter fun q => q = lim.1 ∨ q = intCode f (-(lim.2 : Int))).length else 0)
      (some (if rangeIn8 then 3 else 1, out.length, clips), s)
    else (none, s)

/-- An operation that has entered stops, its descriptors' contributions are withdrawn, and it will run again from its start (R196). -/
def State.restartOp (s : State) (layer micro : Nat) : State :=
  match s.arrays.op with
  | some o =>
    if o.layer = layer ∧ o.micro = micro ∧ !o.recompute then
      let l := s.num? layer
      let s := (s.stopArrays.setLayerNum layer { l with repeats := l.repeats + 1 }).bump PD.WIDEN_REPEATS
      let first := ((s.place.map (·.sequence)).getD []).findIdx fun x => x.layer = layer ∧ x.micro = micro ∧ !x.recompute
      { s with
        arrays := { s.arrays with seqPos := min first s.arrays.seqPos }
        streams := s.streams.map fun p => (p.1, { p.2 with entered := p.2.entered.map fun e =>
          if (descOf e.desc).layer = layer ∧ (descOf e.desc).opcode = 1 then { e with beds := [] } else e }) }
    else s
  | none => s

/-- Quantises tile k; an input range event widens the layer, the whole input is quantised again on the new rung, and so on up to the top of
the ladder (R196, R197). -/
def State.quantInput (s : State) (t : Tensor) (layer micro k : Nat) (set : List Nat) : State :=
  match s.layer layer with
  | none => s
  | some l =>
    let one := fun (s : State) (k : Nat) =>
      if 3 ≤ s.rung layer then
        (none, match s.lintelTile layer micro k with
          | some i => s.checkLower t l layer k [i] set
          | none => s)
      else s.quantTile t l layer micro k set
    let fall := fun (s : State) (e : Nat × Nat × Nat) => (s.bumpBy PD.RESCALES e.2.1).bumpBy PD.RESCALE_CLIPS e.2.2
    let tiles := (s.arrays.lintel.filter fun x => x.layer = layer && x.micro = micro).map (·.tile)
    let again := fun (acc : Option (Nat × Nat × Nat) × State) (_ : Nat) =>
      match acc.1 with
      | none => acc
      | some e =>
        match acc.2.widen micro layer 0 e.1 with
        | (none, s) => (none, fall s e)
        | (some _, s) => tiles.foldl (fun (a : Option (Nat × Nat × Nat) × State) j =>
            let (e', s) := one a.2 j
            (a.1.or e', s)) (none, s.restartOp layer micro)
    ((List.range 3).foldl again (one s k)).2

/-- A scout pass over a cold layer's micro-batch in the lintel: the set from its own a_c, then the real pass (R187, R193). -/
def State.scout (s : State) (t : Tensor) (layer micro : Nat) : State :=
  match s.layer layer with
  | none => s
  | some l =>
    let tiles := s.arrays.lintel.filter fun x => x.layer = layer && x.micro = micro
    let grs := tiles.flatMap fun x => (groutTiles 0x04 [x.image] (x.tile % (max t.cols 1)) [] (s.fv PD.GROUT_TAU) false).2
    let a := grs.foldl (fun (m : List (Nat × W32)) g => g.ratios.foldl (fun m p =>
      if (f32 (kvGet (fun _ => 0) m p.1)).lt (f32 p.2) then kvSet (fun _ => 0) m p.1 p.2 else m) m) []
    let set := topChannels a l.k (outliers l)
    let s := if l.groutG = 0 then s else s.setLayerNum layer { s.num? layer with set := set }
    (s.bump PD.SCOUT_PASSES).each tiles fun s x => s.quantInput t layer micro x.tile (s.num? layer).set

/-! ## Emission of a destination tile (R185, R186, R204, R246) -/

/-- The layer whose array input a tensor is: its owner, of KIND MATMUL, with an A format (DEDUCED, log 18). -/
def State.inputOf (s : State) (t : Tensor) : Option Nat :=
  if t.cls = 4 ∧ 1 ≤ t.format ∧ t.format ≤ 4 ∧ (s.layer t.owner).any isMatmul then some t.owner else none

/-- Header of an emitted tile. -/
def State.outHdr (s : State) (t : Tensor) (k fmt rows cols layer seqPos micro : Nat) : Hdr :=
  ⟨fmt, rows, cols, layer, k / (max t.cols 1), k % (max t.cols 1), seqPos, micro, s.num PD.STEP_NUMBER, f32One⟩

/-- Writes one destination tile from unrounded values, `bed` when they come from beds: an array layer's input goes to the lintel and is quantised from there; a gauged
gradient is binned and its companion written; everything else rounds once into the tensor's format. -/
def State.emitPlain (s : State) (t : Tensor) (k rows cols layer seqPos micro : Nat) (vals : List (List FV)) (bed : Bool := false) : State :=
  match s.inputOf t with
  | some l =>
    let img := (emitTile (s.outHdr t k 0x10 rows cols layer seqPos micro) vals bed).1
    let x : Lintel := ⟨l, micro, k, img⟩
    let s : State := { s with arrays := { s.arrays with
      lintel := s.arrays.lintel.filter (fun y => !(y.layer = l && y.micro = micro && y.tile = k)) ++ [x] } }
    if (s.num? l).cold then s else s.quantInput t l micro k (s.num? l).set
  | none =>
    let f := s.formatOf t
    let (img, st) := emitTile (s.outHdr t k f rows cols layer seqPos micro) vals bed
    let s := (s.tileWrite t false k img).countQuant st
    let s := if st.rescales = 0 then s else s.logWiden micro layer 4 (s.rung layer) (s.rung layer)
    if t.gauged then
      let l := s.num? t.owner
      let s := s.setLayerNum t.owner { l with last := addBins l.last (tileBins (vals.map (·.take cols) |>.take rows)) }
      match s.home t.id true with
      | none => s
      | some _ =>
        let tr := (List.range cols).map fun c => (List.range rows).map fun r => ((vals[r]?).bind (·[c]?)).getD .zero
        let h : Hdr := { s.outHdr t k f cols rows layer seqPos micro with tileRow := k % (max t.cols 1), tileCol := k / (max t.cols 1) }
        s.tileWrite t true ((k % (max t.cols 1)) * t.rows + k / (max t.cols 1)) (emitTile h tr bed).1
    else s

/-- The monitor that an emission feeds: GRAD of a gauged tensor's owner, FWD of a layer that runs on no array operation, whose check its
operation makes at its end (R188, R202). -/
def State.monitorOf (s : State) (t : Tensor) (layer : Nat) : Option (Bool × Nat) :=
  if t.gauged then some (true, t.owner)
  else if t.cls = 4 then
    match s.layer layer with
    | some l => if l.kind = 1 ∧ s.rung layer < 3 ∧ !s.flag PD.REF_ALL then none else some (false, layer)
    | none => none
  else none

/-- The Plumb's check when the last tile of a tensor for a micro-batch has been emitted (R202, R203). -/
def State.monitor (s : State) (t : Tensor) (k layer micro : Nat) : State :=
  match s.monitorOf t layer with
  | none => s
  | some (grad, l) =>
    let old := ((s.backward.emitted.find? fun e => e.1 = t.id ∧ e.2.1 = micro).map (·.2.2)).getD []
    let now := if old.contains k then old else old ++ [k]
    let rest := s.backward.emitted.filter fun e => !(e.1 = t.id && e.2.1 = micro)
    let done : Bool := decide (t.tiles ≤ now.length)
    let s : State := { s with backward := { s.backward with emitted := if done then rest else rest ++ [(t.id, micro, now)] } }
    if !done then s
    else
      let image := fun (i : Nat) => ((s.inputOf t).bind fun x => s.lintelTile x micro i).getD (s.tileRead t false i [])
      let vals := (List.range t.tiles).flatMap fun i =>
        let img := image i
        (List.range (hdrOf img).rows).flatMap fun r => (List.range (hdrOf img).cols).map fun c => tileVal img r c
      match s.plumb grad micro l (l2norm vals) false with
      | (true, s) => (s.widen micro l 3 (s.rung l + 1)).2
      | (false, s) => s

def State.emitOut (s : State) (t : Tensor) (k rows cols layer seqPos micro : Nat) (vals : List (List FV)) (bed : Bool := false) : State :=
  (s.emitPlain t k rows cols layer seqPos micro vals bed).monitor t k layer micro

end Sys2Proof.Machine
end

