-- ==== Sys2Proof/Machine/Stations.lean ====
section
/-! DEFINITION. Machine/Stations.lean: what the product and sum stations compute: FWD REFERENCE, GROUT, BWDX, BWDW and REDUCE (R70, R189, R210,
R234, R240-R249). -/
namespace Sys2Proof.Machine

/-- What a descriptor's work gives: contributions by element of its destination range, counts, the first source tile that failed its header
check, and the shape of each destination tile: its place in the range, tile index, valid rows and columns. -/
structure Work where
  beds : List (Nat × Bed) := []
  st : BStat := {}
  fail : Option Nat := none
  outs : List (Nat × Nat × Nat × Nat) := []
  seqPos : Nat := 0
  micro : Nat := 0
  layer : Nat := 0
  deriving DecidableEq, Repr

/-- The list of present images up to the first missing one, and the place of that one. -/
def uptoFail {α : Type} : List (Option α) → List α × Option Nat
  | [] => ([], none)
  | none :: _ => ([], some 0)
  | some x :: l => let r := uptoFail l
    (x :: r.1, r.2.map (· + 1))

/-- Valid size of tile number t along a dimension of n elements; a whole tile when the dimension is unknown. -/
def validOf (n t : Nat) : Nat := if n ≤ 128 * t then 128 else min 128 (n - 128 * t)

/-- Adds A × Bᵀ of two tiles over the first `len` contraction positions into the t-th tile of a range. -/
def addProduct (m : List (Nat × Bed)) (t : Nat) (a b : List Byte) (len : Nat) : List (Nat × Bed) × BStat :=
  overRect (hdrOf a).rows (hdrOf b).rows m t fun r k bed => bed.addDot a b r k len

/-! ## FWD REFERENCE and GROUT -/

/-- Source tiles of a forward descriptor: FWD takes only TILE_SCALE 1.0 (R143). On rung 3 the input is read from the lintel (R194). -/
def State.fwdSources (s : State) (d : Desc) (t : Tensor) (host : List Byte) : List (Option (List Byte)) :=
  (List.range d.count).map fun j =>
    let k := d.srcTile + j
    let low := match s.srcTile t k host with
      | some i => if (hdrOf i).tileScale = f32One then some i else none
      | none => none
    if s.rung d.layer = 3 then
      match s.lintelTile d.layer (hdrOf (s.tileRead t false k host)).micro k with
      | some i => some i
      | none => low
    else low

/-- The weight tile of contraction tile i and output tile j (R181). -/
def State.weightTile (s : State) (l : Layer) (i j : Nat) : List Byte :=
  match s.tensor l.weight with
  | some t => s.tileRead t false (i * t.cols + j) []
  | none => []

/-- Runs of Σ over columns of X[r, c] × W[c, n] for one pair of tiles; the first `len` columns count. -/
def Bed.addForward (b : Bed) (x w : List Byte) (r n len : Nat) : Bed × BStat :=
  (List.range 4).foldl (fun (acc : Bed × BStat) q =>
    let ps := (List.range 32).filterMap fun j =>
      let c := 32 * q + j
      if c < len then
        match opnd x r c, opnd w c n with
        | some a, some v => some (a, v)
        | _, _ => none
      else none
    let (b', st) := acc.1.addRun ps
    (b', acc.2.add st)) (b, {})

/-- Shapes of the destination tiles of a forward descriptor: ceil(N / 128) tiles along the row (R542). -/
def fwdOuts (d : Desc) (l : Layer) (rows : Nat) : List (Nat × Nat × Nat × Nat) :=
  (List.range (ceilDiv l.n 128)).map fun t => (t, d.dstTile + t, rows, validOf l.n t)

/-- The digital forward product over the sources (R210, R194). -/
def State.fwdProduct (s : State) (d : Desc) (l : Layer) (t : Tensor) (imgs : List (List Byte)) : List (Nat × Bed) × BStat :=
  let c0 := d.srcTile % (max t.cols 1)
  (List.range (ceilDiv l.n 128)).foldl (fun (acc : List (Nat × Bed) × BStat) tn =>
    imgs.zipIdx.foldl (fun (acc : List (Nat × Bed) × BStat) x =>
      let w := s.weightTile l (c0 + x.2) tn
      let (m, st) := overRect (hdrOf x.1).rows (validOf l.n tn) acc.1 tn fun r n bed =>
        bed.addForward x.1 w r n (min 128 (d.length - 128 * x.2))
      (m, acc.2.add st)) acc) ([], {})

/-- GROUT work of a forward descriptor: each set channel's BF16 value from the lintel times its outlier row (R70, R189). -/
def State.groutWork (s : State) (d : Desc) (l : Layer) (t : Tensor) (micro : Nat) : List (Nat × Bed) × BStat :=
  if l.groutG = 0 ∨ s.rung d.layer = 3 ∨ !s.hasLintel d.layer micro then ([], {})
  else
    let c0 := d.srcTile % (max t.cols 1)
    let set := (s.num? d.layer).set.filter fun c => 128 * c0 ≤ c && c < 128 * c0 + d.length
    set.foldl (fun (acc : List (Nat × Bed) × BStat) c =>
      match s.lintelTile d.layer micro (d.srcTile + (c / 128 - c0)), s.upd.outRows.find? fun o => o.layer = d.layer ∧ o.channel = c with
      | some img, some o =>
        (List.range (ceilDiv l.n 128)).foldl (fun (acc : List (Nat × Bed) × BStat) tn =>
          let (m, st) := overRect (hdrOf img).rows (validOf l.n tn) acc.1 tn fun r n bed =>
            match opnd img r (c % 128) with
            | none => (bed, {})
            | some x =>
              let e := 128 * tn + n
              let q : Opnd := ⟨qfValue 0x0A ((o.codes[e]?).getD 0), FV.one.scale (((o.scales[e / 32]?).getD 127 : Int) - 127), .one, true, false⟩
              bed.addRun [(x, q)]
          (m, acc.2.add st)) acc
      | _, _ => acc) ([], {})

/-- A forward descriptor computed digitally, with its GROUT work. -/
def State.fwdWork (s : State) (d : Desc) (l : Layer) (t : Tensor) (host : List Byte) : Work :=
  let (imgs, fail) := uptoFail (s.fwdSources d t host)
  let h := hdrOf (imgs.headD [])
  match fail with
  | some j => { fail := some j, micro := h.micro, layer := d.layer }
  | none =>
    let (m, st) := s.fwdProduct d l t imgs
    let (g, st') := s.groutWork d l t h.micro
    { beds := mergeBeds m g, st := st.add st', outs := fwdOuts d l h.rows, seqPos := h.seqPos, micro := h.micro, layer := d.layer }

/-! ## BWDX (R243) -/

def State.bwdxWork (s : State) (d : Desc) (src aux : Tensor) (host : List Byte) : Work :=
  let (pairs, fail) := uptoFail ((List.range d.count).map fun j =>
    match s.srcTile src (d.srcTile + j) host, s.srcTile aux (d.auxTile + j) host with
    | some a, some b => some (a, b)
    | _, _ => none)
  let r := pairs.zipIdx.foldl (fun (acc : List (Nat × Bed) × BStat) p =>
    let (m, st) := addProduct acc.1 0 p.1.1 p.1.2 (min 128 (d.length - 128 * p.2))
    (m, acc.2.add st)) ([], {})
  match pairs.head? with
  | none => { fail := fail }
  | some (a, b) =>
    let h := hdrOf a
    { beds := r.1, st := r.2, fail := fail, outs := [(0, d.dstTile, h.rows, (hdrOf b).rows)], seqPos := h.seqPos, micro := h.micro,
      layer := d.layer }

/-! ## BWDW (R245-R249) -/

/-- Kept operand of a layer for a micro-batch: role 0 SRC input, 1 AUX input, 2 mask, 3 attention output. -/
def State.keptTile (s : State) (layer micro role tile : Nat) : Option (List Byte) :=
  (s.backward.kept.find? fun k => k.layer = layer ∧ k.micro = micro ∧ k.role = role ∧ k.tile = tile).map (·.image)

/-- A kept input, or the tensor itself where the plan must have left it unchanged (R249, R252). -/
def State.keptOr (s : State) (t : Tensor) (layer micro role tile : Nat) (host : List Byte) : List Byte :=
  match s.keptTile layer micro role tile with
  | some i => i
  | none => match s.lintelTile layer micro tile with
    | some i => i
    | none => s.tileRead t false tile host

/-- X read through the transposing reader, quantised over 32 token positions (R247); and the 32-row blocks that are zero throughout. -/
def readerTile (fmt : Nat) (img : List Byte) : List Byte × Nat :=
  let h := hdrOf img
  let f := if h.format = 0x14 then 0x10 else fmt
  let tr := transposed img
  let zeroes := total (tr.map fun row => ((List.range (ceilDiv h.rows 32)).filter fun q => ((row.drop (32 * q)).take 32).all (·.isZero)).length)
  ((emitTile { h with format := f, rows := h.cols, cols := h.rows, tileScale := f32One } tr).1, zeroes)

/-- dY with tokens along its columns: the companion, or SRC transposed, a QF tile re-blocked (R246, R248). -/
def State.bwdwSource (s : State) (t : Tensor) (k : Nat) (img : List Byte) (host : List Byte) : List Byte × Bool :=
  match s.home t.id true with
  | some _ => (s.tileRead t true ((k % (max t.cols 1)) * t.rows + k / (max t.cols 1)) host, false)
  | none =>
    let h := hdrOf img
    ((emitTile { h with rows := h.cols, cols := h.rows, tileScale := f32One } (transposed img)).1, fmtBlock h.format)

/-- Products of one X block that is zero are not formed (R247). -/
def Bed.addTokens (b : Bed) (x y : List Byte) (k n len : Nat) : Bed × BStat :=
  (List.range 4).foldl (fun (acc : Bed × BStat) q =>
    let ps := (List.range 32).filterMap fun j =>
      let c := 32 * q + j
      if c < len then
        match opnd x k c, opnd y n c with
        | some a, some v => some (a, v)
        | _, _ => none
      else none
    if ps.all fun p => p.1.code.isZero then acc
    else
      let (b', st) := acc.1.addRun ps
      (b', acc.2.add st)) (b, {})

/-- Work of a BWDW descriptor, the zero blocks skipped and the SRC tiles re-blocked. -/
def State.bwdwWork (s : State) (d : Desc) (src aux : Tensor) (host : List Byte) : Work × Nat × Nat :=
  let (imgs, fail) := uptoFail ((List.range d.count).map fun m =>
    let k := d.srcTile + m * src.cols
    (s.srcTile src k host).map fun i => (k, d.auxTile + m * aux.cols, i))
  let fmt := s.num PD.BWDW_X_FORMAT
  let r := imgs.zipIdx.foldl (fun (acc : List (Nat × Bed) × BStat × Nat × Nat × Nat × Nat) p =>
    let (k, a, i) := p.1
    let (x, zeroes) := readerTile fmt (s.keptOr aux d.layer (hdrOf i).micro 0 a host)
    let (y, re) := s.bwdwSource src k i host
    let len := min 128 (d.length - 128 * p.2)
    let (m, st) := overRect (hdrOf x).rows (hdrOf y).rows acc.1 0 fun kk n bed => bed.addTokens x y kk n len
    (m, acc.2.1.add st, acc.2.2.1 + zeroes, acc.2.2.2.1 + b2n re, (hdrOf x).rows, (hdrOf y).rows)) ([], {}, 0, 0, 0, 0)
  let h := hdrOf ((imgs.head?.map fun p => p.2.2).getD [])
  ({ beds := r.1, st := r.2.1, fail := fail, outs := [(0, d.dstTile, max 1 r.2.2.2.2.1, max 1 r.2.2.2.2.2)], seqPos := 0, micro := h.micro,
     layer := d.layer }, r.2.2.1, r.2.2.2.1)

/-! ## REDUCE (R234) -/

/-- Adds a tile's elements into the t-th tile of a range. -/
def addTile (m : List (Nat × Bed)) (t : Nat) (img : List Byte) : List (Nat × Bed) × BStat :=
  overRect (hdrOf img).rows (hdrOf img).cols m t fun r c bed =>
    match opnd img r c with
    | some o => bed.addTerm o
    | none => (bed, {})

/-- REDUCE 0x01: SRC and AUX tile by tile. -/
def State.sumWork (s : State) (d : Desc) (src aux : Tensor) (host : List Byte) : Work :=
  let (pairs, fail) := uptoFail ((List.range d.count).map fun j =>
    match s.srcTile src (d.srcTile + j) host, s.srcTile aux (d.auxTile + j) host with
    | some a, some b => some (a, b)
    | _, _ => none)
  let r := pairs.zipIdx.foldl (fun (acc : List (Nat × Bed) × BStat) p =>
    let (m, st) := addTile acc.1 p.2 p.1.1
    let (m, st') := addTile m p.2 p.1.2
    (m, (acc.2.add st).add st')) ([], {})
  let h := hdrOf ((pairs.head?.map (·.1)).getD [])
  { beds := r.1, st := r.2, fail := fail, seqPos := h.seqPos, micro := h.micro, layer := d.layer,
    outs := pairs.zipIdx.map fun p => (p.2, d.dstTile + p.2, max (hdrOf p.1.1).rows (hdrOf p.1.2).rows,
      max (hdrOf p.1.1).cols (hdrOf p.1.2).cols) }

/-- REDUCE 0x02 and 0x03: every SRC tile is a part of one destination tile; TILE_SCALE must be in domain. -/
def State.joinWork (s : State) (d : Desc) (src : Tensor) (host : List Byte) : Work :=
  let (imgs, fail) := uptoFail ((List.range d.count).map fun j =>
    match s.srcTile src (d.srcTile + j) host with
    | some i => if tileScaleIn (hdrOf i).tileScale then some i else none
    | none => none)
  let r := imgs.foldl (fun (acc : List (Nat × Bed) × BStat) i =>
    let (m, st) := addTile acc.1 0 i
    (m, acc.2.add st)) ([], {})
  let h := hdrOf (imgs.headD [])
  { beds := r.1, st := r.2, fail := fail, outs := [(0, d.dstTile, h.rows, h.cols)], seqPos := h.seqPos, micro := h.micro, layer := d.layer }

/-! ## Emission of a range -/

/-- Writes every destination tile of a range from its beds (R84, R223); tiles beyond the tensor are not written. -/
def State.emitRange (s : State) (t : Tensor) (w : Work) (beds : List (Nat × Bed)) : State :=
  s.each w.outs fun s o =>
    let (i, k, rows, cols) := o
    if k < t.tiles then s.emitOut t k rows cols w.layer w.seqPos w.micro (bedRows beds i rows cols) true else s

end Sys2Proof.Machine
end

