-- ==== Sys2Proof/Machine/Weights.lean ====
section
/-! DEFINITION. Machine/Weights.lean: the copies derived from the masters: forward working copies with their column scales and hysteresis,
backward copies, gain tensors, outlier rows (R181, R182, R190, R198, R244, R331, R332). -/
namespace Sys2Proof.Machine

/-- First contraction index and first output index of a pane (R296). -/
def Pane.origin (p : Pane) (l : Layer) : Nat × Nat :=
  let pc := max (ceilDiv (gradDims l).2 2048) 1
  (2048 * (p.pane / pc), 2048 * (p.pane % pc))

/-- Master value at row r and column c of a pane. -/
def Pane.at (p : Pane) (r c : Nat) : FV := f32 ((p.master[r * p.cols + c]?).getD 0)

/-! ## Column quantisation -/

/-- One column of one row slice as quantised: FP16 scale, codes as integers, a scale beyond range, codes saturated by a fall-back, values
rounded to zero, and whether the scale was replaced. -/
structure ColQuant where
  scale : Nat
  codes : List Int
  range : Bool
  clips : Nat
  under : Nat
  replaced : Bool
  deriving DecidableEq, Repr

def countUnder (vs : List FV) (qs : List Int) : Nat := ((vs.zip qs).filter fun p => !p.1.isZero && decide (p.2 = 0)).length

/-- Threshold and mean of W2T, recomputed at every quantisation (R182). -/
def ternary (vs : List FV) : ColQuant :=
  let n := FV.ofNat (max vs.length 1)
  let m := ((sum64 (vs.map FV.abs)).div n).r64.r32
  let delta := mul32 m (fp32.decode 0x3F333333)
  let qs : List Int := vs.map fun v => if delta.lt v.abs then (if v.isNeg then -1 else 1) else 0
  let on := ((vs.zip qs).filter fun p => decide (p.2 ≠ 0)).map fun p => p.1.abs
  let c := if on.isEmpty then 0 else fp16.encode (((sum64 on).div (.ofNat on.length)).r64)
  ⟨min c (fp16.infCode - 1), qs, c = fp16.infCode, 0, countUnder vs qs, false⟩

/-- A column of an integer weight format: its scale is kept when the new one is no greater and at least half of it; codes under a kept scale
follow the hysteresis (R180, R181, R332). `old`: the committed scale and codes, none at the first quantisation in the format. -/
def colQuant (f : Nat) (vs : List FV) (old : Option (Nat × List Int)) (h : FV) : ColQuant :=
  if f = 0x1B then ternary vs
  else
    let raw := intScale f vs
    let range : Bool := raw = fp16.infCode
    let new := min raw (fp16.infCode - 1)
    let keep := match old with
      | some (c, _) => !range && decide (new ≤ c) && (fp16.decode c).le ((fp16.decode new).scale 1)
      | none => false
    let c := if keep then ((old.map (·.1)).getD new) else new
    let s := fp16.decode c
    let lim := intLimits f
    let one := fun (v : FV) (i : Nat) =>
      let q := if keep then
          let x := div32 v s
          let qo := ((old.bind fun o => o.2[i]?)).getD 0
          if s.isZero then (0 : Int)
          else if (sub32 x (.ofInt qo)).abs.le (add32 (FV.ratio 1 2) h) then qo
          else max (-(lim.2 : Int)) (min (lim.1 : Int) x.toInt)
        else (intQuant f s v).1
      q
    let qs := vs.zipIdx.map fun p => one p.1 p.2
    let clips := if range then ((vs.filter fun v => (intQuant f s v).2)).length else 0
    ⟨c, qs, range, clips, countUnder vs qs, !keep && decide (((old.map (·.1)).getD c) ≠ c)⟩

/-! ## Working copies -/

/-- Column scale and codes of a column of a row slice that the tensor holds now; none where its tiles carry another format. -/
def State.heldColumn (s : State) (t : Tensor) (f row0 rows col : Nat) : Option (Nat × List Int) :=
  let tile := fun (r : Nat) => s.tileRead t false (r / 128 * t.cols + col / 128) []
  let first := tile row0
  if (hdrOf first).format = f then
    some (fieldAt first (64 + 2 * (col % 128)) 2, (List.range rows).map fun i => intValue f (tileCode (tile (row0 + i)) f ((row0 + i) % 128) (col % 128)))
  else none

/-- The forward copy of one pane in a weight format: its tiles, the columns' outcomes. -/
def State.forwardTiles (s : State) (p : Pane) (l : Layer) (t : Tensor) (f : Nat) (first : Bool) : List (Nat × List Byte) × List ColQuant :=
  let (r0, c0) := p.origin l
  let h := s.fv PD.QUANT_HYST
  let slices := (List.range (ceilDiv p.rows 1024)).map fun q => (1024 * q, min 1024 (p.rows - 1024 * q))
  let cols := slices.map fun sl => (List.range p.cols).map fun c =>
    let vs := (List.range sl.2).map fun i => p.at (sl.1 + i) c
    colQuant f vs (if first then none else s.heldColumn t f (r0 + sl.1) sl.2 (c0 + c)) h
  let col := fun (q c : Nat) => ((cols[q]?).bind (·[c]?)).getD ⟨0, [], false, 0, 0, false⟩
  let tiles := (List.range (ceilDiv p.rows 128)).flatMap fun ti => (List.range (ceilDiv p.cols 128)).map fun tj =>
    let q := ti / 8
    let hd : Hdr := ⟨f, min 128 (p.rows - 128 * ti), min 128 (p.cols - 128 * tj), p.layer, r0 / 128 + ti, c0 / 128 + tj, 0, 0,
      s.num PD.STEP_NUMBER, f32One⟩
    let ok := fun (r c : Nat) => r < hd.rows && c < hd.cols
    let scales := (List.range 128).flatMap fun c => le 2 (if c < hd.cols then (col q (128 * tj + c)).scale else 0)
    let pay := (List.range 128).flatMap fun r => packRow (fmtBits f) ((List.range 128).map fun c =>
      if ok r c then intCode f (((col q (128 * tj + c)).codes[128 * (ti % 8) + r]?).getD 0) else 0)
    ((r0 / 128 + ti) * t.cols + (c0 / 128 + tj), hdrBytes hd ++ scales ++ pay)
  (tiles, cols.flatten)

/-- The tiles of one pane in a format that is rounded afresh: BF16, FP32, QF (R183, R331). -/
def State.roundedTiles (s : State) (p : Pane) (l : Layer) (t : Tensor) (f : Nat) : List (Nat × List Byte) × QStat :=
  let (r0, c0) := p.origin l
  let ts := (List.range (ceilDiv p.rows 128)).flatMap fun ti => (List.range (ceilDiv p.cols 128)).map fun tj =>
    let hd : Hdr := ⟨f, min 128 (p.rows - 128 * ti), min 128 (p.cols - 128 * tj), p.layer, r0 / 128 + ti, c0 / 128 + tj, 0, 0,
      s.num PD.STEP_NUMBER, f32One⟩
    let e := emitTile hd ((List.range hd.rows).map fun r => (List.range hd.cols).map fun c => p.at (128 * ti + r) (128 * tj + c))
    ((r0 / 128 + ti) * t.cols + (c0 / 128 + tj), e.1, e.2)
  (ts.map fun x => (x.1, x.2.1), ts.foldl (fun st x => st.add x.2.2) {})

/-- The tiles whose scales or codes differ from those the tensor holds: what a GATHER record carries (R312). STEP of the header is no code. -/
def State.changedTiles (s : State) (t : Tensor) (ts : List (Nat × List Byte)) : List (Nat × List Byte) :=
  ts.filter fun x =>
    let old := s.tileRead t false x.1 []
    (hdrOf old).format ≠ (hdrOf x.2).format || old.drop 64 ≠ x.2.drop 64

/-- Integer codes and column scales that differ between the tensor and new tiles; a column has one scale in the 8 tiles of a row slice (R181,
R332). -/
def State.codeChanges (s : State) (t : Tensor) (ts : List (Nat × List Byte)) : Nat × Nat :=
  ts.foldl (fun (n : Nat × Nat) x =>
    let old := s.tileRead t false x.1 []
    let f := (hdrOf x.2).format
    if (hdrOf old).format ≠ f ∨ !fmtColScaled f then n
    else
      let codes := total ((List.range 128).map fun r => ((List.range 128).filter fun c => tileCode old f r c ≠ tileCode x.2 f r c).length)
      let scales := if (hdrOf x.2).tileRow % 8 ≠ 0 then 0 else ((List.range 128).filter fun c => fieldAt old (64 + 2 * c) 2 ≠ fieldAt x.2 (64 + 2 * c) 2).length
      (n.1 + codes, n.2 + scales)) (0, 0)

def State.writeTiles (s : State) (t : Tensor) (ts : List (Nat × List Byte)) : State := s.each ts fun s x => s.tileWrite t false x.1 x.2

/-- The tensor of a class that a layer owns. -/
def State.ownTensor (s : State) (layer cls : Nat) : Option Tensor :=
  s.plan.bind fun p => p.tensors.find? fun t => t.owner = layer ∧ t.cls = cls

/-- QF8A rows of some channels over a pane's columns (R190). -/
def State.outlierRows (s : State) (p : Pane) (l : Layer) (channels : List Nat) : List OutRow :=
  let (r0, c0) := p.origin l
  (channels.filter fun c => r0 ≤ c && c < r0 + p.rows).map fun c =>
    let bs := (List.range (ceilDiv p.cols 32)).map fun q =>
      qfBlock 0x0A ((List.range (min 32 (p.cols - 32 * q))).map fun j => p.at (c - r0) (32 * q + j))
    let old := (s.upd.outRows.find? fun o => o.layer = p.layer ∧ o.channel = c)
    let n := l.n
    let codes := ((old.map (·.codes)).getD []) |> fun x => (List.range n).map fun i => (x[i]?).getD 0
    let scales := ((old.map (·.scales)).getD []) |> fun x => (List.range (ceilDiv n 32)).map fun i => (x[i]?).getD 0
    let put := fun {α : Type} (l : List α) (o : Nat) (v : List α) => l.take o ++ v ++ l.drop (o + v.length)
    ⟨p.layer, c, put scales (c0 / 32) (bs.map (·.1)), put codes c0 (bs.flatMap (·.2.1))⟩

def State.putOutRows (s : State) (rows : List OutRow) : State :=
  s.each rows fun s o => { s with upd := { s.upd with
    outRows := s.upd.outRows.filter (fun x => !(x.layer = o.layer && x.channel = o.channel)) ++ [o] } }

/-- A pane's copies as written: the tiles that changed in the forward and in the backward copy. -/
structure Copies where
  fwd : List (Nat × List Byte)
  bwd : List (Nat × List Byte)
  deriving DecidableEq, Repr

/-- The columns of a layer's panes whose scale lies beyond range in its format: the lowest rung whose weight format holds them (R195). -/
def weightRung (l : Layer) (panes : List Pane) (f : Nat) : Option Nat :=
  let slices := panes.flatMap fun p => (List.range (ceilDiv p.rows 1024)).flatMap fun q => (List.range p.cols).map fun c =>
    (List.range (min 1024 (p.rows - 1024 * q))).map fun i => p.at (1024 * q + i) c
  if l.kind ≠ 1 ∨ !fmtColScaled f then none
  else
    let bad := slices.filter fun vs => (colQuant f vs none .zero).range
    if bad.isEmpty then none
    else some (if bad.any fun vs => intScale 0x1C vs = fp16.infCode then 3 else 2)

/-- Derives the copies of some panes of one layer from their masters and writes them (R331). A weight range event first widens the layer, and
the copies take the rung sought; with none available the column saturates (R197, R198). `fresh`: without hysteresis. -/
def State.deriveCopies (s : State) (layer : Nat) (panes : List Pane) (fresh : Bool) : List (Pane × Copies) × State :=
  match s.layer layer with
  | none => ([], s)
  | some l =>
    let s := (List.range 3).foldl (fun (s : State) _ =>
      match weightRung l panes (s.wFormat layer) with
      | some r => if 3 ≤ s.rung layer ∨ (s.rungSought layer r).isNone then s else (s.widen 0 layer 1 r).2
      | none => s) s
    let s := match weightRung l panes (s.wFormat layer) with
      | some _ => (s.logWiden 0 layer 1 (s.rung layer) (s.rung layer)).setLayerNum layer { s.num? layer with event := true, clean := 0 }
      | none => s
    let first := fresh || !s.upd.quantised.contains layer
    let set := (s.num? layer).set
    let union := ((s.exch.unions.find? fun u => u.1 = layer).map (·.2)).getD set
    let r := panes.foldl (fun (acc : List (Pane × Copies) × State) p =>
      let s : State := acc.2
      let (fw, s) : List (Nat × List Byte) × State := match s.tensor l.weight with
        | none => ([], s)
        | some t =>
          let f := s.formatOf t
          if fmtColScaled f then
            let (ts, cs) : List (Nat × List Byte) × List ColQuant := s.forwardTiles p l t f first
            let ch := s.codeChanges t ts
            let s := (s.bumpBy PD.QUANT_CODES_CHANGED ch.1).bumpBy PD.QUANT_SCALES_REPLACED ch.2
            let clips := total (cs.map (·.clips))
            let s := (s.bumpBy PD.Q_UNDERFLOW (total (cs.map (·.under)))).bumpBy PD.RESCALE_CLIPS clips
            let s := if cs.any (·.range) then s.bumpBy PD.RESCALES ts.length else s
            (s.changedTiles t ts, s.writeTiles t ts)
          else
            let (ts, st) := s.roundedTiles p l t f
            (s.changedTiles t ts, (s.writeTiles t ts).bumpBy PD.Q_UNDERFLOW st.under)
      let (bw, s) : List (Nat × List Byte) × State := match s.ownTensor layer 1 with
        | some t =>
          if l.kind = 1 ∨ l.kind = 6 then
            let (ts, st) := s.roundedTiles p l t (s.formatOf t)
            (s.changedTiles t ts, (s.writeTiles t ts).bumpBy PD.Q_UNDERFLOW st.under)
          else ([], s)
        | none => ([], s)
      let s := if l.groutG = 0 then s else s.putOutRows (s.outlierRows p l union)
      (acc.1 ++ [(p, (⟨fw, bw⟩ : Copies))], s)) ([], s)
    let s : State := { r.2 with upd := { r.2.upd with quantised := if r.2.upd.quantised.contains layer then r.2.upd.quantised else r.2.upd.quantised ++ [layer] } }
    (r.1, s)

def State.ownedPanes (s : State) (layer : Nat) : List Pane := s.upd.panes.filter fun p => p.layer = layer

/-- The format that the tiles of a layer's forward copy carry now. -/
def State.heldFormat (s : State) (layer : Nat) : Nat :=
  match (s.layer layer).bind fun l => s.tensor l.weight with
  | some t => (hdrOf (s.tileRead t false 0 [])).format
  | none => 0

/-- Before an operation at a widened rung strikes, the owning update die derives the copy in the rung's format (R194, R196); while the layer is
cold it writes the outlier rows of the set that the scout pass chose (R190). -/
def State.readyCopies (s : State) (layer : Nat) : State :=
  let s := if s.heldFormat layer ≠ s.wFormat layer ∧ !(s.ownedPanes layer).isEmpty then (s.deriveCopies layer (s.ownedPanes layer) true).2 else s
  match s.layer layer with
  | some l =>
    if l.groutG ≠ 0 ∧ (s.num? layer).cold then
      s.each (s.ownedPanes layer) fun s p => s.putOutRows (s.outlierRows p l (s.num? layer).set)
    else s
  | none => s

end Sys2Proof.Machine
end

