-- ==== Sys2Proof/Machine/ArrayOps.lean ====
section
/-! DEFINITION. Machine/ArrayOps.lean: what an array operation is made of: cells and their rows, strikes owed, input bits, narrow runs and
promotion, weight loads, takeover (R98, R102, R115-R147). -/
namespace Sys2Proof.Machine

/-! ## Cells -/

/-- An array counter gains n, and its die's own copy with it (R150). -/
def State.arr (s : State) (g k n : Nat) : State :=
  let s := s.bumpBy k n
  let rows := s.rows PD.ARR_DIE_STATS
  let rows := if rows.isEmpty then List.replicate 8 (List.replicate 16 0) else rows
  s.setRows PD.ARR_DIE_STATS (rows.modify (g / 2048) fun r => r.modify (k % 256 - 1) fun v => (v + n) % 2 ^ 64)

def State.cell (s : State) (g : Nat) : Cell := kvGet (fun _ => {}) s.cells g
def State.setCell (s : State) (g : Nat) (c : Cell) : State := { s with cells := kvSet (fun _ => {}) s.cells g c }

/-- The witness function m_k(r) (R133). -/
def witnessBit (k r : Nat) : Bool := if k = 0 then true else if k = 1 then false else bit r (k - 2)

/-- A row before any weight write: the witness patterns that calibration wrote, zero elsewhere (R133). -/
def rowDefault (r : Nat) : BitVec 536 := BitVec.ofNat 536 (((List.range 8).foldl (fun n k => n + b2n (witnessBit k r) * 2 ^ k) 0) * 2 ^ 528)

def Cell.row (c : Cell) (r : Nat) : BitVec 536 := kvGet rowDefault c.rows r
def Cell.spareEntry (c : Cell) (k : Nat) : Nat := (kvGet (fun _ => (0 : W16)) c.spare k).toNat
/-- S_k stands in for a target (R137). -/
def Cell.spareFor (c : Cell) (k : Nat) : Option Nat := if bit (c.spareEntry k) 15 then some (c.spareEntry k % 1024) else none
def Cell.spareOf (c : Cell) (target : Nat) : Option Nat := (List.range 16).find? fun k => c.spareFor k = some target
/-- Usable spares not in use. -/
def Cell.freeSpares (c : Cell) : List Nat := (List.range 16).filter fun k => !bit (c.spareEntry k) 15 && !bit (c.spareEntry k) 14
/-- The bit-column whose code counts for a target (R124 step 9, R137). -/
def Cell.route (c : Cell) (target : Nat) : Nat := ((c.spareOf target).map (512 + ·)).getD target

/-- Bit-column weight w_b of bit b of a weight (R119, R120). -/
def bitWeight (f b : Nat) : Int :=
  if f = 0x1B then (if b = 0 then 1 else -1) else if b + 1 = weightBits f then -(2 ^ b : Int) else (2 ^ b : Int)

/-! ## Where a cell stands in an operation -/

/-- A cell's place: its layer's place, its group and its row slice. -/
structure CellPlace where
  place : LayerPlace
  group : ColGroup
  q : Nat
  deriving DecidableEq, Repr

def LayerPlace.find (p : LayerPlace) (sect g : Nat) : Option CellPlace :=
  p.groups.findSome? fun gr => if gr.sect = sect then (gr.cells.idxOf? g).map fun q => ⟨p, gr, q⟩ else none

def State.opPlace (s : State) (o : SeqOp) : Option LayerPlace := s.layerPlace o.layer o.leaf

def ArrayOp.seq (o : ArrayOp) : SeqOp := ⟨o.layer, o.micro, o.leaf, o.sect, o.recompute⟩

def State.cellPlace (s : State) (o : ArrayOp) (g : Nat) : Option CellPlace := (s.opPlace o.seq).bind fun p => p.find o.sect g

/-- Cells of an operation. -/
def State.opCells (s : State) (o : SeqOp) : List Nat :=
  match s.opPlace o with
  | some p => (p.groups.filter fun g => g.sect = o.sect).flatMap (·.cells)
  | none => []

/-- Consecutive sections that a format wider than the placement's needs on the layer's current cells (R116). -/
def partsOf (l : Layer) (p : LayerPlace) (wf : Nat) : Nat :=
  if wf = p.wFormat then 1 else max 1 (ceilDiv (ceilDiv l.n (cellCols wf)) (max p.nslices 1))

/-- Column slice that a group holds in a part. -/
def sliceOf (p : LayerPlace) (gr : ColGroup) (wf part : Nat) : Nat := if wf = p.wFormat then gr.slice else part * p.nslices + gr.slice

/-- Weight columns in use of a slice (R121). -/
def slotsOf (l : Layer) (wf slice : Nat) : Nat := min (cellCols wf) (l.n - slice * cellCols wf)

/-! ## Rows as the stack copy gives them -/

/-- The integer weight at contraction index k and output index n of the working copy (R121). -/
def State.weightAt (s : State) (l : Layer) (k n : Nat) : Int :=
  if k < l.k ∧ n < l.n then
    let img := s.weightTile l (k / 128) (n / 128)
    let f := (hdrOf img).format
    if fmtColScaled f then intValue f (tileCode img f (k % 128) (n % 128)) else 0
  else 0

/-- The data bits of one row of a row slice (R119-R121). -/
def State.dataBits (s : State) (l : Layer) (wf slice q row : Nat) : Nat :=
  let w := weightBits wf
  (List.range (cellCols wf)).foldl (fun n j =>
    let v := s.weightAt l (1024 * q + row) (slice * cellCols wf + j)
    let code := if wf = 0x1B then intCode wf v else unsigned w v
    n + code % 2 ^ w * 2 ^ (w * j)) 0

/-- The row as it is to stand in a cell: data bits, their copies in spare columns, the witness patterns (R133, R137, R146). -/
def Cell.fullRow (c : Cell) (data r : Nat) : BitVec 536 :=
  let src := fun (t : Nat) => if t < 512 then bit data t else if 528 ≤ t then witnessBit (t - 528) r else false
  let sp := (List.range 16).foldl (fun n k => match c.spareFor k with
    | some t => n + b2n (src t) * 2 ^ k
    | none => n) 0
  BitVec.ofNat 536 (data % 2 ^ 512 + sp * 2 ^ 512) ||| rowDefault r

def State.intendedRow (s : State) (l : Layer) (wf : Nat) (cp : CellPlace) (part : Nat) (c : Cell) (r : Nat) : BitVec 536 :=
  c.fullRow (s.dataBits l wf (sliceOf cp.place cp.group wf part) cp.q r) r

/-- Column scales of a slice (R121, R181). -/
def State.scalesOf (s : State) (l : Layer) (wf slice q : Nat) : List (Nat × W16) :=
  (List.range (cellCols wf)).foldl (fun m j =>
    let n := slice * cellCols wf + j
    kvSet (fun _ => (0 : W16)) m j (if n < l.n then BitVec.ofNat 16 (fieldAt (s.weightTile l (8 * q) (n / 128)) (64 + 2 * (n % 128)) 2) else 0)) []

/-! ## Loading weights (R102, R103, R146, R147) -/

/-- Key of what a leaf holds. -/
def loadKey (layer sect part wf : Nat) : Nat := 1 + ((layer * 64 + sect) * 4096 + part) * 64 + wf

def loadSlot (leaf layer : Nat) : Nat := if leaf < 2 then leaf else 2 + layer

/-- W2T codes 11 among the weights that a cell's rows take; they are taken as 0 (R175). -/
def State.w2tRead (s : State) (l : Layer) (slice q : Nat) : Nat :=
  total ((List.range 8).map fun i => total ((List.range (cellCols 0x1B)).map fun j =>
    let n := slice * cellCols 0x1B + j
    let img := s.weightTile l (8 * q + i) (n / 128)
    if (hdrOf img).format = 0x1B ∧ n < l.n then
      ((List.range 128).filter fun r => (8 * q + i) * 128 + r < l.k && tileCode img 0x1B r (n % 128) = 3).length
    else 0))

/-- The rows of one cell that differ from the row intended; unchanged rows are counted. -/
def State.loadCell (s : State) (l : Layer) (wf part : Nat) (cp : CellPlace) (g : Nat) : State :=
  let c := s.cell g
  let diff := (List.range 1024).filter fun r => s.intendedRow l wf cp part c r ≠ c.row r
  let s := s.bumpBy PD.W2T_INVALID (if wf = 0x1B then s.w2tRead l (sliceOf cp.place cp.group wf part) cp.q else 0)
  let s := (s.arr g PD.ARR_ROWS_UNCHANGED (1024 - diff.length)).setCell g
    { c with scales := s.scalesOf l wf (sliceOf cp.place cp.group wf part) cp.q }
  let old := s.arrays.writes.filter fun w => w.1 ≠ g
  { s with arrays := { s.arrays with writes := old ++ diff.map fun r => (g, r) } }

/-- Loads one section and part of a layer into its cells on a leaf; nothing when they hold it already. -/
def State.load (s : State) (o : SeqOp) (part : Nat) : State :=
  match s.opPlace o, s.layer o.layer with
  | some p, some l =>
    let s := s.readyCopies o.layer
    let wf := s.wFormat o.layer
    let key := loadKey o.layer o.sect part wf
    let slot := loadSlot p.leaf o.layer
    if kvGet (fun _ => 0) s.arrays.loaded slot = key then s
    else
      let s := s.each (s.opCells o) fun s g => match p.find o.sect g with
        | some cp => s.loadCell l wf part cp g
        | none => s
      { s with arrays := { s.arrays with loaded := kvSet (fun _ => 0) s.arrays.loaded slot key } }
  | _, _ => s

/-- The cells hold what the operation needs, every row verified. -/
def State.loadDone (s : State) (o : SeqOp) : Bool :=
  let cs := s.opCells o
  s.arrays.writes.all fun w => !cs.contains w.1

/-- A layer runs on the arrays in this step: on a rung below 3, with REF_ALL clear (R194, R211). -/
def State.onArrays (s : State) (layer : Nat) : Bool := (s.layer layer).any isMatmul && s.rung layer < 3 && !s.flag PD.REF_ALL

/-- Operations of the array sequence from a position on that strike. -/
def State.opsFrom (s : State) (pos : Nat) : List (Nat × SeqOp) :=
  match s.place with
  | some p => (p.sequence.zipIdx.drop pos).filterMap fun x => if s.onArrays x.1.layer then some (x.2, x.1) else none
  | none => []

/-- The next operation's layer is written into its leaf while nothing strikes there (R22, R102). RESIDENT cells are written when the working
copies change (R101). -/
def State.preload (s : State) : State :=
  match s.opsFrom (s.arrays.seqPos + b2n s.arrays.op.isSome) with
  | (_, o) :: _ => if s.arrays.op.any fun c => c.leaf = o.leaf then s else s.load o 0
  | [] => s

/-- Every RESIDENT layer's cells follow the working copies: delta writes of a WRITEBACK, or the first write after a placement (R101, R333).
What a leaf holds in RELOAD placement is compared again at its next load. -/
def State.rewriteArrays (s : State) : State :=
  let s : State := { s with arrays := { s.arrays with loaded := [] } }
  match s.place with
  | some p =>
    if p.mode = 1 then
      s.each p.layers fun s l => if s.onArrays l.layer then s.load ⟨l.layer, 0, l.leaf, 0, false⟩ 0 else s
    else s
  | none => s

/-! ## Inputs of strikes -/

/-- Descriptor and contributions of an operation's stream and index: a recompute set's replay, or an entered descriptor. -/
def State.struckDesc (s : State) (recompute : Bool) (stream : Nat) (index : W32) : Option Desc :=
  if recompute then (s.backward.replays.find? fun r => r.stream = stream ∧ r.index = index).map fun r => descOf r.desc
  else ((s.stream stream).entered.find? fun e => e.index = index).map fun e => descOf e.desc

/-- The A image that a recomputed operation strikes: the forward pass's BF16 values quantised at the rung its forward operation ended on, or
the host's tile as it stands (R253). -/
def State.replayImage (s : State) (d : Desc) (t : Tensor) (micro k : Nat) : List Byte :=
  let src := s.keptOr t d.layer micro 0 k []
  if (hdrOf src).format ≠ 0x10 then src
  else match s.layer d.layer, s.backward.forward.find? fun f => (descOf f.desc).layer = d.layer ∧ f.micro = micro with
    | some l, some f =>
      let fmt := (rungFormats l f.rung).2
      let c := k % (max t.cols 1)
      let dense : Bool := s.groupRows d.layer l = 256 && c / 2 * 2 + 1 < t.cols
      let ks := if dense then [k - c % 2, k - c % 2 + 1] else [k]
      let out := (groutTiles fmt (ks.map fun j => s.keptOr t d.layer micro 0 j []) (ks.headD k % (max t.cols 1)) (s.num? d.layer).set
        (s.fv PD.GROUT_TAU) (l.groutG ≠ 0 && fmt ≠ 0x04)).1
      (out[if dense then c % 2 else 0]?).getD []
    | _, _ => src

def State.strikeImage (s : State) (recompute : Bool) (d : Desc) (t : Tensor) (micro k : Nat) : List Byte :=
  if recompute then s.replayImage d t micro k else s.tileRead t false k []

/-- Code of a descriptor's input at contraction index k for a token; 0 outside its range and its tiles' valid corners (R66, R122). -/
def inputCode (imgs : List (List Byte)) (d : Desc) (cols tok k : Nat) : Nat :=
  let lo := 128 * (d.srcTile % (max cols 1))
  if lo ≤ k ∧ k < lo + d.length then
    let img := (imgs[(k - lo) / 128]?).getD []
    let h := hdrOf img
    if tok < h.rows ∧ k % 128 < h.cols then tileCode img h.format tok (k % 128) else 0
  else 0

/-- Input bits of rows of a row slice in a phase. -/
def inputRow (imgs : List (List Byte)) (d : Desc) (cols tok q row rows p : Nat) : List Bool :=
  (List.range rows).map fun i => bit (inputCode imgs d cols tok (1024 * q + row + i)) p

/-- Phases of a descriptor's input. -/
def phasesOf (imgs : List (List Byte)) : Nat := inputBits (hdrOf (imgs.headD [])).format

/-- The token's row scale in the tile that covers a contraction index (R142). -/
def rowScale (imgs : List (List Byte)) (d : Desc) (cols tok k : Nat) : Option Nat :=
  let lo := 128 * (d.srcTile % (max cols 1))
  if lo ≤ k ∧ k < lo + d.length then some (fieldAt ((imgs[(k - lo) / 128]?).getD []) (64 + 2 * tok) 2) else none

def State.opImages (s : State) (recompute : Bool) (micro : Nat) (d : Desc) : List (List Byte) × Nat :=
  match s.tensor d.src with
  | some t => ((List.range d.count).map fun j => s.strikeImage recompute d t micro (d.srcTile + j), t.cols)
  | none => ([], 1)

/-- What a cell owes for a descriptor, and what skipping and splitting count. -/
structure Owed where
  strikes : List StrikePos := []
  skipped : Nat := 0
  splits : Nat := 0
  bits : Nat := 0
  inputs : Nat := 0
  deriving DecidableEq, Repr

def Owed.add (a b : Owed) : Owed := ⟨a.strikes ++ b.strikes, a.skipped + b.skipped, a.splits + b.splits, a.bits + b.bits, a.inputs + b.inputs⟩

/-- Strikes of rows of one token, phase by phase downward, n times each; phases without a set bit are skipped (R123, R129, R140). -/
def owedRows (stream : Nat) (index : W32) (imgs : List (List Byte)) (d : Desc) (cols tok q row rows n : Nat) (skip : Bool) : Owed :=
  let p := phasesOf imgs
  ((List.range p).reverse).foldl (fun (acc : Owed) ph =>
    let bs := inputRow imgs d cols tok q row rows ph
    let set := (bs.filter id).length
    if skip && set = 0 then { acc with skipped := acc.skipped + 1, inputs := acc.inputs + rows }
    else { acc with strikes := acc.strikes ++ (List.range n).map fun i => ⟨stream, index, tok, row, rows, ph, false, false, decide (0 < i), false⟩,
                    bits := acc.bits + set, inputs := acc.inputs + rows }) {}

/-- Everything a cell owes for one descriptor: token by token, row group by row group (R123); nothing when its replica or row slice has no
part of it. -/
def State.owed (s : State) (l : Layer) (cp : CellPlace) (recompute : Bool) (micro stream : Nat) (index : W32) (d : Desc) : Owed :=
  let (imgs, cols) := s.opImages recompute micro d
  let lo := 128 * (d.srcTile % (max cols 1))
  let tileRow := d.srcTile / (max cols 1)
  let skip := s.flag PD.SKIP_ZERO_PHASES
  let size := s.groupRows d.layer l
  if tileRow % (max cp.place.replicas 1) ≠ cp.group.replica ∨ lo + d.length ≤ 1024 * cp.q ∨ 1024 * (cp.q + 1) ≤ lo then {}
  else
    (List.range (hdrOf (imgs.headD [])).rows).foldl (fun (acc : Owed) tok =>
      (List.range (1024 / size)).foldl (fun (acc : Owed) g =>
        let row := g * size
        let one := fun (r n : Nat) => owedRows stream index imgs d cols tok cp.q r n (2 ^ l.doubleStrike) skip
        let a := rowScale imgs d cols tok (1024 * cp.q + row)
        let b := rowScale imgs d cols tok (1024 * cp.q + row + 128)
        if size = 256 ∧ a.isSome ∧ b.isSome ∧ a ≠ b then
          { ((acc.add (one row 128)).add (one (row + 128) 128)) with splits := acc.splits + 1 }
        else acc.add (one row size)) acc) {}

/-- A descriptor's strikes join the sequences of every cell of the operation in progress. -/
def State.addStrikes (s : State) (stream : Nat) (index : W32) (d : Desc) : State :=
  match s.arrays.op, s.layer d.layer with
  | some o, some l =>
    s.each (s.opCells o.seq) fun s g =>
      match s.cellPlace o g with
      | none => s
      | some cp =>
        let w := s.owed l cp o.recompute o.micro stream index d
        let c := s.cell g
        let s := ((s.setCell g { c with todo := c.todo ++ w.strikes }).arr g PD.ARR_SKIPPED w.skipped).arr g PD.ARR_SCALE_SPLITS w.splits
        if s.autoDense l ∧ !o.recompute then
          let r := s.rowMode d.layer
          s.setRowMode { r with bits := r.bits + w.bits, inputs := r.inputs + w.inputs }
        else s
  | _, _ => s

/-! ## Narrow runs and promotion (R141, R142) -/

def StrikePos.upper (h : StrikePos) (phases : Nat) : Bool := phases = 8 && 4 ≤ h.phase

/-- A strike of the same run group is still owed: the run goes on. -/
def StrikePos.sameGroup (h e : StrikePos) (phases : Nat) : Bool :=
  e.stream = h.stream && e.index = h.index && e.token = h.token && (e.upper phases == h.upper phases)
    && (if h.half || h.rows = 256 then e.row / 256 = h.row / 256 else e.row = h.row)

/-- Codes of the 512 data columns enter the narrow adders of their run. -/
def addCodes (runs : List NarrowRun) (h : StrikePos) (phases : Nat) (codes : List Nat) : List NarrowRun :=
  let up := h.upper phases
  let low := if up then 4 else 0
  let w : Int := if h.phase + 1 = phases then -(2 ^ (h.phase - low) : Int) else (2 ^ (h.phase - low) : Int)
  let key := fun (r : NarrowRun) => r.stream = h.stream && r.index = h.index && r.token = h.token && r.row = h.row && r.rows = h.rows && r.upper = up
  let old := (runs.find? key).map (·.sums)
  let sums := (List.range 512).map fun b => ((old.getD [])[b]?).getD 0 + w * (((codes[b]?).getD 0 : Nat) : Int)
  runs.filter (fun r => !key r) ++ [⟨h.stream, h.index, h.token, h.row, h.rows, up, sums⟩]

/-- V_j of a run (R142). -/
def columnValue (wf : Nat) (sums : List Int) (j : Nat) : Int :=
  (List.range (weightBits wf)).foldl (fun (v : Int) b => v + bitWeight wf b * ((sums[weightBits wf * j + b]?).getD 0)) 0

def State.putBeds (s : State) (recompute : Bool) (stream : Nat) (index : W32) (f : List (Nat × Bed) → List (Nat × Bed)) : State :=
  if recompute then
    { s with backward := { s.backward with replays := s.backward.replays.map fun r =>
        if r.stream = stream ∧ r.index = index then { r with beds := f r.beds } else r } }
  else
    let t := s.stream stream
    s.setStream stream { t with entered := t.entered.map fun e => if e.index = index then { e with beds := f e.beds } else e }

/-- Promotes one run of a cell into the beds of its output elements and counts it (R142). -/
def State.promoteRun (s : State) (o : ArrayOp) (l : Layer) (cp : CellPlace) (g : Nat) (c : Cell) (r : NarrowRun) : State :=
  match s.struckDesc o.recompute r.stream r.index with
  | none => s
  | some d =>
    let wf := s.wFormat o.layer
    let slice := sliceOf cp.place cp.group wf o.part
    let (imgs, cols) := s.opImages o.recompute o.micro d
    let a := fp16.decode ((rowScale imgs d cols r.token (1024 * cp.q + r.row)).getD
      ((rowScale imgs d cols r.token (1024 * cp.q + r.row + 128)).getD 0))
    let k : Int := (if r.upper then 4 else 0) - (l.doubleStrike : Int)
    let step := fun (acc : List (Nat × Bed) × BStat) (j : Nat) =>
      let n := slice * cellCols wf + j
      let cj := fp16.decode (kvGet (fun _ => (0 : W16)) c.scales j).toNat
      let v := (((FV.ofInt (columnValue wf r.sums j)).scale k).mul a).mul cj
      let e := elemNum (n / 128) r.token (n % 128)
      let (b, st) := (bedGet acc.1 e).promote v false false
      (bedSet acc.1 e b, acc.2.add st)
    let old := if o.recompute then ((s.backward.replays.find? fun x => x.stream = r.stream ∧ x.index = r.index).map (·.beds)).getD []
      else (((s.stream r.stream).entered.find? fun x => x.index = r.index).map (·.beds)).getD []
    let (beds, st) := (List.range (slotsOf l wf slice)).foldl step (old, {})
    ((s.putBeds o.recompute r.stream r.index fun _ => beds).countBeds st).arr g PD.ARR_PROMOTIONS 1

/-- Codes accepted for a strike: they enter the run, and a run whose last strike this was is promoted (R141). `todo`: what the cell still owes. -/
def State.accept (s : State) (o : ArrayOp) (l : Layer) (cp : CellPlace) (g : Nat) (h : StrikePos) (phases : Nat) (codes : List Nat)
    (todo : List StrikePos) : State :=
  let c := s.cell g
  let runs := addCodes c.runs h phases codes
  if todo.any (h.sameGroup · phases) then s.setCell g { c with todo := todo, runs := runs }
  else
    let mine := fun (r : NarrowRun) => r.stream = h.stream && r.index = h.index && r.token = h.token && (r.upper == h.upper phases)
      && (if h.half || h.rows = 256 then r.row / 256 = h.row / 256 else r.row = h.row)
    let s := s.setCell g { c with todo := todo, runs := runs.filter fun r => !mine r }
    s.each (runs.filter mine) fun s r => s.promoteRun o l cp g c r

/-- Exact counts of a strike against the stack copy of the cell's rows (R124, R135). -/
def State.exactCounts (s : State) (o : ArrayOp) (l : Layer) (cp : CellPlace) (h : StrikePos) (bs : List Bool) : List Nat :=
  let wf := s.wFormat o.layer
  let slice := sliceOf cp.place cp.group wf o.part
  let rows := ((List.range h.rows).filter fun i => (bs[i]?).getD false).map fun i => s.dataBits l wf slice cp.q (h.row + i)
  (List.range 512).map fun b => (rows.filter fun r => bit r b).length

/-! ## Takeover (R115) -/

/-- The cell of the same leaf of the same die that takes over, if one holds no group of the operation. -/
def State.takeoverCell (s : State) (o : SeqOp) (g : Nat) : Option Nat :=
  let used := s.opCells o
  (s.workingCells (g / 2048) (g % 16 / 8)).find? fun x => !used.contains x

def replaceCell (p : Placement) (layer leaf g x : Nat) : Placement :=
  { p with layers := p.layers.map fun l =>
      if l.layer = layer ∧ l.leaf = leaf then
        { l with groups := l.groups.map fun gr => { gr with cells := gr.cells.map fun c => if c = g then x else c } }
      else l }

/-- A retired cell of an operation is taken over; with no cell to take over the step is voted VOID. What it had in progress is struck again
by the new cell, run by run (R115). -/
def State.takeover (s : State) (o : ArrayOp) (g : Nat) : State :=
  match s.cellPlace o g, s.layer o.layer, s.takeoverCell o.seq g with
  | some cp, some l, some x =>
    let s : State := { s with place := s.place.map fun p => replaceCell p o.layer cp.place.leaf g x
                              arrays := { s.arrays with writes := s.arrays.writes.filter fun w => w.1 ≠ g } }
    let s := s.bump PD.CELL_TAKEOVERS
    let old := s.cell g
    let phases := fun (d : Desc) => phasesOf (s.opImages o.recompute o.micro d).1
    let redo := old.runs.flatMap fun r =>
      match s.struckDesc o.recompute r.stream r.index with
      | some d =>
        let (imgs, cols) := s.opImages o.recompute o.micro d
        (owedRows r.stream r.index imgs d cols r.token cp.q r.row r.rows (2 ^ l.doubleStrike) (s.flag PD.SKIP_ZERO_PHASES)).strikes.filter
          fun h => h.upper (phases d) = r.upper
      | none => []
    let waits := old.todo.filter fun h => !(old.runs.any fun r => r.stream = h.stream && r.index = h.index && r.token = h.token && r.row = h.row)
    let s := (s.setCell g (old.quiet)).setCell x { s.cell x with todo := redo ++ waits.map fun h => { h with retried := false, digital := false } }
    s.loadCell l (s.wFormat o.layer) o.part { cp with } x
  | some _, some _, none =>
    (s.setCell g (s.cell g).quiet).toDevice ⟨g / 2048, g % 2048 / 16, g % 16⟩ false
  | _, _, _ => s

/-- The layer, format, part and place that a cell's rows were last loaded for. -/
def State.loadedFor (s : State) (g : Nat) : Option (ArrayOp × Layer × Nat × CellPlace) :=
  s.arrays.loaded.findSome? fun e =>
    let v := e.2 - 1
    let wf := v % 64
    let o : ArrayOp := ⟨v / 64 / 4096 / 64, 0, min e.1 2, v / 64 / 4096 % 64, false, v / 64 % 4096⟩
    match s.opPlace o.seq, s.layer o.layer with
    | some p, some l => (p.find o.sect g).map fun cp => (o, l, wf, cp)
    | _, _ => none

/-- Retires an analogue cell; one that the operation in progress or a load uses is taken over (R115). -/
def State.retireArrayCell (s : State) (g cause mech : Nat) : State :=
  let s := s.retireCell ⟨g / 2048, g % 2048 / 16, g % 16⟩ cause mech
  if !s.faults.retiredCells.contains g then s
  else
    let load : Option ArrayOp := (s.loadedFor g).map (·.1)
    match s.arrays.op with
    | some o => if (s.opCells o.seq).contains g then s.takeover o g else match load with
      | some o' => s.takeover o' g
      | none => s
    | none => match load with
      | some o' => s.takeover o' g
      | none => { s with arrays := { s.arrays with writes := s.arrays.writes.filter fun w => w.1 ≠ g } }

end Sys2Proof.Machine
end

