-- ==== Sys2Proof/Machine/ExchOps.lean ====
section
/-! DEFINITION. Machine/ExchOps.lean: exchange records and what a member sends (R295-R302, R310, R313). -/
namespace Sys2Proof.Machine

/-! ## Records (R298, R299) -/

/-- Fields of an exchange header. -/
structure XHdr where
  kind : Nat
  excl : Bool := false
  carried : Bool := false
  attempt : Nat
  layer : Nat
  step : Nat
  sender : Nat
  samples : Nat := 0
  pane : Nat := 0
  elements : Nat := 0
  tensor : Nat := 0
  /-- tile of a STAGE record, kind of a LATE one -/
  tile : Nat := 0
  deriving DecidableEq, Repr

/-- A record: header, then the body padded to a multiple of 64 bytes. -/
def XHdr.record (x : XHdr) (body : List Byte) : List Byte :=
  let n := ceilDiv body.length 64 * 64
  le 8 (1 + x.kind * 2 ^ 8 + b2n x.excl * 2 ^ 16 + b2n x.carried * 2 ^ 17 + x.attempt % 2 ^ 16 * 2 ^ 32 + x.layer % 2 ^ 16 * 2 ^ 48)
  ++ le 8 (x.step % 2 ^ 48) ++ le 8 (x.sender % 2 ^ 12 + x.samples % 2 ^ 32 * 2 ^ 32)
  ++ le 8 (x.pane % 2 ^ 32 + x.elements % 2 ^ 32 * 2 ^ 32) ++ le 8 (n % 2 ^ 32 + x.tensor % 2 ^ 24 * 2 ^ 32)
  ++ le 8 (if x.kind = 8 then x.tile % 256 * 2 ^ 16 else x.tile % 2 ^ 32) ++ zeros 16 ++ padTo n body

/-- The tiles of a body, each whole with its header; none when they do not fit it. -/
def bodyTiles : Nat → List Byte → Option (List (List Byte))
  | 0, b => if b.isEmpty then some [] else none
  | n + 1, b =>
    let f := (hdrOf b).format
    if !fmtValid f ∨ b.length < tileSize f then none
    else (bodyTiles n (b.drop (tileSize f))).map (b.take (tileSize f) :: ·)

/-- The body's length agrees with ELEMENTS for the kind. -/
def bodyFits (kind elements : Nat) (body : List Byte) : Bool :=
  if kind = 1 ∨ kind = 10 ∨ kind = 11 then body.length = 65536 * elements
  else if kind = 2 then body.length = ceilDiv (12 * elements) 64 * 64
  else if kind = 6 then body.length = ceilDiv (4 * elements) 64 * 64
  else if kind = 7 then elements = 1 && (bodyTiles 1 body).isSome
  else if kind = 8 ∨ kind = 9 then elements = 0 && body.isEmpty
  else (bodyTiles elements body).isSome

/-- The record's header and body when its checks pass (R298). -/
def XHdr.parse (b : List Byte) (members : Nat) : Option (XHdr × List Byte) :=
  let w := fun (i : Nat) => fieldAt b (8 * i) 8
  let kind := bits (w 0) 8 8
  let body := b.drop 64
  let x : XHdr := ⟨kind, bit (w 0) 16, bit (w 0) 17, bits (w 0) 32 16, bits (w 0) 48 16, bits (w 1) 0 48, bits (w 2) 0 12, bits (w 2) 32 32,
    bits (w 3) 0 32, bits (w 3) 32 32, bits (w 4) 32 24, if kind = 8 then bits (w 5) 16 8 else bits (w 5) 0 32⟩
  let reserved := bits (w 0) 4 4 = 0 && bits (w 0) 18 14 = 0 && bits (w 1) 48 16 = 0 && bits (w 2) 12 20 = 0 && bits (w 4) 56 8 = 0
    && (kind = 7 || x.tensor = 0) && (if kind = 7 then bits (w 5) 32 32 = 0 else if kind = 8 then bits (w 5) 0 16 = 0 && bits (w 5) 24 40 = 0 else w 5 = 0)
    && w 6 = 0 && w 7 = 0
  if 64 ≤ b.length ∧ bits (w 0) 0 4 = 1 ∧ reserved ∧ 1 ≤ kind ∧ kind ≤ 11 ∧ x.sender < members ∧ bits (w 4) 0 32 = body.length
      ∧ bodyFits kind x.elements body then some (x, body)
  else none

/-- The address of a member (R295). -/
def State.memberAddr (s : State) (m : Nat) : Option Addr :=
  match (s.rows PD.EXCH_MEMBERS)[m]? with
  | some (p :: sl :: side :: _) => some ⟨side, p, sl⟩
  | _ => none

def State.sendTo (s : State) (m cls : Nat) (rec : List Byte) : State :=
  match s.memberAddr m with
  | some a => s.send cls a rec
  | none => s

/-- Header of a record of this module for the open attempt. -/
def State.xhdr (s : State) (kind layer : Nat) : XHdr :=
  { kind := kind, attempt := s.num PD.STEP_ATTEMPT, layer := layer, step := s.num PD.STEP_NUMBER, sender := s.num PD.EXCH_MEMBER,
    excl := s.exch.selfExcluded }

/-! ## Panes and owners (R296, R297) -/

def State.owners (s : State) : List (PaneRef × Nat) := (s.plan.map fun p => paneOwners p.layers (s.num PD.EXCH_SIZE)).getD []
def State.layerOwners (s : State) (layer : Nat) : List (PaneRef × Nat) := s.owners.filter fun p => p.1.layer = layer
def State.isOwned (s : State) (layer pane : Nat) : Bool :=
  s.owners.any fun p => p.1.layer = layer && p.1.pane = pane && p.2 = s.num PD.EXCH_MEMBER
def State.ownedRefs (s : State) : List PaneRef := (s.owners.filter fun p => p.2 = s.num PD.EXCH_MEMBER).map (·.1)

/-- First channel and first column of a pane. -/
def PaneRef.origin (p : PaneRef) (l : Layer) : Nat × Nat :=
  let pc := max (ceilDiv (gradDims l).2 2048) 1
  (2048 * (p.pane / pc), 2048 * (p.pane % pc))

def PaneRef.tiles (p : PaneRef) : Nat := ceilDiv p.rows 128 * ceilDiv p.cols 128

/-- A pane's values as DENSE lays them out: tile by tile, 16,384 FP32 elements each, invalid ones zero (R298). -/
def denseBody (rows cols : Nat) (f : Nat → Nat → W32) : List Byte :=
  (List.range (ceilDiv rows 128)).flatMap fun i => (List.range (ceilDiv cols 128)).flatMap fun j =>
    (List.range 128).flatMap fun r => (List.range 128).flatMap fun c =>
      le 4 (if 128 * i + r < rows ∧ 128 * j + c < cols then (f (128 * i + r) (128 * j + c)).toNat else 0)

/-- Element (r, c) of a pane of `cols` columns in a DENSE body. -/
def denseAt (body : List Byte) (cols r c : Nat) : W32 :=
  BitVec.ofNat 32 (fieldAt body (4 * (((r / 128) * ceilDiv cols 128 + c / 128) * 16384 + r % 128 * 128 + c % 128)) 4)

/-! ## Stretchers and thinning (R300, R301) -/

/-- Interval N and top-k count of a layer; gain gradients are never thinned. -/
def State.thin (s : State) (layer : Nat) : Nat × Nat :=
  if (s.layer layer).any (fun l => l.kind = 3) then (1, 32)
  else match (s.rows PD.THIN_TABLE).find? fun r => r.headD 0 = layer with
    | some [_, n, k] => (max n 1, k)
    | _ => (1, 32)

def State.priv (s : State) (layer : Nat) : List Nat :=
  if (s.layer layer).any (fun l => l.kind = 3) then []
  else ((s.rows PD.PRIV_CHANNELS).filter fun r => r.headD 0 = layer).map fun r => r.getD 1 0

def State.stretched (s : State) (layer : Nat) : Bool :=
  1 < (s.thin layer).1 || !(s.priv layer).isEmpty || s.flag PD.EXCH_CARRY_LATE

/-- The step sends the layer's other channels. -/
def State.sendStep (s : State) (layer : Nat) : Bool :=
  let n := (s.thin layer).1
  n = 1 || (s.num PD.STEP_NUMBER + 1) % n = 0

def stretchKey (layer e : Nat) : Nat := layer * 2 ^ 40 + e

/-- Emitted weight gradient dW of a channel and column (R296). -/
def State.gradAt (s : State) (layer ch col : Nat) : FV :=
  match s.plan.bind fun p => p.tensors.find? fun t => t.wgrad ∧ t.owner = layer with
  | some t => tileVal (s.tileRead t false (ch / 128 * t.cols + col / 128) []) (ch % 128) (col % 128)
  | none => .zero

/-- v = stretcher + dW, exactly (R301). -/
def State.sentValue (s : State) (layer n ch col : Nat) : FV :=
  let dw := s.gradAt layer ch col
  if s.stretched layer then
    ((FV.ofInt (kvGet (fun _ => (0 : BitVec 320)) s.exch.stretch (stretchKey layer (ch * n + col))).toInt).scale (-149)).add dw
  else dw

/-- Columns of the k elements of a privileged channel with the largest |v|, ties to the lower column. -/
def State.topColumns (s : State) (layer n k ch : Nat) : List Nat :=
  let all := (List.range n).map fun c => (c, (s.sentValue layer n ch c).abs)
  ((sortBy (fun (a b : Nat × FV) => b.2.lt a.2 || (!a.2.lt b.2 && a.1 ≤ b.1)) all).take k).map (·.1)

/-! ## Samples (R302, R307) -/

def State.stepSamples (s : State) (layer : Nat) : Nat :=
  if s.step.samples ≠ 0 then s.step.samples
  else ((s.step.backwardDone.filter fun b => b.1 = layer).eraseDups.length) * ((s.plan.map (·.microTokens)).getD 0)

/-- Keys of a pane's accumulated count and of its carried count by kind (R302, R307). -/
def accumKey (layer pane : Nat) : Nat := layer * 2 ^ 20 + pane
def carryKey (layer pane kind : Nat) : Nat := accumKey layer pane * 16 + kind

/-- SAMPLES and CARRIED of the next record of a kind for a pane of the layer. -/
def State.recordSamples (s : State) (layer pane kind : Nat) : Nat × Bool :=
  let carry := kvGet (fun _ => 0) s.exch.carriedSamples (carryKey layer pane kind)
  let flag : Bool := kvGet (fun _ => 0) s.exch.carriedSamples (carryKey layer pane (kind + 8)) ≠ 0
  let base := s.stepSamples layer
  if kind = 1 ∧ 1 < (s.thin layer).1 then (kvGet (fun _ => 0) s.exch.accum (accumKey layer pane) + base, flag)
  else (base + carry, flag)

/-! ## Sending a layer (R298, R301, R304) -/

/-- The records of a layer for one pane: header and body. -/
def State.paneRecords (s : State) (l : Layer) (p : PaneRef) : List (XHdr × List Byte) :=
  let n := (gradDims l).2
  let (r0, c0) := p.origin l
  let priv := s.priv p.layer
  let mine := (List.range p.rows).filter fun r => priv.contains (r0 + r)
  let k := (s.thin p.layer).2
  let entries := mine.flatMap fun r => ((s.topColumns p.layer n k (r0 + r)).filter fun c => c0 ≤ c && c < c0 + p.cols).map fun c => (r0 + r, c)
  let (ns, cs) := s.recordSamples p.layer p.pane 2
  let (nd, cd) := s.recordSamples p.layer p.pane 1
  let sparse := if mine.isEmpty then [] else
    [({ s.xhdr 2 p.layer with pane := p.pane, samples := ns, carried := cs, elements := entries.length },
      entries.flatMap fun e => le 4 e.1 ++ le 4 e.2 ++ le 4 (toF32 (s.sentValue p.layer n e.1 e.2)).toNat)]
  let dense := if !s.sendStep p.layer ∨ mine.length = p.rows then [] else
    [({ s.xhdr 1 p.layer with pane := p.pane, samples := nd, carried := cd, elements := p.tiles },
      denseBody p.rows p.cols fun r c => if priv.contains (r0 + r) then 0 else toF32 (s.sentValue p.layer n (r0 + r) (c0 + c)))]
  sparse ++ dense

/-- A record of this module's own enters its owned pane directly (R305). -/
def State.acceptOwn (s : State) (x : XHdr) (body : List Byte) : State :=
  { s with exch := { s.exch with accepted := s.exch.accepted ++ [⟨x.kind, x.layer, x.pane, x.sender, x.samples, x.carried, body⟩] } }

/-- Under EXCLUDE_SENDER a non-finite gradient of its own makes the module withdraw: every owner of an exchanged layer hears of it (R310). -/
def State.selfExclude (s : State) : State :=
  if s.num PD.EXCH_POLICY = 1 ∧ bit (s.num PD.STEP_REASONS) rsNonfinite ∧ s.step.opened ∧ !s.step.deadlinePassed ∧ !s.exch.selfExcluded then
    let s : State := { s with exch := { s.exch with selfExcluded := true, excludeSent := s.step.contribution.toNat > s.ctime.toNat } }
    let ms := ((s.owners.map (·.2)).eraseDups).filter fun m => m ≠ s.num PD.EXCH_MEMBER
    let s := s.bump PD.EXCH_EXCLUDED
    s.each ms fun s m => s.sendTo m 2 ((s.xhdr 9 0xFFFF).record [])
  else s

/-- The layer's records leave for their owners, once an attempt (R298, R304). -/
def State.sendLayer (s : State) (layer : Nat) : State :=
  let s := s.selfExclude
  match s.layer layer with
  | none => s
  | some l =>
    if s.step.deadlinePassed ∨ s.exch.sentLayers.contains layer ∨ !s.step.opened then s
    else
      let s := s.beginPhase .reduce
      let s := s.each (s.layerOwners layer) fun s p =>
        s.each (s.paneRecords l p.1) fun s r =>
          if p.2 = s.num PD.EXCH_MEMBER then s.acceptOwn r.1 r.2 else s.sendTo p.2 2 (r.1.record r.2)
      { s with exch := { s.exch with sentLayers := s.exch.sentLayers ++ [layer] } }

/-! ## Proposed outlier sets (R193, R313) -/

/-- What a channel without a score reads as: a NaN, which no score is. -/
def noScore : W32 := 0xFFFFFFFF

/-- Scores of an array layer's K channels after a step's a_c; a channel's first score is a_c itself (R193). -/
def LayerNum.nextScores (l : LayerNum) (k : Nat) (alpha : FV) : List (Nat × W32) :=
  if l.quantised = 0 then l.scores
  else (List.range k).foldl (fun m c =>
    let a := kvGet (fun _ => 0) l.stagedA c
    let old := kvGet (fun _ => noScore) l.scores c
    kvSet (fun _ => noScore) m c (if old = noScore then a else toF32 (add32 (f32 old) (mul32 alpha (sub32 (f32 a) (f32 old)))))) l.scores

/-- The set of the next step that a layer's own scores give. -/
def State.proposedSet (s : State) (layer : Nat) : List Nat :=
  match s.layer layer with
  | some l => if l.groutG = 0 then [] else topChannels ((s.num? layer).nextScores l.k (s.fv PD.GROUT_SCORE_ALPHA)) l.k (outliers l)
  | none => []

/-- When FORWARD ends, the proposed sets go to every owner of each grouted array layer's panes (R313). -/
def State.sendSets (s : State) : State :=
  let ls := ((s.plan.map (·.layers)).getD []).zipIdx.filter fun l => l.1.kind = 1 && l.1.groutG ≠ 0
  s.each ls fun s l =>
    let set := s.proposedSet l.2
    let body := set.flatMap fun c => le 4 c
    s.each (((s.layerOwners l.2).map (·.2)).eraseDups) fun s m =>
      if m = s.num PD.EXCH_MEMBER then
        { s with exch := { s.exch with proposals := s.exch.proposals ++ [(l.2, m, set)] } }
      else s.sendTo m 3 (({ s.xhdr 6 l.2 with elements := set.length }).record body)

/-- FORWARD ends with the step's last forward operation; digital forward work that ends later moves the end (R276). -/
def State.forwardEnds (s : State) : State :=
  let rec_ := s.step.phases.find? fun r => r.phase = .forward
  match rec_ with
  | some r =>
    let s : State := { s with step := { s.step with phases := s.step.phases.map fun x => if x.phase = .forward then { x with stop := some s.ctime } else x } }
    if r.stop.isNone then s.sendSets else s
  | none => s

/-- STAGE records for a tile emitted into an OUT tensor (R311). -/
def State.stageOut (s : State) (t : Tensor) (k : Nat) : State :=
  s.each ((s.rows PD.STAGE_TABLE).filter fun r => r.headD 0 = t.id && r.getD 1 0 = 0) fun s r =>
    match r with
    | [_, _, pal, sl, pt] =>
      s.send 2 ⟨s.self.side, pal, sl⟩ (({ s.xhdr 7 0xFFFF with elements := 1, tensor := pt, tile := k }).record (s.tileRead t false k []))
    | _ => s

/-- An IN tensor's tile has arrived in this attempt, or the tensor is no IN tensor (R311). -/
def State.stageReady (s : State) (t : Tensor) (k : Nat) : Bool :=
  !((s.rows PD.STAGE_TABLE).any fun r => r.headD 0 = t.id && r.getD 1 0 = 1) || s.exch.stageIn.contains (t.id, k)

end Sys2Proof.Machine
end

