-- ==== Sys2Proof/Machine/Functions.lean ====
section
/-! DEFINITION. Machine/Functions.lean: ACT, ROW, ATTN, TOPK and HOD (R236-R238, R250-R270, R542). Functions that the spec gives to within a
bound are free values (DESIGN CHOICE, log 7); FP32 expressions round after every operation, left to right (DEDUCED, log 23). -/
namespace Sys2Proof.Machine

/-- A finite FP32 value of a bounded function; a non-finite argument gives a non-finite result of an open kind (R257). -/
def fnVal (tag : Nat) (args : List FV) : FV :=
  if args.any fun a => !a.isFinite then
    (match Config.fnNat (100 + tag) (args.map fun a => (toF32 a).toNat) 0 % 3 with
      | 0 => .nan
      | 1 => .inf false
      | _ => .inf true)
  else
    let w := f32 (Config.fnF32 tag (args.map toF32))
    if w.isFinite then w else .zero

/-- Function of an ACT OPCODE at x, with the gate g of SWIGLU (R256, R258). -/
def State.actFn (s : State) (op : Nat) (x g : FV) : FV :=
  match op with
  | 1 => if !x.isFinite then fnVal 1 [x] else if x.isNeg then .zero else x
  | 2 => fnVal (20 + s.num PD.ACT_GELU_FORM) [x]
  | 3 => fnVal 3 [x]
  | 4 => if !x.isFinite then fnVal 4 [x, g] else mul32 (fnVal 3 [g]) x
  | 5 => fnVal 5 [x]
  | _ => fnVal 6 [x]

/-- Its derivative as evaluated in FP32 (R256). -/
def State.actDer (s : State) (op : Nat) (x : FV) : FV :=
  match op with
  | 2 => fnVal (40 + s.num PD.ACT_GELU_FORM) [x]
  | 3 => fnVal 53 [x]
  | 5 => fnVal 55 [x]
  | _ => fnVal 56 [x]

/-- A product formed exactly, non-finite where a factor is. -/
def prodOr (tag : Nat) (a b : FV) : FV := if a.isFinite && b.isFinite then a.mul b else fnVal tag [a, b]

/-- Applies a function of the element's place to a tile's valid corner. -/
def tileMap (img : List Byte) (f : Nat → Nat → FV) : List (List FV) :=
  (List.range (hdrOf img).rows).map fun r => (List.range (hdrOf img).cols).map fun c => f r c

/-- Outcome of a station's work: status and tiles written. -/
structure Done where
  status : Nat := 0
  tiles : Nat := 0
  deriving DecidableEq, Repr

/-- Runs tiles in order until one stops (R80). -/
def runTiles (n : Nat) (f : State → Nat → State × Option Nat) (s : State) : State × Done :=
  (List.range n).foldl (fun (acc : State × Done) j =>
    if acc.2.status ≠ 0 then acc
    else match f acc.1 j with
      | (s', none) => (s', { tiles := j + 1 })
      | (s', some st) => (s', { status := st, tiles := j })) (s, {})

/-! ## ACT -/

/-- The RELU mask of a tile: one where x > 0 (R250). -/
def reluMask (img : List Byte) : List Byte :=
  let h := { hdrOf img with format := 0x14, tileScale := f32One }
  let row := fun r => (List.range 128).map fun c =>
    let v := tileVal img r c
    b2n (decide (r < h.rows ∧ c < h.cols) && FV.zero.lt v)
  hdrBytes h ++ (List.range 128).flatMap fun r => packRow 1 (row r)

def State.keep (s : State) (k : Kept) : State :=
  let old := s.backward.kept.filter fun x => !(x.layer = k.layer && x.micro = k.micro && x.role = k.role && x.tile = k.tile)
  { s with backward := { s.backward with kept := old ++ [k] } }

/-- ACT forward and derivative, tile by tile (R256-R258). -/
def State.runAct (s : State) (d : Desc) (src dst : Tensor) (aux : Option Tensor) (host : List Byte) : State × Done :=
  runTiles d.count (fun s j =>
    let k := d.srcTile + j
    match s.srcTile src k host with
    | none => (s, some 0x20)
    | some x =>
      let h := hdrOf x
      if d.opcode < 0x80 then
        let g := (aux.bind fun t => s.srcTile t (d.auxTile + j) host)
        if aux.isSome && g.isNone then (s, some 0x20)
        else
          let gi := g.getD []
          let s := s.emitOut dst (d.dstTile + j) h.rows h.cols d.layer h.seqPos h.micro
            (tileMap x fun r c => s.actFn d.opcode (tileVal x r c) (if g.isSome then tileVal gi r c else .zero))
          let s := if d.opcode = 1 then s.keep ⟨d.layer, h.micro, 2, k, reluMask x⟩ else s
          (s, none)
      else
        let op := d.opcode - 0x80
        let kept := fun role => match s.keptTile d.layer h.micro role k with
          | some i => some i
          | none => none
        let miss := fun (s : State) => (s.bump PD.KEPT_MISSING, some 0x05)
        if op = 1 then
          match kept 2 with
          | none => miss s
          | some m =>
            let s := s.emitOut dst (d.dstTile + j) h.rows h.cols d.layer h.seqPos h.micro
              (tileMap x fun r c => if tileCode m 0x14 r c = 1 then tileVal x r c
                else if (tileVal x r c).isFinite then .zero else fnVal 1 [tileVal x r c])
            (s.bump PD.ACT_DERIV_TILES, none)
        else if op = 4 then
          match kept 0, kept 1, aux with
          | some u, some g, some ta =>
            let row := k / (max src.cols 1)
            let col := k % (max src.cols 1)
            let s := s.emitOut dst (row * dst.cols + col) h.rows h.cols d.layer h.seqPos h.micro
              (tileMap x fun r c => prodOr 60 (tileVal x r c) (fnVal 3 [tileVal g r c]))
            let s := s.emitOut ta (row * ta.cols + col) h.rows h.cols d.layer h.seqPos h.micro
              (tileMap x fun r c => prodOr 61 ((tileVal x r c).mul (tileVal u r c)) (fnVal 53 [tileVal g r c]))
            (s.bumpBy PD.ACT_DERIV_TILES 2, none)
          | _, _, _ => miss s
        else
          match kept 0 with
          | none => miss s
          | some i =>
            let s := s.emitOut dst (d.dstTile + j) h.rows h.cols d.layer h.seqPos h.micro
              (tileMap x fun r c => prodOr 62 (tileVal x r c) (s.actDer op (tileVal i r c)))
            (s.bump PD.ACT_DERIV_TILES, none)) s

/-! ## ROW (R260-R263) -/

def FV.recip32 (v : FV) : FV := div32 .one v

/-- The elements of row r over a run of tiles. -/
def wideRow (imgs : List (List Byte)) (r : Nat) : List FV :=
  imgs.flatMap fun i => (List.range (hdrOf i).cols).map fun c => tileVal i r c

/-- Forward row function: y and the frog entry (STAT_A, STAT_B). -/
def rowForward (op : Nat) (eps : FV) (x gamma beta : List FV) : List FV × FV × FV :=
  let n := FV.ofNat (max x.length 1)
  match op with
  | 1 =>
    let ms := div32 (rowSum (x.map fun v => v.mul v)) n
    let rstd := (sqrt32 (add32 ms eps)).recip32
    ((x.zip gamma).map fun p => (mul32 p.1 rstd).mul p.2, .zero, rstd)
  | 2 =>
    let mu := div32 (rowSum x) n
    let var := div32 (rowSum (x.map fun v => let e := sub32 v mu
      e.mul e)) n
    let rstd := (sqrt32 (add32 var eps)).recip32
    ((x.zip (gamma.zip beta)).map fun p => (mul32 (mul32 (sub32 p.1 mu) rstd) p.2.1).add p.2.2, mu, rstd)
  | _ =>
    let z := (x.zip gamma).map fun p => add32 p.1 p.2
    let m := z.foldl FV.max (z.headD .zero)
    let es := z.map fun v => fnVal 70 [sub32 v m]
    let sum := rowSum es
    (es.map fun e => e.div sum, m, sum)

/-- Row derivative: dx, and the gain contributions x̂ rounded to BF16 with dy (R261, R262). -/
def rowBackward (op : Nat) (x dy gamma : List FV) (a b : FV) : List FV × List FV :=
  let n := FV.ofNat (max x.length 1)
  match op with
  | 3 =>
    let y := (x.zip gamma).map fun p => div32 (fnVal 70 [sub32 (add32 p.1 p.2) a]) b
    let sum := rowSum ((dy.zip y).map fun p => p.1.mul p.2)
    ((y.zip dy).map fun p => p.1.mul (sub32 p.2 sum), [])
  | _ =>
    let xh := x.map fun v => mul32 (sub32 v a) b
    let g := (gamma.zip dy).map fun p => mul32 p.1 p.2
    let c1 := div32 (rowSum ((g.zip xh).map fun p => p.1.mul p.2)) n
    let c0 := if op = 2 then div32 (rowSum g) n else .zero
    ((g.zip xh).map fun p => b.mul (sub32 (sub32 p.1 c0) (mul32 p.2 c1)), xh.map fun v => bf16.round v)

def State.frogRun (s : State) (layer micro row head : Nat) : Option FrogRun :=
  s.backward.frog.find? fun f => f.layer = layer ∧ f.micro = micro ∧ f.tileRow = row ∧ f.head = head

/-- Live bytes of a die's frog. -/
def frogBytes (l : List FrogRun) (die : Nat) : Nat :=
  8 * total ((l.filter fun f => f.die = die && !f.spilled).map fun f => f.entries.length)

/-- Oldest runs of a die move to the stack reservation until the rest fits 8 MiB (R263); fuel bounds the moves. -/
def spillFrog (die : Nat) : Nat → List FrogRun → Nat → List FrogRun × Nat
  | 0, l, n => (l, n)
  | fuel + 1, l, n =>
    if frogBytes l die ≤ 2 ^ 23 then (l, n)
    else match l.findIdx? fun f => f.die = die && !f.spilled with
      | none => (l, n)
      | some i => spillFrog die fuel (l.modify i fun f => { f with spilled := true }) (n + 1)

/-- A run is written; it replaces the run of the same place, and older runs spill (R263). -/
def State.putFrog (s : State) (f : FrogRun) : State :=
  let l := s.backward.frog.filter (fun x => !(x.layer = f.layer && x.micro = f.micro && x.tileRow = f.tileRow && x.head = f.head)) ++ [f]
  let live : Nat := 8 * total ((l.filter fun x => x.die = f.die).map fun x => x.entries.length)
  let s : State := { s with frogMost := kvMod (fun _ => 0) s.frogMost f.die (max live) }
  let (l, n) := spillFrog f.die l.length l 0
  { s with backward := { s.backward with frog := l } }.bumpBy PD.FROG_SPILL_RUNS n

/-- Spilled runs return in the reverse of their spill order as space frees (R263). -/
def returnFrog (die : Nat) : Nat → List FrogRun → List FrogRun
  | 0, l => l
  | fuel + 1, l =>
    match (l.zipIdx.filter fun p => p.1.die = die && p.1.spilled).getLast? with
    | none => l
    | some (f, i) =>
      if frogBytes l die + 8 * f.entries.length ≤ 2 ^ 23 then returnFrog die fuel (l.set i { f with spilled := false }) else l

/-- ROW: one whole tile row. -/
def State.runRow (s : State) (d : Desc) (src dst aux : Tensor) (die : Nat) (host : List Byte) : State × Done :=
  let (imgs, fail) := uptoFail ((List.range d.count).map fun j => s.srcTile src (d.srcTile + j) host)
  let (gs, gfail) := uptoFail ((List.range aux.cols).map fun j => s.srcTile aux (d.auxTile + j) host)
  match fail, gfail with
  | some j, _ => (s, { status := 0x20, tiles := j })
  | none, some _ => (s, { status := 0x20 })
  | none, none =>
    let h := hdrOf (imgs.headD [])
    let tileRow := d.srcTile / (max src.cols 1)
    let op := d.opcode % 0x80
    let gamma := wideRow gs 0
    let beta := wideRow gs 1
    let out := fun (s : State) (ys : List (List FV)) =>
      s.each imgs.zipIdx fun s p =>
        let lo := 128 * p.2
        s.emitOut dst (d.dstTile + p.2) h.rows (hdrOf p.1).cols d.layer h.seqPos h.micro (ys.map fun y => (y.drop lo).take (hdrOf p.1).cols)
    if d.opcode < 0x80 then
      let rs := (List.range h.rows).map fun r => rowForward op (s.fv PD.ROW_EPS) (wideRow imgs r) gamma beta
      let s := (out s (rs.map (·.1))).bumpBy PD.ROW_ROWS h.rows
      let s := s.putFrog ⟨d.layer, h.micro, tileRow, 0, die, false, false, rs.map fun r => (toF32 r.2.1, toF32 r.2.2), false⟩
      (s, { tiles := d.count })
    else
      match s.frogRun d.layer h.micro tileRow 0 with
      | none => (s.bump PD.FROG_MISSING, { status := 0x05 })
      | some f =>
        let xs := imgs.zipIdx.map fun p => s.keptTile d.layer h.micro 0 (d.srcTile + p.2)
        if xs.any (·.isNone) then (s.bump PD.KEPT_MISSING, { status := 0x05 })
        else
          let s := if f.spilled then s.bump PD.FROG_WAITS else s
          let xi := xs.map (·.getD [])
          let rs := (List.range h.rows).map fun r =>
            let (a, b) := (f.entries[r]?).getD (0, 0)
            let dy := wideRow imgs r
            (dy, rowBackward op (wideRow xi r) dy gamma (f32 a) (f32 b))
          let s := (out s (rs.map (·.2.1))).bumpBy PD.ROW_ROWS h.rows
          let add := fun (m : List (Nat × Bed) × BStat) (e : Nat) (v : FV) =>
            let (b, st) := (bedGet m.1 e).promote v false false
            (bedSet m.1 e b, m.2.add st)
          let g0 := kvGet (fun _ => []) s.backward.gain d.layer
          let (g1, st) : List (Nat × Bed) × BStat := if op = 3 then (g0, {}) else rs.foldl (fun m r => (r.1.zip r.2.2).zipIdx.foldl (fun m p =>
            let m := add m p.2 (p.1.1.mul p.1.2)
            if op = 2 then add m (2 ^ 20 + p.2) p.1.1 else m) m) (g0, {})
          let s := s.countBeds st
          let s : State := { s with backward := { s.backward with gain := kvSet (fun _ => []) s.backward.gain d.layer g1 } }
          (s, { tiles := d.count })

/-! ## ATTN (R265-R270) -/

/-- Score of a query row and a key in FP32. -/
def State.score (s : State) (q k : List FV) : FV :=
  let dot := ((q.zip k).foldl (fun (m : FV) p => m.add (p.1.mul p.2)) FV.zero).r32
  mul32 dot (s.fv PD.ATTN_SCALE)

def log2e : FV := (fp32.decode 0x3FB8AA3B)

/-- Integer at or above a value. -/
def FV.ceilInt : FV → Int
  | .fin sg n d => if sg then -((n / d : Nat) : Int) else (ceilDiv n d : Nat)
  | _ => 0

/-- One query row over key tiles: z, l and output sums; weights dropped (R267). Keys are (score inputs k, value v). -/
structure AttnRow where
  z : Option Int := none
  l : FV := .zero
  o : List FV := []
  dropped : Nat := 0
  deriving DecidableEq, Repr

def State.attnTile (s : State) (q : List FV) (acc : AttnRow) (keys : List (List FV × List FV)) : AttnRow :=
  if keys.isEmpty then acc
  else
    let ss := keys.map fun kv => s.score q kv.1
    let es := ss.map fun x => mul32 x log2e
    let zt := (es.foldl FV.max (es.headD .zero)).ceilInt
    let acc := match acc.z with
      | none => { acc with z := some zt, o := List.replicate 128 .zero }
      | some z =>
        if z < zt then
          if 64 ≤ zt - z then { acc with z := some zt, l := .zero, o := acc.o.map (fun _ => .zero), dropped := acc.dropped + 1 }
          else { acc with z := some zt, l := acc.l.scale (z - zt), o := acc.o.map (·.scale (z - zt)) }
        else acc
    let z := acc.z.getD zt
    (es.zip keys).foldl (fun (a : AttnRow) p =>
      let w := bf16.round (fnVal 80 [sub32 p.1 (FV.ofInt z)])
      if w.lt (FV.one.scale (-64)) then { a with dropped := a.dropped + 1 }
      else { a with l := a.l.add w, o := (a.o.zip p.2.2).map fun q => q.1.add (w.mul q.2) }) acc

/-- Rows of a tile as vectors of 128. -/
def tileRowVec (img : List Byte) (r : Nat) : List FV := (List.range 128).map fun c => tileVal img r c

/-- Key tiles of a descriptor: K and V images, tile row and how many of its keys count. -/
def State.attnKeys (s : State) (d : Desc) (aux : Tensor) (heads : Nat) (host : List Byte) : List (Option (List Byte × List Byte × Nat × Nat)) :=
  (List.range (ceilDiv d.length 128)).map fun i =>
    let k := d.auxTile + i * aux.cols
    match s.srcTile aux k host, s.srcTile aux (k + heads) host with
    | some a, some b => some (a, b, k / (max aux.cols 1), min 128 (d.length - 128 * i))
    | _, _ => none

/-- ATTN 0x01. -/
def State.runAttn (s : State) (d : Desc) (src dst aux : Tensor) (heads : Nat) (host : List Byte) : State × Done :=
  let (keys, kf) := uptoFail (s.attnKeys d aux heads host)
  if kf.isSome then (s, { status := 0x20 })
  else
    let head := d.srcTile % (max src.cols 1)
    let (s, r) := runTiles d.count (fun s m =>
      match s.srcTile src (d.srcTile + m * src.cols) host with
      | none => (s, some 0x20)
      | some qi =>
        let h := hdrOf qi
        let rows := (List.range h.rows).map fun r =>
          let pos := d.seqPos + 128 * m + r
          let q := tileRowVec qi r
          keys.foldl (fun (acc : AttnRow) kt =>
            let ks := ((List.range (min kt.2.2.2 (hdrOf kt.1).rows)).filter fun j => 128 * kt.2.2.1 + j ≤ pos).map fun j =>
              (tileRowVec kt.1 j, tileRowVec kt.2.1 j)
            s.attnTile q acc ks) {}
        let ls := rows.map fun a => a.l.r32
        let vals := (rows.zip ls).map fun p => if p.1.z.isNone then List.replicate 128 .zero else p.1.o.map fun o => o.div p.2
        let entries := (rows.zip ls).map fun p => match p.1.z with
          | none => ((0 : W32), (0 : W32))
          | some z => (toF32 (FV.ofInt z), toF32 p.2)
        let s := s.emitOut dst (d.dstTile + m * dst.cols) h.rows 128 d.layer (d.seqPos + 128 * m) h.micro vals
        let s := s.bumpBy PD.ATTN_DROPPED (total (rows.map (·.dropped)))
        (s.putFrog ⟨d.layer, h.micro, (d.srcTile + m * src.cols) / (max src.cols 1), head, head % 8, false, false, entries, false⟩, none)) s
    (s, r)

/-- Adds a vector of terms, each times w, into row r of the t-th tile of a range. -/
def addVec (acc : List (Nat × Bed) × BStat) (t r : Nat) (w : FV) (vs : List FV) : List (Nat × Bed) × BStat :=
  vs.zipIdx.foldl (fun (a : List (Nat × Bed) × BStat) x =>
    let e := elemNum t r x.2
    let (b, st) := (bedGet a.1 e).promote (w.mul x.1) false false
    (bedSet a.1 e b, a.2.add st)) acc

/-- Contributions of one ATTN 0x81 descriptor: its pass is the column of DST_TILE (R269). -/
def State.attnGrad (s : State) (d : Desc) (src dst aux : Tensor) (heads : Nat) (host : List Byte) : Work × Option Nat :=
  let h := d.srcTile % (max src.cols 1)
  let keyPass : Bool := heads ≤ d.dstTile % (max dst.cols 1)
  let (keys, kf) := uptoFail (s.attnKeys d aux heads host)
  let (qs, qf) := uptoFail ((List.range d.count).map fun m =>
    let k := d.srcTile + m * src.cols
    match s.srcTile src k host, s.srcTile aux (k / (max src.cols 1) * aux.cols + h) host with
    | some a, some b => some (a, b, k, m)
    | _, _ => none)
  if kf.isSome ∨ qf.isSome then ({ fail := some (qf.getD 0) }, none)
  else
    let ops := qs.map fun q =>
      (q, s.keptTile d.layer (hdrOf q.1).micro 3 q.2.2.1, s.frogRun d.layer (hdrOf q.1).micro (q.2.2.1 / (max src.cols 1)) h)
    if ops.any fun o => o.2.2.isNone then ({}, some 1)
    else if ops.any fun o => o.2.1.isNone then ({}, some 2)
    else
      let r := ops.foldl (fun (acc : List (Nat × Bed) × BStat) o =>
        let (dO, qi, _, m) := o.1
        let oi := o.2.1.getD []
        let fr := o.2.2
        (List.range (hdrOf dO).rows).foldl (fun (acc : List (Nat × Bed) × BStat) r =>
          let (za, lb) := ((fr.bind fun f => f.entries[r]?)).getD (0, 0)
          if za = 0 ∧ lb = 0 then acc
          else
            let pos := d.seqPos + 128 * m + r
            let q := tileRowVec qi r
            let g := tileRowVec dO r
            let dd := rowSum ((g.zip (tileRowVec oi r)).map fun p => p.1.mul p.2)
            keys.zipIdx.foldl (fun (acc : List (Nat × Bed) × BStat) kt =>
              let ((ki, vi, row, n), ti) := kt
              ((List.range (min n (hdrOf ki).rows)).filter fun j => 128 * row + j ≤ pos).foldl (fun (acc : List (Nat × Bed) × BStat) j =>
                let k := tileRowVec ki j
                let v := tileRowVec vi j
                let p := div32 (fnVal 80 [sub32 (mul32 (s.score q k) log2e) (f32 za)]) (f32 lb)
                let dp := ((g.zip v).foldl (fun (m : FV) x => m.add (x.1.mul x.2)) FV.zero).r32
                let ds := bf16.round (mul32 (mul32 p (sub32 dp dd)) (s.fv PD.ATTN_SCALE))
                if keyPass then addVec (addVec acc (2 * ti) j ds q) (2 * ti + 1) j (bf16.round p) g
                else addVec acc m r ds k) acc) acc) acc) ([], {})
      let hd := hdrOf ((qs.head?.map (·.1)).getD [])
      let outs := if keyPass then
          keys.zipIdx.flatMap fun kt =>
            let k := (d.dstTile / (max dst.cols 1) + kt.2) * dst.cols + heads + h
            [(2 * kt.2, k, (hdrOf kt.1.1).rows, 128), (2 * kt.2 + 1, k + heads, (hdrOf kt.1.1).rows, 128)]
        else qs.map fun q => (q.2.2.2, d.dstTile + q.2.2.2 * dst.cols, (hdrOf q.1).rows, 128)
      ({ beds := r.1, st := r.2, outs := outs, seqPos := d.seqPos, micro := hd.micro, layer := d.layer }, none)

/-! ## TOPK (R236-R238) -/

/-- One result's order: higher value first, lower position on a tie. -/
def topkBefore (a b : FV × Nat) : Bool := b.1.lt a.1 || (!a.1.lt b.1 && a.2 ≤ b.2)

/-- A result slot that no element fills. -/
def topkFill : List Nat := [0x7FC00000, 0xFFFFFFFF]

/-- One row of a TOPK result: values and positions, then fill (R237, R238). -/
def topkRow (k : Nat) (ps : List (FV × Nat)) : List Nat :=
  let best := (sortBy topkBefore (ps.filter fun p => !p.1.isNan)).take k
  let got : List Nat := best.flatMap fun p => [fp32.encode p.1, p.2]
  got ++ (List.replicate (k - best.length) topkFill).flatten

def State.runTopk (s : State) (d : Desc) (src dst : Tensor) (host : List Byte) : State × Done :=
  let (imgs, fail) := uptoFail ((List.range d.count).map fun j => s.srcTile src (d.srcTile + j) host)
  let rows := (hdrOf (imgs.headD [])).rows
  let odd := imgs.findIdx? fun i => (hdrOf i).rows ≠ rows
  match fail, odd with
  | some j, none => (s, { status := 0x20, tiles := j })
  | _, some j => (s, { status := 0x20, tiles := j })
  | none, none =>
    let k := 64 * dst.cols
    let h := hdrOf (imgs.headD [])
    let row := fun r => imgs.zipIdx.flatMap fun p => (List.range (hdrOf p.1).cols).map fun c => (tileVal p.1 r c, d.seqPos + 128 * p.2 + c)
    let nans := total ((List.range rows).map fun r => ((row r).filter fun p => p.1.isNan).length)
    let rs := (List.range rows).map fun r => topkRow k (row r)
    let s := s.each (List.range dst.cols) fun s t =>
      let hd := s.outHdr dst (d.dstTile + t) 0x12 rows 128 d.layer h.seqPos h.micro
      let body := (List.range 128).flatMap fun r => if r < rows then packRow 32 ((((rs[r]?).getD []).drop (128 * t)).take 128) else zeros 512
      s.tileWrite dst false (d.dstTile + t) (hdrBytes hd ++ body)
    let s := (s.bumpBy PD.TOPK_ROWS rows).bumpBy PD.TOPK_NAN nans
    let s := if nans = 0 then s else (s.bumpBy PD.Q_NONFINITE nans).reason rsNonfinite
    (s, { tiles := d.count })

/-! ## HOD (R69, R254, R395, R542) -/

/-- Moves tiles or bytes; a tile from host memory is checked against the place it is written to (DEDUCED, log 24). -/
def State.runHod (s : State) (d : Desc) (src dst : Option Tensor) (host : List Byte) : State × Done :=
  let out := fun (s : State) (o : Nat) (bs : List Byte) => s.emit (.hostWrite d.hostRegion (d.hostOffset + o) bs)
  if d.opcode = 2 then
    let bytes := match src with
      | some t => (s.home t.id false).map (fun h => s.homeRead h (d.srcTile * tileSize t.format) d.byteLen host) |>.getD []
      | none => padTo d.byteLen host
    let s := match dst with
      | some t => (s.home t.id false).map (fun h => s.homeWrite h (d.dstTile * tileSize t.format) bytes) |>.getD s
      | none => out s 0 bytes
    (s, {})
  else
    let size := match src, dst with
      | some t, _ => tileSize (s.formatOf t)
      | none, some t => tileSize (s.formatOf t)
      | none, none => 0
    let (s, r) := runTiles d.count (fun s j =>
      let img := match src with
        | some t => s.srcTile t (d.srcTile + j) host
        | none =>
          let i := padTo size (sub host (size * j) size)
          match dst with
          | some t =>
            let k := d.dstTile + j
            if hdrOk i (s.formatOf t) (k / (max t.cols 1)) (k % (max t.cols 1)) then some i else none
          | none => some i
      match img with
      | none => (s, some 0x20)
      | some i => match dst with
        | some t => (s.tileWrite t false (d.dstTile + j) i, none)
        | none => (out s (size * j) i, none)) s
    let s := if d.opcode = 3 then s.bumpBy PD.CKPT_SPILL_BYTES (size * r.tiles) else s
    (if d.opcode = 4 then s.bumpBy PD.CKPT_PREFETCH_BYTES (size * r.tiles) else s, r)

end Sys2Proof.Machine
end

