-- ==== Sys2Proof/Machine/Arrays.lean ====
section
/-! DEFINITION. Machine/Arrays.lean: the array commands: operations, strikes, digital substitution, weight writes (R102, R105, R115, R124-R148,
R188, R196, R202, R252). -/
namespace Sys2Proof.Machine

/-! ## Operations (R102, R144) -/

/-- The boundary's placement is not complete, or a cell that it changes has not been rewritten and verified (R113). -/
def State.placeOpen (s : State) : Bool := s.placeDue ≠ 0 || (s.placing && !s.arrays.writes.isEmpty)

/-- FORWARD work may enter: WRITEBACK has ended, the boundary's placement is made and written, and no swap is due (R113, R277). -/
def State.forwardReady (s : State) : Bool :=
  !s.step.updating && !s.step.writing && !s.placeOpen && s.cal.idle ≠ .queued

/-- FORWARD enters: the time that it has waited for a placement is counted (R113). -/
def State.placeWaited (s : State) : State :=
  let s : State := { s with placing := false }
  match s.placeWait with
  | some t => { s.bumpBy PD.PLACE_WAIT_NS (s.course.now - t) with placeWait := none }
  | none => s

/-- The micro-batch of a FWD descriptor: that of the oldest input in the lintel at its tile, else the one its tile's header names (DEDUCED, log 27). -/
def State.descMicro (s : State) (d : Desc) : Nat :=
  match s.arrays.lintel.find? fun x => x.layer = d.layer ∧ x.tile = d.srcTile with
  | some x => x.micro
  | none => match s.tensor d.src with
    | some t => (hdrOf (s.tileRead t false d.srcTile [])).micro
    | none => 0

/-- Entered array descriptors of a layer and micro-batch: stream, entry, descriptor. -/
def State.opDescs (s : State) (layer micro : Nat) : List (Nat × Entered × Desc) :=
  s.streams.flatMap fun p => (p.2.entered.map fun e => (p.1, e, descOf e.desc)).filter fun x =>
    (s.streamDef p.1).any (fun df => df.station = stFwd) && x.2.2.opcode = 1 && x.2.2.layer = layer && s.descMicro x.2.2 = micro

/-- Forward copies of a layer and micro-batch that ran on the arrays (R252). -/
def State.fwdCopies (s : State) (layer micro : Nat) : List Fwd :=
  s.backward.forward.filter fun f => f.micro = micro && (descOf f.desc).layer = layer && (descOf f.desc).opcode = 1
    && (s.streamDef f.stream).any fun df => df.station = stFwd

/-- Sets an operation going from a part: its strikes join the cells' sequences. -/
def State.startPart (s : State) (o : SeqOp) (part : Nat) : State :=
  let s : State := { s with arrays := { s.arrays with op := some ⟨o.layer, o.micro, o.leaf, o.sect, o.recompute, part⟩ } }
  if o.recompute then s.each (s.backward.replays.filter fun r => r.layer = o.layer ∧ r.micro = o.micro) fun s r => s.addStrikes r.stream r.index (descOf r.desc)
  else s.each (s.opDescs o.layer o.micro) fun s x => s.addStrikes x.1 x.2.1.index x.2.2

/-- The next operation that strikes. -/
def State.nextOp (s : State) : Option (Nat × SeqOp) := (s.opsFrom s.arrays.seqPos).head?

/-- A cold layer's input is read by a scout pass before its first quantisation (R187). -/
def State.scoutFor (s : State) (o : SeqOp) : State :=
  let l := s.num? o.layer
  if l.cold ∧ !o.recompute ∧ o.sect = 0 ∧ l.repeats = 0 ∧ s.hasLintel o.layer o.micro then
    match (s.plan.bind fun p => p.tensors.find? fun t => s.inputOf t = some o.layer) with
    | some t => s.scout t o.layer o.micro
    | none => s
  else s

/-- A recompute operation has its inputs: every earlier layer of its segment has been recomputed for the micro-batch (R252). -/
def State.replayReady (s : State) (o : SeqOp) : Bool :=
  match (segments s.segStarts ((s.plan.map fun p => p.layers.length).getD 0)).find? fun g => g.1 ≤ o.layer && o.layer ≤ g.2 with
  | some g => ((List.range (o.layer - g.1)).map fun i => g.1 + i).all fun i =>
      s.backward.replayed.contains (i, o.micro) || (s.backward.forward.all fun f => (descOf f.desc).layer ≠ i || f.micro ≠ o.micro)
  | none => true

/-- ARRAY_OPERATION_START (R102): the next operation of the sequence starts when no other is in progress and its own write has been verified;
until then its rows are what WEIGHT_WRITE still has to write. -/
def execArrayOperationStart (s : State) : Res :=
  if !s.mode.running ∨ !s.step.attempt ∨ s.step.deadlinePassed ∨ s.arrays.op.isSome ∨ !(s.forwardReady ∨ s.step.opened) then .next s
  else match s.nextOp with
    | none => .next s
    | some (pos, o) =>
      let s : State := { s with arrays := { s.arrays with seqPos := pos } }
      let s := s.scoutFor o
      if !s.onArrays o.layer ∨ (o.recompute ∧ !s.replayReady o) then .next s
      else
        let s := s.load o 0
        if !s.loadDone o then .next s
        else
          let s : State := if o.recompute then
              { s with backward := { s.backward with
                  replays := s.backward.replays.filter (fun r => !(r.layer = o.layer && r.micro = o.micro && o.sect = 0))
                    ++ (if o.sect = 0 then (s.fwdCopies o.layer o.micro).map fun f => ⟨o.layer, o.micro, f.stream, f.index, f.desc, []⟩ else []) } }
            else s
          .next (s.startPart o 0).preload

/-- Every token tile row of the micro-batch has descriptors that cover the whole contraction, REFERENCE ones included (R144, R210). -/
def State.opCovered (s : State) (o : SeqOp) : Bool :=
  match s.layer o.layer, s.plan with
  | some l, some p =>
    let refs := (s.backward.forward.filter fun f => f.micro = o.micro).map fun f => descOf f.desc
    let ds := (s.opDescs o.layer o.micro).map (fun x => x.2.2) ++ refs.filter fun d => d.layer = o.layer && d.opcode = 2
    let row := fun (d : Desc) => d.srcTile / (max (((s.tensor d.src).map (·.cols)).getD 1) 1)
    let rows := (ds.map row).eraseDups
    o.recompute || (ceilDiv p.microTokens 128 ≤ rows.length
      && rows.all fun r => decide (l.k ≤ total ((ds.filter fun d => row d = r).map (·.length))))
  | _, _ => true

/-- The values that the operation's outputs round to: for every destination its groups and descriptors together (R202). -/
def State.opOutputs (s : State) (layer micro : Nat) : List FV :=
  match s.layer layer with
  | none => []
  | some l =>
    let ds := s.opDescs layer micro
    let keys := (ds.map fun x => (x.2.2.dst, x.2.2.dstTile, x.1)).eraseDups
    keys.flatMap fun k =>
      match s.tensor k.1 with
      | none => []
      | some t =>
        let mine := ds.filter fun x => x.2.2.dst = k.1 && x.2.2.dstTile = k.2.1 && x.1 = k.2.2
        let gs := (s.stream k.2.2).groups.filter fun g => g.layer = layer && g.dstTile = k.2.1
        let start := gs.foldl (fun m g => mergeBeds m g.beds) ([] : List (Nat × Bed))
        let beds := mine.foldl (fun m x =>
          let m := mergeBeds m x.2.1.beds
          match s.tensor x.2.2.src with
          | some src => mergeBeds m (s.groutWork x.2.2 l src micro).1
          | none => m) start
        let rows := ((mine.head?.map fun x => (hdrOf ((s.opImages false micro x.2.2).1.headD [])).rows)).getD 0
        let f := if (s.inputOf t).isSome then 0x10 else s.formatOf t
        (List.range (ceilDiv l.n 128)).flatMap fun tn =>
          let cols := validOf l.n tn
          let img := (emitTile ⟨f, rows, cols, layer, 0, 0, 0, micro, 0, f32One⟩ (bedRows beds tn rows cols) true).1
          (List.range rows).flatMap fun r => (List.range cols).map fun c => tileVal img r c

/-- A recomputed output stands where the layers of the segment read it: as their SRC or AUX input, and as an attention layer's O (R250, R252). -/
def State.keepOutput (s : State) (layer micro dst k : Nat) (img : List Byte) : State :=
  let ds := (s.backward.forward.filter fun f => f.micro = micro).map fun f => descOf f.desc
  let s := s.each ((ds.filter fun d => d.src = dst).map (·.layer)).eraseDups fun s l => s.keep ⟨l, micro, 0, k, img⟩
  let s := s.each ((ds.filter fun d => d.aux = dst).map (·.layer)).eraseDups fun s l => s.keep ⟨l, micro, 1, k, img⟩
  if (s.layer layer).any fun l => l.kind = 5 then s.keep ⟨layer, micro, 3, k, img⟩ else s

/-- The image in which a recomputed output is kept: BF16 for an array layer's input, else the tensor's format in force (R253). -/
def State.keepFormat (s : State) (t : Tensor) : Nat := if (s.inputOf t).isSome then 0x10 else s.formatOf t

/-- The lintel as a recomputed operation's grout work reads it: its kept BF16 inputs (R253). -/
def State.keptLintel (s : State) (layer micro : Nat) : State :=
  let ks := (s.backward.kept.filter fun k => k.layer = layer ∧ k.micro = micro ∧ k.role = 0 ∧ (hdrOf k.image).format = 0x10).map fun k =>
    (⟨layer, micro, k.tile, k.image⟩ : Lintel)
  { s with arrays := { s.arrays with lintel := ks } }

/-- The outputs of a recomputed array operation are kept (R252). -/
def State.endReplay (s : State) (o : SeqOp) : State :=
  match s.layer o.layer with
  | none => s
  | some l =>
    let rs := s.backward.replays.filter fun r => r.layer = o.layer ∧ r.micro = o.micro
    let keys := (rs.map fun r => ((descOf r.desc).dst, (descOf r.desc).dstTile)).eraseDups
    let s' := s.keptLintel o.layer o.micro
    let s := s.each keys fun s k =>
      match s.tensor k.1 with
      | none => s
      | some t =>
        let mine := rs.filter fun r => (descOf r.desc).dst = k.1 ∧ (descOf r.desc).dstTile = k.2
        let beds := mine.foldl (fun m r =>
          let m := mergeBeds m r.beds
          match s.tensor (descOf r.desc).src with
          | some src => mergeBeds m (s'.groutWork (descOf r.desc) l src o.micro).1
          | none => m) ([] : List (Nat × Bed))
        let rows := ((mine.head?.map fun r => (hdrOf ((s.opImages true o.micro (descOf r.desc)).1.headD [])).rows)).getD 0
        s.each (List.range (ceilDiv l.n 128)) fun s tn =>
          let cols := validOf l.n tn
          let img := (emitTile (s.outHdr t (k.2 + tn) (s.keepFormat t) rows cols o.layer 0 o.micro) (bedRows beds tn rows cols) true).1
          s.keepOutput o.layer o.micro k.1 (k.2 + tn) img
    let s := s.bump PD.RECOMPUTE_OPS
    { s with backward := { s.backward with
        replays := s.backward.replays.filter fun r => !(r.layer = o.layer && r.micro = o.micro)
        replayed := s.backward.replayed ++ [(o.layer, o.micro)] } }

/-- A forward operation that is no longer repeated: its GROUT partials have joined its descriptors' beds, and its lintel goes (R70, R186). -/
def State.endForward (s : State) (o : SeqOp) : State :=
  let s := s.setLayerNum o.layer { s.num? o.layer with repeats := 0 }
  let s := match s.layer o.layer with
    | some l => s.each (s.opDescs o.layer o.micro) fun s x => match s.tensor x.2.2.src with
      | some src =>
        let (g, st) := s.groutWork x.2.2 l src o.micro
        (s.countBeds st).putBeds false x.1 x.2.1.index fun m => mergeBeds m g
      | none => s
    | none => s
  { s with arrays := { s.arrays with lintel := s.arrays.lintel.filter fun x => !(x.layer = o.layer && x.micro = o.micro) } }

/-- The whole operation has ended: the sequence moves on. -/
def State.nextInSequence (s : State) (o : SeqOp) : State :=
  let s : State := { s with arrays := { s.arrays with op := none, halves := [], seqPos := s.arrays.seqPos + 1 } }
  let s := if !o.recompute ∧ (s.opsFrom s.arrays.seqPos).all (fun x => x.2.recompute) then s.forwardEnds else s
  s.preload

/-- The Plumb's forward check at the end of an array operation; true when the operation runs again, which one without a lintel
never does (R186, R188, R196, R202). -/
def State.opPlumb (s : State) (o : SeqOp) : Bool × State :=
  let again := (s.num? o.layer).repeats ≠ 0
  let (w, s) := s.plumb false o.micro o.layer (l2norm (s.opOutputs o.layer o.micro)) again
  if !w then (false, s)
  else
    let (r, s) := s.widen o.micro o.layer 3 (s.rung o.layer + 1)
    if !s.hasLintel o.layer o.micro then (false, s)
    else match r, (s.plan.bind fun p => p.tensors.find? fun t => s.inputOf t = some o.layer) with
    | some _, some t =>
      let s := s.restartOp o.layer o.micro
      (true, s.each ((s.arrays.lintel.filter fun x => x.layer = o.layer ∧ x.micro = o.micro).map (·.tile)) fun s k =>
        s.quantInput t o.layer o.micro k (s.num? o.layer).set)
    | _, _ => (false, s)

/-- ARRAY_OPERATION_END (R144): every cell has finished, and every tile of the micro-batch has had its strikes. Another consecutive section of
a widened layer follows on the same cells (R116); the last section's end runs the Plumb check (R188). -/
def execArrayOperationEnd (s : State) : Res :=
  match s.arrays.op with
  | none => .next s
  | some a =>
    let o := a.seq
    match s.opPlace o, s.layer o.layer with
    | some p, some l =>
      if (s.opCells o).any (fun g => !(s.cell g).todo.isEmpty) ∨ !s.opCovered o then .next s
      else if a.part + 1 < partsOf l p (s.wFormat o.layer) then
        let s := s.load o (a.part + 1)
        .next (if s.loadDone o then s.startPart o (a.part + 1) else s)
      else
        let more := (s.opsFrom (s.arrays.seqPos + 1)).head?.any fun n => n.2.layer = o.layer && n.2.micro = o.micro && n.2.recompute == o.recompute
        if more then .next (s.nextInSequence o)
        else if o.recompute then .next ((s.endReplay o).nextInSequence o)
        else
          match s.opPlumb o with
          | (true, s) => .next s
          | (false, s) => .next ((s.endForward o).nextInSequence o)
    | _, _ => .next s

/-! ## Pair conversions (R105) -/

/-- Codes used in place of one 128-row half enter the pair statistics of an AUTO layer. -/
def State.pairStat (s : State) (l : Layer) (o : ArrayOp) (g used : Nat) (h : StrikePos) (rest : List StrikePos) (codes : List Nat) : State :=
  if !s.autoDense l ∨ o.recompute ∨ h.half ∨ h.extra then s
  else
    let r := s.rowMode o.layer
    if h.rows = 256 then s.setRowMode { r with pairs := r.pairs + used }
    else if h.rows ≠ 128 then s
    else
      let row := h.row / 256 * 256
      let key := fun (x : HalfCodes) => x.cell = g && x.stream = h.stream && x.index = h.index && x.token = h.token && x.row = row && x.phase = h.phase
      match s.arrays.halves.find? key with
      | some x =>
        let overs := ((List.range used).filter fun b => 255 < (x.codes[b]?).getD 0 + (codes[b]?).getD 0).length
        { s with arrays := { s.arrays with halves := s.arrays.halves.filter fun x => !key x } }.setRowMode
          { r with pairs := r.pairs + used, overs := r.overs + overs }
      | none =>
        if rest.any fun e => e.stream = h.stream && e.index = h.index && e.token = h.token && e.phase = h.phase && e.row / 256 * 256 = row
            && e.row ≠ h.row && !e.half && !e.extra then
          { s with arrays := { s.arrays with halves := s.arrays.halves ++ [⟨g, h.stream, h.index, h.token, row, h.phase, codes⟩] } }
        else s.setRowMode { r with pairs := r.pairs + used }

/-- Codes are accepted, with their part in the layer's statistics. -/
def State.acceptCodes (s : State) (o : ArrayOp) (l : Layer) (cp : CellPlace) (g used : Nat) (h : StrikePos) (phases : Nat) (codes : List Nat)
    (rest : List StrikePos) : State :=
  (s.pairStat l o g used h rest codes).accept o l cp g h phases codes rest

/-! ## Strikes (R124-R135) -/

/-- Replays take the first slot that is not fixed, after those that wait already (R21, R125). -/
def insertReplay (todo new : List StrikePos) : List StrikePos :=
  let fixed := todo.take 2
  let rest := todo.drop 2
  let waiting := rest.takeWhile fun e => e.half || e.retried
  fixed ++ waiting ++ new ++ rest.drop waiting.length

/-- A failed strike and the cell's remaining strikes of the tile are substituted; the two slots already fixed complete normally (R125, R135). -/
def toDigital (h : StrikePos) (rest : List StrikePos) : List StrikePos :=
  { h with digital := true } :: rest.zipIdx.map fun e =>
    if 2 ≤ e.2 ∧ e.1.stream = h.stream ∧ e.1.index = h.index then { e.1 with digital := true } else e.1

/-- A strike whose codes no level settles adds nothing; its step is voted VOID (R479, DEDUCED, log 28). -/
def State.dropStrike (s : State) (o : ArrayOp) (l : Layer) (cp : CellPlace) (g : Nat) (h : StrikePos) (phases : Nat) (rest : List StrikePos) : State :=
  s.accept o l cp g h phases [] rest

/-- Digital substitution of a strike and the rest of its tile begins at block level, where the gradient die can serve it (R135, R136). -/
def State.substitute (s : State) (o : ArrayOp) (l : Layer) (cp : CellPlace) (g : Nat) (h : StrikePos) (phases : Nat) (rest : List StrikePos)
    (seq : Nat) : State :=
  let u : FaultUnit := ⟨g / 2048, g % 2048 / 16, g % 16⟩
  if (s.bridge (g / 2048)).stopped then (s.bump PD.ESC_BLOCK_TO_REGION |>.regionFromBlock u).dropStrike o l cp g h phases rest
  else (s.openWindow 1 u seq).setCell g { s.cell g with todo := toDigital h rest }

/-- The lowest failing column of a retry: its target number, code, expected count for a witness, and the cause. -/
structure StrikeFault where
  column : Nat
  code : Nat
  expected : Option Nat
  deriving DecidableEq, Repr

/-- A mismatch: the first retries the strike; a failed retry is a confirmed repeat and passes the tile to the block (R135, R474, R479). -/
def State.strikeFailed (s : State) (o : ArrayOp) (l : Layer) (cp : CellPlace) (g : Nat) (h : StrikePos) (phases : Nat) (rest : List StrikePos)
    (f : StrikeFault) : State :=
  let u : FaultUnit := ⟨g / 2048, g % 2048 / 16, g % 16⟩
  if !h.retried then
    let (up, s) := s.escalate 0 u
    match up with
    | 0 => (s.openWindow 0 u 0).setCell g { s.cell g with todo := insertReplay rest [{ h with retried := true }] }
    | 1 => s.substitute o l cp g h phases rest 0
    | 2 => (s.regionFromBlock u).dropStrike o l cp g h phases rest
    | _ => (s.toDevice u false).dropStrike o l cp g h phases rest
  else
    let s := s.closeWindow 0 u
    let detail := [detailUint 0 f.column, detailUint 1 f.code] ++ (match f.expected with
      | some e => [detailUint 2 e, detailUint 3 0]
      | none => [detailUint 3 1])
    let s := s.spall (spallPlace { kind := 0x02, level := 0, mech := 0, outcome := 7, detail := detail } u)
    let seq := s.num PD.SPALL_NEWEST
    let s := (s.bump PD.ESC_CELL_TO_BLOCK).confirm u 0
    if s.faults.retiredCells.contains g then
      (s.setCell g { s.cell g with todo := ({ h with retried := false } : StrikePos) :: rest }).takeover o g
    else s.substitute o l cp g h phases rest seq

/-- Witness tolerance of a strike's row count (R127, R134). -/
def State.witTol (s : State) (rows : Nat) : Nat :=
  s.num (if rows = 64 then PD.WIT_TOL_64 else if rows = 128 then PD.WIT_TOL_128 else PD.WIT_TOL_256)

def absDiff (a b : Nat) : Nat := if a ≤ b then b - a else a - b

/-- Expected witness count (R134). -/
def witnessCount (h : StrikePos) (bs : List Bool) (k : Nat) : Nat :=
  min 255 (bs.zipIdx.filter fun b => b.1 && witnessBit k (h.row + b.2)).length

/-- A discarded 256-row strike is replayed as two halves; a half without an input bit is skipped (R129, R130). -/
def State.splitStrike (s : State) (o : ArrayOp) (l : Layer) (g : Nat) (h : StrikePos) (rest : List StrikePos) (bs : List Bool) (overs used : Nat) :
    State :=
  let s := (s.arr g PD.ARR_OVERRANGE 1).closeWindow 0 ⟨g / 2048, g % 2048 / 16, g % 16⟩
  let s := if s.autoDense l ∧ !o.recompute ∧ !h.extra then
      let r := s.rowMode o.layer
      s.setRowMode { r with pairs := r.pairs + used, overs := r.overs + overs }
    else s
  let skip := fun (i : Nat) => s.flag PD.SKIP_ZERO_PHASES && !((bs.drop (128 * i)).take 128).any id
  let on := (List.range 2).filter fun i => !skip i
  let new : List StrikePos := on.map fun i => { h with row := h.row + 128 * i, rows := 128, half := true, retried := false }
  (s.setCell g { s.cell g with todo := insertReplay rest new }).arr g PD.ARR_SKIPPED (2 - on.length)

/-- STRIKE (R124): the codes and over-range bits of the cell's next strike. Nothing strikes while the cell has rows to write (R21). -/
def execStrike (cell : Nat) (codes : List Byte) (overs : List Bool) (s : State) : Res :=
  let g := cell
  let c := s.cell g
  match s.arrays.op, c.todo.find? fun h => !h.digital with
  | some o, some h =>
    if !s.mode.running ∨ s.arrays.writes.any (fun w => w.1 = g) then .next s
    else
      match s.layer o.layer, s.cellPlace o g, s.struckDesc o.recompute h.stream h.index with
      | some l, some cp, some d =>
        let rest := c.todo.erase h
        let wf := s.wFormat o.layer
        let used := weightBits wf * slotsOf l wf (sliceOf cp.place cp.group wf o.part)
        let codeAt := fun (t : Nat) => ((codes[c.route t]?).map (·.toNat)).getD 0
        let ovr := (List.range used).filter fun t => (overs[c.route t]?).getD false
        let (imgs, cols) := s.opImages o.recompute o.micro d
        let phases := phasesOf imgs
        let bs := inputRow imgs d cols h.token cp.q h.row h.rows h.phase
        let s := s.arr g PD.ARR_STRIKES 1
        let s := s.arr g PD.ARR_DOUBLE_EXTRA (b2n (h.extra && !h.retried && !h.half))
        let s := s.arr g PD.ARR_REPLAY_HALVES (b2n (h.half && !h.retried))
        if h.rows = 256 ∧ !ovr.isEmpty then .next (s.splitStrike o l g h rest bs ovr.length used)
        else
          let bad := (List.range 8).filter fun k => s.witTol h.rows < absDiff (codeAt (528 + k)) (witnessCount h bs k)
          match ovr, bad with
          | t :: _, _ => .next ((s.arr g PD.ARR_FLAG_FAULTS 1).strikeFailed o l cp g h phases rest ⟨t, codeAt t, none⟩)
          | [], k :: _ =>
            .next ((s.arr g PD.ARR_WIT_MISMATCH 1).strikeFailed o l cp g h phases rest ⟨528 + k, codeAt (528 + k), some (witnessCount h bs k)⟩)
          | [], [] =>
            let s := if h.retried then ((s.arr g PD.ARR_WIT_RETRY_OK 1).bump PD.REPEATS_TRANSIENT).closeWindow 0 ⟨g / 2048, g % 2048 / 16, g % 16⟩
              else s
            .next (s.acceptCodes o l cp g used h phases ((List.range 512).map codeAt) rest)
      | _, _, _ => .next s
  | _, _ => .next s

/-- DIGITAL_SUBSTITUTION (R135): the exact counts of the cell's next substituted strike. -/
def execDigitalSubstitution (cell : Nat) (s : State) : Res :=
  let g := cell
  let c := s.cell g
  match s.arrays.op, c.todo.find? fun h => h.digital with
  | some o, some h =>
    match s.layer o.layer, s.cellPlace o g, s.struckDesc o.recompute h.stream h.index with
    | some l, some cp, some d =>
      let rest := c.todo.erase h
      let u : FaultUnit := ⟨g / 2048, g % 2048 / 16, g % 16⟩
      let (imgs, cols) := s.opImages o.recompute o.micro d
      let phases := phasesOf imgs
      if !s.mode.running then .next s
      else if (s.bridge (g / 2048)).stopped then
        .next (((s.bump PD.ESC_BLOCK_TO_REGION).regionFromBlock u).dropStrike o l cp g h phases rest)
      else
        let wf := s.wFormat o.layer
        let used := weightBits wf * slotsOf l wf (sliceOf cp.place cp.group wf o.part)
        let counts := s.exactCounts o l cp h (inputRow imgs d cols h.token cp.q h.row h.rows h.phase)
        let s := (s.arr g PD.ARR_SUBSTITUTED 1).acceptCodes o l cp g used h phases counts rest
        .next (if rest.any (·.digital) then s else s.closeWindow 1 u)
    | _, _, _ => .next s
  | _, _ => .next s

/-! ## Weight writes (R146-R148) -/

/-- Columns of a write that matter to its verify: data columns that no spare replaces, and spares that stand in. -/
def Cell.wrongIn (c : Cell) (cols : List Nat) : List Nat :=
  cols.filter fun b => (b < 512 && (c.spareOf b).isNone) || (512 ≤ b && b < 528 && (c.spareFor (b - 512)).isSome)

/-- One bit-column goes to a free usable spare; a spare that read back wrong becomes unusable first. None when no spare is free (R148). -/
def Cell.remap (c : Cell) (b : Nat) : Option Cell :=
  let target := if b < 512 then b else (c.spareFor (b - 512)).getD 0
  let c := if b < 512 then c else { c with spare := kvSet (fun _ => (0 : W16)) c.spare (b - 512) 0x4000 }
  match c.freeSpares with
  | k :: _ => some { c with spare := kvSet (fun _ => (0 : W16)) c.spare k (BitVec.ofNat 16 (0x8000 + target)) }
  | [] => none

/-- WEIGHT_WRITE (R146, R148): a pending row write with its verify, tried up to WRITE_VERIFY_LIMIT times; then remapping or retirement. -/
def execWeightWrite (cell row : Nat) (wrong : List (List Nat)) (s : State) : Res :=
  let g := cell
  let c := s.cell g
  if !s.mode.working ∨ !s.arrays.writes.contains (g, row) ∨ !c.runs.isEmpty ∨ c.todo.any (fun h => h.half || h.retried || h.digital) then .next s
  else
    match s.loadedFor g with
    | none => .next s
    | some (o, l, wf, cp) =>
      let tries := (List.range (max 1 (s.num PD.WRITE_VERIFY_LIMIT))).map fun i => c.wrongIn ((wrong[i]?).getD [])
      match tries.findIdx? (·.isEmpty) with
      | some i =>
        let s := (s.arr g PD.ARR_VERIFY_FAIL i).arr g PD.ARR_ROWS_WRITTEN 1
        let s := s.setCell g { c with rows := kvSet rowDefault c.rows row (s.intendedRow l wf cp o.part c row) }
        .next { s with arrays := { s.arrays with writes := s.arrays.writes.erase (g, row) } }
      | none =>
        let bad := tries.flatten.eraseDups
        let s := s.arr g PD.ARR_VERIFY_FAIL tries.length
        match bad.foldl (fun (x : Option Cell) b => x.bind (·.remap b)) (some c) with
        | some c' =>
          let s := (s.arr g PD.ARR_WRITE_REMAPS bad.length).setCell g c'
          let old := s.arrays.writes.filter fun w => w.1 ≠ g
          .next { s with arrays := { s.arrays with writes := old ++ (List.range 1024).map fun r => (g, r) } }
        | none => .next ((s.arr g PD.ARR_WRITE_RETIRES 1).retireArrayCell g 1 3)

end Sys2Proof.Machine
end

