-- ==== Sys2Proof/Machine/Joints.lean ====
section
/-! DEFINITION. Machine/Joints.lean: contractions that the Placer splits across gradient dies, their parts, and the joints that add them
(R227-R235). -/
namespace Sys2Proof.Machine

/-- Contributions of part i stand at element keys from here (R228). -/
def partBase (i : Nat) : Nat := i * 2 ^ 40

/-- Joint kind of a descriptor's contraction, where it may be split: 0 digital forward work, 1 BWDX, 2 BWDW; REFERENCE is always joined exactly,
so its split shows nowhere (R227). -/
def State.jointKind (s : State) (st : Nat) (d : Desc) : Option Nat :=
  if st = stBwdx then some 1
  else if st = stBwdw then some 2
  else if st = stFwd ∧ d.opcode = 1 ∧ ((s.layer d.layer).any (fun l => l.kind = 6) ∨ s.rung d.layer = 3) then some 0
  else none

/-- Contraction tiles T of a layer and joint kind. -/
def State.jointTiles (s : State) (layer kind : Nat) : Nat :=
  match s.layer layer with
  | some l => if kind = 0 then ceilDiv l.k 128 else if kind = 1 then ceilDiv l.n 128 else ceilDiv ((s.plan.map (·.microTokens)).getD 1) 128
  | none => 1

/-- Parts J that the Placer cuts a contraction into, 1 where it does not split it (DESIGN CHOICE, log 10). -/
def State.jointCount (s : State) (layer kind : Nat) : Nat := min (1 + Config.fnNat 3 [layer, kind] 0 % 8) (max 1 (s.jointTiles layer kind))

/-- The part that holds a contraction tile. -/
def State.partOf (s : State) (layer kind tile : Nat) : Nat :=
  let j := s.jointCount layer kind
  min (j - 1) (tile / max 1 (ceilDiv (s.jointTiles layer kind) j))

/-- Mode of a joint: JOINT_MODE until its own switches (R235). -/
def State.jointMode (s : State) (layer kind : Nat) : JointMode :=
  (s.jointModes.find? fun m => m.layer = layer ∧ m.kind = kind).getD ⟨layer, kind, s.num PD.JOINT_MODE ≠ 0, none, none, 0⟩

def State.setJointMode (s : State) (m : JointMode) : State :=
  { s with jointModes := s.jointModes.filter (fun x => !(x.layer = m.layer && x.kind = m.kind)) ++ [m] }

/-- Runs of a descriptor's tiles that fall to one part: part, first tile, tiles. -/
def State.partRuns (s : State) (layer kind first count : Nat) : List (Nat × Nat × Nat) :=
  (List.range count).foldl (fun (acc : List (Nat × Nat × Nat)) j =>
    let p := s.partOf layer kind (first + j)
    match acc.getLast? with
    | some (q, a, n) => if q = p then acc.dropLast ++ [(q, a, n + 1)] else acc ++ [(p, j, 1)]
    | none => [(p, j, 1)]) []

/-- A sub-run of a descriptor's source tiles. -/
def subDesc (d : Desc) (a n srcStep auxStep : Nat) : Desc :=
  { d with srcTile := d.srcTile + a * srcStep, auxTile := d.auxTile + a * auxStep, count := n, length := min (128 * n) (d.length - 128 * a) }

/-- The product of a descriptor, part by part; with the zero blocks skipped and tiles re-blocked of BWDW. -/
def State.contraction (s : State) (st : Nat) (d : Desc) (src : Tensor) (aux : Option Tensor) (host : List Byte) : Work × Nat × Nat :=
  let one := fun (d : Desc) =>
    if st = stBwdw then
      match aux with
      | some a => s.bwdwWork d src a host
      | none => ({}, 0, 0)
    else if st = stBwdx then
      match aux with
      | some a => (s.bwdxWork d src a host, 0, 0)
      | none => ({}, 0, 0)
    else
      match s.layer d.layer with
      | some l => (s.fwdWork d l src host, 0, 0)
      | none => ({}, 0, 0)
  match s.jointKind st d with
  | none => one d
  | some kind =>
    if s.jointCount d.layer kind < 2 then one d
    else
      let cols := max src.cols 1
      let first := if st = stBwdw then d.srcTile / cols else d.srcTile % cols
      let steps : Nat × Nat := if st = stBwdw then (src.cols, (aux.map (·.cols)).getD 0) else (1, 1)
      (s.partRuns d.layer kind first d.count).foldl (fun (acc : Work × Nat × Nat) r =>
        if acc.1.fail.isSome then acc
        else
          let (w, z, re) := one (subDesc d r.2.1 r.2.2 steps.1 steps.2)
          let beds := mergeBeds acc.1.beds (w.beds.map fun b => (partBase r.1 + b.1, b.2))
          ({ w with beds := beds, st := acc.1.st.add w.st, fail := w.fail.map (r.2.1 + ·),
                    outs := if acc.1.outs.isEmpty then w.outs else acc.1.outs,
                    seqPos := if acc.1.outs.isEmpty then w.seqPos else acc.1.seqPos,
                    micro := if acc.1.outs.isEmpty then w.micro else acc.1.micro }, acc.2.1 + z, acc.2.2 + re)) ({}, 0, 0)

/-- Beds of one part of one destination tile of a range. -/
def partBeds (beds : List (Nat × Bed)) (part t : Nat) : List (Nat × Bed) :=
  (beds.filter fun b => partBase part + t * 16384 ≤ b.1 && b.1 < partBase part + (t + 1) * 16384).map fun b => (b.1 - partBase part - t * 16384, b.2)

/-- A part rounded to FP32 under the joint hash (R229-R231). -/
def State.roundPart (s : State) (w : JointWait) (part : Nat) (beds : List (Nat × Bed)) : List (Nat × Bed) :=
  (List.range (w.rows * w.cols)).foldl (fun (m : List (Nat × Bed)) i =>
    let r := i / (max w.cols 1)
    let c := i % (max w.cols 1)
    let e := elemNum 0 r c
    let u := jointHash (s.num PD.JOINT_SEED) (s.num PD.STEP_NUMBER) w.layer w.tileRow w.tileCol w.hashMicro w.kind part r c
    bedSet m e (({} : Bed).promote (jointRound (bedGet beds e) u) false false).1) []

/-- Bytes of a joint record's body (R232, R233). -/
def recordBytes (rows cols : Nat) (beds : List (Nat × Bed)) : List Byte :=
  let b := (List.range rows).flatMap fun r => (List.range cols).flatMap fun c => elemRecord (bedGet beds (elemNum 0 r c)).b
  padTo (ceilDiv b.length 64 * 64) b

/-- A joint is set going for every destination tile of a range: rounded parts go to the joint die at once; of an exact joint the joint die's own
part is there, and the others come as joint records (R229, R232). -/
def State.formParts (s : State) (kind : Nat) (t : Tensor) (w : Work) (beds : List (Nat × Bed)) (spans : Bool) : State :=
  let j := s.jointCount w.layer kind
  let exact := (s.jointMode w.layer kind).exact
  s.each (w.outs.filter fun o => o.2.1 < t.tiles) fun s o =>
    let (i, k, rows, cols) := o
    let x : JointWait := ⟨w.layer, kind, t.id, k, k / (max t.cols 1), k % (max t.cols 1), rows, cols, w.seqPos, w.micro, if spans then 0xFFFF else w.micro,
      j, exact⟩
    let part := fun (p : Nat) (b : List (Nat × Bed)) =>
      (⟨w.layer, kind, x.tileRow, x.tileCol, p, rows, cols, x.hashMicro, exact, b⟩ : JointPart)
    let s : State := { s with jointWaits := s.jointWaits ++ [x] }
    if exact then
      let sent := (List.range (j - 1)).map fun p => recordBytes rows cols (partBeds beds (p + 1) i)
      let s := (s.bumpBy PD.JOINTS_EXACT ((j - 1) * rows * cols)).bumpBy PD.JOINT_EXACT_BYTES (total (sent.map fun b => 64 + b.length))
      { s with jointParts := s.jointParts ++ [part 0 (partBeds beds 0 i)] }
    else
      let s := s.bumpBy PD.JOINTS_ROUNDED (j * rows * cols)
      { s with jointParts := s.jointParts ++ (List.range j).map fun p => part p (s.roundPart x p (partBeds beds p i)) }

def JointWait.owns (w : JointWait) (p : JointPart) : Bool :=
  p.layer = w.layer && p.kind = w.kind && p.tileRow = w.tileRow && p.tileCol = w.tileCol

/-- ρ of a joined tile; the order of its FP32 sums is open (DESIGN CHOICE, log 7, R235). -/
def jointRho (w : JointWait) (sum : List (Nat × Bed)) (parts : List JointPart) : Option W32 :=
  let es := (List.range w.rows).flatMap fun r => (List.range w.cols).map fun c => elemNum 0 r c
  let num := Config.sumF32 2 (es.map fun e => toF32 (bedGet sum e).emits.abs)
  let den := Config.sumF32 3 (parts.flatMap fun p => es.map fun e => toF32 (bedGet p.beds e).emits.abs)
  if (f32 den).isZero then none else some (toF32 (div32 (f32 num) (f32 den)))

/-! ## What an emission sets off (R298, R311) -/

/-- A change of TAIL wakes an IDLE stream. -/
def Stream.ring1 (t : Stream) (tail : W32) : Stream := { t with tail := tail, st := if t.st = .idle then .active else t.st }

/-- Tiles emitted into a weight-gradient tensor in this attempt; true when that was the last of them. -/
def State.wgradTile (s : State) (t : Tensor) (k : Nat) : Bool × State :=
  let key := fun (e : Nat × Nat × List Nat) => e.1 = t.id && e.2.1 = 0x10000
  let old := ((s.backward.emitted.find? key).map (·.2.2)).getD []
  let now := if old.contains k then old else old ++ [k]
  (decide (t.tiles ≤ now.length), { s with backward := { s.backward with emitted := s.backward.emitted.filter (fun e => !key e) ++ [(t.id, 0x10000, now)] } })

/-- The weight-gradient group of a layer has closed: an EXCHANGE descriptor goes to the plan's first plan-fed REDUCE stream; without such a
stream the records leave at once (R298, DEDUCED, log 29). -/
def State.exchangeDue (s : State) (layer : Nat) : State :=
  match s.plan.bind fun p => p.streams.findIdx? fun d => !d.hostFed && d.station = stReduce with
  | some n =>
    let t := s.stream n
    let w : BitVec 512 := BitVec.ofNat 512 (1 + 4 * 2 ^ 8 + layer * 2 ^ 32)
    match s.streamDef n with
    | some d =>
      if t.st = .halted ∨ t.st = .undefined ∨ d.ring ≤ t.pending then s.sendLayer layer
      else s.setStream n ({ t with ring := kvSet (fun _ => 0) t.ring (t.tail.toNat % d.ring) w }.ring1 (t.tail + 1))
    | none => s
  | none => s.sendLayer layer

/-- After an emission into a tensor: stage transfers, and the exchange of a complete weight gradient (R298, R311). -/
def State.emitted (s : State) (t : Tensor) (ks : List Nat) : State :=
  let s := s.each (ks.filter (· < t.tiles)) fun s k => s.stageOut t k
  if t.wgrad then
    let (done, s) : Bool × State := (ks.filter (· < t.tiles)).foldl (fun (acc : Bool × State) k =>
      let (d, s) := acc.2.wgradTile t k
      (acc.1 || d, s)) (false, s)
    if done ∧ !s.exch.sentLayers.contains t.owner then s.exchangeDue t.owner else s
  else s

/-- JOINT (R228): once every part of a destination tile has arrived, they are added into one bed per element and the result is emitted. -/
def execJoint (layer : Nat) (kind : Byte) (tileRow tileCol : Nat) (s : State) : Res :=
  match s.jointWaits.find? fun w => w.layer = layer ∧ w.kind = kind.toNat ∧ w.tileRow = tileRow ∧ w.tileCol = tileCol with
  | none => .next s
  | some w =>
    let parts := s.jointParts.filter w.owns
    if parts.length < w.parts ∨ !s.mode.running then .next s
    else
      let sum := parts.foldl (fun m p => mergeBeds m p.beds) ([] : List (Nat × Bed))
      let s : State := { s with jointWaits := s.jointWaits.erase w, jointParts := s.jointParts.filter fun p => !w.owns p }
      let m := s.jointMode w.layer w.kind
      let s := match jointRho w sum parts with
        | some r => s.setJointMode { m with minRho := match m.minRho with
            | some x => if (f32 r).lt (f32 x) then some r else some x
            | none => some r }
        | none => s
      .next (match s.tensor w.tensor with
        | some t => (s.emitOut t w.tile w.rows w.cols w.layer w.seqPos w.micro (bedRows sum 0 w.rows w.cols) true).emitted t [w.tile]
        | none => s)

/-- Element records read back; none when one fails its check or the bytes run out. -/
def parseElems : Nat → List Byte → Option (List (BitVec 640) × List Byte)
  | 0, b => some ([], b)
  | n + 1, b =>
    match elemParse b with
    | none => none
    | some (v, k) => (parseElems n (b.drop k)).map fun r => (v :: r.1, r.2)

/-- The part that a joint record brings, when its checks pass (R233). -/
def State.parseJoint (s : State) (b : List Byte) : Option JointPart :=
  let w := fun (i : Nat) => fieldAt b (8 * i) 8
  let part := bits (w 0) 8 8
  match s.jointWaits.find? fun x => x.exact ∧ x.kind = bits (w 0) 16 8 ∧ x.layer = bits (w 0) 32 16 ∧ x.tileRow = bits (w 1) 0 32
      ∧ x.tileCol = bits (w 1) 32 32 with
  | none => none
  | some x =>
    let ok := 64 ≤ b.length && bits (w 0) 0 4 = 1 && bits (w 0) 4 4 = 0 && bits (w 0) 24 8 = 0 && bits (w 0) 48 16 = 0 && bits (w 2) 48 16 = 0
      && w 4 = 0 && w 5 = 0 && w 6 = 0 && w 7 = 0 && part < x.parts && bits (w 2) 32 16 = x.rows * x.cols && bits (w 2) 0 32 = b.length - 64
      && bits (w 3) 0 48 = s.num PD.STEP_NUMBER && bits (w 3) 48 16 = x.hashMicro && b.length % 64 = 0
      && !(s.jointParts.any fun p => x.owns p && p.part = part)
    match parseElems (x.rows * x.cols) (b.drop 64) with
    | some (vs, rest) =>
      if ok && allZero rest && rest.length < 64 then
        let beds := vs.zipIdx.foldl (fun m v => bedSet m (elemNum 0 (v.2 / max x.cols 1) (v.2 % max x.cols 1)) { b := v.1 }) ([] : List (Nat × Bed))
        some ⟨x.layer, x.kind, x.tileRow, x.tileCol, part, x.rows, x.cols, x.hashMicro, true, beds⟩
      else none
    | none => none

/-- JOINT_RECORD (R233): a record that passes its checks brings one part; any other is a failure of the bridge that carried it (R19). -/
def execJointRecord (link : Nat) (bytes : List Byte) (s : State) : Res :=
  if !s.mode.running then .next s
  else match s.parseJoint bytes with
    | some p => .next { s with jointParts := s.jointParts ++ [p] }
    | none => .next (s.bridgeFailed link)

end Sys2Proof.Machine
end

