-- ==== Sys2Proof/Machine/PlanCmds.lean ====
section
/-! DEFINITION. Machine/PlanCmds.lean: loading and unloading plans, and placements at a step boundary (R91, R92, R97, R112-R114). -/
namespace Sys2Proof.Machine

/-! ## Plans (R91, R92, R97) -/

/-- History, masters, operations and every other state that belongs to the loaded plan go with it (R91, R207, R322, R329). -/
def State.dropPlan (s : State) : State :=
  { s with plan := none, place := none, streams := [], triggers := 0, placeDue := 0, placing := false, placeWait := none, layers := [], jointModes := [], jointParts := [],
           jointWaits := [], backward := {}, frogMost := [], exch := {},
           arrays := { s.arrays with seqPos := 0, op := none, loaded := [], writes := [], rowModes := [], halves := [], lintel := [] },
           upd := { s.upd with outRows := [], panes := [], jobs := [], quantised := [], updated := [] } }

def planNone : Nat := 0
def planLoading : Nat := 1
def planLoaded : Nat := 2
def planFailed : Nat := 3
def planWrongState : Nat := 4

/-- A plan is LOADED. -/
def State.planIn (s : State) : Bool := s.num PD.PLAN_STATUS = planLoaded && s.plan.isSome

/-- Writes to PLAN_LOAD (R92): 1 copies and checks the object and unloads the plan that is loaded, 2 unloads; others are ignored. -/
def State.planCommand (s : State) (v : Nat) : State :=
  if v ≠ 1 ∧ v ≠ 2 then s
  else if s.num PD.PLAN_STATUS = planLoading then s
  else if s.mode ≠ .held then (if s.mode.hubRuns then s.result PD.PLAN_STATUS planWrongState else s)
  else if v = 2 then s.dropPlan.result PD.PLAN_STATUS planNone
  else
    let len := s.num PD.PLAN_LENGTH
    let obj := if len ≤ 2 ^ 28 then s.readBar2 (s.num PD.PLAN_OFFSET) len else s.readBar2 (s.num PD.PLAN_OFFSET) 64
    { (s.dropPlan).setNum PD.PLAN_STATUS planLoading with loading := some (checkPlan obj len (s.rows PD.UPD_LAYER_TABLE)) }

/-- PLAN_LOAD (R92). -/
def execPlanLoad (s : State) : Res := .next (s.planCommand 1)

/-- PLAN_UNLOAD (R91, R92). -/
def execPlanUnload (s : State) : Res := .next (s.planCommand 2)

/-- A load fails: its faults are listed, at most 4,096 (R97). -/
def State.planFails (s : State) (fs : List PlanFault) : State :=
  (s.setRows PD.PLAN_FAULTS ((fs.take 4096).map fun f => [f.code, f.obj, f.field])).result PD.PLAN_STATUS planFailed

/-- Owned panes in the order of EXCH_PANES: by layer, then by index (R330, DESIGN CHOICE, log 30). -/
def State.panesInOrder (s : State) (layers : List Layer) : List PaneRef :=
  let own := s.ownPanes layers
  (layers.zipIdx.flatMap fun l => layerPanes l.2 l.1).filter own.contains

/-- A pane at plan load: every item zero, no root in use (R322). -/
def newPane (p : Plan) (upd : List (Nat × Nat)) (r : PaneRef) : Option Pane :=
  (p.layers[r.layer]?).map fun l =>
    let rule := ruleOf p.rules r.layer l
    let z := fun (n : Nat) => List.replicate n (0 : W32)
    { layer := r.layer, pane := r.pane, rows := r.rows, cols := r.cols, rule := rule,
      die := ((upd.find? fun u => u.1 = r.layer).map (·.2)).getD 0,
      master := z (r.rows * r.cols), m := z (r.rows * r.cols), v := if rule = 3 then [] else z (r.rows * r.cols),
      l := if rule = 1 then z (r.rows * r.rows) else [], r := if rule = 1 then z (r.cols * r.cols) else [],
      lroot := none, rroot := none, u := 0, outcomes := [] }

/-- A placement is in force: the sequence starts afresh and the arrays are written where the working copies ask for it (R101, R113). -/
def State.usePlacement (s : State) (pl : Placement) : State :=
  let s : State := { s with place := some pl, arrays := { s.arrays with seqPos := 0, op := none, loaded := [], writes := [] } }
  let s := ((s.setNum PD.PLACE_VERSION ((s.num PD.PLACE_VERSION + 1) % 2 ^ 32)).bump PD.PLACE_COUNT).setNum PD.PLACE_TRIGGERS pl.triggers
  s.rewriteArrays.preload

/-- PLAN_LOAD_COMPLETE (R97): the plan is placed, or the load has failed (R91, R92, R322, R389). -/
def execPlanLoadComplete (s : State) : Res :=
  if !s.mode.hubRuns then .next s
  else match s.loading with
  | none => .next s
  | some (po, fs) =>
    let s : State := { s with loading := none }
    match po with
    | none => .next (s.planFails fs)
    | some p =>
      if !fs.isEmpty then .next (s.planFails fs)
      else match s.makePlacement p 1 with
        | .error fs => .next (s.planFails fs)
        | .ok pl =>
          let modes := (List.range p.layers.length).flatMap fun i => (List.range 3).map fun k =>
            (⟨i, k, s.num PD.JOINT_MODE ≠ 0, none, none, 0⟩ : JointMode)
          let idle : Stream := { st := .idle }
          let s : State := { s with plan := some p, jointModes := modes, streams := (List.range p.streams.length).map fun i => (i, idle),
                                    upd := { s.upd with panes := (s.panesInOrder p.layers).filterMap (newPane p pl.updDie) } }
          .next ((s.usePlacement pl).result PD.PLAN_STATUS planLoaded)

/-! ## Placement at a boundary (R113, R114) -/

/-- Contents of tensors follow their homes (R109). -/
def State.moveHomes (s : State) (old : List Home) (new : List Home) (p : Plan) : State :=
  let moved := new.filterMap fun h =>
    (old.find? fun o => o.tensor = h.tensor ∧ o.companion = h.companion).bind fun o =>
      if o.host ∨ h.host ∨ (o.store = h.store ∧ o.offset = h.offset ∧ o.stride = h.stride) then none
      else
        let n := ((p.tensors.find? fun t => t.id = h.tensor).map Tensor.tiles).getD 0
        some (h, (List.range n).map fun i => s.read o.store (o.offset + i * o.stride) (min o.stride h.stride))
  s.each moved fun s m => m.2.zipIdx.foldl (fun s x => s.write m.1.store (m.1.offset + x.2 * m.1.stride) x.1) s

/-- PLACEMENT (R113): one placement for the triggers that the boundary answers to, after its WRITEBACK; blocks that region level set aside
retire first (R479). One that cannot fit votes VOID on the next step, holds, and fails the plan (R114). -/
def execPlacement (s : State) : Res :=
  if !s.mode.hubRuns ∨ s.placeDue = 0 ∨ s.step.opened ∨ s.step.updating ∨ s.step.writing then .next s
  else match s.plan, s.place with
  | some p, some old =>
    let keep := s.triggers
    let s : State := { s.retireDue with triggers := keep }
    let due := s.placeDue
    let s : State := { s with placeDue := 0 }
    match s.makePlacement p due with
    | .ok pl =>
      let due := if pl.mode = old.mode then due else orBit due 4
      let s := (s.moveHomes old.homes pl.homes p).usePlacement { pl with triggers := due }
      .next ({ s with placing := true }.closeWindows fun w => w.level = 2)
    | .error fs =>
      let s := s.planFails (fs.map fun f => if f.code = 6 then { f with code := 7 } else f)
      let s := s.spall { kind := 0x25, level := 3, mech := 17, outcome := 3, detail := [detailUint 0 ((fs.head?.map (·.obj)).getD 0)] }
      .next ((s.reasonOrNext rsPlacement).hold rsPlacement)
  | _, _ => .next { s with placeDue := 0 }

end Sys2Proof.Machine
end

