-- ==== Sys2Proof/Machine/History.lean ====
section
/-! DEFINITION. Machine/History.lean: the history object (R207-R209). -/
namespace Sys2Proof.Machine

/-- A layer's number of scores and its set size in the object. -/
def histCounts (l : Layer) : Nat × Nat := if isMatmul l then (l.k, outliers l) else (0, 0)

/-- Bytes of a layer's record. -/
def histLen (l : Layer) : Nat := ceilDiv (4160 + 4 * ((histCounts l).1 + (histCounts l).2)) 64 * 64

/-- A layer's committed set as the object holds it: exactly SET_SIZE channels; before the first COMMIT the lowest ones (DESIGN CHOICE, log 31). -/
def histSet (l : Layer) (n : LayerNum) : List Nat :=
  let m := (histCounts l).2
  if n.set.length = m then n.set else topChannels n.scores l.k m

/-- One layer record (R209). -/
def histRecord (i : Nat) (l : Layer) (n : LayerNum) : List Byte :=
  let (sc, ss) := histCounts l
  let ring := n.ring ++ List.replicate (16 - n.ring.length) []
  padTo (histLen l) (
    le 8 (histLen l + i % 2 ^ 16 * 2 ^ 32 + n.rung % 4 * 2 ^ 48 + n.ring.length % 32 * 2 ^ 50)
    ++ le 8 (n.clean % 2 ^ 16 + n.gradFormat % 64 * 2 ^ 16 + n.emaFwd.toNat * 2 ^ 32)
    ++ le 8 (n.emaGrad.toNat + n.countFwd % 2 ^ 16 * 2 ^ 32 + n.countGrad % 2 ^ 16 * 2 ^ 48)
    ++ le 8 (sc + ss * 2 ^ 32) ++ zeros 32
    ++ ring.flatMap (fun h => (List.range 32).flatMap fun b => le 8 ((h[b]?).getD 0))
    ++ (List.range sc).flatMap (fun c => le 4 (let x := kvGet (fun _ => (0xFFFFFFFF : W32)) n.scores c
        if x = 0xFFFFFFFF then 0 else x.toNat))
    ++ (if ss = 0 then [] else histSet l n).flatMap (le 4))

/-- The committed history (R209). STEP of the header is the last committed step, one below the next one's number. -/
def State.histObject (s : State) (p : Plan) : List Byte :=
  let recs := p.layers.zipIdx.flatMap fun l => histRecord l.2 l.1 (s.num? l.2)
  le 8 (0x54534948 + 2 ^ 32) ++ le 8 ((s.num PD.STEP_NUMBER - 1) % 2 ^ 48 + p.layers.length % 2 ^ 16 * 2 ^ 48) ++ padTo 48 p.digest
  ++ le 8 ((128 + recs.length) % 2 ^ 32) ++ zeros 56 ++ recs

/-- A history command ends at once. -/
def State.histNow (s : State) (r : Nat) : State := { s with upd := { s.upd with histCmd := 0 } }.result PD.HIST_RESULT r

/-- A history command is under way; HISTORY_OBJECT_COMPLETE gives it its result. -/
def State.histStart (s : State) (cmd r len : Nat) : State :=
  { s.setNum PD.HIST_RESULT 1 with upd := { s.upd with histCmd := cmd, histResult := r, histLength := len } }

/-- The object is written to its place in the BAR2 window. -/
def State.histWrite (s : State) : State :=
  match s.plan with
  | some p =>
    let o := s.histObject p
    (s.writeBar2 (s.num PD.HIST_OFFSET) o).histStart 1 0 o.length
  | none => s

/-- Every die works (R209). -/
def State.allDies (s : State) : Bool := s.num PD.HEALTH_DIE_MASK = 0xFFFFF

/-- A write to HIST_SAVE (R209); values other than 1 give BAD_OBJECT. -/
def State.histSave (s : State) (v : Nat) : State :=
  if !s.mode.hubRuns ∨ s.upd.histCmd ≠ 0 ∨ s.step.histDue then s
  else if v ≠ 1 then s.histNow 2
  else if !s.planIn then s.histNow 5
  else match s.mode with
    | .held | .armed => s.histWrite
    | .fault => if s.allDies then s.histWrite else s.histNow 4
    | .run | .drain => { s.setNum PD.HIST_RESULT 1 with step := { s.step with histDue := true } }
    | _ => s.histNow 4

def execHistSave (s : State) : Res := .next (s.histSave 1)

/-- A save that waits is carried out at a step boundary: after a COMMIT takes effect, or a VOID (R209). -/
def State.histDueNow (s : State) : State :=
  if s.step.histDue then
    let s : State := { s with step := { s.step with histDue := false } }
    if s.planIn then s.histWrite else s.histNow 5
  else s

/-- HIST_SAVE_AT_BOUNDARY (R209): the boundary under way carries a waiting save out. -/
def execHistSaveAtBoundary (s : State) : Res := .next (if s.step.boundary ∧ !s.step.opened ∧ s.mode.hubRuns then s.histDueNow else s)

/-! ## Restoring -/

/-- A finite value that is not negative: what an average or a score can be. -/
def histF32Ok (w : Nat) : Bool := f32Finite w

/-- The layer state that a record holds; none when it fails a check. `old` gives what a record does not hold. -/
def histParse (b : List Byte) (i : Nat) (l : Layer) : Option LayerNum :=
  let w := fun (k : Nat) => fieldAt b (8 * k) 8
  let (sc, ss) := histCounts l
  let rung := bits (w 0) 48 2
  let n := bits (w 0) 50 5
  let gf := bits (w 1) 16 6
  let scores := (List.range sc).map fun c => fieldAt b (4160 + 4 * c) 4
  let set := (List.range ss).map fun c => fieldAt b (4160 + 4 * sc + 4 * c) 4
  let ring := (List.range 16).map fun h => (List.range 32).map fun k => fieldAt b (64 + 256 * h + 8 * k) 8
  let ok := bits (w 0) 0 32 = histLen l && bits (w 0) 32 16 = i && bits (w 0) 55 9 = 0 && n ≤ 16 && (rung = 0 || isMatmul l)
    && !rungSkipped l rung && bits (w 1) 22 10 = 0 && (gf = 0x10 || fmtBlock gf) && bits (w 3) 0 32 = sc && bits (w 3) 32 32 = ss
    && w 4 = 0 && w 5 = 0 && w 6 = 0 && w 7 = 0 && histF32Ok (bits (w 1) 32 32) && histF32Ok (bits (w 2) 0 32)
    && (ring.drop n).all (fun h => h.all (· = 0)) && scores.all histF32Ok && set.all (· < l.k)
    && (set.zip (set.drop 1)).all (fun p => p.1 < p.2) && allZero ((b.take (histLen l)).drop (4160 + 4 * (sc + ss))) && histLen l ≤ b.length
  if ok then
    some { rung := rung, clean := bits (w 1) 0 16, ring := ring.take n, gradFormat := gf, emaFwd := BitVec.ofNat 32 (bits (w 1) 32 32),
           emaGrad := BitVec.ofNat 32 (bits (w 2) 0 32), countFwd := bits (w 2) 32 16, countGrad := bits (w 2) 48 16,
           scores := kvSetList (fun _ => (0xFFFFFFFF : W32)) [] 0 (scores.map fun x => (BitVec.ofNat 32 x : W32)), set := set }
  else none

/-- The records in layer order; none when one fails. -/
def histParseAll : List (Layer × Nat) → List Byte → Option (List (Nat × LayerNum))
  | [], _ => some []
  | (l, i) :: ls, b =>
    match histParse b i l with
    | none => none
    | some n => (histParseAll ls (b.drop (histLen l))).map ((i, n) :: ·)

/-- A write to HIST_RESTORE (R209): the whole object is checked before any of it is taken. -/
def State.histRestore (s : State) (v : Nat) : State :=
  if !s.mode.hubRuns ∨ s.upd.histCmd ≠ 0 ∨ s.step.histDue then s
  else if v ≠ 1 then s.histNow 2
  else if s.mode ≠ .held then s.histNow 4
  else if !s.planIn then s.histNow 5
  else match s.plan with
    | none => s.histNow 5
    | some p =>
      let len := 128 + total (p.layers.map histLen)
      let b := s.readBar2 (s.num PD.HIST_OFFSET) len
      let w := fun (k : Nat) => fieldAt b (8 * k) 8
      if sub b 16 48 ≠ padTo 48 p.digest ∨ bits (w 1) 48 16 ≠ p.layers.length % 2 ^ 16 then s.histStart 2 3 0
      else if w 0 ≠ 0x54534948 + 2 ^ 32 ∨ bits (w 8) 0 32 ≠ len ∨ bits (w 8) 32 32 ≠ 0 ∨ !allZero (sub b 72 56) then s.histStart 2 2 0
      else match histParseAll (p.layers.zipIdx) (b.drop 128) with
        | none => s.histStart 2 2 0
        | some ls =>
          let s := s.each ls fun s l => s.setLayerNum l.1 l.2
          let s : State := { s with upd := { s.upd with quantised := s.upd.quantised.filter fun i => ls.any fun l => l.1 = i && l.2.rung = 0 } }
          { s with placeDue := if ls.any (fun l => l.2.rung ≠ 0) then orBit s.placeDue 2 else s.placeDue }.histStart 2 0 0

def execHistRestore (s : State) : Res := .next (s.histRestore 1)

/-- HISTORY_OBJECT_COMPLETE (R209): the result of the save or restore under way. -/
def execHistoryObjectComplete (s : State) : Res :=
  if s.upd.histCmd = 0 ∨ !s.mode.hubRuns then .next s
  else
    let u := s.upd
    let s := if u.histCmd = 1 then s.setNum PD.HIST_LENGTH u.histLength else s
    .next (s.histNow u.histResult)

end Sys2Proof.Machine
end

