-- ==== Sys2Proof/Machine/UpdateOps.lean ====
section
/-! DEFINITION. Machine/UpdateOps.lean: the update of panes, inverse roots and their adoption (R320-R330). The order in which the matrix engine
accumulates a dot product is the firmware's own (R324, DESIGN CHOICE, log 7). -/
namespace Sys2Proof.Machine

/-! ## FP32 matrices: row-major lists of encodings -/

def dotF32 (xs ys : List W32) : FV := f32 (Config.sumF32 5 (xs ++ ys))

def matRow (a : List W32) (n i : Nat) : List W32 := (a.drop (i * n)).take n
def matCol (a : List W32) (n j rows : Nat) : List W32 := (List.range rows).map fun i => (a[i * n + j]?).getD 0

/-- The product of an m × k by a k × n matrix. -/
def matMul (a b : List W32) (m k n : Nat) : List W32 :=
  (List.range m).flatMap fun i => (List.range n).map fun j => toF32 (dotF32 (matRow a k i) (matCol b n j k))

def matMap (f : FV → FV) (a : List W32) : List W32 := a.map fun x => toF32 (f (f32 x))
def matZip (f : FV → FV → FV) (a b : List W32) : List W32 := (a.zip b).map fun x => toF32 (f (f32 x.1) (f32 x.2))
def matFinite (a : List W32) : Bool := a.all fun x => f32Finite x.toNat
/-- a plus e on the diagonal of an n × n matrix. -/
def matDiag (a : List W32) (n : Nat) (e : FV) : List W32 := a.zipIdx.map fun x => if x.2 / n = x.2 % n then toF32 (add32 (f32 x.1) e) else x.1

/-- x to the power u, rounded once. -/
def powF32 (x : FV) (u : Nat) : FV :=
  match x with
  | .fin s n d => (FV.fin (s && u % 2 = 1) (n ^ u) (d ^ u)).r32
  | v => v

/-- Sum of squares and norm in FP64, in element order (R323). -/
def norm64 (a : List W32) : FV := (sum64 (a.map fun x => mul64 (f32 x) (f32 x))).sqrt.r64

/-! ## The update of one pane (R323) -/

/-- LR_MULT and DECAY of a layer. -/
def State.layerRule (s : State) (layer : Nat) (kind : Nat) : FV × Bool :=
  match (s.rows PD.UPD_LAYER_TABLE)[layer]? with
  | some [_, m, d] => (fp32.decode m, d ≠ 0)
  | _ => (.one, kind ≠ 3)

/-- The new pane, its deltas, and whether L and R changed; none when every row is absent. The master is the old one: deltas are applied after. -/
def State.paneStep (s : State) (p : Pane) (sh : Shard) : Option (Pane × List W32 × Bool) :=
  let pres := (List.range p.rows).filter fun r => !sh.absent.contains r
  if pres.isEmpty then none
  else
    let u := p.u + 1
    let full : Bool := sh.absent.isEmpty
    let b1 := s.fv PD.UPD_BETA1
    let b2 := s.fv PD.UPD_BETA2
    let bs := s.fv PD.UPD_BETA_STAT
    let eps := s.fv PD.UPD_EPS_DIAG
    let (mult, decay) := s.layerRule p.layer (((s.layer p.layer).map (·.kind)).getD 0)
    let lr := mul32 (s.fv PD.UPD_LR) mult
    let on := fun (e : Nat) => !sh.absent.contains (e / p.cols)
    let at_ := fun (l : List W32) (e : Nat) => f32 ((l[e]?).getD 0)
    let n := p.rows * p.cols
    let v := if p.rule = 3 then p.v else (List.range n).map fun e =>
      if on e then toF32 (add32 (mul32 b2 (at_ p.v e)) (mul32 (sub32 .one b2) (mul32 (at_ sh.g e) (at_ sh.g e)))) else (p.v[e]?).getD 0
    let a := if p.rule = 3 then [] else (List.range n).map fun e =>
      toF32 (div32 (at_ sh.g e) (add32 (sqrt32 (div32 (at_ v e) (sub32 .one (powF32 b2 u)))) eps))
    let stats : Bool := p.rule = 1 && full
    let gt := (List.range p.cols).flatMap fun c => matCol sh.g p.cols c p.rows
    let mix := fun (old new : List W32) => matZip (fun x y => add32 (mul32 bs x) (mul32 (sub32 .one bs) y)) old new
    let l := if stats then mix p.l (matMul sh.g gt p.rows p.cols p.rows) else p.l
    let r := if stats then mix p.r (matMul gt sh.g p.cols p.rows p.cols) else p.r
    let dir := match p.lroot, p.rroot with
      | some lx, some rx =>
        if stats then
          let q := matMul (matMul lx.x sh.g p.rows p.rows p.cols) rx.x p.rows p.cols p.cols
          let np := norm64 q
          if FV.zero.lt np then matMap (fun x => mul32 x ((norm64 a).div np).r32) q else a
        else a
      | _, _ => a
    let m := (List.range n).map fun e =>
      if !on e then (p.m[e]?).getD 0
      else if p.rule = 3 then toF32 (add32 (mul32 b1 (at_ p.m e)) (at_ sh.g e))
      else toF32 (add32 (mul32 b1 (at_ p.m e)) (mul32 (sub32 .one b1) (at_ dir e)))
    let d := (List.range n).map fun e =>
      if !on e then (0 : W32)
      else
        let st := if p.rule = 3 then at_ m e else div32 (at_ m e) (sub32 .one (powF32 b1 u))
        let w := if decay then mul32 (s.fv PD.UPD_WEIGHT_DECAY) (at_ p.master e) else .zero
        toF32 (mul32 lr.neg (add32 st w))
    some ({ p with m := m, v := v, l := l, r := r, u := u }, d, stats)

/-- master := round(master + d) (R324). -/
def Pane.apply (p : Pane) (d : List W32) : Pane := { p with master := matZip add32 p.master d }

def State.setPane (s : State) (p : Pane) : State :=
  { s with upd := { s.upd with panes := s.upd.panes.map fun q => if q.layer = p.layer ∧ q.pane = p.pane then p else q } }

def State.findPane (s : State) (layer pane : Nat) : Option Pane := s.upd.panes.find? fun p => p.layer = layer ∧ p.pane = pane

/-- One owned pane at the commit time: all or nothing (R325). In bond mode its deltas wait for the twin's and leave for it (R317). -/
def State.updatePane (s : State) (p : Pane) (sh : Shard) : State :=
  let bond := s.bonded
  let own := fun (s : State) (d : List W32) =>
    if bond then { s with exch := { s.exch with ownDeltas := s.exch.ownDeltas ++ [⟨p.layer, p.pane, d, []⟩] } } else s
  match s.paneStep p sh with
  | none => own s (List.replicate (p.rows * p.cols) 0)
  | some (q, d, stats) =>
    if matFinite d && matFinite q.m && matFinite q.v && matFinite q.l && matFinite q.r then
      let s := s.bump PD.UPD_PANES
      let s := if bond then s.setPane q else s.setPane (q.apply d)
      own { s with upd := { s.upd with updated := s.upd.updated ++ [(p.layer, p.pane, true, stats)] } } d
    else
      own ((s.bump PD.UPD_NONFINITE).spall { kind := 0x23, level := 1, mech := 10, outcome := 0, detail := [detailUint 0 p.layer, detailUint 1 p.pane] }) d

/-- Every owned pane, layer by layer in EXCH_PANES order (R330). -/
def State.updateAll (s : State) (shards : List Shard) : State :=
  let s : State := { s with upd := { s.upd with updated := [] } }
  s.each s.upd.panes fun s p =>
    match shards.find? fun x => x.layer = p.layer && x.pane = p.pane with
    | some sh => s.updatePane p sh
    | none => s

/-! ## Inverse roots (R326-R328) -/

/-- Frobenius norm and trace in FP32; the order of their sums is the firmware's (DESIGN CHOICE, log 7). -/
def normF (a : List W32) : FV := f32 (Config.sumF32 6 a)
def traceF (a : List W32) (n : Nat) : FV := f32 (Config.sumF32 7 ((List.range n).map fun i => (a[i * n + i]?).getD 0))

/-- Newton steps on X and M until max |M - I| is below the tolerance; fuel is ROOT_MAX_ITER. -/
def newton (n : Nat) (tol : FV) : Nat → List W32 → List W32 → Option (List W32)
  | 0, _, _ => none
  | k + 1, x, m =>
    let five := FV.ofNat 5
    let t := m.zipIdx.map fun e => toF32 (div32 (if e.2 / n = e.2 % n then sub32 five (f32 e.1) else (f32 e.1).neg) (.ofNat 4))
    let x := matMul x t n n n
    let t2 := matMul t t n n n
    let m := matMul (matMul t2 t2 n n n) m n n n
    let off : FV := (matDiag m n (FV.one.neg)).foldl (fun a e => FV.max a (f32 e).abs) FV.zero
    if matFinite m && off.lt tol then some x else newton n tol k x m

/-- Residual ‖X⁴B − I‖ / √n in FP64; its inner order is the firmware's (DESIGN CHOICE, log 7). -/
def residual (x b : List W32) (n : Nat) : FV := f64 (BitVec.ofNat 64 (Config.fnNat 7 ((n :: x.map (·.toNat)) ++ b.map (·.toNat)) 0))

/-- The damping ladder of one factor: the attempt that succeeded, its root and its damping. -/
def State.ladder (s : State) (a : List W32) (n : Nat) : Nat → Nat → FV → Option (Nat × Root)
  | 0, _, _ => none
  | fuel + 1, i, eps =>
    let b := matDiag a n eps
    let c := (div32 (mul32 (.ofNat 2) (normF b)) (.ofNat 5)).sqrt.sqrt.r32
    let c4 := mul32 (mul32 c c) (mul32 c c)
    let x := (List.range (n * n)).map fun e => toF32 (if e / n = e % n then div32 .one c else .zero)
    let m := matMap (fun v => div32 v c4) b
    let next := s.ladder a n fuel (i + 1) (mul32 eps (.ofNat 10))
    match newton n (s.fv PD.ROOT_TOL) (s.num PD.ROOT_MAX_ITER) x m with
    | some x => if matFinite x && (residual x b n).le (s.fv PD.ROOT_RESID_MAX) then some (i, ⟨x, toF32 eps⟩) else next
    | none => next

/-- One factor's outcome and its root; `old` tells whether a root of it is in use (R327). -/
def State.rootOf (s : State) (a : List W32) (n : Nat) (old : Bool) : RootOutcome × Option Root :=
  let tr := traceF a n
  if tr.isZero || !tr.isFinite then (.zero, none)
  else
    let eps := div32 (mul32 (s.fv PD.ROOT_EPS_REL) tr) (.ofNat n)
    match s.ladder a n (s.num PD.ROOT_RETRIES + 1) 0 eps with
    | some (i, r) => (if i = 0 then .first else .damped, some r)
    | none => (if old then .kept else .diagonal, none)

/-- The counters of an outcome; a trace of zero counts as KEPT or DIAGONAL too. -/
def State.countRoot (s : State) (o : RootOutcome) (old : Bool) : State :=
  match o with
  | .first => s.bump PD.ROOT_FIRST
  | .damped => s.bump PD.ROOT_DAMPED
  | .kept => s.bump PD.ROOT_KEPT
  | .diagonal => s.bump PD.ROOT_DIAG
  | .zero => if old then (s.bump PD.ROOT_ZERO).bump PD.ROOT_KEPT else (s.bump PD.ROOT_ZERO).bump PD.ROOT_DIAG

/-- Staged jobs are adopted at a commit time: each new root is installed, and the outcomes recorded (R328). -/
def State.adoptRoots (s : State) : State :=
  let s := s.each s.upd.jobs fun s j => match j.staged, s.findPane j.layer j.pane with
    | some (l, r, o), some p => s.setPane { p with lroot := l.or p.lroot, rroot := r.or p.rroot, outcomes := o }
    | _, _ => s
  { s with upd := { s.upd with jobs := s.upd.jobs.filter fun j => j.staged.isNone } }

/-- Root jobs queued at the end of UPDATE; a pane whose previous job has not ended skips its trigger (R326). -/
def State.queueRoots (s : State) : State :=
  s.each (s.upd.updated.filter fun x => x.2.2.2) fun s x =>
    match s.findPane x.1 x.2.1 with
    | none => s
    | some p =>
      if p.rule ≠ 1 ∨ p.u % max (s.num PD.ROOT_INTERVAL) 1 ≠ 0 then s
      else if s.upd.jobs.any fun j => j.layer = p.layer && j.pane = p.pane && j.staged.isNone then s.bump PD.ROOT_OVERRUN
      else { s with upd := { s.upd with jobs := s.upd.jobs ++ [⟨p.die, p.layer, p.pane, p.l, p.r, none⟩] } }

/-- ROOT_JOB (R326, R327, R329): the oldest job of an update die ends and is staged; the engine runs jobs in neither UPDATE nor WRITEBACK, and not
in FROZEN or COAST. -/
def execRootJob (die : Fin 2) (s : State) : Res :=
  if !s.mode.hubRuns ∨ s.step.updating ∨ s.step.writing then .next s
  else match s.upd.jobs.find? fun j => j.die = die.val ∧ j.staged.isNone with
    | none => .next s
    | some j => match s.findPane j.layer j.pane with
      | none => .next s
      | some p =>
        let l := s.rootOf j.l p.rows p.lroot.isSome
        let r := s.rootOf j.r p.cols p.rroot.isSome
        let done : RootJob := { j with staged := some (l.2, r.2, [l.1, r.1]) }
        let s := (s.countRoot l.1 p.lroot.isSome).countRoot r.1 p.rroot.isSome
        .next { s with upd := { s.upd with jobs := s.upd.jobs.map fun x => if x = j then done else x } }

end Sys2Proof.Machine
end

