-- ==== Sys2Proof/Machine/Exchange.lean ====
section
/-! DEFINITION. Machine/Exchange.lean: the contribution deadline, shards, the records that arrive, the all-gather, bond mode, and what a
COMMIT does to the exchange's state (R299-R318). -/
namespace Sys2Proof.Machine

/-! ## Records that arrive (R298, R299) -/

/-- STEP and ATTEMPT of the attempt just committed: the newest phase record with verdict COMMIT. -/
def State.lastCommit (s : State) : Option (Nat × Nat) :=
  (s.step.phaseTable.reverse.find? fun r => r.getD 2 0 = 1).map fun r => (r.getD 0 0, r.getD 1 0)

/-- Kinds that name the attempt just committed. -/
def afterCommit (kind : Nat) : Bool := kind = 3 || kind = 4 || kind = 5 || kind = 11

/-- The record names the attempt that its kind is accepted for. -/
def State.fresh? (s : State) (x : XHdr) : Bool :=
  if afterCommit x.kind then s.lastCommit = some (x.step, x.attempt)
  else s.step.attempt && x.step = s.num PD.STEP_NUMBER && x.attempt = s.num PD.STEP_ATTEMPT

/-- A record of some kinds is taken from the link, checked, and acts when it is of the right attempt; others count (R298, R299). A record of
another kind is another command's. -/
def State.receiveRecord (s : State) (cls : Nat) (kinds : List Nat) (bytes : List Byte) (f : State → XHdr → List Byte → State) : State :=
  if !s.mode.hubRuns ∨ !(kinds.contains (fieldAt bytes 1 1) ∨ (XHdr.parse bytes (s.num PD.EXCH_SIZE)).isNone) then s
  else
    let s := s.takeMessage cls bytes
    match XHdr.parse bytes (s.num PD.EXCH_SIZE) with
    | none => s.bump PD.EXCH_REC_ERR
    | some (x, body) =>
      if s.fresh? x then f s x body
      else if x.kind = 8 ∧ s.lastCommit = some (x.step, x.attempt) then s.bump PD.EXCH_NOTICE_LATE
      else s.bump PD.EXCH_STALE

/-- C has passed for records (R305). -/
def State.late (s : State) : Bool := s.step.deadlinePassed || decide (s.step.contribution.toNat ≤ s.ctime.toNat)

/-- A late record is discarded and its sender told (R305). -/
def State.lateRecord (s : State) (x : XHdr) : State :=
  (s.bump PD.EXCH_LATE).sendTo x.sender 2
    (XHdr.record { kind := 8, attempt := x.attempt, layer := x.layer, step := x.step, sender := s.num PD.EXCH_MEMBER, pane := x.pane, tile := x.kind } [])

/-- FP32 values of a contribution's body. -/
def bodyValues (kind elements : Nat) (body : List Byte) : List Nat :=
  if kind = 2 then (List.range elements).map fun i => fieldAt body (12 * i + 8) 4
  else (chunks 4 (body.length / 4) body).map ofLe

/-- A DENSE or SPARSE record that is in time (R305, R310). -/
def State.takeContribution (s : State) (x : XHdr) (body : List Byte) : State :=
  if s.late then s.lateRecord x
  else
    let s := s.bump PD.EXCH_RECORDS
    if s.exch.excluded.contains x.sender ∨ x.excl then s
    else if (bodyValues x.kind x.elements body).all f32Finite then s.acceptOwn x body
    else if s.num PD.EXCH_POLICY = 1 then s.bump PD.EXCH_EXCLUDED
    else (s.reason rsNonfinite).acceptOwn x body

/-- CONTRIBUTION_RECORD (R298, R299, R305). -/
def execContributionRecord (bytes : List Byte) (s : State) : Res :=
  .next (s.receiveRecord 2 [1, 2] bytes fun s x body => s.takeContribution x body)

/-- LATE_NOTICE (R306): before the attempt's commit time it marks a record of this module's as missed. -/
def execLateNotice (bytes : List Byte) (s : State) : Res :=
  .next (s.receiveRecord 2 [8] bytes fun s x _ =>
    let k := (x.layer, x.pane, x.tile)
    if s.exch.sentLayers.contains x.layer ∧ !s.exch.missed.contains k then
      { s.bump PD.EXCH_RECORDS with exch := { s.exch with missed := s.exch.missed ++ [k] } }
    else s.bump PD.EXCH_RECORDS)

/-- EXCLUDE_RECORD (R310): before C the sender's records of the attempt are withdrawn. -/
def execExcludeRecord (bytes : List Byte) (s : State) : Res :=
  .next (s.receiveRecord 2 [9] bytes fun s x _ =>
    if s.late then s.lateRecord x
    else
      let s := s.bump PD.EXCH_RECORDS
      if s.exch.excluded.contains x.sender then s
      else { s.bump PD.EXCH_EXCLUDED with exch := { s.exch with
        excluded := s.exch.excluded ++ [x.sender]
        accepted := s.exch.accepted.filter fun r => r.sender ≠ x.sender
        proposals := s.exch.proposals.filter fun p => p.2.1 ≠ x.sender } })

/-- SET_RECORD (R313): a member's proposed outlier set. -/
def execSetRecord (bytes : List Byte) (s : State) : Res :=
  .next (s.receiveRecord 3 [6] bytes fun s x body =>
    if s.late then s.lateRecord x
    else
      let s := s.bump PD.EXCH_RECORDS
      if s.exch.excluded.contains x.sender ∨ x.excl then s
      else { s with exch := { s.exch with
        proposals := s.exch.proposals ++ [(x.layer, x.sender, (List.range x.elements).map fun i => fieldAt body (4 * i) 4)] } })

/-- STAGE_RECORD (R311): a tile of an IN tensor arrives. One that no IN tensor can hold counts in EXCH_REC_ERR (DEDUCED, log 32). -/
def execStageRecord (bytes : List Byte) (s : State) : Res :=
  .next (s.receiveRecord 2 [7] bytes fun s x body =>
    let tile := (bodyTiles 1 body).map fun l => l.headD []
    let isIn := (s.rows PD.STAGE_TABLE).any fun r => r.headD 0 = x.tensor && r.getD 1 0 = 1
    match s.tensor x.tensor, tile with
    | some t, some b =>
      if isIn ∧ x.tile < t.tiles then
        let s := (s.bump PD.EXCH_RECORDS).bump PD.STAGE_TILES
        let s := s.tileWrite t false x.tile b
        { s with exch := { s.exch with stageIn := s.exch.stageIn ++ [(x.tensor, x.tile)] } }
      else s.bump PD.EXCH_REC_ERR
    | _, _ => s.bump PD.EXCH_REC_ERR)

/-! ## Shards (R308, R309) -/

/-- Accepted records of a kind for a pane whose senders are not excluded. -/
def State.contributions (s : State) (kind layer pane : Nat) : List ExchRec :=
  s.exch.accepted.filter fun r => r.kind = kind && r.layer = layer && r.pane = pane && !s.exch.excluded.contains r.sender
    && !(r.sender = s.num PD.EXCH_MEMBER && s.exch.selfExcluded)

/-- Privileged rows of a pane. -/
def State.privRows (s : State) (l : Layer) (p : PaneRef) : List Nat :=
  (List.range p.rows).filter fun r => (s.priv p.layer).contains ((p.origin l).1 + r)

/-- The reduced gradient of an owned pane and its absent rows (R308). -/
def State.shard (s : State) (l : Layer) (p : PaneRef) : Shard :=
  let (r0, c0) := p.origin l
  let priv := s.privRows l p
  let dense := s.contributions 1 p.layer p.pane
  let sparse := s.contributions 2 p.layer p.pane
  let nd := total (dense.map (·.samples))
  let ns := total (sparse.map (·.samples))
  let entries := sparse.flatMap fun r => (List.range (r.body.length / 12)).map fun i =>
    (fieldAt r.body (12 * i) 4, fieldAt r.body (12 * i + 4) 4, f32 (BitVec.ofNat 32 (fieldAt r.body (12 * i + 8) 4)))
  let value := fun (r c : Nat) =>
    if priv.contains r then
      if ns = 0 then FV.zero
      else ((entries.filter fun e => e.1 = r0 + r && e.2.1 = c0 + c).foldl (fun a e => a.add e.2.2) FV.zero).div (.ofNat ns)
    else if nd = 0 then FV.zero
    else (dense.foldl (fun a d => a.add (f32 (denseAt d.body p.cols r c))) FV.zero).div (.ofNat nd)
  { layer := p.layer, pane := p.pane
    g := (List.range p.rows).flatMap fun r => (List.range p.cols).map fun c => toF32 (value r c).r32
    absent := (List.range p.rows).filter fun r => if priv.contains r then ns = 0 else nd = 0 }

/-- The kinds of an owned pane that are emitted with no samples. -/
def State.emptyKinds (s : State) (l : Layer) (p : PaneRef) : Nat :=
  let priv := (s.privRows l p).length
  b2n (priv < p.rows && total ((s.contributions 1 p.layer p.pane).map (·.samples)) = 0)
    + b2n (0 < priv && total ((s.contributions 2 p.layer p.pane).map (·.samples)) = 0)

/-- Too few members contributed to an owned pane that the step sends densely (R309). -/
def State.fewContributors (s : State) (l : Layer) (p : PaneRef) : Bool :=
  s.sendStep p.layer && (s.privRows l p).length < p.rows
    && ((s.contributions 1 p.layer p.pane).map (·.sender)).eraseDups.length < ceilShare (s.fv PD.EXCH_MIN_SHARE) (s.num PD.EXCH_SIZE)

/-! ## Twins (R315, R316) -/

/-- Blocks that a layer's placement uses. -/
def State.layerBlocks (s : State) (layer : Nat) : List Nat :=
  ((((s.place.map (·.layers)).getD []).filter fun p => p.layer = layer).flatMap fun p => p.groups.flatMap fun g => g.cells.map fun c => c / 16).eraseDups

/-- r of two shards: FP64, sums in element order. -/
def twinRatio (a b : List W32) : FV :=
  let n := add64 (norm64 a) (norm64 b)
  if n.isZero then .zero
  else div64 (((sum64 ((a.zip b).map fun x => let d := ((f32 x.1).sub (f32 x.2)).r64; mul64 d d)).sqrt).r64) n

/-- r-bar in force; it starts at the floor. -/
def State.rbar (s : State) : FV := if s.num PD.BOND_RBAR = 0 then s.fv PD.BOND_BAND_FLOOR else fp64.decode (s.num PD.BOND_RBAR)

/-- A pane disagrees in one attempt more: BOND is recorded unless it has a suspect side, and after BOND_PERSIST attempts it is contested, its
layer's blocks audited at once (R315, R316). -/
def State.paneDisagrees (s : State) (layer pane : Nat) (ratio : W64) : State :=
  let mine := fun (x : Nat × Nat × Nat) => x.1 = layer && x.2.1 = pane
  let times := ((s.exch.disagree.find? mine).map (·.2.2)).getD 0 + 1
  let found := s.exch.contested.find? fun c => c.layer = layer ∧ c.pane = pane
  let s : State := { s.bump PD.BOND_DISAGREE with exch := { s.exch with disagree := (s.exch.disagree.filter fun x => !mine x) ++ [(layer, pane, times)] } }
  let s := if (found.bind (·.suspect)).isSome then s else s.reason rsBond
  if s.num PD.BOND_PERSIST ≤ times ∧ found.isNone then
    let blocks := (s.layerBlocks layer).filter fun b => !s.faults.immediate.contains b
    { s with exch := { s.exch with contested := s.exch.contested ++ [⟨layer, pane, none, [ratio]⟩] }
             faults := { s.faults with immediate := s.faults.immediate ++ blocks } }
  else s

/-- The pane is compared, once both shards are there (R315, R316). -/
def State.compareTwin (s : State) (own : Shard) : State :=
  match s.exch.twinShards.find? fun t => t.layer = own.layer ∧ t.pane = own.pane with
  | none => s
  | some t =>
    if s.exch.ratios.any fun r => r.1 = own.layer && r.2.1 = own.pane then s
    else
      let r := twinRatio own.g t.g
      let limit := FV.max (s.fv PD.BOND_BAND_FLOOR) (mul64 (s.fv PD.BOND_BAND_FACTOR) s.rbar)
      let s : State := { s with exch := { s.exch with
        ratios := s.exch.ratios ++ [(own.layer, own.pane, toF64 r)]
        contested := s.exch.contested.map fun c => if c.layer = own.layer ∧ c.pane = own.pane then { c with history := c.history ++ [toF64 r] } else c } }
      if limit.lt r then s.paneDisagrees own.layer own.pane (toF64 r)
      else { s with exch := { s.exch with disagree := s.exch.disagree.filter fun x => !(x.1 = own.layer && x.2.1 = own.pane) } }

/-- A pane's values as TWIN records lay them out. -/
def paneBody (p : PaneRef) (g : List W32) : List Byte := denseBody p.rows p.cols fun r c => (g[r * p.cols + c]?).getD 0

/-- The values of a TWIN record's body, row-major; none when it is not of the pane's size. -/
def paneValues (p : PaneRef) (x : XHdr) (body : List Byte) : Option (List W32) :=
  if x.elements = p.tiles then some ((List.range p.rows).flatMap fun r => (List.range p.cols).map fun c => denseAt body p.cols r c) else none

/-- The owned pane that a record names. -/
def State.ownedRef (s : State) (layer pane : Nat) : Option PaneRef := s.ownedRefs.find? fun p => p.layer = layer ∧ p.pane = pane

/-- TWIN_SHARD (R315): the twin's reduced gradient of an owned pane. -/
def execTwinShard (bytes : List Byte) (s : State) : Res :=
  .next (s.receiveRecord 3 [10] bytes fun s x body =>
    match s.ownedRef x.layer x.pane with
    | none => s.bump PD.EXCH_REC_ERR
    | some p => match paneValues p x body with
      | none => s.bump PD.EXCH_REC_ERR
      | some g =>
        let s := s.bump PD.EXCH_RECORDS
        if !s.bonded ∨ s.exch.twinShards.any (fun t => t.layer = x.layer && t.pane = x.pane) then s
        else
          let s : State := { s with exch := { s.exch with twinShards := s.exch.twinShards ++ [⟨x.layer, x.pane, g, []⟩] } }
          match s.exch.shards.find? fun o => o.layer = x.layer ∧ o.pane = x.pane with
          | some own => s.compareTwin own
          | none => s)

/-- Owned panes whose twin shard has not been compared. -/
def State.twinMissing (s : State) : Bool :=
  s.ownedRefs.any fun p => !(s.exch.ratios.any fun r => r.1 = p.layer && r.2.1 = p.pane)

/-- TWIN_SHARD_DEADLINE (R315): at C + VOTE_WINDOW / 2 a missing TWIN_SHARD record records BOND. -/
def execTwinShardDeadline (s : State) : Res :=
  match s.fireDeadline .twinShard with
  | none => .next s
  | some s => .next (if s.bonded && s.twinMissing then s.reason rsBond else s)

/-- The twin's deadline of the attempt has fired, or there is none. -/
def State.twinDeadlineGone (s : State) : Bool := !(s.events.any fun e => e.kind = .twinShard) && !s.step.due.contains .twinShard

/-! ## The contribution deadline (R304, R308, R309) -/

/-- What C does, in the order of R304, then the shards. -/
def State.atDeadline (s : State) : State :=
  let s := s.selfExclude
  let layers := ((s.plan.map (·.layers)).getD []).zipIdx
  let s := s.endPhase .forward
  let s := s.endPhase .backward
  let s := s.stopArrays.resetStreams
  let s : State := { s with step := { s.step with deadlinePassed := true } }
  let s := s.bumpBy PD.EXCH_UNSENT ((layers.filter fun l => exchanged l.1 && !s.exch.sentLayers.contains l.2).length)
  let owned := s.ownedRefs
  let s := s.each owned fun s p =>
    match s.layer p.layer with
    | none => s
    | some l =>
      let s := s.bumpBy PD.EXCH_EMPTY (s.emptyKinds l p)
      let s := if s.fewContributors l p then s.reason rsExchange else s
      { s with exch := { s.exch with shards := s.exch.shards ++ [s.shard l p] } }
  if s.bonded then
    let s := s.each owned fun s p =>
      match s.exch.shards.find? fun x => x.layer = p.layer ∧ x.pane = p.pane with
      | some sh =>
        let m := XHdr.record { s.xhdr 10 p.layer with pane := p.pane, elements := p.tiles } (paneBody p sh.g)
        s.send 3 s.twin m
      | none => s
    s.each s.exch.shards fun s sh => s.compareTwin sh
  else s

/-- CONTRIBUTION_DEADLINE (R304): the step's descriptors stop, its streams are reset, nothing more is sent, and the owned shards are emitted. -/
def execContributionDeadline (s : State) : Res :=
  match s.fireDeadline .contribution with
  | none => .next s
  | some s => .next (if s.step.attempt then s.atDeadline else s)

/-! ## The exchange at a COMMIT (R301, R302, R307, R313, R315) -/

/-- A missed record is carried (R307). -/
def State.carried (s : State) (layer pane kind : Nat) : Bool := s.flag PD.EXCH_CARRY_LATE && s.exch.missed.contains (layer, pane, kind)

/-- Stretchers of a pane after the commit: the integer of v less the value that a record took (R301). -/
def State.stretchPane (s : State) (l : Layer) (p : PaneRef) : List (Nat × BitVec 320) :=
  let n := (gradDims l).2
  let (r0, c0) := p.origin l
  let priv := s.priv p.layer
  let send := s.sendStep p.layer
  let k := (s.thin p.layer).2
  (List.range p.rows).foldl (fun m r =>
    let ch := r0 + r
    let isP := priv.contains ch
    let top := if isP then s.topColumns p.layer n k ch else []
    (List.range p.cols).foldl (fun m c =>
      let v := s.sentValue p.layer n ch (c0 + c)
      let sent : Bool := if isP then top.contains (c0 + c) else send
      let kept := sent && !s.carried p.layer p.pane (if isP then 2 else 1)
      let left := if kept then v.sub v.r32 else v
      kvSet (fun _ => (0 : BitVec 320)) m (stretchKey p.layer (ch * n + c0 + c)) (BitVec.ofInt 320 (left.scale 149).toInt)) m) s.exch.stretch

/-- Sample counts of a pane after the commit (R302, R307). -/
def State.countPane (s : State) (l : Layer) (p : PaneRef) : State :=
  let z := fun (_ : Nat) => (0 : Nat)
  let put := fun (s : State) (kind n : Nat) (flag : Bool) =>
    let c := kvSet z (kvSet z s.exch.carriedSamples (carryKey p.layer p.pane kind) n) (carryKey p.layer p.pane (kind + 8)) (b2n flag)
    { s with exch := { s.exch with carriedSamples := c } }
  let recs := (s.paneRecords l p).map (·.1)
  let s := s.bumpBy PD.EXCH_CARRIED ((recs.filter fun x => s.carried p.layer p.pane x.kind).length)
  let thinned : Bool := 1 < (s.thin p.layer).1
  let s := s.each recs fun s x =>
    let lost := s.carried p.layer p.pane x.kind
    put s x.kind (if lost && !(thinned && x.kind = 1) then x.samples else 0) lost
  if !thinned then s
  else
    let ends := s.sendStep p.layer && !s.carried p.layer p.pane 1
    let a := kvGet z s.exch.accum (accumKey p.layer p.pane) + s.stepSamples p.layer
    { s with exch := { s.exch with accum := kvSet z s.exch.accum (accumKey p.layer p.pane) (if ends then 0 else a) } }

/-- The union sets that this module's panes take (R313): every channel while the layer is cold. -/
def State.unionSets (s : State) : List (Nat × List Nat) :=
  (((s.plan.map (·.layers)).getD []).zipIdx.filter fun l => l.1.kind = 1 && l.1.groutG ≠ 0).map fun l =>
    let all := ((s.exch.proposals.filter fun p => p.1 = l.2).flatMap (·.2.2)).eraseDups
    (l.2, if (s.num? l.2).cold then List.range l.1.k else sortBy (fun (a b : Nat) => decide (a ≤ b)) (all.filter (· < l.1.k)))

/-- Stretchers, counts and the waiting of what was not sent take effect at a COMMIT; a member that excluded itself leaves them as they were
(R310). Every value is computed from the state before. -/
def State.commitExchange (s : State) : State :=
  let unions := s.unionSets
  let m := s.exch.ratios.foldl (fun (a : FV) r => a.max (f64 r.2.2)) .zero
  let s : State := { s with exch := { s.exch with unions := unions, disagree := [] } }
  let s := if s.bonded && !s.exch.ratios.isEmpty then
      s.setNum PD.BOND_RBAR (toF64 (add64 s.rbar (div64 (m.sub s.rbar).r64 (.ofNat 16)))).toNat
    else s
  if s.exch.selfExcluded then s
  else
    let sent := s.owners.filter fun p => s.exch.sentLayers.contains p.1.layer
    let old := s
    let s := s.each sent fun s p => match old.layer p.1.layer with
      | some l => s.countPane l p.1
      | none => s
    let stretch := sent.foldl (fun (x : List (Nat × BitVec 320)) p => match old.layer p.1.layer with
      | some l => if old.stretched p.1.layer then { old with exch := { old.exch with stretch := x } }.stretchPane l p.1 else x
      | none => x) old.exch.stretch
    { s with exch := { s.exch with stretch := stretch } }

/-! ## The all-gather (R312-R314) -/

/-- GATHER records that a commit awaits: those of every pane that another member owns (R312, R313). -/
def State.gatherDue (s : State) : List (Nat × Nat × Nat) :=
  (s.owners.filter fun p => p.2 ≠ s.num PD.EXCH_MEMBER).flatMap fun p =>
    let rows : Bool := (s.layer p.1.layer).any fun l => l.kind = 1 && l.groutG ≠ 0
    (if rows then [3, 4, 5] else [3, 4]).map fun k => (p.1.layer, p.1.pane, k)

/-- Members that receive this module's GATHER records: every other one of its group, and under BOND_ALONE those of the twin's (R312, R318). -/
def State.gatherAddrs (s : State) : List Addr :=
  let group := (List.range (s.num PD.EXCH_SIZE)).filterMap s.memberAddr
  let all := if s.flag PD.BOND_ALONE then group ++ group.map fun a => { a with side := 1 - a.side } else group
  all.filter fun a => a ≠ s.self && !(s.flag PD.BOND_ALONE && a = s.twin)

/-- One GATHER record of a pane leaves for every receiver. -/
def State.sendGather (s : State) (kind layer pane : Nat) (tiles : List (List Byte)) : State :=
  match s.lastCommit with
  | none => s
  | some (st, at_) =>
    let x : XHdr := { kind := kind, attempt := at_, layer := layer, step := st, sender := s.num PD.EXCH_MEMBER, pane := pane, elements := tiles.length }
    let m := x.record tiles.flatten
    s.each s.gatherAddrs fun s a => s.send 3 a m

/-- QF8A tiles that hold the rows of the union set within a pane: whole tile rows of the pane, rows in their places, others zero (DESIGN CHOICE, log 33). -/
def State.rowTiles (s : State) (l : Layer) (p : PaneRef) (union : List Nat) : List (List Byte) :=
  let (r0, c0) := p.origin l
  let mine := union.filter fun c => r0 ≤ c && c < r0 + p.rows
  (List.range (ceilDiv p.rows 128)).flatMap fun ti =>
    let chans := mine.filter fun c => (c - r0) / 128 = ti
    if chans.isEmpty then []
    else (List.range (ceilDiv p.cols 128)).map fun tj =>
      let hd : Hdr := ⟨0x0A, min 128 (p.rows - 128 * ti), min 128 (p.cols - 128 * tj), p.layer, r0 / 128 + ti, c0 / 128 + tj, 0, 0,
        s.num PD.STEP_NUMBER, f32One⟩
      let row := fun (r : Nat) => (s.upd.outRows.find? fun o => o.layer = p.layer ∧ o.channel = r0 + 128 * ti + r ∧ chans.contains o.channel)
      let scales := (List.range 128).flatMap fun r => (List.range 4).map fun q =>
        BitVec.ofNat 8 (((row r).bind fun o => o.scales[(c0 + 128 * tj) / 32 + q]?).getD 0)
      let codes := (List.range 128).flatMap fun r => packRow 8 ((List.range 128).map fun c =>
        ((row r).bind fun o => o.codes[c0 + 128 * tj + c]?).getD 0)
      hdrBytes hd ++ scales ++ codes

/-- The outlier rows that a GATHER_ROWS tile brings for the channels a member wants. -/
def tileRows (l : Layer) (b : List Byte) (want : Nat → Bool) (old : List OutRow) : List OutRow :=
  let h := hdrOf b
  ((List.range h.rows).filter fun r => want (128 * h.tileRow + r)).map fun r =>
    let ch := 128 * h.tileRow + r
    let o := old.find? fun o => o.layer = h.layer ∧ o.channel = ch
    let codes := (List.range l.n).map fun i => (((o.map (·.codes)).getD [])[i]?).getD 0
    let scales := (List.range (ceilDiv l.n 32)).map fun i => (((o.map (·.scales)).getD [])[i]?).getD 0
    let c0 := 128 * h.tileCol
    let codes := codes.zipIdx.map fun x => if c0 ≤ x.2 ∧ x.2 < c0 + h.cols then tileCode b 0x0A r (x.2 - c0) else x.1
    let scales := scales.zipIdx.map fun x => if c0 / 32 ≤ x.2 ∧ x.2 < c0 / 32 + 4 then (fieldAt b (64 + 4 * r + (x.2 - c0 / 32)) 1) else x.1
    ⟨h.layer, ch, scales, codes⟩

/-- A GATHER record awaited no longer. -/
def State.gathered (s : State) (k : Nat × Nat × Nat) : State :=
  { s with exch := { s.exch with awaited := s.exch.awaited.filter (· ≠ k), gathered := s.exch.gathered ++ [k] } }

/-- The tiles of a GATHER record go to their tensor (R312). -/
def State.putTiles (s : State) (t : Tensor) (tiles : List (List Byte)) : State :=
  s.writeTiles t ((tiles.map fun b => ((hdrOf b).tileRow * t.cols + (hdrOf b).tileCol, b)).filter fun x =>
    (hdrOf x.2).tileCol < t.cols && x.1 < t.tiles)

/-- GATHER_RECORD (R312-R314): the committed copies of a pane that another member owns. -/
def execGatherRecord (bytes : List Byte) (s : State) : Res :=
  .next (s.receiveRecord 3 [3, 4, 5] bytes fun s x body =>
    match s.layer x.layer, bodyTiles x.elements body with
    | some l, some tiles =>
      let s := s.bump PD.EXCH_RECORDS
      let k := (x.layer, x.pane, x.kind)
      if x.kind = 5 then
        let n := s.num? x.layer
        let want := fun (c : Nat) => n.cold || n.set.contains c
        let s := s.each tiles fun s b => s.putOutRows (tileRows l b want s.upd.outRows)
        let got := tiles.map fun b => (hdrOf b).tileRow
        match s.owners.find? fun p => p.1.layer = x.layer ∧ p.1.pane = x.pane with
        | some (p, _) =>
          let r0 := (p.origin l).1
          if n.set.all fun c => c < r0 || r0 + p.rows ≤ c || got.contains (c / 128) then s.gathered k else s
        | none => s
      else
        let t := if x.kind = 3 then s.tensor l.weight else s.ownTensor x.layer 1
        let s := match t with
          | some t => s.putTiles t tiles
          | none => s
        (if x.kind = 3 then s.rewriteArrays else s).gathered k
    | _, _ => s.bump PD.EXCH_REC_ERR)

/-- GATHER_DEADLINE (R314, R317): what is missing at G leaves the module apart from its group: HELD under R293. -/
def execGatherDeadline (s : State) : Res :=
  match s.fireDeadline .gather with
  | none => .next s
  | some s =>
    let n := s.exch.awaited.length
    if n = 0 ∧ s.exch.ownDeltas.isEmpty then .next s
    else
      let s := s.bumpBy PD.GATHER_MISSING n
      let s := s.spall { kind := 0x24, level := 3, mech := 17, outcome := 3, detail := [detailUint 0 n] }
      .next (({ s with exch := { s.exch with awaited := [], ownDeltas := [] } }).hold rsFault)

/-! ## Twin deltas (R317) -/

/-- The averaged delta: round(d1 + d2) / 2, or the other side's alone for a suspect side; none when either is not finite. -/
def State.twinDelta (s : State) (layer pane : Nat) (own other : List W32) : Option (List W32) :=
  if !matFinite own ∨ !matFinite other then none
  else match (s.exch.contested.find? fun c => c.layer = layer ∧ c.pane = pane).bind (·.suspect) with
    | some 0 => some other
    | some _ => some own
    | none => some (matZip (fun x y => (div32 (add32 x y) (.ofNat 2))) own other)

/-- TWIN_DELTA (R317, R324): the twin's delta of a pane; both twins apply the same bits. -/
def execTwinDelta (bytes : List Byte) (s : State) : Res :=
  .next (s.receiveRecord 3 [11] bytes fun s x body =>
    match s.ownedRef x.layer x.pane with
    | none => s.bump PD.EXCH_REC_ERR
    | some r => match paneValues r x body with
      | none => s.bump PD.EXCH_REC_ERR
      | some other =>
        let s := s.bump PD.EXCH_RECORDS
        let mine := fun (d : Shard) => d.layer = x.layer && d.pane = x.pane
        match s.exch.ownDeltas.find? mine, s.findPane x.layer x.pane with
        | some d, some p =>
          let s : State := { s with exch := { s.exch with ownDeltas := s.exch.ownDeltas.filter fun y => !mine y } }
          let stats := (s.upd.updated.find? fun u => u.1 = x.layer && u.2.1 = x.pane).any (·.2.2.2)
          let rest := s.upd.updated.filter fun u => !(u.1 = x.layer && u.2.1 = x.pane)
          match s.twinDelta x.layer x.pane d.g other with
          | some a => { (s.setPane (p.apply a)) with upd := { (s.setPane (p.apply a)).upd with updated := rest ++ [(x.layer, x.pane, true, stats)] } }
          | none => { s with upd := { s.upd with updated := rest ++ [(x.layer, x.pane, false, stats)] } }
        | _, _ => s)

end Sys2Proof.Machine
end

