-- ==== Sys2Proof/Machine/Foreman.lean ====
section
/-! DEFINITION. Machine/Foreman.lean: die temperatures (R428) and the maintenance arbiter (R481-R483).
Resources in FOREMAN_QUEUE (DESIGN CHOICE, log 6): calibration 0-7 probes of a die, 8 the idle-bank write, 16 + die*5 + set a set's flash write; audit
die*128 + block; spall export 0 flash, 1 host, 2 collector; scrubbing the store; firmware staging 0; spare slice the converter. -/
namespace Sys2Proof.Machine

/-- A channel's T16: its value in sixteenths, to nearest (R428). -/
def State.chanT16 (s : State) (ch : Nat) : Int :=
  ((f32 (kvGet (fun _ => ({} : ChanResult)) s.meas.results ch).value).scale 4).toInt

/-- T16 of a die by its code (R428): AD, GD (the larger sensor), HD, UD, MS. -/
def State.dieT16 (s : State) (d : Nat) : Int :=
  let side := fun (w : Nat) => w / 4 * 48
  if d < 8 then s.chanT16 (side d + d % 4)
  else if d < 16 then max (s.chanT16 (side (d - 8) + 4 + 2 * (d % 4))) (s.chanT16 (side (d - 8) + 5 + 2 * (d % 4)))
  else if d < 18 then s.chanT16 ((d - 16) * 48 + 16)
  else if d < 20 then s.chanT16 ((d - 18) * 48 + 17)
  else s.chanT16 (side (d - 20) + 12 + d % 4)

def activityNum : Activity → Nat
  | .calibration => 0 | .audit => 1 | .spallExport => 2 | .scrubbing => 3 | .firmwareStaging => 4 | .slice => 5

/-- Grants that hold the QSPI interface (R481). -/
def usesQspi (a : Activity) (r : Nat) : Bool :=
  match a with
  | .calibration => decide (16 ≤ r)
  | .spallExport => r = 0
  | .firmwareStaging => true
  | _ => false

/-- Two grants hold a common resource (R481): the QSPI interface, one die's probe slots, one wythe's popcount blocks, one store, one converter. -/
def grantsConflict (a : Activity) (r : Nat) (b : Activity) (q : Nat) : Bool :=
  (usesQspi a r && usesQspi b q) || (a = b && r = q && a ≠ .spallExport)
  || (a = .calibration && b = .audit && decide (r < 8) && r = q / 128 % 8) || (a = .audit && b = .calibration && decide (q < 8) && q = r / 128 % 8)
  || (a = .audit && b = .audit && r / 128 % 8 = q / 128 % 8)

/-- Microseconds of published time since a request arrived. -/
def State.waitUs (s : State) (r : Request) : Nat := (s.ctime.toNat - r.time.toNat) * s.num PD.COURSE_PERIOD_NS / 65536 / 1000

/-- A request arrives at the Foreman, once (R481). -/
def State.request (s : State) (a : Activity) (r : Nat) : State :=
  if s.faults.queue.any fun x => x.activity = a && x.resource = r then s
  else
    let (n, g, w) := (s.faults.stats[activityNum a]?).getD (0, 0, 0)
    let stats := if s.faults.stats.isEmpty then List.replicate 6 (0, 0, 0) else s.faults.stats
    { s with faults := { s.faults with queue := s.faults.queue ++ [⟨a, r, s.ctime, false⟩], stats := stats.set (activityNum a) (n + 1, g, w) } }

/-- x goes before y: one past its bound first, then by priority, then by arrival (R481, R482). -/
def Request.before (x y : Request) : Bool :=
  if x.bound ≠ y.bound then x.bound else if x.bound then true else activityNum x.activity ≤ activityNum y.activity

/-- The Foreman grants a request when no running grant and no earlier waiting request holds a common resource; else it stays queued (R481). The
grant's outcome: taken, and the state with its statistics. -/
def State.grant (s : State) (a : Activity) (r : Nat) : Bool × State :=
  let s := s.request a r
  match s.faults.queue.findIdx? fun x => x.activity = a && x.resource = r with
  | none => (false, s)
  | some i =>
    match s.faults.queue[i]? with
    | none => (false, s)
    | some me =>
      let ahead := s.faults.queue.zipIdx.any fun x => x.2 ≠ i && grantsConflict a r x.1.activity x.1.resource
        && (if x.2 < i then x.1.before me else !me.before x.1)
      let busy := s.faults.running.any fun x => grantsConflict a r x.activity x.resource
      if ahead ∨ busy then (false, s)
      else
        let (n, g, w) := (s.faults.stats[activityNum a]?).getD (0, 0, 0)
        let s := if me.bound then s.bump PD.FOREMAN_LATE else s
        (true, { s with faults := { s.faults with queue := s.faults.queue.eraseIdx i, stats := s.faults.stats.set (activityNum a) (n, g + 1, max w (s.waitUs me)) } })

/-- A grant that lasts begins and ends (R481, R170). -/
def State.startGrant (s : State) (a : Activity) (r : Nat) : State :=
  { s with faults := { s.faults with running := s.faults.running ++ [⟨a, r, s.ctime, false⟩] } }
def State.endGrant (s : State) (a : Activity) (r : Nat) : State :=
  { s with faults := { s.faults with running := s.faults.running.filter fun x => !(x.activity = a && x.resource = r) } }

/-- On entry to COAST running grants end unfinished and return to the head of the queue (R483). -/
def State.requeueGrants (s : State) : State :=
  { s with faults := { s.faults with queue := s.faults.running ++ s.faults.queue, running := [] } }

/-- Scrubbing, spall export, firmware staging and slice calibration run from BOOT to FAULT, but not in FROZEN and COAST (R483). -/
def Mode.maintains : Mode → Bool
  | .boot | .calibrate | .held | .armed | .run | .drain | .fault => true
  | _ => false

/-- Grants that need issue slots: calibration probes and audits (R439, R482). -/
def needsSlots (a : Activity) (r : Nat) : Bool := a = .audit || (a = .calibration && decide (r < 8))

/-- FOREMAN_BOUND (R482): a request that has waited its bound moves ahead; the idle-bank write waits for its boundary, and time in FROZEN or
COAST does not count, nor time with F below 64 for a grant that needs issue slots. -/
def execForemanBound (activity : Activity) (resource : Nat) (s : State) : Res :=
  if s.mode = .frozen ∨ s.mode = .coast ∨ (activity = .calibration ∧ resource = 8)
      ∨ (needsSlots activity resource ∧ s.num PD.LEVEL_F < 64) then .next s
  else .next { s with faults := { s.faults with queue := s.faults.queue.map fun x =>
    if x.activity = activity ∧ x.resource = resource then { x with bound := true } else x } }

end Sys2Proof.Machine
end

