-- ==== Sys2Proof/Machine/Audits.lean ====
section
/-! DEFINITION. Machine/Audits.lean: the rolling audit and the export of spall records (R467-R474, R487). -/
namespace Sys2Proof.Machine

/-! ## Comparisons of an array block (R127, R470) -/

/-- Peak error of a row group, in LSB (R127). -/
def peakError (rows : Nat) : Nat := if rows ≤ 64 then 2 else if rows ≤ 128 then 3 else 4
/-- rms error of a row group, in tenths of an LSB (R127). -/
def rmsTenths (rows : Nat) : Nat := if rows ≤ 64 then 5 else if rows ≤ 128 then 6 else 10

def auditHard (a : ArrayAudit) : Bool := decide (peakError a.rows < a.largest)

/-- rms of the differences above AUDIT_RMS_FACTOR times the table's: compared exactly, by squares. -/
def auditDrift (a : ArrayAudit) (factor : FV) : Bool :=
  let limit := factor.mul (.ratio (rmsTenths a.rows) 10)
  !(decide (peakError a.rows < a.largest)) && decide (0 < a.count) && (limit.mul limit).lt (.ratio a.sumSq a.count)

/-- The committed steps that a fault found now can have shaped (R467). -/
def State.auditSpan (s : State) (die block : Nat) : Nat × Nat :=
  (kvGet (fun _ => 0) s.faults.audits (die * 128 + block), s.num PD.STEP_NUMBER - 1)

def auditDetail (a : ArrayAudit) (rest : List (List Byte)) : List (List Byte) :=
  [detailUint 0 a.largest, detailUint 1 (isqrt (1000000 * a.sumSq / max 1 a.count))] ++ rest

/-- A mismatch on one side, or a confirmed repeat, in an immediate audit makes this side the suspect side of the contested panes whose layer
the block serves (R316, R473). -/
def State.suspectSide (s : State) (key : Nat) : State :=
  if !s.faults.immediate.contains key then s
  else { s with exch := { s.exch with contested := s.exch.contested.map fun c =>
    if (s.layerBlocks c.layer).contains key then { c with suspect := c.suspect.or (some 0) } else c } }

/-- The repeat of a failed computation (R474): transient, or one confirmation; true when confirmed. -/
def State.repeatResult (s : State) (u : FaultUnit) (agrees : Bool) : Bool × State :=
  if agrees then (false, s.bump PD.REPEATS_TRANSIENT) else (true, s.confirm u 8)

/-- OUTCOME of a mismatch's record: VOID while a step is open, since reason AUDIT voids it (R472, R487's example), else how the repeat ended. -/
def State.auditOutcome (s : State) (confirmed : Bool) : Nat := if s.step.opened then 2 else if confirmed then 7 else 6

/-- One audited cell of an array block: true when it is clean. -/
def State.auditCell (s : State) (die block : Nat) (a : ArrayAudit) : Bool × State :=
  let u : FaultUnit := ⟨die, block, a.cell⟩
  let key := die * 2048 + block * 16 + a.cell
  let waits := s.faults.drifts.contains key
  let forget := fun (s : State) => ({ s with faults := { s.faults with drifts := s.faults.drifts.filter (· ≠ key) } } : State)
  let span := s.auditSpan die block
  let record := fun (s : State) (kind : Nat) (outcome : Nat) (rest : List (List Byte)) =>
    s.spall { spallPlace { kind := kind, level := 0, mech := 8, outcome := outcome, detail := auditDetail a rest } u with span := some span }
  if auditHard a then
    let s := (s.bump PD.AUDIT_MISMATCHES).reason rsAudit
    let n := s.confirms u
    let (confirmed, s) := s.repeatResult u a.repeatAgrees
    let s := record s 0x10 (s.auditOutcome confirmed) [detailUint 2 (b2n confirmed), detailUint 3 (n + b2n confirmed)]
    (false, s.suspectSide (die * 128 + block))
  else if auditDrift a (s.fv PD.AUDIT_RMS_FACTOR) then
    let s := s.bump PD.AUDIT_DRIFTS
    let n := s.confirms u
    let s := if waits then (s.repeatResult u false).2 else s
    let s := record s 0x11 (if waits then 7 else 0) ((if waits then [detailUint 2 1] else []) ++ [detailUint 3 (n + b2n waits)])
    let s := if waits then s.suspectSide (die * 128 + block) else s
    (false, { forget s with faults := { (forget s).faults with drifts := (forget s).faults.drifts ++ [key] } })
  else if waits then (true, forget (s.repeatResult u true).2)
  else (true, s)

/-! ## The comparison of a gradient-die block (R471) -/

/-- One comparison of the audited unit with two others: true when it is clean. -/
def State.auditDigital (s : State) (die block : Nat) (d : DigitalAudit) : Bool × State :=
  if d.own = d.second then (true, s)
  else
    let unit := fun (b c : Nat) => (⟨die, b, if d.rowEngine then 255 else c⟩ : FaultUnit)
    let mine := unit block d.cell
    let other := unit d.secondBlock d.secondCell
    let s := (s.bump PD.AUDIT_MISMATCHES).reason rsAudit
    let span := s.auditSpan die block
    let record := fun (s : State) (u : FaultUnit) (confirmed : Bool) (n : Nat) =>
      s.spall { spallPlace { kind := 0x10, level := 0, mech := 8, outcome := s.auditOutcome confirmed,
                             detail := [detailUint 2 (b2n confirmed), detailUint 3 (n + b2n confirmed)] } u with span := some span }
    let fails := if d.third = d.own then [other] else if d.third = d.second then [mine] else [mine, other]
    let s := s.each fails fun s u =>
      let n := s.confirms u
      let (confirmed, s) := s.repeatResult u d.repeatAgrees
      if fails.length = 1 ∨ confirmed = true then record s u confirmed n else s
    let s := if fails.length = 2
      then s.spall { spallPlace { kind := 0x12, level := 0, mech := 8, outcome := if s.step.opened then 2 else 1, detail := [detailArray 0 [die, other.block, other.cell]] } mine
                     with span := some span }
      else s
    (false, s.suspectSide (die * 128 + block))

/-! ## AUDIT (R469, R472, R483) -/

/-- A weight write to the block's die is open (R483). -/
def State.writesOpen (s : State) (die block : Nat) : Bool :=
  s.arrays.writes.any fun w => w.1 / 2048 = die && w.1 % 2048 / 16 = block

/-- AUDIT (R469): one grant, in RUN, with every issue slot open, on a block in service. Its comparisons end before the module forms its verdict,
or it is abandoned and the block stays due (R472). -/
def execAudit (die block : Nat) (data : AuditData) (s : State) : Res :=
  let key := die * 128 + block
  if s.mode ≠ .run ∨ 16 ≤ die ∨ 128 ≤ block ∨ s.num PD.LEVEL_F < 64 ∨ s.faults.retiredBlocks.contains key ∨ s.writesOpen die block then .next s
  else match s.grant .audit key with
    | (false, s) => .next s
    | (true, s) =>
      let abandoned := s.bump PD.AUDITS_ABANDONED
      if s.step.verdictFormed then .next abandoned
      else
        let done := fun (clean : Bool) (s : State) =>
          let s := s.bump PD.AUDITS_DONE
          let audits := if clean then kvSet (fun _ => 0) s.faults.audits key (s.num PD.STEP_NUMBER) else s.faults.audits
          ({ s with faults := { s.faults with audits := audits, immediate := s.faults.immediate.filter (· ≠ key) } } : State)
        match data with
        | .abandoned => .next abandoned
        | .array cells =>
          let mine := cells.filter fun a => decide (a.cell < 16) && !s.faults.retiredCells.contains (die * 2048 + block * 16 + a.cell)
          if 8 ≤ die ∨ mine.isEmpty then .next s
          else
            let (clean, s) := mine.foldl (fun (acc : Bool × State) a =>
              let (ok, s) := acc.2.auditCell die block a
              (acc.1 && ok, s)) (true, s)
            .next (done clean s)
        | .digital mac row =>
          if die < 8 then .next s
          else
            let (a, s) := s.auditDigital die block { mac with rowEngine := false }
            let (b, s) := s.auditDigital die block { row with rowEngine := true }
            .next (done (a && b) s)

/-! ## Spall export (R487) -/

/-- The next record of this module's own that a destination has not had. -/
def State.nextRecord (s : State) (after : Nat) : Option (Nat × List Byte) := s.faults.ring.find? fun r => decide (after < r.1)

/-- The region of a spall export and the place of a record in it. -/
def State.spallOffset (s : State) (seq : Nat) : Nat := 512 * (seq % max 1 (s.regionSize (s.num PD.SPALL_HOST_REGION) / 512))

/-- The collector's address (R488). -/
def State.collector (s : State) : Option Addr :=
  let v := s.num PD.SPALL_COLLECTOR
  if v = 0xFFFF then none else some ⟨bits v 12 1, bits v 6 6, bits v 0 6⟩

/-- SPALL_EXPORT (R487): one grant copies the next record to one destination that is enabled. -/
def execSpallExport (dest : SpallDest) (s : State) : Res :=
  let f := s.faults
  let region := s.num PD.SPALL_HOST_REGION
  let (on, after, r) : Bool × Nat × Nat := match dest with
    | .flash => (s.flag PD.SPALL_FLASH_EN, f.toFlash, 0)
    | .host => (decide (0 < s.regionSize region), f.toHost, 1)
    | .collector => (s.collector.isSome, f.toCollector, 2)
  match s.nextRecord after with
  | none => .next s
  | some (seq, rec) =>
    if !on ∨ !s.mode.maintains then .next s
    else match s.grant .spallExport r with
      | (false, s) => .next s
      | (true, s) => match dest with
        | .flash =>
          let s := s.write stFlash (0x38000000 + 512 * (seq % 32768)) (padTo 512 rec)
          let s : State := { s with faults := { s.faults with toFlash := seq, flashSeq := max s.faults.flashSeq seq } }
          .next (s.setNum PD.SPALL_FLASH_NEXT ((seq + 1) % 32768))
        | .host =>
          if s.hostReachable region then
            .next { s.emit (.hostWrite region (s.spallOffset seq) (padTo 512 rec)) with faults := { s.faults with toHost := seq } }
          else .next (s.bump PD.HOST_DMA_ERR)
        | .collector => match s.collector with
          | some a => .next { s.send 5 a rec with faults := { s.faults with toCollector := seq } }
          | none => .next s

/-- SPALL_RECEIVED (R487): a record of another module enters the ring as it is and takes none of this module's SEQ; the ring numbers it 0. -/
def execSpallReceived (bytes : List Byte) (s : State) : Res :=
  if !s.mode.hubRuns then .next s
  else
    let s := s.takeMessage 5 bytes
    let old := s.faults.ring
    let lost : Bool := decide (4096 ≤ old.length) && decide (s.num PD.SPALL_ACK < (old.head?.map (·.1)).getD 0)
    let s : State := { s with faults := { s.faults with ring := pushLast 4096 old (0, bytes) } }
    .next ((if lost then s.bump PD.SPALL_LOST else s).cause irqSpall)

end Sys2Proof.Machine
end

