-- ==== Sys2Proof/Machine/Checks.lean ====
section
/-! DEFINITION. Machine/Checks.lean: the entry checks of a descriptor in the order of their status codes (R69, R78, R79, R542-R544). -/
namespace Sys2Proof.Machine

/-- The fields a descriptor uses beyond DST (R69, R77). -/
structure Uses where
  aux : Bool
  count : Bool
  length : Bool
  seq : Bool
  byte : Bool
  host : Bool
  srcHost : Bool
  dstHost : Bool
  deriving DecidableEq, Repr

/-- Field use by station and OPCODE; a HOD side whose tensor field is zero lies in host memory (R77). -/
def usesOf (st : Nat) (d : Desc) : Uses :=
  let hod : Bool := st = stHod
  let sh := hod && d.src = 0
  let dh := hod && d.dst = 0
  { aux := st = stGrout || st = stBwdx || st = stBwdw || st = stAttn || st = stRow || st = stUpdate
      || (st = stAct && (d.opcode = 4 || d.opcode = 0x84)) || (st = stReduce && d.opcode = 1)
    count := !(hod && d.opcode = 2)
    length := st = stFwd || st = stGrout || st = stBwdx || st = stBwdw || st = stAttn
    seq := st = stAttn || st = stTopk
    byte := hod && (d.opcode = 2 || sh || dh)
    host := sh || dh
    srcHost := sh
    dstHost := dh }

/-- OPCODE values listed for a station (R68). -/
def opcodesOf (st : Nat) : List Nat :=
  if st = stFwd then [1, 2]
  else if st = stAct then [1, 2, 3, 4, 5, 6, 0x81, 0x82, 0x83, 0x84, 0x85, 0x86]
  else if st = stRow then [1, 2, 3, 0x81, 0x82, 0x83]
  else if st = stAttn then [1, 0x81]
  else if st = stReduce ∨ st = stHod then [1, 2, 3, 4]
  else [1]

/-- Every field that the OPCODE does not use is zero (R69, R77). -/
def unusedZero (u : Uses) (d : Desc) : Bool :=
  (u.aux || (d.aux = 0 && d.auxTile = 0)) && (!u.srcHost || d.srcTile = 0) && (!u.dstHost || d.dstTile = 0)
    && (u.count || d.count = 0) && (u.length || d.length = 0) && (u.seq || d.seqPos = 0) && (u.byte || d.byteLen = 0)
    && (u.host || (d.hostRegion = 0 && d.hostOffset = 0))

/-- Groups exist at the station for the OPCODE (R78). -/
def groupedAt (st op : Nat) : Bool :=
  st = stFwd || st = stGrout || st = stBwdx || st = stBwdw || (st = stReduce && op = 1) || (st = stAttn && op = 0x81)

/-- Work of the backward direction: what begins BACKWARD (R276) and opens no step (R275, DEDUCED, log 25). -/
def isBackward (st op : Nat) : Bool :=
  st = stBwdx || st = stBwdw || st = stGauge || st = stUpdate || st = stAudit
    || ((st = stAct || st = stRow || st = stAttn) && 0x80 ≤ op)

/-- Tiles of a descriptor by role: SRC, AUX and DST, each with the tensor's identifier; and whether a range runs past what lies behind it
(R79, R542). -/
structure Ranges where
  src : List Nat := []
  aux : List Nat := []
  dst : List Nat := []
  /-- AUX is written, not read (ACT 0x84) -/
  auxOut : Bool := false
  overs : Bool := false
  deriving DecidableEq, Repr

/-- Consecutive tiles; and whether they leave the tensor. -/
def tileRun (t : Tensor) (first n : Nat) : List Nat × Bool :=
  if t.tiles < first + n then ([], true) else ((List.range n).map (first + ·), false)

/-- Consecutive tiles along one tile row. -/
def rowRun (t : Tensor) (first n : Nat) : List Nat × Bool :=
  if t.cols < first % (max t.cols 1) + n then ([], true) else tileRun t first n

/-- Tiles down one tile column. -/
def colRun (t : Tensor) (first n : Nat) : List Nat × Bool :=
  if t.rows < first / (max t.cols 1) + n ∨ t.tiles ≤ first then ([], true) else ((List.range n).map (first + · * t.cols), false)

/-- Tiles of one tensor at the coordinates of another's (R258); none where they leave the tensor. -/
def placedRun (t src : Tensor) (l : List Nat) : List Nat × Bool :=
  if l.any fun k => t.rows ≤ k / (max src.cols 1) || t.cols ≤ k % (max src.cols 1) then ([], true)
  else (l.map fun k => k / (max src.cols 1) * t.cols + k % (max src.cols 1), false)

/-- Tile ranges of a descriptor with tensors in hand (R542). `n` is the layer's output length, `heads` its H. -/
def rangesOf (st : Nat) (d : Desc) (n heads : Nat) (src aux dst : Option Tensor) : Ranges :=
  let none2 : List Nat × Bool := ([], false)
  let on := fun (t : Option Tensor) (f : Tensor → List Nat × Bool) => (t.map f).getD none2
  let mk := fun (a b c : List Nat × Bool) (auxOut : Bool) => (⟨a.1, b.1, c.1, auxOut, a.2 || b.2 || c.2⟩ : Ranges)
  if st = stFwd then
    mk (on src fun t => rowRun t d.srcTile d.count) none2
      (on dst fun t => if d.dstTile % (max t.cols 1) ≠ 0 then ([], true) else rowRun t d.dstTile (ceilDiv n 128)) false
  else if st = stBwdx then
    mk (on src fun t => rowRun t d.srcTile d.count) (on aux fun t => rowRun t d.auxTile d.count) (on dst fun t => tileRun t d.dstTile 1) false
  else if st = stBwdw then
    mk (on src fun t => colRun t d.srcTile d.count) (on aux fun t => colRun t d.auxTile d.count) (on dst fun t => tileRun t d.dstTile 1) false
  else if st = stRow then
    mk (on src fun t => rowRun t d.srcTile d.count) (on aux fun t => rowRun t d.auxTile t.cols) (on dst fun t => rowRun t d.dstTile d.count) false
  else if st = stTopk then
    mk (on src fun t => rowRun t d.srcTile d.count) none2
      (on dst fun t => if d.dstTile % (max t.cols 1) ≠ 0 then ([], true) else rowRun t d.dstTile t.cols) false
  else if st = stAct ∧ d.opcode = 0x84 then
    let a := on src fun t => tileRun t d.srcTile d.count
    match src with
    | some t => mk a (on aux fun x => placedRun x t a.1) (on dst fun x => placedRun x t a.1) true
    | none => mk a none2 none2 true
  else if st = stAttn then
    let a := on src fun t => colRun t d.srcTile d.count
    let keys := ceilDiv d.length 128
    let h := d.srcTile % (max ((src.map (·.cols)).getD 1) 1)
    let q0 := d.srcTile / (max ((src.map (·.cols)).getD 1) 1)
    let b := on aux fun t =>
      let k := colRun t d.auxTile keys
      let v := colRun t (d.auxTile + heads) keys
      let q := if d.opcode = 1 then none2 else colRun t (q0 * t.cols + h) d.count
      (k.1 ++ v.1 ++ q.1, k.2 || v.2 || q.2)
    let c := on dst fun t =>
      if d.opcode = 1 ∨ d.dstTile % (max t.cols 1) < heads then colRun t d.dstTile d.count
      else
        let k := colRun t d.dstTile keys
        let v := colRun t (d.dstTile + heads) keys
        (k.1 ++ v.1, k.2 || v.2)
    mk a b c false
  else if st = stReduce ∧ d.opcode ≠ 1 then
    mk (on src fun t => tileRun t d.srcTile d.count) none2 (on dst fun t => tileRun t d.dstTile 1) false
  else if st = stHod ∧ d.opcode = 2 then mk none2 none2 none2 false
  else
    mk (on src fun t => tileRun t d.srcTile d.count) (on aux fun t => tileRun t d.auxTile d.count)
      (on dst fun t => tileRun t d.dstTile d.count) false

/-- Bytes of the extent of a group that the descriptor opens, beyond a bank, that the spill pool must hold (R224, R225). -/
def poolBytes (extentTiles : Nat) : Nat := 80 * (extentTiles * 16384 - 256)

def State.poolSize (s : State) : Nat := s.num PD.BED_SPILL_MIB * 2 ^ 20

/-- LAYER suits the station (R543). -/
def State.layerSuits (s : State) (st layer : Nat) : Bool :=
  match s.layer layer with
  | some l => if st = stFwd ∨ st = stGrout then l.kind = 1 || l.kind = 6 else if st = stAttn then l.kind = 5 else true
  | none => layer = 0xFFFF && st ≠ stFwd && st ≠ stGrout && st ≠ stAttn

def isFloat (f : Nat) : Bool := f = 0x10 || f = 0x11 || f = 0x12
def attnFormat (f : Nat) : Bool := f = 0x10 || f = 0x11 || fmtBlock f

/-- The tensors' declared formats, classes and shapes suit their roles (R68, R185, R234, R237, R260, R265, R269, R321; DEDUCED, log 26). -/
def rolesSuit (st : Nat) (d : Desc) (heads : Nat) (src aux dst : Option Tensor) : Bool :=
  let all := [src, aux, dst].filterMap id
  let on := fun (t : Option Tensor) (p : Tensor → Bool) => match t with
    | some x => p x
    | none => true
  let emits := fun (t : Tensor) => t.format ≠ 0x14 && !fmtColScaled t.format
  (st = stUpdate || all.all fun t => t.cls ≠ 2 && t.cls ≠ 3)
    && (st = stHod || on dst emits)
    && (!(st = stAct && d.opcode = 0x84) || on aux emits)
    && (st ≠ stFwd || (on src (fun t => fmtRowScaled t.format) && on dst fun t => isFloat t.format || t.format = 0x0A || t.format = 0x08))
    && (!(st = stReduce && (d.opcode = 2 || d.opcode = 3)) || on src fun t => isFloat t.format)
    && (st ≠ stTopk || on dst fun t => t.format = 0x12 && 1 ≤ t.cols && t.cols ≤ 4)
    && (st ≠ stRow || on aux fun t => t.format = 0x12 && t.rows = 1 && some t.cols = src.map (·.cols))
    && (st ≠ stAttn || (match src, aux, dst with
      | some q, some k, some o =>
        let h := d.srcTile % (max q.cols 1)
        let col := d.dstTile % (max o.cols 1)
        attnFormat q.format && attnFormat k.format && k.cols = 3 * heads && h < heads && d.auxTile % (max k.cols 1) = heads + h
          && (if d.opcode = 1 then q.cols = 3 * heads && o.cols = heads && attnFormat o.format && col = h
            else q.cols = heads && o.cols = 3 * heads && (col = h || col = heads + h))
      | _, _, _ => false))

/-- LENGTH, sequence positions, host bytes and spill pool against what lies behind them (R79, R225, R236, R266, R542). -/
def State.oversize (s : State) (st : Nat) (d : Desc) (u : Uses) (r : Ranges) (src aux dst : Option Tensor) : Bool :=
  let cols := fun (t : Option Tensor) => (t.map (·.cols)).getD 1
  let rows := fun (t : Option Tensor) => (t.map (·.rows)).getD 1
  let c := d.srcTile % (max (cols src) 1)
  let rr := d.srcTile / (max (cols src) 1)
  let k := ((s.layer d.layer).map (·.k)).getD 0
  let side := match src with
    | some t => some (t, d.srcTile)
    | none => dst.map fun t => (t, d.dstTile)
  let bytesOf := fun (t : Tensor) (first : Nat) => (t.tiles - first) * tileSize (s.formatOf t)
  r.overs
    || (st = stFwd && decide (min k (128 * cols src) - 128 * c < d.length))
    || (st = stBwdx && decide (128 * (cols src - c) < d.length))
    || (st = stBwdw && decide (128 * (rows src - rr) < d.length))
    || (st = stAttn && (decide (128 * (rows aux - d.auxTile / (max (cols aux) 1)) < d.length) || decide (2097152 < d.seqPos + 128 * d.count)))
    || (st = stTopk && decide (2097152 < d.seqPos + 128 * d.count))
    || (u.host && decide (s.regionSize d.hostRegion < d.hostOffset + d.byteLen))
    || (st = stHod && d.opcode = 2 && ((src.any fun t => decide (bytesOf t d.srcTile < d.byteLen)) || (dst.any fun t => decide (bytesOf t d.dstTile < d.byteLen))))
    || (st = stHod && d.opcode ≠ 2 && u.host && (side.any fun x => decide (d.count * tileSize (s.formatOf x.1) < d.byteLen)))
    || (groupedAt st d.opcode && d.opens && !d.closes && decide (s.poolSize < poolBytes r.dst.length))

/-- LENGTH and BYTE_LEN that fall short, or LENGTH of ATTN beyond its limit (R78, R79, R260). -/
def State.badLength (s : State) (st : Nat) (d : Desc) (u : Uses) (src dst : Option Tensor) : Bool :=
  ((st = stFwd || st = stBwdx || st = stBwdw || st = stGrout) && (decide (d.length < 128 * (d.count - 1) + 1) || decide (128 * d.count < d.length)))
    || (st = stAttn && decide (2097152 < d.length))
    || (st = stRow && decide (d.count < (src.map (·.cols)).getD 0))
    || (st = stHod && d.opcode ≠ 2 && u.host && (match src, dst with
      | some t, _ => decide (d.byteLen < d.count * tileSize (s.formatOf t))
      | none, some t => decide (d.byteLen < d.count * tileSize (s.formatOf t))
      | none, none => false))

def overlapping (a b : List Nat) : Bool := a.any b.contains

/-- The destination range overlaps a source range (R78, R258). -/
def State.overlaps (s : State) (st : Nat) (d : Desc) (r : Ranges) : Bool :=
  let same := fun (a b : Nat) => a = b && a ≠ 0
  if st = stHod ∧ d.opcode = 2 then
    match s.tensor d.src, s.tensor d.dst with
    | some a, some b =>
      let lo := d.srcTile * tileSize (s.formatOf a)
      let ld := d.dstTile * tileSize (s.formatOf b)
      same d.src d.dst && decide (lo < ld + d.byteLen) && decide (ld < lo + d.byteLen)
    | _, _ => false
  else if r.auxOut then
    (same d.src d.dst && overlapping r.src r.dst) || (same d.src d.aux && overlapping r.src r.aux) || (same d.aux d.dst && overlapping r.aux r.dst)
  else
    let exact := fun (l : List Nat) => (st = stAct || st = stRow) && l = r.dst
    (same d.src d.dst && overlapping r.src r.dst && !exact r.src) || (same d.aux d.dst && overlapping r.aux r.dst && !exact r.aux)

/-- The entry checks: the first that fails decides STATUS; 0 when all pass (R78, R298). -/
def State.entryCheck (s : State) (n : Nat) (df : StreamDef) (view : BitVec 16) (w : BitVec 512) : Nat :=
  let d := descOf w
  let st := df.station
  let u := usesOf st d
  let listed := (opcodesOf st).contains d.opcode
  let src := if u.srcHost then none else s.tensor d.src
  let dst := if u.dstHost then none else s.tensor d.dst
  let aux := if u.aux then s.tensor d.aux else none
  let l := s.layer d.layer
  let heads := (l.map fun x => x.n / 128).getD 0
  let r := rangesOf st d ((l.map (·.n)).getD 0) heads src aux dst
  let open_ := view.getLsbD d.group
  let named := d.opens || d.closes || d.group ≠ 0
  if d.version ≠ 1 then 0x01
  else if !descReservedZero w || d.status ≠ 0 || d.done || 2 ^ 21 ≤ d.seqPos || (listed && !unusedZero u d) then 0x02
  else if !listed || (st = stReduce && d.opcode = 4 && df.hostFed) then 0x03
  else if (u.count && d.count = 0) || (u.length && d.length = 0) || (u.byte && d.byteLen = 0) || (!u.srcHost && d.src = 0)
      || (u.dstHost && u.srcHost) || (!u.dstHost && d.dst = 0) || (u.aux && d.aux = 0) then 0x04
  else if (!u.srcHost && src.isNone) || (!u.dstHost && dst.isNone) || (u.aux && aux.isNone) || !s.layerSuits st d.layer
      || !rolesSuit st d heads src aux dst then 0x05
  else if s.oversize st d u r src aux dst then 0x06
  else if s.badLength st d u src dst then 0x07
  else if s.overlaps st d r then 0x08
  else if if groupedAt st d.opcode then decide (df.groups ≤ d.group) else named then 0x09
  else if d.opens && open_ then 0x0A
  else if groupedAt st d.opcode && !d.opens && named && !open_ then 0x0B
  else if (if d.waitEn then d.waitStream = n || (s.streamDef d.waitStream).isNone else d.waitStream ≠ 0 || d.waitMark ≠ 0) then 0x0C
  else 0

/-- The group a descriptor contributes to: the one it names, group 0 when it names none and group 0 is open in the entry view, else none
(R78, R84, DEDUCED, log 22). -/
def groupedDesc (st : Nat) (d : Desc) (view : BitVec 16) : Bool :=
  groupedAt st d.opcode && (d.opens || d.closes || d.group ≠ 0 || view.getLsbD 0)

/-- The entry view once a descriptor has taken its OPEN and CLOSE effect (R544). -/
def viewAfter (d : Desc) (view : BitVec 16) : BitVec 16 :=
  let b := (1#16 <<< d.group)
  let v := if d.opens then view ||| b else view
  if d.closes then v &&& ~~~b else v

end Sys2Proof.Machine
end

