-- ==== Sys2Proof/Machine/Streams.lean ====
section
/-! DEFINITION. Machine/Streams.lean: the stream commands: doorbells, entry, completion, halts, STREAM_RESUME (R71-R91, R104, R188, R225, R250-R254,
R262, R391). -/
namespace Sys2Proof.Machine

/-! ## Rings (R72, R74) -/

/-- The descriptor in a slot of a stream's ring. -/
def State.readSlot (s : State) (n : Nat) (d : StreamDef) (index : W32) : BitVec 512 :=
  let i := index.toNat % d.ring
  if d.hostFed then
    match s.place.bind fun p => p.rings.find? fun r => r.1 = n with
    | some (_, st, o) => descBits (s.read st (o + 64 * i) 64)
    | none => 0
  else kvGet (fun _ => 0) (s.stream n).ring i

/-- STATUS, where one is given, and DONE of a slot (R77, R81). -/
def State.mark (s : State) (n : Nat) (d : StreamDef) (index : W32) (status : Option Nat) (done : Bool) : State :=
  let w := s.readSlot n d index
  let st := status.getD (bits w.toNat 48 8)
  let w0 := bits w.toNat 0 48 + st % 256 * 2 ^ 48 + bits w.toNat 56 7 * 2 ^ 56 + b2n done * 2 ^ 63
  let i := index.toNat % d.ring
  if d.hostFed then
    match s.place.bind fun p => p.rings.find? fun r => r.1 = n with
    | some (_, st, o) => s.write st (o + 64 * i) (le 8 w0)
    | none => s
  else
    let t := s.stream n
    s.setStream n { t with ring := kvSet (fun _ => 0) t.ring i (BitVec.ofNat 512 (w.toNat / 2 ^ 64 * 2 ^ 64 + w0)) }

/-! ## Doorbells (R75, R76) -/

/-- A halt takes effect (R88). -/
def State.haltStream (s : State) (n : Nat) (code : Byte) (index : W32) (tiles : Nat) : State :=
  let t := s.stream n
  ((s.setStream n { t with st := .halted, error := code, errIndex := index, tilesDone := tiles, failing := none, front := none, counted := false }).bump
    PD.STREAM_HALTS).cause irqStream

/-- The endpoint takes requests: its link is up, it is ready, and its die's clocks run (R396). -/
def State.epOpen (s : State) (ep : Ep) : Bool :=
  (s.ep ep).linkUp && (s.ep ep).ready && s.mode.hubRuns

/-- A write to the doorbell page, `addr` its offset in the page (R75); dropped in BOOT and LOADER (R396). -/
def State.doorbell (s : State) (ep : Ep) (addr size : Nat) (value : W64) : State :=
  if !s.epOpen ep then s
  else if s.mode = .boot ∨ s.mode = .loader then s.bump PD.DOORBELL_DROPPED
  else
    let n := bits value.toNat 0 18
    let tail : W32 := BitVec.ofNat 32 (value.toNat / 2 ^ 32)
    let t := s.stream n
    match s.streamDef n with
    | some d =>
      if size ≠ 8 ∨ addr % 8 ≠ 0 ∨ bits value.toNat 18 14 ≠ 0 ∨ !d.hostFed ∨ !(if ep = 0 then d.ep0 else d.ep1) then s.bump PD.DOORBELL_DROPPED
      else if tail = t.tail then s
      else if 2 ^ 31 ≤ (tail - t.tail).toNat then s.bump PD.DOORBELL_STALE
      else if d.ring < (tail - t.head).toNat then
        if t.st = .halted then s.haltStream n 0x30 t.head 0
          else s.setStream n { t with failing := t.failing.or (some ⟨t.head + BitVec.ofNat 32 t.entered.length, 0x30, 0⟩), front := none, counted := false
                                      st := if t.st = .idle ∨ t.st = .blocked then .active else t.st }
      else s.setStream n (t.ring1 tail)
    | none => s.bump PD.DOORBELL_DROPPED

/-- DOORBELL (R75). -/
def execDoorbell (ep : Ep) (addr size : Nat) (value : W64) (s : State) : Res := .next (s.doorbell ep addr size value)

/-! ## Entry (R82, R104, R225, R275) -/

/-- Why a checked descriptor waits under R82: 2^31 and its own stream for a fence, the stream waited for otherwise. -/
def State.waitsOn (s : State) (n : Nat) (t : Stream) (index : W32) (d : Desc) : Option Nat :=
  if d.fence ∧ t.head ≠ index then some (2 ^ 31 + n)
  else if d.waitEn ∧ 2 ^ 31 ≤ ((s.stream d.waitStream).head - BitVec.ofNat 32 d.waitMark).toNat then some d.waitStream
  else none

/-- The home gradient die of a stream (DESIGN CHOICE, log 17). -/
def homeDie (n : Nat) : Nat := n % 8

/-- Destination tiles of a descriptor (R224, R542). -/
def State.dstTiles (s : State) (st : Nat) (d : Desc) : List Nat :=
  let u := usesOf st d
  let l := s.layer d.layer
  (rangesOf st d ((l.map (·.n)).getD 0) ((l.map fun x => x.n / 128).getD 0) (if u.srcHost then none else s.tensor d.src)
    (if u.aux then s.tensor d.aux else none) (if u.dstHost then none else s.tensor d.dst)).dst

/-- Bytes of pool that a descriptor's OPEN reserves. -/
def State.poolFor (s : State) (st : Nat) (d : Desc) : Nat :=
  if groupedAt st d.opcode && d.opens && !d.closes then poolBytes (s.dstTiles st d).length else 0

/-- Pool bytes reserved on a gradient die. -/
def State.poolUsed (s : State) (die : Nat) : Nat :=
  total (s.streams.map fun p =>
    if homeDie p.1 = die then
      total (p.2.groups.map (·.pool)) + (match s.streamDef p.1 with
        | some df => total (p.2.entered.map fun e => s.poolFor df.station (descOf e.desc))
        | none => 0)
    else 0)

/-- The FWD descriptor is work of an array operation in this step (R104, R194, R210, R211). -/
def State.arrayWork (s : State) (st : Nat) (d : Desc) : Bool := st = stFwd && d.opcode = 1 && s.onArrays d.layer

/-- The forward operations of a layer, of one micro-batch or of any, that have not ended. -/
def State.opsLeft (s : State) (layer : Nat) (micro : Option Nat) : Bool :=
  (s.opsFrom s.arrays.seqPos).any fun x => x.2.layer = layer && !x.2.recompute && (micro.isNone || micro = some x.2.micro)

/-- The descriptor's operation strikes now. -/
def State.opCurrent (s : State) (d : Desc) : Bool :=
  s.arrays.op.any fun o => o.layer = d.layer && o.micro = s.descMicro d && !o.recompute

/-- A failing descriptor stops entry; it has its STATUS with DONE clear (R88). -/
def State.failAt (s : State) (n : Nat) (df : StreamDef) (index : W32) (status tiles : Nat) : State :=
  let s := s.mark n df index (some status) false
  let t := s.stream n
  s.setStream n { t with failing := some ⟨index, BitVec.ofNat 8 status, tiles⟩, front := none, counted := false, st := .active }

/-- What an entering descriptor's phase needs: the step is open for FORWARD work, BACKWARD has begun for the rest (R275-R277). -/
def State.enterPhase (s : State) (st : Nat) (d : Desc) : State :=
  if isBackward st d.opcode then s.beginPhase .backward else (s.placeWaited.openStep).beginPhase .forward

/-- The checked descriptor at the front enters, or waits for its operation or its pool (R104, R225). -/
def State.enterFront (s : State) (n : Nat) (df : StreamDef) (index : W32) (w : BitVec 512) : State :=
  let d := descOf w
  let st := df.station
  let t := s.stream n
  let wait := fun (s : State) (k : Nat) =>
    if t.counted then s else (s.bump k).setStream n { t with counted := true, st := .active }
  if !isBackward st d.opcode ∧ !s.forwardReady then
    let s := s.setStream n { t with st := .active }
    if s.placeOpen && s.placeWait.isNone then { s with placeWait := some s.course.now } else s
  else if s.arrayWork st d ∧ !s.opCurrent d then
    if s.opsLeft d.layer none then wait (s.enterPhase st d) PD.RESIDENCY_WAITS
    else s.failAt n df index 0x05 0
  else if 0 < s.poolFor st d ∧ s.poolSize < s.poolUsed (homeDie n) + s.poolFor st d then wait s PD.BED_SPILL_WAITS
  else
    let s := s.enterPhase st d
    let e : Entered := ⟨index, w, [], groupedDesc st d t.entryView, false⟩
    let s := s.setStream n { t with entered := t.entered ++ [e], front := none, counted := false, st := .active, entryView := viewAfter d t.entryView }
    if s.arrayWork st d then
      match (uptoFail (s.fwdSources d ((s.tensor d.src).getD ⟨0, 0, 0, 0, false, 0, 0, 0, 0⟩) [])).2 with
      | some j => ((s.setStream n t).failAt n df index 0x20 j)
      | none => s.addStrikes n index d
    else s

/-- DESCRIPTOR_ENTRY (R82): the descriptor at the front of a stream's unentered ones. -/
def execDescriptorEntry (stream : Nat) (s : State) : Res :=
  let n := stream
  let t := s.stream n
  let index := t.head + BitVec.ofNat 32 t.entered.length
  match s.streamDef n with
  | none => .next s
  | some df =>
    if !s.mode.running ∨ !s.step.attempt ∨ s.step.deadlinePassed ∨ (s.mode = .drain ∧ !s.step.opened) ∨ (t.st ≠ .active ∧ t.st ≠ .blocked)
        ∨ t.failing.isSome ∨ index = t.tail then .next s
    else
      let w := t.front.getD (s.readSlot n df index)
      let own : Bool := !df.hostFed && df.station = stReduce && (descOf w).opcode = 4
      let c := if t.front.isSome ∨ own then 0 else s.entryCheck n df t.entryView w
      if c ≠ 0 then .next ((s.bump PD.DESC_REJECTED).failAt n df index c 0)
      else
        let s := s.setStream n { t with front := some w }
        match s.waitsOn n t index (descOf w) with
        | some b => .next (s.setStream n { t with front := some w, st := .blocked, blockedOn := BitVec.ofNat 32 b })
        | none => .next (s.enterFront n df index w)

/-! ## Halts and withdrawal (R87, R88) -/

/-- Strikes that no entered descriptor of a stream owns any more are dropped. -/
def State.dropStruck (s : State) (n : Nat) : State :=
  if s.arrays.op.any (·.recompute) then s
  else
    let on := fun (i : W32) => (s.stream n).entered.any fun e => e.index = i
    { s with cells := s.cells.map fun c => (c.1, { c.2 with
        todo := c.2.todo.filter fun h => h.stream ≠ n || on h.index
        runs := c.2.runs.filter fun r => r.stream ≠ n || on r.index }) }

/-- The descriptor in front of a stream's entered ones fails; those entered after it are withdrawn (R80, R88). -/
def State.failFirst (s : State) (n : Nat) (df : StreamDef) (status tiles : Nat) : State :=
  let t := s.stream n
  let t : Stream := { t with entered := [], entryView := BitVec.ofNat 16 t.openMask }
  ((s.setStream n t).dropStruck n).failAt n df t.head status tiles

/-- STREAM_HALT (R88): the descriptors entered before the failing one have completed. -/
def execStreamHalt (stream : Nat) (s : State) : Res :=
  let t := s.stream stream
  match t.failing with
  | some f => if t.entered.isEmpty ∧ t.st ≠ .paused then .next (s.haltStream stream f.status (if f.status = 0x30 then t.head else f.index) f.tilesDone) else .next s
  | none => .next s

/-! ## What a completed descriptor leaves (R250-R254, R262, R298) -/

/-- Segment layers whose runs and masks the forward pass retains (R251). -/
def State.retains (s : State) (layer : Nat) : Bool :=
  s.isCkpt layer || s.isCkpt (layer + 1) || (match s.plan with
    | some p => layer + 1 = p.layers.length
    | none => false)

/-- Role of a kept operand in host memory (R254). -/
def hostRole (role : Nat) : Nat := role + 16

/-- A checkpoint layer's input tile as read by a forward descriptor is copied to the checkpoint's home; one in host memory leaves through SPILL
(R254). -/
def State.checkpoint (s : State) (layer micro role : Nat) (t : Tensor) (k : Nat) (host : List Byte) : State :=
  match s.place.bind fun p => p.ckpts.find? fun c => c.1 = layer with
  | none => s
  | some (_, inHost) =>
    let img := (s.lintelTile layer micro k).getD (s.tileRead t false k host)
    if inHost then
      let region := (s.plan.map (·.ckptRegion)).getD 0
      let s := s.keep ⟨layer, micro, hostRole role, k, img⟩
      let at_ := total ((s.backward.kept.filter fun x => 16 ≤ x.role).map fun x => x.image.length) - img.length
      let s := (s.emit (.hostWrite region at_ img)).bumpBy PD.CKPT_SPILL_BYTES img.length
      if s.hostReachable region then s else (s.bump PD.HOST_DMA_ERR).reason rsFault
    else s.keep ⟨layer, micro, role, k, img⟩

/-- Source tiles that a descriptor reads through SRC and AUX, tensor and tile. -/
def State.readTiles (s : State) (st : Nat) (d : Desc) : List (Nat × Tensor × Nat) :=
  let u := usesOf st d
  let l := s.layer d.layer
  let src := if u.srcHost then none else s.tensor d.src
  let aux := if u.aux then s.tensor d.aux else none
  let r := rangesOf st d ((l.map (·.n)).getD 0) ((l.map fun x => x.n / 128).getD 0) src aux (if u.dstHost then none else s.tensor d.dst)
  (match src with
    | some t => r.src.map fun k => (0, t, k)
    | none => []) ++ (match aux with
    | some t => if r.auxOut then [] else r.aux.map fun k => (1, t, k)
    | none => [])

/-- Stations whose forward descriptors recomputation replays. -/
def replays (st op : Nat) : Bool :=
  st = stFwd || st = stTopk || (st = stReduce && op ≠ 4) || ((st = stAct || st = stRow || st = stAttn) && op < 0x80)

/-- A completed forward descriptor: its copy, its checkpoint, and the runs and masks that are not retained (R251-R254). -/
def State.leaveForward (s : State) (st n : Nat) (index : W32) (w : BitVec 512) (micro : Nat) (host : List Byte) : State :=
  let d := descOf w
  let s : State := { s with backward := { s.backward with forward := s.backward.forward ++ [⟨n, index, micro, w, s.rung d.layer⟩] } }
  let s := if s.isCkpt d.layer then s.each (s.readTiles st d) fun s x => s.checkpoint d.layer micro x.1 x.2.1 x.2.2 host else s
  let mine := fun (l m : Nat) => l = d.layer && m = micro
  if s.retains d.layer then
    { s with backward := { s.backward with frog := s.backward.frog.map fun f => if mine f.layer f.micro then { f with retained := true } else f } }
  else
    { s with backward := { s.backward with frog := s.backward.frog.filter fun f => !mine f.layer f.micro || f.retained
                                           kept := s.backward.kept.filter fun k => !(mine k.layer k.micro && k.role = 2) } }

/-- The last micro-batch that the schedule runs BACKWARD over a layer. -/
def State.lastMicro (s : State) (layer : Nat) : Option Nat :=
  (s.plan.bind fun p => (p.sched.filter fun e => e.backward && e.first ≤ layer && layer ≤ e.last).getLast?).map (·.micro)

/-- A NORM layer's gain beds emit into its gain-gradient tensor (R262). -/
def State.emitGain (s : State) (layer : Nat) : State :=
  match s.layer layer, s.plan.bind fun p => p.tensors.find? fun t => t.wgrad ∧ t.owner = layer with
  | some l, some t =>
    let g := kvGet (fun _ => []) s.backward.gain layer
    let s := s.each (List.range t.cols) fun s j =>
      let cols := validOf l.n j
      let vals := [(List.range cols).map fun c => (bedGet g (128 * j + c)).emits, (List.range cols).map fun c => (bedGet g (2 ^ 20 + 128 * j + c)).emits]
      s.emitPlain t j 2 cols layer 0 0 vals true
    let s : State := { s with backward := { s.backward with gain := kvSet (fun _ => []) s.backward.gain layer [] } }
    s.emitted t (List.range t.cols)
  | _, _ => s

/-- BACKWARD of a layer's micro-batch has completed (R302). -/
def State.doneMicro (s : State) (layer micro : Nat) : State :=
  if s.step.backwardDone.contains (layer, micro) then s
  else { s with step := { s.step with backwardDone := s.step.backwardDone ++ [(layer, micro)] } }

/-- A ROW derivative has read its run; with every run of the micro-batch read, BACKWARD of the layer ends for it (R262, R263). -/
def State.leaveRow (s : State) (d : Desc) (src : Tensor) (micro : Nat) : State :=
  let row := d.srcTile / (max src.cols 1)
  let mine := fun (f : FrogRun) => f.layer = d.layer && f.micro = micro
  let frog := s.backward.frog.map fun f => if mine f && f.tileRow = row then { f with used := true } else f
  if frog.all fun f => !mine f || f.used then
    let die := ((frog.find? mine).map (·.die)).getD 0
    let left := frog.filter fun f => !mine f
    let s : State := { s with backward := { s.backward with frog := returnFrog die left.length left } }
    let s := s.doneMicro d.layer micro
    if s.lastMicro d.layer = some micro then s.emitGain d.layer else s
  else { s with backward := { s.backward with frog := frog } }

/-- Rows of beds moved between bank and pool, and group saves, which a group left open causes; how many is open (DESIGN CHOICE, log 7, R225, R226). -/
def State.bedMoves (s : State) (g : Group) : State :=
  if g.extent ≤ 256 then s
  else
    let (i, s) := s.fresh
    (s.bumpBy PD.BED_SPILL_ROWS (Config.fnNat 4 [g.extent] i)).bumpBy PD.GROUP_SAVES (Config.fnNat 5 [g.extent] i % 2)

/-! ## Carrying out a descriptor's work -/

/-- What happened: the state, the status, the tiles written. -/
structure Finish where
  status : Nat := 0
  tiles : Nat := 0
  /-- a joint has to emit the result before the descriptor completes -/
  joining : Bool := false
  micro : Nat := 0
  deriving DecidableEq, Repr

/-- The range of a result is emitted, or its joint is set going (R84, R228). -/
def State.finishRange (s : State) (st : Nat) (d : Desc) (t : Tensor) (w : Work) (beds : List (Nat × Bed)) : Bool × State :=
  match s.jointKind st d with
  | some kind =>
    if 2 ≤ s.jointCount d.layer kind then (true, s.formParts kind t w beds (kind = 2))
    else (false, s.emitRange t w beds)
  | none => (false, s.emitRange t w beds)

/-- Contributions join the descriptor's group, or beds of its own; CLOSE and the lack of a group emit (R84): whether a joint follows, whether a
result was emitted. -/
def State.putWork (s : State) (n st : Nat) (e : Entered) (d : Desc) (t : Tensor) (w : Work) : Bool × Bool × State :=
  let s := s.countBeds w.st
  let emit := fun (s : State) (beds : List (Nat × Bed)) =>
    let (j, s) := s.finishRange st d t w beds
    (j, true, s)
  if !e.grouped then emit s w.beds
  else
    let str := s.stream n
    let old := str.groups.find? fun g => g.num = d.group
    let g : Group := old.getD ⟨d.group, d.layer, d.dstTile, w.outs.length * 16384, s.num PD.STEP_NUMBER, w.micro, s.poolFor st d, []⟩
    let g := { g with beds := mergeBeds g.beds w.beds }
    let rest := str.groups.filter fun x => x.num ≠ d.group
    if d.closes then emit (s.setStream n { str with groups := rest }) g.beds
    else (false, false, (s.setStream n { str with groups := rest ++ [g] }).bedMoves g)

/-- The work of an accumulating descriptor, the zero blocks and re-blocked tiles of BWDW, and a missing run (1) or kept operand (2) of ATTN. -/
def State.workOf (s : State) (st : Nat) (e : Entered) (d : Desc) (src dst : Tensor) (aux : Option Tensor) (host : List Byte) :
    Work × Nat × Nat × Option Nat :=
  let l := s.layer d.layer
  if st = stFwd ∧ d.opcode = 1 ∧ (s.arrayWork st d ∨ !e.beds.isEmpty) then
    let h := hdrOf (s.tileRead src false d.srcTile host)
    match l with
    | some l => ({ beds := e.beds, outs := fwdOuts d l h.rows, seqPos := h.seqPos, micro := h.micro, layer := d.layer }, 0, 0, none)
    | none => ({}, 0, 0, none)
  else if st = stAttn then
    match aux with
    | some a =>
      let (w, m) := s.attnGrad d src dst a ((l.map fun x => x.n / 128).getD 0) host
      (w, 0, 0, m)
    | none => ({}, 0, 0, none)
  else if st = stReduce then
    match aux with
    | some a => if d.opcode = 1 then (s.sumWork d src a host, 0, 0, none) else (s.joinWork d src host, 0, 0, none)
    | none => (s.joinWork d src host, 0, 0, none)
  else
    let (w, z, re) := s.contraction st d src aux host
    (w, z, re, none)

/-- Micro-batches that the source tiles of a BWDW descriptor name. -/
def State.srcMicros (s : State) (d : Desc) (src : Tensor) (host : List Byte) : List Nat :=
  ((List.range d.count).map fun m => (hdrOf (s.tileRead src false (d.srcTile + m * src.cols) host)).micro).eraseDups

/-- An accumulating descriptor runs. -/
def State.runAccumulate (s : State) (n st : Nat) (e : Entered) (d : Desc) (src dst : Tensor) (aux : Option Tensor) (host : List Byte) :
    State × Finish :=
  let (w, z, re, miss) := s.workOf st e d src dst aux host
  match miss with
  | some 1 => (s.bump PD.FROG_MISSING, { status := 0x05 })
  | some _ => (s.bump PD.KEPT_MISSING, { status := 0x05 })
  | none =>
    match w.fail with
    | some j => ((if e.grouped then (s.putWork n st e { d with closes := false } dst w).2.2 else s), { status := 0x20, tiles := j })
    | none =>
      let s := if st = stFwd ∧ d.opcode = 2 ∨ (st = stFwd ∧ s.flag PD.REF_ALL ∧ (s.layer d.layer).any isMatmul ∧ s.rung d.layer < 3)
        then s.bumpBy PD.REF_TILES d.count else s
      let s := if st = stBwdw then
          ((s.bumpBy PD.BWDW_TILES d.count).bumpBy PD.BWDW_ZERO_BLOCKS z).bumpBy PD.BWDW_REBLOCKED re
        else s
      let s := if st = stBwdw then s.each (s.srcMicros d src host) fun s m => s.doneMicro d.layer m else s
      let (joining, out, s) := s.putWork n st e d dst w
      let s := if out ∧ st = stBwdx then s.bump PD.BWDX_TILES else s
      let s := if out ∧ !joining then s.emitted dst (w.outs.map (·.2.1)) else s
      (s, { tiles := w.outs.length, joining := joining, micro := w.micro })

/-- A descriptor's work at its station (R68, R69). -/
def State.runDesc (s : State) (n : Nat) (df : StreamDef) (e : Entered) (host : List Byte) : State × Finish :=
  let d := descOf e.desc
  let st := df.station
  let u := usesOf st d
  let src := if u.srcHost then none else s.tensor d.src
  let dst := if u.dstHost then none else s.tensor d.dst
  let aux := if u.aux then s.tensor d.aux else none
  let micro := (src.map fun t => (hdrOf (s.tileRead t false d.srcTile host)).micro).getD 0
  let wrap := fun (r : State × Done) => (r.1, ({ status := r.2.status, tiles := r.2.tiles, micro := micro } : Finish))
  let tell := fun (r : State × Finish) (ts : List (Tensor × List Nat)) => (r.1.each ts fun s x => s.emitted x.1 (x.2.take r.2.tiles), r.2)
  if st = stHod then
    if u.host ∧ !s.hostReachable d.hostRegion then
      let s := s.bump PD.HOST_DMA_ERR
      (if !df.hostFed ∧ (d.opcode = 3 ∨ d.opcode = 4) then s.reason rsFault else s, { status := 0x21 })
    else wrap (s.runHod d src dst host)
  else match src, dst with
    | some src, some dst =>
      if st = stAct then
        let outs := s.dstTiles st d
        tell (wrap (s.runAct d src dst aux host)) ([(dst, outs)] ++ (match aux with
          | some a => if d.opcode = 0x84 then [(a, (placedRun a src ((List.range d.count).map (d.srcTile + ·))).1)] else []
          | none => []))
      else if st = stRow then
        match aux with
        | some a =>
          let r := wrap (s.runRow d src dst a (homeDie n) host)
          let r := tell r [(dst, s.dstTiles st d)]
          (if r.2.status = 0 ∧ 0x80 ≤ d.opcode then r.1.leaveRow d src micro else r.1, r.2)
        | none => (s, {})
      else if st = stTopk then
        let r := wrap (s.runTopk d src dst host)
        (if r.2.status = 0 then r.1.emitted dst (s.dstTiles st d) else r.1, r.2)
      else if st = stAttn ∧ d.opcode = 1 then
        match aux with
        | some a => tell (wrap (s.runAttn d src dst a (((s.layer d.layer).map fun x => x.n / 128).getD 0) host)) [(dst, s.dstTiles st d)]
        | none => (s, {})
      else if st = stFwd ∨ st = stBwdx ∨ st = stBwdw ∨ st = stAttn ∨ st = stReduce then s.runAccumulate n st e d src dst aux host
      else (s, {})
    | _, _ => (if st = stReduce ∧ d.opcode = 4 then s.sendLayer d.layer else s, {})

/-! ## Errors met (R26, R221, R222, R342, R395) -/

/-- One error: whether it was settled, and the state. -/
def State.meetError (s : State) (hod planFed : Bool) (op : Nat) (e : HwErr) : Bool × State :=
  match e with
  | .residue die block cell replayed ok =>
    let u : FaultUnit := ⟨die, block, cell⟩
    (s.bump PD.BED_RESIDUE_ERR).blockError u replayed ok { kind := 0x03, level := 1, mech := 1, detail := residueDetail u }
  | .parity die block group limb replayed =>
    let u : FaultUnit := ⟨die, block, 255⟩
    let s := s.bump PD.BED_PARITY_ERR
    let s := if replayed then s else s.confirm u 2
    s.blockError u replayed true { kind := 0x04, level := 1, mech := 2, detail := [detailUint 0 group, detailUint 1 limb] }
  | .store st addr committed => (false, s.storeLost st addr committed)
  | .host =>
    if !hod then (true, s)
    else
      let s := s.bump PD.HOST_DMA_ERR
      (false, if planFed ∧ (op = 3 ∨ op = 4) then s.reason rsFault else s)
  | .bridge link => (false, s.bridgeFailed link)

def State.meetErrors (s : State) (hod planFed : Bool) (op : Nat) (errs : List HwErr) : Bool × State :=
  errs.foldl (fun (acc : Bool × State) e =>
    let (ok, s) := acc.2.meetError hod planFed op e
    (acc.1 && ok, s)) (true, s)

/-! ## Completion (R81, R188, R391) -/

/-- Completion message of a stream (R391). -/
def State.completion (s : State) (n : Nat) (df : StreamDef) : State :=
  let v := 16 + n % 2032
  s.each ((if df.ep0 then [(0 : Ep)] else []) ++ (if df.ep1 then [(1 : Ep)] else [])) fun s i =>
    let e := s.ep i
    if !e.linkUp ∨ !e.msixOn then s
    else if s.num PD.IRQ_COALESCE_NS = 0 then s.sendVector i v
    else if e.merging.contains v then s.setEp i { e with merged := if e.merged.contains v then e.merged else e.merged ++ [v] }
    else (s.setEp i { e with merging := e.merging ++ [v] }).sendVector i v

/-- A backward descriptor that reads kept operands of a segment still to be recomputed, or whose checkpoint has not landed, waits (R251, R254). -/
def State.segReady (s : State) (layer micro : Nat) : Bool :=
  match s.plan, s.place with
  | some p, some pl =>
    match (segments s.segStarts p.layers.length).find? fun g => g.1 ≤ layer && layer ≤ g.2 with
    | some g =>
      let host := pl.ckpts.any fun c => c.1 = g.1 && c.2
      (!host || s.backward.prefetched.contains (micro, g.1)) && (g.1 = g.2 || s.backward.recomputed.contains (micro, g.1))
    | none => true
  | _, _ => true

/-- The station reads kept operands for the descriptor. -/
def readsKept (st op kind : Nat) : Bool := (st = stBwdw && kind ≠ 2) || ((st = stAct || st = stRow || st = stAttn) && 0x80 ≤ op)

/-- The entered descriptor may not finish yet: its operation strikes, a stage tile or its segment is missing, or its joint is open. -/
def State.holdsBack (s : State) (df : StreamDef) (e : Entered) (host : List Byte) : Bool :=
  let d := descOf e.desc
  let st := df.station
  let src := s.tensor d.src
  (s.arrayWork st d && s.opsLeft d.layer (src.map fun t => (hdrOf (s.tileRead t false d.srcTile host)).micro))
    || (s.readTiles st d).any (fun x => !s.stageReady x.2.1 x.2.2)
    || (readsKept st d.opcode (((s.layer d.layer).map (·.kind)).getD 0) && (match src with
      | some t => (s.srcMicros d t host).any fun m => !s.segReady d.layer m
      | none => false))
    || (e.joining && s.jointWaits.any fun w => w.layer = d.layer && w.tensor = d.dst)

/-- STATUS, DONE, HEAD, then the message (R81, R392). -/
def State.retire (s : State) (n : Nat) (df : StreamDef) (e : Entered) : State :=
  let s := s.mark n df e.index (some 0) true
  let t := s.stream n
  let t : Stream := { t with head := t.head + 1, entered := t.entered.drop 1 }
  let s := s.setStream n { t with st := if t.head = t.tail ∧ t.failing.isNone then .idle else t.st }
  if (descOf e.desc).irq then s.completion n df else s

/-- FORWARD work that ran digitally: its lintel tiles go, and FORWARD ends with the last of it (R186, R276). -/
def State.leaveDigital (s : State) (st : Nat) (d : Desc) (micro : Nat) : State :=
  if st ≠ stFwd ∨ s.onArrays d.layer then s
  else
    let s : State := { s with arrays := { s.arrays with lintel := s.arrays.lintel.filter fun x =>
      !(x.layer = d.layer && x.micro = micro && d.srcTile ≤ x.tile && x.tile < d.srcTile + d.count) } }
    if s.arrays.op.isNone ∧ (s.opsFrom s.arrays.seqPos).all (fun x => x.2.recompute) then s.forwardEnds else s

/-- What a finished descriptor leaves behind. -/
def State.leave (s : State) (n : Nat) (df : StreamDef) (e : Entered) (micro : Nat) (host : List Byte) : State :=
  let d := descOf e.desc
  let st := df.station
  let s := if replays st d.opcode then (s.leaveForward st n e.index e.desc micro host).leaveDigital st d micro else s
  if isBackward st d.opcode then
    { s with step := { s.step with phases := s.step.phases.map fun r => if r.phase = .backward then { r with stop := some s.ctime } else r } }
  else s

/-- DESCRIPTOR_COMPLETE (R81, R188): the first entered descriptor of a stream does its work and finishes, or fails; `host` is what it reads from
host memory, `errs` what its work meets. -/
def execDescriptorComplete (stream : Nat) (hostData : List Byte) (errs : List HwErr) (s : State) : Res :=
  let n := stream
  let t := s.stream n
  match s.streamDef n, t.entered.head? with
  | some df, some e =>
    if !s.mode.running ∨ s.step.deadlinePassed ∨ (t.st ≠ .active ∧ t.st ≠ .blocked) ∨ s.holdsBack df e hostData then .next s
    else
      let d := descOf e.desc
      if e.joining then .next ((s.retire n df e).leave n df e ((s.tensor d.src).map (fun t => (hdrOf (s.tileRead t false d.srcTile hostData)).micro) |>.getD 0) hostData)
      else
        let (ok, s) := s.meetErrors (df.station = stHod && (usesOf df.station d).host) (!df.hostFed) d.opcode errs
        if !s.mode.running then .next s
        else if !ok then .next (s.failFirst n df 0x21 0)
        else
          let (s, f) := s.runDesc n df e hostData
          if f.status ≠ 0 then .next (s.failFirst n df f.status f.tiles)
          else if f.joining then
            let t := s.stream n
            .next (s.setStream n { t with entered := { e with joining := true } :: t.entered.drop 1 })
          else .next ((s.retire n df e).leave n df e f.micro hostData)
  | _, _ => .next s

/-! ## STREAM_RESUME (R89) -/

/-- The stream works on after a halt. -/
def Stream.resume (t : Stream) (running : Bool) : Stream :=
  { t with st := if t.head = t.tail then .idle else if running then .active else .paused }

/-- An action of STREAM_RESUME: 0 RETRY, 1 SKIP, 2 RESET; `reserved` is bits [31:20]. -/
def State.streamResume (s : State) (n action reserved : Nat) : State :=
  let t := s.stream n
  let r := fun (s : State) (k : Nat) => s.setNum PD.STREAM_CMD_RESULT k
  if !s.mode.hubRuns then s else
  if s.mode = .boot ∨ s.mode = .calibrate then r s 2 else
  match s.streamDef n with
  | none => r s 1
  | some df =>
    if 3 ≤ action ∨ reserved ≠ 0 then r s 1
    else if action = 2 then
      if t.st = .idle ∨ t.st = .blocked ∨ t.st = .halted ∨ t.st = .paused then
        r ((s.setStream n (t.reset true)).dropStruck n) 0
      else r s 2
    else if t.st ≠ .halted then r s 2
    else
      let skip : Bool := action = 1 && t.error ≠ 0x30
      let s := if skip then s.mark n df t.head none true else s
      let t := if skip then { t with head := t.head + 1 } else t
      r (s.setStream n ({ t with entryView := BitVec.ofNat 16 t.openMask }.resume s.mode.running)) 0

def execRetry (stream : BitVec 18) (reserved : BitVec 12) (s : State) : Res := .next (s.streamResume stream.toNat 0 reserved.toNat)
def execSkip (stream : BitVec 18) (reserved : BitVec 12) (s : State) : Res := .next (s.streamResume stream.toNat 1 reserved.toNat)
def execStreamReset (stream : BitVec 18) (reserved : BitVec 12) (s : State) : Res := .next (s.streamResume stream.toNat 2 reserved.toNat)

end Sys2Proof.Machine
end

