-- ==== Sys2Proof/Machine/Backward.lean ====
section
/-! DEFINITION. Machine/Backward.lean: recomputation of a segment's digital work, and the return of host-held checkpoints (R250-R254). -/
namespace Sys2Proof.Machine

/-- Beds of a split contraction added part to part: the exact joint (R232). -/
def joinedBeds (beds : List (Nat × Bed)) : List (Nat × Bed) :=
  beds.foldl (fun m b => bedSet m (b.1 % partBase 1) ((bedGet m (b.1 % partBase 1)).merge b.2)) []

/-- Every joint that waits with all its parts emits. -/
def State.runJoints (s : State) : State :=
  s.each s.jointWaits fun s w =>
    match execJoint w.layer (BitVec.ofNat 8 w.kind) w.tileRow w.tileCol s with
    | .next t => t
    | _ => s

/-- An accumulating descriptor of forward work runs again; true when its result is emitted (R252). -/
def State.replaySum (s : State) (n st : Nat) (e : Entered) (d : Desc) (src dst : Tensor) (aux : Option Tensor) : Bool × State :=
  let w := (s.workOf st e d src dst aux []).1
  let s := s.countBeds w.st
  let emit := fun (s : State) (beds : List (Nat × Bed)) =>
    match s.jointKind st d with
    | some kind =>
      if 2 ≤ s.jointCount d.layer kind ∧ !(s.jointMode d.layer kind).exact then (s.formParts kind dst w beds (kind = 2)).runJoints
      else s.emitRange dst w (joinedBeds beds)
    | none => s.emitRange dst w beds
  let t := s.stream n
  if !groupedDesc st d (BitVec.ofNat 16 t.openMask) then (true, emit s w.beds)
  else
    let old := t.groups.find? fun g => g.num = d.group
    let g : Group := old.getD ⟨d.group, d.layer, d.dstTile, w.outs.length * 16384, s.num PD.STEP_NUMBER, w.micro, 0, []⟩
    let g := { g with beds := mergeBeds g.beds w.beds }
    let rest := t.groups.filter fun x => x.num ≠ d.group
    if d.closes then (true, emit (s.setStream n { t with groups := rest }) g.beds)
    else (false, s.setStream n { t with groups := rest ++ [g] })

/-- A forward descriptor runs again on a scratch state; true when it emitted. -/
def State.replayOne (s : State) (f : Fwd) (df : StreamDef) : Bool × State :=
  let d := descOf f.desc
  let st := df.station
  let e : Entered := ⟨f.index, f.desc, [], false, false⟩
  if st = stFwd ∨ st = stReduce then
    match s.tensor d.src, s.tensor d.dst with
    | some src, some dst => s.replaySum f.stream st e d src dst (if (usesOf st d).aux then s.tensor d.aux else none)
    | _, _ => (false, s)
  else (true, (s.runDesc f.stream df e []).1)

/-- Counters that recomputed digital work moves; everything else that it counts is left out (R253). -/
def replayCounters : List Nat :=
  [PD.BED_PROMOTIONS, PD.BED_SOLO_PROMOTIONS, PD.BED_INEXACT, PD.BED_OVERFLOW, PD.ROW_ROWS, PD.FROG_SPILL_RUNS, PD.ATTN_DROPPED]

/-- The state in which a layer's forward work runs again: its kept inputs stand in its tensors, its lintel holds them, and it is on the rung on
which the work ended (R252, R253). -/
def State.replayState (s : State) (f : Fwd) (st : Nat) (micro : Nat) : State :=
  let d := descOf f.desc
  let t := s.keptLintel d.layer micro
  let t := t.setLayerNum d.layer { t.num? d.layer with rung := f.rung }
  t.each (s.readTiles st d) fun t x =>
    match s.keptTile d.layer micro x.1 x.2.2 with
    | some img => t.tileWrite x.2.1 false x.2.2 img
    | none => t

/-- One forward descriptor of the set is replayed: its outputs go to the keep area, its runs and masks replace the discarded ones. `groups` are
the groups that earlier descriptors of the replay left open, by stream. -/
def State.replayDigital (acc : State × List (Nat × Stream)) (f : Fwd) (micro : Nat) : State × List (Nat × Stream) :=
  let (s, groups) := acc
  match s.streamDef f.stream with
  | none => acc
  | some df =>
    let d := descOf f.desc
    let st := df.station
    let t : State := { s.replayState f st micro with streams := groups, jointWaits := [], jointParts := [] }
    let (out, t) := t.replayOne f df
    let s := s.each replayCounters fun s k => s.setNum k (t.num k)
    let s := s.bump PD.RECOMPUTE_OPS
    let mine := fun (l m : Nat) => l = d.layer && m = micro
    let s : State := { s with backward := { s.backward with
      frog := t.backward.frog.map fun x => if mine x.layer x.micro then { x with retained := true } else x } }
    let s := s.each (t.backward.kept.filter fun k => mine k.layer k.micro && k.role = 2) State.keep
    let s := match s.tensor d.dst with
      | some dst =>
        if out then s.each ((s.dstTiles st d).filter (· < dst.tiles)) fun s k =>
          let img := match s.inputOf dst with
            | some l => (t.lintelTile l micro k).getD (t.tileRead dst false k [])
            | none => t.tileRead dst false k []
          s.keepOutput d.layer micro d.dst k img
        else s
      | none => s
    (s, t.streams)

/-- A layer's forward work of the micro-batch ran as array operations. -/
def State.ranOnArrays (s : State) (layer micro : Nat) : Bool :=
  (s.layer layer).any isMatmul && !s.flag PD.REF_ALL && (s.fwdCopies layer micro).any fun f => f.rung < 3

/-- Recomputes the layers of a list in order, up to an array layer whose operation has still to be replayed; true when all are done. -/
def State.replayLayers (s : State) (micro : Nat) : List Nat → Bool × State
  | [] => (true, s)
  | i :: is =>
    if s.backward.replayed.contains (i, micro) then s.replayLayers micro is
    else if s.ranOnArrays i micro then (false, s)
    else
      let fs := s.backward.forward.filter fun f => f.micro = micro ∧ (descOf f.desc).layer = i
      let s := (fs.foldl (fun acc f => State.replayDigital acc f micro) (s, s.streams.map fun p => (p.1, { p.2 with groups := [] }))).1
      State.replayLayers { s with backward := { s.backward with replayed := s.backward.replayed ++ [(i, micro)] } } micro is

/-- The segments of the placed plan, first and last layer (R251). -/
def State.segs (s : State) : List (Nat × Nat) := segments s.segStarts ((s.plan.map fun p => p.layers.length).getD 0)

/-- The segment's checkpoint lies in host memory. -/
def State.hostCkpt (s : State) (layer : Nat) : Bool := s.place.any fun p => p.ckpts.any fun c => c.1 = layer && c.2

/-- RECOMPUTE (R251, R252): the digital work of a segment's set is replayed as far as the array operations of the set have been; a segment whose
checkpoint has not landed waits (R254). `segment` counts the segments of KEEP_TABLE in forward order. -/
def execRecompute (microBatch segment : Nat) (s : State) : Res :=
  if !s.mode.running ∨ !s.step.attempt ∨ s.step.deadlinePassed then .next s
  else match s.segs[segment]? with
    | none => .next s
    | some (a, b) =>
      if s.backward.recomputed.contains (microBatch, a) then .next s
      else if s.hostCkpt a ∧ !s.backward.prefetched.contains (microBatch, a) then .next (s.bump PD.CKPT_WAITS)
      else match s.replayLayers microBatch ((List.range (b - a)).map fun i => a + i) with
        | (true, s) => .next { s with backward := { s.backward with recomputed := s.backward.recomputed ++ [(microBatch, a)] } }
        | (false, s) => .next s

/-- Checkpoints landed ahead of the segment in progress (R254). -/
def State.ckptsAhead (s : State) : Nat :=
  (s.backward.prefetched.filter fun p => !s.backward.recomputed.contains p && !s.step.backwardDone.contains (p.2, p.1)).length

/-- One host-held checkpoint of a micro-batch comes into the prefetch area (R254). -/
def State.landCkpt (s : State) (micro layer : Nat) : State :=
  if s.backward.prefetched.contains (micro, layer) ∨ s.num PD.CKPT_PREFETCH_DEPTH ≤ s.ckptsAhead then s
  else if !s.hostReachable ((s.plan.map (·.ckptRegion)).getD 0) then (s.bump PD.HOST_DMA_ERR).reason rsFault
  else
    let ks := s.backward.kept.filter fun k => k.layer = layer ∧ k.micro = micro ∧ 16 ≤ k.role
    let s := s.each ks fun s k => s.keep { k with role := k.role - 16 }
    { s.bumpBy PD.CKPT_PREFETCH_BYTES (total (ks.map fun k => k.image.length)) with
      backward := { s.backward with prefetched := s.backward.prefetched ++ [(micro, layer)] } }

/-- CHECKPOINT_PREFETCH (R254): the host-held checkpoints of a micro-batch return in the order in which BACKWARD needs them, as far as
CKPT_PREFETCH_DEPTH lets them. -/
def execCheckpointPrefetch (microBatch : Nat) (s : State) : Res :=
  if !s.mode.running ∨ !s.step.attempt ∨ s.step.deadlinePassed then .next s
  else
    let ls := ((s.place.map (·.ckpts)).getD []).filter (·.2)
    .next (s.each (ls.reverse.map (·.1)) fun s l => s.landCkpt microBatch l)

end Sys2Proof.Machine
end

