-- ==== Sys2Proof/Machine/Discovery.lean ====
section
/-! DEFINITION. Machine/Discovery.lean: identity frames and discovery: runs, decisions, findings, and the check of a port that retrains
(R374-R382). -/
namespace Sys2Proof.Machine

/-- Lanes are driven: not in OFF, RESET, BOOT, LOADER and COAST, and nothing is sent in FROZEN (R383). -/
def State.lanesUp (s : State) : Bool :=
  s.clk.refclk && (match s.mode with
    | .off | .reset | .boot | .loader | .coast | .frozen => false
    | _ => true)

/-! ## Identity frames (R376, R377) -/

/-- The fields of a peer's frame. -/
def idBits (f : BitVec 1024) (lo len : Nat) : Nat := bits f.toNat lo len
def idAddr (f : BitVec 1024) : Addr := ⟨idBits f 8 1, idBits f 9 6, idBits f 15 6⟩
def idSerial (f : BitVec 1024) : Nat := idBits f 64 64
def idDigest (f : BitVec 1024) : Nat := idBits f 128 384

/-- Serial number, side, pallet and slot: what names the same peer (R362). -/
def idPeer (f : BitVec 1024) : Nat × Addr := (idSerial f, idAddr f)

/-- The frame has version 1 and every reserved field zero. -/
def idValid (f : BitVec 1024) : Bool := idBits f 0 4 = 1 && idBits f 21 3 = 0 && idBits f 40 24 = 0 && idBits f 512 512 = 0

/-- Highest protocol version in both ranges; none when there is none (R377). -/
def idVersion (f : BitVec 1024) : Option Nat :=
  let hi := min (idBits f 32 8) 1
  if max (idBits f 24 8) 1 ≤ hi then some hi else none

/-- The module's own manifest digest as the frame carries it. -/
def State.ownDigest (s : State) : Nat := fieldAt (padTo 48 s.fw.runningDigest) 0 48

/-- The frame that a port sends. -/
def State.identityFrame (s : State) (port : Nat) : List Byte :=
  le 8 (1 + port * 2 ^ 4 + s.self.side * 2 ^ 8 + s.self.pallet * 2 ^ 9 + s.slotId.toNat * 2 ^ 15 + 1 * 2 ^ 24 + 1 * 2 ^ 32)
  ++ le 8 Config.serial.toNat ++ padTo 48 s.fw.runningDigest ++ zeros 64

/-- An IDENTITY flit leaves a port. -/
def State.sendIdentity (s : State) (p : Nat) : State :=
  s.emit (.kenlink (Fin.ofNat 12 p) (sealFlit (2 + 128 * 2 ^ 9) (s.identityFrame p) 0 (s.port p).lastRx.toNat))

/-! ## Replay (R361, R362) -/

/-- A flit as it is sent again: with the ACK of now. -/
def resealFlit (f : List Byte) (ack : Nat) : List Byte := sealFlit (fieldAt f 0 8) ((f.drop 8).take 240) (fieldAt f 248 2) ack

/-- The port retrains: its unacknowledged flits stay (R362). -/
def State.retrain (s : State) (p : Nat) : State :=
  let l := s.port p
  (s.setPort p { l with st := .training, retraining := true, peer := none, retrains := l.retrains + 1 }).bump PD.LINK_RETRAINS

/-- Every unacknowledged flit is sent again, from ACK + 1; one that has been sent nine times makes the port retrain instead (R361, R362). -/
def State.replayFlits (s : State) (p : Nat) : State :=
  let l := s.port p
  if l.replay.any fun r => 9 ≤ r.2 then s.retrain p
  else
    let s := s.setPort p { l with replay := l.replay.map (fun r => (r.1, r.2 + 1)), replays := l.replays + l.replay.length }
    (s.bumpBy PD.FLIT_REPLAYS l.replay.length).emits
      (l.replay.map fun r => .kenlink (Fin.ofNat 12 p) (resealFlit r.1 l.lastRx.toNat))

/-! ## Decisions (R378-R380) -/

/-- An address in a findings row; none is all ones. -/
def Addr.code (a : Addr) : Nat := a.slot + a.pallet * 2 ^ 6 + a.side * 2 ^ 12
def addrCode : Option Addr → Nat
  | some a => a.code
  | none => 0xFFFF
def portCode : Option Nat → Nat
  | some p => p
  | none => 0xFF

def finding (code : Nat) (logical physical : Option Nat) (expected seen : Option Addr) : Finding :=
  ⟨code, portCode logical, portCode physical, addrCode expected, addrCode seen⟩

def LinkState.live : LinkState → Bool
  | .identify | .active | .quiet => true
  | _ => false

/-- Physical ports with a frame, ascending, with the frame. -/
def State.framed (s : State) : List (Nat × BitVec 1024) :=
  (List.range 12).filterMap fun p => if (s.port p).st.live then (s.port p).peer.map fun f => (p, f) else none

/-- Logical ports that the plan does not mark ABSENT, with their peers. -/
def State.planned (s : State) : List (Nat × Addr) := (List.range 12).filterMap fun l => (s.expected l).map fun a => (l, a)

/-- What a decision finds: findings, quiet ports, the pairs of logical and physical ports. -/
structure Decided where
  findings : List Finding := []
  quiet : List Nat := []
  pairs : List (Nat × Nat) := []
  deriving DecidableEq, Repr

/-- Pairs one planned peer's logical ports with the physical ports that name it (R378). -/
def State.pairPeer (s : State) (d : Decided) (peer : Addr) : Decided :=
  let lp := (s.planned.filter fun x => x.2 = peer).map (·.1)
  let fp := ((s.framed.filter fun x => idAddr x.2 = peer && (idVersion x.2).isSome)).map (·.1)
  let pairs := lp.zip fp
  let digest := fun (p : Nat) => match (s.port p).peer with
    | some f => decide (idDigest f ≠ s.ownDigest)
    | none => false
  let rows := pairs.flatMap fun x =>
    (if x.1 ≠ x.2 then [finding 3 (some x.1) (some x.2) (some peer) (some peer)] else [])
    ++ (if digest x.2 then [finding 5 (some x.1) (some x.2) (some peer) (some peer)] else [])
  let missing := (lp.drop fp.length).map fun l => finding 2 (some l) none (some peer) none
  let extra := fp.drop lp.length
  { findings := d.findings ++ rows ++ missing ++ extra.map fun p => finding 1 none (some p) (some peer) (some peer)
    quiet := d.quiet ++ extra ++ (if s.flag PD.MANIFEST_MATCH then (pairs.filter fun x => digest x.2).map (·.2) else [])
    pairs := d.pairs ++ pairs }

/-- Everything a decision finds (R378, R379). -/
def State.findAll (s : State) : Decided :=
  let peers := (s.planned.map (·.2)).eraseDups
  let lone := s.framed.filter fun x => (idVersion x.2).isNone || !peers.contains (idAddr x.2)
  let d : Decided := { findings := lone.map fun x => finding (if (idVersion x.2).isNone then 4 else 1) none (some x.1) none (some (idAddr x.2))
                       quiet := lone.map (·.1) }
  let d := peers.foldl (fun d a => s.pairPeer d a) d
  if 32 ≤ s.slotId.toNat then { d with findings := d.findings ++ [finding 6 none none none none] } else d

/-- The outcome that findings call for: HOLDING 3 before WAITING_PLAN 4 before COMPLETE 2 (R379). -/
def State.outcomeOf (s : State) (fs : List Finding) : Nat :=
  let strict : Bool := s.num PD.LINK_POLICY = 0
  let absent := fun (f : Finding) => f.code = 2 || f.code = 4 || f.code = 7
  if fs.any fun f => (absent f && strict) || (f.code = 3 && !s.flag PD.SWAP_TOLERATE) || (f.code = 5 && s.flag PD.MANIFEST_MATCH) || f.code = 6 then 3
  else if fs.any absent then 4
  else 2

/-- DISCOVERY_STATE takes a value; a change raises cause LINK (R389). -/
def State.setDiscovery (s : State) (v : Nat) : State :=
  if s.num PD.DISCOVERY_STATE = v then s else (s.setNum PD.DISCOVERY_STATE v).cause irqLink

/-- A new link: SEQ numbers start again and the sender holds every credit (R361, R363). -/
def LinkPort.linkUp (l : LinkPort) : LinkPort :=
  { l with nextSeq := 0, lastRx := 0xFFFF, nacked := false, replay := [], credits := List.replicate 20 16, shared := 3776,
           owed := List.replicate 20 0, owedShared := 0 }

/-- A port takes the state that a decision gives it (R378, R380). -/
def State.settlePort (s : State) (d : Decided) (out p : Nat) : State :=
  let l := s.port p
  let paired := d.pairs.any fun x => x.2 = p
  let l := { l with known := if paired then l.peer else none, version := (l.peer.bind idVersion).getD 0 }
  if !l.st.live then s.setPort p l
  else if out = 3 ∨ d.quiet.contains p then s.setPort p { l with st := .quiet }
  else if paired then (s.setPort p { l with st := .active }).sendWaiting p
  else s.setPort p l

/-- The run is decided: the logical map, the findings, the ports' states and the outcome (R378-R380). -/
def State.decideRun (s : State) : State :=
  let d := s.findAll
  let out := s.outcomeOf d.findings
  let map := (List.range 12).map fun l => (d.pairs.find? fun x => x.1 = l).map (·.2)
  let s : State := { s with link := { s.link with findings := d.findings, logical := map } }
  (s.each (List.range 12) fun s p => s.settlePort d out p).setDiscovery out

/-- Every logical port that the plan names has an identity frame on some physical port (R374). -/
def State.allFramed (s : State) : Bool :=
  s.planned.all fun x => (s.planned.filter fun y => y.2 = x.2).length ≤ (s.framed.filter fun f => idAddr f.2 = x.2).length

/-- Decides a run whose ports are all there. -/
def State.tryDecide (s : State) : State := if s.num PD.DISCOVERY_STATE = 1 ∧ s.allFramed then s.decideRun else s

/-- A discovery run starts: findings cleared, trained ports at IDENTIFY, the window open (R374). -/
def State.discover (s : State) : State :=
  let s : State := { s with link := { s.link with findings := [], ran := true,
                                                  ports := s.link.ports.map fun p => (p.1, if p.2.st.live then { p.2 with st := .identify } else p.2) } }
  (s.setDiscovery 1).tryDecide

/-- The first entry to HELD after READY starts a run (R374). -/
def State.discoverOnce (s : State) : State := if s.link.ran then s else s.discover

/-! ## Links during a job (R382) -/

/-- A port that retrained is checked against its own frame only; `known` is the frame it had. -/
def State.recheck (s : State) (p : Nat) (f known : BitVec 1024) : State :=
  let l := s.port p
  let same : Bool := idPeer f = idPeer known
  let differs : Bool := s.flag PD.MANIFEST_MATCH && idDigest f ≠ s.ownDigest
  if same && (idVersion f).isSome && !differs then
    if l.retraining then
      let l := { l with st := .active, retraining := false, version := (idVersion f).getD 0, replay := l.replay.map fun r => (r.1, 0) }
      ((s.setPort p l).replayFlits p).sendWaiting p
    else (s.setPort p { l.linkUp with st := .active, version := (idVersion f).getD 0 }).sendWaiting p
  else
    let code := if !same then 7 else if (idVersion f).isNone then 4 else 5
    let s := if same then s else s.bump PD.IDENTITY_CHANGES
    let s := (s.setPort p { l with st := .quiet, retraining := false, replay := [], waiting := [] }).bumpBy PD.FLITS_FLUSHED l.replay.length
    let row := finding code (s.logicalOf p) (some p) ((s.logicalOf p).bind s.expected) (some (idAddr f))
    let s : State := { s with link := { s.link with findings := s.link.findings ++ [row] } }
    let s := s.spall { kind := 0x30, level := 3, mech := 7, outcome := if s.step.opened then 2 else 0, detail := [detailUint 0 p, detailUint 1 code] }
    let s := if s.step.opened then s.faultAndHold else s
    let out := s.outcomeOf [row]
    let s : State := if out = 3 then
        { s with link := { s.link with ports := s.link.ports.map fun q => (q.1, if q.2.st.live then { q.2 with st := .quiet } else q.2) } }
      else s
    s.setDiscovery out

/-- What a frame means to a port at IDENTIFY, by the state of discovery (R374, R380, R382). -/
def State.identified (s : State) (p : Nat) (f : BitVec 1024) : State :=
  let l := s.port p
  let s := s.setPort p { l with peer := some f }
  match s.num PD.DISCOVERY_STATE with
  | 1 => s.tryDecide
  | 3 => s.setPort p { s.port p with st := .quiet }
  | 2 | 4 => match l.known with
    | some k => s.recheck p f k
    | none =>
      if s.num PD.DISCOVERY_STATE = 4 then s.decideRun
      else
        let s : State := { s with link := { s.link with findings := s.link.findings ++ [finding 1 none (some p) none (some (idAddr f))] } }
        s.setPort p { s.port p with st := .quiet }
  | _ => s

/-- A port goes DOWN at the end of its retrain limit: its flits are flushed and a spall records it (R362, R372, R382). -/
def State.linkDown (s : State) (p : Nat) : State :=
  let l := s.port p
  let s := s.setPort p { l with st := .down, retraining := false, peer := none, replay := [], waiting := [], drops := l.drops + 1 }
  let s := ((s.bumpBy PD.FLITS_FLUSHED l.replay.length).bumpBy PD.FLITS_NO_ROUTE l.waiting.length).bump PD.LINK_DROPS
  (s.spall { kind := 0x30, level := 3, mech := 7, outcome := 0, detail := [detailUint 0 p] }).cause irqLink

end Sys2Proof.Machine
end

