-- ==== Sys2Proof/Machine/Timebase.lean ====
section
/-! DEFINITION. Machine/Timebase.lean: the course time base (R36-R60): course frames, marks, lock and holdover, the course master, wraps. -/
namespace Sys2Proof.Machine

/-! ## The frame (R38-R41) -/

/-- The bits of received half-bit levels: low then high is 1, high then low is 0; none at a violation or an odd end (R38). -/
def manchester : List Bool → Option (List Bool)
  | [] => some []
  | [_] => none
  | a :: b :: l => if a = b then none else (manchester l).map (b :: ·)

/-- Preamble and start delimiter (R39). -/
def frameStart : List Bool :=
  [true, true, true, true, true, true, true, true, false, true, false, true, true, false, true, true]

/-- Payload of a course frame (R39). -/
structure CoursePayload where
  number : BitVec 48
  version : BitVec 4
  tag : Byte
  deriving DecidableEq, Repr

/-- What the receiver makes of a frame (R41). -/
inductive FrameResult where
  | good (p : CoursePayload)
  | decodeErr | crcErr | versionErr
  deriving DecidableEq, Repr

/-- The payload a 64-bit value holds. -/
def coursePayload (n : Nat) : CoursePayload := ⟨BitVec.ofNat 48 (n / 65536), BitVec.ofNat 4 (n / 4096), BitVec.ofNat 8 n⟩

/-- The checks of R41 in their order, on a frame that followed enough idle. -/
def frameResult (levels : List Bool) : FrameResult :=
  match manchester levels with
  | none => .decodeErr
  | some bs =>
    if bs.length ≠ 96 ∨ bs.take 16 ≠ frameStart then .decodeErr
    else
      let pay := (bs.drop 16).take 64
      if crc16 pay ≠ ofBitsMsb (bs.drop 80) then .crcErr
      else
        let p := coursePayload (ofBitsLsb pay)
        if p.version = 1 then .good p else .versionErr

/-- The 96 bits of a frame in transmission order (R39, R40). -/
def frameBits (number : BitVec 48) (tag : Nat) : List Bool :=
  let pay := bitsLsb 64 (number.toNat * 65536 + 0x1000 + tag % 256)
  frameStart ++ pay ++ bitsMsb 16 (crc16 pay)

/-! ## Acquisition (R48) -/

/-- An interval lies within 1,000 ppm of the configured period. -/
def inBand (interval period : Nat) : Bool :=
  (if period ≤ interval then interval - period else period - interval) * 1000 ≤ period

/-- A frame joins the run of ACQUIRING, or restarts it (R48); newest first. -/
def extendRun (period : Nat) (run : List (BitVec 48 × Nat)) (f : BitVec 48 × Nat) : List (BitVec 48 × Nat) :=
  match run with
  | (n, t) :: _ => if f.1 = n + 1 ∧ t ≤ f.2 ∧ inBand (f.2 - t) period then f :: run else [f]
  | [] => [f]

/-- The frequency part of the increment for a period with 16 fraction bits (R44). -/
def rateOf (period : Nat) : Nat := rne (2 ^ 64) period % 2 ^ 40

/-- Locks when the run has reached the count: P is the mean interval, the wrap falls on the last mark, its number is adopted (R48). -/
def State.tryLock (s : State) : State :=
  let c := s.course
  match c.run with
  | [] => s
  | (n, t) :: _ =>
    if c.run.length < s.num PD.COURSE_LOCK_COUNT ∨ c.run.length < 2 then s
    else
      let first := (c.run.getLast?.map (·.2)).getD t
      let p := rne ((t - first) * 65536) (c.run.length - 1)
      let f := rateOf p
      let seg : Seg := ⟨t, n.toNat * 2 ^ 48, f, 0, 0⟩
      let c : Course := { c with period := p, segs := [seg], lastUsed := some (n, t), run := [], series := [], oow := 0, judged := n }
      let s : State := { s with course := c.setPos (seg.posAt c.now) }
      ((s.setNum PD.COURSE_HOLDOVER_COUNT 0).setNum PD.COURSE_FLAGS 0).setCourse .locked

/-- A frame accepted in ACQUIRING. -/
def State.acquire (s : State) (n : BitVec 48) (t : Nat) : State :=
  { s with course := { s.course with run := extendRun (s.num PD.COURSE_PERIOD_NS) s.course.run (n, t) } }.tryLock

/-! ## Marks (R44-R47) -/

/-- A new series of three discordant frames: LOST, then its frames are the first of the run (R46, R48). -/
def State.newSeries (s : State) (series : List (BitVec 48 × Nat)) : State :=
  let s := s.loseCourse
  if s.course.st = .acquiring then
    { s with course := { s.course with run := series.reverse.foldl (extendRun (s.num PD.COURSE_PERIOD_NS)) [] } }.tryLock
  else s

/-- A mark used in the window: P and f (R44), the slew (R45), the phase error, the wrap it marks and LOCKED again (R49). -/
def State.useMark (s : State) (n : BitVec 48) (t : Nat) (e : Int) : State :=
  let c := s.course
  let f0 : Nat := (c.segs.head?.map (·.freq)).getD 1
  let ns : Int := (FV.fin (decide (e < 0)) e.natAbs f0).toInt
  let p := match c.lastUsed with
    | some (n', t') =>
      if n = n' + 1 then
        let d : Int := ((t - t') * 65536 : Nat) - (c.period : Int)
        (c.period + (FV.fin (decide (d < 0)) d.natAbs 16).toInt).toNat
      else c.period
    | none => c.period
  let f := if p = c.period then f0 else rateOf p
  let c : Course := { c with period := p, lastUsed := some (n, t), series := [], oow := 0, judged := n }
  let s : State := { s with course := c.push f e (ceilDiv (0x4000 * 2 ^ 32) (max f 1)) }
  let s := s.setNum PD.COURSE_PHASE_ERR (unsigned 32 ns)
  if s.course.st = .holdover then
    ((s.setNum PD.COURSE_HOLDOVER_COUNT 0).setNum PD.COURSE_FLAGS 0).setCourse .locked
  else s

/-- A frame accepted in LOCKED or HOLDOVER, with its delay-compensated mark (R45-R47). -/
def State.timedMark (s : State) (n : BitVec 48) (t : Nat) : State :=
  let c := s.course
  let x := posOf c.segs t
  let near := (x + 2 ^ 47) / 2 ^ 48
  let e : Int := (x : Int) - ((near * 2 ^ 48 : Nat) : Int)
  if n ≠ BitVec.ofNat 48 near then
    let series := match c.series with
      | (m, u) :: l => if n = m + 1 then (n, t) :: (m, u) :: l else [(n, t)]
      | [] => [(n, t)]
    let s : State := { s with course := { c with series := series } }.bump PD.COURSE_DISCORDANT
    if 3 ≤ series.length then s.newSeries (series.take 3) else s
  else if 0x0400 * 2 ^ 32 ≤ e.natAbs then
    let s : State := { s with course := { c with series := [], oow := c.oow + 1 } }.bump PD.COURSE_OUT_OF_WINDOW
    if 3 ≤ c.oow + 1 then s.loseCourse else s
  else s.useMark n t e

/-- An accepted frame: its counters, and its mark in the states that use one (R41, R60). -/
def State.acceptFrame (s : State) (p : CoursePayload) (mark : Nat) : State :=
  let s := (s.bump PD.COURSE_FRAMES_GOOD).setNum PD.COURSE_LAST_TAG p.tag.toNat
  match s.course.st with
  | .acquiring => s.acquire p.number mark
  | .locked | .holdover => s.timedMark p.number mark
  | .unlocked | .lost => s

/-- The receiver and the unit work: the hub's clocks run and REFCLK is present (R42, R447). -/
def State.listening (s : State) : Bool :=
  s.clk.refclk && (match s.mode with
    | .off | .reset | .coast | .frozen => false
    | _ => true)

/-- COURSE_FRAME (R41, R42): a frame after at least 2 µs of idle is decoded and checked; one accepted gives its mark about 9.6 µs after the
first transition. Less idle is no frame (DEDUCED, log 16). A master ignores COURSE_IN (R56). -/
def execCourseFrame (markTs idleNs : Nat) (levels : List Bool) (s : State) : Res :=
  if !s.listening ∨ s.course.master.isSome then .next s
  else
    let s := s.runTo (markTs + 9600)
    .next (if idleNs < 2000 then s.bump PD.COURSE_DECODE_ERR
      else match frameResult levels with
        | .decodeErr => s.bump PD.COURSE_DECODE_ERR
        | .crcErr => s.bump PD.COURSE_CRC_ERR
        | .versionErr => s.bump PD.COURSE_VERSION_ERR
        | .good p => s.acceptFrame p (markTs - s.num PD.COURSE_IN_DELAY_NS))

/-- UNMARKED_WRAP (R49): 10 µs after the window of the first wrap that no mark has judged closes, it counts as unmarked; past the holdover
limit the unit goes to LOST (R50). -/
def execUnmarkedWrap (s : State) : Res :=
  if !s.timed ∨ !s.listening then .next s
  else
    let w := s.course.judged + 1
    let close := s.course.cycleOf (w.toNat * 2 ^ 48 + 0x0400 * 2 ^ 32)
    let s := s.runTo (close + 10000)
    let s : State := { s with course := { s.course with judged := w } }.bump PD.COURSE_UNMARKED
    let n := s.num PD.COURSE_HOLDOVER_COUNT + 1
    let s := s.setNum PD.COURSE_HOLDOVER_COUNT (n % 65536)
    let s := if s.course.st = .locked then (s.setNum PD.COURSE_FLAGS 1).setCourse .holdover else s
    .next (if s.num PD.COURSE_HOLDOVER_LIMIT < n then s.loseCourse else s)

/-! ## The course master (R56, R57) -/

/-- COURSE_OUT may carry a frame: REFCLK is present, the state drives it, and no invalid commit silences it in HELD (R57, R408). -/
def State.drivesCourse (s : State) : Bool :=
  s.clk.refclk && (match s.mode with
    | .off | .reset | .boot | .loader | .coast => false
    | _ => true) && !s.dict.silenced

/-- Frames that a silent output let pass are not sent later: the next one starts at the last point of the master's grid that has come. -/
def Master.catchUp (m : Master) (now : Nat) : Master := { m with start := m.start + (now - m.start) / max m.period 1 * m.period }

/-- COURSE_MASTER_FRAME (R56): the next frame starts; the unit takes its mark internally with zero delay. The interval that begins uses the
period in force. -/
def execCourseMasterFrame (s : State) : Res :=
  match s.course.master with
  | none => .next s
  | some m =>
    if !s.drivesCourse then .next s
    else
      let m := m.catchUp s.course.now
      let s := s.runTo m.start
      let tag := s.num PD.COURSE_MASTER_TAG
      let p := s.num PD.COURSE_PERIOD_NS
      let s := s.emit (.courseOut (frameBits m.nextNumber tag))
      let s : State := { s with course := { s.course with master := some ⟨m.nextNumber + 1, p, m.start + p⟩ } }
      .next (if s.listening then
        (s.runTo (m.start + 9650)).acceptFrame ⟨m.nextNumber, 1, BitVec.ofNat 8 tag⟩ (m.start + 50)
      else s)

/-- What a commit does to the master: it starts 10 µs before its first frame, or stops; while it stays enabled nothing due moves (R56). -/
def State.commitMaster (s : State) (was : Bool) : State :=
  let on := s.flag PD.COURSE_MASTER_EN
  let c := s.course
  if on ∧ (!was ∨ c.master.isNone) then
    let p := s.num PD.COURSE_PERIOD_NS
    { s with course := { c with master := some ⟨BitVec.ofNat 48 (s.num PD.COURSE_MASTER_START), p, c.now + 10000⟩ } }
  else if on then s
  else { s with course := { c with master := none } }

/-- WRAP (R43): published time comes to the next carry out of the accumulator. -/
def execWrap (s : State) : Res :=
  if s.timed ∧ s.listening then .next (s.advanceTo ((s.course.count + 1) ++ (0 : BitVec 16))) else .next s

end Sys2Proof.Machine
end

