-- ==== Sys2Proof/Machine/Calibration.lean ====
section
/-! DEFINITION. Machine/Calibration.lean: coefficient pairs, temperature sets, pattern and resident runs, trim banks and their swaps, stored
sets in flash (R151-R174). A column key counts die, cell and bit-column; a set key the set before the cell. -/
namespace Sys2Proof.Machine

/-- Rounds n / d half away from zero, as every rounding of the chapter does (R151). -/
def roundAway (n : Int) (d : Nat) : Int :=
  let m : Int := (((2 * n.natAbs + d) / (2 * d) : Nat) : Int)
  if n < 0 then -m else m

/-! ## Pairs and trims (R151, R152) -/

def Pair.none : Pair := ⟨0, 0⟩
def Pair.neutral : Pair := ⟨0x8000, 0⟩
def pairOf (gain offset : Int) : Pair := ⟨BitVec.ofInt 16 (max 0 (min 65535 gain)), BitVec.ofInt 16 (max (-32768) (min 32767 offset))⟩
def inWindow (gain offset : Int) : Bool := 24576 ≤ gain && gain ≤ 40960 && -2048 ≤ offset && offset ≤ 2048
/-- REF_TRIM and OFS_TRIM that a pair sets. -/
def Pair.refTrim (p : Pair) : Int := 512 + roundAway ((p.gain.toNat : Int) - 32768) 64
def Pair.ofsTrim (p : Pair) : Int := -roundAway p.offset.toInt 32

def colKey (die cell col : Nat) : Nat := (die * 2048 + cell) * 536 + col
def setKey (die set cell col : Nat) : Nat := ((die * 5 + set) * 2048 + cell) * 536 + col

def factoryPair (k : Nat) : Pair := ⟨Config.factoryGain k, Config.factoryOffset k⟩

def State.setInfo (s : State) (b : Nat) : SetInfo := kvGet (fun _ => {}) s.cal.info b
def State.dieCal (s : State) (d : Nat) : DieCal := kvGet (fun _ => {}) s.cal.dies d
def State.setDieCal (s : State) (d : Nat) (c : DieCal) : State := { s with cal := { s.cal with dies := kvSet (fun _ => {}) s.cal.dies d c } }

/-- A column's entry in a set; a BAD set holds none (R161). -/
def State.setPair (s : State) (die set cell col : Nat) : Pair :=
  if (s.setInfo (die * 5 + set)).state = 3 then Pair.none else kvGet factoryPair s.cal.sets (setKey die set cell col)

def State.measuredPair (s : State) (k : Nat) : Pair := kvGet (fun _ => Pair.none) s.cal.measured k

/-- A column's pair in force: the active bank's (R166). -/
def State.activePair (s : State) (k : Nat) : Pair :=
  kvGet (fun _ => Pair.neutral) (if s.num PD.CAL_BANK = 0 then s.cal.bank0 else s.cal.bank1) k

/-! ## Interpolation (R153, R154) -/

/-- Lower set, upper set if T16 lies between two, and distance from the lower node. -/
def nodesAt (t : Int) : Nat × Option Nat × Nat :=
  if t ≤ 560 then (0, none, 0)
  else if 1520 ≤ t then (4, none, 0)
  else
    let i := ((t - 560) / 240).toNat
    (i, some (i + 1), ((t - 560) % 240).toNat)

/-- The set nearest a temperature. -/
def nearestSet (t : Int) : Nat :=
  match nodesAt t with
  | (i, some j, d) => if d < 120 then i else j
  | (i, none, _) => i

def between (a b : Int) (d : Nat) : Int := a + ((b - a) * d + 120) / 240

/-- The pair that the stored sets give a column at a temperature. -/
def State.interpolate (s : State) (die cell col : Nat) (t : Int) : Pair :=
  let back := fun (p : Pair) => if p.gain = 0 then s.measuredPair (colKey die cell col) else p
  match nodesAt t with
  | (i, none, _) => back (s.setPair die i cell col)
  | (i, some j, d) =>
    let a := s.setPair die i cell col
    let b := s.setPair die j cell col
    if a.gain = 0 then back b
    else if b.gain = 0 then a
    else pairOf (between a.gain.toNat b.gain.toNat d) (between a.offset.toInt b.offset.toInt d)

/-! ## Trim banks and swaps (R155, R163-R169) -/

/-- A swap makes the idle bank active; `last` is what CAL_LAST_SWAP takes (R166, R167). -/
def State.swapBanks (s : State) (last : Nat) : State :=
  let s := ((s.setNum PD.CAL_BANK (1 - s.num PD.CAL_BANK)).bump PD.CAL_SWAPS).setNum PD.CAL_LAST_SWAP last
  { s with cal := { s.cal with idle := .free } }

/-- The idle bank takes a pair for every bit-column. -/
def State.writeIdle (s : State) (f : Nat → Nat → Nat → Pair) : State :=
  let pairs := (List.range 8).flatMap fun d => (List.range 2048).flatMap fun c => (List.range 536).map fun b => f d c b
  let bank := kvSetList (fun _ => Pair.neutral) [] 0 pairs
  { s with cal := { s.cal with bank0 := if s.num PD.CAL_BANK = 0 then s.cal.bank0 else bank
                               bank1 := if s.num PD.CAL_BANK = 0 then bank else s.cal.bank1
                               idle := .settling } }

def State.compat (s : State) : Bool := s.num PD.CAL_MODE = 1

/-- Trims are due: under NATIVE when some die has moved by CAL_TRIM_STEP (R155); under COMPAT when new pairs await (R163, R164). -/
def State.trimsDue (s : State) : Bool :=
  if s.compat then (List.range 8).any fun d => (s.dieCal d).awaiting
  else (List.range 8).any fun d => s.num PD.CAL_TRIM_STEP ≤ (s.dieT16 d - (s.dieCal d).applied).natAbs

/-- The idle-bank write: trims due and, for every other column, those in force (R167). -/
def State.writeDue (s : State) : State :=
  let f := fun (d c b : Nat) =>
    let k := colKey d c b
    if s.compat then (if (s.dieCal d).awaiting && (s.measuredPair k).gain ≠ 0 then s.measuredPair k else s.activePair k)
    else s.interpolate d c b (s.dieT16 d)
  let s := (s.grant .calibration 8).2.writeIdle f
  s.each (List.range 8) fun s d =>
    let c := s.dieCal d
    if !s.compat ∨ c.awaiting then s.setDieCal d { c with applied := s.dieT16 d, awaiting := false } else s

/-- A resident run of a die starts; a trigger for one in progress is absorbed (R164, R165). -/
def State.startResident (s : State) (d : Nat) : State :=
  let c := s.dieCal d
  if c.running then s
  else (s.setDieCal d { c with running := true, done := [], offsetOnly := 0, tSum := 0, tCount := 0 }).request .calibration d

/-- What calibration does at a step verdict: COMPAT triggers, then the idle banks: written when due, deferred while settling, their swap queued
at the first course mark after the verdict once settled (R164, R167). -/
def State.calVerdict (s : State) : State :=
  let s := if s.compat then s.each (List.range 8) fun s d =>
      let c := s.dieCal d
      if s.num PD.CAL_COMPAT_DELTA < (s.dieT16 d - c.tLast).natAbs ∧ !c.running then (s.bump PD.CAL_COMPAT_TRIGGERS).startResident d else s
    else s
  let s : State := { s with faults := { s.faults with
    queue := (s.faults.running.filter fun x => x.activity = .calibration) ++ s.faults.queue
    running := s.faults.running.filter fun x => x.activity ≠ .calibration } }
  match s.cal.idle with
  | .free => if s.trimsDue then s.writeDue else s
  | .settling => s.bump PD.CAL_SWAPS_DEFERRED
  | .settled =>
    match s.present ⟨(s.course.count + 1) ++ (0 : BitVec 16), .swap, 0, 0⟩ with
    | (.ok, s) => { s with cal := { s.cal with idle := .queued } }
    | (_, s) => s
  | .queued => s

/-- With no step open the idle banks are written as soon as trims are due (R169). -/
def State.calWhenIdle (s : State) : State :=
  if s.mode = .held ∧ !s.step.opened ∧ s.cal.idle = .free ∧ s.trimsDue then s.writeDue else s

/-- BANK_SETTLED (R166, R169): 2 ms after their write the idle banks have settled; with no step open the swap is made at once, also that of
banks settled earlier. -/
def execBankSettled (s : State) : Res :=
  if (s.cal.idle ≠ .settling ∧ s.cal.idle ≠ .settled) ∨ s.mode = .frozen ∨ s.mode = .coast then .next s
  else if s.step.opened then .next { s with cal := { s.cal with idle := .settled } }
  else .next (s.swapBanks 0).calWhenIdle

/-- CALIBRATION_TABLE_SWAP (R167): the queued event makes the settled banks active. -/
def execCalibrationTableSwap (s : State) : Res :=
  match s.fire .swap with
  | some (e, s) => .next (if s.cal.idle = .queued then s.swapBanks e.time.toNat else s)
  | none => .next s

/-! ## Refresh of the stored sets (R160, R161) -/

/-- The measured temperature of a run: the mean of T16 as read over it, or T16 now. -/
def State.runT16 (s : State) (d : Nat) : Int :=
  let c := s.dieCal d
  if c.tCount = 0 then s.dieT16 d else roundAway c.tSum c.tCount

def State.readT16 (s : State) (d : Nat) : State :=
  let c := s.dieCal d
  s.setDieCal d { c with tSum := c.tSum + s.dieT16 d, tCount := c.tCount + 1 }

/-- A refreshed entry. -/
def refreshed (entry m v : Int) (q : Nat) (lo hi : Int) : Int := max lo (min hi (entry + roundAway ((m - v) * 240) q))

/-- The set nearest the die's mean T16 takes the measured pairs; it is due in flash when CAL_PERSIST is set. -/
def State.refreshSet (s : State) (d : Nat) : State :=
  let t := s.runT16 d
  let n := nearestSet t
  let q := match nodesAt t with
    | (i, some _, x) => if n = i then 240 - x else x
    | (_, none, _) => 240
  let sets := (List.range 2048).foldl (fun m c => (List.range 536).foldl (fun m b =>
    let x := s.measuredPair (colKey d c b)
    if x.gain = 0 then m
    else
      let e := s.setPair d n c b
      let v := s.interpolate d c b t
      let g := refreshed e.gain.toNat x.gain.toNat v.gain.toNat q 0 65535
      let o := refreshed e.offset.toInt x.offset.toInt v.offset.toInt q (-32768) 32767
      kvSet factoryPair m (setKey d n c b) (pairOf g o)) m) s.cal.sets
  let s : State := { s with cal := { s.cal with sets := sets } }
  let far := (List.range (2048 * 536)).filter fun k =>
    let f := factoryPair ((d * 5 + n) * 2048 * 536 + k)
    let p := kvGet factoryPair s.cal.sets ((d * 5 + n) * 2048 * 536 + k)
    s.num PD.CAL_DRIFT_GAIN < ((p.gain.toNat : Int) - f.gain.toNat).natAbs || s.num PD.CAL_DRIFT_OFS < (p.offset.toInt - f.offset.toInt).natAbs
  let i := s.setInfo (d * 5 + n)
  let i : SetInfo := { state := if 2048 * 536 < 100 * far.length then 1 else 0, temp := t, refreshes := i.refreshes + 1, refreshed := true }
  let c := s.dieCal d
  let s := s.setDieCal d { c with nearest := n }
  let s : State := { s with cal := { s.cal with
    info := kvSet (fun _ => {}) s.cal.info (d * 5 + n) i
    flashDue := if s.flag PD.CAL_PERSIST then (s.cal.flashDue.filter fun x => !(x.1 = d && x.2.1 = n)) ++ [(d, n, false)] else s.cal.flashDue } }
  if s.flag PD.CAL_PERSIST then s.request .calibration (16 + d * 5 + n) else s

/-! ## Pattern calibration (R156-R159) -/

def pointMax (p : Point) (n d : Nat) : Bool := n * 65536 < p.sum * d
/-- The mean lies more than n/d from k. -/
def pointOff (p : Point) (k n d : Nat) : Bool := n * 65536 < ((p.sum : Int) - k * 65536).natAbs * d
/-- The rms deviation exceeds n/d. -/
def pointRms (p : Point) (n d : Nat) : Bool := n * n * 65536 * 65536 < (65536 * p.sumSq - p.sum * p.sum) * d * d

/-- The line through the four raw means at 16, 80, 160 and 240: GAIN, OFFSET, and a deviation of more than 0.5 LSB rms (R157, R158). -/
def rawFit (ps : List Point) : Int × Int × Bool :=
  let s := fun (i : Nat) => (((ps[i]?).map (·.sum)).getD 0 : Int)
  let a := -108 * s 0 - 44 * s 1 + 36 * s 2 + 116 * s 3
  let t := s 0 + s 1 + s 2 + s 3
  let sq := s 0 * s 0 + s 1 * s 1 + s 2 * s 2 + s 3 * s 3
  (roundAway a 56704, roundAway (256 * (t * 28352 - 496 * a)) (4 * 65536 * 28352),
    decide ((4 * 28352 * 65536 * 65536 : Int) < 4 * 28352 * sq - 28352 * t * t - 4 * a * a))

/-- Tests at 254 and 256, which the shared over-range comparator makes tests of the converter. -/
def colRangeFails (m : ColMeas) : Bool :=
  pointOff m.k254 254 1 2 || pointRms m.k254 1 1 || 0 < m.k254.overs || decide (65536 < (65536 - m.k256.overs) * 10000)

/-- A bit-column fails the run at step 8 (R158). -/
def colFails (m : ColMeas) : Bool :=
  let (g, o, rms) := rawFit m.raw
  m.writeFail || !inWindow g o || rms || pointMax m.k0 1 2 || pointOff m.k128 128 1 4 || pointRms m.k128 3 5 || colRangeFails m
    || pointMax m.leak 1 2 || 2 < m.leak.max

/-- Columns that fail, with both columns of every converter that fails (R158, R138). -/
def cellFailed (m : CellMeas) : List Nat :=
  let f := fun (b : Nat) => (m.cols[b]?).any colFails
  let r := fun (b : Nat) => (m.cols[b]?).any colRangeFails
  (List.range 536).filter fun b =>
    let a := b / 2 * 2
    f b || (f a && f (a + 1)) || r a || r (a + 1)

/-- The spare map from nothing: failed spares unusable, then witness columns, then data columns, each by the lowest usable spare still free;
none when there are too few (R159). -/
def buildSpares (failed : List Nat) : Option (List (Nat × W16)) :=
  let bad := (List.range 16).filter fun k => failed.contains (512 + k)
  let free := (List.range 16).filter fun k => !bad.contains k
  let want := failed.filter (528 ≤ ·) ++ failed.filter (· < 512)
  if free.length < want.length then none
  else
    let m := bad.foldl (fun m k => kvSet (fun _ => (0 : W16)) m k 0x4000) []
    some ((free.zip want).foldl (fun m x => kvSet (fun _ => (0 : W16)) m x.1 (BitVec.ofNat 16 (0x8000 + x.2))) m)

/-- One more target on the lowest free usable spare; the spare that stood in for it becomes unusable (R159). -/
def Cell.addSpare (c : Cell) (target : Nat) : Option Cell :=
  let c := match c.spareOf target with
    | some k => { c with spare := kvSet (fun _ => (0 : W16)) c.spare k 0x4000 }
    | none => c
  match c.freeSpares with
  | k :: _ => some { c with spare := kvSet (fun _ => (0 : W16)) c.spare k (BitVec.ofNat 16 (0x8000 + target)) }
  | [] => none

/-- Witness columns that step 9 finds failing the first or the second time. -/
def cellWitness (m : CellMeas) (again : Bool) : List Nat :=
  (List.range 8).map (528 + ·) |>.filter fun b => (m.cols[b]?).any fun c => if again then c.witFailAgain else c.witFail

/-- A calibrated cell: zeros in its data columns, the witness patterns in witness columns and their stand-ins, no scales (R133, R159). -/
def Cell.blank (c : Cell) : Cell :=
  { c with rows := (List.range 1024).foldl (fun m r => kvSet rowDefault m r (c.fullRow 0 r)) [], scales := [], todo := [], runs := [] }

/-- One cell's wave: its columns' pairs, its spare map, or its retirement (R157-R159). -/
def State.calibrateCell (s : State) (m : CellMeas) : State :=
  let g := m.cell
  let d := g / 2048
  let failed := cellFailed m
  let wit := cellWitness m false
  let c : Option Cell := (buildSpares failed).bind fun sp =>
    let c : Cell := { s.cell g with spare := sp }
    wit.foldl (fun (x : Option Cell) b => x.bind (·.addSpare b)) (some c)
  let all := failed ++ wit.filter fun b => !failed.contains b
  let pairs := (List.range 536).map fun b =>
    if all.contains b then Pair.none
    else
      let (gn, o, _) := rawFit (((m.cols[b]?).map (·.raw)).getD [])
      pairOf gn o
  let dc := s.dieCal d
  let s := (s.setDieCal d { dc with failed := dc.failed + all.length }).bumpBy PD.CAL_COLUMNS_FAILED all.length
  let s : State := { s with cal := { s.cal with measured := kvSetList (fun _ => Pair.none) s.cal.measured (colKey d (g % 2048) 0) pairs } }
  match c with
  | some c =>
    let s := s.setCell g c.blank
    if !wit.isEmpty && !(cellWitness m true).isEmpty then s.retireArrayCell g 3 17 else s
  | none => (s.setCell g (s.cell g).blank).retireArrayCell g 3 17

/-- Cells of a wave that work: blocks 16w to 16w + 15 of every array die (R156). -/
def State.waveCells (s : State) (w : Nat) : List Nat :=
  (List.range 8).flatMap fun d => ((List.range 16).map fun b => 16 * w + b).flatMap fun b =>
    if s.faults.retiredBlocks.contains (d * 128 + b) then []
    else (s.blockCells d b 2).map fun c => d * 2048 + b * 16 + c

/-- The module passes to CALIBRATE: the first wave is next, nothing has failed yet, the arrays hold no weights (R156, R165). -/
def State.enterCalibrate (s : State) (fromHeld : Bool) : State :=
  let s := s.setNum PD.CAL_COLUMNS_FAILED 0
  let s := s.each (List.range 8) fun s d => s.setDieCal d { s.dieCal d with failed := 0, offsetOnly := 0, running := false, done := [], awaiting := false,
                                                                            tSum := 0, tCount := 0 }
  let s : State := { s with cal := { s.cal with wave := 0, fromHeld := fromHeld, measured := [], idle := .free }
                            arrays := { s.arrays with loaded := [], writes := [] } }
  s.enter .calibrate

/-- CALIBRATION_WAVE (R156-R159): the next of the eight waves ends on its cells. -/
def execCalibrationWave (wave : Fin 8) (meas : List CellMeas) (s : State) : Res :=
  if s.mode ≠ .calibrate ∨ s.cal.wave ≠ wave.val then .next s
  else
    let s := s.each ((s.waveCells wave.val).filterMap fun g => meas.find? fun m => m.cell = g) State.calibrateCell
    let s := s.each (List.range 8) State.readT16
    .next { s with cal := { s.cal with wave := wave.val + 1 } }

/-- A run of a die has completed: its set is refreshed and its last run recorded (R160, R164). -/
def State.runDone (s : State) (d kind : Nat) : State :=
  let s := s.refreshSet d
  let c := s.dieCal d
  s.setDieCal d { c with lastRun := kind, tLast := s.dieT16 d, running := false, done := [], tSum := 0, tCount := 0 }

/-- The end of a pattern run (R156, R160, R161, R169): the sets are refreshed and checked, and the trims just measured are loaded and swapped
in. -/
def State.endPattern (s : State) : State :=
  let s := s.each (List.range 8) fun s d => s.runDone d 1
  let f := fun (d c b : Nat) => let p := s.measuredPair (colKey d c b); if p.gain = 0 then s.interpolate d c b (s.dieT16 d) else p
  let s := (s.writeIdle f).swapBanks 0
  let s := s.each (List.range 8) fun s d => s.setDieCal d { s.dieCal d with applied := s.dieT16 d }
  let s := s.bump PD.CAL_RUNS
  { s with cal := { s.cal with wave := 0 } }

/-- A write to CAL_RUN (R165): 1 starts a pattern run, accepted only in HELD, which passes to CALIBRATE; 2 a resident run of every die, accepted
in HELD and RUN; others give BAD_ARGUMENT. -/
def State.calRun (s : State) (v : Nat) : State :=
  if !s.mode.hubRuns then s
  else if s.mode = .boot ∨ s.mode = .calibrate then s.result PD.CAL_RUN_RESULT 2
  else if v = 1 then
    if s.mode = .held then (s.result PD.CAL_RUN_RESULT 0).enterCalibrate true else s.result PD.CAL_RUN_RESULT 2
  else if v = 2 then
    if s.mode = .held ∨ s.mode = .run then (s.result PD.CAL_RUN_RESULT 0).each (List.range 8) State.startResident
    else s.result PD.CAL_RUN_RESULT 2
  else s.result PD.CAL_RUN_RESULT 1

/-- CAL_RUN 1 (R165). -/
def execCalRunPattern (s : State) : Res := .next (s.calRun 1)

/-- CAL_RUN 2 (R165). -/
def execCalRunResident (s : State) : Res := .next (s.calRun 2)

/-! ## Resident calibration (R162, R163) -/

/-- One step of the LFSR x^32 + x^22 + x^2 + x + 1. Which of its two usual forms it takes and which of its bits drives a row are open (DESIGN CHOICE, log 7). -/
def lfsrStep (x : Nat) : Nat :=
  if Config.fnNat 4 [] 0 % 2 = 0 then (x * 2 + b2n (bit x 31 ^^ bit x 21 ^^ bit x 1 ^^ bit x 0)) % 2 ^ 32
  else if bit x 31 then (x * 2) % 2 ^ 32 ^^^ 0x00400007 else x * 2
def lfsrBit (x : Nat) : Bool := bit x (Config.fnNat 4 [] 1 % 32)

/-- n input bits and the register after them. -/
def lfsrBits : Nat → Nat → List Bool × Nat
  | 0, x => ([], x)
  | n + 1, x =>
    let r := lfsrBits n (lfsrStep x)
    (lfsrBit x :: r.1, r.2)

/-- The probes of a cell: first row and input bits, 512 for each 128-row group in turn. -/
def probes : Nat → Nat → Nat → List (Nat × List Bool)
  | 0, _, _ => []
  | n + 1, i, x =>
    let r := lfsrBits 128 x
    (i / 512 * 128, r.1) :: probes n (i + 1) r.2

/-- Reference counts of one bit-column over the probes (R162). -/
def refCounts (c : Cell) (ps : List (Nat × List Bool)) (b : Nat) : List Nat :=
  ps.map fun p => (p.2.zipIdx.filter fun x => x.1 && (c.row (p.1 + x.2)).getLsbD b).length

/-- Outcome of one column's fit: its new pair or none, an offset-only fit, a pair out of window. -/
structure ProbeFit where
  pair : Option Pair
  offsetOnly : Bool
  out : Bool
  deriving DecidableEq, Repr

/-- The fit of codes against reference counts, composed with the trims in force (R162). Where every reference count is the same no line is
determined and the intercept is open (DESIGN CHOICE, log 7). -/
def probeFit (now : Pair) (key : Nat) (xy : List (Nat × Nat)) : ProbeFit :=
  let xs := xy.filter fun p => 8 ≤ p.1
  let n : Int := xs.length
  if xs.length < 256 then ⟨none, false, false⟩
  else
    let sx : Int := (total (xs.map (·.1)) : Nat)
    let sy : Int := (total (xs.map (·.2)) : Nat)
    let sxx : Int := (total (xs.map fun p => p.1 * p.1) : Nat)
    let sxy : Int := (total (xs.map fun p => p.1 * p.2) : Nat)
    let den := n * sxx - sx * sx
    let num := n * sxy - sx * sy
    let lo := xs.foldl (fun m p => min m p.1) 65536
    let hi := xs.foldl (fun m p => max m p.1) 0
    let gain := if den = 0 then (now.gain.toNat : Int) else roundAway ((32768 + 64 * (now.refTrim - 512)) * num) den.natAbs
    let ofs := if den = 0 then ((Config.fnNat 5 [key] 0 % 65536 : Nat) : Int) - 32768
      else -32 * now.ofsTrim + roundAway (256 * (sy * den - num * sx)) (n * den).natAbs
    let only : Bool := hi - lo < 64
    let gain := if only then (now.gain.toNat : Int) else gain
    if inWindow gain ofs then ⟨some (pairOf gain ofs), only, false⟩ else ⟨none, only, true⟩

/-- RESIDENT_PROBE_SET (R162, R163, R170): a cell's 4,096 probes under the die's grant, while no operation is open on its leaf, no write waits for
it, and the Level loop leaves slots. The die's run completes with its last working cell. -/
def execResidentProbeSet (cell : Nat) (codes : List (List Byte)) (s : State) : Res :=
  let d := cell / 2048
  let dc := s.dieCal d
  let open_ : Bool := s.arrays.op.any fun o => o.leaf = 2 || o.leaf = cell % 16 / 8
  let works : Bool := !s.faults.retiredCells.contains cell && !s.faults.retiredBlocks.contains (cell / 16)
  if !(s.mode = .held ∨ s.mode = .run) ∨ !dc.running ∨ dc.done.contains cell ∨ open_ ∨ s.arrays.writes.any (fun w => w.1 = cell)
      ∨ !works ∨ s.num PD.LEVEL_F < 64 then .next s
  else
    let held : Bool := s.faults.running.any fun x => x.activity = .calibration && x.resource = d
    let (ok, s) : Bool × State := if held then (true, s) else
      let g := s.grant .calibration d
      (g.1, if g.1 then g.2.startGrant .calibration d else g.2)
    if !ok then .next s
    else
      let c := s.cell cell
      let ps := probes 4096 0 (cell + 1)
      let fits := (List.range 536).map fun b =>
        let k := colKey d (cell % 2048) b
        probeFit (s.activePair k) k ((refCounts c ps b).zip (codes.map fun r => ((r[b]?).map (·.toNat)).getD 0))
      let s : State := { s with cal := { s.cal with
        measured := kvSetList (fun _ => Pair.none) s.cal.measured (colKey d (cell % 2048) 0) (fits.map fun f => f.pair.getD Pair.none) } }
      let s := if fits.any (·.out) then
          let u : FaultUnit := ⟨d, cell % 2048 / 16, cell % 16⟩
          (s.confirm u 17).spall (spallPlace { kind := 0x11, level := 0, mech := 17, outcome := 7 } u)
        else s
      let dc := s.dieCal d
      let dc := { dc with done := dc.done ++ [cell], offsetOnly := dc.offsetOnly + (fits.filter (·.offsetOnly)).length }
      let s := (s.setDieCal d dc).readT16 d
      let left := fun (w : Nat) => (s.waveCells w).filter fun g => g / 2048 = d && !dc.done.contains g
      let s := if (left (cell % 2048 / 256)).isEmpty then s.endGrant .calibration d else s
      if (List.range 8).any fun w => !(left w).isEmpty then .next s
      else
        let s := (s.runDone d 2).bump PD.CAL_RUNS
        .next (s.setDieCal d { s.dieCal d with awaiting := s.compat }).calWhenIdle

/-! ## Stored sets in flash (R171, R172) -/

/-- Flash offset of a set block in the working region. -/
def setBlock (die set : Nat) : Nat := 0x2C000000 + (die * 5 + set) * 0x440000

/-- Data of a set: one record per bit-column. -/
def State.setData (s : State) (die set : Nat) : List Byte :=
  (List.range 2048).flatMap fun c => (List.range 536).flatMap fun b =>
    let p := kvGet factoryPair s.cal.sets (setKey die set c b)
    le 2 p.gain.toNat ++ le 2 p.offset.toNat

/-- The header sector of a refreshed set. -/
def setHeader (die set : Nat) (i : SetInfo) (data : List Byte) : List Byte :=
  padTo 65536 (le 8 (0x4C414353 + 1 * 2 ^ 32 + die * 2 ^ 40 + set * 2 ^ 43 + 1 * 2 ^ 46 + unsigned 16 i.temp * 2 ^ 48)
    ++ le 4 i.refreshes ++ le 4 4390912 ++ padTo 48 (Config.sha384 data))

/-- SET_FLASH_WRITE (R171, R172): a grant erases and writes a refreshed set's data sectors; its header sector is the last. -/
def execSetFlashWrite (die : Fin 8) (set : Fin 5) (s : State) : Res :=
  match s.cal.flashDue.find? fun x => x.1 = die.val && x.2.1 = set.val with
  | none => .next s
  | some x =>
    if !s.mode.maintains then .next s
    else match s.grant .calibration (16 + die.val * 5 + set.val) with
      | (false, s) => .next s
      | (true, s) =>
        let rest := s.cal.flashDue.erase x
        let data := s.setData die.val set.val
        if x.2.2 then
          .next { (s.write stFlash (setBlock die.val set.val) (setHeader die.val set.val (s.setInfo (die.val * 5 + set.val)) data)) with
            cal := { s.cal with flashDue := rest } }
        else
          let s := s.write stFlash (setBlock die.val set.val) (List.replicate 0x10000 0xFF)
          let s := s.write stFlash (setBlock die.val set.val + 0x10000) data
          let s : State := { s with cal := { s.cal with flashDue := (x.1, x.2.1, true) :: rest } }
          .next (s.request .calibration (16 + die.val * 5 + set.val))

/-! ## The stored sets at power-up (R156, R161, R172) -/

/-- The working copy of a set in flash holds its header and its digest. -/
def State.setStored (s : State) (b : Nat) : Bool :=
  let h := s.read stFlash (setBlock (b / 5) (b % 5)) 64
  let w := fieldAt h 0 8
  bits w 0 32 = 0x4C414353 && bits w 32 4 = 1 && bits w 40 3 = b / 5 && bits w 43 3 = b % 5 && fieldAt h 12 4 = 4390912
    && (h.drop 16).take 48 = Config.sha384 (s.read stFlash (setBlock (b / 5) (b % 5) + 0x10000) 4390912)

/-- The hubs read every stored set: from its working copy, else from the factory copy, else it is BAD. Whether a factory copy's digest passes is
the part's own (DESIGN CHOICE, log 20). -/
def State.readSets (s : State) : State :=
  let s : State := { s with cal := { s.cal with sets := [], info := [] } }
  s.each (List.range 40) fun s b =>
    if s.setStored b then
      let h := s.read stFlash (setBlock (b / 5) (b % 5)) 64
      let recs := (List.range (2048 * 536)).map fun i =>
        let r := s.read stFlash (setBlock (b / 5) (b % 5) + 0x10000 + 4 * i) 4
        (⟨BitVec.ofNat 16 (fieldAt r 0 2), BitVec.ofNat 16 (fieldAt r 2 2)⟩ : Pair)
      let i : SetInfo := ⟨0, signed 16 (fieldAt h 6 2), fieldAt h 8 4, bits (fieldAt h 0 8) 46 2 = 1⟩
      { s with cal := { s.cal with sets := kvSetList factoryPair s.cal.sets (b * 2048 * 536) recs, info := kvSet (fun _ => {}) s.cal.info b i } }
    else
      let bad : Bool := Config.fnNat 6 [b] 0 % 2 = 1
      let i : SetInfo := ⟨if bad then 3 else 2, Config.factoryTemp b, 0, false⟩
      ({ s with cal := { s.cal with info := kvSet (fun _ => {}) s.cal.info b i } }).bump (if bad then PD.CAL_SET_BAD else PD.CAL_SET_RESTORED)

end Sys2Proof.Machine
end

