-- ==== Sys2Proof/Machine/Kenlink.lean ====
section
/-! DEFINITION. Machine/Kenlink.lean: the Kenlink commands: training, flits, acknowledgement and replay, credits, forwarding, reassembly,
discovery (R357-R384). -/
namespace Sys2Proof.Machine

/-! ## Training (R357, R362) -/

/-- PORT_TRAINING (R357, R376): a port that has trained sends its identity frame; one that failed is DOWN. A port that retrains stays so until
the peer's frame or its limit. -/
def execPortTraining (port : Port) (result : Training) (s : State) : Res :=
  let p := port.val
  let l := s.port p
  if !s.lanesUp ∨ l.st.live then .next s
  else match result with
    | .failed => .next (s.setPort p { l with st := .down })
    | .trained =>
      let l := if l.retraining then l else l.linkUp
      .next ((s.setPort p { l with st := .identify, peer := none }).sendIdentity p)

/-- PORT_TRAINING_RETRY (R357): a DOWN port trains again while the far end is not in electrical idle. -/
def execPortTrainingRetry (port : Port) (farIdle : Bool) (s : State) : Res :=
  let l := s.port port.val
  if s.lanesUp ∧ l.st = .down ∧ !farIdle then .next (s.setPort port.val { l with st := .training }) else .next s

/-- CODEWORD_TIMEOUT (R362): 200 µs without a valid codeword. -/
def execCodewordTimeout (port : Port) (s : State) : Res :=
  if s.lanesUp ∧ (s.port port.val).st.live then .next (s.retrain port.val) else .next s

/-- RETRAIN_LIMIT (R362): the retrain has not ended in time. -/
def execRetrainLimit (port : Port) (s : State) : Res :=
  if s.lanesUp ∧ (s.port port.val).retraining then .next (s.linkDown port.val) else .next s

/-- REPLAY_TIMEOUT (R361): 20 µs without ACK advancing while flits are unacknowledged. -/
def execReplayTimeout (port : Port) (s : State) : Res :=
  let l := s.port port.val
  if s.lanesUp ∧ l.st = .active ∧ !l.replay.isEmpty then .next (s.replayFlits port.val) else .next s

/-- IDENTITY_RESEND (R376): every 1 ms until the peer's frame is there. -/
def execIdentityResend (port : Port) (s : State) : Res :=
  let l := s.port port.val
  if s.lanesUp ∧ l.st.live ∧ l.peer.isNone then .next (s.sendIdentity port.val) else .next s

/-! ## Reception of flits (R358-R361) -/

/-- Checks of a flit besides its CRC: the kind, its reserved fields and the fields that the kind holds at zero (R359). -/
def flitFieldsOk (kind : Nat) (b : List Byte) : Bool :=
  let h := fieldAt b 0 8
  let len := bits h 9 8
  bits h 0 4 = kind && bits h 62 2 = 0
    && (if kind = 1 then decide (1 ≤ bits h 4 3 ∧ bits h 4 3 ≤ 5 ∧ 1 ≤ len ∧ len ≤ 240)
        else bits h 4 3 = 0 && fieldAt b 248 2 = 0 && len = (if kind = 2 then 128 else 44))
    && ((b.drop (8 + len)).take (240 - len)).all (· = 0)

/-- A flit arrives with its codewords' outcome; true when it passes (R358, R360). -/
def State.receive (s : State) (p kind : Nat) (b : List Byte) (fecOk : Bool) (corrected : Nat) : Bool × State :=
  let l := s.port p
  let s := s.setPort p { l with fecCorrected := l.fecCorrected + corrected, fecBad := l.fecBad + b2n (!fecOk) }
  let s := (s.bumpBy PD.FEC_CORRECTED corrected).bumpBy PD.FEC_UNCORRECTABLE (b2n (!fecOk))
  if fecOk && decide (b.length = 256) && fieldAt b 252 4 = crc32c (b.take 252) && flitFieldsOk kind b then (true, s)
  else
    let l := s.port p
    (false, (s.setPort p { l with crcErr := l.crcErr + 1 }).bump PD.FLIT_CRC_ERR)

/-- Flits up to ACK leave the replay buffer; a NACK replays the others (R361). -/
def State.acknowledge (s : State) (p ack : Nat) (nack : Bool) : State :=
  let l := s.port p
  let replay := match l.replay.findIdx? fun r => fieldAt r.1 248 2 = ack with
    | some i => l.replay.drop (i + 1)
    | none => l.replay
  let s := s.setPort p { l with replay := replay }
  let s := if nack ∧ (s.port p).st = .active ∧ !replay.isEmpty then s.replayFlits p else s
  if (s.port p).st = .active then s.sendWaiting p else s

/-- An IDLE flit with the ACK, a NACK and the credits owed (R361, R363). -/
def State.sendIdle (s : State) (p : Nat) (nack : Bool) : State :=
  let l := s.port p
  let pay := ((List.range 20).flatMap fun i => le 2 ((l.owed[i]?).getD 0)) ++ le 4 l.owedShared
  (s.setPort p { l with owed := List.replicate 20 0, owedShared := 0 }).emit
    (.kenlink (Fin.ofNat 12 p) (sealFlit (44 * 2 ^ 9 + b2n nack * 2 ^ 59) pay 0 l.lastRx.toNat))

/-- A DATA flit is discarded; the first discard of a gap is answered with NACK (R361). -/
def State.discardFlit (s : State) (p : Nat) : State :=
  let l := s.port p
  if l.nacked then s else (s.setPort p { l with nacked := true }).sendIdle p true

/-- A flit of a message for this module joins its reassembly; the last one delivers the message (R365, DESIGN CHOICE, log 14). -/
def State.deliver (s : State) (src : Addr) (cls tag : Nat) (first last : Bool) (pay : List Byte) : State :=
  let mine := fun (r : Reasm) => r.side.toNat = src.side && r.pallet.toNat = src.pallet && r.slot.toNat = src.slot
    && r.cls.toNat = cls && r.tag.toNat = tag
  let old := s.link.reasm.find? mine
  let rest := s.link.reasm.filter fun r => !mine r
  let bytes := if first then some pay else old.map fun r => r.bytes ++ pay
  match bytes with
  | none => s
  | some b =>
    if last then { s with link := { s.link with reasm := rest, inbox := s.link.inbox ++ [(cls, b)] } }
    else { s with link := { s.link with
      reasm := rest ++ [⟨decide (src.side = 1), BitVec.ofNat 6 src.pallet, BitVec.ofNat 6 src.slot, BitVec.ofNat 3 cls, BitVec.ofNat 16 tag, b⟩] } }

/-- A flit for another module leaves by the port that its message took at its FIRST flit, or is discarded (R371, R372). -/
def State.forward (s : State) (p : Nat) (head : Nat) (pay : List Byte) : State :=
  let dst : Addr := ⟨bits head 29 1, bits head 17 6, bits head 23 6⟩
  let src := bits head 30 13
  let cls := bits head 4 3
  let tag := bits head 43 16
  let mine := fun (r : Nat × Nat × Nat × Nat) => r.1 = src && r.2.1 = cls && r.2.2.1 = tag
  let old := (s.link.routes.find? mine).map (·.2.2.2)
  let rest := s.link.routes.filter fun r => !mine r
  let out : Option Nat := if bit head 7 then (match s.route dst tag with
      | .out l => some l
      | _ => none) else old
  let s : State := { s with link := { s.link with routes := match out with
    | some l => if bit head 8 then rest else rest ++ [(src, cls, tag, l)]
    | none => rest } }
  match out, out.bind s.physical with
  | some l, some q =>
    if (s.port q).usable then
      let vc := nextVc s.self.slot (bits head 60 2) (s.logicalOf p) l
      let h := head % 2 ^ 59 + vc * 2 ^ 60
      (s.sendFlit q h pay).bump PD.FLITS_FORWARDED
    else s.bump PD.FLITS_NO_ROUTE
  | _, _ => s.bump PD.FLITS_NO_ROUTE

/-- DATA_FLIT (R361, R365, R371, R372): accepted in sequence, its buffer slot returned as credit, delivered, forwarded or discarded. -/
def execDataFlit (port : Port) (bytes : List Byte) (fecOk : Bool) (corrected : Nat) (s : State) : Res :=
  let p := port.val
  if !s.lanesUp ∨ !(s.port p).st.live then .next s
  else match s.receive p 1 bytes fecOk corrected with
    | (false, s) => .next (s.discardFlit p)
    | (true, s) =>
      let h := fieldAt bytes 0 8
      let seq := BitVec.ofNat 16 (fieldAt bytes 248 2)
      let s := s.acknowledge p (fieldAt bytes 250 2) (bit h 59)
      let l := s.port p
      if !l.st.live then .next s
      else if seq ≠ l.lastRx + 1 then .next (s.discardFlit p)
      else
        let i := creditIndex (bits h 4 3) (bits h 60 2)
        let s := s.setPort p { l with lastRx := seq, nacked := false, owed := l.owed.set i ((l.owed[i]?).getD 0 + 1) }
        let pay := (bytes.drop 8).take (bits h 9 8)
        let dst : Addr := ⟨bits h 29 1, bits h 17 6, bits h 23 6⟩
        let s := if l.st ≠ .active then s.bump PD.FLITS_NO_ROUTE
          else if dst = s.self then s.deliver ⟨bits h 42 1, bits h 30 6, bits h 36 6⟩ (bits h 4 3) (bits h 43 16) (bit h 7) (bit h 8) pay
          else s.forward p h pay
        .next (s.sendIdle p false)

/-- IDLE_FLIT (R363): credit returns and an ACK. -/
def execIdleFlit (port : Port) (bytes : List Byte) (fecOk : Bool) (corrected : Nat) (s : State) : Res :=
  let p := port.val
  if !s.lanesUp ∨ !(s.port p).st.live then .next s
  else match s.receive p 0 bytes fecOk corrected with
    | (false, s) => .next s
    | (true, s) =>
      let l := s.port p
      let l := { l with credits := (List.range 20).map fun i => (l.credits[i]?).getD 0 + fieldAt bytes (8 + 2 * i) 2
                        shared := l.shared + fieldAt bytes 48 4 }
      .next ((s.setPort p l).acknowledge p (fieldAt bytes 250 2) (bit (fieldAt bytes 0 8) 59))

/-- IDENTITY_FLIT (R376): a valid frame of the peer is recorded for discovery; further copies change nothing. -/
def execIdentityFlit (port : Port) (bytes : List Byte) (fecOk : Bool) (corrected : Nat) (s : State) : Res :=
  let p := port.val
  if !s.lanesUp ∨ !(s.port p).st.live then .next s
  else match s.receive p 2 bytes fecOk corrected with
    | (false, s) => .next s
    | (true, s) =>
      let f := BitVec.ofNat 1024 (fieldAt bytes 8 128)
      let s := s.acknowledge p (fieldAt bytes 250 2) false
      if idValid f ∧ (s.port p).peer.isNone then .next (s.identified p f) else .next s

/-- REASSEMBLY_TIMEOUT (R365): a message whose next flit has not come is discarded. -/
def execReassemblyTimeout (side : Bool) (pallet slot : BitVec 6) (cls : BitVec 3) (tag : W16) (s : State) : Res :=
  let mine := fun (r : Reasm) => r.side = side && r.pallet = pallet && r.slot = slot && r.cls = cls && r.tag = tag
  if s.lanesUp ∧ s.link.reasm.any mine then
    .next ({ s with link := { s.link with reasm := s.link.reasm.filter fun r => !mine r } }.bump PD.MSG_REASSEMBLY_DROPS)
  else .next s

/-! ## Discovery (R374) -/

/-- States in which a CMD entry acts: not before the hub firmware runs, and in BOOT and CALIBRATE only where an entry says so (R402). -/
def Mode.commands : Mode → Bool
  | .held | .armed | .run | .drain | .fault => true
  | _ => false

/-- DISCOVERY_RESTART (R374): any value starts a run. -/
def execDiscoveryRestart (s : State) : Res := if s.mode.commands then .next s.discover else .next s

/-- DISCOVERY_WINDOW_END (R374): the run is decided with the frames there are. -/
def execDiscoveryWindowEnd (s : State) : Res := if s.lanesUp ∧ s.num PD.DISCOVERY_STATE = 1 then .next s.decideRun else .next s

end Sys2Proof.Machine
end

