-- ==== Sys2Proof/Machine/Images.lean ====
section
/-! DEFINITION. Machine/Images.lean: pane images (R334-R336). -/
namespace Sys2Proof.Machine

/-! ## The image of a pane (R334) -/

def words32 (l : List W32) : List Byte := l.flatMap fun w => le 4 w.toNat

/-- Body items of a pane that holds them, in their order. -/
def Pane.body (p : Pane) : List Byte :=
  words32 p.master ++ words32 p.m ++ (if p.rule = 3 then [] else words32 p.v) ++ (if p.rule = 1 then words32 p.l ++ words32 p.r else [])
  ++ (match p.lroot with
    | some x => words32 x.x
    | none => [])
  ++ (match p.rroot with
    | some x => words32 x.x
    | none => [])

/-- The image of a pane; `step` is the last committed step. -/
def Pane.image (p : Pane) (step : Nat) : List Byte :=
  let body := p.body
  let n := ceilDiv body.length 64 * 64
  let eps := fun (r : Option Root) => match r with
    | some x => x.eps.toNat
    | none => 0
  le 8 (0x454E4150 + 2 ^ 32 + p.rule % 4 * 2 ^ 36 + b2n p.lroot.isSome * 2 ^ 38 + b2n p.rroot.isSome * 2 ^ 39 + p.layer % 2 ^ 16 * 2 ^ 48)
  ++ le 8 (p.pane % 2 ^ 32 + p.rows % 2 ^ 12 * 2 ^ 32 + p.cols % 2 ^ 12 * 2 ^ 44)
  ++ le 8 (step % 2 ^ 48) ++ le 8 (p.u % 2 ^ 32) ++ le 8 (n % 2 ^ 32) ++ le 8 (eps p.lroot + eps p.rroot * 2 ^ 32) ++ zeros 16 ++ padTo n body

/-! ## Saving (R335) -/

/-- An image command ends at once. -/
def State.imageNow (s : State) (r : Nat) : State := { s with upd := { s.upd with imageCmd := 0 } }.result PD.UPD_IMAGE_RESULT r

/-- An image command is under way; PANE_IMAGE_COMPLETE gives it its result. -/
def State.imageStart (s : State) (cmd r len : Nat) : State :=
  { s.setNum PD.UPD_IMAGE_RESULT 1 with upd := { s.upd with imageCmd := cmd, imageResult := r, imageLength := len } }

/-- The images of every owned pane leave for the host region. -/
def State.imageWrite (s : State) : State :=
  let r := s.num PD.UPD_IMAGE_REGION
  let bs := s.upd.panes.flatMap fun p => p.image (s.num PD.STEP_NUMBER - 1)
  if s.regionSize r < bs.length then s.imageStart 1 3 (s.num PD.UPD_IMAGE_LENGTH)
  else if !s.hostReachable r then (s.bump PD.HOST_DMA_ERR).imageStart 1 6 (s.num PD.UPD_IMAGE_LENGTH)
  else (if bs.isEmpty then s else s.emit (.hostWrite r 0 bs)).imageStart 1 0 bs.length

/-- No image command is under way or waits. -/
def State.imageIdle (s : State) : Bool := s.upd.imageCmd = 0 && !s.step.imageDue

/-- A write of 1 to UPD_IMAGE_CMD (R335). -/
def State.imageSave (s : State) : State :=
  if !s.mode.hubRuns ∨ !s.imageIdle then s
  else if !s.planIn then s.imageNow 5
  else match s.mode with
    | .held | .armed => s.imageWrite
    | .fault => if bits (s.num PD.HEALTH_DIE_MASK) 18 2 = 3 then s.imageWrite else s.imageNow 4
    | .run | .drain => { s.setNum PD.UPD_IMAGE_RESULT 1 with step := { s.step with imageDue := true } }
    | _ => s.imageNow 4

/-- A save that waits is taken at the end of WRITEBACK, or at a VOID verdict. -/
def State.imageDueNow (s : State) : State :=
  if s.step.imageDue then
    let s : State := { s with step := { s.step with imageDue := false } }
    if s.planIn then s.imageWrite else s.imageNow 5
  else s

def execUpdImageSave (s : State) : Res := .next s.imageSave

/-! ## Restoring (R336) -/

/-- A parsed image: the pane it names with what it carries; a pane without an owner here carries its master alone. -/
structure ImageIn where
  ref : PaneRef
  owned : Bool
  pane : Pane
  deriving DecidableEq, Repr

/-- Outcome of reading images back to back: their bytes and panes, or a result code. -/
inductive ImageRead where
  | ok (length : Nat) (images : List ImageIn)
  | fail (code : Nat)
  deriving DecidableEq, Repr

def wordsAt (b : List Byte) (o n : Nat) : List W32 := (chunks 4 n (sub b o (4 * n))).map fun x => BitVec.ofNat 32 (ofLe x)

/-- One image's header and body against the plan: BAD_IMAGE when a check fails. -/
def State.imageParse (s : State) (h body : List Byte) : Option ImageIn :=
  let w := fun (i : Nat) => fieldAt h (8 * i) 8
  let rule := bits (w 0) 36 2
  let hl := bit (w 0) 38
  let hr := bit (w 0) 39
  let layer := bits (w 0) 48 16
  let pane := bits (w 1) 0 32
  let rows := bits (w 1) 32 12
  let cols := bits (w 1) 44 12
  let el := bits (w 5) 0 32
  let er := bits (w 5) 32 32
  match s.owners.find? fun p => p.1.layer = layer ∧ p.1.pane = pane with
  | none => none
  | some (r, m) =>
    let owned : Bool := m = s.num PD.EXCH_MEMBER
    let n := rows * cols
    let oV := 8 * n
    let oL := oV + (if rule = 3 then 0 else 4 * n)
    let oR := oL + (if rule = 1 then 4 * rows * rows else 0)
    let oX := oR + (if rule = 1 then 4 * cols * cols else 0)
    let oY := oX + (if hl then 4 * rows * rows else 0)
    let len := oY + (if hr then 4 * cols * cols else 0)
    let ok : Bool := bits (w 0) 32 4 = 1 && rule ≠ 0 && bits (w 0) 40 8 = 0 && r.rows = rows && r.cols = cols && bits (w 1) 56 8 = 0
      && bits (w 2) 48 16 = 0 && bits (w 3) 32 32 = 0 && bits (w 4) 32 32 = 0 && w 6 = 0 && w 7 = 0
      && bits (w 4) 0 32 = ceilDiv len 64 * 64 && (rule = 1 || (!hl && !hr)) && ((el ≠ 0) == hl) && ((er ≠ 0) == hr)
    let old := s.findPane layer pane
    let master := wordsAt body 0 n
    if !ok ∨ !matFinite master ∨ (owned ∧ (old.map (·.rule)) ≠ some rule) then none
    else
      let root := fun (has : Bool) (o k e : Nat) => if has then some (⟨wordsAt body o (k * k), BitVec.ofNat 32 e⟩ : Root) else none
      let img : Pane :=
        { layer := layer, pane := pane, rows := rows, cols := cols, rule := rule, die := (old.map (·.die)).getD 0,
          master := master, m := wordsAt body (4 * n) n, v := if rule = 3 then [] else wordsAt body oV n,
          l := if rule = 1 then wordsAt body oL (rows * rows) else [], r := if rule = 1 then wordsAt body oR (cols * cols) else [],
          lroot := root hl oX rows el, rroot := root hr oY cols er, u := bits (w 3) 0 32, outcomes := [] }
      some ⟨r, owned, img⟩

/-- Reads images back to back; `size` is the region's, and `fuel` bounds the images. -/
def State.imageWalk (s : State) (b : List Byte) (size : Nat) : Nat → Nat → List ImageIn → ImageRead
  | 0, off, acc => .ok off acc
  | fuel + 1, off, acc =>
    if size < off + 64 then (if off = 0 then .fail 3 else .ok off acc)
    else
      let h := padTo 64 (b.drop off)
      if fieldAt h 0 4 ≠ 0x454E4150 then .ok off acc
      else
        let n := fieldAt h 32 4
        let fits : Bool := off + 64 + n ≤ size
        match s.imageParse h (if fits then sub b (off + 64) n else []) with
        | some i =>
          if !fits then .fail 3
          else if acc.any fun x => x.ref.layer = i.ref.layer && x.ref.pane = i.ref.pane then .fail 2
          else s.imageWalk b size fuel (off + 64 + n) (acc ++ [i])
        | none => .fail 2

/-- One image is taken (R336): an owned pane whole, its jobs discarded (R329); another pane's master only. -/
def State.takeImage (s : State) (i : ImageIn) : State :=
  if !i.owned then s
  else
    let s := s.setPane i.pane
    { s with upd := { s.upd with jobs := s.upd.jobs.filter fun j => !(j.layer = i.ref.layer && j.pane = i.ref.pane) } }

/-- Every image is taken, and the copies of R331 quantised afresh from the restored masters. -/
def State.takeImages (s : State) (is : List ImageIn) : State :=
  let s := s.each is State.takeImage
  let s := s.each ((is.map fun i => i.ref.layer).eraseDups) fun s layer =>
    (s.deriveCopies layer ((is.filter fun i => i.ref.layer = layer).map (·.pane)) true).2
  if is.isEmpty then s else s.rewriteArrays

/-- The checks of a restore before it reads (R336); 1 when it may read. -/
def State.restoreCheck (s : State) : Nat :=
  if s.mode ≠ .held then 4 else if !s.planIn then 5 else if s.regionSize (s.num PD.UPD_IMAGE_REGION) < 64 then 3 else 1

/-- A write of 2 to UPD_IMAGE_CMD: the restore begins, and waits for what the host's region holds. -/
def State.imageRestore (s : State) : State :=
  if !s.mode.hubRuns ∨ !s.imageIdle then s
  else match s.restoreCheck with
    | 1 => s.imageStart 2 1 (s.num PD.UPD_IMAGE_LENGTH)
    | r => s.imageNow r

/-- The region's contents have been read, or a host transfer error met. -/
def State.imageData (s : State) (region : List Byte) (hostOk : Bool) : State :=
  let r := s.num PD.UPD_IMAGE_REGION
  let old := s.num PD.UPD_IMAGE_LENGTH
  if !hostOk ∨ !s.hostReachable r then (s.bump PD.HOST_DMA_ERR).imageStart 2 6 old
  else match s.imageWalk region (s.regionSize r) (region.length / 64 + 1) 0 [] with
    | .fail c => s.imageStart 2 c old
    | .ok n is => (s.takeImages is).imageStart 2 0 n

/-- UPD_IMAGE_RESTORE (R336): the command, and the reading of the region. -/
def execUpdImageRestore (region : List Byte) (hostOk : Bool) (s : State) : Res :=
  let s := if s.imageIdle then s.imageRestore else s
  .next (if s.upd.imageCmd = 2 ∧ s.upd.imageResult = 1 ∧ s.mode = .held then s.imageData region hostOk else s)

/-- PANE_IMAGE_COMPLETE (R335, R336): the result of the save or restore under way. -/
def execPaneImageComplete (s : State) : Res :=
  let u := s.upd
  if u.imageCmd = 0 ∨ u.imageResult = 1 ∨ !s.mode.hubRuns then .next s
  else .next ((s.setNum PD.UPD_IMAGE_LENGTH u.imageLength).imageNow u.imageResult)

/-- A write to UPD_IMAGE_CMD. -/
def State.imageCmd (s : State) (v : Nat) : State :=
  if v = 1 then s.imageSave else if v = 2 then s.imageRestore
  else if !s.mode.hubRuns ∨ !s.imageIdle then s else s.imageNow 2

end Sys2Proof.Machine
end

