-- ==== Sys2Proof/Machine/Restart.lean ====
section
/-! DEFINITION. Machine/Restart.lean: what RESET keeps, the warm restart of firmware activation, firmware results (R28, R347, R403, R458,
R510-R515). -/
namespace Sys2Proof.Machine

/-! ## RESET (R28, R347, R403) -/

/-- What flash and fuses keep over RESET and loss of power: the flash itself, retirement, suspects, weak rows, the owner key, firmware
facts, and the model's own fields. Everything else is as State.reset has it. -/
def State.keepOver (s : State) (m : Mode) : State :=
  let fresh : State := { State.reset with
    mode := m
    freezeN := s.freezeN
    mem := s.mem.filter fun c => c.1 / 2 ^ 48 = stFlash
    memUnit := { weak := s.memUnit.weak }
    dict := { ownerKey := s.dict.ownerKey, ownerSig := s.dict.ownerSig }
    faults := { retiredCells := s.faults.retiredCells, retiredBlocks := s.faults.retiredBlocks, suspects := s.faults.suspects,
                flashSeq := s.faults.flashSeq, toFlash := s.faults.flashSeq }
    fw := { valid := s.fw.valid, package := s.fw.package, packageRollback := s.fw.packageRollback }
    outs := s.outs
    free := s.free
    pending := s.pending }
  let fresh : State := { fresh with course := { now := s.course.now } }
  let fresh : State := { fresh with ep0 := { perstN := s.ep0.perstN }, ep1 := { perstN := s.ep1.perstN } }
  let fresh := fresh.setNum PD.FW_ROLLBACK_MIN (s.num PD.FW_ROLLBACK_MIN)
  let fresh := fresh.setNum PD.FW_OWNER_SIG_REQUIRED (b2n s.dict.ownerSig)
  let fresh := fresh.setNum PD.SPALL_FLASH_NEXT (if s.faults.flashSeq = 0 then 0 else (s.faults.flashSeq + 1) % 32768)
  (fresh.setNum PD.SPALL_NEWEST s.faults.flashSeq).setNum PD.SPALL_ACK 0

/-! ## Warm restart (R458, R512) -/

/-- Scale history is lost (R207): every layer is cold, and every joint returns to JOINT_MODE (R235). -/
def State.loseHistory (s : State) : State :=
  { s with layers := []
           jointModes := s.jointModes.map fun j => { j with exact := s.num PD.JOINT_MODE ≠ 0, minRho := none, lastRho := none, clean := 0 }
           arrays := { s.arrays with rowModes := [] } }

/-- The stores that hold only scratch state are zero-filled: staging, frogs, update-die SRAM. -/
def State.clearScratch (s : State) : State :=
  s.each (List.range 16 ++ [26, 27]) State.clearStore

/-- What a warm restart does at once: BOOT from step 5 (R458, R512). The step unit, the streams and the arrays stop; sessions, staged forwards and
the event queue go; the course unit starts in ACQUIRING. -/
def State.warmRestart (s : State) : State :=
  let s := if s.mode.running then s.pauseStreams else s.stopArrays
  let s := s.endAttempt
  let s : State := { s with events := [] }
  let s := s.courseRestart
  let s : State := { s with course := { s.course with segs := [], lastUsed := none, run := [], series := [], oow := 0 } }
  let s := s.dropPorts.loseHistory.clearScratch
  let s : State := { s with
    link := { s.link with ran := false }
    dict := { s.dict with sessions := [], forwards := [] }
    cells := s.cells.map fun c => (c.1, { c.2.quiet with rows := [], scales := [] })
    arrays := { s.arrays with loaded := [], writes := [] }
    clk := { s.clk with warm := true, firmware := false, bridges := false, memory := false, flashReads := false, startTable := [] } }
  (s.setNum PD.RESET_CAUSE 3).enter .boot

/-- Activation starts (R511, R512): the restart, its count and its spall; FW_RESULT stays PENDING until the module is HELD. -/
def State.activate (s : State) : State :=
  let s := (s.setNum PD.FW_STAGE_STATE 3).setNum PD.FW_RESULT fwPending
  let s : State := { s with fw := { s.fw with due := false, dueCommit := false } }
  let s := (s.bump PD.FW_ACTIVATIONS).setNum PD.FW_ROLLBACK_MIN s.fw.packageRollback
  let s := s.fwSpall 1 0 0
  s.warmRestart

/-- FIRMWARE_ACTIVATION (R511): at once in HELD or ARMED, due in RUN or DRAIN. -/
def execFirmwareActivation (s : State) : Res :=
  match s.fire .firmware with
  | none => .next s
  | some (_, s) =>
    if s.mode = .held ∨ s.mode = .armed then .next s.activate
    else if s.mode.running then .next { s.setNum PD.FW_RESULT fwPending with fw := { s.fw with due := true, dueCommit := false } }
    else .next s

end Sys2Proof.Machine
end

