-- ==== Sys2Proof/Machine/StepCmds.lean ====
section
/-! DEFINITION. Machine/StepCmds.lean: the training step's commands: the entry to RUN, verdicts and decisions, deadlines, COMMIT and VOID, the
ends of UPDATE and WRITEBACK (R274-R294, R192-R206, R235, R456). -/
namespace Sys2Proof.Machine

/-! ## The entry to RUN (R303, R455, R456) -/

/-- RUN_ENTRY: published time equals or passes T of the first attempt; T has passed already when EXCH_PERIOD exceeds EXCH_FIRST_DEADLINE. An event
that falls due before T fires first. -/
def execRunEntry (s : State) : Res :=
  let c := s.num PD.EXCH_FIRST_DEADLINE
  let p := s.num PD.EXCH_PERIOD
  let t : CTime := BitVec.ofNat 64 c - BitVec.ofNat 64 p
  let past : Bool := c < p || t.toNat ≤ s.ctime.toNat
  let waits : Bool := !past && s.events.any fun e => e.time.toNat < t.toNat
  if s.mode ≠ .armed ∨ !s.timed ∨ waits then .next s
  else
    let s := if past then s else s.advanceTo t
    .next (((s.enter .run).unpauseStreams).beginAttempt t)

/-! ## Decisions (R286, R288) -/

/-- The module voids locally and enters HELD (R288); `cause` 0 late decision, 1 no decision. -/
def State.lateDecision (s : State) (cause : Nat) : State :=
  let s := s.spall { kind := 0x21, level := 3, mech := 17, outcome := 3, detail := [detailUint 0 cause] }
  s.voidLocally.leaveFor .held

/-- A decision is known: its commit event is queued; one whose time has come or that the queue refuses is late (R288). -/
def State.takeDecision (s : State) (d : Decision) : State :=
  let s : State := { s with step := { s.step with decision := some d } }
  match s.present ⟨d.time, .commit, 0, b2n d.void⟩ with
  | (.ok, s) => s
  | (_, s) => s.lateDecision 0

/-- Course time rounded up to a whole phase unit. -/
def State.ceilTime (s : State) : CTime :=
  if s.course.acc.extractLsb' 0 32 = 0 then s.ctime else s.ctime + 1

/-- The root decides: the DECISION goes to every child, and the verdict is queued here (R286). -/
def State.rootDecides (s : State) (void : Bool) (reasons : Nat) : State :=
  let t := s.ceilTime + BitVec.ofNat 64 (s.num PD.VOTE_COMMIT_LEAD)
  let d : Decision := ⟨void, reasons, max 1 s.covered, s.excludedCount, s.originFor void, t⟩
  let m : Vote := ⟨2, s.num PD.STEP_ATTEMPT, s.num PD.STEP_NUMBER, void, reasons, d.modules, d.excluded, d.origin, t.toNat⟩
  (s.each s.childPorts fun s p => s.sendVote p m.bytes).takeDecision d

/-- A VERDICT leaves or a decision is made as soon as one can (R285, R286). -/
def State.progress (s : State) : State :=
  if s.isRoot then
    if s.step.decision.isSome then s
    else if s.anyVoid then s.rootDecides true s.unionReasons
    else if s.step.verdictFormed && decide (s.num PD.VOTE_DOMAIN_SIZE ≤ s.covered) then s.rootDecides false 0
    else s
  else if s.step.sent then s
  else if s.anyVoid || (s.step.verdictFormed && s.childPorts.all fun p => s.step.children.any fun c => c.port = p) then s.sendVerdict 0
  else s

/-! ## The local verdict (R282, R192) -/

/-- REDUCE has ended: C has passed and every joint is emitted (R276); in bond mode every owned pane has been compared or waits no longer. -/
def State.reduceEnded (s : State) : Bool :=
  s.step.deadlinePassed && s.jointWaits.isEmpty && (!s.bonded || !s.twinMissing || s.twinDeadlineGone)

/-- A flagged layer whose excess lies above the limit widens from the next step (R192). -/
def State.groutVerdict (s : State) : State :=
  s.each (((s.plan.map (·.layers)).getD []).zipIdx) fun s l =>
    let n := s.num? l.2
    if n.flagged && ((s.fv PD.GROUT_EXCESS_LIMIT).mul (.ofNat n.quantised)).lt (.ofNat n.excess) then
      (s.widen 0 l.2 2 (s.rung l.2 + 1)).2
    else s

/-- The module's verdict is formed: VOID with the reasons recorded, COMMIT with none (R282, R310). -/
def State.formVerdict (s : State) : State :=
  let s := s.selfExclude
  let r := s.num PD.STEP_REASONS
  let s := if s.exch.selfExcluded && s.exch.excludeSent && bit r rsNonfinite then s.setNum PD.STEP_REASONS (r - 2 ^ rsNonfinite) else s
  let s := s.groutVerdict
  let s := (s.endPhase .reduce).beginPhase .vote
  let r := s.num PD.STEP_REASONS
  { s with step := { s.step with verdictFormed := true, verdictReasons := r, origin := if r ≠ 0 then some (s.step.origin.getD s.origin) else s.step.origin } }

/-- LOCAL_VERDICT (R282, R285): once an attempt, when REDUCE has ended; then it counts in the tree. -/
def execLocalVerdict (s : State) : Res :=
  if !s.step.attempt ∨ !s.mode.running then .next s
  else if s.step.verdictFormed then .next s.progress
  else if !s.reduceEnded then .next s
  else .next s.formVerdict.progress

/-- STEP_VOID_REQ (R283): reason HOST, only while a step is open. -/
def State.stepVoidReq (s : State) : State :=
  if s.step.opened then
    let s := s.reason rsHost
    if s.isRoot && s.step.verdictFormed then s.progress else s
  else s.bump PD.VOTE_CMD_IGNORED

def execStepVoidReq (s : State) : Res := if s.mode.commands then .next s.stepVoidReq else .next s

/-! ## Vote messages (R284-R286) -/

/-- A vote message that names the attempt under way. -/
def State.voteFor (s : State) (msg : List Byte) : Option Vote :=
  match Vote.parse msg with
  | some v => if s.step.attempt ∧ v.step = s.num PD.STEP_NUMBER ∧ v.attempt = s.num PD.STEP_ATTEMPT then some v else none
  | none => none

/-- VERDICT_RECEIVED (R284-R286): from a child port, once each; late ones change nothing. -/
def execVerdictReceived (port : Port) (msg : List Byte) (s : State) : Res :=
  if !s.mode.hubRuns then .next s
  else
    let s := s.takeMessage 1 msg
    match s.voteFor msg, s.logicalOf port.val with
    | some v, some l =>
      if v.kind ≠ 1 ∨ !s.childPorts.contains l ∨ v.time ≠ 0 ∨ s.step.children.any (fun c => c.port = l) then .next (s.bump PD.VOTE_MSG_ERR)
      else if (if s.isRoot then s.step.decision.isSome else s.step.sent) then .next (s.bump PD.VERDICTS_LATE)
      else
        let c : Verdict := ⟨l, v.void, v.reasons, v.modules, v.excluded, v.origin⟩
        .next ({ s with step := { s.step with
          children := s.step.children ++ [c]
          origin := if v.void then some (s.step.origin.getD v.origin) else s.step.origin } }).progress
    | _, _ => .next (s.bump PD.VOTE_MSG_ERR)

/-- DECISION_RECEIVED (R284, R286, R288): from the parent port, once; it goes on unchanged to every child port. -/
def execDecisionReceived (port : Port) (msg : List Byte) (s : State) : Res :=
  if !s.mode.hubRuns then .next s
  else
    let s := s.takeMessage 1 msg
    match s.voteFor msg, s.logicalOf port.val with
    | some v, some l =>
      if v.kind ≠ 2 ∨ s.isRoot ∨ l ≠ s.num PD.VOTE_PARENT_PORT ∨ s.step.decision.isSome then .next (s.bump PD.VOTE_MSG_ERR)
      else
        let s := s.each s.childPorts fun s p => s.sendVote p msg
        .next (s.takeDecision ⟨v.void, v.reasons, v.modules, v.excluded, v.origin, BitVec.ofNat 64 v.time⟩)
    | _, _ => .next (s.bump PD.VOTE_MSG_ERR)

/-- VOTE_DEADLINE (R285, R286): a node that has not voted sends VOID with MISSING_VERDICT, a root that has not decided decides so. -/
def execVoteDeadline (s : State) : Res :=
  match s.fireDeadline .vote with
  | none => .next s
  | some s =>
    if !s.step.attempt then .next s
    else if s.isRoot then
      .next (if s.step.decision.isSome then s else s.rootDecides true (orBit s.unionReasons rsMissing))
    else .next (if s.step.sent then s else s.sendVerdict (2 ^ rsMissing))

/-- BROADCAST_DEADLINE (R288): no DECISION by D_b. -/
def execBroadcastDeadline (s : State) : Res :=
  match s.fireDeadline .broadcast with
  | none => .next s
  | some s => .next (if s.step.attempt && s.step.decision.isNone then s.lateDecision 1 else s)

/-! ## Numerics at a COMMIT (R193, R199-R206) -/

/-- The layer's quantisations of the step would have held one rung lower (R200). -/
def State.lowerHeld (s : State) (l : Layer) (layer : Nat) : Bool :=
  match s.lowerRung l layer with
  | none => false
  | some r =>
    let n := s.num? layer
    n.lowerHeld && ((FV.ofNat n.excessLow).le ((s.fv PD.GROUT_EXCESS_LIMIT).mul (.ofNat n.quantisedLow)))
      && (weightRung l (s.ownedPanes layer) (rungFormats l r).1).isNone

/-- Clean steps and narrowing (R200). -/
def State.commitRung (s : State) (l : Layer) (layer : Nat) : State :=
  let n := s.num? layer
  if n.rung = 0 then s
  else if n.event || !s.lowerHeld l layer then s.setLayerNum layer { n with clean := 0 }
  else if s.num PD.WIDEN_CLEAN_STEPS ≤ n.clean + 1 then
    let s := s.setLayerNum layer { n with rung := (s.lowerRung l layer).getD 0, clean := 0 }
    { s.bump PD.NARROWINGS with
      triggers := orBit s.triggers 2
      upd := { s.upd with quantised := s.upd.quantised.filter (· ≠ layer) } }
  else s.setLayerNum layer { n with clean := n.clean + 1 }

/-- A layer's Plumb averages, histogram, gradient format, scores and set (R193, R202, R204, R205). Every layer's ring takes a histogram at every
COMMIT, an empty one where nothing was binned (R208). -/
def State.commitLayer (s : State) (l : Layer) (layer : Nat) : State :=
  let n := (s.num? layer).plumbCommit (s.fv PD.PLUMB_ALPHA)
  let last := if n.last.isEmpty then List.replicate 32 0 else n.last
  let n := { n with ring := (n.ring ++ [last]).drop (n.ring.length + 1 - 16) }
  let f := gaugeChoose n.ring last (s.fv PD.GAUGE_PCT) (s.fv PD.GAUGE_UNDERFLOW) (s.num PD.GAUGE_HEADROOM) (s.num PD.GAUGE_FLOOR)
  let changed : Bool := f ≠ n.gradFormat
  let n := { n with gradFormat := f }
  let scores := n.nextScores l.k (s.fv PD.GROUT_SCORE_ALPHA)
  let n := if l.groutG ≠ 0 ∧ n.quantised ≠ 0 then { n with scores := scores, set := topChannels scores l.k (outliers l) } else n
  let s := s.setLayerNum layer n
  let s := if changed then s.bump PD.GAUGE_CHANGES else s
  let s := s.commitRung l layer
  s.setLayerNum layer (s.num? layer).discard

/-- Joint modes at a COMMIT (R235). -/
def State.commitJoint (s : State) (j : JointMode) : Bool × JointMode :=
  match j.minRho with
  | none => (false, j)
  | some r =>
    let j := { j with lastRho := some r, minRho := none }
    if !s.flag PD.JOINT_AUTO then (false, j)
    else if !j.exact then
      if (f32 r).lt (s.fv PD.CANCEL_ON) then (true, { j with exact := true, clean := 0 }) else (false, j)
    else if (s.fv PD.CANCEL_OFF).le (f32 r) then
      if s.num PD.JOINT_CLEAN_STEPS ≤ j.clean + 1 then (true, { j with exact := false, clean := 0 }) else (false, { j with clean := j.clean + 1 })
    else (false, { j with clean := 0 })

/-- Row-group mode of an AUTO layer at a COMMIT boundary (R105, R106); `changed`: the layer's format changes at this boundary. -/
def State.commitRowMode (s : State) (r : RowMode) (changed : Bool) : Bool × RowMode :=
  let w := s.num PD.DENSE_WINDOW
  let r := if r.inputs = 0 then r else { r with lastBits := r.bits, lastInputs := r.inputs }
  let win := if r.pairs = 0 then r.window else ((r.overs, r.pairs) :: r.window).take w
  let r := { r with window := win }.discard
  let auto : Bool := match s.layer r.layer with
    | some l => s.autoDense l
    | none => false
  if changed then (false, { r with dense := false, window := [] })
  else if !auto ∨ win.length < w then (false, r)
  else
    let mean := (win.foldl (fun (a : FV) x => a.add (.ratio x.1 (max x.2 1))) .zero).div (.ofNat win.length)
    if !r.dense ∧ mean.lt (s.fv PD.DENSE_ON_SHARE) then (true, { r with dense := true, window := [] })
    else if r.dense ∧ (s.fv PD.DENSE_OFF_SHARE).lt mean then (true, { r with dense := false, window := [] })
    else (false, r)

/-- Staged numerics take effect (R199). -/
def State.commitNumerics (s : State) : State :=
  let layers := ((s.plan.map (·.layers)).getD []).zipIdx
  let before := s
  let s := s.setNum PD.GROUT_FLAGGED ((layers.filter fun l => (s.num? l.2).flagged).length)
  let s := s.each layers fun s l => s.commitLayer l.1 l.2
  let js := s.jointModes.map fun j => s.commitJoint j
  let s := s.bumpBy PD.JOINT_SWITCHES ((js.filter (·.1)).length)
  let rs := s.arrays.rowModes.map fun r =>
    s.commitRowMode r ((before.num? r.layer).widened || (before.rung r.layer ≠ s.rung r.layer))
  let s := s.bumpBy PD.DENSE_SWITCHES ((rs.filter (·.1)).length)
  { s with jointModes := js.map (·.2), storm := false, arrays := { s.arrays with rowModes := rs.map (·.2) } }

/-! ## COMMIT and VOID (R289-R292) -/

/-- Waiting RWS values whose COMMIT this is (R407). -/
def State.applyWaiting (s : State) : State :=
  match s.dict.waiting with
  | none => s
  | some (step, vs) =>
    if step ≠ 0 ∧ s.num PD.STEP_NUMBER < step then s
    else
      let s := s.each vs fun s v => s.pdSet v.1 v.2
      let s := s.result PD.CFG_STATUS 2
      { s with dict := { s.dict with waiting := none } }

/-- Duration columns of the newest COMMIT row of the phase table: UPDATE is phase 4, WRITEBACK phase 5 (R278). -/
def State.patchPhase (s : State) (p : Nat) (start dur : Nat) : State :=
  let last := s.step.phaseTable.length - 1 - ((s.step.phaseTable.reverse.findIdx? fun r => r.getD 2 0 = 1).getD 0)
  let rows := s.step.phaseTable.zipIdx.map fun r => if r.2 = last ∧ r.1.getD 2 0 = 1 then (r.1.set (3 + p) start).set (9 + p) dur else r.1
  { s with step := { s.step with phaseTable := rows } }

/-- The attempt's row of the phase table, with UPDATE begun at the commit time (R278). -/
def State.commitRow (s : State) (t : CTime) : State :=
  { s with step := { s.step with phaseTable := pushLast 64 s.step.phaseTable (s.phaseRow 1) } }.patchPhase 4 t.toNat 0

/-- The next step's number and its first attempt; the committed step is counted, its attempt is over (R274, R290). -/
def State.commitCounts (s : State) : State :=
  (((s.setNum PD.STEP_NUMBER ((s.num PD.STEP_NUMBER + 1) % 2 ^ 48)).setNum PD.STEP_ATTEMPT 0).bump PD.STEPS_COMMITTED).endAttempt.setNum
    PD.STEP_LAST_DECISION 1

/-- The step's scratch state goes (R279), and the boundary with UPDATE begins; the triggers recorded count for this boundary (R113, R276). -/
def State.beginUpdate (s : State) : State :=
  let s : State := { s with backward := {}, jointParts := [], jointWaits := [], arrays := { s.arrays with seqPos := 0, lintel := [] },
                            exch := { s.exch.discard with gathered := [] } }
  { s with step := { s.step with updating := true, boundary := true }, placeDue := s.placeDue ||| s.boundaryTriggers, triggers := 0 }

/-- The gather records that this COMMIT awaits, and their deadline G where there is something to wait for (R314, R317). -/
def State.awaitGather (s : State) (t : CTime) : State :=
  let s : State := { s with fw := { s.fw with dueCommit := s.fw.due }, exch := { s.exch with awaited := s.gatherDue } }
  if s.exch.awaited.isEmpty ∧ !s.bonded then s
  else (s.deadline .gather (t + BitVec.ofNat 64 (s.num PD.EXCH_GATHER_WINDOW)))

/-- A COMMIT takes effect (R290). -/
def State.applyCommit (s : State) (t : CTime) : State :=
  let s := s.endPhase .vote
  let shards := s.exch.shards
  let s := s.commitExchange.commitNumerics.applyWaiting.adoptRoots.observe
  let s := (s.commitRow t).commitCounts.beginUpdate
  let s := (s.cause irqVerdict).updateAll shards
  ((s.closeWindows fun w => w.level = 3).calVerdict).awaitGather t

/-- The next attempt begins at the commit time, unless the module drains (R303, R87). -/
def State.nextAttempt (s : State) (t : CTime) : State := if s.mode = .run then s.beginAttempt t else s

/-- A VOID decision takes effect (R291, R292). -/
def State.applyVoid (s : State) (d : Decision) : State :=
  let held := s.step.holdAtVerdict
  let s := (s.voidStep 2 d.reasons d.modules d.origin d.time.toNat).bump PD.STEPS_VOIDED
  let s := s.calVerdict.imageDueNow
  if held ∨ bit d.reasons rsMissing ∨ bit d.reasons rsCourse ∨ s.num PD.VOTE_MAX_ATTEMPTS ≤ s.num PD.STEP_ATTEMPT ∨ s.mode = .drain then
    (s.histDueNow).leaveFor .held
  else (s.closeWindows fun w => w.level = 3).nextAttempt d.time

/-- COMMIT_EVENT (R289): at COMMIT_TIME the decision takes effect. -/
def execCommitEvent (s : State) : Res :=
  match s.fire .commit with
  | none => .next s
  | some (_, s) => match s.step.decision with
    | none => .next s
    | some d =>
      if d.void then .next (s.applyVoid d)
      else .next ((s.applyCommit d.time).nextAttempt d.time)

/-! ## UPDATE and WRITEBACK end (R276, R330-R333) -/

/-- The copies of the updated panes are derived and sent, and the array cells follow them (R312, R313, R331, R333). -/
def State.sendCopies (s : State) : State :=
  let changed := (s.upd.updated.filter fun u => u.2.2.1).filterMap fun u => s.findPane u.1 u.2.1
  let layers := (s.upd.panes.map (·.layer)).eraseDups
  let r := layers.foldl (fun (acc : List (Pane × Copies) × State) layer =>
    let (cs, s) := acc.2.deriveCopies layer (changed.filter fun p => p.layer = layer) false
    (acc.1 ++ cs, s)) ([], s)
  let s := r.2
  let s := s.each s.upd.panes fun s p =>
    let c := (r.1.find? fun x => x.1.layer = p.layer ∧ x.1.pane = p.pane).map (·.2)
    let s := s.sendGather 3 p.layer p.pane (((c.map (·.fwd)).getD []).map (·.2))
    let s := s.sendGather 4 p.layer p.pane (((c.map (·.bwd)).getD []).map (·.2))
    match s.layer p.layer with
    | some l =>
      if l.kind = 1 ∧ l.groutG ≠ 0 then
        let union := ((s.exch.unions.find? fun u => u.1 = p.layer).map (·.2)).getD []
        s.sendGather 5 p.layer p.pane (s.rowTiles l ⟨p.layer, p.pane, p.rows, p.cols⟩ union)
      else s
    | none => s
  s.rewriteArrays

/-- UPDATE_END (R330): every owned pane is updated, and averaged in bond mode; root jobs are queued (R326) and the copies leave. -/
def execUpdateEnd (s : State) : Res :=
  if !s.step.updating ∨ !s.exch.ownDeltas.isEmpty ∨ !s.mode.hubRuns then .next s
  else
    let row := (s.step.phaseTable.reverse.find? fun r => r.getD 2 0 = 1).getD []
    let s := s.patchPhase 4 (row.getD 7 0) (duration (row.getD 7 0) s.ctime.toNat)
    let s := s.patchPhase 5 s.ctime.toNat 0
    let s : State := { s with step := { s.step with updating := false, writing := true } }
    .next s.queueRoots.sendCopies

/-- WRITEBACK_END (R276, R277, R333): every delta write verified and every gather record received. The module leaves DRAIN, and an activation
that is due starts (R455, R511). -/
def execWritebackEnd (s : State) : Res :=
  if !s.step.writing ∨ !s.exch.awaited.isEmpty ∨ !s.arrays.writes.isEmpty ∨ !s.mode.hubRuns then .next s
  else
    let row := (s.step.phaseTable.reverse.find? fun r => r.getD 2 0 = 1).getD []
    let s := s.patchPhase 5 (row.getD 8 0) (duration (row.getD 8 0) s.ctime.toNat)
    let s : State := { s.dropEvents fun k => decide (k = .gather) with step := { s.step with writing := false } }
    let s := s.imageDueNow.preload
    let s := if s.mode = .drain then s.histDueNow.leaveFor .held else s
    .next (if s.fw.due && s.fw.dueCommit then s.activate else s)

end Sys2Proof.Machine
end

