-- ==== Sys2Proof/Machine/Firmware.lean ====
section
/-! DEFINITION. Machine/Firmware.lean: staging of a firmware package, its checks, and the request of an activation (R502-R511, R514). -/
namespace Sys2Proof.Machine

/-! ## Image headers (R504, R509) -/

/-- Fields of an image header. -/
structure ImageHead where
  part : Nat
  bodyLength : Nat
  version : Nat
  digest : List Byte
  rollback : Nat
  keyId : Nat
  ownerSigned : Bool
  deriving DecidableEq, Repr

/-- The fields of a 512-byte header; none when the magic, the version, DEVICE, STEPPING_MASK, PART, PART_LIST, the length or a reserved field
is wrong. -/
def parseHead (h : List Byte) : Option ImageHead :=
  let w := fun i => fieldAt h (8 * i) 8
  let part := bits (w 0) 40 8
  let len := bits (w 1) 0 32
  if bits (w 0) 0 32 = 0x4D524946 ∧ bits (w 0) 32 4 = 1 ∧ bits (w 0) 36 4 = 0 ∧ bits (w 0) 48 16 = 0 ∧ 1 ≤ part ∧ part ≤ 7
      ∧ 64 ≤ len ∧ len % 64 = 0 ∧ bits (w 2) 0 16 = 0x2080 ∧ bit (w 2) 16 ∧ bits (w 2) 17 7 = 0 ∧ bits (w 2) 24 40 = 0
      ∧ bits (w 3) 0 8 = (if part = 1 then 0x7F else 2 ^ (part - 1)) ∧ bits (w 3) 8 56 = 0 ∧ bits (w 10) 32 32 = 0
      ∧ bits (w 11) 3 61 = 0 ∧ allZero (sub h 288 224) then
    some ⟨part, len, bits (w 1) 32 32, sub h 32 48, bits (w 10) 0 32, bits (w 11) 0 2, bit (w 11) 2⟩
  else none

/-- VENDOR_SIG under a release key that is not revoked, and OWNER_SIG where it is required (R506). -/
def State.sigsOk (s : State) (h : List Byte) (i : ImageHead) : Bool :=
  let signed := h.take 96
  !bit (s.num PD.VENDOR_KEY_REVOKED) i.keyId && Config.ecdsaOk (Config.vendorKey i.keyId) signed (sub h 96 96)
    && (!s.flag PD.FW_OWNER_SIG_REQUIRED || (i.ownerSigned && Config.ecdsaOk s.dict.ownerKey signed (sub h 192 96)))

/-- Entry k of a manifest body: part, version, offset, length, digest; none when another bit is set (R505). -/
def manifestEntry (e : List Byte) : Option ImageRec :=
  let w := fun i => fieldAt e (8 * i) 8
  if bits (w 0) 8 24 = 0 then some ⟨bits (w 0) 0 8, bits (w 0) 32 32, bits (w 1) 0 32, bits (w 1) 32 32, sub e 16 48⟩ else none

/-- A header's verdict by the order of R509: its record, or a result code. `seen` are the images before it, `at_` its offset, `length` the
package's, `entry` the manifest's entry for it, `rollback` the manifest's. -/
def State.checkHead (s : State) (h : List Byte) (seen : List ImageRec) (at_ length : Nat) (entry : Option ImageRec) (rollback : Nat) :
    Nat × Option (ImageHead × ImageRec) :=
  match parseHead h with
  | none => (2, none)
  | some i =>
    let rec_ : ImageRec := ⟨i.part, i.version, at_, 512 + i.bodyLength, i.digest⟩
    if seen.any (fun r => r.part = i.part) then (6, none)
    else if (seen.isEmpty ∧ i.part ≠ 1) ∨ length < at_ + 512 + i.bodyLength then (2, none)
    else if !seen.isEmpty ∧ entry ≠ some rec_ then (6, none)
    else if !s.sigsOk h i then (3, none)
    else if i.rollback < s.num PD.FW_ROLLBACK_MIN ∨ (!seen.isEmpty ∧ i.rollback ≠ rollback) then (4, none)
    else (0, some (i, rec_))

/-! ## Staging (R507-R510) -/

def Mode.stages : Mode → Bool
  | .loader | .held | .armed | .run | .drain => true
  | _ => false

/-- A command to a firmware entry is refused: its result alone (R510). -/
def State.fwRefuse (s : State) (code : Nat) : State := s.fwResult code

/-- FW_STAGE 1: receiving starts afresh, and a scheduled activation is cancelled (R507, R508). -/
def State.fwBegin (s : State) : State :=
  let n := s.num PD.FW_PACKAGE_LENGTH
  if !s.mode.stages then s.fwRefuse 9
  else if n < 1024 ∨ 532676608 < n then s.fwRefuse 7
  else
    let s := s.fwCancel
    let s := ((s.setNum PD.FW_RECEIVED 0).setNum PD.FW_STAGE_STATE 1).setNum PD.FW_RESULT fwPending
    let s := s.setBytes PD.FW_STAGED_DIGEST (zeros 48)
    { s with fw := { s.fw with buffer := [], programmed := 0, erased := 0, flashed := false, images := [], nextHeader := 0, rollback := 0 } }

/-- FW_STAGE 2: an abandonment after the first flash operation is a failure; the result code of an abandonment is not stated (DESIGN CHOICE, log 7). -/
def State.fwAbandon (s : State) : State :=
  if !s.mode.stages ∨ s.num PD.FW_STAGE_STATE ≠ 1 then s.fwRefuse 9
  else
    let (i, s) := s.fresh
    let code := Config.fnNat 13 [b2n s.fw.flashed] i % 12
    if s.fw.flashed then s.fwFail code 0
    else ({ s.setNum PD.FW_STAGE_STATE 0 with fw := { s.fw with buffer := [] } }).fwResult code

/-- FW_STAGE_BEGIN (R507). -/
def execFwStageBegin (s : State) : Res := if s.mode.hubRuns then .next s.fwBegin else .next s
/-- FW_STAGE_ABANDON (R508, R510). -/
def execFwStageAbandon (s : State) : Res := if s.mode.hubRuns then .next s.fwAbandon else .next s

/-- The manifest's entry for the image that comes k-th after it. -/
def State.stagedEntry (s : State) (k : Nat) : Option ImageRec := manifestEntry (s.stagedBytes (576 + 64 * k) 64)

/-- The headers that FW_RECEIVED has passed are checked in order; a failing one ends staging, and nothing past its end is accepted. -/
def State.passHeaders (s : State) : Nat → State
  | 0 => s
  | fuel + 1 =>
    let h := s.fw.nextHeader
    if s.num PD.FW_STAGE_STATE ≠ 1 ∨ s.num PD.FW_RECEIVED < h + 512 then s
    else
      let seen := s.fw.images
      match s.checkHead (s.stagedBytes h 512) seen h (s.num PD.FW_PACKAGE_LENGTH) (s.stagedEntry (seen.length - 1)) s.fw.rollback with
      | (_, some (i, r)) =>
        let s : State := { s with fw := { s.fw with images := seen ++ [r], nextHeader := h + r.length
                                                    rollback := if seen.isEmpty then i.rollback else s.fw.rollback } }
        s.passHeaders fuel
      | (code, none) => (s.setNum PD.FW_RECEIVED (h + 512)).fwFail code (((parseHead (s.stagedBytes h 512)).map (·.part)).getD 0)

/-- A piece of 1,032 bytes (R507, R508). -/
def State.fwPiece (s : State) (b : List Byte) : State :=
  let len := fieldAt b 4 2
  let got := s.num PD.FW_RECEIVED
  if b.length ≠ 1032 ∨ !s.mode.stages ∨ s.num PD.FW_STAGE_STATE ≠ 1 ∨ len = 0 ∨ 1024 < len ∨ fieldAt b 6 2 ≠ 0 ∨ !allZero (b.drop (8 + len))
      ∨ fieldAt b 0 4 ≠ got ∨ 0x400000 < s.fw.buffer.length + len ∨ s.num PD.FW_PACKAGE_LENGTH < got + len then
    s.bump PD.FW_PIECES_DISCARDED
  else
    let s : State := { s.setNum PD.FW_RECEIVED (got + len) with fw := { s.fw with buffer := s.fw.buffer ++ sub b 8 len } }
    s.passHeaders 4

/-- FW_DATA (R508, R509). -/
def execFwData (piece : List Byte) (s : State) : Res := if s.mode.hubRuns then .next (s.fwPiece piece) else .next s

/-- One flash operation of the staging (R510, R536): a 64 KiB sector is erased before its first page, else a page of 256 bytes, or the last
bytes, is programmed. -/
def State.fwOperate (s : State) : State :=
  let f := s.fw
  if f.erased ≤ f.programmed then
    let lo := memKey stFlash (packageBase + f.erased)
    { s with mem := s.mem.filter (fun c => !(decide (lo ≤ c.1 ∧ c.1 < lo + 65536))), fw := { f with erased := f.erased + 65536 } }
  else
    let page := f.buffer.take 256
    let s := s.write stFlash (packageBase + f.programmed) page
    { s with fw := { f with programmed := f.programmed + page.length, buffer := f.buffer.drop 256 } }

/-- FIRMWARE_STAGING_GRANT (R510): before the first flash operation of a staging the valid marker is cleared. -/
def execFirmwareStagingGrant (flashOk : Bool) (s : State) : Res :=
  let ready : Bool := decide (256 ≤ s.fw.buffer.length) || (s.num PD.FW_RECEIVED = s.num PD.FW_PACKAGE_LENGTH && !s.fw.buffer.isEmpty)
  if s.num PD.FW_STAGE_STATE ≠ 1 ∨ !ready ∨ !(s.mode.maintains || s.mode = .loader) then .next s
  else match s.grant .firmwareStaging 0 with
    | (false, s) => .next s
    | (true, s) =>
      let s : State := { s with fw := { s.fw with valid := false, flashed := true, package := [] } }
      if flashOk then .next s.fwOperate else .next (s.fwFail 8 0)

/-- A body as read back from flash has its header's digest. -/
def State.bodyOk (s : State) (r : ImageRec) : Bool :=
  Config.sha384 (s.read stFlash (packageBase + r.offset + 512) (r.length - 512)) = r.digest

/-- The package in flash is owner-signed throughout under the owner key in force (R506). -/
def State.ownerSignedPackage (s : State) : Bool :=
  s.fw.valid && !s.fw.package.isEmpty && s.fw.package.all fun r =>
    let h := s.read stFlash (packageBase + r.offset) 512
    (parseHead h).any fun i => i.ownerSigned && Config.ecdsaOk s.dict.ownerKey (h.take 96) (sub h 192 96)

/-- BOOT from step 5, as a package verified in LOADER starts it; no store has been initialised (R514). -/
def State.bootFromLoader (s : State) : State :=
  let s : State := { s with clk := { s.clk with warm := false, firmware := false, bridges := false, memory := false, flashReads := false } }
  (s.setNum PD.RESET_CAUSE 3).enter .boot

/-- STAGING_VERIFIED (R510): with the last byte in flash: every body digest, every manifest entry, PART_COUNT; then the valid marker. -/
def execStagingVerified (s : State) : Res :=
  let n := s.num PD.FW_PACKAGE_LENGTH
  if s.num PD.FW_STAGE_STATE ≠ 1 ∨ s.num PD.FW_RECEIVED ≠ n ∨ s.fw.programmed ≠ n ∨ !s.mode.hubRuns then .next s
  else
    let imgs := s.fw.images
    match imgs.find? fun r => !s.bodyOk r with
    | some r => .next (s.fwFail 5 r.part)
    | none =>
      let parts := imgs.tail
      let head := s.read stFlash (packageBase + 512) 64
      let bad := parts.zipIdx.find? fun r => s.stagedEntry r.2 ≠ some r.1
      let headOk : Bool := fieldAt head 0 2 = 6 && allZero (sub head 2 6) && allZero (sub head 12 52)
      if bad.isSome ∨ !headOk ∨ imgs.length ≠ 7 ∨ s.fw.nextHeader ≠ n then .next (s.fwFail 6 ((bad.map (·.1.part)).getD 0))
      else
        let s : State := { s with fw := { s.fw with valid := true, package := imgs, packageRollback := s.fw.rollback } }
        let s := (s.setNum PD.FW_STAGE_STATE 2).setBytes PD.FW_STAGED_DIGEST ((imgs.head?.map (·.digest)).getD [])
        let s := s.fwResult 0
        .next (if s.mode = .loader then s.bootFromLoader else s)

/-! ## Activation (R511) -/

/-- A write to FW_ACTIVATE_AT. -/
def State.fwSchedule (s : State) (t : CTime) : State :=
  if s.num PD.FW_STAGE_STATE ≠ 2 ∨ !s.mode.working then s.fwRefuse 9
  else match s.present ⟨t, .firmware, 0, 0⟩ with
    | (.ok, s) => s.setNum PD.FW_RESULT fwPending
    | (_, s) => s.fwRefuse 9

/-- FW_ACTIVATE_AT (R511). -/
def execFwActivateAt (time : CTime) (s : State) : Res := if s.mode.hubRuns then .next (s.fwSchedule time) else .next s

/-! ## Attestation requests (R517) -/

/-- A write to ATTEST_REQ. -/
def State.attestStart (s : State) (nonce : List Byte) : State :=
  if !(s.mode.commands || s.mode = .loader) ∨ nonce.length ≠ 32 then s
  else if s.fw.nonce.isEmpty then { s.setNum PD.ATTEST_RESULT 1 with fw := { s.fw with nonce := nonce } }
  else s.setNum PD.ATTEST_RESULT 2

/-- ATTEST_REQ (R517). -/
def execAttestReq (nonce : List Byte) (s : State) : Res := .next (s.attestStart nonce)

end Sys2Proof.Machine
end

