-- ==== Sys2Proof/Machine/Measure.lean ====
section
/-! DEFINITION. Machine/Measure.lean: converters and sampling groups, event timers, PWM, tachometers, PMBus, the Level loop and its alarms
(R426-R444). -/
namespace Sys2Proof.Machine

/-! ## Sampling groups (R426, R430-R432) -/

/-- Channel a group names on converter c in round k; none for 0xFF. -/
def State.groupChan (s : State) (g k c : Nat) : Option Nat :=
  let ch := s.groupCol g (7 + 8 * k + c)
  if ch < 128 then some ch else none

/-- Converters a group names in any round. -/
def State.groupConvs (s : State) (g : Nat) : List Nat :=
  (List.range 8).filter fun c => (List.range (s.groupCol g 6)).any fun k => (s.groupChan g k c).isSome

/-- Every converter of the group is free of running groups. -/
def State.convsFree (s : State) (g : Nat) : Bool :=
  let mine := s.groupConvs g
  !(s.meas.running.any fun r => (s.groupConvs r.1).any mine.contains)

def State.startGroup (s : State) (g : Nat) : State :=
  { s with meas := { s.meas with running := s.meas.running ++ [(g, s.course.now)], waiting := s.meas.waiting.filter (· ≠ g) } }

/-- A running group r (its number and start) converts on converter c at hub time t: round k from its start + 200 ns + k us, for 1 us (R426, R430). -/
def State.converting (s : State) (r : Nat × Nat) (c t : Nat) : Bool :=
  (List.range (s.groupCol r.1 6)).any fun k => decide (r.2 + 200 + k * 1000 ≤ t ∧ t < r.2 + 1200 + k * 1000) && (s.groupChan r.1 k c).isSome

/-- No converter of the group runs another group's conversion when the group's first round would sample (R432). -/
def State.convsIdle (s : State) (g : Nat) : Bool :=
  !(s.meas.running.any fun r => (s.groupConvs g).any fun c => s.converting r c (s.course.now + 200))

/-- One trigger of a group (R432): merged; else an URGENT group starts or is dropped, a NORMAL group starts or is pending. -/
def State.triggerOne (s : State) (g : Nat) : State :=
  if s.meas.running.any (fun r => r.1 = g) ∨ s.meas.waiting.contains g then s.bump PD.ADC_TRIGGER_MERGED
  else if s.groupCol g 4 ≠ 0 then if s.convsIdle g then s.startGroup g else s.bump PD.ADC_URGENT_DROPPED
  else if s.convsFree g then s.startGroup g
  else { s with meas := { s.meas with waiting := s.meas.waiting ++ [g] } }

/-- Groups triggered on one hub cycle: URGENT first, each kind in rising number (R432). The converters work while the hub runs (R444). -/
def State.triggerAll (s : State) (p : Nat → Bool) : State :=
  if !s.mode.hubRuns then s
  else
    let gs := (List.range 16).filter p
    (s.each (gs.filter fun g => s.groupCol g 4 ≠ 0) State.triggerOne).each (gs.filter fun g => s.groupCol g 4 = 0) State.triggerOne

/-- Groups of a trigger kind. -/
def State.triggerKind (s : State) (kind : Nat) : State := s.triggerAll fun g => s.groupCol g 0 = kind

/-- Pending groups start once their converters are free, in rising number (R432). -/
def State.startWaiting (s : State) : State :=
  s.each ((List.range 16).filter s.meas.waiting.contains) fun s g => if s.convsFree g then s.startGroup g else s

/-- A write to ADC_TRIGGER (R430). -/
def State.adcTrigger (s : State) (v : Nat) : State :=
  if !s.mode.commands then s.setNum PD.ADC_TRIGGER_RESULT 2
  else if 16 ≤ v ∨ s.groupCol v 0 ≠ 6 then s.setNum PD.ADC_TRIGGER_RESULT 1
  else (s.setNum PD.ADC_TRIGGER_RESULT 0).triggerAll fun g => g = v

/-- ADC_TRIGGER (R430). -/
def execAdcTrigger (group : Byte) (s : State) : Res := .next (s.adcTrigger group.toNat)

/-- EXT_TRIG (R430): the groups of the edge, while BALL_SELECT gives the feature a ball. -/
def execExtTrig (rising : Bool) (s : State) : Res :=
  match (s.rows PD.BALL_SELECT)[8]? with
  | some [b] => if b < 8 then .next (s.triggerKind (if rising then 3 else 4)) else .next s
  | _ => .next s

/-- MEASUREMENT_TRIGGER (R431): the event starts its group; a repeating event is in the queue again. -/
def execMeasurementTrigger (s : State) : Res :=
  match s.fire .measure with
  | some (e, s) => .next (s.triggerAll fun g => g = e.owner && s.groupCol g 0 = 1)
  | none => .next s

/-! ## Results (R427, R428, R433) -/

/-- Published time at a hub cycle. -/
def State.ctimeAt (s : State) (t : Nat) : CTime := if s.course.segs.isEmpty then s.ctime else BitVec.ofNat 64 (posOf s.course.segs t / 2 ^ 32)

/-- Correction of a channel: OFS in sixteenths, GAIN (R428). -/
def State.correction (s : State) (ch : Nat) : Int × FV :=
  if ch < 96 then (Config.adcOfs ch |>.toInt, f32 (Config.adcGain ch))
  else
    let r := ((s.rows PD.ADC_EXT_CORR)[ch - 96]?).getD extCorr
    (signed 16 (r.getD 0 0), fp32.decode (r.getD 1 0))

/-- value := GAIN x (code - OFS / 16), each operation in FP32 (R428, DEDUCED, log 23). -/
def State.corrected (s : State) (ch code : Nat) : FV :=
  let (ofs, gain) := s.correction ch
  mul32 gain (sub32 (.ofNat code) ((FV.ofInt ofs).scale (-4)).r32)

def State.chan (s : State) (ch : Nat) : ChanResult := kvGet (fun _ => {}) s.meas.results ch
def State.setChan (s : State) (ch : Nat) (r : ChanResult) : State :=
  { s with meas := { s.meas with results := kvSet (fun _ => {}) s.meas.results ch r } }

/-- A conversion's code and flags (R427). -/
def readSample (x : Sample) : BitVec 12 := if x.above then 0xFFF else if x.below then 0 else x.code

/-- One conversion of a round becomes its channel's result (R433). -/
def State.takeSample (s : State) (g : Nat) (at_ : CTime) (ch : Nat) (x : Sample) : State :=
  let code := readSample x
  let s := s.setChan ch ⟨code, toF32 (s.corrected ch code.toNat), x.above, x.below, false, g, at_⟩
  (s.bump PD.ADC_SAMPLES).bumpBy PD.ADC_RANGE_FLAGS (b2n x.above + b2n x.below)

/-- The conversions of a round as the group names them, by converter: channel and sample. -/
def State.roundSamples (s : State) (g k : Nat) (round : List Sample) : List (Option (Nat × Sample)) :=
  (List.range 8).map fun c => (s.groupChan g k c).bind fun ch => (round.find? fun x => x.conv.val = c).map fun x => (ch, x)

/-- One round of a group: its channels' results, and with CAPTURE its record (R433). -/
def State.takeRound (s : State) (g start k : Nat) (round : List Sample) : State :=
  let at_ := s.ctimeAt (start + 200 + k * 1000)
  let got := s.roundSamples g k round
  let s := s.each (got.filterMap id) fun s p => s.takeSample g at_ p.1 p.2
  if s.groupCol g 5 = 0 then s
  else
    let codes := got.map fun o => (o.map fun p => (readSample p.2).toNat).getD 0xFFF
    { s with meas := { s.meas with capture := pushLast 4096 s.meas.capture ([g, k, at_.toNat] ++ codes) } }

/-- SAMPLING_GROUP_DONE (R433): the group's last round has ended; its results update together, a CAPTURE group's records enter the ring, and
pending groups may start. -/
def execSamplingGroupDone (group : Fin 16) (rounds : List (List Sample)) (s : State) : Res :=
  let g := group.val
  match s.meas.running.find? fun r => r.1 = g with
  | none => .next s
  | some (_, start) =>
    if !s.mode.hubRuns then .next s
    else
      let n := s.groupCol g 6
      let s := (s.runTo (start + 200 + n * 1000)).each (List.range n) fun s k => s.takeRound g start k ((rounds[k]?).getD [])
      let s : State := { s with meas := { s.meas with running := s.meas.running.filter fun r => r.1 ≠ g, tickDone := s.meas.tickDone || g = s.num PD.LEVEL_GROUP } }
      .next s.startWaiting.calWhenIdle

/-- CHANNEL_STALE (R433): no group has sampled the channel for 100 ms. -/
def execChannelStale (channel : Fin 128) (s : State) : Res :=
  if s.mode.hubRuns then .next (s.setChan channel.val { s.chan channel.val with stale := true }) else .next s

/-- SLICE_CALIBRATION (R429): a Foreman grant measures one slice of a converter that no group claims. -/
def execSliceCalibration (conv : Fin 8) (weight : Nat) (s : State) : Res :=
  let c := conv.val
  let busy := s.meas.running.any fun r => (s.groupConvs r.1).contains c
  if !s.mode.maintains ∨ busy then .next s
  else match s.grant .slice c with
    | (false, s) => .next s
    | (true, s) =>
      let x := kvGet (fun _ => ({} : Slice)) s.meas.slices c
      let w := (if x.weights.isEmpty then List.replicate 12 0 else x.weights).set x.slice weight
      let x : Slice := if x.slice = 11 then ⟨0, w, x.rotations + 1, s.ctime⟩ else ⟨x.slice + 1, w, x.rotations, x.time⟩
      .next { s with meas := { s.meas with slices := kvSet (fun _ => {}) s.meas.slices c x } }

/-! ## Timers, PWM, tachometers (R434-R436) -/

/-- Duty of an output that nothing has set: the default row of PWM_TABLE (R446). -/
def dutyDefault (i : Nat) : Nat := if i < 4 then 4000 else 0

def State.setDuty (s : State) (i n : Nat) : State := { s with meas := { s.meas with dutyNext := kvSet dutyDefault s.meas.dutyNext i n } }

/-- A write to PWM_TABLE sets the duties of the outputs that HOST owns (R435). -/
def State.hostDuties (s : State) : State :=
  s.each (List.range 8) fun s i =>
    if s.flag PD.VALVE_EN ∧ s.num PD.VALVE_PWM = i then s else s.setDuty i (((s.rows PD.PWM_TABLE)[i]?.getD []).getD 1 0)

/-- A timer whose row a commit has changed starts its period at the commit (R434, DEDUCED, log 49). -/
def State.restartTimers (s before : State) : State :=
  let changed := (List.range 16).filter fun i => (s.rows PD.TIMER_TABLE)[i]? ≠ (before.rows PD.TIMER_TABLE)[i]?
  { s with meas := { s.meas with timers := changed.foldl (fun m i => kvSet (fun _ => 0) m i s.course.now) s.meas.timers } }

/-- TIMER_EXPIRY (R434, R435): the timer has run its period since its last restart; its groups start, and PWM duties that wait take effect at
the period boundary of PWM_TIMER. -/
def execTimerExpiry (timer : Fin 16) (s : State) : Res :=
  let i := timer.val
  let period := ((s.rows PD.TIMER_TABLE)[i]?.getD []).getD 0 0
  if period = 0 ∨ !s.mode.hubRuns then .next s
  else
    let due := kvGet (fun _ => 0) s.meas.timers i + period
    let s := s.runTo due
    let s : State := { s with meas := { s.meas with timers := kvSet (fun _ => 0) s.meas.timers i due } }
    let s : State := if s.num PD.PWM_TIMER = i then { s with meas := { s.meas with duty := s.meas.dutyNext } } else s
    .next (s.triggerAll fun g => s.groupCol g 0 = 2 && s.groupCol g 1 = i)

def State.tach (s : State) (i : Nat) : Tach := kvGet (fun _ => {}) s.meas.tach i
def State.setTach (s : State) (i : Nat) (t : Tach) : State := { s with meas := { s.meas with tach := kvSet (fun _ => {}) s.meas.tach i t } }
def State.tachOn (s : State) (i : Nat) : Bool := ((s.rows PD.TACH_TABLE)[i]?.getD []).getD 0 0 ≠ 0

/-- Edges of the last second give the frequency in Hz, and the rate per minute (R436). -/
def State.tachFrequency (s : State) (i : Nat) : Nat := ((s.tach i).edges.filter fun e => s.course.now / 10 < e + 100000000).length
def State.tachRate (s : State) (i : Nat) : FV :=
  div32 (mul32 (FV.ofNat (s.tachFrequency i)).r32 (.ofNat 60)) (fp32.decode (((s.rows PD.TACH_TABLE)[i]?.getD []).getD 1 0))

/-- TACH_EDGE (R436): a qualified edge of an enabled input counts and clears STALL. -/
def execTachEdge (input : Fin 8) (at10ns : Nat) (s : State) : Res :=
  if !s.tachOn input.val ∨ !s.mode.hubRuns then .next s
  else
    let s := s.runTo (at10ns * 10)
    let t := s.tach input.val
    .next (s.setTach input.val { edges := (t.edges.filter fun e => at10ns < e + 100000000) ++ [at10ns], stall := false })

/-- TACH_STALL (R436): no edge for STALL_MS. -/
def execTachStall (input : Fin 8) (s : State) : Res :=
  if s.tachOn input.val ∧ s.mode.hubRuns then .next (s.setTach input.val { s.tach input.val with stall := true }) else .next s

/-! ## PMBus (R437) -/

/-- LINEAR11: a five-bit exponent and an eleven-bit mantissa in two's complement. -/
def linear11 (w : Nat) : FV := ((FV.ofInt (signed 11 w)).scale (signed 5 (w / 2048))).r32
/-- LINEAR16 under VOUT_MODE: an unsigned mantissa and the exponent of the mode byte. -/
def linear16 (w mode : Nat) : FV := ((FV.ofNat w).scale (signed 5 mode)).r32

def pmbFailed : PmbReply → Bool
  | .failed => true
  | .ok _ => false

def pmbWord : PmbReply → Option Nat
  | .failed => none
  | .ok b => some (fieldAt b 0 2)

/-- A transaction as it leaves: address, command code, write and read length, write data. -/
def pmbFrame (address code rlen : Nat) (data : List Byte) : List Byte := le 1 address ++ le 1 code ++ le 1 data.length ++ le 1 rlen ++ data

def State.pmb (s : State) (i : Nat) : PmbResult := kvGet (fun _ => {}) s.meas.pmb i
def State.setPmb (s : State) (i : Nat) (r : PmbResult) : State := { s with meas := { s.meas with pmb := kvSet (fun _ => {}) s.meas.pmb i r } }

/-- VOUT by its mode; a mode other than LINEAR gives no value that the rules state (DESIGN CHOICE, log 7). -/
def voutOf (w mode : Nat) : W32 := if bits mode 5 3 = 0 then toF32 (linear16 w mode) else Config.fnF32 11 [BitVec.ofNat 32 w, BitVec.ofNat 32 mode]

/-- PMB_POLL (R437): the device's status, readings and VOUT_MODE as they came, each with its retries. -/
def execPmbPoll (row : Nat) (status vout iout temp voutMode : PmbReply) (s : State) : Res :=
  match (s.rows PD.PMB_DEVICE_TABLE)[row]? with
  | some (address :: _) =>
    if !s.mode.hubRuns then .next s
    else
      let s := s.emits ([0x79, 0x8B, 0x8C, 0x8D].map fun c => .pmbus (pmbFrame address c 2 []))
      let all := [status, vout, iout, temp, voutMode]
      let bad := (all.filter pmbFailed).length
      let r := s.pmb row
      let r : PmbResult :=
        { vout := match (pmbWord vout), (pmbWord voutMode) with
            | some v, some m => voutOf v (m % 256)
            | _, _ => r.vout
          iout := ((pmbWord iout).map fun w => toF32 (linear11 w)).getD r.iout
          temp := ((pmbWord temp).map fun w => toF32 (linear11 w)).getD r.temp
          status := ((pmbWord status).map fun w => BitVec.ofNat 16 w).getD r.status
          absent := decide (0 < bad) }
      .next ((s.setPmb row r).bumpBy PD.PMB_ERRORS bad)
  | _ => .next s

/-- States in which PMB_XFER acts (R437). -/
def Mode.transfers : Mode → Bool
  | .calibrate | .held | .armed | .run | .drain => true
  | _ => false

/-- A status byte and read bytes in PMB_XFER_RESULT: 0 OK, 1 BAD_ARGUMENT, 2 WRONG_STATE, 3 failed (DESIGN CHOICE, log 6). -/
def State.pmbResult (s : State) (code : Nat) (data : List Byte) : State := s.setBytes PD.PMB_XFER_RESULT (padTo 33 (le 1 code ++ data))

/-- A write to PMB_XFER: address, command code, write length, read length, write data. The transaction leaves; its reply comes with the
command PMB_XFER. -/
def State.pmbStart (s : State) (b : List Byte) : State :=
  let wlen := fieldAt b 2 1
  if !s.mode.transfers then s.pmbResult 2 []
  else if b.length < 4 ∨ b.length ≠ 4 + wlen ∨ 32 < wlen ∨ 32 < fieldAt b 3 1 ∨ 128 ≤ fieldAt b 0 1 then s.pmbResult 1 []
  else { s.emit (.pmbus (pmbFrame (fieldAt b 0 1) (fieldAt b 1 1) (fieldAt b 3 1) (b.drop 4))) with meas := { s.meas with xfer := some b } }

/-- PMB_XFER (R437): one raw transaction; a third failure counts and marks the device ABSENT. -/
def execPmbXfer (bytes : List Byte) (reply : PmbReply) (s : State) : Res :=
  let s := if s.meas.xfer = some bytes then s else s.pmbStart bytes
  if s.meas.xfer ≠ some bytes ∨ !s.mode.hubRuns then .next s
  else
    let s : State := { s with meas := { s.meas with xfer := none } }
    match reply with
    | .ok data => .next (s.pmbResult 0 (data.take (fieldAt bytes 3 1)))
    | .failed =>
      let rows := (s.rows PD.PMB_DEVICE_TABLE).zipIdx.filter fun r => r.1.headD 0 = fieldAt bytes 0 1
      .next ((s.each rows fun s r => s.setPmb r.2 { s.pmb r.2 with absent := true }).bump PD.PMB_ERRORS |>.pmbResult 3 [])

/-! ## The Level loop (R438-R441) -/

def alInletLow : Nat := 0
def alInletHigh : Nat := 1
def alFlowLow : Nat := 2
def alLeak : Nat := 3
def alTjTrip : Nat := 4
def alSensor : Nat := 5
def alRegulator : Nat := 6

def State.alarm (s : State) (b : Nat) : Bool := bit (s.num PD.LEVEL_ALARMS) b

/-- F falls: cause POWER when it leaves 64, and the THROTTLE groups start (R441); THROTTLE_OUT_N is asserted below 64 (R438). -/
def State.setF (s : State) (f : Nat) : State :=
  let old := s.num PD.LEVEL_F
  let s := s.setNum PD.LEVEL_F f
  let s := if old = 64 ∧ f < 64 then s.cause irqPower else s
  let s := if f < old then s.triggerKind 5 else s
  if f < 64 then { s with meas := { s.meas with throttleOutN := false, quietTicks := 0 } } else s

/-- An alarm is set, once, with its spall (R443); THROTTLE_OUT_N is asserted (R438). LEAK and TJ_TRIP bring the module to FAULT with F at 0. -/
def State.setAlarm (s : State) (b : Nat) : State :=
  if s.alarm b then s
  else
    let stop : Bool := b = alLeak || b = alTjTrip
    let s := s.setNum PD.LEVEL_ALARMS (orBit (s.num PD.LEVEL_ALARMS) b)
    let s := s.spall { kind := 0x31, level := 3, mech := 14, outcome := if stop then 4 else 0, detail := [detailUint 0 b] }
    let s : State := { s with meas := { s.meas with throttleOutN := false, quietTicks := 0 } }
    if stop then (s.setF 0).fault else s

/-- A tick with or without an alarm's condition: it sets after `need` consecutive ticks with it and clears after ten without, LEAK and TJ_TRIP
never (R443). -/
def State.alarmTick (s : State) (b need : Nat) (cond : Bool) : State :=
  let n := if cond then kvGet (fun _ => 0) s.meas.causeTicks b + 1 else 0
  let q := if need ≤ n then 0 else kvGet (fun _ => 0) s.meas.clearTicks b + 1
  let s : State := { s with meas := { s.meas with
    causeTicks := kvSet (fun _ => 0) s.meas.causeTicks b (min n 100)
    clearTicks := kvSet (fun _ => 0) s.meas.clearTicks b (min q 10) } }
  if need ≤ n then s.setAlarm b
  else if 10 ≤ q ∧ b ≠ alLeak ∧ b ≠ alTjTrip ∧ s.alarm b then s.setNum PD.LEVEL_ALARMS (setBit (s.num PD.LEVEL_ALARMS) b false)
  else s

/-- Voltage and current channels of the 30 rail pairs (R426). -/
def railPairs : List (Nat × Nat) := (List.range 30).map fun i => let v := i / 15 * 48 + 18 + i % 15; (v, v + 15)

/-- Temperature channels (R426). -/
def tempChans : List Nat := (List.range 36).map fun i => i / 18 * 48 + i % 18

def State.chanValue (s : State) (ch : Nat) : FV := f32 (s.chan ch).value
def State.chanBad (s : State) (ch : Nat) : Bool := (s.chan ch).ovr || (s.chan ch).unr

/-- P1: the sum of V x I over the rail pairs; a pair with a flag counts at its channels' full-scale values (R439). -/
def State.railPower (s : State) : FV :=
  sum32 (railPairs.map fun p =>
    if s.chanBad p.1 || s.chanBad p.2 then mul32 (s.corrected p.1 0xFFF) (s.corrected p.2 0xFFF)
    else mul32 (s.chanValue p.1) (s.chanValue p.2))

/-- Largest die T16 (R428, R439). -/
def State.maxT16 (s : State) : Int := (List.range 28).foldl (fun m d => max m (s.dieT16 d)) (s.dieT16 0)

/-- Bits of a STATUS_WORD that report a fault or warning: all but OFF, BUSY and POWER_GOOD# (DESIGN CHOICE, log 6). -/
def statusFault (w : W16) : Bool := w &&& 0xF73F ≠ 0

/-- The alarms as a tick finds them (R443). -/
def State.checkAlarms (s : State) : State :=
  let inlet := s.num PD.COOL_INLET_CHAN
  let leak := s.num PD.LEAK_CHAN
  let tach := s.num PD.COOL_FLOW_TACH
  let has := fun (c : Nat) => decide (96 ≤ c ∧ c < 128)
  let v := s.chanValue inlet
  let sensor : Bool := (railPairs.any fun p => s.chanBad p.1 || s.chanBad p.2) || tempChans.any s.chanBad
    || (has inlet && s.chanBad inlet) || (has leak && s.chanBad leak)
  let regulator : Bool := (List.range (s.rows PD.PMB_DEVICE_TABLE).length).any fun i => !(s.pmb i).absent && statusFault (s.pmb i).status
  let s := s.alarmTick alInletLow 1 (has inlet && v.lt (.ofNat 20))
  let s := s.alarmTick alInletHigh 1 (has inlet && (FV.ofNat 45).lt v)
  let stalled : Bool := decide (tach < 8) && (s.tach tach).stall
  let s := s.alarmTick alFlowLow (if stalled then 1 else 100) (stalled || (decide (tach < 8) && (s.tachRate tach).lt (s.fv PD.FLOW_MIN)))
  let s := s.alarmTick alLeak 2 (has leak && (s.fv PD.LEAK_THRESHOLD_V).lt (s.chanValue leak))
  let s := s.alarmTick alTjTrip 2 (decide (105 * 16 ≤ s.maxT16))
  let s := s.alarmTick alSensor 1 sensor
  s.alarmTick alRegulator 1 regulator

/-- The cap in force at a tick (R438, R439). -/
def State.powerCap (s : State) : FV :=
  let c := s.fv PD.LEVEL_CAP_W
  let c := if s.meas.throttleIn then FV.min c (s.fv PD.THROTTLE_IN_W) else c
  if s.alarm alInletHigh ∨ s.alarm alFlowLow ∨ s.alarm alSensor then FV.min c (s.fv PD.COOL_ALARM_CAP_W) else c

/-- floor of a finite value that is not negative. -/
def FV.floorNat : FV → Nat
  | .fin false n d => n / d
  | _ => 0

/-- The issue factor of the next interval (R439), in FP32 operation by operation (DEDUCED, log 23). -/
def nextF (f : Nat) (p1 cap : FV) (tmax throttle : FV) (stop : Bool) : Nat :=
  let limit := mul32 (FV.ratio 97 100).r32 cap
  let overs := div32 p1 limit
  if stop then 0
  else if FV.one.lt overs then max 1 (div32 (.ofNat f) overs).floorNat
  else if throttle.le tmax then max 1 (f - 4)
  else if (div32 (mul32 p1 (.ofNat (f + 1))) (.ofNat f)).le limit && tmax.lt (sub32 throttle (.ofNat 2)) then min 64 (f + 1)
  else f

/-- The valve loop (R442), in FP32 operation by operation (DEDUCED, log 23). -/
def State.valve (s : State) : State :=
  if !s.flag PD.VALVE_EN then s
  else
    let tmax := ((FV.ofInt s.maxT16).scale (-4)).r32
    let e := sub32 tmax (s.fv PD.VALVE_TARGET)
    let clamp := fun (x : FV) => FV.min .one (FV.max .zero x)
    let integ := clamp (add32 (f32 s.meas.integ) (mul32 (mul32 (s.fv PD.VALVE_KI) e) (FV.ratio 1 1000).r32))
    let duty := FV.min .one (FV.max (s.fv PD.VALVE_MIN_DUTY) (add32 (mul32 (s.fv PD.VALVE_KP) e) integ))
    let count := (mul32 (.ofNat 4000) duty).toInt.toNat
    ({ s with meas := { s.meas with integ := toF32 integ } }).setDuty (s.num PD.VALVE_PWM) count

/-- THROTTLE_OUT_N at a tick: released after ten consecutive ticks with F at 64 and no alarm (R438). -/
def State.throttleOut (s : State) : State :=
  if s.num PD.LEVEL_F < 64 ∨ s.num PD.LEVEL_ALARMS ≠ 0 then { s with meas := { s.meas with throttleOutN := false, quietTicks := 0 } }
  else
    let n := min 10 (s.meas.quietTicks + 1)
    { s with meas := { s.meas with quietTicks := n, throttleOutN := s.meas.throttleOutN || n = 10 } }

/-- LEVEL_TICK (R439): the tick triggers LEVEL_GROUP. -/
def execLevelTick (s : State) : Res :=
  if !s.mode.hubRuns then .next s
  else
    let lg := s.num PD.LEVEL_GROUP
    .next (({ s with meas := { s.meas with tickOpen := true, tickDone := false } } : State).triggerAll fun g => g = lg)

/-- LEVEL_EVALUATION (R439, R442, R443): the tick's group has completed: alarms, P1, F, the valve, THROTTLE_OUT_N. -/
def execLevelEvaluation (s : State) : Res :=
  if !s.mode.hubRuns ∨ !s.meas.tickOpen ∨ !s.meas.tickDone then .next s
  else
    let s : State := { s with meas := { s.meas with tickOpen := false } }
    let s := s.checkAlarms
    let p1 := s.railPower
    let s := s.setNum PD.LEVEL_P1 (fp32.encode p1)
    let tmax := ((FV.ofInt s.maxT16).scale (-4)).r32
    let s := s.setF (nextF (s.num PD.LEVEL_F) p1 s.powerCap tmax (s.fv PD.TJ_THROTTLE) (s.alarm alLeak || s.alarm alTjTrip))
    let s := if s.num PD.LEVEL_F < 64 then s.bump PD.LEVEL_THROTTLE_TICKS else s
    .next s.valve.throttleOut

/-- LEVEL_TICK_LATE (R441): the group has not completed within 500 us of its tick. -/
def execLevelTickLate (s : State) : Res :=
  if !s.mode.hubRuns ∨ !s.meas.tickOpen ∨ s.meas.tickDone then .next s
  else
    let s : State := { s with meas := { s.meas with tickOpen := false } }
    let s := (s.bump PD.LEVEL_TICKS_LATE).alarmTick alSensor 1 true
    let s := if s.num PD.LEVEL_F < 64 then s.bump PD.LEVEL_THROTTLE_TICKS else s
    .next s.throttleOut

/-- F halved; an odd F's half is not stated to which side it rounds (DESIGN CHOICE, log 7). -/
def State.halfF (s : State) : Nat × State :=
  let f := s.num PD.LEVEL_F
  let (i, s) := s.fresh
  (f / 2 + (if f % 2 = 1 then Config.fnNat 11 [f] i % 2 else 0), s)

/-- FAST_CLAMP (R440): a hub compares its rail currents with those that LEVEL_PEAK_W / 2 draws. -/
def execFastClamp (_hub : Fin 2) (milliAmps limitMilliAmps : Nat) (s : State) : Res :=
  if !s.mode.hubRuns ∨ milliAmps ≤ limitMilliAmps then .next s
  else
    let (f, s) := s.halfF
    .next ((s.bump PD.LEVEL_FAST_CLAMPS).setF f)

/-- THROTTLE_IN (R438, R441): the pin is asserted, or released. -/
def execThrottleIn (asserted : Bool) (s : State) : Res :=
  if s.meas.throttleIn = asserted ∨ !s.mode.hubRuns then .next s
  else
    let s : State := { s with meas := { s.meas with throttleIn := asserted } }
    .next (if asserted then (s.cause irqPower).triggerKind 5 else s)

/-- Converters, groups and the tick under way stop (R444). -/
def State.stopMeasure (s : State) : State :=
  { s with meas := { s.meas with running := [], waiting := [], tickOpen := false, xfer := none } }

end Sys2Proof.Machine
end

