-- ==== Sys2Proof/Machine/Views.lean ====
section
/-! DEFINITION. Machine/Views.lean: dictionary entries that show state held elsewhere, computed when they are read (R399-R405 and the dictionary
tables of every chapter). Codes of columns that the spec names without a code are the model's (DESIGN CHOICE, log 6). -/
namespace Sys2Proof.Machine

/-! ## Module and configuration (01, 16) -/

/-- The entry types of R401: code, name, bytes; 0 where the size varies. -/
def typeRows : List (List Nat) :=
  [("BOOL", 1), ("U8", 1), ("U16", 2), ("U32", 4), ("U64", 8), ("I32", 4), ("I64", 8), ("F32", 4), ("F64", 8), ("TEXT", 0), ("BYTES", 0),
   ("DIGEST384", 48), ("CTIME", 8), ("TABLE", 0)].zipIdx.map fun t => [t.2 + 1, ofLe (padTo 32 (ascii t.1.1)), t.1.2]

def cellMask (p : Nat → Bool) : Nat := ofBitsLsb ((List.range 16).map p)

/-- HEALTH_MAP: die, block, working cells, suspect cells; common logic suspect sets every bit (R26, R475). -/
def State.healthMap (s : State) : List (List Nat) :=
  (List.range 16).flatMap fun d => (List.range 128).map fun b =>
    let gone : Bool := s.faults.retiredBlocks.contains (d * 128 + b)
    [d, b, cellMask fun c => !gone && !s.faults.retiredCells.contains (d * 2048 + b * 16 + c),
     cellMask fun c => s.faults.suspects.any fun u => u.die = d && u.block = b && (u.cell = c || u.cell = 255)]

/-- An entry's value in its R401 encoding. -/
def encodeAs (k : Nat) (v : PdVal) : List Byte :=
  match metaOf k with
  | some m => m.encode v
  | none => []

/-- SHA-384 over entries in their R401 encodings. -/
def digestOf (vs : List (Nat × PdVal)) : PdVal := .bytes (padTo 48 (Config.sha384 (vs.flatMap fun v => encodeAs v.1 v.2)))

/-- The value in force of an RW, RWH or RWS entry; WIRING_PLAN's default is the torus plan of this module (R375). -/
def State.inForce (s : State) (k : Nat) : PdVal := if k = PD.WIRING_PLAN then .table s.wiring else s.pdGet k

/-- CFG_DIGEST: every RWH and RWS value in force, in index and subindex order (R407). -/
def State.cfgDigest (s : State) : PdVal :=
  digestOf ((metas.filter fun m => m.cls = 2 || m.cls = 3).map fun m => (m.key, s.inForce m.key))

def State.healthDigest (s : State) : PdVal := digestOf [(PD.HEALTH_MAP, .table s.healthMap)]

def State.epRow (s : State) (i : Ep) : List Nat :=
  let e := s.ep i
  [b2n e.linkUp, if e.linkUp then 5 else 0, if e.linkUp then 8 else 0, b2n e.busMaster, b2n e.msixOn, e.perstEvents, e.flrEvents]

/-! ### Shared resources (R411-R415) -/

/-- A configuration: the value of each entry. -/
abbrev Cfg := Nat → PdVal

def Cfg.rows (c : Cfg) (k : Nat) : List (List Nat) := (c k).toRows
def Cfg.num (c : Cfg) (k : Nat) : Nat := (c k).toNat
def Cfg.cell (c : Cfg) (k r i : Nat) : Nat := ((c.rows k)[r]?.getD []).getD i 0

/-- Feature f of BALL_SELECT is enabled: PWM4-7, TACH4-7, EXT_TRIG, COURSE_AUX (R412). COURSE_AUX has no switch of its own but its ball. -/
def Cfg.featureOn (c : Cfg) (f : Nat) : Bool :=
  if f < 4 then c.cell PD.PWM_TABLE (4 + f) 0 ≠ 0
  else if f < 8 then c.cell PD.TACH_TABLE f 0 ≠ 0
  else if f = 8 then (c.rows PD.ADC_GROUPS).any fun g => g.headD 0 = 3 || g.headD 0 = 4
  else c.cell PD.BALL_SELECT 9 0 ≠ 255

/-- The enabled features that claim a ball. -/
def Cfg.ballOwners (c : Cfg) (b : Nat) : List Nat := (List.range 10).filter fun f => c.featureOn f && c.cell PD.BALL_SELECT f 0 = b

/-- Owners of an event timer: 1 the ADC sequencer, 2 the Level loop, 3 PWM generation (R413, R434). -/
def Cfg.timerOwners (c : Cfg) (t : Nat) : List Nat :=
  (if (c.rows PD.ADC_GROUPS).any fun g => g.headD 0 = 2 && g.getD 1 0 = t then [1] else [])
  ++ (if c.num PD.LEVEL_TIMER = t then [2] else []) ++ (if c.num PD.PWM_TIMER = t then [3] else [])

/-- CLAIM_TABLE: 8 balls (feature + 1), 16 timers, 16 fixed regions (1 when fixed), port 11 (1 twin, 2 switch); 0 for no owner. -/
def State.claims (s : State) : List (List Nat) :=
  let c : Cfg := s.pdGet
  ((List.range 8).map fun b => [((c.ballOwners b).head?.map (· + 1)).getD 0])
  ++ ((List.range 16).map fun t => [(c.timerOwners t).headD 0])
  ++ ((List.range 16).map fun r => [b2n (c.cell PD.STAGING_FIXED (r / 2) (1 + 2 * (r % 2)) ≠ 0)])
  ++ [[1 + c.num PD.PORT11_ROLE]]

/-! ## Course, clocks (02, 18) -/

def EventKind.code : EventKind → Nat
  | .contribution => 0 | .vote => 1 | .broadcast => 2 | .twinShard => 3 | .gather => 4 | .commit => 5 | .swap => 6 | .firmware => 7
  | .measure => 8 | .freeze => 9

def State.eventRows (s : State) : List (List Nat) :=
  (sortBy (fun (a b : Event) => decide (a.time.toNat ≤ b.time.toNat)) s.events).map fun e => [e.time.toNat, e.kind.code, e.interval, e.owner]

/-- Die, domain and nominal MHz of the clock domains of R448 that have one; the stack rate is the interface's own. -/
def clockDomains : List (Nat × Nat × Nat) :=
  ((List.range 8).map fun d => (d, 0, 750)) ++ ((List.range 8).map fun d => (8 + d, 1, 920)) ++ ((List.range 20).map fun d => (d, 2, 1250))
  ++ [(16, 3, 1000), (17, 3, 1000), (18, 4, 1100), (19, 4, 1100)] ++ ((List.range 8).map fun d => (8 + d, 5, Config.stackMHz))
  ++ [(18, 6, 3200), (19, 6, 3200), (16, 8, 100), (17, 8, 100)]

def State.clockRows (s : State) : List (List Nat) :=
  clockDomains.map fun x =>
    let ref : Bool := x.2.1 = 8
    [x.1, x.2.1, x.2.2, Config.measuredMHz x.1 x.2.1, b2n (s.clk.onLoop && !ref), b2n (s.clk.loopsLocked || ref), b2n (!s.clk.waiting)]

/-- CLK_LOSS stands from a declared loss to the return; a BOOT that waits for its first REFCLK shows none (R450, R452, R526). -/
def State.clkFlags (s : State) : Nat := b2n (!s.clk.refclk && s.mode ≠ .boot) + 2 * b2n s.clk.waiting

/-! ## Streams and placement (03, 04) -/

def StreamState.code : StreamState → Nat
  | .undefined => 0 | .idle => 1 | .active => 2 | .blocked => 3 | .halted => 4 | .paused => 5

def State.streamRow (s : State) (i : Nat) (d : StreamDef) : List Nat :=
  let at_ := (s.place.bind fun p => p.rings.find? fun r => r.1 = i).bind fun r => bar2Of r.2.1 r.2.2
  [d.station, b2n d.hostFed, b2n d.ep0 + 2 * b2n d.ep1, d.ringCode, at_.getD 0, homeDie i, d.priority, d.groups]

def LayerPlace.row (p : LayerPlace) : List Nat :=
  let mine := fun (d : Nat) => p.groups.filter fun g => g.die = d
  [p.layer, p.leaf, p.wFormat, p.sections, p.replicas, p.kslices, p.nslices] ++ ((List.range 8).map fun d => (mine d).length)
  ++ ((List.range 8).map fun d => (((mine d).head?.bind (·.cells.head?)).getD 0xFFFF) % 65536)

/-- PLACE_TENSORS: a companion has bit 31 of its tensor set (R246); store 255 is host memory, its die column the region. -/
def homeRow (h : Home) : List Nat :=
  [h.tensor + (if h.companion then 2 ^ 31 else 0), if h.host then 255 else h.store, if h.host then h.store else storeDie h.store, h.offset,
   if h.host then 2 ^ 64 - 1 else (bar2Of h.store h.offset).getD (2 ^ 64 - 1)]

def State.placeView (s : State) (k : Nat) : PdVal :=
  match s.place with
  | none => pdDefault k
  | some p =>
    if k = PD.PLACE_MODE_USED then .num p.mode
    else if k = PD.PLACE_LAYERS then .table (p.layers.map LayerPlace.row)
    else if k = PD.PLACE_STATIONS then .table (p.stations.map fun x => [x.1, x.2.1, x.2.2.1, x.2.2.2])
    else if k = PD.PLACE_TENSORS then .table (p.homes.map homeRow)
    else if k = PD.PLACE_CHECKPOINTS then .table (p.ckpts.map fun c => [c.1, b2n c.2, p.ckptK])
    else .table (p.sequence.map fun o => [o.layer, o.micro, o.leaf])

def placeKeys : List Nat :=
  [PD.PLACE_MODE_USED, PD.PLACE_LAYERS, PD.PLACE_STATIONS, PD.PLACE_TENSORS, PD.PLACE_CHECKPOINTS, PD.PLACE_SEQUENCE]

/-- PLACE_ROWMODE: layer, rows of a group, share and density of the last committed step (R106). -/
def RowMode.row (r : RowMode) : List Nat :=
  let (o, n) := r.window.headD (0, 0)
  [r.layer, if r.dense then 256 else 128, fp32.encode (if n = 0 then .zero else (FV.ratio o n).r32),
   fp32.encode (if r.lastInputs = 0 then .zero else (FV.ratio r.lastBits r.lastInputs).r32)]

/-! ## Arrays and calibration (05, 06) -/

def State.spareRow (s : State) (g : Nat) : List Nat :=
  let c := s.cell g
  [g / 2048, g % 2048 / 16, g % 16] ++ (List.range 16).map c.spareEntry

def State.cellWorks (s : State) (g : Nat) : Bool :=
  !s.faults.retiredCells.contains g && !s.faults.retiredBlocks.contains (g / 2048 * 128 + g % 2048 / 16)

def State.spareMin (s : State) : Nat :=
  (List.range 16384).foldl (fun m g => if s.cellWorks g then min m (s.cell g).freeSpares.length else m) 16

/-- CAL_STATE: a pattern run, a resident run, a swap that waits, sets that are being stored (R174). -/
def State.calState (s : State) : Nat :=
  if s.mode = .calibrate then 1
  else if (List.range 8).any fun d => (s.dieCal d).running then 2
  else if s.cal.idle ≠ .free then 3
  else if !s.cal.flashDue.isEmpty then 4 else 0

def State.calDieRow (s : State) (d : Nat) : List Nat :=
  let c := s.dieCal d
  [unsigned 16 c.applied, unsigned 16 c.tLast, c.lastRun, c.nearest, c.failed, c.offsetOnly]

/-- CAL_SET_TABLE: ORIGIN 0 factory, 1 refreshed. -/
def State.calSetRow (s : State) (b : Nat) : List Nat :=
  let i := s.setInfo b
  [b / 5, b % 5, b2n i.refreshed, i.state, unsigned 16 i.temp, i.refreshes]

/-- CAL_DIGEST: pairs in force and spare maps of every cell in order (R173). -/
def State.calDigest (s : State) : List Byte :=
  padTo 48 (Config.sha384 ((List.range 16384).flatMap fun g =>
    ((List.range 536).flatMap fun b =>
      let p := s.activePair (colKey (g / 2048) (g % 2048) b)
      le 2 p.gain.toNat ++ le 2 p.offset.toNat)
    ++ (List.range 16).flatMap fun k => le 2 ((s.cell g).spareEntry k)))

/-! ## Numerics, joints, backward pass (07, 08, 09) -/

def State.numRow (s : State) (i : Nat) (l : Layer) : List Nat :=
  let n := s.num? i
  [l.wFormat, l.aFormat, n.rung, s.wFormat i, s.aFormat i, s.gradFormat i, b2n n.cold, n.clean, outliers l, b2n n.flagged]

/-- GAUGE_TABLE: ring count, merged bins, p, last-step shares by format, format chosen (R204-R206). -/
def State.gaugeRow (s : State) (i : Nat) : List Nat :=
  let n := s.num? i
  let bins := mergedRing n.ring
  let last := n.ring.getLast?.getD (List.replicate 32 0)
  [n.ring.length] ++ bins ++ [gaugeP (s.fv PD.GAUGE_PCT) bins]
  ++ ([0, 1, 2, 3].map fun w => fp32.encode (underShare last (gradOf w)).r32) ++ [n.gradFormat]

def State.jointRows (s : State) : List (List Nat) :=
  match s.plan with
  | none => []
  | some p => (List.range p.layers.length).flatMap fun i => ((List.range 3).filter fun k => decide (2 ≤ s.jointCount i k)).map fun k =>
    let m := s.jointMode i k
    [i, k, s.jointCount i k, 8, b2n m.exact, ((m.lastRho.map (·.toNat)).getD 0), m.clean]

def State.segTable (s : State) : List (Nat × Nat) := (s.plan.map fun p => segments s.segStarts p.layers.length).getD []

def State.frogRow (s : State) (d : Nat) : List Nat :=
  let runs := s.backward.frog.filter fun f => f.die = d
  let n := fun (sp : Bool) => total ((runs.filter fun f => f.spilled = sp).map fun f => f.entries.length)
  let planned := match s.plan, s.place with
    | some p, some pl => frogPeak p s.segTable (pl.ckpts.map (·.1)) d
    | _, _ => 0
  [n false, n true, planned, kvGet (fun _ => 0) s.frogMost d]

/-- KEEP_TABLE: first and last layer, store of the checkpoint (0 stack, 1 host, 255 none), layers retained, layers recomputed (R251). -/
def State.keepRow (s : State) (g : Nat × Nat) : List Nat :=
  let c := s.place.bind fun p => p.ckpts.find? fun c => c.1 = g.1
  [g.1, g.2, (c.map fun x => b2n x.2).getD 255, (([g.1, g.2].eraseDups).filter fun l => l = g.2 || s.isCkpt l).length, g.2 - g.1]

/-! ## Exchange and update (11, 12) -/

def State.paneRows (s : State) : List (List Nat) :=
  match s.plan with
  | none => []
  | some p =>
    let owners := paneOwners p.layers (s.num PD.EXCH_SIZE)
    (p.layers.zipIdx.flatMap fun l => layerPanes l.2 l.1).map fun r =>
      [r.layer, r.pane, ((owners.find? fun o => o.1 = r).map (·.2)).getD 0, r.rows * r.cols]

def Contested.row (c : Contested) : List Nat :=
  [c.layer, c.pane, c.suspect.getD 255] ++ (List.range 8).map fun i => ((c.history[i]?).getD 0).toNat

def RootOutcome.code : RootOutcome → Nat
  | .first => 1 | .damped => 2 | .kept => 3 | .diagonal => 4 | .zero => 5

/-- UPD_PANE_TABLE: roots in use (bit 0 left, bit 1 right), last outcomes (0 none), job 0 none, 1 queued or running, 2 staged. -/
def State.updRow (s : State) (p : Pane) : List Nat :=
  let out := fun (i : Nat) => ((p.outcomes[i]?).map RootOutcome.code).getD 0
  let eps := fun (r : Option Root) => (r.map (·.eps.toNat)).getD 0
  let job := match s.upd.jobs.find? fun j => j.layer = p.layer && j.pane = p.pane with
    | some j => if j.staged.isSome then 2 else 1
    | none => 0
  [p.layer, p.pane, p.die, p.rule, p.u, b2n p.lroot.isSome + 2 * b2n p.rroot.isSome, out 0, out 1, eps p.lroot, eps p.rroot, job]

/-! ## Memory and links (13, 14) -/

/-- SLOW_CHANNEL_TABLE: bytes used follow the 4 KiB steps over a die's trained channels (R344). -/
def State.slowRow (s : State) (ch : Nat) : List Nat :=
  match s.clk.channels.find? fun c => c.1 = ch with
  | none => [0, 0, 0, 0, 0]
  | some (_, cap, ranks, ok) =>
    let mine := (s.clk.channels.filter fun c => c.1 / 6 = ch / 6 && c.2.2.2).map (·.1)
    let used := ((s.place.map fun p => (p.homes.filter fun h => !h.host && h.store = stSlow (ch / 6)).map fun h =>
      h.offset + h.stride * (((s.tensor h.tensor).map Tensor.tiles).getD 0)).getD []).foldl max 0
    let n := mine.length
    let at_ := (mine.idxOf? ch).getD 0
    [1, cap, ranks, b2n ok, if ok then 4096 * ((ceilDiv used 4096 + n - 1 - at_) / max n 1) else 0]

def LinkState.code : LinkState → Nat
  | .down => 0 | .training => 1 | .identify => 2 | .active => 3 | .quiet => 4

def State.portRow (s : State) (p : Nat) : List Nat :=
  let l := s.port p
  [l.st.code, (s.link.logical.idxOf? (some p)).getD 255, (l.peer.map (·.toNat)).getD 0, l.version, l.fecCorrected, l.fecBad, l.crcErr, l.replays,
   l.retrains, l.drops]

/-! ## Measurement (17) -/

def ChanResult.row (r : ChanResult) : List Nat := [r.code.toNat, r.value.toNat, b2n r.ovr, b2n r.unr, b2n r.stale, r.group, r.time.toNat]

/-! ## Faults, firmware, sessions (19, 21, 16) -/

/-- Committed steps between two audits of a block (R469). -/
def State.auditSpacing (s : State) (die block : Nat) : Nat :=
  let iv := s.num PD.AUDIT_INTERVAL
  if s.faults.suspects.any fun u => u.die = die && u.block = block then max 1 (iv / max 1 (s.num PD.AUDIT_SUSPECT_FACTOR)) else iv

def State.auditRow (s : State) (k : Nat) : List Nat :=
  let last := kvGet (fun _ => 0) s.faults.audits k
  [k / 128, k % 128, last, last + s.auditSpacing (k / 128) (k % 128), b2n (s.faults.suspects.any fun u => u.die = k / 128 && u.block = k % 128)]

def State.foremanRow (s : State) (i : Nat) : List Nat :=
  let (n, g, w) := (s.faults.stats[i]?).getD (0, 0, 0)
  [n, g, w]

def pathCode : Path → Nat
  | .mailbox ep => ep.val
  | .sgmii => 2
  | .kenlink _ _ _ => 3

/-- The peer of a transport: the sender's address on Kenlink, 0 elsewhere. -/
def pathPeer : Path → Nat
  | .kenlink s p l => b2n s * 2 ^ 12 + p.toNat * 2 ^ 6 + l.toNat
  | _ => 0

/-- SPALL_RECORD: the record selected and zero bytes, or zero bytes alone (R486). -/
def State.spallShown (s : State) : List Byte :=
  let n := s.num PD.SPALL_SELECT
  padTo 512 (if n = 0 then [] else ((s.faults.ring.find? fun r => r.1 = n).map (·.2)).getD [])

def State.manifestRows (s : State) : List (List Nat) := s.fw.running.map fun r => [r.part, r.version, r.length, ofLe (padTo 48 r.digest)]

/-! ## The value of an entry -/

/-- Entries of the module, configuration, course and clocks. -/
def State.viewA (s : State) (k : Nat) : Option PdVal :=
  if k = PD.SERIAL then some (.num Config.serial.toNat)
  else if k = PD.IDENTITY_KEY then some (.bytes (padTo 97 Config.identityKey))
  else if k = PD.IDENTITY_CERT then some (.bytes (padTo 2048 Config.identityCert))
  else if k = PD.PDX_MAC then some (.bytes (padTo 6 Config.mac))
  else if k = PD.TYPE_TABLE then some (.table typeRows)
  else if k = PD.DEVICE_STATE then some (.num s.mode.code)
  else if k = PD.CFG_STAGED then some (.num (s.dict.staged.length + s.dict.pieces.length))
  else if k = PD.CFG_DIGEST then some s.cfgDigest
  else if k = PD.CLAIM_TABLE then some (.table s.claims)
  else if k = PD.HEALTH_CELLS_RETIRED then some (.num s.faults.retiredCells.length)
  else if k = PD.HEALTH_BLOCKS_RETIRED then some (.num s.faults.retiredBlocks.length)
  else if k = PD.HEALTH_MAP then some (.table s.healthMap)
  else if k = PD.HEALTH_MAP_DIGEST then some s.healthDigest
  else if k = PD.HOST_EP_TABLE then some (.table [s.epRow 0, s.epRow 1])
  else if k = PD.COURSE_NOW then some (.num s.ctime.toNat)
  else if k = PD.COURSE_STATE then some (.num s.course.st.code)
  else if k = PD.COURSE_PERIOD_MEAS then some (.num (fp64.encode (FV.ratio s.course.period 65536)))
  else if k = PD.EVENT_QUEUE then some (.table s.eventRows)
  else if k = PD.EVENT_QUEUE_FREE then some (.num (1024 - s.events.length))
  else if k = PD.CLK_DOMAIN_TABLE then some (.table s.clockRows)
  else if k = PD.CLK_FLAGS then some (.num s.clkFlags)
  else if k = PD.START_TABLE then some (.table s.clk.startTable)
  else none

/-- Entries of the plan, the streams, the placement and the arrays. -/
def State.viewB (s : State) (k : Nat) : Option PdVal :=
  let n := s.num PD.STREAM_SELECT
  let t := s.stream n
  let defs := (s.plan.map (·.streams)).getD []
  if k = PD.PLAN_DIGEST then some (.bytes (padTo 48 ((s.plan.map (·.digest)).getD [])))
  else if k = PD.STREAM_COUNT then some (.num defs.length)
  else if k = PD.STREAM_TABLE then some (.table (defs.zipIdx.map fun d => s.streamRow d.2 d.1))
  else if k = PD.STREAM_STATE then some (.num t.st.code)
  else if k = PD.STREAM_HEAD then some (.num t.head.toNat)
  else if k = PD.STREAM_TAIL then some (.num t.tail.toNat)
  else if k = PD.STREAM_ERROR then some (.num t.error.toNat)
  else if k = PD.STREAM_ERR_INDEX then some (.num t.errIndex.toNat)
  else if k = PD.STREAM_TILES_DONE then some (.num t.tilesDone)
  else if k = PD.STREAM_BLOCKED_ON then some (.num t.blockedOn.toNat)
  else if k = PD.STREAM_OPEN_GROUPS then some (.num t.openMask)
  else if placeKeys.contains k then some (s.placeView k)
  else if k = PD.PLACE_DIGEST then some (if s.place.isNone then pdDefault k else digestOf (placeKeys.map fun k => (k, s.placeView k)))
  else if k = PD.PLACE_ROWMODE then some (.table (s.arrays.rowModes.map RowMode.row))
  else if k = PD.SPARE_MAP then some (.table ((List.range 16384).map s.spareRow))
  else if k = PD.SPARE_FREE then some (.table ((List.range 16384).map fun g => [(s.cell g).freeSpares.length]))
  else if k = PD.SPARE_FREE_MIN then some (.num s.spareMin)
  else if k = PD.CAL_STATE then some (.num s.calState)
  else if k = PD.CAL_DIE_TABLE then some (.table ((List.range 8).map s.calDieRow))
  else if k = PD.CAL_DIGEST then some (.bytes s.calDigest)
  else if k = PD.CAL_SET_TABLE then some (.table ((List.range 40).map s.calSetRow))
  else if k = PD.CAL_SET_TEMPS then some (.table [[35], [50], [65], [80], [95]])
  else none

/-- Entries of the numerics, the step, the exchange and the update. -/
def State.viewC (s : State) (k : Nat) : Option PdVal :=
  let layers := (s.plan.map (·.layers)).getD []
  if k = PD.NUM_LAYER_TABLE then some (.table (layers.zipIdx.map fun l => s.numRow l.2 l.1))
  else if k = PD.WIDEN_LOG then some (.table s.widenLog)
  else if k = PD.PLUMB_LOG then some (.table s.plumbLog)
  else if k = PD.GAUGE_TABLE then some (.table ((List.range layers.length).map s.gaugeRow))
  else if k = PD.COLD_LAYERS then some (.num (((List.range layers.length).filter fun i => (s.num? i).cold).length))
  else if k = PD.JOINT_TABLE then some (.table s.jointRows)
  else if k = PD.FROG_TABLE then some (.table ((List.range 8).map s.frogRow))
  else if k = PD.KEEP_TABLE then some (.table (s.segTable.map s.keepRow))
  else if k = PD.STEP_PHASE_TABLE then some (.table s.step.phaseTable)
  else if k = PD.STEP_VOID_LOG then some (.table s.step.voidLog)
  else if k = PD.EXCH_PANES then some (.table s.paneRows)
  else if k = PD.BOND_CONTESTED then some (.table (s.exch.contested.map Contested.row))
  else if k = PD.UPD_PANE_TABLE then some (.table (s.upd.panes.map s.updRow))
  else none

/-- Entries of the memories, the links and measurement. -/
def State.viewD (s : State) (k : Nat) : Option PdVal :=
  let pass := fun (st : Nat) => match s.memUnit.scrubPass.find? fun x => x.1 = st with
    | some (_, n, t) => [n, t.toNat]
    | none => [0, 0]
  let count := fun (st : Nat) => match s.memUnit.storeCount.find? fun x => x.1 = st with
    | some (_, c, u) => [c, u]
    | none => [0, 0]
  if k = PD.PORT_TABLE then some (.table ((List.range 12).map s.portRow))
  else if k = PD.LOGICAL_MAP then some (.table (s.link.logical.map fun l => [l.getD 255]))
  else if k = PD.DISCOVERY_FINDINGS then some (.table (s.link.findings.map fun f => [f.code, f.logical, f.physical, f.expected, f.seen]))
  else if k = PD.SLOW_CHANNEL_TABLE then some (.table ((List.range 12).map s.slowRow))
  else if k = PD.SCRUB_PASS_TABLE then some (.table ((List.range 30).map pass))
  else if k = PD.GUARD_STORE_TABLE then some (.table ((List.range 30).map count))
  else if k = PD.WEAK_TABLE then some (.table (s.memUnit.weak.map fun w => [w.1, storeDie w.1, w.2.1, w.2.2]))
  else if k = PD.ADC_INT_CORR then some (.table ((List.range 96).map fun c => [(Config.adcOfs c).toNat, (Config.adcGain c).toNat]))
  else if k = PD.ADC_RESULTS then some (.table ((List.range 128).map fun c => (s.chan c).row))
  else if k = PD.ADC_CAPTURE then some (.table s.meas.capture)
  else if k = PD.ADC_SLICE_TABLE then some (.table ((List.range 8).map fun i =>
    let x := kvGet (fun _ => ({} : Slice)) s.meas.slices i
    [x.slice, x.time.toNat, x.rotations]))
  else if k = PD.DIE_T16 then some (.table ((List.range 28).map fun d => [unsigned 16 (s.dieT16 d)]))
  else if k = PD.TACH_RESULTS then some (.table ((List.range 8).map fun i =>
    [fp32.encode (FV.ofNat (s.tachFrequency i)).r32, fp32.encode (s.tachRate i), b2n (s.tach i).stall]))
  else if k = PD.PMB_RESULTS then some (.table ((List.range (s.rows PD.PMB_DEVICE_TABLE).length).map fun i =>
    let r := s.pmb i
    [r.vout.toNat, r.iout.toNat, r.temp.toNat, r.status.toNat, b2n r.absent]))
  else none

/-- Entries of faults, spalls, freeze, firmware and sessions. -/
def State.viewE (s : State) (k : Nat) : Option PdVal :=
  if k = PD.SUSPECT_TABLE then some (.table (s.faults.suspects.map fun u => [u.die, u.block, u.cell, u.confirms, u.left, u.lastStep]))
  else if k = PD.AUDIT_TABLE then some (.table ((List.range 2048).map s.auditRow))
  else if k = PD.FOREMAN_TABLE then some (.table ((List.range 6).map s.foremanRow))
  else if k = PD.FOREMAN_QUEUE then some (.table (s.faults.queue.map fun r => [activityNum r.activity, r.resource, r.time.toNat]))
  else if k = PD.SPALL_OLDEST then some (.num (((s.faults.ring.filter fun r => r.1 ≠ 0).head?.map (·.1)).getD (s.num PD.SPALL_NEWEST + 1)))
  else if k = PD.SPALL_RECORD then some (.bytes s.spallShown)
  else if k = PD.FREEZE_LAST then some (.table s.freeze.last)
  else if k = PD.FW_MANIFEST_DIGEST then some (.bytes (padTo 48 s.fw.runningDigest))
  else if k = PD.FW_MANIFEST then some (.table s.manifestRows)
  else if k = PD.OWNER_KEY_DIGEST then
    some (.bytes (if s.dict.ownerKey.isEmpty then zeros 48 else padTo 48 (Config.sha384 s.dict.ownerKey)))
  else if k = PD.PDX_SESSIONS then some (.table (s.dict.sessions.map fun x => [x.id.toNat, pathCode x.path, pathPeer x.path, (s.course.now - x.lastAt) / 10 ^ 9, x.lastSeq.toNat]))
  else none

/-- The value of an entry as a READ gives it (R405). -/
def State.readValue (s : State) (k : Nat) : PdVal :=
  ((((s.viewA k).or (s.viewB k)).or (s.viewC k)).or ((s.viewD k).or (s.viewE k))).getD (s.inForce k)

end Sys2Proof.Machine
end

