-- ==== Sys2Proof/Machine/Commit.lean ====
section
/-! DEFINITION. Machine/Commit.lean: staged values, validation and application of a configuration, and requests of a module state
(R404-R415). -/
namespace Sys2Proof.Machine

/-! ## The staged set (R404, R405) -/

/-- A staged value takes its place in the set, in index and subindex order. -/
def stagedSet : List (Nat × PdVal) → Nat → PdVal → List (Nat × PdVal)
  | [], k, v => [(k, v)]
  | p :: l, k, v => if p.1 = k then (k, v) :: l else if k < p.1 then (k, v) :: p :: l else p :: stagedSet l k v

def stagedGet (l : List (Nat × PdVal)) (k : Nat) : Option PdVal := (l.find? fun p => p.1 = k).map (·.2)

/-- A whole value enters the staged set; pieces of the entry that were staged before are dropped. -/
def State.stage (s : State) (k : Nat) (v : PdVal) : State :=
  { s with dict := { s.dict with staged := stagedSet s.dict.staged k v, pieces := s.dict.pieces.filter fun p => p.1 ≠ k } }

/-- The configuration that a commit would produce: the values in force with the staged set applied (R406). Until a WIRING_PLAN is in force or
staged, it is the torus plan under the resulting PALLET_NUMBER (R375). -/
def State.resulting (s : State) : Cfg := fun k =>
  match stagedGet s.dict.staged k with
  | some v => v
  | none =>
    if k = PD.WIRING_PLAN ∧ (s.rows PD.WIRING_PLAN).isEmpty then
      .table (torusPlan { s.self with pallet := ((stagedGet s.dict.staged PD.PALLET_NUMBER).getD (s.pdGet PD.PALLET_NUMBER)).toNat })
    else s.pdGet k

/-! ## Ranges (R406) -/

/-- Every F32 or F64 column of a row is finite (R401). -/
def colsFinite : List (String × Nat × Nat) → List Nat → Bool
  | [], _ => true
  | (_, ty, _) :: cs, vs => (if ty = 8 then f32Finite (vs.headD 0) else if ty = 9 then f64Finite (vs.headD 0) else true) && colsFinite cs vs.tail

/-- Balls that a feature may use (R412). -/
def featureBalls (f : Nat) : List Nat :=
  if f < 4 then [f] else if f < 8 then [f - 4, f] else if f = 8 then [4, 6] else [5, 7]

/-- Converter of a channel (R426). -/
def chanConv (c : Nat) : Nat := if c < 96 then c / 12 else (c - 96) / 4

/-- One peer stands on no more ports than its role allows (R375). -/
def peersOk (rows : List (List Nat)) : Bool :=
  let ports := fun (r : List Nat) => (List.range 12).filter fun p => rows[p]? = some r
  rows.all fun r => r.headD 0 = 0 || (match ports r with
    | [_] => true
    | [a, b] => b < 8 && a / 2 = b / 2
    | _ => false)

/-- Size of a read-out region of a kind on a die; none where the die has none (R494). -/
def regionSize (die kind : Nat) : Option Nat :=
  let mib := 2 ^ 20
  if 19 < die then none
  else if kind = 1 then some (256 * 1024)
  else if kind = 2 then (if die / 8 = 1 then some (192 * mib) else none)
  else if kind = 3 then (if die / 8 = 1 then some (8 * mib) else none)
  else if kind = 4 then (if die < 8 then some (40 * mib) else if die < 16 then some (20 * mib) else none)
  else if kind = 5 then (if die = 16 ∨ die = 17 then some (48 * mib) else none)
  else if kind = 6 then (if die = 18 ∨ die = 19 then some (64 * mib) else none)
  else none

/-- The limits that each table's own rule sets on its rows. -/
def rowsOk (k : Nat) (rows : List (List Nat)) : Bool :=
  let n := rows.length
  let c := fun (r : List Nat) (i : Nat) => r.getD i 0
  if k = PD.BALL_SELECT then n = 10 && (List.range 10).all fun f => let b := c (rows.getD f []) 0; b = 255 || (featureBalls f).contains b
  else if k = PD.STAGING_FIXED then n = 8 && rows.all fun r => c r 0 + c r 1 ≤ 192 && c r 2 + c r 3 ≤ 192
  else if k = PD.EXCH_MEMBERS then rows.all fun r => c r 0 ≤ 63 && c r 1 ≤ 31 && c r 2 ≤ 1
  else if k = PD.THIN_TABLE then rows.all fun r => 1 ≤ c r 1 && c r 1 ≤ 64 && 1 ≤ c r 2 && c r 2 ≤ 256
  else if k = PD.PRIV_CHANNELS then n ≤ 262144 && (rows.map fun r => c r 0).eraseDups.all fun l => (rows.filter fun r => c r 0 = l).length ≤ 4096
  else if k = PD.STAGE_TABLE then rows.all fun r => c r 1 ≤ 1 && c r 2 ≤ 63 && c r 3 ≤ 31
  else if k = PD.UPD_LAYER_TABLE then rows.all fun r => c r 0 ≤ 3
  else if k = PD.WIRING_PLAN then n = 12 && peersOk rows && rows.all fun r => c r 0 = 0 || (c r 1 ≤ 1 && c r 2 ≤ 63 && c r 3 ≤ 31)
  else if k = PD.ROUTE_TABLE then rows.all fun r => c r 0 ≤ 63 && c r 1 ≤ 31 && c r 2 ≤ 11
  else if k = PD.ADC_EXT_CORR then n = 32
  else if k = PD.ADC_GROUPS then n = 16 && rows.all fun r => c r 0 ≤ 7 && c r 1 ≤ 15 && 1 ≤ c r 6 && c r 6 ≤ 16
    && (List.range 128).all fun i => let ch := c r (7 + i); ch = 255 || (ch < 128 && chanConv ch = i % 8)
  else if k = PD.TIMER_TABLE then n = 16 && rows.all fun r => c r 0 = 0 || (1000 ≤ c r 0 && c r 0 ≤ 1000000000 && c r 0 % 10 = 0)
  else if k = PD.PWM_TABLE then n = 8 && rows.all fun r => c r 1 ≤ 4000 && c r 2 ≤ 1
  else if k = PD.TACH_TABLE then n = 8 && rows.all fun r => 100 ≤ c r 2 && c r 2 ≤ 10000
  else if k = PD.PMB_DEVICE_TABLE then n ≤ 32 && rows.all fun r => c r 0 < 128 && 1 ≤ c r 2 && c r 2 ≤ 1000
  else if k = PD.FREEZE_MAP then n ≤ 64 && rows.all fun r => (match regionSize (c r 0) (c r 1) with
    | some size => c r 2 % 32 = 0 && c r 3 % 32 = 0 && 32 ≤ c r 3 && c r 2 + c r 3 ≤ size
    | none => false)
  else true

/-- A value lies in its entry's range; HOST_REGIONS is judged row by row (R394). -/
def Meta.inRange (m : Meta) : PdVal → Bool
  | .num n => m.rng.admits m.ty n
  | .bytes _ => true
  | .table rows => rows.all (colsFinite m.cols) && rowsOk m.key rows

/-! ## Faults (R406, R408, R411-R415) -/

/-- A row of CFG_FAULTS: code, entry, other entry, resource. -/
def cfgFault (code entry other resource : Nat) : List Nat := [code, entry, other, resource]

/-- A row of HOST_REGIONS keeps the limits of R394; `seen` are the region numbers of the rows before it. -/
def hostRowOk (seen : List Nat) (r : List Nat) : Bool :=
  let c := fun (i : Nat) => r.getD i 0
  1 ≤ c 0 && c 0 ≤ 1023 && !seen.contains (c 0) && c 1 ≤ 1 && c 2 % 4096 = 0 && c 3 % 4096 = 0 && 4096 ≤ c 3 && c 3 ≤ 2 ^ 48 && c 2 + c 3 ≤ 2 ^ 64

/-- One RANGE fault for each bad row. -/
def hostRowFaults : List Nat → List (List Nat) → List (List Nat)
  | _, [] => []
  | seen, r :: rs => (if hostRowOk seen r then [] else [cfgFault 1 PD.HOST_REGIONS 0 0]) ++ hostRowFaults (r.headD 0 :: seen) rs

/-- Check 1 of R406: the range of every staged value. -/
def State.rangeFaults (s : State) : List (List Nat) :=
  s.dict.staged.flatMap fun p => match metaOf p.1 with
    | some m => if p.1 = PD.HOST_REGIONS then hostRowFaults [] p.2.toRows else if m.inRange p.2 then [] else [cfgFault 1 p.1 0 0]
    | none => []

def crossIf (bad : Bool) (entry other : Nat) : List (List Nat) := if bad then [cfgFault 2 entry other 0] else []

/-- A region is gone, has shrunk or has changed its endpoint (R394). -/
def regionLost (old new : List (List Nat)) (n : Nat) : Bool :=
  match old.find? (fun r => r.headD 0 = n), new.find? fun r => r.headD 0 = n with
  | none, _ => false
  | some _, none => true
  | some o, some w => w.getD 3 0 < o.getD 3 0 || w.getD 1 0 ≠ o.getD 1 0

/-- Host regions that the loaded plan names: the checkpoint region and the region of each tensor homed there. -/
def State.planRegions (s : State) : List Nat :=
  match s.plan with
  | some p => ((p.ckptRegion :: p.tensors.map (·.region)).filter (· ≠ 0)).eraseDups
  | none => []

/-- Channels that a group samples in its rounds. -/
def Cfg.groupChans (c : Cfg) (g : Nat) : List Nat :=
  (List.range (8 * c.cell PD.ADC_GROUPS g 6)).map fun i => c.cell PD.ADC_GROUPS g (7 + i)

/-- A channel that no enabled group samples is disabled. -/
def Cfg.sampled (c : Cfg) (ch : Nat) : Bool := (List.range 16).any fun g => c.cell PD.ADC_GROUPS g 0 ≠ 0 && (c.groupChans g).contains ch

/-- A channel entry names a disabled or out-of-range channel (R446). -/
def Cfg.badChan (c : Cfg) (k : Nat) : Bool :=
  let ch := c.num k
  ch ≠ 255 && (ch < 96 || 127 < ch || !c.sampled ch)

/-- The port is a switch port that the wiring plan leads to a module of the pallet (R367, R373). -/
def Cfg.leadsTo (c : Cfg) (side port pallet : Nat) : Bool :=
  (port = 8 || port = 9 || port = 10 || (port = 11 && c.num PD.PORT11_ROLE = 1))
    && c.cell PD.WIRING_PLAN port 0 = 1 && c.cell PD.WIRING_PLAN port 1 = side && c.cell PD.WIRING_PLAN port 2 = pallet

/-- Check 2 of R406: the conditions that other chapters place on a commit. -/
def State.crossFaults (s : State) : List (List Nat) :=
  let c : Cfg := s.resulting
  let f := fun (k : Nat) => fp32.decode (c.num k)
  let routes := c.rows PD.ROUTE_TABLE
  let period := fun (k : Nat) => c.cell PD.TIMER_TABLE (c.num k) 0
  let level := c.groupChans (c.num PD.LEVEL_GROUP)
  let need := railPairs.flatMap (fun p => [p.1, p.2]) ++ tempChans
  let newSig : Bool := stagedGet s.dict.staged PD.FW_OWNER_SIG_REQUIRED = some (.num 1)
  crossIf ((f PD.DENSE_OFF_SHARE).le (f PD.DENSE_ON_SHARE)) PD.DENSE_ON_SHARE PD.DENSE_OFF_SHARE
  ++ crossIf ((f PD.CANCEL_OFF).lt (f PD.CANCEL_ON)) PD.CANCEL_ON PD.CANCEL_OFF
  ++ crossIf (c.num PD.VOTE_PARENT_PORT < 12 && bit (c.num PD.VOTE_CHILD_MASK) (c.num PD.VOTE_PARENT_PORT)) PD.VOTE_PARENT_PORT PD.VOTE_CHILD_MASK
  ++ crossIf (c.num PD.EXCH_SIZE ≤ c.num PD.EXCH_MEMBER) PD.EXCH_SIZE PD.EXCH_MEMBER
  ++ crossIf ((f PD.LEVEL_PEAK_W).lt (f PD.LEVEL_CAP_W)) PD.LEVEL_CAP_W PD.LEVEL_PEAK_W
  ++ crossIf (period PD.LEVEL_TIMER ≠ 1000000) PD.TIMER_TABLE PD.LEVEL_TIMER
  ++ crossIf (period PD.PWM_TIMER ≠ 40000) PD.TIMER_TABLE PD.PWM_TIMER
  ++ crossIf (!need.all level.contains) PD.ADC_GROUPS PD.LEVEL_GROUP
  ++ ((List.range 16).flatMap fun g =>
    crossIf (c.cell PD.ADC_GROUPS g 0 = 7 && g ≠ c.num PD.LEVEL_GROUP) PD.ADC_GROUPS PD.LEVEL_GROUP)
  ++ crossIf (c.badChan PD.COOL_INLET_CHAN) PD.ADC_GROUPS PD.COOL_INLET_CHAN
  ++ crossIf (c.badChan PD.LEAK_CHAN) PD.ADC_GROUPS PD.LEAK_CHAN
  ++ crossIf (c.cell PD.PWM_TABLE (c.num PD.VALVE_PWM) 0 = 0) PD.PWM_TABLE PD.VALVE_PWM
  ++ (routes.flatMap fun r =>
    crossIf (r.getD 1 0 = s.self.slot && !c.leadsTo s.self.side (r.getD 2 0) (r.headD 0)) PD.ROUTE_TABLE PD.WIRING_PLAN)
  ++ (routes.flatMap fun r => crossIf (r.headD 0 = c.num PD.PALLET_NUMBER) PD.ROUTE_TABLE PD.PALLET_NUMBER)
  ++ crossIf (s.planRegions.any (regionLost (s.rows PD.HOST_REGIONS) (c.rows PD.HOST_REGIONS))) PD.HOST_REGIONS PD.PLAN_DIGEST
  ++ crossIf (c.num PD.UPD_IMAGE_REGION ≠ 0 && regionLost (s.rows PD.HOST_REGIONS) (c.rows PD.HOST_REGIONS) (c.num PD.UPD_IMAGE_REGION))
    PD.HOST_REGIONS PD.UPD_IMAGE_REGION
  ++ crossIf (newSig && (s.dict.ownerKey.isEmpty || !s.ownerSignedPackage)) PD.FW_OWNER_SIG_REQUIRED PD.OWNER_KEY

/-- The entry that enables a feature of BALL_SELECT (R412). -/
def featureEntry (f : Nat) : Nat :=
  if f < 4 then PD.PWM_TABLE else if f < 8 then PD.TACH_TABLE else if f = 8 then PD.ADC_GROUPS else PD.BALL_SELECT

/-- The entry by which an owner names its timer (R434). -/
def timerEntry (owner : Nat) : Nat := if owner = 1 then PD.ADC_GROUPS else if owner = 2 then PD.LEVEL_TIMER else PD.PWM_TIMER

/-- Every pair of a list, in order. -/
def pairsOf {α : Type} : List α → List (α × α)
  | [] => []
  | a :: l => l.map (fun b => (a, b)) ++ pairsOf l

/-- CLAIM_CONFLICT between two entries, the lower one first (R411). -/
def conflict (a b resource : Nat) : List Nat := cfgFault 3 (min a b) (max a b) resource

/-- Conflicts among a gradient die's fixed regions and its bed spill pool (R414). -/
def Cfg.stagingFaults (c : Cfg) (d : Nat) : List (List Nat) :=
  let x := c.cell PD.STAGING_FIXED d
  let meets := fun (a n b m : Nat) => n ≠ 0 && m ≠ 0 && a < b + m && b < a + n
  let pool := c.num PD.BED_SPILL_MIB
  let res := 24 + 2 * d
  (if meets (x 0) (x 1) (x 2) (x 3) then [conflict PD.STAGING_FIXED PD.STAGING_FIXED (res + 1)] else [])
  ++ (if meets (x 0) (x 1) (192 - pool) pool then [conflict PD.STAGING_FIXED PD.BED_SPILL_MIB res] else [])
  ++ (if meets (x 2) (x 3) (192 - pool) pool then [conflict PD.STAGING_FIXED PD.BED_SPILL_MIB (res + 1)] else [])

/-- Check 3 of R406: the resource claims. Resources are the rows of CLAIM_TABLE (DESIGN CHOICE, log 6). -/
def State.claimFaults (s : State) : List (List Nat) :=
  let c : Cfg := s.resulting
  let twin : Bool := c.num PD.PORT11_ROLE = 0
  ((List.range 8).flatMap fun b => (pairsOf (c.ballOwners b)).map fun p => conflict (featureEntry p.1) (featureEntry p.2) b)
  ++ (((List.range 9).filter fun f => c.featureOn f && c.cell PD.BALL_SELECT f 0 = 255).map fun f => cfgFault 4 (featureEntry f) 0 255)
  ++ ((List.range 16).flatMap fun t => (pairsOf (c.timerOwners t)).map fun p => conflict (timerEntry p.1) (timerEntry p.2) (8 + t))
  ++ ((List.range 8).flatMap c.stagingFaults)
  ++ (if twin && (c.rows PD.ROUTE_TABLE).any (fun r => r.getD 2 0 = 11) then [conflict PD.ROUTE_TABLE PD.PORT11_ROLE 40] else [])
  ++ (if !twin && c.cell PD.WIRING_PLAN 11 0 = 1 && c.cell PD.WIRING_PLAN 11 1 ≠ s.self.side then [conflict PD.WIRING_PLAN PD.PORT11_ROLE 40] else [])

/-- A CFG_APPLY_STEP below the step under way (R407). -/
def State.applyFaults (s : State) : List (List Nat) :=
  let a := s.num PD.CFG_APPLY_STEP
  if a ≠ 0 ∧ a < s.num PD.STEP_NUMBER then [cfgFault 5 PD.CFG_APPLY_STEP 0 0] else []

/-- Every fault of the staged set, in index and subindex order; the 1,024th row reads MORE when there are more (R408). -/
def State.commitFaults (s : State) : List (List Nat) :=
  let all := s.rangeFaults ++ s.crossFaults ++ s.claimFaults ++ s.applyFaults ++ s.dict.pieces.map fun p => cfgFault 6 p.1 0 0
  let rows := sortBy (fun (a b : List Nat) => decide (a.getD 1 0 ≤ b.getD 1 0)) all
  if rows.length ≤ 1024 then rows else rows.take 1023 ++ [cfgFault 0xFF 0 0 0]

/-! ## The end of validation (R407, R408) -/

/-- An invalid configuration in HELD: COURSE_OUT, the links and the claimed balls stop until a valid commit (R408). -/
def State.silence (s : State) : State :=
  let c : Cfg := s.resulting
  { s with dict := { s.dict with silenced := true, heldBalls := (List.range 8).filter fun b => !(c.ballOwners b).isEmpty } }

/-- A valid commit lets the outputs go on; flits that waited leave. -/
def State.unsilence (s : State) : State :=
  if s.dict.silenced then
    let s : State := { s with dict := { s.dict with silenced := false, heldBalls := [] } }
    s.each (List.range 12) State.sendWaiting
  else { s with dict := { s.dict with heldBalls := [] } }

def State.applyValues (s : State) (vs : List (Nat × PdVal)) : State := s.each vs fun s v => s.pdSet v.1 v.2

/-- Entries of Kenlink whose change at a commit starts a discovery run (R374). -/
def discoveryKeys : List Nat :=
  [PD.LINK_POLICY, PD.SWAP_TOLERATE, PD.MANIFEST_MATCH, PD.PALLET_NUMBER, PD.DISCOVERY_WINDOW_MS, PD.WIRING_PLAN, PD.ROUTE_TABLE, PD.PORT11_ROLE]

/-- Events of sampling groups whose settings a commit has changed go; COURSE groups without an event queue one (R431). -/
def State.requeueGroups (s : State) (before : State) : State :=
  let changed := (List.range 16).filter fun g => (s.rows PD.ADC_GROUPS)[g]? ≠ (before.rows PD.ADC_GROUPS)[g]?
  let s : State := { s with events := s.events.filter fun e => !(e.kind = .measure && changed.contains e.owner) }
  s.queueMeasures

/-- A commit that changes an entry of Kenlink starts a discovery run while the lanes work (R374). In WAITING_PLAN a new wiring plan decides the
run again without a new window (R380). -/
def State.rediscover (s before : State) : State :=
  let changed := discoveryKeys.filter fun k => s.inForce k ≠ before.inForce k
  if !s.lanesUp || changed.isEmpty then s
  else if s.num PD.DISCOVERY_STATE = 4 ∧ changed = [PD.WIRING_PLAN] then s.decideRun
  else s.discover

/-- A commit without faults takes effect: RWH values at once, RWS values at once or with a later COMMIT (R407). -/
def State.takeConfig (s : State) : State :=
  let cls := fun (n : Nat) (p : Nat × PdVal) => (metaOf p.1).any fun m => decide (m.cls = n)
  let now := s.dict.staged.filter (cls 2)
  let later := s.dict.staged.filter (cls 3)
  let step := s.num PD.CFG_APPLY_STEP
  let waits : Bool := !later.isEmpty && !((s.mode = .held || s.mode = .armed) && step = 0)
  let s := s.applyValues now
  let s := if waits then s else s.applyValues later
  let s : State := { s with dict := { s.dict with staged := [], pieces := [], ownerSig := s.flag PD.FW_OWNER_SIG_REQUIRED,
                                                  waiting := if waits then some (step, later) else s.dict.waiting } }
  let s := (s.setRows PD.CFG_FAULTS []).setNum PD.CFG_GENERATION ((s.num PD.CFG_GENERATION + 1) % 2 ^ 32)
  s.result PD.CFG_STATUS (if waits then 4 else 2)

/-- The course unit, the master, the sampling groups, the outputs and discovery follow a configuration that took effect (R47, R56, R374, R408,
R431); `before` is the state before it. -/
def State.followConfig (s before : State) : State :=
  let s : State := { s with course := { s.course with configured := true } }
  let s := if s.course.st = .unlocked then s.setCourse .acquiring else s
  let s := ((s.commitMaster (before.flag PD.COURSE_MASTER_EN)).requeueGroups before).unsilence
  ((s.rediscover before).restartTimers before).hostDuties

/-- A valid commit (R407). -/
def State.applyConfig (s : State) : State := s.takeConfig.followConfig s

/-- CFG_VALIDATION_DONE (R407, R408). -/
def execCfgValidationDone (s : State) : Res :=
  if s.num PD.CFG_STATUS ≠ 1 ∨ !s.mode.hubRuns ∨ s.mode = .boot ∨ s.mode = .loader then .next s
  else
    let fs := s.commitFaults
    if fs.isEmpty then .next s.applyConfig
    else
      let s := if s.mode = .held then s.silence else s
      .next ((s.setRows PD.CFG_FAULTS fs).result PD.CFG_STATUS 3)

/-! ## Commands of CFG_COMMIT (R406, R409) -/

/-- The values that CFG_COMMIT 3 stages: the default of every RWS entry, and in HELD of every RWH entry (R375, R409). -/
def State.stageDefaults (s : State) : State :=
  let ms := metas.filter fun m => m.cls = 3 || (m.cls = 2 && s.mode = .held)
  s.each ms fun s m => s.stage m.key (if m.key = PD.WIRING_PLAN then .table (torusPlan s.self) else m.dflt)

/-- The staged set goes, and a waiting set with it (R409). -/
def State.discardConfig (s : State) : State :=
  let s : State := { s with dict := { s.dict with staged := [], pieces := [], waiting := none } }
  if s.num PD.CFG_STATUS = 4 then s.result PD.CFG_STATUS 2 else s

/-- A write to CFG_COMMIT and its outcome: 0 OK, 1 BAD_ARGUMENT, 2 WRONG_STATE, 3 BUSY (R409). In BOOT and CALIBRATE no command acts (R402). -/
def State.cfgCommand (s : State) (v : Nat) : State :=
  let st := s.num PD.CFG_STATUS
  if s.mode = .boot ∨ s.mode = .calibrate then s.setNum PD.CFG_CMD_RESULT 2
  else if v = 0 ∨ 3 < v then s.setNum PD.CFG_CMD_RESULT 1
  else if !s.mode.working then s.setNum PD.CFG_CMD_RESULT 2
  else if st = 1 ∨ (v = 1 ∧ st = 4) then s.setNum PD.CFG_CMD_RESULT 3
  else
    let s := s.setNum PD.CFG_CMD_RESULT 0
    if v = 1 then s.setNum PD.CFG_STATUS 1 else if v = 2 then s.discardConfig else s.stageDefaults

/-- The dictionary takes commands: the hub's firmware runs, outside LOADER, where the entry does not exist (R402, R514). -/
def State.dictOpen (s : State) : Bool := s.mode.hubRuns && s.mode ≠ .loader && !(s.mode = .boot && !s.clk.firmware)

/-- CFG_COMMIT (R406). -/
def execCfgCommit (s : State) : Res := if s.dictOpen then .next (s.cfgCommand 1) else .next s

/-- CFG_DISCARD (R409). -/
def execCfgDiscard (s : State) : Res := if s.dictOpen then .next (s.cfgCommand 2) else .next s

/-- CFG_STAGE_DEFAULTS (R409). -/
def execCfgStageDefaults (s : State) : Res := if s.dictOpen then .next (s.cfgCommand 3) else .next s

/-! ## Requests of a state (R410, R455) -/

/-- Everything an ARM request asks for (R410). -/
def State.armable (s : State) : Bool :=
  s.num PD.CFG_STATUS = 2 && s.dict.staged.isEmpty && s.dict.pieces.isEmpty && s.planIn && s.course.st = .locked && s.cal.idle = .free
    && s.num PD.DISCOVERY_STATE = 2

/-- HELD to ARMED: the first step takes its number from STEP_FIRST (R274); windows of device level close (R478). -/
def State.arm (s : State) : State :=
  let s := (s.setNum PD.STEP_NUMBER (s.num PD.STEP_FIRST)).setNum PD.STEP_ATTEMPT 0
  let s : State := { s with step := { s.step with firstAfterArm := true } }
  (s.closeWindows fun w => w.level = 3).enter .armed

/-- ARMED or RUN to HELD; RUN with a step open to DRAIN (R455). -/
def State.drainOrHold (s : State) : State :=
  if s.mode = .run ∧ s.step.opened then s.enter .drain
  else if s.mode = .run ∨ s.mode = .armed then s.leaveFor .held
  else s

/-- A write to STATE_REQ and its outcome: 0 OK, 1 BAD_ARGUMENT, 2 WRONG_STATE, 3 NOT_READY (R410). -/
def State.stateReq (s : State) (v : Nat) : State :=
  if s.mode = .boot ∨ s.mode = .calibrate then s.setNum PD.STATE_REQ_RESULT 2
  else if v ≠ 1 ∧ v ≠ 2 then s.setNum PD.STATE_REQ_RESULT 1
  else if !s.mode.working then s.setNum PD.STATE_REQ_RESULT 2
  else if v = 2 then s.drainOrHold.setNum PD.STATE_REQ_RESULT 0
  else if s.mode ≠ .held then s.setNum PD.STATE_REQ_RESULT 2
  else if s.armable then s.arm.setNum PD.STATE_REQ_RESULT 0
  else s.setNum PD.STATE_REQ_RESULT 3

/-- STATE_REQ_ARM (R410). -/
def execStateReqArm (s : State) : Res := if s.dictOpen then .next (s.stateReq 1) else .next s

/-- STATE_REQ_HOLD (R410). -/
def execStateReqHold (s : State) : Res := if s.dictOpen then .next (s.stateReq 2) else .next s

end Sys2Proof.Machine
end

