-- ==== Sys2Proof/Machine/Freeze.lean ====
section
/-! DEFINITION. Machine/Freeze.lean: requests for a freeze, entry to FROZEN, release and resume (R489-R493, R498-R500). -/
namespace Sys2Proof.Machine

/-- States in which a freeze takes effect (R489). -/
def Mode.freezes : Mode → Bool
  | .calibrate | .held | .armed | .run | .drain | .fault => true
  | _ => false

/-- Step 1 of R491: FROZEN, published time stops and the course unit is LOST; the actions of R50 wait for the resume (R499). Nothing is
drained, and no interrupt leaves (R396). -/
def State.freezeNow (s : State) (trigger : Nat) : State :=
  let f : Freeze := { from_ := s.mode, trigger := trigger, latch := s.ctime, courseBefore := s.course.st.code, last := s.freeze.last }
  let s := (s.enter .frozen).bump PD.FREEZE_COUNT
  let s := s.bump PD.COURSE_LOST_ENTRIES
  { s with freeze := f
           course := { s.course with st := .lost, lastUsed := none, run := [], series := [], oow := 0, segs := [] } }

/-- A freeze request (R489): it takes effect, merges into the freeze in progress, or is ignored and counted. -/
def State.freezeRequest (s : State) (trigger : Nat) : State :=
  if s.mode.freezes then s.freezeNow trigger
  else match s.mode with
    | .frozen | .off | .reset => s
    | _ => s.bump PD.FREEZE_IGNORED

/-- Ports train afresh at the resume; one that was up has RETRAIN_LIMIT_MS to meet its peer again (R383, R499). -/
def State.thawPorts (s : State) : State :=
  s.each (List.range 12) fun s p =>
    let l := s.port p
    s.setPort p { l with st := .training, peer := none, retraining := l.st.live || l.retraining }

/-- Release (R499, R500): the state the module froze in, the row of FREEZE_LAST, then the actions of R50, ACQUIRING, and ports that train.
A GATHER record still awaited is judged by the next GATHER_DEADLINE. -/
def State.thaw (s : State) (ns : Nat) : State :=
  let f := s.freeze
  let gather : Bool := s.step.due.contains .gather || s.events.any fun e => e.kind = .gather
  let s := s.enter f.from_
  let s : State := { s with freeze := { s.freeze with lastSent := false, last := [[f.trigger, f.latch.toNat, f.frames, f.uncorr, ns]] } }
  let s := (s.courseActions f.courseBefore false).courseRestart
  let s : State := if gather then { s with step := { s.step with due := s.step.due ++ [.gather] } } else s
  s.thawPorts

/-- Time spent FROZEN in ns: the read-out's, and what a release by the pin adds is free (DESIGN CHOICE, log 7). -/
def State.frozenNs (s : State) (pin : Bool) : Nat × State :=
  let n := 10 * s.freeze.cycles
  if pin then
    let (i, s) := s.fresh
    (n + Config.fnNat 12 [n] i, s)
  else (n, s)

/-- FREEZE_N (R489, R498): low requests a freeze; a rise after the LAST frame releases a PIN freeze, and any freeze while FREEZE_RELEASE is
PIN. -/
def execFreezeN (level : Bool) (s : State) : Res :=
  if level = s.freezeN then .next s
  else
    let s : State := { s with freezeN := level }
    if !level then .next (s.freezeRequest 0)
    else if s.mode = .frozen ∧ s.freeze.lastSent ∧ (s.freeze.trigger = 0 ∨ s.num PD.FREEZE_RELEASE = 1) then
      let (ns, s) := s.frozenNs true
      .next (s.thaw ns)
    else .next s

/-- A write to FREEZE_CMD once its response has gone (R489); in CALIBRATE no command acts (R402), and the refusal is counted. -/
def State.freezeByCommand (s : State) : State := if s.mode = .calibrate then s.bump PD.FREEZE_IGNORED else s.freezeRequest 1

/-- FREEZE_CMD (R489): 1 freezes; other values are ignored. -/
def execFreezeCmd (value : Byte) (s : State) : Res := if value = 1 then .next s.freezeByCommand else .next s

/-- A write to FREEZE_AT (R490). -/
def State.freezeAtCmd (s : State) (t : CTime) : State :=
  if !s.mode.freezes ∨ s.mode = .calibrate then s.setNum PD.FREEZE_RESULT 5
  else
    let (r, s) := s.present ⟨t, .freeze, 0, 0⟩
    s.setNum PD.FREEZE_RESULT r.code

/-- FREEZE_AT (R490). -/
def execFreezeAt (time : CTime) (s : State) : Res := if s.mode.hubRuns then .next (s.freezeAtCmd time) else .next s

/-- COURSE_SCHEDULED_FREEZE (R490): the event fires. -/
def execCourseScheduledFreeze (s : State) : Res :=
  match s.fire .freeze with
  | some (_, s) => .next (s.freezeRequest 2)
  | none => .next s

end Sys2Proof.Machine
end

