-- ==== Sys2Proof/Machine/Host.lean ====
section
/-! DEFINITION. Machine/Host.lean: the endpoints' registers: interrupt status and mask, the MSI-X table, the mailbox, BAR0 writes, resets of an
endpoint, completion merging and host timeouts (R385-R397). -/
namespace Sys2Proof.Machine

/-! ## Interrupt registers (R388, R390) -/

/-- A W1C write to IRQ_STATUS. -/
def State.clearIrq (s : State) (ep : Ep) (v : W16) : State :=
  let e := s.ep ep
  s.setEp ep { e with status := e.status &&& ~~~v }

/-- A write to IRQ_MASK; a cause whose mask bit is cleared while its status bit is set sends its message. -/
def State.maskIrq (s : State) (ep : Ep) (v : W16) : State :=
  let e := s.ep ep
  let freed := (List.range 16).filter fun k => e.mask.getLsbD k && !v.getLsbD k && e.status.getLsbD k && e.msixOn
  (s.setEp ep { e with mask := v }).each freed fun s k => s.sendVector ep k

/-- A dword of the MSI-X table; a vector that is unmasked with its pending bit set sends. -/
def State.msixWrite (s : State) (ep : Ep) (vector dword : Nat) (v : W32) : State :=
  let e := s.ep ep
  let e := { e with msix := kvSet msixDefault e.msix (vector * 4 + dword) v }
  if e.pending.contains vector ∧ !e.vectorMasked vector ∧ e.msixOn then
    (s.setEp ep { e with pending := e.pending.filter fun p => p ≠ vector }).emit (.msix ep vector)
  else s.setEp ep e

/-- IRQ_STATUS_CLEAR (R390): an event that comes after the clear sets its bit again and sends. -/
def execIrqStatusClear (ep : Ep) (value : W16) (s : State) : Res :=
  if s.epOpen ep then .next (s.clearIrq ep value) else .next s

/-- IRQ_MASK_WRITE (R390). -/
def execIrqMaskWrite (ep : Ep) (value : W16) (s : State) : Res :=
  if s.epOpen ep then .next (s.maskIrq ep value) else .next s

/-- MSIX_TABLE_WRITE (R390). -/
def execMsixTableWrite (ep : Ep) (vector : Fin 2048) (dword : Fin 4) (value : W32) (s : State) : Res :=
  if s.epOpen ep then .next (s.msixWrite ep vector.val dword.val value) else .next s

/-! ## The mailbox (R393) -/

/-- A write to MBOX_REQ_LEN: the request starts, in the order of these writes, or is dropped. -/
def State.mailStart (s : State) (ep : Ep) (v : W16) : State :=
  let e := s.ep ep
  let n := v.toNat
  if e.mbox = 1 ∨ n = 0 ∨ 32768 < n then s.bump PD.MBOX_DROPPED
  else
    let s := s.setEp ep { e with reqLen := v, mbox := 1 }
    { s with dict := { s.dict with queue := s.dict.queue ++ [⟨ep, kvGetList (fun _ => 0) e.request 0 n, false⟩] } }

/-- MBOX_REQ_LEN (R393). -/
def execMboxReqLen (ep : Ep) (value : W16) (s : State) : Res :=
  if s.epOpen ep then .next (s.mailStart ep value) else .next s

/-! ## BAR0 (R387, R388, R396) -/

/-- Bits of a control word's low 16 that an access of `size` bytes at byte `lo` of the word touches, with the value it writes there. -/
def ctrlPart (lo size : Nat) (v : W64) : W16 × W16 :=
  let n := v.toNat % 2 ^ (8 * size)
  (BitVec.ofNat 16 ((2 ^ (8 * size) - 1) * 2 ^ (8 * lo)), BitVec.ofNat 16 (n * 2 ^ (8 * lo)))

/-- An accepted write to the control page: W2 to W4 have fields that take one. -/
def State.ctrlWrite (s : State) (ep : Ep) (offset size : Nat) (v : W64) : State :=
  let (touched, w) := ctrlPart (offset % 8) size v
  if touched = 0 then s
  else if offset / 8 = 2 then s.clearIrq ep w
  else if offset / 8 = 3 then s.maskIrq ep w
  else if offset / 8 = 4 then s.mailStart ep w
  else s

/-- An accepted write outside the doorbell page. The pending-bit array, the response buffer, the HEAD mirror and the halt bitmap take none. -/
def State.bar0Store (s : State) (ep : Ep) (offset size : Nat) (v : W64) : State :=
  if offset < 0x1000 then s.ctrlWrite ep offset size v
  else if offset < 0x9000 then
    let o := offset - 0x1000
    let s := s.msixWrite ep (o / 16) (o % 16 / 4) (BitVec.ofNat 32 v.toNat)
    if size = 8 then s.msixWrite ep (o / 16) (o % 16 / 4 + 1) (BitVec.ofNat 32 (v.toNat / 2 ^ 32)) else s
  else if 0x10000 ≤ offset ∧ offset < 0x18000 then
    let e := s.ep ep
    s.setEp ep { e with request := kvSetList (fun _ => 0) e.request (offset - 0x10000) (le size v.toNat) }
  else s

/-- Offsets that the BAR0 map names, besides the doorbell page; the mirror and the bitmap only outside BOOT and LOADER (R387, R396). -/
def bar0Mapped (early : Bool) (o : Nat) : Bool :=
  decide (o < 0x9100) || decide (0x10000 ≤ o ∧ o < 0x20000)
    || (!early && (decide (0x200000 ≤ o ∧ o < 0x300000) || decide (0x300000 ≤ o ∧ o < 0x308000)))

/-- BAR0_WRITE (R387, R388): `size` in bytes. -/
def execBar0Write (ep : Ep) (offset size : Nat) (value : W64) (s : State) : Res :=
  let early : Bool := s.mode = .boot || s.mode = .loader
  if !s.epOpen ep ∨ 2 ^ 24 ≤ offset then .next s
  else if 0x100000 ≤ offset ∧ offset < 0x101000 then .next (s.doorbell ep (offset - 0x100000) size value)
  else if bar0Mapped early offset ∧ (size = 4 ∨ size = 8) ∧ offset % size = 0 then .next (s.bar0Store ep offset size value)
  else .next (s.bump PD.BAR0_DISCARDED)

/-! ## Completions and host transfers (R391, R395) -/

/-- COALESCE_INTERVAL_END (R391): completions merged in the interval leave as one message, which begins the next interval. -/
def execCoalesceIntervalEnd (ep : Ep) (vector : Nat) (s : State) : Res :=
  let e := s.ep ep
  if !e.merging.contains vector ∨ !s.mode.hubRuns then .next s
  else if e.merged.contains vector then
    let e := { e with merged := e.merged.filter fun v => v ≠ vector }
    if e.linkUp ∧ e.msixOn then .next ((s.setEp ep e).sendVector ep vector)
    else .next (s.setEp ep { e with merging := e.merging.filter fun v => v ≠ vector })
  else .next (s.setEp ep { e with merging := e.merging.filter fun v => v ≠ vector })

/-- HOST_DMA_TIMEOUT (R395): the HOD descriptor at the front of its stream has met a host transfer error. -/
def execHostDmaTimeout (stream : Nat) (s : State) : Res :=
  match s.streamDef stream, (s.stream stream).entered.head? with
  | some df, some e =>
    let op := bits e.desc.toNat 0 8
    if !s.mode.running ∨ df.station ≠ stHod then .next s
    else
      let s := s.bump PD.HOST_DMA_ERR
      let s := if !df.hostFed ∧ (op = 3 ∨ op = 4) then s.reason rsFault else s
      .next (s.failFirst stream df 0x21 0)
  | _, _ => .next s

/-! ## Resets of one endpoint (R397) -/

/-- Link, configuration space, MSI-X table, status, mask and mailbox of an endpoint are as at reset; a request under way completes unanswered.
Bus mastering and MSI-X count as enabled again once the host has enumerated the endpoint (PRESUMED, log 12). -/
def State.resetEp (s : State) (ep : Ep) (link : Bool) (perstN : Bool) : State :=
  let e := s.ep ep
  let s := s.setEp ep { linkUp := link, ready := link, perstN := perstN, perstEvents := e.perstEvents, flrEvents := e.flrEvents }
  { s with dict := { s.dict with
      queue := s.dict.queue.map fun q => if q.ep = ep then { q with dead := true } else q
      answers := s.dict.answers.filter fun a => a.1 ≠ ep
      forwards := s.dict.forwards.map fun f => if f.path = .mailbox ep then { f with dead := true } else f } }

/-- States in which an endpoint's link trains once PERSTn_N is high (R396): from the end of the step that brings the endpoints up. -/
def State.linkTrains (s : State) : Bool :=
  match s.mode with
  | .off | .reset | .coast => false
  | .boot => s.clk.bridges
  | _ => true

/-- PERST (R397): the pin goes low, or is released. -/
def execPerst (ep : Ep) (level : Bool) (s : State) : Res :=
  let e := s.ep ep
  if level = e.perstN then .next s
  else if level then .next (s.setEp ep { e with perstN := true, linkUp := s.linkTrains, ready := s.linkTrains })
  else
    let s := s.setEp ep { e with perstEvents := (e.perstEvents + 1) % 2 ^ 64 }
    .next (s.resetEp ep false false)

/-- FUNCTION_LEVEL_RESET (R397): as PERST, the link stays up. -/
def execFunctionLevelReset (ep : Ep) (s : State) : Res :=
  if s.epOpen ep then
    let e := s.ep ep
    .next ((s.setEp ep { e with flrEvents := (e.flrEvents + 1) % 2 ^ 64 }).resetEp ep true e.perstN)
  else .next s

end Sys2Proof.Machine
end

