-- ==== Sys2Proof/Machine/Memory.lean ====
section
/-! DEFINITION. Machine/Memory.lean: the guard code and the address seal, patrol scrubbing, weak rows, the BAR2 window, bridge flits (R18, R19,
R340-R353). -/
namespace Sys2Proof.Machine

/-! ## The guard code (R340, R341) -/

/-- Multiplication by x in GF(2^8) modulo x^8 + x^4 + x^3 + x^2 + 1. -/
def gfDouble (a : Nat) : Nat := if a < 128 then 2 * a else (2 * a) ^^^ 0x11D

/-- Product in GF(2^8): bits of b from the lowest. -/
def gfMulAux : Nat → Nat → Nat → Nat
  | 0, _, _ => 0
  | n + 1, a, b => (if b % 2 = 1 then a else 0) ^^^ gfMulAux n (gfDouble a) (b / 2)

def gfMul (a b : Nat) : Nat := gfMulAux 8 a b

/-- The power α^n. -/
def gfPow : Nat → Nat
  | 0 => 1
  | n + 1 => gfDouble (gfPow n)

/-- Value at x of the polynomial with these coefficients, highest first. -/
def gfEval (l : List Nat) (x : Nat) : Nat := l.foldl (fun v c => gfMul v x ^^^ c) 0

/-- The four check symbols of 32 data symbols: the remainder by g(x), highest first. -/
def guardCheck (data : List Nat) : List Nat :=
  let g := [gfPow 0, gfPow 1, gfPow 2, gfPow 3].foldl (fun (p : List Nat) r => List.zipWith (· ^^^ ·) (p ++ [0]) (0 :: p.map (gfMul r))) [1]
  let step := fun (r : List Nat) (d : Nat) =>
    let f := (r.headD 0) ^^^ d
    List.zipWith (· ^^^ ·) (r.drop 1 ++ [0]) ((g.drop 1).map (gfMul f))
  data.foldl step [0, 0, 0, 0]

/-- Outcome of the decoder on 36 received symbols. -/
inductive Guarded where
  | clean
  | corrected (k value : Nat)
  | bad
  deriving DecidableEq, Repr

/-- The decoder of R341. It depends on the received word through its syndromes alone, so it gives the same on the xor of a word and a codeword. -/
def guardDecode (c : List Nat) : Guarded :=
  let s := fun (j : Nat) => gfEval c (gfPow j)
  let (s0, s1, s2, s3) := (s 0, s 1, s 2, s 3)
  if s0 = 0 ∧ s1 = 0 ∧ s2 = 0 ∧ s3 = 0 then .clean
  else if s0 = 0 then .bad
  else match (List.range 36).find? fun k =>
      let x := gfPow (35 - k)
      s1 = gfMul s0 x && s2 = gfMul s1 x && s3 = gfMul s2 x with
    | some k => .corrected k s0
    | none => .bad

/-- What a decoded word differs by from the stored one, on an error pattern: 32 data symbols, and whether a symbol was corrected; none when the
word is uncorrectable. -/
def guardResidue (e : List Byte) : Option (List Nat × Bool) :=
  let g := (padTo 36 e).map (·.toNat)
  match guardDecode g with
  | .clean => some (g.take 32, false)
  | .corrected k v => some ((g.set k (((g[k]?).getD 0) ^^^ v)).take 32, true)
  | .bad => none

/-! ## The address seal (R345) -/

/-- The four seal symbols of a granule's data at a granule number. -/
def sealOf (data : List Nat) (granule : Nat) : List Nat :=
  let k := crc32c (le 8 granule)
  (List.range 4).map fun j => data.zipIdx.foldl (fun v d => v ^^^ gfMul d.1 (gfPow (((d.2 + 1) * bits k (8 * j) 8) % 255))) 0

/-- The seal symbols that differ when a granule with a data residue and a seal error is read. -/
def sealMiss (residue : List Nat) (e : List Byte) (granule : Nat) : Nat :=
  ((List.zipWith (fun a (b : Byte) => a ^^^ b.toNat) (sealOf residue granule) (padTo 4 e)).filter (· ≠ 0)).length

/-! ## Reading a word (R342, R346) -/

/-- Words corrected and uncorrectable of a store (GUARD_STORE_TABLE). -/
def State.countStore (s : State) (st corrected bad : Nat) : State :=
  let old := ((s.memUnit.storeCount.find? fun c => c.1 = st).map (·.2)).getD (0, 0)
  let rest := s.memUnit.storeCount.filter fun c => c.1 ≠ st
  { s with memUnit := { s.memUnit with storeCount := insertBy (fun (a b : Nat × Nat × Nat) => decide (a.1 ≤ b.1)) (st, old.1 + corrected, old.2 + bad) rest } }

def State.corrections (s : State) (st : Nat) (fixed : Bool) : State :=
  if fixed then (s.bump PD.GUARD_CORRECTED).countStore st 1 0 else s

/-- How a read of a struck word ends: delivered with a residue, and whether a symbol was corrected; or uncorrectable. -/
inductive WordRead where
  | ok (residue : List Nat) (fixed : Bool)
  | lost
  deriving DecidableEq, Repr

/-- The one reissue of a read after the guard code failed (R342), or after the seal differed (R346). -/
def State.reissue (s : State) (st : Nat) (u : Upset) (forSeal : Bool) : WordRead × State :=
  let miss := fun (r : List Nat) => if st = 28 ∨ st = 29 then sealMiss r u.sealAgain (u.addr / 32) else 0
  match guardResidue u.again with
  | none => (.lost, s)
  | some (r, fixed) =>
    if 2 ≤ miss r then (.lost, s)
    else
      let s := s.corrections st fixed
      let s := if forSeal then s else s.bump PD.GUARD_REISSUE_OK
      (.ok r fixed, if miss r = 1 then s.bump PD.SEAL_REPAIRED else s)

/-- A read of a struck word (R341, R342, R346). -/
def State.readStruck (s : State) (st : Nat) (u : Upset) : WordRead × State :=
  match guardResidue u.first with
  | none => s.reissue st u false
  | some (r, fixed) =>
    if (st = 28 ∨ st = 29) ∧ sealMiss r u.sealFirst (u.addr / 32) ≠ 0 then
      let (w, s) := (s.bump PD.SEAL_MISMATCH).reissue st u true
      match w with
      | .lost => (.lost, s.spall { kind := 0x08, level := 2, die := storeDie st, mech := 5, outcome := 1, detail := [detailUint 0 (st % 2), detailUint 1 (u.addr / 32)] })
      | w => (w, s)
    else (.ok r fixed, s.corrections st fixed)

/-- What a word holds, by the codes of spall kind 0x07 (R350, R484): 0 committed, 1 a calibration working copy, 2 anything else. Of a stack
address outside every home it is the Placer's own (DESIGN CHOICE, log 10). -/
def State.contentOf (s : State) (st addr : Nat) : Nat :=
  if s.plan.isNone then 2
  else if 28 ≤ st then 0
  else if st < 16 ∨ 24 ≤ st then 2
  else match s.place.bind fun p => p.homes.find? fun h => !h.host && h.store = st && h.offset ≤ addr
      && addr < h.offset + h.stride * (((s.tensor h.tensor).map Tensor.tiles).getD 0) with
    | some h => match s.tensor h.tensor with
      | some t => if t.cls ≤ 3 ∨ (s.plan.any fun p => p.layers.any fun l => l.weight = t.id) then 0 else 2
      | none => 2
    | none => Config.fnNat 10 [st, addr] 0 % 3

/-- An uncorrectable word met by a demand read or a merge (R26, R342, R350). -/
def State.wordLost (s : State) (st addr : Nat) : State := (s.countStore st 0 1).storeLost st addr (s.contentOf st addr = 0)

/-- Xors a residue into a stored word. -/
def State.xorWord (s : State) (st addr : Nat) (residue : List Nat) : State :=
  if residue.all (· = 0) then s
  else s.write st addr (List.zipWith (fun (b : Byte) r => b ^^^ BitVec.ofNat 8 r) (s.read st addr 32) residue)

/-! ## Patrol (R348-R351) -/

/-- Bytes of a row of a store (DESIGN CHOICE, log 10). -/
def rowBytes (st : Nat) : Nat := 1 + Config.fnNat 9 [st] 0

/-- A row is weak (R351). -/
def State.weaken (s : State) (st row : Nat) : State :=
  if s.memUnit.weak.any fun w => w.1 = st && w.2.1 = row then s
  else { s with memUnit := { s.memUnit with weak := s.memUnit.weak ++ [(st, row, 0)] } }

/-- Stacks and the slow tier have rows that can be weak. -/
def hasRows (st : Nat) : Bool := (16 ≤ st && st < 24) || st = 28 || st = 29

/-- The patrol meets one struck word. -/
def State.patrolWord (s : State) (st : Nat) (overtaken : List Nat) (u : Upset) : State :=
  let row := u.addr / rowBytes st
  match s.readStruck st u with
  | (.ok r true, s) =>
    let s := if overtaken.contains u.addr then s.bump PD.SCRUB_WRITEBACK_DROPPED else (s.bump PD.SCRUB_WRITEBACKS).xorWord st u.addr r
    let k := st * 2 ^ 48 + row
    if !hasRows st then s
    else
      let s := if s.memUnit.corrected.contains k then s.weaken st row else s
      { s with memUnit := { s.memUnit with corrected := s.memUnit.corrected ++ [k + 2 ^ 64] } }
  | (.ok _ false, s) => s
  | (.lost, s) =>
    let s := s.countStore st 0 1
    let s := match s.contentOf st u.addr with
      | 0 => s.storeLost st u.addr true
      | c => (s.bump PD.GUARD_UNCORRECTABLE).spall { kind := 0x07, level := 3, die := storeDie st, mech := 4, outcome := 0,
                                                     detail := [detailUint 0 st, detailUint 1 u.addr, detailUint 2 c] }
    if hasRows st then s.weaken st row else s

/-- PATROL_SCRUB (R348-R351): one pass over a store, under the Foreman's grant. `overtaken`: the words newly written since the patrol read
them. Rows corrected on this pass are the ones that count at the next. -/
def execPatrolScrub (store : Nat) (upsets : List Upset) (overtaken : List Nat) (s : State) : Res :=
  if !s.mode.maintains ∨ 30 ≤ store then .next s
  else match s.grant .scrubbing store with
    | (false, s) => .next s
    | (true, s) =>
      let s := s.each upsets fun s u => s.patrolWord store overtaken u
      let keep := s.memUnit.corrected.filterMap fun k =>
        if 2 ^ 64 ≤ k then some (k - 2 ^ 64) else if k / 2 ^ 48 = store then none else some k
      let n := ((s.memUnit.scrubPass.find? fun p => p.1 = store).map (·.2.1)).getD 0
      let rest := s.memUnit.scrubPass.filter fun p => p.1 ≠ store
      .next { s with memUnit := { s.memUnit with
        corrected := keep.eraseDups
        scrubPass := insertBy (fun (a b : Nat × Nat × CTime) => decide (a.1 ≤ b.1)) (store, n + 1, s.ctime) rest } }

/-! ## The BAR2 window (R343, R352, R353, R396) -/

/-- States in which the window is complete (R396). -/
def Mode.windowOpen : Mode → Bool
  | .calibrate | .held | .armed | .run | .drain | .fault => true
  | _ => false

/-- Bytes of a write that fall into one word: its store and address, and the bytes with their offsets in the window. -/
def wordParts (o n : Nat) : List (Nat × Nat × Nat) :=
  -- consecutive pieces (window offset, bytes) cut at 32-byte boundaries
  let first := o / 32
  let last := (o + n + 31) / 32
  (List.range (last - first)).map fun i =>
    let a := max o ((first + i) * 32)
    let b := min (o + n) ((first + i + 1) * 32)
    (a, b - a, a - o)

/-- One word of a BAR2 write: a partial one is read and merged, and is not made when the old word is uncorrectable (R343). -/
def State.writeWord (s : State) (data : List Byte) (upsets : List Upset) (p : Nat × Nat × Nat) : State :=
  match bar2Map p.1 with
  | none => s
  | some (st, a) =>
    let bs := sub data p.2.2 p.2.1
    let base := a / 32 * 32
    match (if p.2.1 = 32 then none else upsets.find? fun u => u.addr = base) with
    | none => s.write st a bs
    | some u => match s.readStruck st u with
      | (.ok r _, s) => (s.xorWord st base r).write st a bs
      | (.lost, s) => s.wordLost st base

/-- BAR2_WRITE (R353): where the window is closed the write is discarded. -/
def execBar2Write (ep : Ep) (offset : Nat) (data : List Byte) (upsets : List Upset) (s : State) : Res :=
  if 2 ^ 36 < offset + data.length then .fault .outsideBar2
  else if !s.mode.windowOpen ∨ !(s.ep ep).linkUp ∨ data.isEmpty then .next s
  else
    let s := if (List.range data.length).any fun i => (bar2Map (offset + i)).isNone then s.bump PD.BAR2_DISCARDED else s
    .next (s.each (wordParts offset data.length) fun s p => s.writeWord data upsets p)

/-- One word of a BAR2 read: its bytes, none when it is uncorrectable. -/
def State.readWord (s : State) (upsets : List Upset) (p : Nat × Nat × Nat) : Option (List Byte) × State :=
  match bar2Map p.1 with
  | none => (some (zeros p.2.1), s)
  | some (st, a) =>
    let base := a / 32 * 32
    match upsets.find? fun u => u.addr = base with
    | none => (some (s.read st a p.2.1), s)
    | some u => match s.readStruck st u with
      | (.ok r _, s) =>
        (some (List.zipWith (fun (b : Byte) x => b ^^^ BitVec.ofNat 8 x) (s.read st a p.2.1) ((r.drop (a - base)).take p.2.1)), s)
      | (.lost, s) => (none, s.wordLost st base)

/-- BAR2_READ (R353, R396): a completion with the data, with zeros where the window is closed, or a Completer Abort. In FROZEN, and where the
link is down, none comes. -/
def execBar2Read (ep : Ep) (offset length : Nat) (upsets : List Upset) (s : State) : Res :=
  if 2 ^ 36 < offset + length then .fault .outsideBar2
  else if !(s.ep ep).linkUp ∨ s.mode = .frozen ∨ s.mode = .off ∨ s.mode = .reset ∨ s.mode = .coast then .next s
  else if !s.mode.windowOpen then .next (s.emit (.bar2 ep (some (zeros length))))
  else
    let r := (wordParts offset length).foldl (fun (acc : Option (List Byte) × State) p =>
      let (b, s) := acc.2.readWord upsets p
      (match acc.1, b with
        | some x, some y => some (x ++ y)
        | _, _ => none, s)) (some [], s)
    match r with
    | (some bs, s) => .next (s.emit (.bar2 ep (some bs)))
    | (none, s) => .next ((s.bump PD.BAR2_ABORTS).emit (.bar2 ep none))

/-! ## Bridges (R18, R19) -/

/-- Connections: 0-7 wythe bridges, 8-15 stack interfaces, 16-25 mortar links, 26 the inter-hub bridge (DESIGN CHOICE, log 6). -/
def connections : Nat := 27

/-- BRIDGE_FLIT (R18, R19): a flit arrives on a connection. A corrected symbol counts; a flit that fails is retried, and the ninth failed
transmission stops the bridge. Its CRC is taken as CRC-32C (PRESUMED, log 34). -/
def execBridgeFlit (link : Nat) (words : List (List Byte)) (crc : W32) (s : State) : Res :=
  let b := s.bridge link
  if !s.mode.hubRuns ∨ connections ≤ link ∨ b.stopped then .next s
  else
    let ds := (words.take 2).map fun w => guardDecode ((padTo 36 w).map (·.toNat))
    let fixed := (ds.filter fun d => match d with
      | .corrected _ _ => true
      | _ => false).length
    let data := ((words.take 2).zip ds).flatMap fun p => (match p.2 with
      | .corrected k v => (padTo 36 p.1).set k ((((padTo 36 p.1)[k]?).getD 0) ^^^ BitVec.ofNat 8 v)
      | _ => padTo 36 p.1).take 32
    let ok : Bool := ds.all (fun d => d ≠ .bad) && words.length = 2 && crc32c data = crc.toNat
    let b : Bridge := { b with corrected := b.corrected + fixed }
    if ok then .next (s.setBridge link { b with tries := 0 })
    else if 9 ≤ b.tries + 1 then .next ((s.setBridge link { b with tries := 9 }).bridgeFailed link)
    else .next (s.setBridge link { b with tries := b.tries + 1 })

end Sys2Proof.Machine
end

