-- ==== Sys2Proof/Machine/Pdx.lean ====
section
/-! DEFINITION. Machine/Pdx.lean: PDX: frames, operations on entries, commands, sessions, forwarding, the mailbox (R399-R405, R416-R424, R540). -/
namespace Sys2Proof.Machine

/-! ## Frames (R417) -/

/-- Statuses of R417. -/
def stOk : Nat := 0
def stNoEntry : Nat := 1
def stWrongAccess : Nat := 2
def stWrongState : Nat := 3
def stBadLength : Nat := 4
def stBadOffset : Nat := 5
def stOutOfRange : Nat := 6
def stBusy : Nat := 7
def stBadFrame : Nat := 8
def stBadOp : Nat := 9
def stNoSession : Nat := 10
def stAuthFail : Nat := 11
def stBadSequence : Nat := 12
def stUnreachable : Nat := 13
def stNoOwner : Nat := 14
def stSessionLimit : Nat := 15

def opRead : Nat := 1
def opReadStaged : Nat := 2
def opWrite : Nat := 3
def opDescribe : Nat := 4
def opNext : Nat := 5
def opSessionOpen : Nat := 0x10
def opSessionClose : Nat := 0x11

/-- The 32-byte header of a request; a reserved bit that is set shows as W0 [4]. -/
def reqHead (op : Nat) (r : PdxReq) : List Byte :=
  le 4 (r.version.toNat + b2n r.reservedSet * 2 ^ 4 + op * 2 ^ 8 + b2n r.auth * 2 ^ 25) ++ le 4 r.sessionId.toNat ++ le 8 r.sequence.toNat
  ++ le 2 r.index.toNat ++ [r.sub, 0] ++ le 4 r.offset.toNat ++ le 4 r.length.toNat
  ++ le 4 (b2n r.forward + b2n r.tgtSide * 2 + r.tgtPallet.toNat * 2 ^ 2 + r.tgtSlot.toNat * 2 ^ 8)

/-- A request's frame. -/
def reqFrame (op : Nat) (r : PdxReq) : List Byte := reqHead op r ++ r.body ++ r.trailer

/-- The 32-byte header of a response. -/
def rspHead (op status : Nat) (auth more : Bool) (sid : Nat) (sequence index sub offset len : Nat) : List Byte :=
  le 4 (1 + op * 2 ^ 8 + status * 2 ^ 16 + 2 ^ 24 + b2n auth * 2 ^ 25 + b2n more * 2 ^ 26) ++ le 4 sid ++ le 8 sequence
  ++ le 2 index ++ [BitVec.ofNat 8 sub, 0] ++ le 4 offset ++ le 4 len ++ zeros 4

/-- What a request is answered with. -/
structure Reply where
  status : Nat
  body : List Byte := []
  more : Bool := false
  /-- SESSION_ID of an unauthenticated response: that of the session it opens -/
  sid : Nat := 0
  deriving DecidableEq, Repr

/-- The response's frame, authenticated with a session's key where there is one (R424). -/
def rspFrame (op : Nat) (r : PdxReq) (x : Reply) (session : Option Session) : List Byte :=
  let sid := match session with
    | some y => y.id.toNat
    | none => x.sid
  let f := rspHead op x.status session.isSome x.more sid r.sequence.toNat r.index.toNat r.sub.toNat r.offset.toNat x.body.length ++ x.body
  match session with
  | some y => f ++ padTo 48 (Config.hmac y.kmc f)
  | none => f

/-! ## Entries (R399, R514, R540) -/

/-- The entries that LOADER opens (R514). -/
def loaderOpen (k : Nat) : Bool :=
  k / 256 < 0x1000 || k = PD.DEVICE_STATE || [0xB000, 0xB010, 0xB100, 0xB200].contains (k / 256)

/-- The entry at an index and subindex; subindex 0 holds the highest subindex in use (R399). -/
def State.entry (s : State) (k : Nat) : Option Meta :=
  if s.mode = .loader ∧ !loaderOpen k then none
  else if k % 256 = 0 then
    let top := highestSub (k / 256)
    if top = 0 then none else some (sca k "HIGHEST_SUBINDEX" 2 0 top .any)
  else metaOf k

/-- The value of an entry in force, or staged where `staged` asks for it (R405). -/
def State.entryValue (s : State) (m : Meta) (staged : Bool) : PdVal :=
  if m.key % 256 = 0 then m.dflt
  else if staged then (stagedGet s.dict.staged m.key).getD (s.readValue m.key) else s.readValue m.key

/-- READ and READ_STAGED: as much of the value from OFFSET as fits in a body of `room` bytes (R405, R417). -/
def State.readReply (s : State) (k offset room : Nat) (staged : Bool) : Reply :=
  match s.entry k with
  | none => { status := stNoEntry }
  | some m =>
    if 4 ≤ m.cls then { status := stWrongAccess }
    else
      let b := m.encode (s.entryValue m staged)
      if b.length < offset then { status := stBadOffset }
      else { status := stOk, body := sub b offset room, more := decide (room < b.length - offset) }

/-- DESCRIBE (R417, R540). -/
def State.describeReply (s : State) (k : Nat) : Reply :=
  match s.entry k with
  | none => { status := stNoEntry }
  | some m =>
    let head := padTo 32 (ascii m.name) ++ le 1 m.ty ++ le 1 m.cls ++ le 2 m.size
    let (lo, hi) := m.rng.bounds m.ty
    let rest :=
      if m.ty = 14 then le 2 m.cols.length ++ m.cols.flatMap fun c => padTo 32 (ascii c.1) ++ le 1 c.2.1 ++ le 2 c.2.2
      else if tySize m.ty ≠ 0 then m.encode m.dflt ++ le m.size lo ++ le m.size hi
      else []
    { status := stOk, body := head ++ rest }

/-- NEXT: the next existing entry after the one named (R417). -/
def State.nextReply (s : State) (k : Nat) : Reply :=
  let found := (metas.flatMap fun m => [m.key / 256 * 256, m.key]).foldl (fun (n : Nat) j =>
    if k < j ∧ j < n ∧ (s.mode ≠ .loader ∨ loaderOpen j) then j else n) (2 ^ 24)
  if found = 2 ^ 24 then { status := stNoEntry } else { status := stOk, body := le 2 (found / 256) ++ le 1 (found % 256) }

/-! ## Commands written through the dictionary (R402) -/

/-- A CMD write that does not act in BOOT or CALIBRATE: its result entry reads WRONG_STATE, or its counter counts it. -/
def State.refuseCmd (s : State) (k : Nat) : State :=
  if k = PD.STATE_REQ then s.setNum PD.STATE_REQ_RESULT 2
  else if k = PD.CFG_COMMIT then s.setNum PD.CFG_CMD_RESULT 2
  else if k = PD.PLAN_LOAD then (if s.num PD.PLAN_STATUS = planLoading then s else s.result PD.PLAN_STATUS planWrongState)
  else if k = PD.STREAM_RESUME then s.setNum PD.STREAM_CMD_RESULT 2
  else if k = PD.CAL_RUN then s.result PD.CAL_RUN_RESULT 2
  else if k = PD.HIST_SAVE then s.histSave 1
  else if k = PD.HIST_RESTORE then s.histRestore 1
  else if k = PD.STEP_VOID_REQ then s.bump PD.VOTE_CMD_IGNORED
  else if k = PD.UPD_IMAGE_CMD then s.imageCmd 1
  else if k = PD.ADC_TRIGGER then s.setNum PD.ADC_TRIGGER_RESULT 2
  else if k = PD.PMB_XFER then s.pmbResult 2 []
  else if k = PD.FREEZE_CMD then s.bump PD.FREEZE_IGNORED
  else if k = PD.FREEZE_AT then s.setNum PD.FREEZE_RESULT 5
  else if k = PD.FW_STAGE ∨ k = PD.FW_ACTIVATE_AT then s.fwRefuse 9
  else if k = PD.FW_DATA then s.bump PD.FW_PIECES_DISCARDED
  else s

/-- A CMD write acts, or is refused where its own rule says so. -/
def State.command (s : State) (k : Nat) (v : PdVal) : State :=
  let n := v.toNat
  if s.mode = .boot ∨ (s.mode = .calibrate ∧ k ≠ PD.PMB_XFER) then s.refuseCmd k
  else if k = PD.STATE_REQ then s.stateReq n
  else if k = PD.CFG_COMMIT then s.cfgCommand n
  else if k = PD.PLAN_LOAD then s.planCommand n
  else if k = PD.STREAM_RESUME then s.streamResume (bits n 0 18) (bits n 18 2) (bits n 20 12)
  else if k = PD.CAL_RUN then s.calRun n
  else if k = PD.HIST_SAVE then s.histSave n
  else if k = PD.HIST_RESTORE then s.histRestore n
  else if k = PD.STEP_VOID_REQ then s.stepVoidReq
  else if k = PD.UPD_IMAGE_CMD then s.imageCmd n
  else if k = PD.DISCOVERY_RESTART then s.discover
  else if k = PD.ADC_TRIGGER then s.adcTrigger n
  else if k = PD.PMB_XFER then s.pmbStart v.toBytes
  else if k = PD.FREEZE_CMD then (if n = 1 then { s with dict := { s.dict with freezeAfter := true } } else s)
  else if k = PD.FREEZE_AT then s.freezeAtCmd (BitVec.ofNat 64 n)
  else if k = PD.FW_STAGE then (if n = 1 then s.fwBegin else if n = 2 then s.fwAbandon else s.fwRefuse 11)
  else if k = PD.FW_DATA then s.fwPiece v.toBytes
  else if k = PD.FW_ACTIVATE_AT then s.fwSchedule (BitVec.ofNat 64 n)
  else if k = PD.ATTEST_REQ then s.attestStart v.toBytes
  else s

/-! ## The owner key (R422) -/

/-- A write to OWNER_KEY and its status; a change closes every session. `allowed`: through a session, or a mailbox that needs none. -/
def State.setOwnerKey (s : State) (allowed : Bool) (key : List Byte) : Nat × State :=
  if key.length ≠ 97 then (stBadLength, s)
  else if s.mode ≠ .held ∨ !allowed ∨ s.flag PD.FW_OWNER_SIG_REQUIRED then (stWrongState, s)
  else
    let new := if allZero key then [] else key
    if !new.isEmpty && !Config.onCurve key then (stOutOfRange, s)
    else if new = s.dict.ownerKey then (stOk, s)
    else (stOk, { s with dict := { s.dict with ownerKey := new, sessions := [] } })

/-- A mailbox serves unauthenticated frames (R420). -/
def State.mailboxOpen (s : State) (path : Path) : Bool :=
  match path with
  | .mailbox _ => !s.flag PD.MBOX_AUTH_REQUIRED
  | _ => false

/-- OWNER_KEY (R422). -/
def execOwnerKey (path : Path) (authenticated : Bool) (key : List Byte) (s : State) : Res :=
  .next (s.setOwnerKey (authenticated || s.mailboxOpen path) key).2

/-! ## WRITE (R402, R404) -/

/-- The class's states accept the write (R402). -/
def State.classOpen (s : State) (cls : Nat) : Bool :=
  if cls = 1 then (s.mode.commands || s.mode = .boot || s.mode = .calibrate || s.mode = .loader)
  else if cls = 2 then s.mode = .held
  else if cls = 3 then s.mode.working
  else true

/-- An accepted RW value takes effect at once; PWM_TABLE's duties wait for their period (R435). -/
def State.writeNow (s : State) (k : Nat) (v : PdVal) : State :=
  let s := s.pdSet k v
  if k = PD.PWM_TABLE then s.hostDuties else s

/-- A value of the right length and encoding, by the entry's class. -/
def State.writeValue (s : State) (m : Meta) (v : PdVal) : Nat × State :=
  if m.cls = 1 then (if m.inRange v then (stOk, s.writeNow m.key v) else (stOutOfRange, s))
  else if m.cls = 4 then (stOk, s.command m.key v)
  else if s.num PD.CFG_STATUS = 1 then (stBusy, s)
  else (stOk, s.stage m.key v)

/-- The bytes of a table in pieces: whole, unfinished, or wrong (R404). -/
def State.writeTable (s : State) (m : Meta) (b : List Byte) : Nat × State :=
  let whole := 8 + fieldAt b 0 4 * m.rowBytes
  let headOk : Bool := decide (b.length < 8) || (decide (fieldAt b 4 2 = m.rowBytes) && decide (fieldAt b 6 2 = 0) && decide (b.length ≤ whole))
  if 8 ≤ b.length ∧ b.length = whole then
    match m.parse b with
    | some v => s.writeValue m v
    | none => (stBadLength, s)
  else if !headOk ∨ m.cls = 1 ∨ b.isEmpty then (stBadLength, s)
  else if s.num PD.CFG_STATUS = 1 then (stBusy, s)
  else
    let kept := s.dict.pieces.filter fun p => p.1 ≠ m.key
    (stOk, { s with dict := { s.dict with staged := s.dict.staged.filter fun p => p.1 ≠ m.key, pieces := kept ++ [(m.key, b)] } })

/-- A piece at an offset: at 0 it starts a new table, elsewhere it goes on where the last one ended. -/
def State.writePiece (s : State) (m : Meta) (offset : Nat) (b : List Byte) : Nat × State :=
  if offset = 0 then s.writeTable m b
  else match s.dict.pieces.find? fun p => p.1 = m.key with
    | some (_, old) => if offset = old.length then s.writeTable m (old ++ b) else (stBadOffset, s)
    | none => (stBadOffset, s)

/-- A WRITE and its status: existence, class, state, then length and encoding, then what the class asks (R402, R404). -/
def State.writeEntry (s : State) (path : Path) (auth : Bool) (k offset : Nat) (b : List Byte) : Nat × State :=
  match s.entry k with
  | none => (stNoEntry, s)
  | some m =>
    if m.cls = 0 then (stWrongAccess, s)
    else if !s.classOpen m.cls then (stWrongState, s)
    else if m.ty = 14 then s.writePiece m offset b
    else if offset ≠ 0 then (stBadOffset, s)
    else if m.cls = 5 then s.setOwnerKey (auth || s.mailboxOpen path) b
    else if k = PD.PMB_XFER ∧ (b.length < 4 ∨ 36 < b.length) then (stBadLength, s)
    else match m.parse b with
      | some v => s.writeValue m v
      | none => (stBadLength, s)

/-! ## Sessions (R423) -/

/-- A random session number that is not zero and names no open session. -/
def State.newSessionId (s : State) (i : Nat) : W32 :=
  let n := ofLe (Config.random i 4) % (2 ^ 32 - 1)
  let used := fun (j : Nat) => s.dict.sessions.any fun x => x.id.toNat = 1 + (n + j) % (2 ^ 32 - 1)
  BitVec.ofNat 32 (1 + (n + ((List.range 9).find? fun j => !used j).getD 0) % (2 ^ 32 - 1))

/-- SESSION_OPEN: the owner's signature is verified, keys are derived, the module answers with its own signature. -/
def State.openSession (s : State) (path : Path) (b : List Byte) : Reply × State :=
  let qc := sub b 0 97
  let nc := sub b 97 32
  let serial := le 8 Config.serial.toNat
  if b.length ≠ 225 then ({ status := stBadLength }, s)
  else if s.dict.ownerKey.isEmpty then ({ status := stNoOwner }, s)
  else if !Config.ecdsaOk s.dict.ownerKey (ascii "PDX1-OPEN" ++ serial ++ qc ++ nc) (sub b 129 96) then ({ status := stAuthFail }, s)
  else if 8 ≤ s.dict.sessions.length then ({ status := stSessionLimit }, s)
  else
    let (i, s) := s.fresh
    let id := s.newSessionId i
    let qm := padTo 97 (Config.ephemeral i)
    let nm := padTo 32 (Config.random i 32)
    let sig := padTo 96 (Config.identitySign i (ascii "PDX1-ACCEPT" ++ serial ++ qc ++ nc ++ qm ++ nm ++ le 4 id.toNat))
    let z := Config.ecdh i qc
    let key := fun (info : String) => Config.hkdf (nc ++ nm) z (ascii info)
    let x : Session := ⟨id, path, key "PDX1 c2m", key "PDX1 m2c", 0, [], s.course.now⟩
    ({ status := stOk, body := qm ++ nm ++ sig, sid := id.toNat }, { s with dict := { s.dict with sessions := s.dict.sessions ++ [x] } })

def State.closeSession (s : State) (id : W32) : State :=
  { s with dict := { s.dict with sessions := s.dict.sessions.filter fun x => x.id ≠ id } }

/-! ## Serving a request (R416-R424) -/

/-- A frame of at most 1,400 bytes on the SGMII port and on Kenlink (R418), of at most 32,768 in a mailbox (R419): its largest body. -/
def bodyRoom (path : Path) (auth : Bool) : Nat :=
  match path with
  | .mailbox _ => 32768 - 32 - (if auth then 48 else 0)
  | _ => 1320

/-- The header passes the checks of R417 and R418. -/
def headerOk (path : Path) (r : PdxReq) : Bool :=
  r.version = 1 && !r.reservedSet && r.length.toNat = r.body.length && r.trailer.length = (if r.auth then 48 else 0)
    && r.length.toNat ≤ bodyRoom path r.auth

/-- The operation of a request that is served. -/
def State.serveOp (s : State) (path : Path) (op : Nat) (r : PdxReq) : Reply × State :=
  let k := r.index.toNat * 256 + r.sub.toNat
  let room := bodyRoom path r.auth
  if op = opRead then (s.readReply k r.offset.toNat room false, s)
  else if op = opReadStaged then (s.readReply k r.offset.toNat room true, s)
  else if op = opWrite then
    let (st, s) := s.writeEntry path r.auth k r.offset.toNat r.body
    ({ status := st }, s)
  else if op = opDescribe then (s.describeReply k, s)
  else if op = opNext then (s.nextReply k, s)
  else if op = opSessionOpen then s.openSession path r.body
  else ({ status := stOk }, if r.auth then s.closeSession r.sessionId else s)

def knownOps : List Nat := [opRead, opReadStaged, opWrite, opDescribe, opNext, opSessionOpen, opSessionClose]

/-- An unauthenticated request is served (R420). -/
def State.servesOpenly (s : State) (path : Path) (op : Nat) (r : PdxReq) : Bool :=
  op = opSessionOpen || ((op = opRead || op = opDescribe || op = opNext) && r.index.toNat < 0x1000) || s.mailboxOpen path

/-- A response leaves by the path of its request (R416): a mailbox's waits to be written into its buffer, unless the endpoint has been reset. -/
def State.respond (s : State) (path : Path) (dead : Bool) (b : List Byte) : State :=
  match path with
  | .mailbox ep => if dead then s else { s with dict := { s.dict with answers := s.dict.answers ++ [(ep, b)] } }
  | .sgmii => s.emit (.pdx .sgmii b)
  | .kenlink side pallet slot => s.send 4 ⟨b2n side, pallet.toNat, slot.toNat⟩ b

/-- A freeze that FREEZE_CMD asked for follows its response (R489). -/
def State.freezeWhenSent (s : State) : State :=
  if s.dict.freezeAfter && s.dict.answers.isEmpty then { s with dict := { s.dict with freezeAfter := false } }.freezeByCommand else s

/-- A response to a local request, counted. -/
def State.answer (s : State) (path : Path) (dead : Bool) (op : Nat) (r : PdxReq) (x : Reply) (session : Option Session) : State :=
  let s := if x.status = stBadFrame then s.bump PD.PDX_BAD_FRAMES else s
  ((s.bump PD.PDX_FRAMES).respond path dead (rspFrame op r x session)).freezeWhenSent

/-- The session that authenticates a frame (R424). -/
def State.sessionFor (s : State) (op : Nat) (r : PdxReq) : Option Session :=
  s.dict.sessions.find? fun x => x.id = r.sessionId && r.trailer.length = 48 && r.trailer = padTo 48 (Config.hmac x.kcm (reqHead op r ++ r.body))

/-- The last accepted request of a session, and the response to it. -/
def State.noteSession (s : State) (id : W32) (seq : W64) (rsp : List Byte) : State :=
  { s with dict := { s.dict with sessions := s.dict.sessions.map fun x =>
      if x.id = id then { x with lastSeq := seq, lastResponse := rsp, lastAt := s.course.now } else x } }

/-- A request for this module (R417, R420, R424). -/
def State.serveLocal (s : State) (path : Path) (dead : Bool) (op : Nat) (r : PdxReq) : State :=
  if r.auth then
    match s.sessionFor op r with
    | none => s.bump PD.PDX_AUTH_DROPPED
    | some x =>
      if !headerOk path r then s.answer path dead op r { status := stBadFrame } (some x)
      else if r.sequence.toNat < x.lastSeq.toNat then s.answer path dead op r { status := stBadSequence } (some x)
      else if r.sequence = x.lastSeq then (s.respond path dead x.lastResponse)
      else
        let (y, t) := if knownOps.contains op then s.serveOp path op r else ({ status := stBadOp }, s)
        (t.noteSession x.id r.sequence (rspFrame op r y (some x))).answer path dead op r y (some x)
  else if !headerOk path r then s.answer path dead op r { status := stBadFrame } none
  else if !knownOps.contains op then s.answer path dead op r { status := stBadOp } none
  else if !s.servesOpenly path op r then s.answer path dead op r { status := stNoSession } none
  else
    let (y, t) := s.serveOp path op r
    t.answer path dead op r y none

/-- A request for another module: it goes on unchanged as a CLASS 4 message, or is answered UNREACHABLE (R421). -/
def State.forwardPdx (s : State) (path : Path) (dead : Bool) (op : Nat) (r : PdxReq) (dst : Addr) : State :=
  if !headerOk path r then s.answer path dead op r { status := stBadFrame } none
  else if 64 ≤ s.dict.forwards.length ∨ !s.reaches dst then s.answer path dead op r { status := stUnreachable } none
  else
    let f : Forward := ⟨r.sequence, path, dead, r.index, r.sub, r.offset, BitVec.ofNat 8 op⟩
    let s : State := { s.bump PD.PDX_FORWARDED with dict := { s.dict with forwards := s.dict.forwards ++ [f] } }
    s.send 4 dst (reqFrame op r)

/-- The dictionary engine works: the hub's firmware runs. -/
def State.pdxUp (s : State) : Bool := s.mode.hubRuns && !(s.mode = .boot && !s.clk.firmware)

/-- The engine takes the request: a mailbox's is the one at the front of the queue, a Kenlink message has been delivered (R393, R416). -/
def State.takeRequest (s : State) (path : Path) (frame : List Byte) : Option (Bool × State) :=
  match path with
  | .mailbox ep =>
    match s.dict.queue with
    | q :: rest => if q.ep = ep ∧ q.frame = frame then some (q.dead, { s with dict := { s.dict with queue := rest } }) else none
    | [] => none
  | .sgmii => some (false, s)
  | .kenlink _ _ _ => some (false, s.takeMessage 4 frame)

/-- A PDX request on a transport, whichever its operation. -/
def State.pdx (s : State) (path : Path) (op : Nat) (r : PdxReq) : State :=
  if !s.pdxUp then s
  else match s.takeRequest path (reqFrame op r) with
    | none => s
    | some (dead, s) =>
      let dst : Addr := ⟨b2n r.tgtSide, r.tgtPallet.toNat, r.tgtSlot.toNat⟩
      if r.forward && dst ≠ s.self then s.forwardPdx path dead op r dst else s.serveLocal path dead op r

/-- READ (R405). -/
def execRead (path : Path) (req : PdxReq) (s : State) : Res := .next (s.pdx path opRead req)
/-- READ_STAGED (R405). -/
def execReadStaged (path : Path) (req : PdxReq) (s : State) : Res := .next (s.pdx path opReadStaged req)
/-- WRITE (R404). -/
def execWrite (path : Path) (req : PdxReq) (s : State) : Res := .next (s.pdx path opWrite req)
/-- DESCRIBE (R540). -/
def execDescribe (path : Path) (req : PdxReq) (s : State) : Res := .next (s.pdx path opDescribe req)
/-- NEXT (R417). -/
def execNext (path : Path) (req : PdxReq) (s : State) : Res := .next (s.pdx path opNext req)
/-- SESSION_OPEN (R423). -/
def execSessionOpen (path : Path) (req : PdxReq) (s : State) : Res := .next (s.pdx path opSessionOpen req)
/-- SESSION_CLOSE (R423). -/
def execSessionClose (path : Path) (req : PdxReq) (s : State) : Res := .next (s.pdx path opSessionClose req)
/-- PDX_FORWARD (R421). -/
def execPdxForward (path : Path) (op : Byte) (req : PdxReq) (s : State) : Res := .next (s.pdx path op.toNat req)

/-- SESSION_IDLE_TIMEOUT (R423): PDX_SESSION_IDLE_S seconds after the session's last accepted request. -/
def execSessionIdleTimeout (sessionId : W32) (s : State) : Res :=
  match s.dict.sessions.find? fun x => x.id = sessionId with
  | some x => if s.pdxUp then .next ((s.runTo (x.lastAt + s.num PD.PDX_SESSION_IDLE_S * 10 ^ 9)).closeSession sessionId) else .next s
  | none => .next s

/-- FORWARD_TIMEOUT (R421): 100 ms without a response. -/
def execForwardTimeout (sequence : W64) (s : State) : Res :=
  match s.dict.forwards.find? fun f => f.sequence = sequence with
  | some f =>
    if !s.pdxUp then .next s
    else
      let s : State := { s with dict := { s.dict with forwards := s.dict.forwards.erase f } }
      let b := rspHead f.op.toNat stUnreachable false false 0 sequence.toNat f.index.toNat f.sub.toNat f.offset.toNat 0
      .next ((s.bump PD.PDX_FRAMES).respond f.path f.dead b)
  | none => .next s

/-- PDX_FORWARDED_RESPONSE (R421): the target's response goes back over the transport that its request came in on. -/
def execPdxForwardedResponse (bytes : List Byte) (s : State) : Res :=
  if !s.pdxUp then .next s
  else
    let s := s.takeMessage 4 bytes
    match s.dict.forwards.find? fun f =>
        bit (fieldAt bytes 3 1) 0 && f.sequence.toNat = fieldAt bytes 8 8 && f.op.toNat = fieldAt bytes 1 1
          && f.index.toNat = fieldAt bytes 16 2 && f.sub.toNat = fieldAt bytes 18 1 with
    | some f => .next ({ s with dict := { s.dict with forwards := s.dict.forwards.erase f } }.respond f.path f.dead bytes)
    | none => .next s

/-! ## Mailbox responses (R393) -/

/-- The frame at the front of the queue is no request of a known operation: too short, or an unknown OP. -/
def strayFrame (f : List Byte) : Bool := decide (f.length < 32) || !knownOps.contains (fieldAt f 1 1)

/-- A stray request at the front of the queue is answered BAD_FRAME or BAD_OP from its own bytes (R417). -/
def State.serveStray (s : State) : State :=
  match s.dict.queue with
  | [] => s
  | q :: rest =>
    if !strayFrame q.frame then s
    else
      let f := q.frame
      let s : State := { s with dict := { s.dict with queue := rest } }
      if f.length < 32 then
        ((s.bump PD.PDX_BAD_FRAMES).bump PD.PDX_FRAMES).respond (.mailbox q.ep) q.dead (rspHead 0 stBadFrame false false 0 0 0 0 0 0)
      else
        let w0 := fieldAt f 0 4
        let r : PdxReq := {
          version := BitVec.ofNat 4 w0, reservedSet := bits w0 4 4 ≠ 0 || bits w0 16 9 ≠ 0 || bits w0 26 6 ≠ 0 || fieldAt f 19 1 ≠ 0
            || bits (fieldAt f 28 4) 14 18 ≠ 0
          auth := bit w0 25, sessionId := BitVec.ofNat 32 (fieldAt f 4 4), sequence := BitVec.ofNat 64 (fieldAt f 8 8)
          index := BitVec.ofNat 16 (fieldAt f 16 2), sub := BitVec.ofNat 8 (fieldAt f 18 1), offset := BitVec.ofNat 32 (fieldAt f 20 4)
          length := BitVec.ofNat 32 (fieldAt f 24 4), forward := bit (fieldAt f 28 4) 0, tgtSide := bit (fieldAt f 28 4) 1
          tgtPallet := BitVec.ofNat 6 (fieldAt f 28 4 / 4), tgtSlot := BitVec.ofNat 6 (fieldAt f 28 4 / 256)
          body := sub f 32 (fieldAt f 24 4), trailer := f.drop (32 + fieldAt f 24 4) }
        let op := fieldAt f 1 1
        let dst : Addr := ⟨b2n r.tgtSide, r.tgtPallet.toNat, r.tgtSlot.toNat⟩
        if r.forward && dst ≠ s.self then s.forwardPdx (.mailbox q.ep) q.dead op r dst else s.serveLocal (.mailbox q.ep) q.dead op r

/-- MAILBOX_RESPONSE (R393): the module writes the response, its length and RESPONSE_READY, with the MAILBOX cause. -/
def execMailboxResponse (ep : Ep) (s : State) : Res :=
  if !s.pdxUp then .next s
  else
    let s := if s.dict.answers.any fun a => a.1 = ep then s else s.serveStray
    match s.dict.answers.find? fun a => a.1 = ep with
    | none => .next s
    | some a =>
      let s : State := { s with dict := { s.dict with answers := s.dict.answers.erase a } }
      let s := s.setEp ep { s.ep ep with response := a.2, rspLen := BitVec.ofNat 16 a.2.length, mbox := 2 }
      .next (s.cause irqMailbox).freezeWhenSent

end Sys2Proof.Machine
end

