-- ==== Sys2Proof/Machine/Reports.lean ====
section
/-! DEFINITION. Machine/Reports.lean: the read-out of a frozen module (R494-R498) and the attestation report (R517). -/
namespace Sys2Proof.Machine

/-! ## Read-out (R494-R497) -/

/-- A frame: SYNC, the 16-byte header, the payload, CRC-32C over header and payload. -/
def froutFrame (row die kind seq offset : Nat) (uncorr last : Bool) (payload : List Byte) : List Byte :=
  let head := le 8 (1 + row * 2 ^ 8 + die * 2 ^ 16 + kind * 2 ^ 24 + seq * 2 ^ 32)
    ++ le 8 (offset + payload.length * 2 ^ 48 + b2n uncorr * 2 ^ 62 + b2n last * 2 ^ 63)
  [0x55, 0x55, 0x55, 0xD5] ++ head ++ payload ++ le 4 (crc32c (head ++ payload))

/-- The inventory payload. -/
def State.inventory (s : State) : List Byte :=
  le 8 Config.serial.toNat ++ le 8 s.freeze.latch.toNat ++ le 8 (s.freeze.trigger + s.freeze.from_.code * 2 ^ 8)
  ++ le 8 (s.num PD.STEP_NUMBER % 2 ^ 48) ++ zeros 32

/-- REGISTERS: the entries whose values the die holds, in index and subindex order, each in its R401 encoding, then zero. -/
def State.registerBytes (s : State) (die : Nat) : List Byte :=
  padTo (256 * 1024) ((metas.filter fun m => m.cls < 4 && Config.dieHolds die m.key).flatMap fun m => m.encode (s.readValue m.key))

/-- Store that a region reads (R494): store number by kind and die. -/
def regionStore (die kind : Nat) : Nat :=
  if kind = 2 then stStaging (die - 8) else if kind = 3 then stFrog (die - 8) else if kind = 5 then stHub (die - 16) else stUpd (die - 18)

/-- Bytes of a region from an offset: registers and the staging store as they stand; frogs, beds, hub and update-die SRAM, whose layout the
rules leave open, are free, indexed by the read-out (DESIGN CHOICE, log 7). -/
def State.regionBytes (s : State) (index die kind offset length : Nat) : List Byte :=
  if kind = 1 then sub (s.registerBytes die) offset length
  else if kind = 2 then s.read (stStaging (die - 8)) offset length
  else (List.range length).map fun i => Config.fnByte index (die * 8 + kind) (offset + i)

/-- What the engine makes of a struck word: a corrected word is corrected, an uncorrectable one goes as read (R495). -/
def sentResidue (e : List Byte) : List Nat × Bool :=
  match guardResidue e with
  | some (r, _) => (r, false)
  | none => (((padTo 36 e).take 32).map (·.toNat), true)

/-- Xors a residue into a string at an offset; what falls outside is left out. -/
def xorAt (b : List Byte) (offset : Nat) (r : List Nat) : List Byte :=
  b.zipIdx.map fun x => if offset ≤ x.2 ∧ x.2 < offset + r.length then x.1 ^^^ BitVec.ofNat 8 ((r[x.2 - offset]?).getD 0) else x.1

/-- One frame's payload with the struck words in it, and whether one is uncorrectable. Beds and registers are outside the guard. -/
def strikeWords (upsets : List (Nat × Upset)) (die kind offset : Nat) (b : List Byte) : List Byte × Bool :=
  if kind = 1 ∨ kind = 4 then (b, false)
  else
    let mine := upsets.filter fun u => u.1 = regionStore die kind && offset ≤ u.2.addr && u.2.addr < offset + b.length
    mine.foldl (fun (acc : List Byte × Bool) u =>
      let (r, bad) := sentResidue u.2.first
      (xorAt acc.1 (u.2.addr - offset) r, acc.2 || bad)) (b, false)

/-- Payloads of the map's regions in row order: row, die, kind, region offset, bytes, UNCORR. -/
def State.readoutPieces (s : State) (index : Nat) (upsets : List (Nat × Upset)) : List (Nat × Nat × Nat × Nat × List Byte × Bool) :=
  (s.rows PD.FREEZE_MAP).zipIdx.flatMap fun r =>
    let c := fun (i : Nat) => r.1.getD i 0
    (List.range (ceilDiv (c 3) 1024)).map fun j =>
      let off := c 2 + 1024 * j
      let (b, bad) := strikeWords upsets (c 0) (c 1) off (s.regionBytes index (c 0) (c 1) off (min 1024 (c 3 - 1024 * j)))
      (r.2, c 0, c 1, off, b, bad)

/-- The frames of a read-out: the inventory, then the regions; the last one says so. -/
def State.readoutFrames (s : State) (index : Nat) (upsets : List (Nat × Upset)) : List (List Byte × Bool) :=
  let ps := s.readoutPieces index upsets
  (froutFrame 0 0 0 0 0 false ps.isEmpty s.inventory, false)
  :: ps.zipIdx.map fun p =>
    let (row, die, kind, off, b, bad) := p.1
    (froutFrame row die kind (p.2 + 1) off bad (p.2 + 1 = ps.length) b, bad)

/-- READOUT_END (R497, R498): the LAST frame has been sent. A PIN freeze with FREEZE_N high releases, and any other while FREEZE_RELEASE is
AUTO. -/
def execReadoutEnd (upsets : List (Nat × Upset)) (cycles : Nat) (s : State) : Res :=
  if s.mode ≠ .frozen ∨ !s.clk.refclk ∨ s.freeze.lastSent then .next s
  else
    let (i, s) := s.fresh
    let fs := s.readoutFrames i upsets
    let s := s.emits (fs.map fun f => .frout f.1)
    let s : State := { s with freeze := { s.freeze with
      frames := fs.length, uncorr := (fs.filter (·.2)).length, cycles := cycles, lastSent := true } }
    if (if s.freeze.trigger = 0 then s.freezeN else s.num PD.FREEZE_RELEASE = 0) then
      let (ns, s) := s.frozenNs false
      .next (s.thaw ns)
    else .next s

/-! ## Attestation (R517) -/

/-- Bytes 0 to 319 of a report. In LOADER no firmware runs, and its digests are zero. -/
def State.reportBody (s : State) : List Byte :=
  let loader : Bool := s.mode = .loader
  let fw := fun (b : List Byte) => if loader then zeros 48 else padTo 48 b
  le 8 (0x54545441 + 2 ^ 32 + s.mode.code * 2 ^ 36 + b2n s.timed * 2 ^ 40 + b2n loader * 2 ^ 41)
  ++ le 8 Config.serial.toNat ++ padTo 32 s.fw.nonce ++ le 8 (if s.timed then s.ctime.toNat else 0) ++ le 8 (s.num PD.STEP_NUMBER % 2 ^ 48)
  ++ fw s.fw.runningDigest ++ fw s.calDigest ++ fw s.healthDigest.toBytes ++ fw ((s.plan.map (·.digest)).getD []) ++ fw s.cfgDigest.toBytes
  ++ le 8 (s.num PD.FW_ROLLBACK_MIN % 2 ^ 32) ++ le 8 (s.num PD.FW_OWNER_SIG_REQUIRED)

/-- ATTEST_REPORT (R517): the report of the request in progress, signed with the identity key. -/
def execAttestReport (s : State) : Res :=
  if s.fw.nonce.isEmpty ∨ !s.mode.hubRuns then .next s
  else
    let (i, s) := s.fresh
    let b := s.reportBody
    let s := (s.setBytes PD.ATTEST_REPORT (b ++ padTo 96 (Config.identitySign i b))).setNum PD.ATTEST_RESULT 0
    .next { s with fw := { s.fw with nonce := [] } }

end Sys2Proof.Machine
end

