-- ==== Sys2Proof/Machine/Sgmii.lean ====
section
/-! DEFINITION. Machine/Sgmii.lean: what the management port answers besides PDX: ARP, IPv6 Neighbor Discovery, ICMP and ICMPv6 echo (R418).
Frames are Ethernet II frames without preamble and frame check sequence; the formats are those of RFC 826, 792, 4861 and 4443 (PRESUMED, log 35). -/
namespace Sys2Proof.Machine

/-- Big-endian field of n bytes at byte o. -/
def beAt (b : List Byte) (o n : Nat) : Nat := ofBe (sub b o n)

/-- Sum of the 16-bit words of a string, an odd last byte padded with zero. -/
def wordSum : List Byte → Nat
  | [] => 0
  | [a] => a.toNat * 256
  | a :: b :: l => a.toNat * 256 + b.toNat + wordSum l

/-- The Internet checksum: the ones' complement of the ones' complement sum. -/
def inetSum (b : List Byte) : Nat :=
  let n := wordSum b
  let n := n % 2 ^ 16 + n / 2 ^ 16
  let n := n % 2 ^ 16 + n / 2 ^ 16
  0xFFFF - n

/-- A message with its checksum at byte 2 computed over a pseudo-header and itself. -/
def withSum (pseudo m : List Byte) : List Byte :=
  let z := m.take 2 ++ [0, 0] ++ m.drop 4
  m.take 2 ++ be 2 (inetSum (pseudo ++ z)) ++ m.drop 4

def macBytes : List Byte := padTo 6 Config.mac
def State.ipv6 (s : State) : List Byte := (s.pdGet PD.PDX_IPV6_ADDR).toBytes
def State.ipv4 (s : State) : Nat := s.num PD.PDX_IPV4_ADDR

/-- A frame to the sender of a request. -/
def replyFrame (dest : List Byte) (ethertype : Nat) (payload : List Byte) : List Byte :=
  let f := dest ++ macBytes ++ be 2 ethertype ++ payload
  if f.length < 60 then padTo 60 f else f

/-- The reply to an ARP request for the IPv4 address. -/
def State.arpReply (s : State) (f : List Byte) : Option (List Byte) :=
  let a := f.drop 14
  if s.ipv4 ≠ 0 ∧ beAt a 0 2 = 1 ∧ beAt a 2 2 = 0x0800 ∧ beAt a 4 1 = 6 ∧ beAt a 5 1 = 4 ∧ beAt a 6 2 = 1 ∧ 28 ≤ a.length ∧ beAt a 24 4 = s.ipv4 then
    some (replyFrame (sub a 8 6) 0x0806 (be 2 1 ++ be 2 0x0800 ++ [6, 4] ++ be 2 2 ++ macBytes ++ be 4 s.ipv4 ++ sub a 8 6 ++ sub a 14 4))
  else none

/-- The reply to an ICMP echo request: addresses reversed, type 0, checksums computed again (RFC 792). -/
def State.echoReply (s : State) (f : List Byte) : Option (List Byte) :=
  let p := f.drop 14
  let hl := 4 * (beAt p 0 1 % 16)
  let len := beAt p 2 2
  let m := sub p hl (len - hl)
  if s.ipv4 ≠ 0 ∧ beAt p 0 1 / 16 = 4 ∧ 20 ≤ hl ∧ hl + 8 ≤ len ∧ len ≤ p.length ∧ beAt p 9 1 = 1 ∧ beAt p 16 4 = s.ipv4
      ∧ bits (beAt p 6 2) 0 14 = 0 ∧ inetSum (p.take hl) = 0 ∧ inetSum m = 0 ∧ beAt m 0 2 = 0x0800 then
    let h := p.take 10 ++ [0, 0] ++ sub p 16 4 ++ sub p 12 4 ++ sub p 20 (hl - 20)
    let h := h.take 10 ++ be 2 (inetSum h) ++ h.drop 12
    some (replyFrame (sub f 6 6) 0x0800 (h ++ withSum [] ([0, 0] ++ m.drop 2)))
  else none

/-- An ICMPv6 message from the module's address. -/
def State.icmp6 (s : State) (mac dst m : List Byte) : List Byte :=
  let m := withSum (s.ipv6 ++ dst ++ be 4 m.length ++ [0, 0, 0, 58]) m
  replyFrame mac 0x86DD ([0x60, 0, 0, 0] ++ be 2 m.length ++ [58, 255] ++ s.ipv6 ++ dst ++ m)

/-- The answer to an ICMPv6 echo request, or to a Neighbor Solicitation for the module's address (RFC 4443, RFC 4861). -/
def State.icmp6Reply (s : State) (f : List Byte) : Option (List Byte) :=
  let p := f.drop 14
  let len := beAt p 4 2
  let src := sub p 8 16
  let dst := sub p 24 16
  let m := sub p 40 len
  let pseudo := src ++ dst ++ be 4 len ++ [0, 0, 0, 58]
  let solicited := [0xFF, 0x02, 0, 0, 0, 0, 0, 0, 0, 0, 0, 1, 0xFF] ++ s.ipv6.drop 13
  if beAt p 0 1 / 16 ≠ 6 ∨ beAt p 6 1 ≠ 58 ∨ p.length < 40 + len ∨ len < 8 ∨ inetSum (pseudo ++ m) ≠ 0 then none
  else if beAt m 0 2 = 0x8000 ∧ dst = s.ipv6 then some (s.icmp6 (sub f 6 6) src ([129, 0] ++ m.drop 2))
  else if beAt m 0 2 = 0x8700 ∧ beAt p 7 1 = 255 ∧ (dst = s.ipv6 ∨ dst = solicited) ∧ sub m 8 16 = s.ipv6 then
    let dad : Bool := allZero src
    let adv := [136, 0, 0, 0, (if dad then 0x20 else 0x60), 0, 0, 0] ++ s.ipv6 ++ [2, 1] ++ macBytes
    if dad then some (s.icmp6 [0x33, 0x33, 0, 0, 0, 1] ([0xFF, 0x02] ++ zeros 13 ++ [1]) adv) else some (s.icmp6 (sub f 6 6) src adv)
  else none

/-- ARP_ND_AND_ECHO_REQUEST (R418). -/
def execArpNdAndEchoRequest (frame : List Byte) (s : State) : Res :=
  let t := beAt frame 12 2
  let r := if t = 0x0806 then s.arpReply frame else if t = 0x0800 then s.echoReply frame else if t = 0x86DD then s.icmp6Reply frame else none
  match r with
  | some b => if s.pdxUp then .next (s.emit (.sgmii b)) else .next s
  | none => .next s

end Sys2Proof.Machine
end

