-- ==== Sys2Proof/Machine/Startup.lean ====
section
/-! DEFINITION. Machine/Startup.lean: supplies and RESET, the steps of start-up, loss and return of REFCLK, snapshots of the domains
(R344, R347, R351, R447-R464, R513, R514, R526). -/
namespace Sys2Proof.Machine

/-! ## Supplies and RESET (R455) -/

/-- POWER_OFF (R455): every store but the flash is lost, and the pins are not driven. -/
def execPowerOff (s : State) : Res :=
  if s.mode = .off then .next s else .next { s.keepOver .off with pwrGood := false }

/-- POWER_UP (R455, R458, R524): OFF to RESET; the next BOOT begins from POWER_ON. -/
def execPowerUp (s : State) : Res :=
  if s.mode = .off then .next { s.keepOver .reset with pwrGood := false } else .next s

/-- RESET_ASSERT (R455): RESET_N, or PWR_GOOD, has been low for 1 µs. RESET_CAUSE keeps what brought the module into RESET (R458). -/
def execResetAssert (pwrGood : Bool) (s : State) : Res :=
  let rn : Bool := s.resetN && !pwrGood
  if s.mode = .off then .next s
  else if s.mode = .reset then .next { s with resetN := rn, pwrGood := s.pwrGood && pwrGood }
  else .next ({ s.keepOver .reset with resetN := rn, pwrGood := pwrGood }.setNum PD.RESET_CAUSE (if pwrGood then 1 else 2))

/-- RESET_RELEASE (R455, R459 step 2): the straps are sampled, and BOOT begins on bypass clocks. Without REFCLK it waits there (R526). -/
def execResetRelease (slotId : BitVec 6) (bondSide : Bool) (refclk : Bool) (s : State) : Res :=
  if s.mode = .reset then
    let s : State := { s with resetN := true, pwrGood := true, slotId := slotId, bondSide := bondSide, clk := { refclk := refclk } }
    .next (s.enter .boot)
  else .next s

/-! ## The steps of start-up (R449, R459-R461) -/

/-- Rows of START_TABLE for steps that have ended: start and duration in µs are measured times, which are open (DESIGN CHOICE, log 7); the result is 0 for OK
and 1 for a failure (DESIGN CHOICE, log 6). -/
def State.started (s : State) (steps : List (Nat × Nat)) : State :=
  s.each steps fun s x =>
    let (i, s) := s.fresh
    { s with clk := { s.clk with startTable := s.clk.startTable ++ [[Config.fnNat 16 [x.1, 0] i % 2 ^ 32, Config.fnNat 16 [x.1, 1] i % 2 ^ 32, x.2]] } }

/-- A start-up failure's spall (R461, R485). -/
def State.startSpall (s : State) (step die mech outcome : Nat) : State :=
  s.spall { kind := 0x32, level := 3, die := die, mech := mech, outcome := outcome, detail := [detailUint 0 step],
            manifest := padTo 48 s.flashDigest }

/-- LOOPS_LOCKED (R449, R459 step 3): every loop reports lock, and each domain switches from bypass to its loop. -/
def execLoopsLocked (s : State) : Res :=
  if s.mode = .boot ∧ s.clk.refclk ∧ !s.clk.onLoop then
    .next ({ s with clk := { s.clk with loopsLocked := true, onLoop := true, waiting := false } }.started [(3, 0)])
  else .next s

/-- LOOP_LOCK_TIMEOUT (R461): a loop has not locked within 1 ms of a present REFCLK. -/
def execLoopLockTimeout (_loop : Nat) (s : State) : Res :=
  if s.mode = .boot ∧ s.clk.refclk ∧ !s.clk.onLoop then .next ((s.started [(3, 1)]).startSpall 3 28 13 4).fault else .next s

/-- LOCK_LOSS (R464): a loop has lost lock with REFCLK present; only the count changes. -/
def execLockLoss (_loop : Nat) (s : State) : Res :=
  if s.mode ≠ .off ∧ s.mode ≠ .reset ∧ s.clk.refclk ∧ s.clk.onLoop then .next (s.bump PD.LOCK_LOSSES) else .next s

/-- Verdict on one image in flash at a boot: 0, or a code of FW_RESULT (R509, R514). -/
def State.bootCode (s : State) (r : ImageRec) : Nat :=
  let h := s.read stFlash (packageBase + r.offset) 512
  match parseHead h with
  | none => 2
  | some i =>
    if i.part ≠ r.part then 2
    else if !s.sigsOk h i then 3
    else if i.rollback < s.num PD.FW_ROLLBACK_MIN ∨ i.rollback ≠ s.fw.packageRollback then 4
    else if !s.bodyOk r then 5 else 0

/-- The first image among those that p picks that fails, with its code. The package that the part was supplied with passes, unless owner
signatures are required (DESIGN CHOICE, log 21). -/
def State.bootFault (s : State) (p : ImageRec → Bool) : Option (Nat × Nat) :=
  if s.fw.package.isEmpty then (if s.flag PD.FW_OWNER_SIG_REQUIRED then some (3, 1) else none)
  else ((s.fw.package.filter p).map fun r => (s.bootCode r, r.part)).find? fun x => x.1 ≠ 0

/-- Part records of the package in flash. -/
def State.flashParts (s : State) : List ImageRec :=
  if s.fw.package.isEmpty then
    (List.range 7).map fun i => ⟨i + 1, Config.factoryVersion (i + 1), 0, Config.factoryLength (i + 1), padTo 48 (Config.factoryDigest (i + 1))⟩
  else s.fw.package

/-- Verification has failed in BOOT: LOADER, and a spall of kind 0x40 (R514). An activation that ends so has failed. -/
def State.bootFails (s : State) (code part : Nat) : State :=
  let s := s.fwSpall 3 code part
  let s := if s.num PD.FW_STAGE_STATE = 3 then (s.setNum PD.FW_STAGE_STATE 4).fwResult code else s
  let s : State := { s with fw := { s.fw with running := [], runningDigest := [] }, clk := { s.clk with firmware := false } }
  (s.enter .loader).epsUp

/-- FIRMWARE_VERIFIED (R459 steps 4 and 5, R513, R514): the ROM has read the manifest and the hub firmware; it starts the firmware when the valid
marker is set and both pass. -/
def execFirmwareVerified (s : State) : Res :=
  if s.mode ≠ .boot ∨ !s.clk.refclk ∨ !s.clk.onLoop ∨ s.clk.firmware then .next s
  else if !s.fw.valid then
    let (i, s) := s.fresh
    .next ((s.started [(4, 0), (5, 1)]).bootFails (Config.fnNat 14 [] i % 12) 0)
  else match s.bootFault fun r => decide (r.part ≤ 2) with
    | some (code, part) => .next ((s.started [(4, 0), (5, 1)]).bootFails code part)
    | none =>
      .next ({ s with clk := { s.clk with firmware := true }
                      fw := { s.fw with running := s.flashParts, runningDigest := padTo 48 s.flashDigest } }.started [(4, 0), (5, 0)])

/-- BRIDGES_TRAINED (R459 steps 6 and 7, R461): the connections that trained within 100 ms; a missing one is FAULT. The endpoints are ready. -/
def execBridgesTrained (trained : List Nat) (s : State) : Res :=
  if s.mode ≠ .boot ∨ !s.clk.refclk ∨ !s.clk.firmware ∨ s.clk.bridges then .next s
  else if (List.range connections).all fun c => trained.contains c then
    .next (({ s with clk := { s.clk with bridges := true } }.started [(6, 0), (7, 0)]).epsUp)
  else .next ((s.started [(6, 1)]).startSpall 6 28 6 4).fault

/-- Weak rows are repaired at a power-up, before the fill; one that cannot be stays listed as NO_SPARE (R351). -/
def State.repairRows (s : State) (repaired : List Nat) : State :=
  let ppr := s.flag PD.SLOW_PPR
  let row := fun (x : (Nat × Nat × Nat) × Nat) =>
    if x.1.2.2 = 0 ∧ (x.1.1 < 28 ∨ ppr) then (x.1.1, x.1.2.1, if repaired.contains x.2 then 1 else 2) else x.1
  let weak := s.memUnit.weak.zipIdx.map row
  { s with memUnit := { s.memUnit with weak := weak } }

/-- Both parts of start-up before CALIBRATE have ended (R460). -/
def State.startCalibrate (s : State) : State :=
  if s.mode = .boot ∧ s.clk.memory ∧ s.clk.flashReads then s.enterCalibrate s.cal.fromHeld else s

/-- Fitted channels of the twelve: usable capacity and ranks by channel, and whether training passed (R344). -/
def fittedRows (channels : List (Bool × Bool × Nat × Nat)) : List (Nat × Nat × Nat × Bool) :=
  (List.range 12).filterMap fun ch => (channels[ch]?).elim none fun x => if x.1 then some (ch, x.2.2.1, x.2.2.2, x.2.1) else none

/-- Before the fill: weak rows are repaired at a power-up, and every store but the flash is empty (R347, R351). -/
def State.clearForFill (s : State) (repaired : List Nat) : State :=
  let s := if s.num PD.RESET_CAUSE = 0 then s.repairRows repaired else s
  { s with mem := s.mem.filter fun c => c.1 / 2 ^ 48 = stFlash }

/-- The slow tier's channels as trained, each failed one with its spall (R344, R461). -/
def State.trainSlow (s : State) (rows : List (Nat × Nat × Nat × Bool)) : State :=
  let bad := rows.filter fun r => !r.2.2.2
  let s : State := { s with clk := { s.clk with channels := rows } }
  let s := s.setNum PD.SLOW_CAPACITY ((s.slowDie 0 + s.slowDie 1) % 2 ^ 64)
  let s := s.started [(8, 0), (9, b2n (!bad.isEmpty))]
  s.each bad fun s r => s.startSpall 9 (18 + r.1 / 6) 17 0

/-- The fill of the slow tier; false when an update die has no capacity left (R461). -/
def State.fillSlow (s : State) : Bool × State :=
  match (List.range 2).find? fun d => s.slowDie d = 0 with
  | some d => (false, s.startSpall 9 (18 + d) 17 4)
  | none => (true, s.started [(10, 0)])

/-- The cold memory step (R344, R347, R351, R461): repair, fill, training; false when a stack, or an update die's last channel, has failed. -/
def State.fillMemory (s : State) (stacksOk : List Bool) (channels : List (Bool × Bool × Nat × Nat)) (repaired : List Nat) : Bool × State :=
  let s := s.clearForFill repaired
  match (List.range 8).find? fun n => !(stacksOk.getD n false) with
  | some n =>
    let mask := s.num PD.HEALTH_DIE_MASK
    let s := s.setNum PD.HEALTH_DIE_MASK (mask - (mask &&& (2 ^ n + 2 ^ (8 + n))))
    (false, (s.started [(8, 1)]).startSpall 8 (20 + n) 17 4)
  | none => (s.trainSlow (fittedRows channels)).fillSlow

/-- The memory step ends; a failure in it is FAULT. -/
def State.memoryStep (s : State) (ok : Bool) : State :=
  if ok then ({ s with clk := { s.clk with memory := true } } : State).startCalibrate else s.fault

/-- MEMORY_STEP_DONE (R347, R458-R461): the memory step ends. After a warm restart nothing is filled or trained. -/
def execMemoryStepDone (stacksOk : List Bool) (channels : List (Bool × Bool × Nat × Nat)) (repaired : List Nat) (s : State) : Res :=
  if s.mode ≠ .boot ∨ !s.clk.refclk ∨ !s.clk.bridges ∨ s.clk.memory then .next s
  else if s.clk.warm then .next ((s.started [(8, 0), (9, 0), (10, 0)]).memoryStep true)
  else
    let r := s.fillMemory stacksOk channels repaired
    .next (r.2.memoryStep r.1)

/-- FLASH_READS_DONE (R460, R514): every other image has been checked and loaded, and the working copy of every calibration set read. -/
def execFlashReadsDone (s : State) : Res :=
  if s.mode ≠ .boot ∨ !s.clk.refclk ∨ !s.clk.firmware ∨ s.clk.flashReads then .next s
  else match s.bootFault fun r => decide (2 < r.part) with
    | some (code, part) => .next (s.bootFails code part)
    | none =>
      let s := s.readSets
      .next { s with clk := { s.clk with flashReads := true } }.startCalibrate

/-! ## The end of CALIBRATE (R156, R165, R455, R459, R512) -/

/-- Faults of the configuration in force alone (R406, R512). -/
def State.standingFaults (s : State) : List (List Nat) :=
  let values := s.pd.filter fun p => match metaOf p.1 with
    | some m => m.cls = 2 || m.cls = 3
    | none => false
  let t : State := { s with dict := { s.dict with staged := values, pieces := [] } }
  sortBy (fun (a b : List Nat) => decide (a.getD 1 0 ≤ b.getD 1 0)) (t.rangeFaults ++ t.crossFaults ++ t.claimFaults)

/-- After a warm restart the new firmware validates the configuration in force; where it fails, the module stays in HELD with INVALID (R512). -/
def State.revalidate (s : State) : State :=
  if s.num PD.CFG_STATUS = 0 then s
  else
    let fs := s.standingFaults
    if fs.isEmpty then s else ((s.silence).setRows PD.CFG_FAULTS (fs.take 1024)).result PD.CFG_STATUS 3

/-- CALIBRATION_DONE (R156, R160, R161, R165, R169, R374, R455, R459 steps 11 and 12, R511, R512). -/
def execCalibrationDone (s : State) : Res :=
  if s.mode ≠ .calibrate ∨ s.cal.wave ≠ 8 then .next s
  else
    let first : Bool := !s.cal.fromHeld
    let warm := s.clk.warm
    let s := s.endPattern
    let s := if s.planIn then s.rewriteArrays.preload else s
    let s := if first then s.started [(11, 0)] else s
    let s : State := if first && !warm then
        let (i, s) := s.fresh
        s.setNum PD.READY_TIME_MS (Config.fnNat 15 [] i % 2 ^ 32)
      else s
    let s : State := { s with clk := { s.clk with warm := false }, cal := { s.cal with fromHeld := false } }
    let s := s.enter .held
    let s := if s.num PD.FW_STAGE_STATE = 3 then (s.setNum PD.FW_STAGE_STATE 0).fwResult 0 else s
    let s := if warm then s.revalidate else s
    .next s.discoverOnce

/-! ## Loss and return of REFCLK (R449-R452, R493, R526) -/

/-- State in which COAST ends (R452). -/
def Mode.afterCoast : Mode → Mode
  | .boot | .calibrate => .boot
  | .loader => .loader
  | .fault => .fault
  | _ => .held

/-- Entry to COAST (R451): the course is lost and its actions follow, the streams stop, links go down, measurement and control stop, running
grants return to the head of their queue (R483). A multiplexer switch may be under way in BOOT until the loops are in use; whether one is, is open
(DESIGN CHOICE, log 7). -/
def State.coast (s : State) : State :=
  let left := s.mode
  let before := s.course.st.code
  let open_ := s.step.opened
  let s := (s.courseLost).courseActions before true
  let s := s.spall { kind := 0x33, level := 3, mech := 13, outcome := if open_ then 2 else 0, detail := [detailUint 0 left.code] }
  let s := if left.running then s.pauseStreams else s
  let s := s.dropPorts
  let s : State := { s with ep0 := { s.ep0 with linkUp := false }, ep1 := { s.ep1 with linkUp := false } }
  let s := s.stopMeasure.requeueGrants
  let (w, s) : Bool × State := if left = .boot ∧ !s.clk.onLoop then
      let (i, s) := s.fresh
      (decide (Config.fnNat 17 [] i % 2 = 1), s)
    else (false, s)
  let s : State := { s with clk := { s.clk with coastFrom := left.afterCoast, waiting := w } }
  s.enter .coast

/-- REFCLK_LOSS (R450, R451, R493): COAST from any state from BOOT on; in FROZEN the read-out stops. A BOOT that has not seen REFCLK yet goes on
waiting (R526), and a loss during COAST restarts the test of R452. -/
def execRefclkLoss (s : State) : Res :=
  let lost : State := { s with clk := { s.clk with refclk := false } }
  match s.mode with
  | .off | .reset => .next lost
  | .frozen | .coast => .next (lost.bump PD.REFCLK_LOSSES)
  | _ => if s.clk.refclk then .next (lost.bump PD.REFCLK_LOSSES).coast else .next s

/-- COAST ends (R52, R396, R452): the state it returns to, links that train again, ACQUIRING. -/
def State.leaveCoast (s : State) : State :=
  let (i, s) := s.fresh
  let s := s.bumpBy PD.COAST_NS (Config.fnNat 8 [] i)
  let s : State := { s with clk := { s.clk with waiting := false } }
  let s := s.enter s.clk.coastFrom
  let s := if s.linkTrains then s.epsUp else s
  let s := s.courseRestart
  let s := if s.mode = .held then s.discoverOnce else s
  s.startCalibrate

/-- REFCLK_RETURN (R452, R493, R526): COAST ends; a BOOT that waited goes on from step 3; in FROZEN the read-out starts again from its inventory
frame. -/
def execRefclkReturn (s : State) : Res :=
  let back : State := { s with clk := { s.clk with refclk := true } }
  if s.clk.refclk then .next s
  else if s.mode = .coast then .next back.leaveCoast
  else .next back

/-- DOMAIN_SNAPSHOT (R454): each alive domain's counters and tables are copied. No read meets a stopped domain in this model, so the copy is its
time alone. -/
def execDomainSnapshot (s : State) : Res :=
  if s.mode.hubRuns ∧ s.clk.onLoop ∧ !s.clk.waiting then .next { s with clk := { s.clk with snapshot := s.ctime.toNat } } else .next s

/-! ## Outputs by state (R444, R462) -/

/-- What a PWM output shows. -/
inductive PwmDrive where
  | highZ
  | level (high : Bool)
  | duty (n : Nat)
  deriving DecidableEq, Repr

/-- A PWM output's drive by module state (R435, R444): FAILSAFE without a clock, the duty in force otherwise; before step 5 nothing. -/
def State.pwmDrive (s : State) (i : Nat) : PwmDrive :=
  let row := (s.rows PD.PWM_TABLE).getD i []
  match s.mode with
  | .off | .reset => .highZ
  | .boot => if !s.clk.firmware ∨ row.getD 0 0 = 0 then .highZ else .duty (kvGet dutyDefault s.meas.duty i)
  | .coast => if row.getD 0 0 = 0 then .highZ else .level (row.getD 2 0 = 1)
  | _ => if row.getD 0 0 = 0 then .highZ else .duty (kvGet dutyDefault s.meas.duty i)

end Sys2Proof.Machine
end

