-- ==== Sys2Proof/Machine/Dispatch.lean ====
section
/-! DEFINITION. Machine/Dispatch.lean: one arm for each command, one direct call of its meaning. -/
namespace Sys2Proof.Machine

def exec (i : Instr) (s : State) : Host.Outcome State Fault Refusal :=
  match i with
  | .courseFrame markTs idleNs levels => Sys2Proof.Machine.execCourseFrame markTs idleNs levels s
  | .unmarkedWrap => Sys2Proof.Machine.execUnmarkedWrap s
  | .courseMasterFrame => Sys2Proof.Machine.execCourseMasterFrame s
  | .contributionDeadline => Sys2Proof.Machine.execContributionDeadline s
  | .voteDeadline => Sys2Proof.Machine.execVoteDeadline s
  | .broadcastDeadline => Sys2Proof.Machine.execBroadcastDeadline s
  | .commitEvent => Sys2Proof.Machine.execCommitEvent s
  | .calibrationTableSwap => Sys2Proof.Machine.execCalibrationTableSwap s
  | .firmwareActivation => Sys2Proof.Machine.execFirmwareActivation s
  | .measurementTrigger => Sys2Proof.Machine.execMeasurementTrigger s
  | .courseScheduledFreeze => Sys2Proof.Machine.execCourseScheduledFreeze s
  | .runEntry => Sys2Proof.Machine.execRunEntry s
  | .doorbell ep addr size value => Sys2Proof.Machine.execDoorbell ep addr size value s
  | .descriptorEntry stream => Sys2Proof.Machine.execDescriptorEntry stream s
  | .descriptorComplete stream hostData errs => Sys2Proof.Machine.execDescriptorComplete stream hostData errs s
  | .streamHalt stream => Sys2Proof.Machine.execStreamHalt stream s
  | .retry stream reserved => Sys2Proof.Machine.execRetry stream reserved s
  | .skip stream reserved => Sys2Proof.Machine.execSkip stream reserved s
  | .streamReset stream reserved => Sys2Proof.Machine.execStreamReset stream reserved s
  | .planLoad => Sys2Proof.Machine.execPlanLoad s
  | .planUnload => Sys2Proof.Machine.execPlanUnload s
  | .planLoadComplete => Sys2Proof.Machine.execPlanLoadComplete s
  | .placement => Sys2Proof.Machine.execPlacement s
  | .arrayOperationStart => Sys2Proof.Machine.execArrayOperationStart s
  | .arrayOperationEnd => Sys2Proof.Machine.execArrayOperationEnd s
  | .strike cell codes overs => Sys2Proof.Machine.execStrike cell codes overs s
  | .digitalSubstitution cell => Sys2Proof.Machine.execDigitalSubstitution cell s
  | .weightWrite cell row wrong => Sys2Proof.Machine.execWeightWrite cell row wrong s
  | .calibrationWave wave meas => Sys2Proof.Machine.execCalibrationWave wave meas s
  | .calibrationDone => Sys2Proof.Machine.execCalibrationDone s
  | .calRunPattern => Sys2Proof.Machine.execCalRunPattern s
  | .calRunResident => Sys2Proof.Machine.execCalRunResident s
  | .residentProbeSet cell codes => Sys2Proof.Machine.execResidentProbeSet cell codes s
  | .bankSettled => Sys2Proof.Machine.execBankSettled s
  | .setFlashWrite die set => Sys2Proof.Machine.execSetFlashWrite die set s
  | .histSave => Sys2Proof.Machine.execHistSave s
  | .histSaveAtBoundary => Sys2Proof.Machine.execHistSaveAtBoundary s
  | .histRestore => Sys2Proof.Machine.execHistRestore s
  | .joint layer kind tileRow tileCol => Sys2Proof.Machine.execJoint layer kind tileRow tileCol s
  | .jointRecord link bytes => Sys2Proof.Machine.execJointRecord link bytes s
  | .recompute microBatch segment => Sys2Proof.Machine.execRecompute microBatch segment s
  | .checkpointPrefetch microBatch => Sys2Proof.Machine.execCheckpointPrefetch microBatch s
  | .localVerdict => Sys2Proof.Machine.execLocalVerdict s
  | .stepVoidReq => Sys2Proof.Machine.execStepVoidReq s
  | .verdictReceived port msg => Sys2Proof.Machine.execVerdictReceived port msg s
  | .decisionReceived port msg => Sys2Proof.Machine.execDecisionReceived port msg s
  | .updateEnd => Sys2Proof.Machine.execUpdateEnd s
  | .writebackEnd => Sys2Proof.Machine.execWritebackEnd s
  | .contributionRecord bytes => Sys2Proof.Machine.execContributionRecord bytes s
  | .lateNotice bytes => Sys2Proof.Machine.execLateNotice bytes s
  | .excludeRecord bytes => Sys2Proof.Machine.execExcludeRecord bytes s
  | .setRecord bytes => Sys2Proof.Machine.execSetRecord bytes s
  | .stageRecord bytes => Sys2Proof.Machine.execStageRecord bytes s
  | .gatherRecord bytes => Sys2Proof.Machine.execGatherRecord bytes s
  | .gatherDeadline => Sys2Proof.Machine.execGatherDeadline s
  | .twinShard bytes => Sys2Proof.Machine.execTwinShard bytes s
  | .twinShardDeadline => Sys2Proof.Machine.execTwinShardDeadline s
  | .twinDelta bytes => Sys2Proof.Machine.execTwinDelta bytes s
  | .rootJob die => Sys2Proof.Machine.execRootJob die s
  | .updImageSave => Sys2Proof.Machine.execUpdImageSave s
  | .updImageRestore region hostOk => Sys2Proof.Machine.execUpdImageRestore region hostOk s
  | .patrolScrub store upsets overtaken => Sys2Proof.Machine.execPatrolScrub store upsets overtaken s
  | .bar2Write ep offset data upsets => Sys2Proof.Machine.execBar2Write ep offset data upsets s
  | .bar2Read ep offset length upsets => Sys2Proof.Machine.execBar2Read ep offset length upsets s
  | .bridgeFlit link words crc => Sys2Proof.Machine.execBridgeFlit link words crc s
  | .portTraining port result => Sys2Proof.Machine.execPortTraining port result s
  | .portTrainingRetry port farIdle => Sys2Proof.Machine.execPortTrainingRetry port farIdle s
  | .dataFlit port bytes fecOk corrected => Sys2Proof.Machine.execDataFlit port bytes fecOk corrected s
  | .idleFlit port bytes fecOk corrected => Sys2Proof.Machine.execIdleFlit port bytes fecOk corrected s
  | .identityFlit port bytes fecOk corrected => Sys2Proof.Machine.execIdentityFlit port bytes fecOk corrected s
  | .identityResend port => Sys2Proof.Machine.execIdentityResend port s
  | .replayTimeout port => Sys2Proof.Machine.execReplayTimeout port s
  | .codewordTimeout port => Sys2Proof.Machine.execCodewordTimeout port s
  | .retrainLimit port => Sys2Proof.Machine.execRetrainLimit port s
  | .reassemblyTimeout side pallet slot cls tag => Sys2Proof.Machine.execReassemblyTimeout side pallet slot cls tag s
  | .discoveryRestart => Sys2Proof.Machine.execDiscoveryRestart s
  | .discoveryWindowEnd => Sys2Proof.Machine.execDiscoveryWindowEnd s
  | .irqStatusClear ep value => Sys2Proof.Machine.execIrqStatusClear ep value s
  | .irqMaskWrite ep value => Sys2Proof.Machine.execIrqMaskWrite ep value s
  | .mboxReqLen ep value => Sys2Proof.Machine.execMboxReqLen ep value s
  | .mailboxResponse ep => Sys2Proof.Machine.execMailboxResponse ep s
  | .coalesceIntervalEnd ep vector => Sys2Proof.Machine.execCoalesceIntervalEnd ep vector s
  | .hostDmaTimeout stream => Sys2Proof.Machine.execHostDmaTimeout stream s
  | .perst ep level => Sys2Proof.Machine.execPerst ep level s
  | .functionLevelReset ep => Sys2Proof.Machine.execFunctionLevelReset ep s
  | .read path req => Sys2Proof.Machine.execRead path req s
  | .readStaged path req => Sys2Proof.Machine.execReadStaged path req s
  | .write path req => Sys2Proof.Machine.execWrite path req s
  | .describe path req => Sys2Proof.Machine.execDescribe path req s
  | .next path req => Sys2Proof.Machine.execNext path req s
  | .sessionOpen path req => Sys2Proof.Machine.execSessionOpen path req s
  | .sessionClose path req => Sys2Proof.Machine.execSessionClose path req s
  | .sessionIdleTimeout sessionId => Sys2Proof.Machine.execSessionIdleTimeout sessionId s
  | .pdxForward path op req => Sys2Proof.Machine.execPdxForward path op req s
  | .forwardTimeout sequence => Sys2Proof.Machine.execForwardTimeout sequence s
  | .cfgCommit => Sys2Proof.Machine.execCfgCommit s
  | .cfgValidationDone => Sys2Proof.Machine.execCfgValidationDone s
  | .cfgDiscard => Sys2Proof.Machine.execCfgDiscard s
  | .cfgStageDefaults => Sys2Proof.Machine.execCfgStageDefaults s
  | .stateReqArm => Sys2Proof.Machine.execStateReqArm s
  | .stateReqHold => Sys2Proof.Machine.execStateReqHold s
  | .ownerKey path authenticated key => Sys2Proof.Machine.execOwnerKey path authenticated key s
  | .adcTrigger group => Sys2Proof.Machine.execAdcTrigger group s
  | .extTrig rising => Sys2Proof.Machine.execExtTrig rising s
  | .timerExpiry timer => Sys2Proof.Machine.execTimerExpiry timer s
  | .samplingGroupDone group rounds => Sys2Proof.Machine.execSamplingGroupDone group rounds s
  | .channelStale channel => Sys2Proof.Machine.execChannelStale channel s
  | .sliceCalibration conv weight => Sys2Proof.Machine.execSliceCalibration conv weight s
  | .levelTick => Sys2Proof.Machine.execLevelTick s
  | .levelEvaluation => Sys2Proof.Machine.execLevelEvaluation s
  | .levelTickLate => Sys2Proof.Machine.execLevelTickLate s
  | .fastClamp hub milliAmps limitMilliAmps => Sys2Proof.Machine.execFastClamp hub milliAmps limitMilliAmps s
  | .throttleIn asserted => Sys2Proof.Machine.execThrottleIn asserted s
  | .tachStall input => Sys2Proof.Machine.execTachStall input s
  | .pmbPoll row status vout iout temp voutMode => Sys2Proof.Machine.execPmbPoll row status vout iout temp voutMode s
  | .pmbXfer bytes reply => Sys2Proof.Machine.execPmbXfer bytes reply s
  | .powerOff => Sys2Proof.Machine.execPowerOff s
  | .resetAssert pwrGood => Sys2Proof.Machine.execResetAssert pwrGood s
  | .resetRelease slotId bondSide refclk => Sys2Proof.Machine.execResetRelease slotId bondSide refclk s
  | .loopsLocked => Sys2Proof.Machine.execLoopsLocked s
  | .firmwareVerified => Sys2Proof.Machine.execFirmwareVerified s
  | .bridgesTrained trained => Sys2Proof.Machine.execBridgesTrained trained s
  | .memoryStepDone stacksOk channels repaired => Sys2Proof.Machine.execMemoryStepDone stacksOk channels repaired s
  | .flashReadsDone => Sys2Proof.Machine.execFlashReadsDone s
  | .refclkLoss => Sys2Proof.Machine.execRefclkLoss s
  | .refclkReturn => Sys2Proof.Machine.execRefclkReturn s
  | .domainSnapshot => Sys2Proof.Machine.execDomainSnapshot s
  | .audit die block data => Sys2Proof.Machine.execAudit die block data s
  | .foremanBound activity resource => Sys2Proof.Machine.execForemanBound activity resource s
  | .spallExport dest => Sys2Proof.Machine.execSpallExport dest s
  | .spallReceived bytes => Sys2Proof.Machine.execSpallReceived bytes s
  | .freezeN level => Sys2Proof.Machine.execFreezeN level s
  | .freezeCmd value => Sys2Proof.Machine.execFreezeCmd value s
  | .freezeAt time => Sys2Proof.Machine.execFreezeAt time s
  | .readoutEnd upsets cycles => Sys2Proof.Machine.execReadoutEnd upsets cycles s
  | .fwStageBegin => Sys2Proof.Machine.execFwStageBegin s
  | .fwStageAbandon => Sys2Proof.Machine.execFwStageAbandon s
  | .fwData piece => Sys2Proof.Machine.execFwData piece s
  | .firmwareStagingGrant flashOk => Sys2Proof.Machine.execFirmwareStagingGrant flashOk s
  | .stagingVerified => Sys2Proof.Machine.execStagingVerified s
  | .fwActivateAt time => Sys2Proof.Machine.execFwActivateAt time s
  | .attestReq nonce => Sys2Proof.Machine.execAttestReq nonce s
  | .attestReport => Sys2Proof.Machine.execAttestReport s
  | .powerUp => Sys2Proof.Machine.execPowerUp s
  | .wrap => Sys2Proof.Machine.execWrap s
  | .loopLockTimeout loop => Sys2Proof.Machine.execLoopLockTimeout loop s
  | .lockLoss loop => Sys2Proof.Machine.execLockLoss loop s
  | .msixTableWrite ep vector dword value => Sys2Proof.Machine.execMsixTableWrite ep vector dword value s
  | .bar0Write ep offset size value => Sys2Proof.Machine.execBar0Write ep offset size value s
  | .arpNdAndEchoRequest frame => Sys2Proof.Machine.execArpNdAndEchoRequest frame s
  | .pdxForwardedResponse bytes => Sys2Proof.Machine.execPdxForwardedResponse bytes s
  | .tachEdge input at10ns => Sys2Proof.Machine.execTachEdge input at10ns s
  | .historyObjectComplete => Sys2Proof.Machine.execHistoryObjectComplete s
  | .paneImageComplete => Sys2Proof.Machine.execPaneImageComplete s

end Sys2Proof.Machine
end

