-- ==== Sys2Proof/Safety.lean ====
section
/-! DEFINITION. Safety.lean: the vocabulary of claims about runs: the invariant that every state of a run meets, the parts of the state,
and for each command the parts and the dictionary entries that it can change. -/
namespace Sys2Proof.Machine

/-! ## The invariant -/

/-- The dictionary in force is in canonical form: each listed key once, in rising order, no value that is the entry's default. -/
def State.dictOk (s : State) : Bool := kvWf pdDefault s.pd

/-- The memory is in canonical form. -/
def State.memOk (s : State) : Bool := Memory.wf s.mem

/-- The pins READY and FAULT_N stand as the table of states sets them (R455): READY in HELD, ARMED, RUN and DRAIN and in no other state but
FROZEN, which keeps it; FAULT_N low in FAULT, high in every other state but FROZEN and COAST, which keep it. -/
def State.pinsOk (s : State) : Bool :=
  (decide (s.mode = .frozen) || s.ready == s.mode.working)
  && (decide (s.mode = .frozen ∨ s.mode = .coast) || s.faultN == decide (s.mode ≠ .fault))

/-- What every step keeps. -/
def State.Inv (s : State) : Bool := s.memOk && s.dictOk && s.pinsOk

/-! ## Parts of the state -/

/-- A part of the state: a field of State, the dictionary values in force apart. -/
inductive Part where
  | mode | resetN | pwrGood | freezeN | slotId | bondSide | ready | faultN | course | events | streams | plan | loading | place | triggers | placeDue
  | placing | placeWait | arrays | cells | cal | layers | widenLog | plumbLog | storm | jointModes | jointParts | jointWaits | backward | frogMost
  | step | exch | upd | mem | memUnit | bridges | link | ep0 | ep1 | dict | meas | clk | faults | freeze | fw | outs | free | pending
  deriving DecidableEq, Repr

/-- A part reads the same in both states. -/
def State.same (s t : State) : Part → Prop
  | .mode => t.mode = s.mode
  | .resetN => t.resetN = s.resetN
  | .pwrGood => t.pwrGood = s.pwrGood
  | .freezeN => t.freezeN = s.freezeN
  | .slotId => t.slotId = s.slotId
  | .bondSide => t.bondSide = s.bondSide
  | .ready => t.ready = s.ready
  | .faultN => t.faultN = s.faultN
  | .course => t.course = s.course
  | .events => t.events = s.events
  | .streams => t.streams = s.streams
  | .plan => t.plan = s.plan
  | .loading => t.loading = s.loading
  | .place => t.place = s.place
  | .triggers => t.triggers = s.triggers
  | .placeDue => t.placeDue = s.placeDue
  | .placing => t.placing = s.placing
  | .placeWait => t.placeWait = s.placeWait
  | .arrays => t.arrays = s.arrays
  | .cells => t.cells = s.cells
  | .cal => t.cal = s.cal
  | .layers => t.layers = s.layers
  | .widenLog => t.widenLog = s.widenLog
  | .plumbLog => t.plumbLog = s.plumbLog
  | .storm => t.storm = s.storm
  | .jointModes => t.jointModes = s.jointModes
  | .jointParts => t.jointParts = s.jointParts
  | .jointWaits => t.jointWaits = s.jointWaits
  | .backward => t.backward = s.backward
  | .frogMost => t.frogMost = s.frogMost
  | .step => t.step = s.step
  | .exch => t.exch = s.exch
  | .upd => t.upd = s.upd
  | .mem => t.mem = s.mem
  | .memUnit => t.memUnit = s.memUnit
  | .bridges => t.bridges = s.bridges
  | .link => t.link = s.link
  | .ep0 => t.ep0 = s.ep0
  | .ep1 => t.ep1 = s.ep1
  | .dict => t.dict = s.dict
  | .meas => t.meas = s.meas
  | .clk => t.clk = s.clk
  | .faults => t.faults = s.faults
  | .freeze => t.freeze = s.freeze
  | .fw => t.fw = s.fw
  | .outs => t.outs = s.outs
  | .free => t.free = s.free
  | .pending => t.pending = s.pending

/-- What may change: parts, and dictionary entries by key (or any entry at all). -/
structure Changes where
  parts : List Part
  entries : List Nat := []
  anyEntry : Bool := false
  deriving DecidableEq, Repr

/-- From `s` to `t` nothing changes but what `c` names: every other part and every other dictionary entry reads as before. -/
def Changes.only (c : Changes) (s t : State) : Prop :=
  (∀ p, p ∉ c.parts → s.same t p) ∧ (c.anyEntry = false → ∀ k, k ∉ c.entries → t.pdGet k = s.pdGet k)

/-! ## What each command can change

A command changes nothing outside its row. A write of the dictionary can change the entry it names, whichever that is, and so can the commit of
a configuration; RESET and loss of power return the dictionary to its reset values. -/

def changesCommand : Instr → Changes
  | .courseFrame _ _ _ =>
    { parts := [.mode, .ready, .faultN, .course, .events, .streams, .triggers, .placeDue, .arrays, .cells, .cal, .layers, .storm, .jointModes,
        .jointParts, .jointWaits, .backward, .step, .exch, .link, .ep0, .ep1, .meas, .faults, .outs, .free]
      entries := [PD.COURSE_HOLDOVER_COUNT, PD.COURSE_LAST_TAG, PD.COURSE_PHASE_ERR, PD.COURSE_FLAGS, PD.COURSE_FRAMES_GOOD, PD.COURSE_CRC_ERR,
        PD.COURSE_DECODE_ERR, PD.COURSE_VERSION_ERR, PD.COURSE_DISCORDANT, PD.COURSE_OUT_OF_WINDOW, PD.COURSE_LOST_ENTRIES,
        PD.EVENT_REJECTED, PD.STEP_ATTEMPT, PD.STEP_OPEN, PD.STEP_REASONS, PD.STEP_LAST_DECISION, PD.VOID_LOCAL, PD.SPALL_NEWEST,
        PD.SPALL_LOST, PD.FW_RESULT] }
  | .unmarkedWrap =>
    { parts := [.mode, .ready, .faultN, .course, .events, .streams, .triggers, .placeDue, .arrays, .cells, .cal, .layers, .storm, .jointModes,
        .jointParts, .jointWaits, .backward, .step, .exch, .link, .ep0, .ep1, .meas, .faults, .outs, .free]
      entries := [PD.COURSE_HOLDOVER_COUNT, PD.COURSE_FLAGS, PD.COURSE_UNMARKED, PD.COURSE_LOST_ENTRIES, PD.EVENT_REJECTED, PD.STEP_ATTEMPT,
        PD.STEP_OPEN, PD.STEP_REASONS, PD.STEP_LAST_DECISION, PD.VOID_LOCAL, PD.SPALL_NEWEST, PD.SPALL_LOST, PD.FW_RESULT] }
  | .courseMasterFrame =>
    { parts := [.mode, .ready, .faultN, .course, .events, .streams, .triggers, .placeDue, .arrays, .cells, .cal, .layers, .storm, .jointModes,
        .jointParts, .jointWaits, .backward, .step, .exch, .link, .ep0, .ep1, .meas, .faults, .outs, .free]
      entries := [PD.COURSE_HOLDOVER_COUNT, PD.COURSE_LAST_TAG, PD.COURSE_PHASE_ERR, PD.COURSE_FLAGS, PD.COURSE_FRAMES_GOOD, PD.COURSE_DISCORDANT,
        PD.COURSE_OUT_OF_WINDOW, PD.COURSE_LOST_ENTRIES, PD.EVENT_REJECTED, PD.STEP_ATTEMPT, PD.STEP_OPEN, PD.STEP_REASONS,
        PD.STEP_LAST_DECISION, PD.VOID_LOCAL, PD.SPALL_NEWEST, PD.SPALL_LOST, PD.FW_RESULT] }
  | .contributionDeadline =>
    { parts := [.course, .events, .streams, .arrays, .cells, .step, .exch, .link, .meas, .faults, .outs]
      entries := [PD.STEP_REASONS, PD.EXCH_UNSENT, PD.EXCH_EMPTY, PD.EXCH_EXCLUDED, PD.BOND_DISAGREE, PD.FLITS_NO_ROUTE] }
  | .voteDeadline =>
    { parts := [.mode, .ready, .faultN, .course, .events, .streams, .triggers, .placeDue, .arrays, .cells, .layers, .storm, .jointModes,
        .jointParts, .jointWaits, .backward, .step, .exch, .link, .ep0, .ep1, .meas, .faults, .outs]
      entries := [PD.EVENT_REJECTED, PD.STEP_ATTEMPT, PD.STEP_OPEN, PD.STEP_REASONS, PD.STEP_LAST_DECISION, PD.VOID_LOCAL, PD.SPALL_NEWEST,
        PD.SPALL_LOST] }
  | .broadcastDeadline =>
    { parts := [.mode, .ready, .faultN, .course, .events, .streams, .triggers, .placeDue, .arrays, .cells, .layers, .storm, .jointModes,
        .jointParts, .jointWaits, .backward, .step, .exch, .link, .ep0, .ep1, .meas, .faults, .outs]
      entries := [PD.STEP_ATTEMPT, PD.STEP_OPEN, PD.STEP_REASONS, PD.STEP_LAST_DECISION, PD.VOID_LOCAL, PD.SPALL_NEWEST, PD.SPALL_LOST] }
  | .commitEvent =>
    { parts := [.mode, .ready, .faultN, .course, .events, .streams, .triggers, .placeDue, .arrays, .cells, .cal, .layers, .storm, .jointModes,
        .jointParts, .jointWaits, .backward, .step, .exch, .upd, .mem, .ep0, .ep1, .dict, .meas, .faults, .fw, .outs]
      anyEntry := true }
  | .calibrationTableSwap =>
    { parts := [.course, .events, .cal, .meas, .outs]
      entries := [PD.CAL_BANK, PD.CAL_SWAPS, PD.CAL_LAST_SWAP] }
  | .firmwareActivation =>
    { parts := [.mode, .ready, .faultN, .course, .events, .streams, .arrays, .cells, .layers, .jointModes, .step, .mem, .link, .ep0, .ep1, .dict,
        .meas, .clk, .faults, .fw, .outs, .free]
      entries := [PD.EVENT_REJECTED, PD.RESET_CAUSE, PD.STEP_OPEN, PD.STEP_REASONS, PD.SPALL_NEWEST, PD.SPALL_LOST, PD.FW_ROLLBACK_MIN,
        PD.FW_STAGE_STATE, PD.FW_RESULT, PD.FW_ACTIVATIONS] }
  | .measurementTrigger =>
    { parts := [.course, .events, .meas, .outs]
      entries := [PD.ADC_URGENT_DROPPED, PD.ADC_TRIGGER_MERGED] }
  | .courseScheduledFreeze =>
    { parts := [.mode, .ready, .faultN, .course, .events, .ep0, .ep1, .meas, .freeze, .outs]
      entries := [PD.COURSE_LOST_ENTRIES, PD.FREEZE_COUNT, PD.FREEZE_IGNORED] }
  | .runEntry =>
    { parts := [.mode, .ready, .faultN, .course, .events, .streams, .step, .ep0, .ep1, .meas, .outs]
      entries := [PD.EVENT_REJECTED, PD.STEP_REASONS] }
  | .doorbell _ _ _ _ =>
    { parts := [.streams, .ep0, .ep1, .outs]
      entries := [PD.DOORBELL_DROPPED, PD.DOORBELL_STALE, PD.STREAM_HALTS] }
  | .descriptorEntry _ =>
    { parts := [.streams, .placing, .placeWait, .arrays, .cells, .step, .mem]
      entries := [PD.DESC_REJECTED, PD.PLACE_WAIT_NS, PD.RESIDENCY_WAITS, PD.ARR_SKIPPED, PD.ARR_SCALE_SPLITS, PD.ARR_DIE_STATS, PD.BED_SPILL_WAITS,
        PD.STEP_OPEN, PD.STEP_REASONS] }
  | .descriptorComplete _ _ _ =>
    { parts := [.mode, .ready, .faultN, .events, .streams, .triggers, .placeDue, .arrays, .cells, .layers, .widenLog, .plumbLog, .storm,
        .jointModes, .jointParts, .jointWaits, .backward, .frogMost, .step, .exch, .upd, .mem, .bridges, .link, .ep0, .ep1, .faults, .outs,
        .free]
      entries := [PD.ESC_CELL_TO_BLOCK, PD.ESC_BLOCK_TO_REGION, PD.ESC_REGION_TO_DEVICE, PD.HOST_DMA_ERR, PD.GROUT_VALUES, PD.GROUT_EXCESS,
        PD.WIDEN_EVENTS, PD.WIDEN_REPEATS, PD.RESCALES, PD.RESCALE_CLIPS, PD.STORMS, PD.PLUMB_EVENTS, PD.REF_TILES, PD.Q_UNDERFLOW,
        PD.Q_NONFINITE, PD.JOINTS_ROUNDED, PD.JOINTS_EXACT, PD.JOINT_EXACT_BYTES, PD.BED_PROMOTIONS, PD.BED_SOLO_PROMOTIONS,
        PD.BED_INEXACT, PD.BED_OVERFLOW, PD.BED_RESIDUE_ERR, PD.BED_PARITY_ERR, PD.BED_SPILL_ROWS, PD.GROUP_SAVES, PD.TOPK_NAN,
        PD.TOPK_ROWS, PD.BWDX_TILES, PD.BWDW_TILES, PD.BWDW_ZERO_BLOCKS, PD.BWDW_REBLOCKED, PD.ACT_DERIV_TILES, PD.ROW_ROWS,
        PD.CKPT_SPILL_BYTES, PD.CKPT_PREFETCH_BYTES, PD.FROG_SPILL_RUNS, PD.FROG_WAITS, PD.FROG_MISSING, PD.ATTN_DROPPED, PD.KEPT_MISSING,
        PD.STEP_ATTEMPT, PD.STEP_OPEN, PD.STEP_REASONS, PD.STEP_LAST_DECISION, PD.VOID_LOCAL, PD.EXCH_EXCLUDED, PD.FLITS_NO_ROUTE,
        PD.GUARD_UNCORRECTABLE, PD.REPEATS_TRANSIENT, PD.REPEATS_CONFIRMED, PD.SUSPECT_RETIREMENTS, PD.ESC_COINCIDENT, PD.SPALL_NEWEST,
        PD.SPALL_LOST] }
  | .streamHalt _ =>
    { parts := [.streams, .ep0, .ep1, .outs]
      entries := [PD.STREAM_HALTS] }
  | .retry _ _ =>
    { parts := [.streams, .cells, .mem]
      entries := [PD.STREAM_CMD_RESULT] }
  | .skip _ _ =>
    { parts := [.streams, .cells, .mem]
      entries := [PD.STREAM_CMD_RESULT] }
  | .streamReset _ _ =>
    { parts := [.streams, .cells, .mem]
      entries := [PD.STREAM_CMD_RESULT] }
  | .planLoad =>
    { parts := [.streams, .plan, .loading, .place, .triggers, .placeDue, .placing, .placeWait, .arrays, .layers, .jointModes, .jointParts,
        .jointWaits, .backward, .frogMost, .exch, .upd, .ep0, .ep1, .outs]
      entries := [PD.PLAN_STATUS] }
  | .planUnload =>
    { parts := [.streams, .plan, .loading, .place, .triggers, .placeDue, .placing, .placeWait, .arrays, .layers, .jointModes, .jointParts,
        .jointWaits, .backward, .frogMost, .exch, .upd, .ep0, .ep1, .outs]
      entries := [PD.PLAN_STATUS] }
  | .planLoadComplete =>
    { parts := [.streams, .plan, .loading, .place, .triggers, .arrays, .cells, .layers, .widenLog, .storm, .jointModes, .upd, .mem, .ep0, .ep1,
        .faults, .outs]
      entries := [PD.PLAN_STATUS, PD.PLAN_FAULTS, PD.PLACE_VERSION, PD.PLACE_TRIGGERS, PD.PLACE_COUNT, PD.ARR_ROWS_UNCHANGED, PD.ARR_DIE_STATS,
        PD.WIDEN_EVENTS, PD.RESCALES, PD.RESCALE_CLIPS, PD.STORMS, PD.Q_UNDERFLOW, PD.W2T_INVALID, PD.STEP_REASONS, PD.QUANT_CODES_CHANGED,
        PD.QUANT_SCALES_REPLACED, PD.SPALL_NEWEST, PD.SPALL_LOST] }
  | .placement =>
    { parts := [.mode, .ready, .faultN, .events, .streams, .place, .triggers, .placeDue, .placing, .arrays, .cells, .layers, .widenLog, .storm,
        .jointModes, .jointParts, .jointWaits, .backward, .step, .exch, .upd, .mem, .link, .ep0, .ep1, .faults, .outs]
      entries := [PD.PLAN_STATUS, PD.PLAN_FAULTS, PD.PLACE_VERSION, PD.PLACE_TRIGGERS, PD.PLACE_COUNT, PD.ARR_ROWS_UNCHANGED, PD.ARR_DIE_STATS,
        PD.WIDEN_EVENTS, PD.RESCALES, PD.RESCALE_CLIPS, PD.STORMS, PD.Q_UNDERFLOW, PD.W2T_INVALID, PD.STEP_ATTEMPT, PD.STEP_OPEN,
        PD.STEP_REASONS, PD.STEP_LAST_DECISION, PD.VOID_LOCAL, PD.QUANT_CODES_CHANGED, PD.QUANT_SCALES_REPLACED, PD.SPALL_NEWEST,
        PD.SPALL_LOST] }
  | .arrayOperationStart =>
    { parts := [.streams, .triggers, .arrays, .cells, .layers, .widenLog, .storm, .backward, .upd, .mem, .ep0, .ep1, .faults, .outs]
      entries := [PD.ARR_SKIPPED, PD.ARR_SCALE_SPLITS, PD.ARR_ROWS_UNCHANGED, PD.ARR_DIE_STATS, PD.GROUT_VALUES, PD.GROUT_EXCESS, PD.WIDEN_EVENTS,
        PD.WIDEN_REPEATS, PD.RESCALES, PD.RESCALE_CLIPS, PD.STORMS, PD.Q_UNDERFLOW, PD.Q_NONFINITE, PD.W2T_INVALID, PD.SCOUT_PASSES,
        PD.STEP_REASONS, PD.QUANT_CODES_CHANGED, PD.QUANT_SCALES_REPLACED, PD.SPALL_NEWEST, PD.SPALL_LOST] }
  | .arrayOperationEnd =>
    { parts := [.streams, .triggers, .arrays, .cells, .layers, .widenLog, .plumbLog, .storm, .backward, .step, .exch, .upd, .mem, .link, .ep0,
        .ep1, .faults, .outs]
      entries := [PD.ARR_SKIPPED, PD.ARR_SCALE_SPLITS, PD.ARR_ROWS_UNCHANGED, PD.ARR_DIE_STATS, PD.GROUT_VALUES, PD.GROUT_EXCESS, PD.WIDEN_EVENTS,
        PD.WIDEN_REPEATS, PD.RESCALES, PD.RESCALE_CLIPS, PD.STORMS, PD.PLUMB_EVENTS, PD.Q_UNDERFLOW, PD.Q_NONFINITE, PD.W2T_INVALID,
        PD.BED_PROMOTIONS, PD.BED_SOLO_PROMOTIONS, PD.BED_INEXACT, PD.BED_OVERFLOW, PD.RECOMPUTE_OPS, PD.STEP_REASONS,
        PD.QUANT_CODES_CHANGED, PD.QUANT_SCALES_REPLACED, PD.FLITS_NO_ROUTE, PD.SPALL_NEWEST, PD.SPALL_LOST] }
  | .strike _ _ _ =>
    { parts := [.mode, .ready, .faultN, .events, .streams, .place, .triggers, .placeDue, .arrays, .cells, .layers, .storm, .jointModes,
        .jointParts, .jointWaits, .backward, .step, .exch, .link, .ep0, .ep1, .faults, .outs]
      entries := [PD.ESC_CELL_TO_BLOCK, PD.ESC_BLOCK_TO_REGION, PD.ESC_REGION_TO_DEVICE, PD.CELL_TAKEOVERS, PD.ARR_STRIKES, PD.ARR_SKIPPED,
        PD.ARR_OVERRANGE, PD.ARR_REPLAY_HALVES, PD.ARR_WIT_MISMATCH, PD.ARR_WIT_RETRY_OK, PD.ARR_FLAG_FAULTS, PD.ARR_DOUBLE_EXTRA,
        PD.ARR_PROMOTIONS, PD.ARR_ROWS_UNCHANGED, PD.ARR_DIE_STATS, PD.Q_NONFINITE, PD.W2T_INVALID, PD.BED_PROMOTIONS,
        PD.BED_SOLO_PROMOTIONS, PD.BED_INEXACT, PD.BED_OVERFLOW, PD.STEP_ATTEMPT, PD.STEP_OPEN, PD.STEP_REASONS, PD.STEP_LAST_DECISION,
        PD.VOID_LOCAL, PD.REPEATS_TRANSIENT, PD.REPEATS_CONFIRMED, PD.SUSPECT_RETIREMENTS, PD.ESC_COINCIDENT, PD.SPALL_NEWEST, PD.SPALL_LOST] }
  | .digitalSubstitution _ =>
    { parts := [.mode, .ready, .faultN, .events, .streams, .triggers, .placeDue, .arrays, .cells, .layers, .storm, .jointModes, .jointParts,
        .jointWaits, .backward, .step, .exch, .link, .ep0, .ep1, .faults, .outs]
      entries := [PD.ESC_BLOCK_TO_REGION, PD.ESC_REGION_TO_DEVICE, PD.ARR_SUBSTITUTED, PD.ARR_PROMOTIONS, PD.ARR_DIE_STATS, PD.Q_NONFINITE,
        PD.BED_PROMOTIONS, PD.BED_SOLO_PROMOTIONS, PD.BED_INEXACT, PD.BED_OVERFLOW, PD.STEP_ATTEMPT, PD.STEP_OPEN, PD.STEP_REASONS,
        PD.STEP_LAST_DECISION, PD.VOID_LOCAL, PD.SPALL_NEWEST, PD.SPALL_LOST] }
  | .weightWrite _ _ _ =>
    { parts := [.mode, .ready, .faultN, .events, .streams, .place, .triggers, .placeDue, .arrays, .cells, .layers, .storm, .jointModes,
        .jointParts, .jointWaits, .backward, .step, .exch, .link, .ep0, .ep1, .faults, .outs]
      entries := [PD.CELL_TAKEOVERS, PD.ARR_ROWS_WRITTEN, PD.ARR_ROWS_UNCHANGED, PD.ARR_VERIFY_FAIL, PD.ARR_WRITE_REMAPS, PD.ARR_WRITE_RETIRES,
        PD.ARR_DIE_STATS, PD.W2T_INVALID, PD.STEP_ATTEMPT, PD.STEP_OPEN, PD.STEP_REASONS, PD.STEP_LAST_DECISION, PD.VOID_LOCAL,
        PD.SPALL_NEWEST, PD.SPALL_LOST] }
  | .calibrationWave _ _ =>
    { parts := [.mode, .ready, .faultN, .events, .streams, .place, .triggers, .placeDue, .arrays, .cells, .cal, .layers, .storm, .jointModes,
        .jointParts, .jointWaits, .backward, .step, .exch, .link, .ep0, .ep1, .faults, .outs]
      entries := [PD.CELL_TAKEOVERS, PD.ARR_ROWS_UNCHANGED, PD.ARR_DIE_STATS, PD.CAL_COLUMNS_FAILED, PD.W2T_INVALID, PD.STEP_ATTEMPT, PD.STEP_OPEN,
        PD.STEP_REASONS, PD.STEP_LAST_DECISION, PD.VOID_LOCAL, PD.SPALL_NEWEST, PD.SPALL_LOST] }
  | .calibrationDone =>
    { parts := [.mode, .ready, .faultN, .triggers, .arrays, .cells, .cal, .layers, .widenLog, .storm, .upd, .mem, .link, .ep0, .ep1, .dict, .clk,
        .faults, .outs, .free]
      entries := [PD.CFG_STATUS, PD.CFG_FAULTS, PD.READY_TIME_MS, PD.ARR_ROWS_UNCHANGED, PD.ARR_DIE_STATS, PD.CAL_BANK, PD.CAL_SWAPS,
        PD.CAL_LAST_SWAP, PD.CAL_RUNS, PD.WIDEN_EVENTS, PD.RESCALES, PD.RESCALE_CLIPS, PD.STORMS, PD.Q_UNDERFLOW, PD.W2T_INVALID,
        PD.STEP_REASONS, PD.QUANT_CODES_CHANGED, PD.QUANT_SCALES_REPLACED, PD.DISCOVERY_STATE, PD.SPALL_NEWEST, PD.SPALL_LOST,
        PD.FW_STAGE_STATE, PD.FW_RESULT] }
  | .calRunPattern =>
    { parts := [.mode, .ready, .faultN, .arrays, .cal, .ep0, .ep1, .faults, .outs]
      entries := [PD.CAL_RUN_RESULT, PD.CAL_COLUMNS_FAILED] }
  | .calRunResident =>
    { parts := [.mode, .ready, .faultN, .arrays, .cal, .ep0, .ep1, .faults, .outs]
      entries := [PD.CAL_RUN_RESULT, PD.CAL_COLUMNS_FAILED] }
  | .residentProbeSet _ _ =>
    { parts := [.triggers, .cal, .ep0, .ep1, .faults, .outs]
      entries := [PD.CAL_RUNS, PD.REPEATS_CONFIRMED, PD.SUSPECT_RETIREMENTS, PD.FOREMAN_LATE, PD.SPALL_NEWEST, PD.SPALL_LOST] }
  | .bankSettled =>
    { parts := [.cal, .faults]
      entries := [PD.CAL_BANK, PD.CAL_SWAPS, PD.CAL_LAST_SWAP, PD.FOREMAN_LATE] }
  | .setFlashWrite _ _ =>
    { parts := [.cal, .mem, .faults]
      entries := [PD.FOREMAN_LATE] }
  | .histSave =>
    { parts := [.step, .upd, .mem, .ep0, .ep1, .outs]
      entries := [PD.HIST_RESULT] }
  | .histSaveAtBoundary =>
    { parts := [.step, .upd, .mem, .ep0, .ep1, .outs]
      entries := [PD.HIST_RESULT] }
  | .histRestore =>
    { parts := [.placeDue, .layers, .upd, .ep0, .ep1, .outs]
      entries := [PD.HIST_RESULT] }
  | .joint _ _ _ _ =>
    { parts := [.streams, .triggers, .arrays, .cells, .layers, .widenLog, .plumbLog, .storm, .jointModes, .jointParts, .jointWaits, .backward,
        .step, .exch, .upd, .mem, .link, .ep0, .ep1, .faults, .outs]
      entries := [PD.GROUT_VALUES, PD.GROUT_EXCESS, PD.WIDEN_EVENTS, PD.WIDEN_REPEATS, PD.RESCALES, PD.RESCALE_CLIPS, PD.STORMS, PD.PLUMB_EVENTS,
        PD.Q_UNDERFLOW, PD.Q_NONFINITE, PD.STEP_REASONS, PD.EXCH_EXCLUDED, PD.FLITS_NO_ROUTE, PD.SPALL_NEWEST, PD.SPALL_LOST] }
  | .jointRecord _ _ =>
    { parts := [.mode, .ready, .faultN, .events, .streams, .triggers, .placeDue, .arrays, .cells, .layers, .storm, .jointModes, .jointParts,
        .jointWaits, .backward, .step, .exch, .bridges, .link, .ep0, .ep1, .faults, .outs]
      entries := [PD.ESC_REGION_TO_DEVICE, PD.STEP_ATTEMPT, PD.STEP_OPEN, PD.STEP_REASONS, PD.STEP_LAST_DECISION, PD.VOID_LOCAL, PD.SPALL_NEWEST,
        PD.SPALL_LOST] }
  | .recompute _ _ =>
    { parts := [.streams, .triggers, .arrays, .cells, .layers, .widenLog, .plumbLog, .storm, .jointModes, .jointParts, .jointWaits, .backward,
        .frogMost, .step, .exch, .upd, .mem, .link, .ep0, .ep1, .faults, .outs, .free]
      entries := [PD.HOST_DMA_ERR, PD.GROUT_VALUES, PD.GROUT_EXCESS, PD.WIDEN_EVENTS, PD.WIDEN_REPEATS, PD.RESCALES, PD.RESCALE_CLIPS, PD.STORMS,
        PD.PLUMB_EVENTS, PD.REF_TILES, PD.Q_UNDERFLOW, PD.Q_NONFINITE, PD.JOINTS_ROUNDED, PD.JOINTS_EXACT, PD.JOINT_EXACT_BYTES,
        PD.BED_PROMOTIONS, PD.BED_SOLO_PROMOTIONS, PD.BED_INEXACT, PD.BED_OVERFLOW, PD.BED_SPILL_ROWS, PD.GROUP_SAVES, PD.TOPK_NAN,
        PD.TOPK_ROWS, PD.BWDX_TILES, PD.BWDW_TILES, PD.BWDW_ZERO_BLOCKS, PD.BWDW_REBLOCKED, PD.ACT_DERIV_TILES, PD.ROW_ROWS,
        PD.RECOMPUTE_OPS, PD.CKPT_SPILL_BYTES, PD.CKPT_PREFETCH_BYTES, PD.CKPT_WAITS, PD.FROG_SPILL_RUNS, PD.FROG_WAITS, PD.FROG_MISSING,
        PD.ATTN_DROPPED, PD.KEPT_MISSING, PD.STEP_REASONS, PD.EXCH_EXCLUDED, PD.FLITS_NO_ROUTE, PD.SPALL_NEWEST, PD.SPALL_LOST] }
  | .checkpointPrefetch _ =>
    { parts := [.backward]
      entries := [PD.HOST_DMA_ERR, PD.CKPT_PREFETCH_BYTES, PD.STEP_REASONS] }
  | .localVerdict =>
    { parts := [.mode, .ready, .faultN, .events, .streams, .triggers, .placeDue, .arrays, .cells, .layers, .widenLog, .storm, .jointModes,
        .jointParts, .jointWaits, .backward, .step, .exch, .upd, .link, .ep0, .ep1, .faults, .outs]
      entries := [PD.EVENT_REJECTED, PD.WIDEN_EVENTS, PD.STORMS, PD.STEP_ATTEMPT, PD.STEP_OPEN, PD.STEP_REASONS,
        PD.STEP_LAST_DECISION, PD.VOID_LOCAL, PD.EXCH_EXCLUDED, PD.FLITS_NO_ROUTE, PD.SPALL_NEWEST, PD.SPALL_LOST] }
  | .stepVoidReq =>
    { parts := [.mode, .ready, .faultN, .events, .streams, .triggers, .placeDue, .arrays, .cells, .layers, .storm, .jointModes, .jointParts,
        .jointWaits, .backward, .step, .exch, .link, .ep0, .ep1, .faults, .outs]
      entries := [PD.EVENT_REJECTED, PD.STEP_ATTEMPT, PD.STEP_OPEN, PD.STEP_REASONS, PD.STEP_LAST_DECISION, PD.VOID_LOCAL, PD.VOTE_CMD_IGNORED,
        PD.SPALL_NEWEST, PD.SPALL_LOST] }
  | .verdictReceived _ _ =>
    { parts := [.mode, .ready, .faultN, .events, .streams, .triggers, .placeDue, .arrays, .cells, .layers, .storm, .jointModes, .jointParts,
        .jointWaits, .backward, .step, .exch, .link, .ep0, .ep1, .faults, .outs]
      entries := [PD.EVENT_REJECTED, PD.STEP_ATTEMPT, PD.STEP_OPEN, PD.STEP_REASONS, PD.STEP_LAST_DECISION, PD.VOID_LOCAL, PD.VERDICTS_LATE,
        PD.VOTE_MSG_ERR, PD.SPALL_NEWEST, PD.SPALL_LOST] }
  | .decisionReceived _ _ =>
    { parts := [.mode, .ready, .faultN, .events, .streams, .triggers, .placeDue, .arrays, .cells, .layers, .storm, .jointModes, .jointParts,
        .jointWaits, .backward, .step, .exch, .link, .ep0, .ep1, .faults, .outs]
      entries := [PD.EVENT_REJECTED, PD.STEP_ATTEMPT, PD.STEP_OPEN, PD.STEP_REASONS, PD.STEP_LAST_DECISION, PD.VOID_LOCAL, PD.VOTE_MSG_ERR,
        PD.SPALL_NEWEST, PD.SPALL_LOST] }
  | .updateEnd =>
    { parts := [.triggers, .arrays, .cells, .layers, .widenLog, .storm, .step, .upd, .mem, .link, .ep0, .ep1, .faults, .outs]
      entries := [PD.ARR_ROWS_UNCHANGED, PD.ARR_DIE_STATS, PD.WIDEN_EVENTS, PD.RESCALES, PD.RESCALE_CLIPS, PD.STORMS, PD.Q_UNDERFLOW, PD.W2T_INVALID,
        PD.STEP_REASONS, PD.ROOT_OVERRUN, PD.QUANT_CODES_CHANGED, PD.QUANT_SCALES_REPLACED, PD.FLITS_NO_ROUTE, PD.SPALL_NEWEST,
        PD.SPALL_LOST] }
  | .writebackEnd =>
    { parts := [.mode, .ready, .faultN, .course, .events, .streams, .triggers, .arrays, .cells, .layers, .widenLog, .storm, .jointModes, .step,
        .upd, .mem, .link, .ep0, .ep1, .dict, .clk, .faults, .fw, .outs, .free]
      entries := [PD.HOST_DMA_ERR, PD.EVENT_REJECTED, PD.RESET_CAUSE, PD.ARR_ROWS_UNCHANGED, PD.ARR_DIE_STATS, PD.WIDEN_EVENTS, PD.RESCALES,
        PD.RESCALE_CLIPS, PD.STORMS, PD.HIST_RESULT, PD.Q_UNDERFLOW, PD.W2T_INVALID, PD.STEP_OPEN, PD.STEP_REASONS, PD.UPD_IMAGE_RESULT,
        PD.QUANT_CODES_CHANGED, PD.QUANT_SCALES_REPLACED, PD.SPALL_NEWEST, PD.SPALL_LOST, PD.FW_ROLLBACK_MIN, PD.FW_STAGE_STATE,
        PD.FW_RESULT, PD.FW_ACTIVATIONS] }
  | .contributionRecord _ =>
    { parts := [.exch, .link, .outs]
      entries := [PD.STEP_REASONS, PD.EXCH_RECORDS, PD.EXCH_LATE, PD.EXCH_NOTICE_LATE, PD.EXCH_EXCLUDED, PD.EXCH_REC_ERR, PD.EXCH_STALE,
        PD.FLITS_NO_ROUTE] }
  | .lateNotice _ =>
    { parts := [.exch, .link]
      entries := [PD.EXCH_RECORDS, PD.EXCH_NOTICE_LATE, PD.EXCH_REC_ERR, PD.EXCH_STALE] }
  | .excludeRecord _ =>
    { parts := [.exch, .link, .outs]
      entries := [PD.EXCH_RECORDS, PD.EXCH_LATE, PD.EXCH_NOTICE_LATE, PD.EXCH_EXCLUDED, PD.EXCH_REC_ERR, PD.EXCH_STALE, PD.FLITS_NO_ROUTE] }
  | .setRecord _ =>
    { parts := [.exch, .link, .outs]
      entries := [PD.EXCH_RECORDS, PD.EXCH_LATE, PD.EXCH_NOTICE_LATE, PD.EXCH_REC_ERR, PD.EXCH_STALE, PD.FLITS_NO_ROUTE] }
  | .stageRecord _ =>
    { parts := [.exch, .mem, .link, .outs]
      entries := [PD.EXCH_RECORDS, PD.EXCH_NOTICE_LATE, PD.EXCH_REC_ERR, PD.EXCH_STALE, PD.STAGE_TILES] }
  | .gatherRecord _ =>
    { parts := [.triggers, .arrays, .cells, .layers, .widenLog, .storm, .exch, .upd, .mem, .link, .ep0, .ep1, .faults, .outs]
      entries := [PD.ARR_ROWS_UNCHANGED, PD.ARR_DIE_STATS, PD.WIDEN_EVENTS, PD.RESCALES, PD.RESCALE_CLIPS, PD.STORMS, PD.Q_UNDERFLOW, PD.W2T_INVALID,
        PD.STEP_REASONS, PD.EXCH_RECORDS, PD.EXCH_NOTICE_LATE, PD.EXCH_REC_ERR, PD.EXCH_STALE, PD.QUANT_CODES_CHANGED,
        PD.QUANT_SCALES_REPLACED, PD.SPALL_NEWEST, PD.SPALL_LOST] }
  | .gatherDeadline =>
    { parts := [.mode, .ready, .faultN, .course, .events, .streams, .triggers, .placeDue, .arrays, .cells, .layers, .storm, .jointModes,
        .jointParts, .jointWaits, .backward, .step, .exch, .link, .ep0, .ep1, .meas, .faults, .outs]
      entries := [PD.STEP_ATTEMPT, PD.STEP_OPEN, PD.STEP_REASONS, PD.STEP_LAST_DECISION, PD.VOID_LOCAL, PD.GATHER_MISSING, PD.SPALL_NEWEST,
        PD.SPALL_LOST] }
  | .twinShard _ =>
    { parts := [.exch, .link, .faults]
      entries := [PD.STEP_REASONS, PD.EXCH_RECORDS, PD.EXCH_NOTICE_LATE, PD.EXCH_REC_ERR, PD.EXCH_STALE, PD.BOND_DISAGREE] }
  | .twinShardDeadline =>
    { parts := [.course, .events, .step, .meas, .outs]
      entries := [PD.STEP_REASONS] }
  | .twinDelta _ =>
    { parts := [.exch, .upd, .link]
      entries := [PD.EXCH_RECORDS, PD.EXCH_NOTICE_LATE, PD.EXCH_REC_ERR, PD.EXCH_STALE] }
  | .rootJob _ =>
    { parts := [.upd]
      entries := [PD.ROOT_FIRST, PD.ROOT_DAMPED, PD.ROOT_KEPT, PD.ROOT_DIAG, PD.ROOT_ZERO] }
  | .updImageSave =>
    { parts := [.step, .upd, .ep0, .ep1, .outs]
      entries := [PD.HOST_DMA_ERR, PD.UPD_IMAGE_RESULT] }
  | .updImageRestore _ _ =>
    { parts := [.triggers, .arrays, .cells, .layers, .widenLog, .storm, .upd, .mem, .ep0, .ep1, .faults, .outs]
      entries := [PD.HOST_DMA_ERR, PD.ARR_ROWS_UNCHANGED, PD.ARR_DIE_STATS, PD.WIDEN_EVENTS, PD.RESCALES, PD.RESCALE_CLIPS, PD.STORMS,
        PD.Q_UNDERFLOW, PD.W2T_INVALID, PD.STEP_REASONS, PD.UPD_IMAGE_RESULT, PD.QUANT_CODES_CHANGED, PD.QUANT_SCALES_REPLACED,
        PD.SPALL_NEWEST, PD.SPALL_LOST] }
  | .patrolScrub _ _ _ =>
    { parts := [.mode, .ready, .faultN, .events, .streams, .triggers, .placeDue, .arrays, .cells, .layers, .storm, .jointModes, .jointParts,
        .jointWaits, .backward, .step, .exch, .mem, .memUnit, .link, .ep0, .ep1, .faults, .outs]
      entries := [PD.ESC_REGION_TO_DEVICE, PD.STEP_ATTEMPT, PD.STEP_OPEN, PD.STEP_REASONS, PD.STEP_LAST_DECISION, PD.VOID_LOCAL, PD.GUARD_CORRECTED,
        PD.GUARD_UNCORRECTABLE, PD.GUARD_REISSUE_OK, PD.SEAL_MISMATCH, PD.SEAL_REPAIRED, PD.SCRUB_WRITEBACKS, PD.SCRUB_WRITEBACK_DROPPED,
        PD.FOREMAN_LATE, PD.SPALL_NEWEST, PD.SPALL_LOST] }
  | .bar2Write _ _ _ _ =>
    { parts := [.mode, .ready, .faultN, .events, .streams, .triggers, .placeDue, .arrays, .cells, .layers, .storm, .jointModes, .jointParts,
        .jointWaits, .backward, .step, .exch, .mem, .memUnit, .link, .ep0, .ep1, .faults, .outs]
      entries := [PD.ESC_REGION_TO_DEVICE, PD.STEP_ATTEMPT, PD.STEP_OPEN, PD.STEP_REASONS, PD.STEP_LAST_DECISION, PD.VOID_LOCAL, PD.GUARD_CORRECTED,
        PD.GUARD_UNCORRECTABLE, PD.GUARD_REISSUE_OK, PD.SEAL_MISMATCH, PD.SEAL_REPAIRED, PD.BAR2_DISCARDED, PD.SPALL_NEWEST, PD.SPALL_LOST] }
  | .bar2Read _ _ _ _ =>
    { parts := [.mode, .ready, .faultN, .events, .streams, .triggers, .placeDue, .arrays, .cells, .layers, .storm, .jointModes, .jointParts,
        .jointWaits, .backward, .step, .exch, .memUnit, .link, .ep0, .ep1, .faults, .outs]
      entries := [PD.ESC_REGION_TO_DEVICE, PD.STEP_ATTEMPT, PD.STEP_OPEN, PD.STEP_REASONS, PD.STEP_LAST_DECISION, PD.VOID_LOCAL, PD.GUARD_CORRECTED,
        PD.GUARD_UNCORRECTABLE, PD.GUARD_REISSUE_OK, PD.SEAL_MISMATCH, PD.SEAL_REPAIRED, PD.BAR2_ABORTS, PD.SPALL_NEWEST, PD.SPALL_LOST] }
  | .bridgeFlit _ _ _ =>
    { parts := [.mode, .ready, .faultN, .events, .streams, .triggers, .placeDue, .arrays, .cells, .layers, .storm, .jointModes, .jointParts,
        .jointWaits, .backward, .step, .exch, .bridges, .link, .ep0, .ep1, .faults, .outs]
      entries := [PD.ESC_REGION_TO_DEVICE, PD.STEP_ATTEMPT, PD.STEP_OPEN, PD.STEP_REASONS, PD.STEP_LAST_DECISION, PD.VOID_LOCAL, PD.SPALL_NEWEST,
        PD.SPALL_LOST] }
  | .portTraining _ _ =>
    { parts := [.link, .outs] }
  | .portTrainingRetry _ _ =>
    { parts := [.link] }
  | .dataFlit _ _ _ _ =>
    { parts := [.link, .outs]
      entries := [PD.FEC_CORRECTED, PD.FEC_UNCORRECTABLE, PD.FLIT_CRC_ERR, PD.FLIT_REPLAYS, PD.LINK_RETRAINS, PD.FLITS_FORWARDED, PD.FLITS_NO_ROUTE] }
  | .idleFlit _ _ _ _ =>
    { parts := [.link, .outs]
      entries := [PD.FEC_CORRECTED, PD.FEC_UNCORRECTABLE, PD.FLIT_CRC_ERR, PD.FLIT_REPLAYS, PD.LINK_RETRAINS] }
  | .identityFlit _ _ _ _ =>
    { parts := [.mode, .ready, .faultN, .events, .streams, .triggers, .placeDue, .arrays, .cells, .layers, .storm, .jointModes, .jointParts,
        .jointWaits, .backward, .step, .exch, .link, .ep0, .ep1, .faults, .outs]
      entries := [PD.STEP_ATTEMPT, PD.STEP_OPEN, PD.STEP_REASONS, PD.STEP_LAST_DECISION, PD.VOID_LOCAL, PD.DISCOVERY_STATE, PD.FEC_CORRECTED,
        PD.FEC_UNCORRECTABLE, PD.FLIT_CRC_ERR, PD.FLIT_REPLAYS, PD.LINK_RETRAINS, PD.FLITS_FLUSHED, PD.IDENTITY_CHANGES, PD.SPALL_NEWEST,
        PD.SPALL_LOST] }
  | .identityResend _ =>
    { parts := [.outs] }
  | .replayTimeout _ =>
    { parts := [.link, .outs]
      entries := [PD.FLIT_REPLAYS, PD.LINK_RETRAINS] }
  | .codewordTimeout _ =>
    { parts := [.link]
      entries := [PD.LINK_RETRAINS] }
  | .retrainLimit _ =>
    { parts := [.link, .ep0, .ep1, .faults, .outs]
      entries := [PD.LINK_DROPS, PD.FLITS_NO_ROUTE, PD.FLITS_FLUSHED, PD.SPALL_NEWEST, PD.SPALL_LOST] }
  | .reassemblyTimeout _ _ _ _ _ =>
    { parts := [.link]
      entries := [PD.MSG_REASSEMBLY_DROPS] }
  | .discoveryRestart =>
    { parts := [.link, .ep0, .ep1, .outs]
      entries := [PD.DISCOVERY_STATE] }
  | .discoveryWindowEnd =>
    { parts := [.link, .ep0, .ep1, .outs]
      entries := [PD.DISCOVERY_STATE] }
  | .irqStatusClear _ _ =>
    { parts := [.ep0, .ep1] }
  | .irqMaskWrite _ _ =>
    { parts := [.ep0, .ep1, .outs] }
  | .mboxReqLen _ _ =>
    { parts := [.ep0, .ep1, .dict]
      entries := [PD.MBOX_DROPPED] }
  | .mailboxResponse _ =>
    { parts := [.mode, .ready, .faultN, .course, .events, .streams, .plan, .loading, .place, .triggers, .placeDue, .placing, .placeWait, .arrays,
        .cells, .cal, .layers, .storm, .jointModes, .jointParts, .jointWaits, .backward, .frogMost, .step, .exch, .upd, .mem, .link, .ep0,
        .ep1, .dict, .meas, .faults, .freeze, .fw, .outs, .free]
      anyEntry := true }
  | .coalesceIntervalEnd _ _ =>
    { parts := [.ep0, .ep1, .outs] }
  | .hostDmaTimeout _ =>
    { parts := [.streams, .cells, .mem]
      entries := [PD.HOST_DMA_ERR, PD.STEP_REASONS] }
  | .perst _ _ =>
    { parts := [.ep0, .ep1, .dict] }
  | .functionLevelReset _ =>
    { parts := [.ep0, .ep1, .dict] }
  | .read _ _ =>
    { parts := [.mode, .ready, .faultN, .course, .events, .streams, .plan, .loading, .place, .triggers, .placeDue, .placing, .placeWait, .arrays,
        .cells, .cal, .layers, .storm, .jointModes, .jointParts, .jointWaits, .backward, .frogMost, .step, .exch, .upd, .mem, .link, .ep0,
        .ep1, .dict, .meas, .faults, .freeze, .fw, .outs, .free]
      anyEntry := true }
  | .readStaged _ _ =>
    { parts := [.mode, .ready, .faultN, .course, .events, .streams, .plan, .loading, .place, .triggers, .placeDue, .placing, .placeWait, .arrays,
        .cells, .cal, .layers, .storm, .jointModes, .jointParts, .jointWaits, .backward, .frogMost, .step, .exch, .upd, .mem, .link, .ep0,
        .ep1, .dict, .meas, .faults, .freeze, .fw, .outs, .free]
      anyEntry := true }
  | .write _ _ =>
    { parts := [.mode, .ready, .faultN, .course, .events, .streams, .plan, .loading, .place, .triggers, .placeDue, .placing, .placeWait, .arrays,
        .cells, .cal, .layers, .storm, .jointModes, .jointParts, .jointWaits, .backward, .frogMost, .step, .exch, .upd, .mem, .link, .ep0,
        .ep1, .dict, .meas, .faults, .freeze, .fw, .outs, .free]
      anyEntry := true }
  | .describe _ _ =>
    { parts := [.mode, .ready, .faultN, .course, .events, .streams, .plan, .loading, .place, .triggers, .placeDue, .placing, .placeWait, .arrays,
        .cells, .cal, .layers, .storm, .jointModes, .jointParts, .jointWaits, .backward, .frogMost, .step, .exch, .upd, .mem, .link, .ep0,
        .ep1, .dict, .meas, .faults, .freeze, .fw, .outs, .free]
      anyEntry := true }
  | .next _ _ =>
    { parts := [.mode, .ready, .faultN, .course, .events, .streams, .plan, .loading, .place, .triggers, .placeDue, .placing, .placeWait, .arrays,
        .cells, .cal, .layers, .storm, .jointModes, .jointParts, .jointWaits, .backward, .frogMost, .step, .exch, .upd, .mem, .link, .ep0,
        .ep1, .dict, .meas, .faults, .freeze, .fw, .outs, .free]
      anyEntry := true }
  | .sessionOpen _ _ =>
    { parts := [.mode, .ready, .faultN, .course, .events, .streams, .plan, .loading, .place, .triggers, .placeDue, .placing, .placeWait, .arrays,
        .cells, .cal, .layers, .storm, .jointModes, .jointParts, .jointWaits, .backward, .frogMost, .step, .exch, .upd, .mem, .link, .ep0,
        .ep1, .dict, .meas, .faults, .freeze, .fw, .outs, .free]
      anyEntry := true }
  | .sessionClose _ _ =>
    { parts := [.mode, .ready, .faultN, .course, .events, .streams, .plan, .loading, .place, .triggers, .placeDue, .placing, .placeWait, .arrays,
        .cells, .cal, .layers, .storm, .jointModes, .jointParts, .jointWaits, .backward, .frogMost, .step, .exch, .upd, .mem, .link, .ep0,
        .ep1, .dict, .meas, .faults, .freeze, .fw, .outs, .free]
      anyEntry := true }
  | .sessionIdleTimeout _ =>
    { parts := [.course, .dict, .meas, .outs] }
  | .pdxForward _ _ _ =>
    { parts := [.mode, .ready, .faultN, .course, .events, .streams, .plan, .loading, .place, .triggers, .placeDue, .placing, .placeWait, .arrays,
        .cells, .cal, .layers, .storm, .jointModes, .jointParts, .jointWaits, .backward, .frogMost, .step, .exch, .upd, .mem, .link, .ep0,
        .ep1, .dict, .meas, .faults, .freeze, .fw, .outs, .free]
      anyEntry := true }
  | .forwardTimeout _ =>
    { parts := [.link, .dict, .outs]
      entries := [PD.FLITS_NO_ROUTE, PD.PDX_FRAMES] }
  | .cfgCommit =>
    { parts := [.ep0, .ep1, .dict, .outs]
      entries := [PD.CFG_STATUS, PD.CFG_CMD_RESULT] }
  | .cfgValidationDone =>
    { parts := [.course, .events, .link, .ep0, .ep1, .dict, .meas, .outs]
      anyEntry := true }
  | .cfgDiscard =>
    { parts := [.ep0, .ep1, .dict, .outs]
      entries := [PD.CFG_STATUS, PD.CFG_CMD_RESULT] }
  | .cfgStageDefaults =>
    { parts := [.ep0, .ep1, .dict, .outs]
      entries := [PD.CFG_STATUS, PD.CFG_CMD_RESULT] }
  | .stateReqArm =>
    { parts := [.mode, .ready, .faultN, .events, .streams, .arrays, .cells, .step, .ep0, .ep1, .faults, .outs]
      entries := [PD.STATE_REQ_RESULT, PD.STEP_NUMBER, PD.STEP_ATTEMPT, PD.STEP_OPEN, PD.STEP_REASONS] }
  | .stateReqHold =>
    { parts := [.mode, .ready, .faultN, .events, .streams, .arrays, .cells, .step, .ep0, .ep1, .faults, .outs]
      entries := [PD.STATE_REQ_RESULT, PD.STEP_NUMBER, PD.STEP_ATTEMPT, PD.STEP_OPEN, PD.STEP_REASONS] }
  | .ownerKey _ _ _ =>
    { parts := [.dict] }
  | .adcTrigger _ =>
    { parts := [.meas]
      entries := [PD.ADC_TRIGGER_RESULT, PD.ADC_URGENT_DROPPED, PD.ADC_TRIGGER_MERGED] }
  | .extTrig _ =>
    { parts := [.meas]
      entries := [PD.ADC_URGENT_DROPPED, PD.ADC_TRIGGER_MERGED] }
  | .timerExpiry _ =>
    { parts := [.course, .meas, .outs]
      entries := [PD.ADC_URGENT_DROPPED, PD.ADC_TRIGGER_MERGED] }
  | .samplingGroupDone _ _ =>
    { parts := [.course, .cal, .meas, .faults, .outs]
      entries := [PD.ADC_RANGE_FLAGS, PD.ADC_SAMPLES, PD.FOREMAN_LATE] }
  | .channelStale _ =>
    { parts := [.meas] }
  | .sliceCalibration _ _ =>
    { parts := [.meas, .faults]
      entries := [PD.FOREMAN_LATE] }
  | .levelTick =>
    { parts := [.meas]
      entries := [PD.ADC_URGENT_DROPPED, PD.ADC_TRIGGER_MERGED] }
  | .levelEvaluation =>
    { parts := [.mode, .ready, .faultN, .events, .streams, .triggers, .placeDue, .arrays, .cells, .layers, .storm, .jointModes, .jointParts,
        .jointWaits, .backward, .step, .exch, .link, .ep0, .ep1, .meas, .faults, .freeze, .outs]
      entries := [PD.STEP_ATTEMPT, PD.STEP_OPEN, PD.STEP_REASONS, PD.STEP_LAST_DECISION, PD.VOID_LOCAL, PD.ADC_URGENT_DROPPED, PD.ADC_TRIGGER_MERGED,
        PD.LEVEL_F, PD.LEVEL_P1, PD.LEVEL_ALARMS, PD.LEVEL_THROTTLE_TICKS, PD.SPALL_NEWEST, PD.SPALL_LOST] }
  | .levelTickLate =>
    { parts := [.mode, .ready, .faultN, .events, .streams, .triggers, .placeDue, .arrays, .cells, .layers, .storm, .jointModes, .jointParts,
        .jointWaits, .backward, .step, .exch, .link, .ep0, .ep1, .meas, .faults, .freeze, .outs]
      entries := [PD.STEP_ATTEMPT, PD.STEP_OPEN, PD.STEP_REASONS, PD.STEP_LAST_DECISION, PD.VOID_LOCAL, PD.ADC_URGENT_DROPPED, PD.ADC_TRIGGER_MERGED,
        PD.LEVEL_F, PD.LEVEL_ALARMS, PD.LEVEL_TICKS_LATE, PD.LEVEL_THROTTLE_TICKS, PD.SPALL_NEWEST, PD.SPALL_LOST] }
  | .fastClamp _ _ _ =>
    { parts := [.ep0, .ep1, .meas, .outs, .free]
      entries := [PD.ADC_URGENT_DROPPED, PD.ADC_TRIGGER_MERGED, PD.LEVEL_F, PD.LEVEL_FAST_CLAMPS] }
  | .throttleIn _ =>
    { parts := [.ep0, .ep1, .meas, .outs]
      entries := [PD.ADC_URGENT_DROPPED, PD.ADC_TRIGGER_MERGED] }
  | .tachStall _ =>
    { parts := [.meas] }
  | .pmbPoll _ _ _ _ _ _ =>
    { parts := [.meas, .outs]
      entries := [PD.PMB_ERRORS] }
  | .pmbXfer _ _ =>
    { parts := [.meas, .outs]
      entries := [PD.PMB_XFER_RESULT, PD.PMB_ERRORS] }
  | .powerOff =>
    { parts := [.mode, .resetN, .pwrGood, .slotId, .bondSide, .ready, .faultN, .course, .events, .streams, .plan, .loading, .place, .triggers,
        .placeDue, .placing, .placeWait, .arrays, .cells, .cal, .layers, .widenLog, .plumbLog, .storm, .jointModes, .jointParts,
        .jointWaits, .backward, .frogMost, .step, .exch, .upd, .mem, .memUnit, .bridges, .link, .ep0, .ep1, .dict, .meas, .clk, .faults,
        .freeze, .fw]
      anyEntry := true }
  | .resetAssert _ =>
    { parts := [.mode, .resetN, .pwrGood, .slotId, .bondSide, .ready, .faultN, .course, .events, .streams, .plan, .loading, .place, .triggers,
        .placeDue, .placing, .placeWait, .arrays, .cells, .cal, .layers, .widenLog, .plumbLog, .storm, .jointModes, .jointParts,
        .jointWaits, .backward, .frogMost, .step, .exch, .upd, .mem, .memUnit, .bridges, .link, .ep0, .ep1, .dict, .meas, .clk, .faults,
        .freeze, .fw]
      anyEntry := true }
  | .resetRelease _ _ _ =>
    { parts := [.mode, .resetN, .pwrGood, .slotId, .bondSide, .ready, .faultN, .ep0, .ep1, .clk, .outs] }
  | .loopsLocked =>
    { parts := [.clk, .free] }
  | .firmwareVerified =>
    { parts := [.mode, .ready, .faultN, .ep0, .ep1, .clk, .faults, .fw, .outs, .free]
      entries := [PD.SPALL_NEWEST, PD.SPALL_LOST, PD.FW_STAGE_STATE, PD.FW_RESULT] }
  | .bridgesTrained _ =>
    { parts := [.mode, .ready, .faultN, .events, .streams, .triggers, .placeDue, .arrays, .cells, .layers, .storm, .jointModes, .jointParts,
        .jointWaits, .backward, .step, .exch, .link, .ep0, .ep1, .clk, .faults, .freeze, .outs, .free]
      entries := [PD.STEP_ATTEMPT, PD.STEP_OPEN, PD.STEP_REASONS, PD.STEP_LAST_DECISION, PD.VOID_LOCAL, PD.SPALL_NEWEST, PD.SPALL_LOST] }
  | .memoryStepDone _ _ _ =>
    { parts := [.mode, .ready, .faultN, .events, .streams, .triggers, .placeDue, .arrays, .cells, .cal, .layers, .storm, .jointModes, .jointParts,
        .jointWaits, .backward, .step, .exch, .mem, .memUnit, .link, .ep0, .ep1, .clk, .faults, .freeze, .outs, .free]
      entries := [PD.HEALTH_DIE_MASK, PD.CAL_COLUMNS_FAILED, PD.STEP_ATTEMPT, PD.STEP_OPEN, PD.STEP_REASONS, PD.STEP_LAST_DECISION, PD.VOID_LOCAL,
        PD.SLOW_CAPACITY, PD.SPALL_NEWEST, PD.SPALL_LOST] }
  | .flashReadsDone =>
    { parts := [.mode, .ready, .faultN, .arrays, .cal, .ep0, .ep1, .clk, .faults, .fw, .outs, .free]
      entries := [PD.CAL_COLUMNS_FAILED, PD.CAL_SET_RESTORED, PD.CAL_SET_BAD, PD.SPALL_NEWEST, PD.SPALL_LOST, PD.FW_STAGE_STATE, PD.FW_RESULT] }
  | .refclkLoss =>
    { parts := [.mode, .ready, .faultN, .course, .events, .streams, .triggers, .placeDue, .arrays, .cells, .cal, .layers, .storm, .jointModes,
        .jointParts, .jointWaits, .backward, .step, .exch, .link, .ep0, .ep1, .meas, .clk, .faults, .outs, .free]
      entries := [PD.COURSE_LOST_ENTRIES, PD.EVENT_REJECTED, PD.REFCLK_LOSSES, PD.STEP_ATTEMPT, PD.STEP_OPEN, PD.STEP_REASONS, PD.STEP_LAST_DECISION,
        PD.VOID_LOCAL, PD.SPALL_NEWEST, PD.SPALL_LOST, PD.FW_RESULT] }
  | .refclkReturn =>
    { parts := [.mode, .ready, .faultN, .course, .events, .arrays, .cal, .link, .ep0, .ep1, .clk, .outs, .free]
      entries := [PD.EVENT_REJECTED, PD.COAST_NS, PD.CAL_COLUMNS_FAILED, PD.DISCOVERY_STATE] }
  | .domainSnapshot =>
    { parts := [.clk] }
  | .audit _ _ _ =>
    { parts := [.triggers, .exch, .ep0, .ep1, .faults, .outs]
      entries := [PD.STEP_REASONS, PD.AUDITS_DONE, PD.AUDITS_ABANDONED, PD.AUDIT_MISMATCHES, PD.AUDIT_DRIFTS, PD.REPEATS_TRANSIENT,
        PD.REPEATS_CONFIRMED, PD.SUSPECT_RETIREMENTS, PD.FOREMAN_LATE, PD.SPALL_NEWEST, PD.SPALL_LOST] }
  | .foremanBound _ _ =>
    { parts := [.faults] }
  | .spallExport _ =>
    { parts := [.mem, .link, .faults, .outs]
      entries := [PD.HOST_DMA_ERR, PD.FLITS_NO_ROUTE, PD.FOREMAN_LATE, PD.SPALL_FLASH_NEXT] }
  | .spallReceived _ =>
    { parts := [.link, .ep0, .ep1, .faults, .outs]
      entries := [PD.SPALL_LOST] }
  | .freezeN _ =>
    { parts := [.mode, .freezeN, .ready, .faultN, .course, .events, .streams, .triggers, .placeDue, .arrays, .cells, .cal, .layers, .storm,
        .jointModes, .jointParts, .jointWaits, .backward, .step, .exch, .link, .ep0, .ep1, .faults, .freeze, .outs, .free]
      entries := [PD.COURSE_LOST_ENTRIES, PD.EVENT_REJECTED, PD.STEP_ATTEMPT, PD.STEP_OPEN, PD.STEP_REASONS, PD.STEP_LAST_DECISION, PD.VOID_LOCAL,
        PD.SPALL_NEWEST, PD.SPALL_LOST, PD.FREEZE_COUNT, PD.FREEZE_IGNORED, PD.FW_RESULT] }
  | .freezeCmd _ =>
    { parts := [.mode, .ready, .faultN, .course, .ep0, .ep1, .freeze, .outs]
      entries := [PD.COURSE_LOST_ENTRIES, PD.FREEZE_COUNT, PD.FREEZE_IGNORED] }
  | .freezeAt _ =>
    { parts := [.events]
      entries := [PD.EVENT_REJECTED, PD.FREEZE_RESULT] }
  | .readoutEnd _ _ =>
    { parts := [.mode, .ready, .faultN, .course, .events, .streams, .triggers, .placeDue, .arrays, .cells, .cal, .layers, .storm, .jointModes,
        .jointParts, .jointWaits, .backward, .step, .exch, .link, .ep0, .ep1, .faults, .freeze, .outs, .free]
      entries := [PD.EVENT_REJECTED, PD.STEP_ATTEMPT, PD.STEP_OPEN, PD.STEP_REASONS, PD.STEP_LAST_DECISION, PD.VOID_LOCAL, PD.SPALL_NEWEST,
        PD.SPALL_LOST, PD.FW_RESULT] }
  | .fwStageBegin =>
    { parts := [.events, .ep0, .ep1, .faults, .fw, .outs, .free]
      entries := [PD.SPALL_NEWEST, PD.SPALL_LOST, PD.FW_RECEIVED, PD.FW_STAGE_STATE, PD.FW_RESULT, PD.FW_STAGED_DIGEST] }
  | .fwStageAbandon =>
    { parts := [.ep0, .ep1, .faults, .fw, .outs, .free]
      entries := [PD.SPALL_NEWEST, PD.SPALL_LOST, PD.FW_STAGE_STATE, PD.FW_RESULT] }
  | .fwData _ =>
    { parts := [.ep0, .ep1, .faults, .fw, .outs, .free]
      entries := [PD.SPALL_NEWEST, PD.SPALL_LOST, PD.FW_RECEIVED, PD.FW_STAGE_STATE, PD.FW_RESULT, PD.FW_PIECES_DISCARDED] }
  | .firmwareStagingGrant _ =>
    { parts := [.mem, .ep0, .ep1, .faults, .fw, .outs, .free]
      entries := [PD.FOREMAN_LATE, PD.SPALL_NEWEST, PD.SPALL_LOST, PD.FW_STAGE_STATE, PD.FW_RESULT] }
  | .stagingVerified =>
    { parts := [.mode, .ready, .faultN, .ep0, .ep1, .clk, .faults, .fw, .outs, .free]
      entries := [PD.RESET_CAUSE, PD.SPALL_NEWEST, PD.SPALL_LOST, PD.FW_STAGE_STATE, PD.FW_RESULT, PD.FW_STAGED_DIGEST] }
  | .fwActivateAt _ =>
    { parts := [.events, .ep0, .ep1, .outs]
      entries := [PD.EVENT_REJECTED, PD.FW_RESULT] }
  | .attestReq _ =>
    { parts := [.fw]
      entries := [PD.ATTEST_RESULT] }
  | .attestReport =>
    { parts := [.fw, .free]
      entries := [PD.ATTEST_RESULT, PD.ATTEST_REPORT] }
  | .powerUp =>
    { parts := [.mode, .resetN, .pwrGood, .slotId, .bondSide, .ready, .faultN, .course, .events, .streams, .plan, .loading, .place, .triggers,
        .placeDue, .placing, .placeWait, .arrays, .cells, .cal, .layers, .widenLog, .plumbLog, .storm, .jointModes, .jointParts,
        .jointWaits, .backward, .frogMost, .step, .exch, .upd, .mem, .memUnit, .bridges, .link, .ep0, .ep1, .dict, .meas, .clk, .faults,
        .freeze, .fw]
      anyEntry := true }
  | .wrap =>
    { parts := [.course, .meas, .outs] }
  | .loopLockTimeout _ =>
    { parts := [.mode, .ready, .faultN, .events, .streams, .triggers, .placeDue, .arrays, .cells, .layers, .storm, .jointModes, .jointParts,
        .jointWaits, .backward, .step, .exch, .link, .ep0, .ep1, .clk, .faults, .freeze, .outs, .free]
      entries := [PD.STEP_ATTEMPT, PD.STEP_OPEN, PD.STEP_REASONS, PD.STEP_LAST_DECISION, PD.VOID_LOCAL, PD.SPALL_NEWEST, PD.SPALL_LOST] }
  | .lockLoss _ =>
    { parts := []
      entries := [PD.LOCK_LOSSES] }
  | .msixTableWrite _ _ _ _ =>
    { parts := [.ep0, .ep1, .outs] }
  | .bar0Write _ _ _ _ =>
    { parts := [.streams, .ep0, .ep1, .dict, .outs]
      entries := [PD.BAR0_DISCARDED, PD.MBOX_DROPPED, PD.DOORBELL_DROPPED, PD.DOORBELL_STALE, PD.STREAM_HALTS] }
  | .arpNdAndEchoRequest _ =>
    { parts := [.outs] }
  | .pdxForwardedResponse _ =>
    { parts := [.link, .dict, .outs]
      entries := [PD.FLITS_NO_ROUTE] }
  | .tachEdge _ _ =>
    { parts := [.course, .meas, .outs] }
  | .historyObjectComplete =>
    { parts := [.upd, .ep0, .ep1, .outs]
      entries := [PD.HIST_RESULT, PD.HIST_LENGTH] }
  | .paneImageComplete =>
    { parts := [.upd, .ep0, .ep1, .outs]
      entries := [PD.UPD_IMAGE_RESULT, PD.UPD_IMAGE_LENGTH] }

end Sys2Proof.Machine
end

