-- ==== Sys2Proof/Certificates/Slice0/Obligations.lean ====
section
/-! DEFINITION. Certificates/Slice0/Obligations.lean: the statements about the block, for the provers. A statement about a command says what
the command does on the states it names; what it may change beside that is stated once for every command (CommandsChangeOnlyTheirRow). -/

open Sys2Proof Sys2Proof.Machine

/-- A step takes the command at the front of the queue and runs it with the queue's rest (the block's form, log 1). Derived from: 00_scope.md,
    98_reader.md. -/
def Obligations.StepRunsFrontCommand : Prop :=
  ∀ (c : Instr) (cs : List Instr) (s : State), step { s with pending := c :: cs } = exec c { s with pending := cs }

/-- On an empty queue one hub cycle passes: the model's choice of what an idle step does (log 4). Derived from: R42, R43,
    02_course_time_base.md. -/
def Obligations.IdleStepPassesOneHubCycle : Prop :=
  ∀ s : State, s.pending = [] → ∃ t, step s = .next t
    ∧ (s.clk.refclk = true → s.mode ≠ .off → s.mode ≠ .frozen → t.course.now = s.course.now + 1)
    ∧ (s.clk.refclk = false ∨ s.mode = .off ∨ s.mode = .frozen → t = s)

/-- Right after reset the invariant holds, the module is in RESET, and dictionary and memory read their defaults. Derived from: R347, R399,
    R455, 18_clocks_reset_and_start.md. -/
def Obligations.ResetHoldsInvariantAndDefaults : Prop :=
  State.reset.Inv = true ∧ State.reset.mode = .reset ∧ State.reset.ready = false ∧ State.reset.faultN = true ∧ State.reset.pending = []
    ∧ (∀ k, State.reset.pdGet k = pdDefault k)
    ∧ ∀ store addr, State.reset.readByte store addr = memDefault (memKey store addr)

/-- Every step keeps memory and dictionary in canonical form and the pins READY and FAULT_N in agreement with the module state. Derived from:
    R347, R401, R455, 18_clocks_reset_and_start.md. -/
def Obligations.EveryStepKeepsInvariant : Prop :=
  ∀ s t : State, s.Inv = true → step s = .next t → t.Inv = true

/-- Every command leaves unchanged each part of the state and each dictionary entry that its row of changesCommand does not name. Derived from:
    R36, R399, R455, 16_parameter_dictionary.md. -/
def Obligations.CommandsChangeOnlyTheirRow : Prop :=
  (∀ (i : Instr) (s t : State), s.dictOk = true → exec i s = .next t → (changesCommand i).only s t)
  ∧ ∀ i : Instr, Part.pending ∉ (changesCommand i).parts

/-- A command ends in a fault only at BAR2 offsets beyond the 64 GiB of BAR2, and no command is refused. Derived from: R352, R353,
    13_memory_tiers.md. -/
def Obligations.OnlyUnreachableBar2AccessesStop : Prop :=
  ∀ (i : Instr) (s : State), (∃ t, exec i s = .next t)
    ∨ (exec i s = .fault .outsideBar2 ∧ match i with
        | .bar2Write _ o d _ => 2 ^ 36 < o + d.length
        | .bar2Read _ o n _ => 2 ^ 36 < o + n
        | _ => False)

/-- What has left the module stays sent: every command only appends to the record of what left, in order (log 3). Derived from: R56, R390, R416,
    R497, 00_scope.md. -/
def Obligations.NothingSentIsTakenBack : Prop :=
  ∀ (i : Instr) (s t : State), exec i s = .next t → s.outs <+: t.outs

/-- A course frame encoded bit by bit as it is sent decodes to the number, version 1 and the tag it was sent with. Derived from: R38, R39, R40,
    R41, 02_course_time_base.md. -/
def Obligations.CourseFrameDecodesWhatWasSent : Prop :=
  ∀ (number : BitVec 48) (tag : Byte),
    frameResult ((frameBits number tag.toNat).flatMap fun b => [!b, b]) = .good ⟨number, 1, tag⟩

/-- A received course frame is accepted and counted, or discarded, counted by its error and without a mark. Rules: R41. -/
def Obligations.FramesAreDiscardedOrAccepted : Prop :=
  ∀ (s : State) (ts idle : Nat) (levels : List Bool), s.dictOk = true → s.listening = true → s.course.master = none → 2000 ≤ idle →
    ∃ t, exec (.courseFrame ts idle levels) s = .next t ∧
      match frameResult levels with
      | .decodeErr => t.num PD.COURSE_DECODE_ERR = (s.num PD.COURSE_DECODE_ERR + 1) % 2 ^ 64 ∧ t.course = s.course.runTo (ts + 9600)
      | .crcErr => t.num PD.COURSE_CRC_ERR = (s.num PD.COURSE_CRC_ERR + 1) % 2 ^ 64 ∧ t.course = s.course.runTo (ts + 9600)
      | .versionErr => t.num PD.COURSE_VERSION_ERR = (s.num PD.COURSE_VERSION_ERR + 1) % 2 ^ 64 ∧ t.course = s.course.runTo (ts + 9600)
      | .good p => t.num PD.COURSE_FRAMES_GOOD = (s.num PD.COURSE_FRAMES_GOOD + 1) % 2 ^ 64 ∧ t.num PD.COURSE_LAST_TAG = p.tag.toNat

/-- An in-window mark leaves the unit LOCKED, updates P by (C - P)/16 to nearest even and starts the slew of its phase error. Derived from: R44,
    R45, R49, 02_course_time_base.md. -/
def Obligations.InWindowMarkKeepsOrRegainsLock : Prop :=
  ∀ (s : State) (ts idle : Nat) (levels : List Bool) (p : CoursePayload), s.dictOk = true → s.listening = true → s.course.master = none →
    2000 ≤ idle → s.timed = true → frameResult levels = .good p →
    let c := s.course.runTo (ts + 9600)
    let m := ts - s.num PD.COURSE_IN_DELAY_NS
    let near := (posOf c.segs m + 2 ^ 47) / 2 ^ 48
    let e : Int := (posOf c.segs m : Int) - ((near * 2 ^ 48 : Nat) : Int)
    p.number = BitVec.ofNat 48 near → e.natAbs < 0x0400 * 2 ^ 32 →
    ∃ t, exec (.courseFrame ts idle levels) s = .next t
      ∧ t.course.st = .locked ∧ t.course.lastUsed = some (p.number, m) ∧ t.course.judged = p.number ∧ t.course.oow = 0
      ∧ (∀ n' t', c.lastUsed = some (n', t') → p.number = n' + 1 → t' ≤ m →
          let d : Int := (m - t' : Nat) * 65536 - c.period
          let q : Int := t.course.period - c.period
          2 * (16 * q - d).natAbs ≤ 16 ∧ (2 * (16 * q - d).natAbs = 16 → q % 2 = 0))
      ∧ ((∀ n' t', c.lastUsed = some (n', t') → p.number ≠ n' + 1) → t.course.period = c.period)
      ∧ (∃ f, t.course.segs.head? = some ⟨c.now, c.pos, f, e, ceilDiv (0x4000 * 2 ^ 32) (max f 1)⟩
          ∧ (t.course.period ≠ c.period → f = rne (2 ^ 64) t.course.period % 2 ^ 40))
      ∧ (s.course.st = .holdover → t.num PD.COURSE_HOLDOVER_COUNT = 0 ∧ t.num PD.COURSE_FLAGS = 0)

/-- A slew adds whole units that sum to -E exactly over N cycles, leaves f alone afterwards, and never holds or turns published time back.
    Rules: R45. -/
def Obligations.SlewRemovesTheErrorExactly : Prop :=
  (∀ g : Seg, 2 ≤ g.freq → 0 < g.slewN → 16 * g.slewE.natAbs < g.slewN * g.freq →
    (∀ i, i < g.slewN → (g.posAt (g.start + i + 1) : Int)
        = g.posAt (g.start + i) + (g.freq + -g.slewE * (i + 1 : Nat) / g.slewN - -g.slewE * i / g.slewN))
    ∧ (g.posAt (g.start + g.slewN) : Int) = (g.pos + g.slewN * g.freq : Nat) - g.slewE
    ∧ (∀ t, g.start + g.slewN ≤ t → g.posAt (t + 1) = g.posAt t + g.freq)
    ∧ (∀ t, g.start ≤ t → g.posAt t < g.posAt (t + 1)))
  ∧ ∀ (f : Nat) (E : Int), 0 < f → E.natAbs < 0x0400 * 2 ^ 32 → 16 * E.natAbs < ceilDiv (0x4000 * 2 ^ 32) f * f

/-- The cycle at which the block fires an event is the first hub cycle on which published time equals or passes its CTIME. Rules: R54. -/
def Obligations.EventsFireAtTheFirstCycleThatReachesThem : Prop :=
  (∀ (c : Course) (g : Seg) (gs : List Seg) (p : Nat), c.segs = g :: gs → g.start ≤ c.now → c.pos = g.posAt c.now → 2 ≤ g.freq →
    0 < g.slewN → g.slewN ≤ 2 ^ 46 → 16 * g.slewE.natAbs < g.slewN * g.freq →
    (p ≤ c.pos → c.cycleOf p = c.now)
    ∧ (c.pos < p → c.now < c.cycleOf p ∧ p ≤ posOf c.segs (c.cycleOf p)
        ∧ ∀ u, c.now ≤ u → u < c.cycleOf p → posOf c.segs u < p))
  ∧ ∀ (s : State) (k : EventKind) (e : Event), s.timed = true → s.mode.hubRuns = true → firstEvent s.events = some e → e.kind = k →
    ∃ t, s.fire k = some (e, t) ∧ t.course = s.course.runTo (s.course.cycleOf (e.time.toNat * 2 ^ 32))

/-- An unmarked wrap puts a LOCKED unit in HOLDOVER with its flag and counts in the holdover count up to the limit. Derived from: R49, R50,
    02_course_time_base.md. -/
def Obligations.UnmarkedWrapsLeadToHoldover : Prop :=
  ∀ s : State, s.dictOk = true → s.timed = true → s.listening = true → s.num PD.COURSE_HOLDOVER_COUNT + 1 ≤ s.num PD.COURSE_HOLDOVER_LIMIT →
    s.num PD.COURSE_HOLDOVER_COUNT + 1 < 65536 →
    ∃ t, exec .unmarkedWrap s = .next t ∧ t.course.st = .holdover
      ∧ (s.course.st = .locked → t.num PD.COURSE_FLAGS = 1)
      ∧ t.num PD.COURSE_HOLDOVER_COUNT = s.num PD.COURSE_HOLDOVER_COUNT + 1
      ∧ t.num PD.COURSE_UNMARKED = (s.num PD.COURSE_UNMARKED + 1) % 2 ^ 64
      ∧ t.course.judged = s.course.judged + 1 ∧ t.course.segs = s.course.segs ∧ t.course.period = s.course.period

/-- Past the holdover limit the unit goes through LOST: no event stays queued, no step stays open, ARMED, RUN and DRAIN become HELD. Derived
    from: R46, R47, R50, R52, 02_course_time_base.md. -/
def Obligations.LossOfCourseCancelsEventsAndHolds : Prop :=
  ∀ s : State, s.dictOk = true → s.timed = true → s.listening = true → s.num PD.COURSE_HOLDOVER_LIMIT < s.num PD.COURSE_HOLDOVER_COUNT + 1 →
    ∃ t, exec .unmarkedWrap s = .next t
      ∧ t.num PD.COURSE_LOST_ENTRIES = (s.num PD.COURSE_LOST_ENTRIES + 1) % 2 ^ 64
      ∧ t.events = [] ∧ t.step.opened = false ∧ t.course.segs = []
      ∧ t.mode = (match s.mode with
        | .armed | .run | .drain => .held
        | m => m)
      ∧ t.course.st = (if s.course.configured then .acquiring else .unlocked)
      ∧ ∃ n, t.course.time = (s.course.runTo n).time

/-- A wrap comes at the next carry out of the accumulator: the course counter counts one, COURSE_AUX pulses once, aligned timers restart. Rules:
    R43. -/
def Obligations.WrapIncrementsTheCourseCounter : Prop :=
  ∀ (s : State) (g : Seg) (gs : List Seg), s.timed = true → s.listening = true → s.course.segs = g :: gs → g.start ≤ s.course.now →
    s.course.pos = g.posAt s.course.now → 2 ≤ g.freq → g.freq < 2 ^ 40 → 0 < g.slewN → g.slewN ≤ 2 ^ 46 →
    16 * g.slewE.natAbs < g.slewN * g.freq → s.course.count.toNat + 1 < 2 ^ 48 →
     ∃ t, exec .wrap s = .next t ∧ t.course.count = s.course.count + 1 ∧ t.course.acc.toNat < 2 ^ 41
      ∧ s.course.now < t.course.now ∧ (∀ u, s.course.now ≤ u → u < t.course.now → posOf s.course.segs u < (s.course.count.toNat + 1) * 2 ^ 48)
      ∧ t.outs = s.outs ++ (match (s.rows PD.BALL_SELECT)[9]? with
          | some [b] => if b < 8 ∧ b ∉ s.dict.heldBalls ∧ s.mode ≠ .frozen then [.courseAux] else []
          | _ => [])
      ∧ ∀ i r, i < 16 → (s.rows PD.TIMER_TABLE)[i]? = some r → r.getD 1 0 ≠ 0 → t.course.now < g.start + 2 ^ 64 →
          kvGet (fun _ => 0) t.meas.timers i = t.course.now

/-- A course master sends its next frame with the next number, plans the following one a period later, and takes its own mark. Derived from:
    R56, R57, R60, 02_course_time_base.md. -/
def Obligations.MasterSendsNumberedFramesAtItsPeriod : Prop :=
  ∀ (s : State) (m : Master), s.dictOk = true → s.course.master = some m → s.drivesCourse = true → s.course.now ≤ m.start →
    ∃ t, exec .courseMasterFrame s = .next t
      ∧ (s.runTo m.start).outs ++ [.courseOut (frameBits m.nextNumber (s.num PD.COURSE_MASTER_TAG))] <+: t.outs
      ∧ t.course.master = some ⟨m.nextNumber + 1, s.num PD.COURSE_PERIOD_NS, m.start + s.num PD.COURSE_PERIOD_NS⟩
      ∧ (s.listening = true → t.num PD.COURSE_FRAMES_GOOD = (s.num PD.COURSE_FRAMES_GOOD + 1) % 2 ^ 64
          ∧ t.num PD.COURSE_LAST_TAG = s.num PD.COURSE_MASTER_TAG % 256)

/-- The event queue tests an entry in the order of R53, counts a refusal, and fires the earliest, by rank, then by order of entry. Derived from:
    R53, R55, 02_course_time_base.md. -/
def Obligations.QueueRefusesInOrderAndFiresTheFirst : Prop :=
  (∀ (s : State) (e : Event), s.dictOk = true →
    (s.present e).1 = (if s.timed = false then .notLocked else if e.time.toNat ≤ s.ctime.toNat then .past
        else if s.ctime.toNat + 2 ^ 24 * 65536 < e.time.toNat then .tooFar else if 1024 ≤ s.events.length then .full else .ok)
    ∧ ((s.present e).1 = .ok → (s.present e).2.events = s.events ++ [e] ∧ (s.present e).2.num PD.EVENT_REJECTED = s.num PD.EVENT_REJECTED)
    ∧ ((s.present e).1 ≠ .ok → (s.present e).2.events = s.events
        ∧ (s.present e).2.num PD.EVENT_REJECTED = (s.num PD.EVENT_REJECTED + 1) % 2 ^ 64))
  ∧ (∀ (es : List Event) (e : Event), firstEvent es = some e →
      ∃ l r, es = l ++ e :: r
        ∧ (∀ f, f ∈ l → e.time.toNat < f.time.toNat ∨ (e.time.toNat = f.time.toNat ∧ e.kind.rank < f.kind.rank))
        ∧ ∀ f, f ∈ r → e.time.toNat < f.time.toNat ∨ (e.time.toNat = f.time.toNat ∧ e.kind.rank ≤ f.kind.rank))
  ∧ ([EventKind.contribution, .vote, .commit, .swap, .firmware, .measure, .freeze].map EventKind.rank).Pairwise (· < ·)

/-- What C, D_v, D_b, the twin deadline and G do when they fire: streams reset, MISSING_VERDICT, local void, BOND, HELD. Derived from: R285,
    R286, R288, R304, R314, R315, 10_training_step.md, 11_gradient_exchange.md. -/
def Obligations.DeadlinesOfAnAttemptAct : Prop :=
  ∀ s s1 : State, s1.dictOk = true →
    (s.fireDeadline .contribution = some s1 → s1.step.attempt = true → ∃ t, exec .contributionDeadline s = .next t
      ∧ t.step.deadlinePassed = true ∧ t.arrays.op = none
      ∧ ∀ p, p ∈ t.streams → p.2.st = .undefined ∨ (p.2.st = .idle ∧ p.2.head = p.2.tail ∧ p.2.entered = [] ∧ p.2.groups = []))
    ∧ (s.fireDeadline .vote = some s1 → s1.step.attempt = true → s1.isRoot = false → s1.step.sent = false →
        ∃ t, exec .voteDeadline s = .next t ∧ t.step.sent = true)
    ∧ (s.fireDeadline .vote = some s1 → s1.step.attempt = true → s1.isRoot = true → s1.step.decision = none → s1.timed = true →
        let c := s1.ceilTime + BitVec.ofNat 64 (s1.num PD.VOTE_COMMIT_LEAD)
        s1.ctime.toNat < c.toNat → c.toNat ≤ s1.ctime.toNat + 2 ^ 24 * 65536 → s1.events.length < 1024 →
        ∃ t d, exec .voteDeadline s = .next t ∧ t.step.decision = some d ∧ d.void = true ∧ bit d.reasons rsMissing = true ∧ d.time = c
          ∧ t.events = s1.events ++ [⟨c, .commit, 0, 1⟩])
    ∧ (s.fireDeadline .broadcast = some s1 → s1.step.attempt = true → s1.step.decision = none →
        ∃ t, exec .broadcastDeadline s = .next t ∧ t.mode = .held ∧ t.step.opened = false ∧ t.step.attempt = false
          ∧ t.num PD.VOID_LOCAL = (s1.num PD.VOID_LOCAL + 1) % 2 ^ 64)
    ∧ (s.fireDeadline .twinShard = some s1 → s1.bonded = true → s1.twinMissing = true → s1.step.attempt = true →
        ∃ t, exec .twinShardDeadline s = .next t ∧ t.num PD.STEP_REASONS = orBit (s1.num PD.STEP_REASONS) rsBond)
    ∧ (s.fireDeadline .gather = some s1 → s1.exch.awaited ≠ [] →
        ∃ t, exec .gatherDeadline s = .next t ∧ t.exch.awaited = []
          ∧ t.num PD.GATHER_MISSING = (s1.num PD.GATHER_MISSING + s1.exch.awaited.length) % 2 ^ 64
          ∧ (s1.mode = .run ∨ s1.mode = .drain ∨ s1.mode = .armed → t.mode = .held))

/-- What the queued swap, activation, measurement and freeze do when they are the first event to fire, and the entry to RUN. Derived from: R167,
    R303, R431, R456, R458, R489, R490, R491, R511, 06_array_calibration.md, 18_clocks_reset_and_start.md, 20_freeze_and_readout.md. -/
def Obligations.ScheduledEventsTakeEffectInTheirOrder : Prop :=
  ∀ (s : State) (e : Event), s.dictOk = true → s.timed = true → s.mode.hubRuns = true → firstEvent s.events = some e →
    (e.kind = .swap → s.cal.idle = .queued → ∃ t, exec .calibrationTableSwap s = .next t
      ∧ t.num PD.CAL_BANK = 1 - s.num PD.CAL_BANK ∧ t.num PD.CAL_SWAPS = (s.num PD.CAL_SWAPS + 1) % 2 ^ 64
      ∧ t.num PD.CAL_LAST_SWAP = e.time.toNat ∧ t.cal.idle = .free)
    ∧ (e.kind = .firmware → s.mode = .run ∨ s.mode = .drain → ∃ t, exec .firmwareActivation s = .next t
      ∧ t.fw.due = true ∧ t.num PD.FW_RESULT = 1 ∧ t.mode = s.mode)
    ∧ (e.kind = .firmware → s.mode = .held ∨ s.mode = .armed → ∃ t, exec .firmwareActivation s = .next t
      ∧ t.mode = .boot ∧ t.num PD.RESET_CAUSE = 3 ∧ t.num PD.FW_ACTIVATIONS = (s.num PD.FW_ACTIVATIONS + 1) % 2 ^ 64 ∧ t.events = [])
    ∧ (e.kind = .measure → e.owner < 16 → s.groupCol e.owner 0 = 1 → (∀ r, r ∈ s.meas.running → r.1 ≠ e.owner) → e.owner ∉ s.meas.waiting →
        s.convsFree e.owner = true → ∃ t, exec .measurementTrigger s = .next t
      ∧ t.meas.running = s.meas.running ++ [(e.owner, t.course.now)]
      ∧ (e.interval ≠ 0 → ({ e with time := e.time + BitVec.ofNat 64 (e.interval * 65536) } : Event) ∈ t.events))
    ∧ (e.kind = .freeze → s.mode.freezes = true → ∃ t, exec .courseScheduledFreeze s = .next t
      ∧ t.mode = .frozen ∧ t.num PD.FREEZE_COUNT = (s.num PD.FREEZE_COUNT + 1) % 2 ^ 64 ∧ t.freeze.trigger = 2 ∧ t.freeze.from_ = s.mode
      ∧ t.course.st = .lost ∧ t.course.segs = [])
    ∧ (s.mode = .armed →
        let T : CTime := BitVec.ofNat 64 (s.num PD.EXCH_FIRST_DEADLINE) - BitVec.ofNat 64 (s.num PD.EXCH_PERIOD)
        (s.num PD.EXCH_FIRST_DEADLINE < s.num PD.EXCH_PERIOD ∨ T.toNat ≤ s.ctime.toNat ∨ ∀ f, f ∈ s.events → T.toNat ≤ f.time.toNat) →
        ∃ t, exec .runEntry s = .next t ∧ t.mode = .run ∧ t.step.attempt = true ∧ t.step.tBase = T
          ∧ t.step.contribution = T + BitVec.ofNat 64 (s.num PD.EXCH_PERIOD))

/-- The commit event applies the decision: COMMIT moves to the next step and starts UPDATE, VOID keeps the step and counts the attempt. Derived
    from: R275, R289, R290, R291, R292, R303, 10_training_step.md. -/
def Obligations.DecisionsTakeEffectAtCommitTime : Prop :=
  ∀ (s : State) (e : Event) (d : Decision), s.dictOk = true → s.timed = true → s.mode.hubRuns = true → firstEvent s.events = some e →
    e.kind = .commit → s.step.decision = some d →
    (d.void = false → s.dict.waiting = none → ∃ t, exec .commitEvent s = .next t
      ∧ t.num PD.STEP_NUMBER = (s.num PD.STEP_NUMBER + 1) % 2 ^ 48 ∧ t.num PD.STEP_ATTEMPT = 0
      ∧ t.num PD.STEPS_COMMITTED = (s.num PD.STEPS_COMMITTED + 1) % 2 ^ 64 ∧ t.num PD.STEP_LAST_DECISION = 1
      ∧ t.step.updating = true ∧ t.step.opened = false ∧ t.mode = s.mode ∧ (t.step.attempt = true ↔ s.mode = .run)
      ∧ (s.mode = .run → t.step.tBase = d.time))
    ∧ (d.void = true → ∃ t, exec .commitEvent s = .next t
      ∧ t.num PD.STEP_NUMBER = s.num PD.STEP_NUMBER ∧ t.num PD.STEP_ATTEMPT = (s.num PD.STEP_ATTEMPT + 1) % 2 ^ 16
      ∧ t.num PD.STEPS_VOIDED = (s.num PD.STEPS_VOIDED + 1) % 2 ^ 64 ∧ t.num PD.STEP_LAST_DECISION = 2 ∧ t.step.opened = false
      ∧ (if s.step.holdAtVerdict ∨ bit d.reasons rsMissing ∨ bit d.reasons rsCourse
            ∨ s.num PD.VOTE_MAX_ATTEMPTS ≤ (s.num PD.STEP_ATTEMPT + 1) % 2 ^ 16 ∨ s.mode = .drain
          then t.mode = .held ∧ t.step.attempt = false
          else t.mode = s.mode ∧ (t.step.attempt = true ↔ s.mode = .run) ∧ (s.mode = .run → t.step.tBase = d.time)))

/-- A doorbell is dropped, has no effect, is stale, overruns the ring, or sets TAIL, by the five checks in their order. Derived from: R75, R88,
    R396, 03_stations_and_streams.md. -/
def Obligations.DoorbellsAreAppliedInTheOrderOfTheChecks : Prop :=
  ∀ (s : State) (ep : Ep) (addr size : Nat) (v : W64), s.dictOk = true →
     (s.ep ep).linkUp = true → (s.ep ep).ready = true → s.mode.hubRuns = true → s.mode ≠ .boot → s.mode ≠ .loader →
    let n := v.toNat % 2 ^ 18
    let T : W32 := BitVec.ofNat 32 (v.toNat / 2 ^ 32)
    let t := s.stream n
    (((s.streamDef n).all fun d => size ≠ 8 || addr % 8 ≠ 0 || v.toNat / 2 ^ 18 % 2 ^ 14 ≠ 0 || !d.hostFed || !(if ep = 0 then d.ep0 else d.ep1)) = true →
      ∃ u, exec (.doorbell ep addr size v) s = .next u ∧ u.streams = s.streams ∧ u.num PD.DOORBELL_DROPPED = (s.num PD.DOORBELL_DROPPED + 1) % 2 ^ 64)
    ∧ ∀ d, s.streamDef n = some d → size = 8 → addr % 8 = 0 → v.toNat / 2 ^ 18 % 2 ^ 14 = 0 → d.hostFed = true → (if ep = 0 then d.ep0 else d.ep1) = true →
      ∃ u, exec (.doorbell ep addr size v) s = .next u
        ∧ (T = t.tail → u = s)
        ∧ (T ≠ t.tail → 2 ^ 31 ≤ (T - t.tail).toNat → u.streams = s.streams ∧ u.num PD.DOORBELL_STALE = (s.num PD.DOORBELL_STALE + 1) % 2 ^ 64)
        ∧ (T ≠ t.tail → (T - t.tail).toNat < 2 ^ 31 → 2 ^ d.ringCode < (T - t.head).toNat →
            (u.stream n).tail = t.tail ∧ (u.stream n).head = t.head
            ∧ (t.st = .halted → (u.stream n).st = .halted ∧ (u.stream n).error = 0x30 ∧ (u.stream n).errIndex = t.head)
            ∧ (t.st ≠ .halted → t.failing = none → (u.stream n).failing.map (·.status) = some 0x30))
        ∧ (T ≠ t.tail → (T - t.tail).toNat < 2 ^ 31 → (T - t.head).toNat ≤ 2 ^ d.ringCode →
            u.stream n = { t with tail := T, st := if t.st = .idle then .active else t.st })

/-- The front descriptor halts the stream on a failed check, blocks it on an unmet wait or fence, or enters behind those entered. Derived from:
    R74, R78, R82, R88, 03_stations_and_streams.md. -/
def Obligations.DescriptorsFailWaitOrEnterInRingOrder : Prop :=
  ∀ (s : State) (n : Nat) (df : StreamDef), s.dictOk = true → s.streamDef n = some df →
    s.mode = .run ∨ s.mode = .drain ∧ s.step.opened = true → s.step.attempt = true → s.step.deadlinePassed = false →
    let t := s.stream n
    let index := t.head + BitVec.ofNat 32 t.entered.length
    t.st = .active ∨ t.st = .blocked → t.failing = none → index ≠ t.tail →
    let w := t.front.getD (s.readSlot n df index)
    let d := descOf w
    let c := if t.front.isSome || (!df.hostFed && decide (df.station = stReduce ∧ d.opcode = 4)) then 0 else s.entryCheck n df t.entryView w
    (c ≠ 0 → ∃ u, exec (.descriptorEntry n) s = .next u ∧ u.num PD.DESC_REJECTED = (s.num PD.DESC_REJECTED + 1) % 2 ^ 64
        ∧ (u.stream n).failing = some ⟨index, BitVec.ofNat 8 c, 0⟩ ∧ (u.stream n).entered = t.entered ∧ (u.stream n).head = t.head)
    ∧ (∀ b, c = 0 → s.waitsOn n t index d = some b → ∃ u, exec (.descriptorEntry n) s = .next u
        ∧ u.stream n = { t with front := some w, st := .blocked, blockedOn := BitVec.ofNat 32 b } ∧ u.mem = s.mem)
    ∧ (c = 0 → s.waitsOn n t index d = none → (isBackward df.station d.opcode = true ∨ s.forwardReady = true) →
        s.arrayWork df.station d = false → s.poolFor df.station d = 0 →
        ∃ u e, exec (.descriptorEntry n) s = .next u ∧ (u.stream n).entered = t.entered ++ [e] ∧ e.index = index ∧ e.desc = w ∧ e.beds = []
          ∧ (u.stream n).st = .active ∧ (u.stream n).front = none ∧ (u.stream n).head = t.head ∧ u.mem = s.mem)

/-- Only the first entered descriptor completes: HEAD advances by one and its slot shows STATUS 0 with DONE; a failure stops entry there.
    Derived from: R77, R80, R81, R88, 03_stations_and_streams.md. -/
def Obligations.DescriptorsCompleteInRingOrder : Prop :=
  ∀ (s : State) (n : Nat) (df : StreamDef) (e : Entered) (rest : List Entered) (host : List Byte),
    s.streamDef n = some df → s.mode = .run ∨ s.mode = .drain → s.step.deadlinePassed = false →
    (s.stream n).st = .active ∨ (s.stream n).st = .blocked → (s.stream n).entered = e :: rest → s.holdsBack df e host = false →
    (∀ s' f, e.joining = false → s.runDesc n df e host = (s', f) → f.joining = false →
       ∃ u, exec (.descriptorComplete n host []) s = .next u
        ∧ (f.status = 0 → (u.stream n).head = (s'.stream n).head + 1 ∧ (u.stream n).entered = (s'.stream n).entered.drop 1
            ∧ ((s'.stream n).head + 1 = (s'.stream n).tail → (s'.stream n).failing = none → (u.stream n).st = .idle))
        ∧ (f.status ≠ 0 → (u.stream n).failing = some ⟨(s'.stream n).head, BitVec.ofNat 8 f.status, f.tiles⟩ ∧ (u.stream n).entered = []
            ∧ (u.stream n).head = (s'.stream n).head))
    ∧ (∀ pl st o, e.joining = true → df.hostFed = true → s.place = some pl → (pl.rings.find? fun r => r.1 = n) = some (n, st, o) → s.memOk = true →
      let a := o + 64 * (e.index.toNat % 2 ^ df.ringCode)
      ∃ u, exec (.descriptorComplete n host []) s = .next u
        ∧ (u.stream n).head = (s.stream n).head + 1 ∧ (u.stream n).entered = rest
        ∧ ofLe (u.read st a 8) / 2 ^ 63 = 1 ∧ ofLe (u.read st a 8) / 2 ^ 48 % 256 = 0
        ∧ ofLe (u.read st a 8) % 2 ^ 48 = (descBits (s.read st a 64)).toNat % 2 ^ 48
        ∧ ∀ st' b, memKey st' b < memKey st a ∨ memKey st a + 8 ≤ memKey st' b → u.readByte st' b = s.readByte st' b)

/-- A halt takes effect once the entered ones are done; RETRY, SKIP and RESET act as R89 says and refuse otherwise; a host timeout is HW_FAULT.
    Derived from: R88, R89, R395, 03_stations_and_streams.md. -/
def Obligations.HaltsAndResumesActOnTheFailingDescriptor : Prop :=
  (∀ (s : State) (n : Nat) (f : Failing), s.dictOk = true → (s.stream n).failing = some f →
    (s.stream n).entered = [] → (s.stream n).st ≠ .paused → ∃ u, exec (.streamHalt n) s = .next u ∧ (u.stream n).st = .halted
      ∧ (u.stream n).error = f.status ∧ (u.stream n).errIndex = (if f.status = 0x30 then (s.stream n).head else f.index) ∧ (u.stream n).failing = none
      ∧ (u.stream n).head = (s.stream n).head ∧ u.num PD.STREAM_HALTS = (s.num PD.STREAM_HALTS + 1) % 2 ^ 64)
  ∧ (∀ (s : State) (n : BitVec 18), s.dictOk = true → s.mode.hubRuns = true → s.mode ≠ .boot →
    s.mode ≠ .calibrate →
    let t := s.stream n.toNat
    (∀ df, s.streamDef n.toNat = some df → t.st = .halted →
      (∃ u, exec (.retry n 0) s = .next u ∧ u.num PD.STREAM_CMD_RESULT = 0 ∧ (u.stream n.toNat).head = t.head
        ∧ (u.stream n.toNat).st = (if t.head = t.tail then .idle else if s.mode.running then .active else .paused) ∧ u.mem = s.mem)
      ∧ (∃ u, exec (.skip n 0) s = .next u ∧ u.num PD.STREAM_CMD_RESULT = 0
        ∧ (u.stream n.toNat).head = (if t.error = 0x30 then t.head else t.head + 1)
        ∧ (u.stream n.toNat).st = (if (if t.error = 0x30 then t.head else t.head + 1) = t.tail then .idle else if s.mode.running then .active else .paused)))
    ∧ (∀ df, s.streamDef n.toNat = some df → t.st = .idle ∨ t.st = .blocked ∨ t.st = .halted ∨ t.st = .paused →
      ∃ u, exec (.streamReset n 0) s = .next u ∧ u.num PD.STREAM_CMD_RESULT = 0 ∧ (u.stream n.toNat).st = .idle
        ∧ (u.stream n.toNat).head = t.tail ∧ (u.stream n.toNat).groups = [] ∧ (u.stream n.toNat).entered = [] ∧ (u.stream n.toNat).error = 0)
    ∧ (∀ df, s.streamDef n.toNat = some df → t.st ≠ .halted → ∃ u v, exec (.retry n 0) s = .next u ∧ exec (.skip n 0) s = .next v
        ∧ u.num PD.STREAM_CMD_RESULT = 2 ∧ v.num PD.STREAM_CMD_RESULT = 2 ∧ u.streams = s.streams ∧ v.streams = s.streams)
    ∧ (∀ r : BitVec 12, s.streamDef n.toNat = none ∨ r ≠ 0 → ∃ u v x, exec (.retry n r) s = .next u ∧ exec (.skip n r) s = .next v
        ∧ exec (.streamReset n r) s = .next x ∧ u.num PD.STREAM_CMD_RESULT = 1 ∧ v.num PD.STREAM_CMD_RESULT = 1 ∧ x.num PD.STREAM_CMD_RESULT = 1
        ∧ u.streams = s.streams ∧ v.streams = s.streams ∧ x.streams = s.streams))
  ∧ (∀ (s : State) (n : Nat) (df : StreamDef) (e : Entered) (rest : List Entered), s.dictOk = true →
     s.streamDef n = some df → (s.stream n).entered = e :: rest → s.mode = .run ∨ s.mode = .drain → df.station = stHod →
    ∃ u, exec (.hostDmaTimeout n) s = .next u ∧ u.num PD.HOST_DMA_ERR = (s.num PD.HOST_DMA_ERR + 1) % 2 ^ 64
      ∧ (u.stream n).failing = some ⟨(s.stream n).head, 0x21, 0⟩ ∧ (u.stream n).entered = [])

/-- A plan loads only in HELD, replaces the one before, and its load ends LOADED with every stream IDLE or FAILED with its faults listed.
    Derived from: R91, R92, R97, R389, 04_placement.md. -/
def Obligations.PlansLoadOnlyInHeldAndEndLoadedOrFailed : Prop :=
  ∀ s : State, s.dictOk = true → s.mode.hubRuns = true →
    (s.mode = .held → s.num PD.PLAN_STATUS ≠ 1 →
      (∃ u r, exec .planLoad s = .next u ∧ u.num PD.PLAN_STATUS = 1 ∧ u.plan = none ∧ u.place = none ∧ u.streams = [] ∧ u.loading = some r)
      ∧ ∃ u, exec .planUnload s = .next u ∧ u.num PD.PLAN_STATUS = 0 ∧ u.plan = none ∧ u.place = none ∧ u.streams = [] ∧ u.layers = [])
    ∧ (s.mode ≠ .held → s.num PD.PLAN_STATUS ≠ 1 → ∃ u v, exec .planLoad s = .next u ∧ exec .planUnload s = .next v
      ∧ u.num PD.PLAN_STATUS = 4 ∧ v.num PD.PLAN_STATUS = 4 ∧ u.plan = s.plan ∧ v.plan = s.plan ∧ u.streams = s.streams ∧ v.streams = s.streams)
    ∧ (s.num PD.PLAN_STATUS = 1 → exec .planLoad s = .next s ∧ exec .planUnload s = .next s)
    ∧ (∀ po fs, s.loading = some (po, fs) → po = none ∨ fs ≠ [] → ∃ u, exec .planLoadComplete s = .next u ∧ u.num PD.PLAN_STATUS = 3
      ∧ u.rows PD.PLAN_FAULTS = (fs.take 4096).map (fun f => [f.code, f.obj, f.field]) ∧ u.plan = s.plan ∧ u.loading = none)
    ∧ (∀ p pl, s.loading = some (some p, []) → ({ s with loading := none } : State).makePlacement p 1 = .ok pl →
      ∃ u, exec .planLoadComplete s = .next u ∧ u.num PD.PLAN_STATUS = 2 ∧ u.plan = some p ∧ u.place = some pl ∧ u.loading = none
        ∧ u.streams = (List.range p.streams.length).map (fun i => (i, ({ st := .idle } : Stream)))
        ∧ u.num PD.PLACE_VERSION = (s.num PD.PLACE_VERSION + 1) % 2 ^ 32)

/-- A boundary's placement comes into force or holds the module; operations start when their write is verified and end in the order of the
    sequence. Derived from: R102, R113, R114, R116, R144, R188, 04_placement.md, 05_analogue_arrays.md. -/
def Obligations.PlacementsAndOperationsFollowTheArraySequence : Prop :=
  (∀ (s : State) (p : Plan) (old : Placement), s.dictOk = true → s.mode.hubRuns = true → s.placeDue ≠ 0 → s.step.opened = false → s.step.updating = false →
    s.step.writing = false → s.plan = some p → s.place = some old →
    let X : State := { s.retireDue with triggers := s.triggers, placeDue := 0 }
    (∀ pl, X.makePlacement p s.placeDue = .ok pl → ∃ u, exec .placement s = .next u ∧ u.placeDue = 0
      ∧ u.place = some { pl with triggers := if pl.mode = old.mode then s.placeDue else orBit s.placeDue 4 }
      ∧ u.num PD.PLACE_VERSION = (s.num PD.PLACE_VERSION + 1) % 2 ^ 32
      ∧ u.num PD.PLACE_TRIGGERS = (if pl.mode = old.mode then s.placeDue else orBit s.placeDue 4))
    ∧ (∀ fs, X.makePlacement p s.placeDue = .error fs → ∃ u, exec .placement s = .next u ∧ u.num PD.PLAN_STATUS = 3 ∧ u.place = some old
      ∧ u.rows PD.PLAN_FAULTS = (fs.take 4096).map (fun f => [f.code, f.obj, f.field])
      ∧ (s.mode = .run ∨ s.mode = .drain ∨ s.mode = .armed → u.mode = .held)))
  ∧ (∀ (s : State) (pos : Nat) (o : SeqOp), s.mode = .run ∨ s.mode = .drain → s.step.attempt = true → s.step.deadlinePassed = false → s.arrays.op = none →
    s.forwardReady = true ∨ s.step.opened = true → s.nextOp = some (pos, o) →
    let X := (({ s with arrays := { s.arrays with seqPos := pos } } : State).scoutFor o)
    X.onArrays o.layer = true → (o.recompute = true → X.replayReady o = true) →
      ((X.load o 0).loadDone o = false → exec .arrayOperationStart s = .next (X.load o 0))
      ∧ ((X.load o 0).loadDone o = true → ∃ u, exec .arrayOperationStart s = .next u ∧ u.arrays.op = some ⟨o.layer, o.micro, o.leaf, o.sect, o.recompute, 0⟩))
  ∧ (∀ (s : State) (a : ArrayOp) (p : LayerPlace) (l : Layer), s.dictOk = true → s.arrays.op = some a → s.opPlace a.seq = some p → s.layer a.layer = some l →
    (s.opCells a.seq).all (fun g => (s.cell g).todo.isEmpty) = true → s.opCovered a.seq = true →
    let parts := partsOf l p (s.wFormat a.layer)
    let more := (s.opsFrom (s.arrays.seqPos + 1)).head?.any fun n => n.2.layer = a.layer && n.2.micro = a.micro && n.2.recompute == a.recompute
    (a.part + 1 < parts → (s.load a.seq (a.part + 1)).loadDone a.seq = true →
      ∃ u, exec .arrayOperationEnd s = .next u ∧ u.arrays.op = some { a with part := a.part + 1 })
    ∧ (parts ≤ a.part + 1 → more = true → ∃ u, exec .arrayOperationEnd s = .next u ∧ u.arrays.op = none ∧ u.arrays.seqPos = s.arrays.seqPos + 1)
    ∧ (parts ≤ a.part + 1 → more = false → a.recompute = true → ∃ u, exec .arrayOperationEnd s = .next u ∧ u.arrays.op = none
        ∧ u.num PD.RECOMPUTE_OPS = (s.num PD.RECOMPUTE_OPS + 1) % 2 ^ 64)
    ∧ (parts ≤ a.part + 1 → more = false → a.recompute = false → ∀ v, s.opPlumb a.seq = (true, v) → exec .arrayOperationEnd s = .next v)
    ∧ (parts ≤ a.part + 1 → more = false → a.recompute = false → ∀ v, s.opPlumb a.seq = (false, v) →
        ∃ u, exec .arrayOperationEnd s = .next u ∧ u.arrays.op = none))

/-- A strike's codes enter the run; over-range in 256 rows replays two halves; a failed witness retries once, then passes to the block and is
    substituted. Derived from: R124, R125, R129, R130, R134, R135, R474, 05_analogue_arrays.md. -/
def Obligations.StrikesAreAcceptedReplayedOrRetried : Prop :=
  ∀ (s : State) (g : Nat) (o : ArrayOp) (h : StrikePos) (l : Layer) (cp : CellPlace) (d : Desc), s.dictOk = true →
     s.mode = .run ∨ s.mode = .drain → s.arrays.op = some o → s.layer o.layer = some l → s.cellPlace o g = some cp →
    s.struckDesc o.recompute h.stream h.index = some d →
    let rest := (s.cell g).todo.erase h
    let wf := s.wFormat o.layer
    let used := weightBits wf * slotsOf l wf (sliceOf cp.place cp.group wf o.part)
    let I := s.opImages o.recompute o.micro d
    let bs := inputRow I.1 d I.2 h.token cp.q h.row h.rows h.phase
    (∀ (codes : List Byte) (overs : List Bool), s.arrays.writes.any (fun w => w.1 = g) = false → (s.cell g).todo.find? (fun h => !h.digital) = some h →
      let codeAt := fun (t : Nat) => ((codes[(s.cell g).route t]?).map (·.toNat)).getD 0
      let ovr := (List.range used).filter fun t => (overs[(s.cell g).route t]?).getD false
      let bad := (List.range 8).filter fun k => s.witTol h.rows < absDiff (codeAt (528 + k)) (witnessCount h bs k)
      (h.rows = 256 → ovr ≠ [] → ∃ u, exec (.strike g codes overs) s = .next u ∧ u.num PD.ARR_OVERRANGE = (s.num PD.ARR_OVERRANGE + 1) % 2 ^ 64
        ∧ u.num PD.ARR_STRIKES = (s.num PD.ARR_STRIKES + 1) % 2 ^ 64
        ∧ (u.cell g).todo = insertReplay rest (((List.range 2).filter fun i => !(s.flag PD.SKIP_ZERO_PHASES && !((bs.drop (128 * i)).take 128).any id)).map
            fun i => { h with row := h.row + 128 * i, rows := 128, half := true, retried := false }))
      ∧ (ovr = [] → bad ≠ [] → h.retried = false → s.coinciding 0 ⟨g / 2048, g % 2048 / 16, g % 16⟩ = none →
        ∃ u, exec (.strike g codes overs) s = .next u ∧ u.num PD.ARR_WIT_MISMATCH = (s.num PD.ARR_WIT_MISMATCH + 1) % 2 ^ 64
        ∧ u.num PD.ARR_STRIKES = (s.num PD.ARR_STRIKES + 1) % 2 ^ 64 ∧ (u.cell g).todo = insertReplay rest [{ h with retried := true }])
      ∧ (ovr = [] → bad ≠ [] → h.retried = true → ∃ u, exec (.strike g codes overs) s = .next u ∧ u.num PD.ARR_WIT_MISMATCH = (s.num PD.ARR_WIT_MISMATCH + 1) % 2 ^ 64
        ∧ u.num PD.ESC_CELL_TO_BLOCK = (s.num PD.ESC_CELL_TO_BLOCK + 1) % 2 ^ 64 ∧ u.num PD.REPEATS_CONFIRMED = (s.num PD.REPEATS_CONFIRMED + 1) % 2 ^ 64)
      ∧ (ovr = [] → bad = [] → ∃ u, exec (.strike g codes overs) s = .next u ∧ u.num PD.ARR_STRIKES = (s.num PD.ARR_STRIKES + 1) % 2 ^ 64
        ∧ (u.cell g).todo = rest))
    ∧ ((s.cell g).todo.find? (fun h => h.digital) = some h → (s.bridge (g / 2048)).stopped = false →
      ∃ u, exec (.digitalSubstitution g) s = .next u ∧ u.num PD.ARR_SUBSTITUTED = (s.num PD.ARR_SUBSTITUTED + 1) % 2 ^ 64 ∧ (u.cell g).todo = rest)

/-- A row that verifies is written; one that never does has its wrong columns remapped and all rows written again, or retires the cell. Derived
    from: R137, R146, R148, 05_analogue_arrays.md. -/
def Obligations.WeightRowsAreVerifiedRemappedOrRetireTheCell : Prop :=
  ∀ (s : State) (g row : Nat) (wrong : List (List Nat)) (o : ArrayOp) (l : Layer) (wf : Nat) (cp : CellPlace), s.dictOk = true →
    s.mode.working = true → (g, row) ∈ s.arrays.writes →
    (s.cell g).runs = [] → (s.cell g).todo.all (fun h => !h.half && !h.retried && !h.digital) = true → s.loadedFor g = some (o, l, wf, cp) →
    let tries := (List.range (max 1 (s.num PD.WRITE_VERIFY_LIMIT))).map fun i => (s.cell g).wrongIn ((wrong[i]?).getD [])
    (∀ i, tries.findIdx? (·.isEmpty) = some i → ∃ u, exec (.weightWrite g row wrong) s = .next u
      ∧ (u.cell g).row row = s.intendedRow l wf cp o.part (s.cell g) row ∧ u.arrays.writes = s.arrays.writes.erase (g, row)
      ∧ u.num PD.ARR_VERIFY_FAIL = (s.num PD.ARR_VERIFY_FAIL + i) % 2 ^ 64 ∧ u.num PD.ARR_ROWS_WRITTEN = (s.num PD.ARR_ROWS_WRITTEN + 1) % 2 ^ 64)
    ∧ (∀ c', tries.findIdx? (·.isEmpty) = none → tries.flatten.eraseDups.foldl (fun (x : Option Cell) b => x.bind (·.remap b)) (some (s.cell g)) = some c' →
      ∃ u, exec (.weightWrite g row wrong) s = .next u ∧ u.cell g = c'
        ∧ u.arrays.writes = s.arrays.writes.filter (fun w => w.1 ≠ g) ++ (List.range 1024).map (fun r => (g, r))
        ∧ u.num PD.ARR_VERIFY_FAIL = (s.num PD.ARR_VERIFY_FAIL + tries.length) % 2 ^ 64
        ∧ u.num PD.ARR_WRITE_REMAPS = (s.num PD.ARR_WRITE_REMAPS + tries.flatten.eraseDups.length) % 2 ^ 64)
    ∧ (tries.findIdx? (·.isEmpty) = none → tries.flatten.eraseDups.foldl (fun (x : Option Cell) b => x.bind (·.remap b)) (some (s.cell g)) = none →
      ∃ u, exec (.weightWrite g row wrong) s = .next u ∧ u.num PD.ARR_VERIFY_FAIL = (s.num PD.ARR_VERIFY_FAIL + tries.length) % 2 ^ 64
        ∧ u.num PD.ARR_WRITE_RETIRES = (s.num PD.ARR_WRITE_RETIRES + 1) % 2 ^ 64)

/-- CAL_RUN starts runs where R165 accepts them; waves end in order and touch only their cells' pairs; the run ends in HELD with the trims
    swapped in. Derived from: R154, R156, R160, R164, R165, R166, R169, 06_array_calibration.md. -/
def Obligations.CalibrationRunsWaveByWave : Prop :=
  (∀ s : State, s.dictOk = true → s.mode.hubRuns = true → s.mode ≠ .boot → s.mode ≠ .calibrate →
    (s.mode = .held → ∃ u, exec .calRunPattern s = .next u ∧ u.mode = .calibrate ∧ u.num PD.CAL_RUN_RESULT = 0 ∧ u.num PD.CAL_COLUMNS_FAILED = 0
      ∧ u.cal.wave = 0 ∧ u.cal.fromHeld = true ∧ u.arrays.loaded = [] ∧ u.arrays.writes = [])
    ∧ (s.mode ≠ .held → ∃ u, exec .calRunPattern s = .next u ∧ u.mode = s.mode ∧ u.num PD.CAL_RUN_RESULT = 2 ∧ u.cal = s.cal)
    ∧ (s.mode = .held ∨ s.mode = .run → ∃ u, exec .calRunResident s = .next u ∧ u.num PD.CAL_RUN_RESULT = 0
      ∧ ∀ d, d < 8 → (u.dieCal d).running = true)
    ∧ (s.mode ≠ .held → s.mode ≠ .run → ∃ u, exec .calRunResident s = .next u ∧ u.num PD.CAL_RUN_RESULT = 2 ∧ u.cal = s.cal))
  ∧ (∀ (s : State) (w : Fin 8) (meas : List CellMeas),
     (s.mode = .calibrate → s.cal.wave = w.val → ∃ u, exec (.calibrationWave w meas) s = .next u ∧ u.cal.wave = w.val + 1
      ∧ ∀ g b, b < 536 → (g ∉ s.waveCells w.val ∨ ∀ m ∈ meas, m.cell ≠ g) → u.measuredPair (g * 536 + b) = s.measuredPair (g * 536 + b))
    ∧ (s.mode ≠ .calibrate ∨ s.cal.wave ≠ w.val → exec (.calibrationWave w meas) s = .next s))
  ∧ (∀ s : State, s.dictOk = true → s.mode = .calibrate → s.cal.wave = 8 → ∃ u, exec .calibrationDone s = .next u ∧ u.mode = .held
    ∧ u.num PD.CAL_BANK = 1 - s.num PD.CAL_BANK ∧ u.num PD.CAL_SWAPS = (s.num PD.CAL_SWAPS + 1) % 2 ^ 64 ∧ u.num PD.CAL_LAST_SWAP = 0
    ∧ u.num PD.CAL_RUNS = (s.num PD.CAL_RUNS + 1) % 2 ^ 64 ∧ u.cal.wave = 0)

/-- Settled idle banks swap at once without a step; a probe set measures its cell and ends the run with the last; set data go to flash before
    the header. Derived from: R162, R163, R166, R167, R169, R171, R172, 06_array_calibration.md. -/
def Obligations.TrimBanksSettleProbesMeasureAndSetsPersist : Prop :=
  (∀ s : State, s.dictOk = true → s.cal.idle = .settling ∨ s.cal.idle = .settled → s.mode ≠ .frozen → s.mode ≠ .coast →
    (s.step.opened = true → ∃ u, exec .bankSettled s = .next u ∧ u.cal = { s.cal with idle := .settled } ∧ u.num PD.CAL_BANK = s.num PD.CAL_BANK)
    ∧ (s.step.opened = false → ∃ u, exec .bankSettled s = .next u ∧ u.num PD.CAL_BANK = 1 - s.num PD.CAL_BANK
      ∧ u.num PD.CAL_SWAPS = (s.num PD.CAL_SWAPS + 1) % 2 ^ 64 ∧ u.num PD.CAL_LAST_SWAP = 0))
  ∧ (∀ (s : State) (cell : Nat) (codes : List (List Byte)), s.dictOk = true →
     s.mode = .held ∨ s.mode = .run → (s.dieCal (cell / 2048)).running = true →
    cell ∉ (s.dieCal (cell / 2048)).done → s.arrays.op.all (fun o => o.leaf ≠ 2 && o.leaf ≠ cell % 16 / 8) = true →
    s.arrays.writes.all (fun w => w.1 ≠ cell) = true → cell ∉ s.faults.retiredCells → cell / 16 ∉ s.faults.retiredBlocks → 64 ≤ s.num PD.LEVEL_F →
    (s.faults.running.any (fun x => x.activity = .calibration && x.resource = cell / 2048) = true ∨ (s.grant .calibration (cell / 2048)).1 = true) →
    let d := cell / 2048
    let fit := fun b => probeFit (s.activePair (cell * 536 + b)) (cell * 536 + b)
      ((refCounts (s.cell cell) (probes 4096 0 (cell + 1)) b).zip (codes.map fun r => ((r[b]?).map (·.toNat)).getD 0))
    let last := (List.range 8).all fun w => (s.waveCells w).all fun g => g / 2048 ≠ d || ((s.dieCal d).done ++ [cell]).contains g
    ∃ u, exec (.residentProbeSet cell codes) s = .next u
      ∧ (∀ b, b < 536 → u.measuredPair (cell * 536 + b) = (fit b).pair.getD Pair.none)
      ∧ ((∀ b, b < 536 → (fit b).out = false) → last = false → (u.dieCal d).done = (s.dieCal d).done ++ [cell] ∧ (u.dieCal d).running = true)
      ∧ ((∀ b, b < 536 → (fit b).out = false) → last = true → u.num PD.CAL_RUNS = (s.num PD.CAL_RUNS + 1) % 2 ^ 64))
  ∧ (∀ (s : State) (die : Fin 8) (set : Fin 5) (x : Nat × Nat × Bool), s.memOk = true → s.mode.maintains = true →
    (s.cal.flashDue.find? fun x => x.1 = die.val && x.2.1 = set.val) = some x → (s.grant .calibration (16 + die.val * 5 + set.val)).1 = true →
    let b := setBlock die.val set.val
    let data := s.setData die.val set.val
    ∃ u, exec (.setFlashWrite die set) s = .next u
      ∧ (x.2.2 = false → u.read stFlash (b + 0x10000) data.length = data ∧ (∀ i, i < 0x10000 → u.readByte stFlash (b + i) = 0xFF)
          ∧ u.cal.flashDue = (x.1, x.2.1, true) :: s.cal.flashDue.erase x
          ∧ ∀ st a, memKey st a < memKey stFlash b ∨ memKey stFlash b + 0x10000 + data.length ≤ memKey st a → u.readByte st a = s.readByte st a)
      ∧ (x.2.2 = true → let h := setHeader die.val set.val (s.setInfo (die.val * 5 + set.val)) data
          u.read stFlash b h.length = h ∧ u.cal.flashDue = s.cal.flashDue.erase x
          ∧ ∀ st a, memKey st a < memKey stFlash b ∨ memKey stFlash b + h.length ≤ memKey st a → u.readByte st a = s.readByte st a))

/-- HIST_SAVE writes the committed history at once or at a boundary, HIST_RESTORE takes a checked object whole, and the completion gives the
    result. Derived from: R209, R212, 07_narrow_numerics.md. -/
def Obligations.HistoryIsSavedAndRestoredWholeOrNotAtAll : Prop :=
  ∀ s : State, s.dictOk = true → s.mode.hubRuns = true →
    (s.upd.histCmd = 0 → s.step.histDue = false →
      (∀ p, s.planIn = true → s.plan = some p → s.mode = .held ∨ s.mode = .armed ∨ (s.mode = .fault ∧ s.allDies = true) →
        ∃ u, exec .histSave s = .next u ∧ u.num PD.HIST_RESULT = 1 ∧ u.mem = (s.writeBar2 (s.num PD.HIST_OFFSET) (s.histObject p)).mem
          ∧ u.upd = { s.upd with histCmd := 1, histResult := 0, histLength := (s.histObject p).length })
      ∧ (s.planIn = true → s.mode = .run ∨ s.mode = .drain → ∃ u, exec .histSave s = .next u ∧ u.num PD.HIST_RESULT = 1 ∧ u.step = { s.step with histDue := true } ∧ u.mem = s.mem)
      ∧ (s.planIn = true → s.mode ≠ .held → s.mode ≠ .armed → s.mode ≠ .run → s.mode ≠ .drain → (s.mode = .fault → s.allDies = false) →
        ∃ u, exec .histSave s = .next u ∧ u.num PD.HIST_RESULT = 4 ∧ u.mem = s.mem)
      ∧ (s.planIn = false → ∃ u, exec .histSave s = .next u ∧ u.num PD.HIST_RESULT = 5 ∧ u.mem = s.mem)
      ∧ (s.mode ≠ .held → ∃ u, exec .histRestore s = .next u ∧ u.num PD.HIST_RESULT = 4 ∧ u.layers = s.layers)
      ∧ (s.mode = .held → s.planIn = false → ∃ u, exec .histRestore s = .next u ∧ u.num PD.HIST_RESULT = 5 ∧ u.layers = s.layers)
      ∧ (∀ p, s.mode = .held → s.planIn = true → s.plan = some p →
        let len := 128 + total (p.layers.map histLen)
        let b := s.readBar2 (s.num PD.HIST_OFFSET) len
        let w := fun (k : Nat) => fieldAt b (8 * k) 8
        let mismatch : Prop := sub b 16 48 ≠ padTo 48 p.digest ∨ bits (w 1) 48 16 ≠ p.layers.length % 2 ^ 16
        let bad : Prop := w 0 ≠ 0x54534948 + 2 ^ 32 ∨ bits (w 8) 0 32 ≠ len ∨ bits (w 8) 32 32 ≠ 0 ∨ allZero (sub b 72 56) = false
        ∃ u, exec .histRestore s = .next u ∧ u.num PD.HIST_RESULT = 1 ∧ u.upd.histCmd = 2
          ∧ (mismatch → u.upd.histResult = 3 ∧ u.layers = s.layers)
          ∧ (¬ mismatch → bad ∨ histParseAll p.layers.zipIdx (b.drop 128) = none → u.upd.histResult = 2 ∧ u.layers = s.layers)
          ∧ (∀ ls, ¬ mismatch → ¬ bad → histParseAll p.layers.zipIdx (b.drop 128) = some ls →
              u.upd.histResult = 0 ∧ u.layers = (s.each ls fun s l => s.setLayerNum l.1 l.2).layers)))
    ∧ (∀ p, s.step.histDue = true → s.step.boundary = true → s.step.opened = false → s.planIn = true → s.plan = some p →
        ∃ u, exec .histSaveAtBoundary s = .next u ∧ u.num PD.HIST_RESULT = 1 ∧ u.mem = (s.writeBar2 (s.num PD.HIST_OFFSET) (s.histObject p)).mem
          ∧ u.step = { s.step with histDue := false } ∧ u.upd.histCmd = 1)
    ∧ (s.upd.histCmd ≠ 0 → ∃ u, exec .historyObjectComplete s = .next u ∧ u.num PD.HIST_RESULT = s.upd.histResult ∧ u.upd.histCmd = 0
        ∧ u.num PD.HIST_LENGTH = if s.upd.histCmd = 1 then s.upd.histLength else s.num PD.HIST_LENGTH)

/-- A joint emits once all parts are there; a joint record brings a part or fails its bridge; segments recompute and checkpoints land under
    their conditions. Derived from: R228, R233, R235, R251, R252, R254, 08_accumulation.md, 09_backward_pass.md. -/
def Obligations.JointsAndRecomputeCompleteWhenTheirInputsAreThere : Prop :=
  (∀ (s : State) (layer : Nat) (kind : Byte) (row col : Nat) (x : JointWait), s.mode = .run ∨ s.mode = .drain →
    (s.jointWaits.find? fun w => w.layer = layer ∧ w.kind = kind.toNat ∧ w.tileRow = row ∧ w.tileCol = col) = some x →
    let parts := s.jointParts.filter x.owns
    let sum := parts.foldl (fun m p => mergeBeds m p.beds) ([] : List (Nat × Bed))
    (parts.length < x.parts → exec (.joint layer kind row col) s = .next s)
    ∧ (x.parts ≤ parts.length → ∃ (X u : State), exec (.joint layer kind row col) s = .next u ∧ X.jointWaits = s.jointWaits.erase x
        ∧ X.jointParts = s.jointParts.filter (fun p => !x.owns p) ∧ X.mem = s.mem ∧ X.arrays = s.arrays ∧ X.layers = s.layers ∧ X.pd = s.pd
        ∧ u.jointWaits = X.jointWaits ∧ u.jointParts = X.jointParts
        ∧ (∀ t, s.tensor x.tensor = some t → u = (X.emitOut t x.tile x.rows x.cols x.layer x.seqPos x.micro (bedRows sum 0 x.rows x.cols) true).emitted t [x.tile])))
  ∧ (∀ (s : State) (link : Nat) (bytes : List Byte), s.mode = .run ∨ s.mode = .drain →
     (∀ p, s.parseJoint bytes = some p → ∃ u, exec (.jointRecord link bytes) s = .next u ∧ u.jointParts = s.jointParts ++ [p] ∧ u.jointWaits = s.jointWaits)
    ∧ (s.parseJoint bytes = none → ∃ u, exec (.jointRecord link bytes) s = .next u ∧ (u.bridge link).stopped = true))
  ∧ (∀ (s : State) (micro seg a b : Nat), s.dictOk = true → s.mode = .run ∨ s.mode = .drain → s.step.attempt = true → s.step.deadlinePassed = false →
    s.segs[seg]? = some (a, b) → (micro, a) ∉ s.backward.recomputed →
    (s.hostCkpt a = true → (micro, a) ∉ s.backward.prefetched → ∃ u, exec (.recompute micro seg) s = .next u ∧ u.num PD.CKPT_WAITS = (s.num PD.CKPT_WAITS + 1) % 2 ^ 64
      ∧ u.backward = s.backward)
    ∧ ((s.hostCkpt a = true → (micro, a) ∈ s.backward.prefetched) → ∀ done v, s.replayLayers micro ((List.range (b - a)).map fun i => a + i) = (done, v) →
      ∃ u, exec (.recompute micro seg) s = .next u ∧ u.backward.recomputed = (if done then v.backward.recomputed ++ [(micro, a)] else v.backward.recomputed)
        ∧ u.mem = v.mem ∧ u.streams = v.streams))
  ∧ (∀ (s : State) (micro layer : Nat), s.dictOk = true → s.mode = .run ∨ s.mode = .drain → s.step.attempt = true → s.step.deadlinePassed = false →
    ((s.place.map (·.ckpts)).getD []).filter (·.2) = [(layer, true)] → (micro, layer) ∉ s.backward.prefetched → s.ckptsAhead < s.num PD.CKPT_PREFETCH_DEPTH →
    let held := s.backward.kept.filter fun k => k.layer = layer ∧ k.micro = micro ∧ 16 ≤ k.role
    (s.hostReachable ((s.plan.map (·.ckptRegion)).getD 0) = true → ∃ u, exec (.checkpointPrefetch micro) s = .next u
      ∧ u.backward.prefetched = s.backward.prefetched ++ [(micro, layer)]
      ∧ u.num PD.CKPT_PREFETCH_BYTES = (s.num PD.CKPT_PREFETCH_BYTES + total (held.map fun k => k.image.length)) % 2 ^ 64
      ∧ ∀ k ∈ held, ∃ j ∈ u.backward.kept, j.layer = k.layer ∧ j.micro = k.micro ∧ j.role = k.role - 16 ∧ j.tile = k.tile)
    ∧ (s.hostReachable ((s.plan.map (·.ckptRegion)).getD 0) = false → ∃ u, exec (.checkpointPrefetch micro) s = .next u
      ∧ u.num PD.HOST_DMA_ERR = (s.num PD.HOST_DMA_ERR + 1) % 2 ^ 64 ∧ u.backward = s.backward))

/-- A verdict forms when REDUCE ends, a node votes and a root decides at the first moment it can, messages count once, late and wrong ones only
    count. Derived from: R282, R283, R284, R285, R286, R288, 10_training_step.md. -/
def Obligations.VerdictsAndDecisionsFormOnceAndPass : Prop :=
  ∀ s : State, s.dictOk = true →
    (s.mode.commands = true → (s.step.opened = false → ∃ u, exec .stepVoidReq s = .next u ∧ u.num PD.VOTE_CMD_IGNORED = (s.num PD.VOTE_CMD_IGNORED + 1) % 2 ^ 64 ∧ u.step = s.step)
      ∧ (s.step.opened = true → ¬ (s.isRoot = true ∧ s.step.verdictFormed = true) →
        ∃ u, exec .stepVoidReq s = .next u ∧ u.num PD.STEP_REASONS = orBit (s.num PD.STEP_REASONS) rsHost ∧ u.step = s.step))
    ∧ (s.step.attempt = true → s.mode = .run ∨ s.mode = .drain →
      (s.step.verdictFormed = false → s.reduceEnded = false → exec .localVerdict s = .next s)
      ∧ (s.step.verdictFormed = false → s.reduceEnded = true → ∃ X : State, X.step.verdictFormed = true ∧ X.step.verdictReasons = X.num PD.STEP_REASONS
          ∧ exec .localVerdict s = .next X.progress)
      ∧ (s.step.verdictFormed = true → ∃ u, exec .localVerdict s = .next u
          ∧ (s.isRoot = false → u.step = { s.step with sent := s.step.sent || s.anyVoid || s.childPorts.all fun p => s.step.children.any fun c => c.port = p })
          ∧ (s.isRoot = true → s.step.decision = none → s.anyVoid = false → s.covered < s.num PD.VOTE_DOMAIN_SIZE → u = s)
          ∧ (∀ void, s.isRoot = true → s.step.decision = none → s.anyVoid = void → (void = false → s.num PD.VOTE_DOMAIN_SIZE ≤ s.covered) →
              let t := s.ceilTime + BitVec.ofNat 64 (s.num PD.VOTE_COMMIT_LEAD)
              s.evTest t = .ok → (u.step.decision.map fun d => (d.void, d.reasons, d.time)) = some (void, if void then s.unionReasons else 0, t)
                ∧ u.events = s.events ++ [⟨t, .commit, 0, b2n void⟩])))
    ∧ (s.mode.hubRuns = true → ∀ (port : Port) (msg : List Byte),
      (∀ v l, s.voteFor msg = some v → s.logicalOf port.val = some l → v.kind = 1 → l ∈ s.childPorts → v.time = 0 → s.step.children.all (fun c => c.port ≠ l) = true →
        ((if s.isRoot then s.step.decision.isSome else s.step.sent) = true → ∃ u, exec (.verdictReceived port msg) s = .next u
          ∧ u.num PD.VERDICTS_LATE = (s.num PD.VERDICTS_LATE + 1) % 2 ^ 64 ∧ u.step = s.step)
        ∧ ((if s.isRoot then s.step.decision.isSome else s.step.sent) = false → ∃ X : State,
          X.step.children = s.step.children ++ [⟨l, v.void, v.reasons, v.modules, v.excluded, v.origin⟩] ∧ X.pd = s.pd ∧ X.events = s.events
          ∧ exec (.verdictReceived port msg) s = .next X.progress))
      ∧ ((∀ v l, s.voteFor msg = some v → s.logicalOf port.val = some l → v.kind ≠ 1 ∨ l ∉ s.childPorts ∨ v.time ≠ 0 ∨ s.step.children.any (fun c => c.port = l) = true) →
        ∃ u, exec (.verdictReceived port msg) s = .next u ∧ u.num PD.VOTE_MSG_ERR = (s.num PD.VOTE_MSG_ERR + 1) % 2 ^ 64 ∧ u.step = s.step)
      ∧ (∀ v l, s.voteFor msg = some v → s.logicalOf port.val = some l → v.kind = 2 → s.isRoot = false → l = s.num PD.VOTE_PARENT_PORT → s.step.decision = none →
        ∃ u, exec (.decisionReceived port msg) s = .next u
          ∧ (s.evTest (BitVec.ofNat 64 v.time) = .ok →
              u.step.decision = some ⟨v.void, v.reasons, v.modules, v.excluded, v.origin, BitVec.ofNat 64 v.time⟩
              ∧ u.events = s.events ++ [⟨BitVec.ofNat 64 v.time, .commit, 0, b2n v.void⟩]
              ∧ u.link = ((s.takeMessage 1 msg).each s.childPorts fun s p => s.sendVote p msg).link)
          ∧ (s.evTest (BitVec.ofNat 64 v.time) ≠ .ok → u.mode = .held ∧ u.num PD.VOID_LOCAL = (s.num PD.VOID_LOCAL + 1) % 2 ^ 64))
      ∧ ((∀ v l, s.voteFor msg = some v → s.logicalOf port.val = some l → v.kind ≠ 2 ∨ s.isRoot = true ∨ l ≠ s.num PD.VOTE_PARENT_PORT ∨ s.step.decision.isSome = true) →
        ∃ u, exec (.decisionReceived port msg) s = .next u ∧ u.num PD.VOTE_MSG_ERR = (s.num PD.VOTE_MSG_ERR + 1) % 2 ^ 64 ∧ u.step = s.step))

/-- An exchange record of a wrong form or attempt only counts; a right one in time contributes, excludes, proposes, marks or stages. Derived
    from: R298, R299, R305, R306, R310, R311, R313, 11_gradient_exchange.md. -/
def Obligations.RecordsActOnceOfTheRightAttemptAndOthersCount : Prop :=
  ∀ s : State, s.dictOk = true → s.mode.hubRuns = true →
    (∀ c, c ∈ ([(.contributionRecord, 2, [1, 2]), (.lateNotice, 2, [8]), (.excludeRecord, 2, [9]), (.setRecord, 3, [6]), (.stageRecord, 2, [7]),
        (.gatherRecord, 3, [3, 4, 5]), (.twinShard, 3, [10]), (.twinDelta, 3, [11])] : List ((List Byte → Instr) × Nat × List Nat)) →
      ∀ bytes : List Byte,
      (XHdr.parse bytes (s.num PD.EXCH_SIZE) = none → ∃ u, exec (c.1 bytes) s = .next u ∧ u.exch = s.exch
        ∧ u.num PD.EXCH_REC_ERR = (s.num PD.EXCH_REC_ERR + 1) % 2 ^ 64 ∧ u.link = { s.link with inbox := s.link.inbox.erase (c.2.1, bytes) })
      ∧ (∀ x body, XHdr.parse bytes (s.num PD.EXCH_SIZE) = some (x, body) → x.kind = fieldAt bytes 1 1 → x.kind ∈ c.2.2 → s.fresh? x = false →
        let k := if x.kind = 8 ∧ s.lastCommit = some (x.step, x.attempt) then PD.EXCH_NOTICE_LATE else PD.EXCH_STALE
        ∃ u, exec (c.1 bytes) s = .next u ∧ u.exch = s.exch ∧ u.num k = (s.num k + 1) % 2 ^ 64
          ∧ u.link = { s.link with inbox := s.link.inbox.erase (c.2.1, bytes) }))
    ∧ (∀ (bytes : List Byte) x body, XHdr.parse bytes (s.num PD.EXCH_SIZE) = some (x, body) → x.kind = fieldAt bytes 1 1 → s.fresh? x = true →
      (x.kind = 1 ∨ x.kind = 2 →
        (s.late = true → ∃ u, exec (.contributionRecord bytes) s = .next u ∧ u.exch = s.exch ∧ u.num PD.EXCH_LATE = (s.num PD.EXCH_LATE + 1) % 2 ^ 64)
        ∧ (s.late = false → s.exch.excluded.contains x.sender = false → x.excl = false →
          ∃ u, exec (.contributionRecord bytes) s = .next u ∧ u.num PD.EXCH_RECORDS = (s.num PD.EXCH_RECORDS + 1) % 2 ^ 64
            ∧ ((bodyValues x.kind x.elements body).all f32Finite = true ∨ s.num PD.EXCH_POLICY ≠ 1 →
              u.exch = { s.exch with accepted := s.exch.accepted ++ [⟨x.kind, x.layer, x.pane, x.sender, x.samples, x.carried, body⟩] })
            ∧ ((bodyValues x.kind x.elements body).all f32Finite = false →
              (s.num PD.EXCH_POLICY = 1 → u.exch = s.exch ∧ u.num PD.EXCH_EXCLUDED = (s.num PD.EXCH_EXCLUDED + 1) % 2 ^ 64)
              ∧ (s.num PD.EXCH_POLICY ≠ 1 → s.step.attempt = true → u.num PD.STEP_REASONS = orBit (s.num PD.STEP_REASONS) rsNonfinite))))
      ∧ (x.kind = 8 → ∃ u, exec (.lateNotice bytes) s = .next u ∧ u.num PD.EXCH_RECORDS = (s.num PD.EXCH_RECORDS + 1) % 2 ^ 64
          ∧ u.exch = { s.exch with missed := if s.exch.sentLayers.contains x.layer ∧ s.exch.missed.contains (x.layer, x.pane, x.tile) = false
              then s.exch.missed ++ [(x.layer, x.pane, x.tile)] else s.exch.missed })
      ∧ (x.kind = 9 → s.late = false → s.exch.excluded.contains x.sender = false → ∃ u, exec (.excludeRecord bytes) s = .next u
          ∧ u.num PD.EXCH_EXCLUDED = (s.num PD.EXCH_EXCLUDED + 1) % 2 ^ 64
          ∧ u.exch = { s.exch with excluded := s.exch.excluded ++ [x.sender]
                                   accepted := s.exch.accepted.filter fun r => r.sender ≠ x.sender
                                   proposals := s.exch.proposals.filter fun p => p.2.1 ≠ x.sender })
      ∧ (x.kind = 6 → s.late = false → s.exch.excluded.contains x.sender = false → x.excl = false → ∃ u, exec (.setRecord bytes) s = .next u
          ∧ u.num PD.EXCH_RECORDS = (s.num PD.EXCH_RECORDS + 1) % 2 ^ 64
          ∧ u.exch = { s.exch with proposals := s.exch.proposals ++ [(x.layer, x.sender, (List.range x.elements).map fun i => fieldAt body (4 * i) 4)] })
      ∧ (∀ t tile, x.kind = 7 → s.tensor x.tensor = some t → bodyTiles 1 body = some [tile] → x.tile < t.tiles
          → (s.rows PD.STAGE_TABLE).any (fun r => r.headD 0 = x.tensor && r.getD 1 0 = 1) = true → ∃ u, exec (.stageRecord bytes) s = .next u
          ∧ u.num PD.STAGE_TILES = (s.num PD.STAGE_TILES + 1) % 2 ^ 64 ∧ u.exch = { s.exch with stageIn := s.exch.stageIn ++ [(x.tensor, x.tile)] }))

/-- A GATHER record brings its pane's copies and is awaited no longer; twin shards are compared once, twin deltas applied to the pane. Derived
    from: R312, R313, R314, R315, R316, R317, 11_gradient_exchange.md. -/
def Obligations.GathersAndTwinRecordsTakeEffectOnce : Prop :=
  ∀ (s : State) (bytes : List Byte) x body, s.dictOk = true → s.mode.hubRuns = true → XHdr.parse bytes (s.num PD.EXCH_SIZE) = some (x, body) →
    x.kind = fieldAt bytes 1 1 → s.fresh? x = true →
    (∀ l tiles, s.layer x.layer = some l → bodyTiles x.elements body = some tiles → x.kind = 3 ∨ x.kind = 4 ∨ x.kind = 5 →
      ∃ u, exec (.gatherRecord bytes) s = .next u ∧ u.num PD.EXCH_RECORDS = (s.num PD.EXCH_RECORDS + 1) % 2 ^ 64
        ∧ (x.kind ≠ 5 → u.exch = { s.exch with awaited := s.exch.awaited.filter (· ≠ (x.layer, x.pane, x.kind)), gathered := s.exch.gathered ++ [(x.layer, x.pane, x.kind)] })
        ∧ (∀ t, x.kind = 4 → s.ownTensor x.layer 1 = some t → ∃ X : State, X.mem = s.mem ∧ X.dict = s.dict ∧ u.mem = (X.putTiles t tiles).mem)
        ∧ (∀ t, x.kind = 3 → s.tensor l.weight = some t → ∃ X : State, X.mem = s.mem ∧ X.dict = s.dict ∧ u.mem = (X.putTiles t tiles).rewriteArrays.mem)
        ∧ (∀ p o, x.kind = 5 → s.owners.find? (fun p => p.1.layer = x.layer ∧ p.1.pane = x.pane) = some (p, o) →
          u.exch = if (s.num? x.layer).set.all fun c => c < (p.origin l).1 || (p.origin l).1 + p.rows ≤ c || (tiles.map fun b => (hdrOf b).tileRow).contains (c / 128)
            then { s.exch with awaited := s.exch.awaited.filter (· ≠ (x.layer, x.pane, x.kind)), gathered := s.exch.gathered ++ [(x.layer, x.pane, x.kind)] }
            else s.exch))
    ∧ (∀ p g, x.kind = 10 → s.ownedRef x.layer x.pane = some p → paneValues p x body = some g → s.bonded = true →
        s.exch.twinShards.any (fun t => t.layer = x.layer && t.pane = x.pane) = false →
      ∃ u, exec (.twinShard bytes) s = .next u ∧ u.exch.twinShards = s.exch.twinShards ++ [⟨x.layer, x.pane, g, []⟩]
        ∧ u.num PD.EXCH_RECORDS = (s.num PD.EXCH_RECORDS + 1) % 2 ^ 64
        ∧ (∀ own, s.exch.shards.find? (fun o => o.layer = x.layer ∧ o.pane = x.pane) = some own →
            s.exch.ratios.any (fun r => r.1 = x.layer && r.2.1 = x.pane) = false →
          let r := twinRatio own.g g
          let limit := FV.max (s.fv PD.BOND_BAND_FLOOR) (mul64 (s.fv PD.BOND_BAND_FACTOR) s.rbar)
          u.exch.ratios = s.exch.ratios ++ [(x.layer, x.pane, toF64 r)]
          ∧ (limit.lt r = true → u.num PD.BOND_DISAGREE = (s.num PD.BOND_DISAGREE + 1) % 2 ^ 64
            ∧ (s.step.attempt = true → s.exch.contested = [] → u.num PD.STEP_REASONS = orBit (s.num PD.STEP_REASONS) rsBond))
          ∧ (limit.lt r = false → u.num PD.BOND_DISAGREE = s.num PD.BOND_DISAGREE ∧ u.num PD.STEP_REASONS = s.num PD.STEP_REASONS
            ∧ u.exch.disagree = s.exch.disagree.filter fun d => !(d.1 = x.layer && d.2.1 = x.pane))))
    ∧ (∀ r other d p, x.kind = 11 → s.ownedRef x.layer x.pane = some r → paneValues r x body = some other →
        s.exch.ownDeltas.find? (fun d => d.layer = x.layer && d.pane = x.pane) = some d → s.findPane x.layer x.pane = some p →
      ∃ u, exec (.twinDelta bytes) s = .next u ∧ u.num PD.EXCH_RECORDS = (s.num PD.EXCH_RECORDS + 1) % 2 ^ 64
        ∧ u.exch = { s.exch with ownDeltas := s.exch.ownDeltas.filter fun y => !(y.layer = x.layer && y.pane = x.pane) }
        ∧ (∀ a, s.twinDelta x.layer x.pane d.g other = some a → u.upd.panes = (s.setPane (p.apply a)).upd.panes)
        ∧ (s.twinDelta x.layer x.pane d.g other = none → u.upd.panes = s.upd.panes))

/-- UPDATE ends into WRITEBACK, WRITEBACK ends with nothing awaited and leaves DRAIN, a root job ends staged. Derived from: R276, R277, R326,
    R327, R328, R329, R330, R333, 12_parameter_update.md. -/
def Obligations.UpdateWritebackAndRootJobsEndInTurn : Prop :=
  ∀ s : State, s.dictOk = true → s.mode.hubRuns = true →
    (s.step.updating = true → s.exch.ownDeltas = [] → ∃ u P, exec .updateEnd s = .next u ∧ u.exch = s.exch ∧ u.mode = s.mode
        ∧ u.step = { s.step with phaseTable := P, updating := false, writing := true })
    ∧ (s.step.updating = false ∨ s.exch.ownDeltas ≠ [] → exec .updateEnd s = .next s)
    ∧ (s.step.writing = true → s.exch.awaited = [] → s.arrays.writes = [] → ∃ u, exec .writebackEnd s = .next u
        ∧ (s.fw.due = false ∨ s.fw.dueCommit = false → u.mode = (if s.mode = .drain then .held else s.mode) ∧ u.step.writing = false ∧ u.step.imageDue = false
          ∧ ∀ e, e ∈ u.events → e ∈ s.events ∧ e.kind ≠ .gather)
        ∧ (s.fw.due = true → s.fw.dueCommit = true → u.mode = .boot ∧ u.num PD.RESET_CAUSE = 3
          ∧ u.num PD.FW_ACTIVATIONS = (s.num PD.FW_ACTIVATIONS + 1) % 2 ^ 64))
    ∧ (s.step.writing = false ∨ s.exch.awaited ≠ [] ∨ s.arrays.writes ≠ [] → exec .writebackEnd s = .next s)
    ∧ ∀ die : Fin 2, (s.step.updating = false → s.step.writing = false → ∀ j p, s.upd.jobs.find? (fun j => j.die = die.val ∧ j.staged.isNone) = some j →
          s.findPane j.layer j.pane = some p →
        ∃ u, exec (.rootJob die) s = .next u ∧ u.upd.panes = s.upd.panes
          ∧ u.pd = ((s.countRoot (s.rootOf j.l p.rows p.lroot.isSome).1 p.lroot.isSome).countRoot (s.rootOf j.r p.cols p.rroot.isSome).1 p.rroot.isSome).pd
          ∧ u.upd.jobs = s.upd.jobs.map fun x => if x = j then { j with staged := some ((s.rootOf j.l p.rows p.lroot.isSome).2, (s.rootOf j.r p.cols p.rroot.isSome).2,
              [(s.rootOf j.l p.rows p.lroot.isSome).1, (s.rootOf j.r p.cols p.rroot.isSome).1]) } else x)
      ∧ (s.step.updating = true ∨ s.step.writing = true ∨ s.upd.jobs.find? (fun j => j.die = die.val ∧ j.staged.isNone) = none → exec (.rootJob die) s = .next s)

/-- A save writes every owned pane's image or nothing, a restore takes every image or none, and the result follows at the end. Derived from:
    R334, R335, R336, 12_parameter_update.md. -/
def Obligations.PaneImagesAreSavedAndRestoredWholeOrNotAtAll : Prop :=
  ∀ s : State, s.dictOk = true → s.mode.hubRuns = true →
    (s.imageIdle = true → s.planIn = true →
      (s.mode = .held ∨ s.mode = .armed → ∃ u, exec .updImageSave s = .next u ∧ u.num PD.UPD_IMAGE_RESULT = 1 ∧ u.upd.imageCmd = 1 ∧
        let r := s.num PD.UPD_IMAGE_REGION
        let bs := s.upd.panes.flatMap fun p => p.image (s.num PD.STEP_NUMBER - 1)
        (s.regionSize r < bs.length → u.upd.imageResult = 3 ∧ u.outs = s.outs)
        ∧ (bs.length ≤ s.regionSize r → s.hostReachable r = false → u.upd.imageResult = 6 ∧ u.outs = s.outs
          ∧ u.num PD.HOST_DMA_ERR = (s.num PD.HOST_DMA_ERR + 1) % 2 ^ 64)
        ∧ (bs.length ≤ s.regionSize r → s.hostReachable r = true → u.upd.imageResult = 0 ∧ u.upd.imageLength = bs.length
          ∧ u.outs = if bs.isEmpty then s.outs else s.outs ++ [.hostWrite r 0 bs]))
      ∧ (s.mode = .run ∨ s.mode = .drain → ∃ u, exec .updImageSave s = .next u ∧ u.num PD.UPD_IMAGE_RESULT = 1
        ∧ u.step = { s.step with imageDue := true } ∧ u.upd = s.upd ∧ u.outs = s.outs))
    ∧ (s.imageIdle = true → s.planIn = false → ∃ u, exec .updImageSave s = .next u ∧ u.num PD.UPD_IMAGE_RESULT = 5 ∧ u.upd = s.upd)
    ∧ (∀ region, s.imageIdle = true → s.mode ≠ .held → ∃ u, exec (.updImageRestore region true) s = .next u ∧ u.num PD.UPD_IMAGE_RESULT = 4 ∧ u.upd = s.upd)
    ∧ (∀ region hostOk, s.imageIdle = true → s.mode = .held → s.planIn = true → 64 ≤ s.regionSize (s.num PD.UPD_IMAGE_REGION) →
        ∃ X : State, X = s.imageStart 2 1 (s.num PD.UPD_IMAGE_LENGTH) ∧ X.upd.panes = s.upd.panes ∧ X.upd.imageResult = 1
        ∧ (hostOk = false ∨ s.hostReachable (s.num PD.UPD_IMAGE_REGION) = false → ∃ u, exec (.updImageRestore region hostOk) s = .next u
          ∧ u.upd.imageResult = 6 ∧ u.upd.panes = s.upd.panes ∧ u.num PD.HOST_DMA_ERR = (s.num PD.HOST_DMA_ERR + 1) % 2 ^ 64)
        ∧ (hostOk = true → s.hostReachable (s.num PD.UPD_IMAGE_REGION) = true →
          (∀ c, X.imageWalk region (s.regionSize (s.num PD.UPD_IMAGE_REGION)) (region.length / 64 + 1) 0 [] = .fail c →
            ∃ u, exec (.updImageRestore region hostOk) s = .next u ∧ u.upd.imageResult = c ∧ u.upd.panes = s.upd.panes ∧ u.mem = s.mem)
          ∧ (∀ n is, X.imageWalk region (s.regionSize (s.num PD.UPD_IMAGE_REGION)) (region.length / 64 + 1) 0 [] = .ok n is →
            exec (.updImageRestore region hostOk) s = .next ((X.takeImages is).imageStart 2 0 n))))
    ∧ (s.upd.imageCmd ≠ 0 → s.upd.imageResult ≠ 1 → ∃ u, exec .paneImageComplete s = .next u ∧ u.num PD.UPD_IMAGE_RESULT = s.upd.imageResult
        ∧ u.num PD.UPD_IMAGE_LENGTH = s.upd.imageLength ∧ u.upd = { s.upd with imageCmd := 0 })

/-- A BAR2 write changes exactly the bytes its offsets map to, a read returns them, zeros for unbacked space, and a closed window discards.
    Derived from: R343, R352, R353, R396, 13_memory_tiers.md. -/
def Obligations.TheHostWindowStoresAndReturnsEveryByteItMaps : Prop :=
  ∀ (s : State) (ep : Ep) (offset : Nat), s.memOk = true → s.dictOk = true →
    (∀ data : List Byte, offset + data.length ≤ 2 ^ 36 →
      (s.mode.windowOpen = true → (s.ep ep).linkUp = true → data ≠ [] → ∃ u, exec (.bar2Write ep offset data []) s = .next u
        ∧ (∀ i st a, i < data.length → bar2Map (offset + i) = some (st, a) → u.readByte st a = (data[i]?).getD 0)
        ∧ (∀ st a, a < 2 ^ 48 → (∀ i, i < data.length → bar2Map (offset + i) ≠ some (st, a)) → u.readByte st a = s.readByte st a)
        ∧ u.num PD.BAR2_DISCARDED = if (List.range data.length).any (fun i => (bar2Map (offset + i)).isNone) then (s.num PD.BAR2_DISCARDED + 1) % 2 ^ 64 else s.num PD.BAR2_DISCARDED)
      ∧ ∀ upsets, s.mode.windowOpen = false ∨ (s.ep ep).linkUp = false ∨ data = [] → exec (.bar2Write ep offset data upsets) s = .next s)
    ∧ (∀ n, offset + n ≤ 2 ^ 36 →
      (s.mode.windowOpen = true → (s.ep ep).linkUp = true → exec (.bar2Read ep offset n []) s = .next (s.emit (.bar2 ep (some
        ((List.range n).map fun i => match bar2Map (offset + i) with
          | some (st, a) => s.readByte st a
          | none => 0)))))
      ∧ ∀ upsets, (s.mode = .boot ∨ s.mode = .loader → (s.ep ep).linkUp = true → exec (.bar2Read ep offset n upsets) s = .next (s.emit (.bar2 ep (some (zeros n)))))
        ∧ (s.mode = .frozen ∨ s.mode = .off ∨ s.mode = .reset ∨ s.mode = .coast ∨ (s.ep ep).linkUp = false → exec (.bar2Read ep offset n upsets) s = .next s))
    ∧ (∀ data upsets, 2 ^ 36 < offset + data.length → exec (.bar2Write ep offset data upsets) s = .fault .outsideBar2)
    ∧ (∀ n upsets, 2 ^ 36 < offset + n → exec (.bar2Read ep offset n upsets) s = .fault .outsideBar2)

/-- A granted patrol pass repairs a struck word unless it was overtaken and marks twice-corrected rows weak; a bridge stops at the ninth
    failure. Derived from: R18, R19, R341, R348, R349, R351, R482, 13_memory_tiers.md, 01_module_architecture.md. -/
def Obligations.PatrolsRepairUnderAGrantAndBridgesRetryEightTimes : Prop :=
  (∀ (s : State) (store : Nat) (overs : List Nat), s.dictOk = true → s.mode.maintains = true → store < 28 →
    (∀ ups, (s.grant .scrubbing store).1 = false → ∃ u, exec (.patrolScrub store ups overs) s = .next u ∧ u.mem = s.mem ∧ u.memUnit = s.memUnit)
    ∧ ((s.grant .scrubbing store).1 = true → ∃ u, exec (.patrolScrub store [] overs) s = .next u ∧ u.mem = s.mem ∧ u.memUnit.weak = s.memUnit.weak)
    ∧ (∀ (x : Upset) r, (s.grant .scrubbing store).1 = true → guardResidue x.first = some (r, true) →
      ∃ u, exec (.patrolScrub store [x] overs) s = .next u ∧ u.num PD.GUARD_CORRECTED = (s.num PD.GUARD_CORRECTED + 1) % 2 ^ 64
        ∧ (overs.contains x.addr = false → u.num PD.SCRUB_WRITEBACKS = (s.num PD.SCRUB_WRITEBACKS + 1) % 2 ^ 64 ∧ u.mem = (s.xorWord store x.addr r).mem)
        ∧ (overs.contains x.addr = true → u.num PD.SCRUB_WRITEBACK_DROPPED = (s.num PD.SCRUB_WRITEBACK_DROPPED + 1) % 2 ^ 64 ∧ u.mem = s.mem)
        ∧ u.memUnit.weak = if (16 ≤ store ∧ store < 24) ∧ s.memUnit.corrected.contains (store * 2 ^ 48 + x.addr / rowBytes store) = true
              ∧ s.memUnit.weak.any (fun w => w.1 = store && w.2.1 = x.addr / rowBytes store) = false
            then s.memUnit.weak ++ [(store, x.addr / rowBytes store, 0)] else s.memUnit.weak))
  ∧ (∀ (s : State) (store : Nat) ups overs, s.mode.maintains = false → exec (.patrolScrub store ups overs) s = .next s)
  ∧ (∀ (s : State) (link : Nat) (a b : List Byte) (crc : W32), s.mode.hubRuns = true → link < 27 → (s.bridge link).stopped = false →
    let word := fun (w : List Byte) => guardDecode ((padTo 36 w).map (·.toNat))
    (word a = .clean → word b = .clean → crc32c ((padTo 36 a).take 32 ++ (padTo 36 b).take 32) = crc.toNat →
      ∃ u, exec (.bridgeFlit link [a, b] crc) s = .next u ∧ u.bridge link = { s.bridge link with tries := 0 } ∧ u.mode = s.mode)
    ∧ (∀ k v, word a = .corrected k v → word b = .clean → crc32c (((padTo 36 a).set k ((((padTo 36 a)[k]?).getD 0) ^^^ BitVec.ofNat 8 v)).take 32 ++ (padTo 36 b).take 32) = crc.toNat →
      ∃ u, exec (.bridgeFlit link [a, b] crc) s = .next u ∧ u.bridge link = { s.bridge link with tries := 0, corrected := (s.bridge link).corrected + 1 } ∧ u.mode = s.mode)
    ∧ (word a = .bad ∨ word b = .bad ∨ (word a = .clean ∧ word b = .clean ∧ crc32c ((padTo 36 a).take 32 ++ (padTo 36 b).take 32) ≠ crc.toNat) →
      ((s.bridge link).tries < 8 → ∃ u, exec (.bridgeFlit link [a, b] crc) s = .next u ∧ (u.bridge link).tries = (s.bridge link).tries + 1
        ∧ (u.bridge link).stopped = false ∧ u.mode = s.mode)
      ∧ (8 ≤ (s.bridge link).tries → ∃ u, exec (.bridgeFlit link [a, b] crc) s = .next u ∧ (u.bridge link).stopped = true)))

/-- A port trains, sends its identity, replays, retrains, goes DOWN at its limit, and discovery runs and is decided. Derived from: R357, R361,
    R362, R374, R376, R378, R379, 14_kenlink_and_topology.md. -/
def Obligations.PortsTrainRetrainReplayAndAreDiscovered : Prop :=
  ∀ (s : State) (port : Port) (l : LinkPort), s.dictOk = true → s.port port.val = l →
    (s.lanesUp = true → l.st.live = false →
      (∃ u, exec (.portTraining port .failed) s = .next u ∧ u.port port.val = { l with st := .down } ∧ u.outs = s.outs)
      ∧ ∃ u, exec (.portTraining port .trained) s = .next u ∧ u.port port.val = { (if l.retraining then l else l.linkUp) with st := .identify, peer := none }
        ∧ u.outs = s.outs ++ [.kenlink port (sealFlit (2 + 128 * 2 ^ 9) (s.identityFrame port.val) 0 (if l.retraining then l.lastRx.toNat else 0xFFFF))])
    ∧ (∀ farIdle, (s.lanesUp = true → l.st = .down → farIdle = false → ∃ u, exec (.portTrainingRetry port farIdle) s = .next u ∧ u.port port.val = { l with st := .training })
      ∧ (s.lanesUp = false ∨ l.st ≠ .down ∨ farIdle = true → exec (.portTrainingRetry port farIdle) s = .next s))
    ∧ (s.lanesUp = true → l.st.live = true → ∃ u, exec (.codewordTimeout port) s = .next u
        ∧ u.port port.val = { l with st := .training, retraining := true, peer := none, retrains := l.retrains + 1 }
        ∧ u.num PD.LINK_RETRAINS = (s.num PD.LINK_RETRAINS + 1) % 2 ^ 64)
    ∧ (s.lanesUp = true → l.retraining = true → ∃ u, exec (.retrainLimit port) s = .next u
        ∧ u.port port.val = { l with st := .down, retraining := false, peer := none, replay := [], waiting := [], drops := l.drops + 1 }
        ∧ u.num PD.LINK_DROPS = (s.num PD.LINK_DROPS + 1) % 2 ^ 64 ∧ u.num PD.FLITS_FLUSHED = (s.num PD.FLITS_FLUSHED + l.replay.length) % 2 ^ 64
        ∧ u.num PD.FLITS_NO_ROUTE = (s.num PD.FLITS_NO_ROUTE + l.waiting.length) % 2 ^ 64)
    ∧ (s.lanesUp = true → l.st = .active → l.replay ≠ [] →
        (l.replay.any (fun r => 9 ≤ r.2) = true → ∃ u, exec (.replayTimeout port) s = .next u
          ∧ u.port port.val = { l with st := .training, retraining := true, peer := none, retrains := l.retrains + 1 })
        ∧ (l.replay.any (fun r => 9 ≤ r.2) = false → ∃ u, exec (.replayTimeout port) s = .next u
          ∧ u.port port.val = { l with replay := l.replay.map (fun r => (r.1, r.2 + 1)), replays := l.replays + l.replay.length }
          ∧ u.num PD.FLIT_REPLAYS = (s.num PD.FLIT_REPLAYS + l.replay.length) % 2 ^ 64
          ∧ u.outs = s.outs ++ l.replay.map fun r => .kenlink port (resealFlit r.1 l.lastRx.toNat)))
    ∧ (s.lanesUp = true → l.st.live = true → l.peer = none → exec (.identityResend port) s =
        .next (s.emit (.kenlink port (sealFlit (2 + 128 * 2 ^ 9) (s.identityFrame port.val) 0 l.lastRx.toNat))))
    ∧ (s.mode.commands = true → ∃ X u : State, X.link.findings = [] ∧ X.link.ran = true ∧ X.num PD.DISCOVERY_STATE = 1 ∧ X.mode = s.mode
        ∧ exec .discoveryRestart s = .next u ∧ (X.allFramed = false → u = X) ∧ (X.allFramed = true → u = X.decideRun))
    ∧ (s.lanesUp = true → s.num PD.DISCOVERY_STATE = 1 → ∃ u, exec .discoveryWindowEnd s = .next u
        ∧ u.num PD.DISCOVERY_STATE = s.outcomeOf s.findAll.findings ∧ u.link.findings = s.findAll.findings
        ∧ u.link.logical = (List.range 12).map fun l => (s.findAll.pairs.find? fun x => x.1 = l).map (·.2))

/-- A flit that fails its checks only counts; DATA in sequence is delivered and acknowledged, out of sequence discarded; IDLE returns credit.
    Derived from: R358, R359, R360, R361, R363, R365, R376, 14_kenlink_and_topology.md. -/
def Obligations.FlitsAreTakenInSequenceAcknowledgedAndCredited : Prop :=
  ∀ s : State, s.dictOk = true → s.lanesUp = true →
    (∀ (port : Port) (l : LinkPort) (bytes : List Byte) (fecOk : Bool) (corrected : Nat), s.port port.val = l → l.st.live = true →
      let good := fun (kind : Nat) => (fecOk && decide (bytes.length = 256) && fieldAt bytes 252 4 = crc32c (bytes.take 252) && flitFieldsOk kind bytes) = true
      let h := fieldAt bytes 0 8
      let ack := fieldAt bytes 250 2
      let replay := match l.replay.findIdx? fun r => fieldAt r.1 248 2 = ack with
        | some i => l.replay.drop (i + 1)
        | none => l.replay
      let fec := { l with fecCorrected := l.fecCorrected + corrected, fecBad := l.fecBad + b2n (!fecOk) }
      (¬ good 1 → ∃ u, exec (.dataFlit port bytes fecOk corrected) s = .next u ∧ u.num PD.FLIT_CRC_ERR = (s.num PD.FLIT_CRC_ERR + 1) % 2 ^ 64
        ∧ (u.port port.val).crcErr = l.crcErr + 1 ∧ (u.port port.val).nacked = true ∧ (u.port port.val).lastRx = l.lastRx ∧ u.link.inbox = s.link.inbox)
      ∧ (¬ good 0 → ∃ u, exec (.idleFlit port bytes fecOk corrected) s = .next u ∧ u.num PD.FLIT_CRC_ERR = (s.num PD.FLIT_CRC_ERR + 1) % 2 ^ 64
        ∧ u.port port.val = { fec with crcErr := l.crcErr + 1 })
      ∧ (¬ good 2 → ∃ u, exec (.identityFlit port bytes fecOk corrected) s = .next u ∧ u.num PD.FLIT_CRC_ERR = (s.num PD.FLIT_CRC_ERR + 1) % 2 ^ 64
        ∧ u.port port.val = { fec with crcErr := l.crcErr + 1 })
      ∧ (good 1 → bit h 59 = false → l.waiting = [] →
        (BitVec.ofNat 16 (fieldAt bytes 248 2) ≠ l.lastRx + 1 → ∃ u, exec (.dataFlit port bytes fecOk corrected) s = .next u
          ∧ (u.port port.val).replay = replay ∧ (u.port port.val).lastRx = l.lastRx ∧ (u.port port.val).nacked = true ∧ u.link.inbox = s.link.inbox)
        ∧ (BitVec.ofNat 16 (fieldAt bytes 248 2) = l.lastRx + 1 → l.st = .active → (⟨bits h 29 1, bits h 17 6, bits h 23 6⟩ : Addr) = s.self →
          ∃ u, exec (.dataFlit port bytes fecOk corrected) s = .next u
            ∧ (u.port port.val).replay = replay ∧ (u.port port.val).lastRx = l.lastRx + 1 ∧ (u.port port.val).nacked = false ∧
            let mine := fun (r : Reasm) => r.side.toNat = bits h 42 1 && r.pallet.toNat = bits h 30 6 && r.slot.toNat = bits h 36 6
              && r.cls.toNat = bits h 4 3 && r.tag.toNat = bits h 43 16
            let pay := (bytes.drop 8).take (bits h 9 8)
            let msg := if bit h 7 then some pay else (s.link.reasm.find? mine).map fun r => r.bytes ++ pay
            (msg = none → u.link.inbox = s.link.inbox ∧ u.link.reasm = s.link.reasm)
            ∧ (∀ b, msg = some b → bit h 8 = true → u.link.inbox = s.link.inbox ++ [(bits h 4 3, b)] ∧ u.link.reasm = s.link.reasm.filter fun r => !mine r)
            ∧ (∀ b, msg = some b → bit h 8 = false → u.link.inbox = s.link.inbox ∧ ∃ r : Reasm, r.bytes = b
                ∧ u.link.reasm = (s.link.reasm.filter fun r => !mine r) ++ [r])))
      ∧ (good 0 → bit h 59 = false → l.waiting = [] → ∃ u, exec (.idleFlit port bytes fecOk corrected) s = .next u
        ∧ u.port port.val = { fec with replay := replay, credits := (List.range 20).map fun i => (l.credits[i]?).getD 0 + fieldAt bytes (8 + 2 * i) 2, shared := l.shared + fieldAt bytes 48 4 })
      ∧ (good 2 → l.waiting = [] →
        (idValid (BitVec.ofNat 1024 (fieldAt bytes 8 128)) = false ∨ l.peer.isSome = true → ∃ u, exec (.identityFlit port bytes fecOk corrected) s = .next u
          ∧ u.port port.val = { fec with replay := replay })
        ∧ (idValid (BitVec.ofNat 1024 (fieldAt bytes 8 128)) = true → l.peer = none → s.num PD.DISCOVERY_STATE = 3 → ∃ u, exec (.identityFlit port bytes fecOk corrected) s = .next u
          ∧ u.port port.val = { fec with replay := replay, peer := some (BitVec.ofNat 1024 (fieldAt bytes 8 128)), st := .quiet })))
    ∧ (∀ (side : Bool) (pallet slot : BitVec 6) (cls : BitVec 3) (tag : W16),
      let mine := fun (r : Reasm) => r.side = side && r.pallet = pallet && r.slot = slot && r.cls = cls && r.tag = tag
      (s.link.reasm.any mine = true → ∃ u, exec (.reassemblyTimeout side pallet slot cls tag) s = .next u
        ∧ u.num PD.MSG_REASSEMBLY_DROPS = (s.num PD.MSG_REASSEMBLY_DROPS + 1) % 2 ^ 64 ∧ u.link = { s.link with reasm := s.link.reasm.filter fun r => !mine r })
      ∧ (s.link.reasm.any mine = false → exec (.reassemblyTimeout side pallet slot cls tag) s = .next s))

/-- IRQ_STATUS clears by ones, an unmasked pending cause sends once, a merged vector sends at its interval, and BAR0 writes act as the fields
    do. Derived from: R387, R388, R390, R391, 15_host_interface.md. -/
def Obligations.EndpointRegistersClearMaskAndSendInterrupts : Prop :=
  ∀ (s : State) (ep : Ep) (d : Endpoint), s.ep ep = d →
    (s.epOpen ep = true →
       (∀ v : W16, ∃ u, exec (.irqStatusClear ep v) s = .next u ∧ u.ep ep = { d with status := d.status &&& ~~~v } ∧ u.ep (1 - ep) = s.ep (1 - ep) ∧ u.outs = s.outs)
      ∧ (∀ v : W16, ∃ u, exec (.irqMaskWrite ep v) s = .next u ∧ (u.ep ep).mask = v ∧ (u.ep ep).status = d.status ∧ u.ep (1 - ep) = s.ep (1 - ep)
          ∧ u.outs = s.outs ++ (((List.range 16).filter fun k => d.mask.getLsbD k && !v.getLsbD k && d.status.getLsbD k && d.msixOn).filter fun k => !d.vectorMasked k).map (Out.msix ep))
      ∧ (∀ (vector : Fin 2048) (dword : Fin 4) (v : W32), ∃ u, exec (.msixTableWrite ep vector dword v) s = .next u
          ∧ kvGet msixDefault (u.ep ep).msix (vector.val * 4 + dword.val) = v ∧ u.ep (1 - ep) = s.ep (1 - ep)
          ∧ (∀ k, k ≠ vector.val * 4 + dword.val → kvGet msixDefault (u.ep ep).msix k = kvGet msixDefault d.msix k)
          ∧ (d.pending.contains vector.val = true → d.msixOn = true → (u.ep ep).vectorMasked vector.val = false →
              u.outs = s.outs ++ [.msix ep vector.val] ∧ (u.ep ep).pending = d.pending.filter fun p => p ≠ vector.val)
          ∧ (d.pending.contains vector.val = false ∨ d.msixOn = false ∨ (u.ep ep).vectorMasked vector.val = true → u.outs = s.outs ∧ (u.ep ep).pending = d.pending))
      ∧ (∀ v : W64, exec (.bar0Write ep 16 4 v) s = exec (.irqStatusClear ep (BitVec.ofNat 16 v.toNat)) s
          ∧ exec (.bar0Write ep 24 4 v) s = exec (.irqMaskWrite ep (BitVec.ofNat 16 v.toNat)) s
          ∧ exec (.bar0Write ep 32 4 v) s = exec (.mboxReqLen ep (BitVec.ofNat 16 v.toNat)) s)
      ∧ (∀ (vector : Fin 2048) (dword : Fin 4) (v : W64), exec (.bar0Write ep (0x1000 + 16 * vector.val + 4 * dword.val) 4 v) s = exec (.msixTableWrite ep vector dword (BitVec.ofNat 32 v.toNat)) s)
      ∧ (∀ a size v, a < 0x1000 → exec (.bar0Write ep (0x100000 + a) size v) s = exec (.doorbell ep a size v) s)
      ∧ (∀ offset size v, size = 4 ∨ size = 8 → offset % size = 0 → 0x10000 ≤ offset → offset < 0x18000 →
          ∃ u, exec (.bar0Write ep offset size v) s = .next u ∧ u.ep ep = { d with request := kvSetList (fun _ => 0) d.request (offset - 0x10000) (le size v.toNat) })
      ∧ (∀ offset size v, offset < 2 ^ 24 → offset < 0x100000 ∨ 0x101000 ≤ offset →
          bar0Mapped (s.mode = .boot || s.mode = .loader) offset = false ∨ (size ≠ 4 ∧ size ≠ 8) ∨ offset % size ≠ 0 → exec (.bar0Write ep offset size v) s = .next (s.bump PD.BAR0_DISCARDED)))
    ∧ (∀ vector, s.mode.hubRuns = true → d.merging.contains vector = true →
        (d.merged.contains vector = true → d.linkUp = true → d.msixOn = true → d.vectorMasked vector = false → ∃ u, exec (.coalesceIntervalEnd ep vector) s = .next u
          ∧ u.outs = s.outs ++ [.msix ep vector] ∧ u.ep ep = { d with merged := d.merged.filter fun v => v ≠ vector })
        ∧ (d.merged.contains vector = false → ∃ u, exec (.coalesceIntervalEnd ep vector) s = .next u ∧ u.outs = s.outs
          ∧ u.ep ep = { d with merging := d.merging.filter fun v => v ≠ vector }))

/-- A mailbox request queues or is dropped, its response is written with READY, and PERST or FLR resets one endpoint alone. Derived from: R393,
    R396, R397, 15_host_interface.md. -/
def Obligations.MailboxesQueueAndEndpointResetsTouchOneEndpoint : Prop :=
  ∀ (s : State) (ep : Ep) (d : Endpoint), s.dictOk = true → s.ep ep = d →
    (∀ v : W16, s.epOpen ep = true →
      (d.mbox = 1 ∨ v.toNat = 0 ∨ 32768 < v.toNat → ∃ u, exec (.mboxReqLen ep v) s = .next u ∧ u.num PD.MBOX_DROPPED = (s.num PD.MBOX_DROPPED + 1) % 2 ^ 64 ∧ u.ep ep = d ∧ u.dict = s.dict)
      ∧ (d.mbox ≠ 1 → v.toNat ≠ 0 → v.toNat ≤ 32768 → ∃ u, exec (.mboxReqLen ep v) s = .next u ∧ u.ep ep = { d with reqLen := v, mbox := 1 } ∧ u.ep (1 - ep) = s.ep (1 - ep)
        ∧ u.dict = { s.dict with queue := s.dict.queue ++ [⟨ep, kvGetList (fun _ => 0) d.request 0 v.toNat, false⟩] }))
    ∧ (s.pdxUp = true →
      (∀ a, s.dict.answers.find? (fun a => a.1 = ep) = some a → s.dict.freezeAfter = false → ∃ u, exec (.mailboxResponse ep) s = .next u
        ∧ (u.ep ep).response = a.2 ∧ (u.ep ep).rspLen = BitVec.ofNat 16 a.2.length ∧ (u.ep ep).mbox = 2 ∧ (d.linkUp = true → (u.ep ep).status.getLsbD irqMailbox = true)
        ∧ u.dict = { s.dict with answers := s.dict.answers.erase a })
      ∧ (s.dict.answers.any (fun a => a.1 = ep) = false → s.dict.queue = [] → exec (.mailboxResponse ep) s = .next s))
    ∧ (d.perstN = true → ∃ u, exec (.perst ep false) s = .next u
        ∧ u.ep ep = { linkUp := false, ready := false, perstN := false, perstEvents := (d.perstEvents + 1) % 2 ^ 64, flrEvents := d.flrEvents }
        ∧ u.ep (1 - ep) = s.ep (1 - ep) ∧ u.mode = s.mode
        ∧ u.dict.queue = s.dict.queue.map (fun q => if q.ep = ep then { q with dead := true } else q) ∧ u.dict.answers = s.dict.answers.filter fun a => a.1 ≠ ep)
    ∧ (d.perstN = false → ∃ u, exec (.perst ep true) s = .next u ∧ u.ep ep = { d with perstN := true, linkUp := s.linkTrains, ready := s.linkTrains } ∧ u.ep (1 - ep) = s.ep (1 - ep))
    ∧ exec (.perst ep d.perstN) s = .next s
    ∧ (s.epOpen ep = true → ∃ u, exec (.functionLevelReset ep) s = .next u
        ∧ u.ep ep = { linkUp := true, ready := true, perstN := d.perstN, perstEvents := d.perstEvents, flrEvents := (d.flrEvents + 1) % 2 ^ 64 }
        ∧ u.ep (1 - ep) = s.ep (1 - ep) ∧ u.mode = s.mode
        ∧ u.dict.queue = s.dict.queue.map (fun q => if q.ep = ep then { q with dead := true } else q) ∧ u.dict.answers = s.dict.answers.filter fun a => a.1 ≠ ep)

/-- READ, READ_STAGED, DESCRIBE and NEXT are answered from the dictionary by the request's path; a request for another module is forwarded.
    Derived from: R405, R416, R417, R418, R420, R421, R424, R540, 16_parameter_dictionary.md. -/
def Obligations.PdxReadsAreAnsweredAndRequestsForOthersGoOn : Prop :=
  ∀ (s T : State) (path : Path) (req : PdxReq) (dead : Bool), s.dictOk = true → s.pdxUp = true → s.dict.freezeAfter = false →
    let dst : Addr := ⟨b2n req.tgtSide, req.tgtPallet.toNat, req.tgtSlot.toNat⟩
    let key := req.index.toNat * 256 + req.sub.toNat
    let answered := fun (i : Instr) (op : Nat) (x : Reply) => ∃ u, exec i s = .next u ∧ u.num PD.PDX_FRAMES = (s.num PD.PDX_FRAMES + 1) % 2 ^ 64
      ∧ (path = .sgmii → u.outs = s.outs ++ [.pdx .sgmii (rspFrame op req x none)] ∧ u.dict = s.dict)
      ∧ (∀ ep, path = .mailbox ep → u.outs = s.outs ∧ u.dict.answers = if dead then s.dict.answers else s.dict.answers ++ [(ep, rspFrame op req x none)])
      ∧ ∀ k, k ≠ PD.PDX_FRAMES → k ≠ PD.PDX_BAD_FRAMES → k ≠ PD.FLITS_NO_ROUTE → u.num k = s.num k
    (¬ (req.forward = true ∧ dst ≠ T.self) →
      (∀ i, i ∈ [(Instr.read path req, 1), (Instr.readStaged path req, 2), (Instr.describe path req, 4), (Instr.next path req, 5), (Instr.write path req, 3)] →
        s.takeRequest path (reqFrame i.2 req) = some (dead, T) →
        (req.auth = false → headerOk path req = false → answered i.1 i.2 { status := stBadFrame })
        ∧ (req.auth = false → headerOk path req = true → T.servesOpenly path i.2 req = false → answered i.1 i.2 { status := stNoSession })
        ∧ (req.auth = true → T.sessionFor i.2 req = none → ∃ u, exec i.1 s = .next u ∧ u.num PD.PDX_AUTH_DROPPED = (s.num PD.PDX_AUTH_DROPPED + 1) % 2 ^ 64 ∧ u.outs = s.outs))
      ∧ (req.auth = false → headerOk path req = true →
        (s.takeRequest path (reqFrame 1 req) = some (dead, T) → T.servesOpenly path 1 req = true →
          (T.entry key = none → answered (.read path req) 1 { status := stNoEntry })
          ∧ (∀ m, T.entry key = some m → 4 ≤ m.cls → answered (.read path req) 1 { status := stWrongAccess })
          ∧ (∀ m, T.entry key = some m → m.cls < 4 → (m.encode (T.entryValue m false)).length < req.offset.toNat → answered (.read path req) 1 { status := stBadOffset })
          ∧ (∀ m, T.entry key = some m → m.cls < 4 → req.offset.toNat ≤ (m.encode (T.entryValue m false)).length → answered (.read path req) 1
              { status := stOk, body := sub (m.encode (T.entryValue m false)) req.offset.toNat (bodyRoom path false),
                more := decide (bodyRoom path false < (m.encode (T.entryValue m false)).length - req.offset.toNat) }))
        ∧ (∀ m, s.takeRequest path (reqFrame 2 req) = some (dead, T) → T.servesOpenly path 2 req = true → T.entry key = some m → m.cls < 4 →
            req.offset.toNat ≤ (m.encode (T.entryValue m true)).length → answered (.readStaged path req) 2
              { status := stOk, body := sub (m.encode (T.entryValue m true)) req.offset.toNat (bodyRoom path false),
                more := decide (bodyRoom path false < (m.encode (T.entryValue m true)).length - req.offset.toNat) })
        ∧ (s.takeRequest path (reqFrame 4 req) = some (dead, T) → T.servesOpenly path 4 req = true → answered (.describe path req) 4 (T.describeReply key))
        ∧ (s.takeRequest path (reqFrame 5 req) = some (dead, T) → T.servesOpenly path 5 req = true → answered (.next path req) 5 (T.nextReply key))))
    ∧ (∀ op : Byte, s.takeRequest path (reqFrame op.toNat req) = some (dead, T) → req.forward = true → dst ≠ T.self → headerOk path req = true →
      (T.dict.forwards.length < 64 → T.reaches dst = true → ∃ u, exec (.pdxForward path op req) s = .next u
        ∧ u.num PD.PDX_FORWARDED = (s.num PD.PDX_FORWARDED + 1) % 2 ^ 64 ∧ u.dict.forwards = s.dict.forwards ++ [⟨req.sequence, path, dead, req.index, req.sub, req.offset, op⟩])
      ∧ (64 ≤ T.dict.forwards.length ∨ T.reaches dst = false → answered (.pdxForward path op req) op.toNat { status := stUnreachable }))

/-- WRITE and OWNER_KEY: the status of a write follows class, state, length and range; an accepted value is in force or staged, a refused one
    changes nothing. Derived from: R402, R404, R420, R422, R424, 16_parameter_dictionary.md. -/
def Obligations.WritesTakeEffectByTheirEntriesClass : Prop :=
  (∀ (s T : State) (path : Path) (req : PdxReq) (dead : Bool) (y : Option Session), s.pdxUp = true →
    s.takeRequest path (reqFrame 3 req) = some (dead, T) → headerOk path req = true →
    ¬ (req.forward = true ∧ (⟨b2n req.tgtSide, req.tgtPallet.toNat, req.tgtSlot.toNat⟩ : Addr) ≠ T.self) →
    ((req.auth = false ∧ y = none ∧ T.mailboxOpen path = true) ∨ (∃ x, req.auth = true ∧ y = some x ∧ T.sessionFor 3 req = y ∧ x.lastSeq.toNat < req.sequence.toNat)) →
    let key := req.index.toNat * 256 + req.sub.toNat
    let ends := fun (st : Nat) (Z : State) => exec (.write path req) s = .next
      ((y.elim Z fun x => Z.noteSession x.id req.sequence (rspFrame 3 req { status := st } y)).answer path dead 3 req { status := st } y)
    (T.entry key = none → ends stNoEntry T)
    ∧ ∀ m, T.entry key = some m →
      (m.cls = 0 → ends stWrongAccess T)
      ∧ ((m.cls = 1 ∧ (T.mode = .frozen ∨ T.mode = .coast ∨ T.mode = .off)) ∨ (m.cls = 2 ∧ T.mode ≠ .held) ∨ (m.cls = 3 ∧ T.mode.working = false) → ends stWrongState T)
      ∧ (T.classOpen m.cls = true → m.cls ≠ 0 →
        (m.ty = 14 → ends (T.writePiece m req.offset.toNat req.body).1 (T.writePiece m req.offset.toNat req.body).2)
        ∧ (m.ty ≠ 14 → req.offset.toNat ≠ 0 → ends stBadOffset T)
        ∧ (m.ty ≠ 14 → req.offset.toNat = 0 →
          (m.cls = 5 → ends (T.setOwnerKey (req.auth || T.mailboxOpen path) req.body).1 (T.setOwnerKey (req.auth || T.mailboxOpen path) req.body).2)
          ∧ (m.cls ≠ 5 → (key = PD.PMB_XFER ∧ (req.body.length < 4 ∨ 36 < req.body.length)) ∨ m.parse req.body = none → ends stBadLength T)
          ∧ ∀ v, m.cls ≠ 5 → m.parse req.body = some v → ¬ (key = PD.PMB_XFER ∧ (req.body.length < 4 ∨ 36 < req.body.length)) →
            (m.cls = 1 → m.inRange v = true → ends stOk (T.writeNow m.key v))
            ∧ (m.cls = 1 → m.inRange v = false → ends stOutOfRange T)
            ∧ (m.cls = 4 → ends stOk (T.command m.key v))
            ∧ (m.cls = 2 ∨ m.cls = 3 → T.num PD.CFG_STATUS = 1 → ends stBusy T)
            ∧ (m.cls = 2 ∨ m.cls = 3 → T.num PD.CFG_STATUS ≠ 1 → ends stOk (T.stage m.key v)))))
  ∧ (∀ (T : State) (k : Nat) (v : PdVal), T.dictOk = true →
      (T.writeNow k v).pdGet k = v ∧ (∀ j, j ≠ k → (T.writeNow k v).pdGet j = T.pdGet j) ∧ (T.writeNow k v).dict = T.dict
      ∧ (T.stage k v).pd = T.pd ∧ stagedGet (T.stage k v).dict.staged k = some v
      ∧ ∀ j, j ≠ k → stagedGet (T.stage k v).dict.staged j = stagedGet T.dict.staged j)
  ∧ (∀ (Z : State) (path : Path) (dead : Bool) (req : PdxReq) (st k : Nat) (y : Option Session), Z.dictOk = true → Z.dict.freezeAfter = false →
      k ≠ PD.PDX_FRAMES → k ≠ PD.PDX_BAD_FRAMES → k ≠ PD.FLITS_NO_ROUTE →
      (Z.answer path dead 3 req { status := st } y).num k = Z.num k ∧ (Z.answer path dead 3 req { status := st } y).dict.staged = Z.dict.staged
      ∧ (Z.answer path dead 3 req { status := st } y).num PD.PDX_FRAMES = (Z.num PD.PDX_FRAMES + 1) % 2 ^ 64)
  ∧ ∀ (s : State) (path : Path) (auth : Bool) (key : List Byte),
      (s.mode = .held → (auth = true ∨ (∃ ep, path = .mailbox ep) ∧ s.flag PD.MBOX_AUTH_REQUIRED = false) → s.flag PD.FW_OWNER_SIG_REQUIRED = false → key.length = 97 →
        (allZero key = true → s.dict.ownerKey ≠ [] → exec (.ownerKey path auth key) s = .next { s with dict := { s.dict with ownerKey := [], sessions := [] } })
        ∧ (allZero key = false → Config.onCurve key = true → key ≠ s.dict.ownerKey → exec (.ownerKey path auth key) s = .next { s with dict := { s.dict with ownerKey := key, sessions := [] } }))
      ∧ (key.length ≠ 97 ∨ s.mode ≠ .held ∨ s.flag PD.FW_OWNER_SIG_REQUIRED = true ∨ (allZero key = false ∧ Config.onCurve key = false) ∨ (allZero key = true ∧ s.dict.ownerKey = []) ∨ (allZero key = false ∧ key = s.dict.ownerKey) → exec (.ownerKey path auth key) s = .next s)

/-- SESSION_OPEN makes a session of a fresh number, SESSION_CLOSE and an idle time end it; a forwarded request ends with its response or with
    UNREACHABLE. Derived from: R421, R423, R424, 16_parameter_dictionary.md. -/
def Obligations.SessionsOpenCloseAndForwardedRequestsAreAnswered : Prop :=
  (∀ (s T : State) (path : Path) (req : PdxReq) (dead : Bool), s.dictOk = true → s.pdxUp = true → s.dict.freezeAfter = false →
    ¬ (req.forward = true ∧ (⟨b2n req.tgtSide, req.tgtPallet.toNat, req.tgtSlot.toNat⟩ : Addr) ≠ T.self) → headerOk path req = true →
    let answered := fun (i : Instr) (op : Nat) (x : Reply) (y : Option Session) (post : State → Prop) => ∃ u, exec i s = .next u ∧ post u
      ∧ u.num PD.PDX_FRAMES = (s.num PD.PDX_FRAMES + 1) % 2 ^ 64
      ∧ (path = .sgmii → u.outs = s.outs ++ [.pdx .sgmii (rspFrame op req x y)])
      ∧ (∀ ep, path = .mailbox ep → u.outs = s.outs ∧ u.dict.answers = if dead then s.dict.answers else s.dict.answers ++ [(ep, rspFrame op req x y)])
    let keeps := fun (u : State) => u.dict.sessions = T.dict.sessions
    let nc := sub req.body 97 32
    let signed := ascii "PDX1-OPEN" ++ le 8 Config.serial.toNat ++ sub req.body 0 97 ++ nc
    (s.takeRequest path (reqFrame 0x10 req) = some (dead, T) → req.auth = false →
      (req.body.length ≠ 225 → answered (.sessionOpen path req) 0x10 { status := stBadLength } none keeps)
      ∧ (req.body.length = 225 →
        (T.dict.ownerKey = [] → answered (.sessionOpen path req) 0x10 { status := stNoOwner } none keeps)
        ∧ (T.dict.ownerKey ≠ [] → Config.ecdsaOk T.dict.ownerKey signed (sub req.body 129 96) = false → answered (.sessionOpen path req) 0x10 { status := stAuthFail } none keeps)
        ∧ (T.dict.ownerKey ≠ [] → Config.ecdsaOk T.dict.ownerKey signed (sub req.body 129 96) = true →
          (8 ≤ T.dict.sessions.length → answered (.sessionOpen path req) 0x10 { status := stSessionLimit } none keeps)
          ∧ (T.dict.sessions.length < 8 → ∃ (qm nm sig z : List Byte) (id : W32), qm.length = 97 ∧ nm.length = 32 ∧ sig.length = 96 ∧ id.toNat ≠ 0
            ∧ (∀ x, x ∈ T.dict.sessions → x.id ≠ id)
            ∧ answered (.sessionOpen path req) 0x10 { status := stOk, body := qm ++ nm ++ sig, sid := id.toNat } none fun u =>
              u.dict.sessions = T.dict.sessions ++ [⟨id, path, Config.hkdf (nc ++ nm) z (ascii "PDX1 c2m"), Config.hkdf (nc ++ nm) z (ascii "PDX1 m2c"), 0, [], T.course.now⟩]))))
    ∧ (s.takeRequest path (reqFrame 0x11 req) = some (dead, T) → req.auth = false → answered (.sessionClose path req) 0x11 { status := if T.mailboxOpen path then stOk else stNoSession } none keeps)
    ∧ (∀ x, s.takeRequest path (reqFrame 0x11 req) = some (dead, T) → req.auth = true → T.sessionFor 0x11 req = some x → x.lastSeq.toNat < req.sequence.toNat →
      answered (.sessionClose path req) 0x11 { status := stOk } (some x) fun u => u.dict.sessions = T.dict.sessions.filter fun z => z.id ≠ x.id)
    ∧ ∀ x i, i ∈ [(Instr.read path req, 1), (Instr.readStaged path req, 2), (Instr.write path req, 3), (Instr.describe path req, 4), (Instr.next path req, 5),
        (Instr.sessionOpen path req, 0x10), (Instr.sessionClose path req, 0x11)] →
      s.takeRequest path (reqFrame i.2 req) = some (dead, T) → req.auth = true → T.sessionFor i.2 req = some x →
      (req.sequence = x.lastSeq → exec i.1 s = .next (T.respond path dead x.lastResponse))
      ∧ (req.sequence.toNat < x.lastSeq.toNat → answered i.1 i.2 { status := stBadSequence } (some x) keeps))
  ∧ (∀ (s : State) (n : W32), s.dictOk = true → s.pdxUp = true → (∃ x, x ∈ s.dict.sessions ∧ x.id = n) →
      ∃ u, exec (.sessionIdleTimeout n) s = .next u ∧ u.dict = { s.dict with sessions := s.dict.sessions.filter fun z => z.id ≠ n } ∧ ∀ k, u.pdGet k = s.pdGet k)
  ∧ ∀ (s : State) (f : Forward) (b : List Byte), s.dictOk = true → s.pdxUp = true →
      (s.dict.forwards.find? (fun g => g.sequence = f.sequence) = some f → ∃ u, exec (.forwardTimeout f.sequence) s = .next u
        ∧ u = ({ s with dict := { s.dict with forwards := s.dict.forwards.erase f } }.bump PD.PDX_FRAMES).respond f.path f.dead
            (rspHead f.op.toNat stUnreachable false false 0 f.sequence.toNat f.index.toNat f.sub.toNat f.offset.toNat 0)
        ∧ u.dict.forwards = s.dict.forwards.erase f)
      ∧ (let fits := fun (g : Forward) => bit (fieldAt b 3 1) 0 && g.sequence.toNat = fieldAt b 8 8 && g.op.toNat = fieldAt b 1 1 && g.index.toNat = fieldAt b 16 2 && g.sub.toNat = fieldAt b 18 1
        (s.dict.forwards.find? fits = some f → ∃ u, exec (.pdxForwardedResponse b) s = .next u ∧ u.dict.forwards = s.dict.forwards.erase f
          ∧ (f.path = .sgmii → u.outs = s.outs ++ [.pdx .sgmii b])
          ∧ ∀ ep, f.path = .mailbox ep → u.outs = s.outs ∧ u.dict.answers = if f.dead then s.dict.answers else s.dict.answers ++ [(ep, b)])
        ∧ (s.dict.forwards.find? fits = none → exec (.pdxForwardedResponse b) s = .next (s.takeMessage 4 b)))

/-- CFG_COMMIT, CFG_DISCARD and CFG_STAGE_DEFAULTS, the end of validation with and without faults, ARM and HOLD requests, and ARP on the
    management port. Derived from: R402, R406, R407, R408, R409, R410, R375, R455, 16_parameter_dictionary.md. -/
def Obligations.ConfigurationsCommitWholeAndModuleStatesAreRequested : Prop :=
  (∀ s : State, s.dictOk = true → s.dictOpen = true →
    (∀ i, i ∈ [Instr.cfgCommit, Instr.cfgDiscard, Instr.cfgStageDefaults] →
      (s.mode.working = false → exec i s = .next (s.setNum PD.CFG_CMD_RESULT 2))
      ∧ (s.mode.working = true → s.num PD.CFG_STATUS = 1 ∨ (i = .cfgCommit ∧ s.num PD.CFG_STATUS = 4) → exec i s = .next (s.setNum PD.CFG_CMD_RESULT 3)))
    ∧ (s.mode.working = true → s.num PD.CFG_STATUS ≠ 1 →
      (s.num PD.CFG_STATUS ≠ 4 → exec .cfgCommit s = .next ((s.setNum PD.CFG_CMD_RESULT 0).setNum PD.CFG_STATUS 1))
      ∧ (∃ u, exec .cfgDiscard s = .next u ∧ u.dict = { s.dict with staged := [], pieces := [], waiting := none } ∧ u.num PD.CFG_CMD_RESULT = 0
        ∧ u.num PD.CFG_STATUS = (if s.num PD.CFG_STATUS = 4 then 2 else s.num PD.CFG_STATUS) ∧ ∀ k, k ≠ PD.CFG_CMD_RESULT → k ≠ PD.CFG_STATUS → u.pdGet k = s.pdGet k)
      ∧ ∃ u, exec .cfgStageDefaults s = .next u ∧ u.pd = (s.setNum PD.CFG_CMD_RESULT 0).pd
        ∧ ∀ k, stagedGet u.dict.staged k = match metaOf k with
          | some m => if m.cls = 3 ∨ (m.cls = 2 ∧ s.mode = .held) then some (if k = PD.WIRING_PLAN then .table (torusPlan s.self) else m.dflt) else stagedGet s.dict.staged k
          | none => stagedGet s.dict.staged k)
    ∧ (∀ i, i ∈ [Instr.stateReqArm, Instr.stateReqHold] → s.mode.working = false → exec i s = .next (s.setNum PD.STATE_REQ_RESULT 2))
    ∧ (s.mode = .armed ∨ s.mode = .run ∨ s.mode = .drain → exec .stateReqArm s = .next (s.setNum PD.STATE_REQ_RESULT 2))
    ∧ (s.mode = .held → s.armable = false → exec .stateReqArm s = .next (s.setNum PD.STATE_REQ_RESULT 3))
    ∧ (s.mode = .held → s.armable = true → ∃ u, exec .stateReqArm s = .next u ∧ u.mode = .armed ∧ u.num PD.STATE_REQ_RESULT = 0
      ∧ u.num PD.STEP_NUMBER = s.num PD.STEP_FIRST ∧ u.num PD.STEP_ATTEMPT = 0 ∧ u.step = { s.step with firstAfterArm := true })
    ∧ (s.mode.working = true → ∃ u, exec .stateReqHold s = .next u ∧ u.num PD.STATE_REQ_RESULT = 0
      ∧ u.mode = if s.mode = .run ∧ s.step.opened = true then .drain else if s.mode = .run ∨ s.mode = .armed then .held else s.mode))
  ∧ (∀ s : State, s.dictOk = true → s.num PD.CFG_STATUS = 1 → s.mode.hubRuns = true → s.mode ≠ .boot → s.mode ≠ .loader →
    let later := s.dict.staged.filter fun p => (metaOf p.1).any fun m => m.cls = 3
    let waits := later ≠ [] ∧ ¬ ((s.mode = .held ∨ s.mode = .armed) ∧ s.num PD.CFG_APPLY_STEP = 0)
    (s.commitFaults ≠ [] → ∃ u, exec .cfgValidationDone s = .next u ∧ u.num PD.CFG_STATUS = 3 ∧ u.rows PD.CFG_FAULTS = s.commitFaults
      ∧ u.dict.staged = s.dict.staged ∧ u.dict.waiting = s.dict.waiting ∧ u.dict.silenced = (s.dict.silenced || decide (s.mode = .held))
      ∧ ∀ k, k ≠ PD.CFG_STATUS → k ≠ PD.CFG_FAULTS → u.pdGet k = s.pdGet k)
    ∧ (s.commitFaults = [] → ∃ u, exec .cfgValidationDone s = .next u ∧ u.num PD.CFG_STATUS = (if waits then 4 else 2) ∧ u.rows PD.CFG_FAULTS = []
      ∧ u.num PD.CFG_GENERATION = (s.num PD.CFG_GENERATION + 1) % 2 ^ 32 ∧ u.dict.staged = [] ∧ u.dict.pieces = [] ∧ u.dict.silenced = false
      ∧ u.dict.waiting = (if waits then some (s.num PD.CFG_APPLY_STEP, later) else s.dict.waiting)
      ∧ (∀ p m, p ∈ s.dict.staged → metaOf p.1 = some m → (∀ q, q ∈ s.dict.staged → q.1 = p.1 → q = p) →
        (m.cls = 2 ∨ (m.cls = 3 ∧ ¬ waits) → u.pdGet p.1 = p.2) ∧ (m.cls = 3 ∧ waits → u.pdGet p.1 = s.pdGet p.1))
      ∧ ∀ k, (∀ p, p ∈ s.dict.staged → p.1 ≠ k) → k ≠ PD.CFG_STATUS → k ≠ PD.CFG_FAULTS → k ≠ PD.CFG_GENERATION → k ≠ PD.EVENT_REJECTED → k ≠ PD.DISCOVERY_STATE →
        u.pdGet k = s.pdGet k))
  ∧ ∀ (s : State) (dst mac ip target addr tail : List Byte), s.pdxUp = true → s.ipv4 ≠ 0 → addr.length = 4 → ofBe addr = s.ipv4 → dst.length = 6 → mac.length = 6 → ip.length = 4 → target.length = 6 →
    exec (.arpNdAndEchoRequest (dst ++ mac ++ [8, 6] ++ [0, 1, 8, 0, 6, 4, 0, 1] ++ mac ++ ip ++ target ++ addr ++ tail)) s
      = .next (s.emit (.sgmii (padTo 60 (mac ++ macBytes ++ [8, 6] ++ [0, 1, 8, 0, 6, 4, 0, 2] ++ macBytes ++ be 4 s.ipv4 ++ mac ++ ip))))

/-- A trigger merges, starts, waits or is dropped; COMMAND, edge, timer and tick trigger their groups; a finished group's results are taken.
    Derived from: R427, R428, R430, R432, R433, R434, R435, R439, R444, 17_measurement_and_control.md. -/
def Obligations.SamplingGroupsAreTriggeredAndTheirResultsTakenTogether : Prop :=
  let served := fun (t : State) (p : Nat → Bool) =>
    (t.each (((List.range 16).filter p).filter fun g => t.groupCol g 4 ≠ 0) State.triggerOne).each (((List.range 16).filter p).filter fun g => t.groupCol g 4 = 0) State.triggerOne
  (∀ (s : State) (g : Nat),
    ((∃ r, r ∈ s.meas.running ∧ r.1 = g) ∨ g ∈ s.meas.waiting → s.triggerOne g = s.bump PD.ADC_TRIGGER_MERGED)
    ∧ ((∀ r, r ∈ s.meas.running → r.1 ≠ g) → g ∉ s.meas.waiting →
      (s.groupCol g 4 ≠ 0 → s.convsIdle g = true → ∃ u, s.triggerOne g = u ∧ u.pd = s.pd ∧ u.meas.running = s.meas.running ++ [(g, s.course.now)])
      ∧ (s.groupCol g 4 ≠ 0 → s.convsIdle g = false → s.triggerOne g = s.bump PD.ADC_URGENT_DROPPED)
      ∧ (s.groupCol g 4 = 0 → s.convsFree g = true → ∃ u, s.triggerOne g = u ∧ u.pd = s.pd ∧ u.meas.running = s.meas.running ++ [(g, s.course.now)])
      ∧ (s.convsFree g = false → s.groupCol g 4 = 0 → s.triggerOne g = { s with meas := { s.meas with waiting := s.meas.waiting ++ [g] } })))
  ∧ (∀ (s : State) (g : Byte),
    (s.mode.commands = false → exec (.adcTrigger g) s = .next (s.setNum PD.ADC_TRIGGER_RESULT 2))
    ∧ (s.mode.commands = true → 16 ≤ g.toNat ∨ s.groupCol g.toNat 0 ≠ 6 → exec (.adcTrigger g) s = .next (s.setNum PD.ADC_TRIGGER_RESULT 1))
    ∧ (s.mode.commands = true → g.toNat < 16 → s.groupCol g.toNat 0 = 6 → exec (.adcTrigger g) s = .next ((s.setNum PD.ADC_TRIGGER_RESULT 0).triggerOne g.toNat)))
  ∧ (∀ (s : State) (rising : Bool) (b : Nat), (s.rows PD.BALL_SELECT)[8]? = some [b] → s.mode.hubRuns = true →
    (b < 8 → exec (.extTrig rising) s = .next (served s fun g => s.groupCol g 0 = if rising then 3 else 4)) ∧ (8 ≤ b → exec (.extTrig rising) s = .next s))
  ∧ (∀ (s : State) (timer : Fin 16) (period : Nat), s.dictOk = true → s.mode.hubRuns = true → (((s.rows PD.TIMER_TABLE)[timer.val]?).getD []).getD 0 0 = period → period ≠ 0 →
    let due := kvGet (fun _ => 0) s.meas.timers timer.val + period
    let T : State := { s.runTo due with meas := { (s.runTo due).meas with timers := kvSet (fun _ => 0) (s.runTo due).meas.timers timer.val due, duty := if s.num PD.PWM_TIMER = timer.val then s.meas.dutyNext else s.meas.duty } }
    exec (.timerExpiry timer) s = .next (served T fun g => s.groupCol g 0 = 2 && s.groupCol g 1 = timer.val))
  ∧ (∀ s : State, s.mode.hubRuns = true → ∃ T : State, T = { s with meas := { s.meas with tickOpen := true, tickDone := false } } ∧ exec .levelTick s = .next (served T fun g => g = s.num PD.LEVEL_GROUP))
  ∧ ∀ (s : State) (group : Fin 16) (rounds : List (List Sample)) (start : Nat), s.dictOk = true → s.mode.hubRuns = true →
    s.meas.running.find? (fun r => r.1 = group.val) = some (group.val, start) →
    let n := s.groupCol group.val 6
    let T := s.runTo (start + 200 + n * 1000)
    let W : State := { T with meas := { T.meas with running := s.meas.running.filter fun r => r.1 ≠ group.val } }
    let got := fun k => s.roundSamples group.val k ((rounds[k]?).getD [])
    ∃ u, exec (.samplingGroupDone group rounds) s = .next u
      ∧ (∀ k c ch x, k < n → c < 8 → s.groupChan group.val k c = some ch → (∀ i j, i < n → j < 8 → s.groupChan group.val i j = some ch → i = k ∧ j = c) →
        ((rounds[k]?).getD []).find? (fun y => y.conv.val = c) = some x →
        u.chan ch = ⟨readSample x, toF32 (s.corrected ch (readSample x).toNat), x.above, x.below, false, group.val, T.ctimeAt (start + 200 + k * 1000)⟩)
      ∧ (∀ ch, (∀ k c, k < n → c < 8 → s.groupChan group.val k c ≠ some ch) → u.chan ch = s.chan ch)
      ∧ u.num PD.ADC_SAMPLES % 2 ^ 64 = (s.num PD.ADC_SAMPLES + ((List.range n).map fun k => ((got k).filterMap id).length).sum) % 2 ^ 64
      ∧ u.meas.capture = (if s.groupCol group.val 5 = 0 then s.meas.capture else (List.range n).foldl (fun l k =>
          pushLast 4096 l ([group.val, k, (T.ctimeAt (start + 200 + k * 1000)).toNat] ++ (got k).map fun o => (o.map fun p => (readSample p.2).toNat).getD 0xFFF)) s.meas.capture)
      ∧ u.meas.tickDone = (s.meas.tickDone || decide (group.val = s.num PD.LEVEL_GROUP))
      ∧ (group.val ∉ s.meas.waiting → ∀ r, r ∈ u.meas.running → r.1 ≠ group.val)
      ∧ ∀ h, h < 16 → s.meas.waiting = [h] → W.convsFree h = true → (h, T.course.now) ∈ u.meas.running

/-- Stale channels, slice measurement under a grant, tachometer edges and stalls, PMBus polls and raw transactions. Derived from: R427, R429,
    R433, R436, R437, R481, 17_measurement_and_control.md. -/
def Obligations.ChannelsSlicesTachometersAndPmbusReport : Prop :=
  (∀ (s : State) (c : Fin 128),
    (s.mode.hubRuns = true → ∃ u, exec (.channelStale c) s = .next u ∧ u.chan c.val = { s.chan c.val with stale := true } ∧ (∀ j, j ≠ c.val → u.chan j = s.chan j) ∧ u.pd = s.pd)
    ∧ (s.mode.hubRuns = false → exec (.channelStale c) s = .next s))
  ∧ (∀ (s : State) (conv : Fin 8) (weight : Nat), let x := kvGet (fun _ => ({} : Slice)) s.meas.slices conv.val
    let busy := s.meas.running.any fun r => (s.groupConvs r.1).contains conv.val
    (s.mode.maintains = false ∨ busy = true → exec (.sliceCalibration conv weight) s = .next s)
    ∧ (s.mode.maintains = true → busy = false →
      ((s.grant .slice conv.val).1 = false → exec (.sliceCalibration conv weight) s = .next (s.grant .slice conv.val).2)
      ∧ ((s.grant .slice conv.val).1 = true → x.slice < 12 → ∃ u, exec (.sliceCalibration conv weight) s = .next u
        ∧ (∃ y, y = kvGet (fun _ => ({} : Slice)) u.meas.slices conv.val ∧ y.weights = (if x.weights = [] then List.replicate 12 0 else x.weights).set x.slice weight
          ∧ (x.slice < 11 → y.slice = x.slice + 1 ∧ y.rotations = x.rotations ∧ y.time = x.time) ∧ (x.slice = 11 → y.slice = 0 ∧ y.rotations = x.rotations + 1 ∧ y.time = s.ctime))
        ∧ ∀ j, j ≠ conv.val → kvGet (fun _ => ({} : Slice)) u.meas.slices j = kvGet (fun _ => ({} : Slice)) s.meas.slices j)))
  ∧ (∀ (s : State) (i : Fin 8) (t : Nat),
    (s.tachOn i.val = true → s.mode.hubRuns = true →
      (∃ u, exec (.tachEdge i t) s = .next u ∧ u.tach i.val = ⟨((s.tach i.val).edges.filter fun e => t < e + 100000000) ++ [t], false⟩ ∧ ∀ j, j ≠ i.val → u.tach j = s.tach j)
      ∧ ∃ u, exec (.tachStall i) s = .next u ∧ u.tach i.val = { s.tach i.val with stall := true } ∧ ∀ j, j ≠ i.val → u.tach j = s.tach j)
    ∧ (s.tachOn i.val = false → exec (.tachEdge i t) s = .next s ∧ exec (.tachStall i) s = .next s))
  ∧ (∀ (s : State) (row address : Nat) (rest : List Nat) (status vout iout temp mode : PmbReply), s.mode.hubRuns = true → (s.rows PD.PMB_DEVICE_TABLE)[row]? = some (address :: rest) →
    let bad := ([status, vout, iout, temp, mode].filter pmbFailed).length
    ∃ u, exec (.pmbPoll row status vout iout temp mode) s = .next u
      ∧ u.outs = s.outs ++ [.pmbus (pmbFrame address 0x79 2 []), .pmbus (pmbFrame address 0x8B 2 []), .pmbus (pmbFrame address 0x8C 2 []), .pmbus (pmbFrame address 0x8D 2 [])]
      ∧ u.num PD.PMB_ERRORS = (s.num PD.PMB_ERRORS + bad) % 2 ^ 64 ∧ ((u.pmb row).absent = true ↔ 0 < bad)
      ∧ (status = .failed → (u.pmb row).status = (s.pmb row).status) ∧ (∀ b, status = .ok b → (u.pmb row).status = BitVec.ofNat 16 (fieldAt b 0 2))
      ∧ (iout = .failed → (u.pmb row).iout = (s.pmb row).iout) ∧ (∀ b, iout = .ok b → (u.pmb row).iout = toF32 (linear11 (fieldAt b 0 2)))
      ∧ (temp = .failed → (u.pmb row).temp = (s.pmb row).temp) ∧ (∀ b, temp = .ok b → (u.pmb row).temp = toF32 (linear11 (fieldAt b 0 2)))
      ∧ (vout = .failed ∨ mode = .failed → (u.pmb row).vout = (s.pmb row).vout)
      ∧ (∀ b m, vout = .ok b → mode = .ok m → bits (fieldAt m 0 2 % 256) 5 3 = 0 → (u.pmb row).vout = toF32 (linear16 (fieldAt b 0 2) (fieldAt m 0 2 % 256)))
      ∧ ∀ j, j ≠ row → u.pmb j = s.pmb j)
  ∧ ∀ (s : State) (b : List Byte) (reply : PmbReply), s.meas.xfer = none →
    let malformed := b.length < 4 ∨ b.length ≠ 4 + fieldAt b 2 1 ∨ 32 < fieldAt b 2 1 ∨ 32 < fieldAt b 3 1 ∨ 128 ≤ fieldAt b 0 1
    (s.mode.transfers = false → exec (.pmbXfer b reply) s = .next (s.setBytes PD.PMB_XFER_RESULT (padTo 33 [2])))
    ∧ (s.mode.transfers = true → malformed → exec (.pmbXfer b reply) s = .next (s.setBytes PD.PMB_XFER_RESULT (padTo 33 [1])))
    ∧ (s.mode.transfers = true → ¬ malformed →
      let frame := pmbFrame (fieldAt b 0 1) (fieldAt b 1 1) (fieldAt b 3 1) (b.drop 4)
      (∀ data, reply = .ok data → exec (.pmbXfer b reply) s = .next ((s.emit (.pmbus frame)).setBytes PD.PMB_XFER_RESULT (padTo 33 ([0] ++ data.take (fieldAt b 3 1)))))
      ∧ (reply = .failed → ∃ u, exec (.pmbXfer b reply) s = .next u ∧ u.outs = s.outs ++ [.pmbus frame] ∧ u.num PD.PMB_ERRORS = (s.num PD.PMB_ERRORS + 1) % 2 ^ 64
        ∧ (u.pdGet PD.PMB_XFER_RESULT).toBytes = padTo 33 [3]
        ∧ ∀ i r, (s.rows PD.PMB_DEVICE_TABLE)[i]? = some r → u.pmb i = if r.headD 0 = fieldAt b 0 1 then { s.pmb i with absent := true } else s.pmb i))

/-- A tick's evaluation sets P1, F by R439's cases, the valve and the alarms; late ticks, the fast clamp and THROTTLE_IN_N act as R440, R441
    say. Derived from: R438, R439, R440, R441, R442, R443, R444, 17_measurement_and_control.md. -/
def Obligations.TheLevelLoopSetsFAlarmsAndTheValve : Prop :=
  (∀ s : State, s.dictOk = true → s.mode.hubRuns = true → s.meas.tickOpen = true →
    (s.meas.tickDone = true → ∃ A : State, A = ({ s with meas := { s.meas with tickOpen := false } } : State).checkAlarms ∧
      let F := A.num PD.LEVEL_F
      let p1 := A.railPower
      let cap := mul32 (FV.ratio 97 100).r32 A.powerCap
      let tmax := ((FV.ofInt A.maxT16).scale (-4)).r32
      let throttle := A.fv PD.TJ_THROTTLE
      let F' := if A.alarm alLeak = true ∨ A.alarm alTjTrip = true then 0
        else if FV.one.lt (div32 p1 cap) then max 1 (div32 (.ofNat F) (div32 p1 cap)).floorNat
        else if throttle.le tmax then max 1 (F - 4)
        else if (div32 (mul32 p1 (.ofNat (F + 1))) (.ofNat F)).le cap = true ∧ tmax.lt (sub32 throttle (.ofNat 2)) = true then min 64 (F + 1) else F
      let err := sub32 tmax (A.fv PD.VALVE_TARGET)
      let integ := FV.min .one (FV.max .zero (add32 (f32 A.meas.integ) (mul32 (mul32 (A.fv PD.VALVE_KI) err) (FV.ratio 1 1000).r32)))
      let duty := FV.min .one (FV.max (A.fv PD.VALVE_MIN_DUTY) (add32 (mul32 (A.fv PD.VALVE_KP) err) integ))
      ∃ u, exec .levelEvaluation s = .next u ∧ u.num PD.LEVEL_P1 = fp32.encode p1 ∧ u.num PD.LEVEL_F = F' ∧ u.num PD.LEVEL_ALARMS = A.num PD.LEVEL_ALARMS
        ∧ u.num PD.LEVEL_THROTTLE_TICKS = (if F' < 64 then (A.num PD.LEVEL_THROTTLE_TICKS + 1) % 2 ^ 64 else A.num PD.LEVEL_THROTTLE_TICKS)
        ∧ (A.flag PD.VALVE_EN = true → u.meas.integ = toF32 integ ∧ kvGet dutyDefault u.meas.dutyNext (A.num PD.VALVE_PWM) = (mul32 (.ofNat 4000) duty).toInt.toNat)
        ∧ (A.flag PD.VALVE_EN = false → u.meas.integ = A.meas.integ ∧ u.meas.dutyNext = A.meas.dutyNext)
        ∧ (F' < 64 ∨ A.num PD.LEVEL_ALARMS ≠ 0 → u.meas.throttleOutN = false))
    ∧ (s.meas.tickDone = false → ∃ u, exec .levelTickLate s = .next u ∧ u.num PD.LEVEL_TICKS_LATE = (s.num PD.LEVEL_TICKS_LATE + 1) % 2 ^ 64
        ∧ u.num PD.LEVEL_F = s.num PD.LEVEL_F ∧ u.num PD.LEVEL_ALARMS = orBit (s.num PD.LEVEL_ALARMS) alSensor ∧ u.meas.tickOpen = false))
  ∧ (∀ (s : State) (b need : Nat) (cond : Bool), s.dictOk = true →
    let n := if cond then kvGet (fun _ => 0) s.meas.causeTicks b + 1 else 0
    let q := kvGet (fun _ => 0) s.meas.clearTicks b + 1
    let u := s.alarmTick b need cond
    (need ≤ n → u.num PD.LEVEL_ALARMS = orBit (s.num PD.LEVEL_ALARMS) b)
    ∧ (n < need → u.num PD.LEVEL_ALARMS = (if 10 ≤ q ∧ b ≠ alLeak ∧ b ≠ alTjTrip ∧ s.alarm b = true then setBit (s.num PD.LEVEL_ALARMS) b false else s.num PD.LEVEL_ALARMS) ∧ u.mode = s.mode ∧ u.num PD.LEVEL_F = s.num PD.LEVEL_F)
    ∧ (need ≤ n → s.alarm b = false → (b = alLeak ∨ b = alTjTrip → u.num PD.LEVEL_F = 0 ∧ (s.mode ≠ .off → s.mode ≠ .reset → s.mode ≠ .frozen → u.mode = .fault))
      ∧ (b ≠ alLeak → b ≠ alTjTrip → u.num PD.LEVEL_F = s.num PD.LEVEL_F ∧ u.mode = s.mode ∧ u.meas.throttleOutN = false)))
  ∧ (∀ (s : State) (f : Nat), s.dictOk = true → (s.setF f).num PD.LEVEL_F = f ∧ (f < 64 → (s.setF f).meas.throttleOutN = false))
  ∧ (∀ (s : State) (hub : Fin 2) (i limit : Nat), s.dictOk = true → s.mode.hubRuns = true →
    (limit < i → ∃ u, exec (.fastClamp hub i limit) s = .next u ∧ u.num PD.LEVEL_FAST_CLAMPS = (s.num PD.LEVEL_FAST_CLAMPS + 1) % 2 ^ 64
      ∧ s.num PD.LEVEL_F / 2 ≤ u.num PD.LEVEL_F ∧ u.num PD.LEVEL_F ≤ (s.num PD.LEVEL_F + 1) / 2)
    ∧ (i ≤ limit → exec (.fastClamp hub i limit) s = .next s))
  ∧ ∀ (s : State) (low : Bool), s.mode.hubRuns = true → s.meas.throttleIn ≠ low →
    exec (.throttleIn low) s = .next (if low then (({ s with meas := { s.meas with throttleIn := low } } : State).cause irqPower).triggerKind 5 else { s with meas := { s.meas with throttleIn := low } })

/-- Supplies and RESET_N move the module between OFF, RESET and BOOT; RESET loses every store but the flash, and keeps the retired units.
    Derived from: R455, R347, R458, R28, R403, R462, 18_clocks_reset_and_start.md. -/
def Obligations.SuppliesAndTheResetPinMoveTheModule : Prop :=
  ∀ s : State,
  let lost := fun (m : Mode) (u : State) => u.mode = m ∧ (∀ c, c ∈ u.mem ↔ c ∈ s.mem ∧ c.1 / 2 ^ 48 = stFlash)
    ∧ u.plan = none ∧ u.streams = [] ∧ u.upd.panes = [] ∧ u.layers = [] ∧ u.dict.sessions = [] ∧ u.events = [] ∧ u.cells = []
    ∧ (∀ p, p < 12 → (u.port p).st = .down) ∧ u.ep0.linkUp = false ∧ u.ep1.linkUp = false ∧ u.ready = false ∧ u.faultN = true
    ∧ u.faults.retiredCells = s.faults.retiredCells ∧ u.faults.retiredBlocks = s.faults.retiredBlocks ∧ u.faults.suspects = s.faults.suspects
    ∧ u.memUnit.weak = s.memUnit.weak ∧ u.dict.ownerKey = s.dict.ownerKey ∧ u.num PD.FW_ROLLBACK_MIN = s.num PD.FW_ROLLBACK_MIN
    ∧ u.num PD.STEP_NUMBER = State.reset.num PD.STEP_NUMBER
  (s.mode ≠ .off → ∃ u, exec .powerOff s = .next u ∧ lost .off u)
  ∧ (s.mode = .off → ∃ u, exec .powerUp s = .next u ∧ lost .reset u ∧ u.num PD.RESET_CAUSE = 0)
  ∧ (∀ good : Bool, s.mode ≠ .off → s.mode ≠ .reset →
      ∃ u, exec (.resetAssert good) s = .next u ∧ lost .reset u ∧ u.num PD.RESET_CAUSE = (if good = true then 1 else 2)
        ∧ u.pwrGood = good ∧ u.resetN = (s.resetN && !good))
  ∧ (∀ good : Bool, s.mode = .reset → exec (.resetAssert good) s = .next { s with resetN := s.resetN && !good, pwrGood := s.pwrGood && good })
  ∧ (∀ (slot : BitVec 6) (side ref : Bool), s.mode = .reset →
      ∃ u, exec (.resetRelease slot side ref) s = .next u ∧ u.mode = .boot ∧ u.slotId = slot ∧ u.bondSide = side ∧ u.resetN = true ∧ u.pwrGood = true
        ∧ u.clk = { refclk := ref } ∧ u.mem = s.mem)
  ∧ (s.mode = .off → exec .powerOff s = .next s) ∧ (s.mode ≠ .off → exec .powerUp s = .next s)
  ∧ (∀ good : Bool, s.mode = .off → exec (.resetAssert good) s = .next s)
  ∧ ∀ (slot : BitVec 6) (side ref : Bool), s.mode ≠ .reset → exec (.resetRelease slot side ref) s = .next s

/-- In BOOT each step of the start-up ends as R459 to R461 say: loops, firmware, bridges, memory and flash reads, with its row in START_TABLE.
    Derived from: R449, R455, R459, R460, R461, R344, R347, R514, R464, 18_clocks_reset_and_start.md. -/
def Obligations.StartUpStepsRunInOrderAndTheirFailuresAreNamed : Prop :=
  ∀ s : State, s.dictOk = true → s.mode = .boot → s.clk.refclk = true →
  let passes := fun (p : Nat → Bool) => (s.fw.package = [] → s.flag PD.FW_OWNER_SIG_REQUIRED = false) ∧ ∀ r, r ∈ s.fw.package → p r.part = true → s.bootCode r = 0
  let log := fun (u : State) (rs : List Nat) => ∃ rows : List (List Nat), u.clk.startTable = s.clk.startTable ++ rows ∧ (rows.map fun r => r.getD 2 0) = rs
  let loader := fun (u : State) => u.mode = .loader ∧ u.clk.firmware = false ∧ u.fw.running = [] ∧ (s.num PD.FW_STAGE_STATE = 3 → u.num PD.FW_STAGE_STATE = 4)
  (s.clk.onLoop = false →
      (∃ u, exec .loopsLocked s = .next u ∧ u.mode = .boot ∧ u.clk.onLoop = true ∧ u.clk.loopsLocked = true ∧ u.clk.waiting = false ∧ log u [0])
      ∧ ∀ loop, ∃ u, exec (.loopLockTimeout loop) s = .next u ∧ u.mode = .fault ∧ u.clk.onLoop = false ∧ log u [1])
  ∧ (s.clk.onLoop = true → s.clk.firmware = false →
      (s.fw.valid = true → passes (fun k => decide (k ≤ 2)) →
        ∃ u, exec .firmwareVerified s = .next u ∧ u.mode = .boot ∧ u.clk.firmware = true ∧ u.fw.running = s.flashParts ∧ log u [0, 0])
      ∧ (¬ (s.fw.valid = true ∧ passes (fun k => decide (k ≤ 2))) → ∃ u, exec .firmwareVerified s = .next u ∧ loader u ∧ log u [0, 1]))
  ∧ (s.clk.firmware = true → s.clk.bridges = false → ∀ trained : List Nat,
      ((∀ c, c < connections → c ∈ trained) → ∃ u, exec (.bridgesTrained trained) s = .next u ∧ u.mode = .boot ∧ u.clk.bridges = true
        ∧ (∀ ep : Ep, (s.ep ep).perstN = true → (u.ep ep).linkUp = true ∧ (u.ep ep).ready = true) ∧ log u [0, 0])
      ∧ ((∃ c, c < connections ∧ c ∉ trained) → ∃ u, exec (.bridgesTrained trained) s = .next u ∧ u.mode = .fault ∧ u.clk.bridges = false ∧ log u [1]))
  ∧ (s.clk.firmware = true → s.clk.flashReads = false →
      (passes (fun k => decide (2 < k)) → ∃ u, exec .flashReadsDone s = .next u ∧ u.clk.flashReads = true
        ∧ u.mode = if s.clk.memory = true then .calibrate else .boot)
      ∧ (¬ passes (fun k => decide (2 < k)) → ∃ u, exec .flashReadsDone s = .next u ∧ loader u))
  ∧ (s.clk.bridges = true → s.clk.memory = false → ∀ (stackUp : List Bool) (channels : List (Bool × Bool × Nat × Nat)) (repaired : List Nat),
      (s.clk.warm = true → ∃ u, exec (.memoryStepDone stackUp channels repaired) s = .next u ∧ u.clk.memory = true ∧ u.mem = s.mem
        ∧ u.mode = (if s.clk.flashReads = true then .calibrate else .boot) ∧ log u [0, 0, 0])
      ∧ (s.clk.warm = false →
        let rows := fittedRows channels
        let room := fun d => State.slowDie { s with clk := { s.clk with channels := rows } } d
        ((∃ n, n < 8 ∧ stackUp.getD n false = false) → ∃ u, exec (.memoryStepDone stackUp channels repaired) s = .next u ∧ u.mode = .fault ∧ u.clk.memory = false
          ∧ ∃ n, n < 8 ∧ stackUp.getD n false = false ∧ u.num PD.HEALTH_DIE_MASK = s.num PD.HEALTH_DIE_MASK - (s.num PD.HEALTH_DIE_MASK &&& (2 ^ n + 2 ^ (8 + n))))
        ∧ ((∀ n, n < 8 → stackUp.getD n false = true) → (∃ d, d < 2 ∧ room d = 0) → ∃ u, exec (.memoryStepDone stackUp channels repaired) s = .next u ∧ u.mode = .fault ∧ u.clk.memory = false)
        ∧ ((∀ n, n < 8 → stackUp.getD n false = true) → (∀ d, d < 2 → room d ≠ 0) → ∃ u, exec (.memoryStepDone stackUp channels repaired) s = .next u ∧ u.clk.memory = true
          ∧ u.mode = (if s.clk.flashReads = true then .calibrate else .boot) ∧ u.clk.channels = rows ∧ u.num PD.SLOW_CAPACITY = (room 0 + room 1) % 2 ^ 64
          ∧ ∀ c, c ∈ u.mem ↔ c ∈ s.mem ∧ c.1 / 2 ^ 48 = stFlash)))

/-- REFCLK_LOSS brings COAST with its course, link and measurement actions, REFCLK_RETURN ends it; LOCK_LOSS only counts; a snapshot takes the
    time. Derived from: R449, R450, R451, R452, R454, R464, R50, R52, R493, R526, 18_clocks_reset_and_start.md. -/
def Obligations.AReferenceLossCoastsAndItsReturnResumes : Prop :=
  ∀ s : State, s.dictOk = true →
  (s.mode = .off ∨ s.mode = .reset → exec .refclkLoss s = .next { s with clk := { s.clk with refclk := false } })
  ∧ (s.mode = .frozen ∨ s.mode = .coast → ∃ u, exec .refclkLoss s = .next u ∧ u.mode = s.mode ∧ u.clk = { s.clk with refclk := false }
      ∧ u.num PD.REFCLK_LOSSES = (s.num PD.REFCLK_LOSSES + 1) % 2 ^ 64 ∧ u.clkFlags % 2 = 1)
  ∧ (s.mode ≠ .off → s.mode ≠ .reset → s.mode ≠ .frozen → s.mode ≠ .coast →
      (s.clk.refclk = false → exec .refclkLoss s = .next s)
      ∧ (s.clk.refclk = true → ∃ u, exec .refclkLoss s = .next u ∧ u.mode = .coast ∧ u.num PD.REFCLK_LOSSES = (s.num PD.REFCLK_LOSSES + 1) % 2 ^ 64
        ∧ u.num PD.COURSE_LOST_ENTRIES = (s.num PD.COURSE_LOST_ENTRIES + 1) % 2 ^ 64
        ∧ u.clkFlags % 2 = 1 ∧ u.course.st = .lost ∧ u.events = [] ∧ u.step.opened = false ∧ (∀ p, p < 12 → (u.port p).st = .down)
        ∧ u.ep0.linkUp = false ∧ u.ep1.linkUp = false ∧ u.meas.running = [] ∧ u.meas.waiting = []
        ∧ u.faults.queue = s.faults.running ++ s.faults.queue ∧ u.faults.running = []
        ∧ u.mem = s.mem ∧ u.plan = s.plan ∧ u.cal = { s.cal with idle := u.cal.idle } ∧ u.num PD.STEP_NUMBER = s.num PD.STEP_NUMBER ∧ u.ready = false ∧ u.faultN = s.faultN
        ∧ u.clk.refclk = false ∧ u.clk.coastFrom = match s.mode with
          | .boot | .calibrate => .boot
          | .loader => .loader
          | .fault => .fault
          | _ => .held))
  ∧ (s.clk.refclk = true → exec .refclkReturn s = .next s)
  ∧ (s.clk.refclk = false → s.mode ≠ .coast → exec .refclkReturn s = .next { s with clk := { s.clk with refclk := true } })
  ∧ (s.clk.refclk = false → s.mode = .coast → ∃ u, exec .refclkReturn s = .next u ∧ u.clk.refclk = true ∧ u.clk.waiting = false ∧ u.clkFlags = 0
      ∧ u.mode = (if s.clk.coastFrom = .boot ∧ s.clk.memory = true ∧ s.clk.flashReads = true then .calibrate else s.clk.coastFrom)
      ∧ u.course.st = if s.course.configured = true then .acquiring else .unlocked)
  ∧ (s.mode ≠ .off → s.mode ≠ .reset → s.clk.refclk = true → s.clk.onLoop = true → ∀ loop, ∃ u, exec (.lockLoss loop) s = .next u
      ∧ u.num PD.LOCK_LOSSES = (s.num PD.LOCK_LOSSES + 1) % 2 ^ 64 ∧ u.mode = s.mode ∧ u.clk = s.clk)
  ∧ (s.mode.hubRuns = true → s.clk.onLoop = true → s.clk.waiting = false → ∃ u, exec .domainSnapshot s = .next u ∧ u.clk = { s.clk with snapshot := s.ctime.toNat })

/-- A granted audit compares and counts or is abandoned; the Foreman queues and orders grants; records are exported in order and received
    unchanged. Derived from: R467, R469, R470, R471, R472, R474, R481, R482, R483, R486, R487, 19_faults_and_silent_errors.md. -/
def Obligations.AuditsGrantsAndSpallExportsRun : Prop :=
  (∀ (s : State) (die block : Nat), s.dictOk = true → s.mode = .run → die < 16 → block < 128 → 64 ≤ s.num PD.LEVEL_F →
    die * 128 + block ∉ s.faults.retiredBlocks → s.writesOpen die block = false → (s.grant .audit (die * 128 + block)).1 = true →
    let last := fun (t : State) => kvGet (fun _ => 0) t.faults.audits (die * 128 + block)
    let ends := fun (u : State) (hard drift : Nat) => u.num PD.AUDITS_DONE = (s.num PD.AUDITS_DONE + 1) % 2 ^ 64 ∧ u.num PD.AUDITS_ABANDONED = s.num PD.AUDITS_ABANDONED
      ∧ u.num PD.AUDIT_MISMATCHES % 2 ^ 64 = (s.num PD.AUDIT_MISMATCHES + hard) % 2 ^ 64 ∧ u.num PD.AUDIT_DRIFTS % 2 ^ 64 = (s.num PD.AUDIT_DRIFTS + drift) % 2 ^ 64
      ∧ (0 < hard → s.step.attempt = true → bit (u.num PD.STEP_REASONS) 9 = true)
      ∧ last u = if hard = 0 ∧ drift = 0 then s.num PD.STEP_NUMBER else last s
    (∀ data, data = .abandoned ∨ s.step.verdictFormed = true → ∃ u, exec (.audit die block data) s = .next u
      ∧ u.num PD.AUDITS_ABANDONED = (s.num PD.AUDITS_ABANDONED + 1) % 2 ^ 64 ∧ u.num PD.AUDITS_DONE = s.num PD.AUDITS_DONE ∧ last u = last s)
    ∧ (s.step.verdictFormed = false → die < 8 → ∀ cells,
        let mine := cells.filter fun a => decide (a.cell < 16) && !s.faults.retiredCells.contains (die * 2048 + block * 16 + a.cell)
        mine ≠ [] → ∃ u, exec (.audit die block (.array cells)) s = .next u
          ∧ ends u (mine.filter auditHard).length (mine.filter fun a => !auditHard a && auditDrift a (s.fv PD.AUDIT_RMS_FACTOR)).length)
    ∧ (s.step.verdictFormed = false → 8 ≤ die → ∀ mac row : DigitalAudit, ∃ u, exec (.audit die block (.digital mac row)) s = .next u
        ∧ ends u (b2n (mac.own ≠ mac.second) + b2n (row.own ≠ row.second)) 0))
  ∧ (∀ (s : State) (u : FaultUnit), s.dictOk = true → (s.repeatResult u true).2.num PD.REPEATS_TRANSIENT = (s.num PD.REPEATS_TRANSIENT + 1) % 2 ^ 64
      ∧ (s.repeatResult u false).2.num PD.REPEATS_CONFIRMED = (s.num PD.REPEATS_CONFIRMED + 1) % 2 ^ 64)
  ∧ (∀ (s : State) (a : Activity) (r : Nat),
      ((∃ x, x ∈ s.faults.running ∧ grantsConflict a r x.activity x.resource = true) → (s.grant a r).1 = false ∧ ∃ x, x ∈ (s.grant a r).2.faults.queue ∧ x.activity = a ∧ x.resource = r)
      ∧ (s.faults.running = [] → s.faults.queue = [] → (s.grant a r).1 = true ∧ (s.grant a r).2.faults.queue = []))
  ∧ (∀ (s : State) (a : Activity) (r : Nat), s.mode ≠ .frozen → s.mode ≠ .coast → ¬ (a = .calibration ∧ r = 8) → (needsSlots a r = true → s.num PD.LEVEL_F = 64) → ∃ u, exec (.foremanBound a r) s = .next u
      ∧ u.faults.queue.length = s.faults.queue.length ∧ ∀ (n : Nat) (x : Request), s.faults.queue[n]? = some x → u.faults.queue[n]? = some (if x.activity = a ∧ x.resource = r then { x with bound := true } else x))
  ∧ (∀ x y : Request, (x.bound = true → y.bound = false → x.before y = true ∧ y.before x = false)
      ∧ (x.bound = false → y.bound = false → (x.before y = true ↔ activityNum x.activity ≤ activityNum y.activity)))
  ∧ (∀ (s : State) (seq : Nat) (rec : List Byte), s.dictOk = true → s.mode.maintains = true →
      (s.nextRecord s.faults.toFlash = some (seq, rec) → s.flag PD.SPALL_FLASH_EN = true → (s.grant .spallExport 0).1 = true → rec.length ≤ 512 →
        ∃ u, exec (.spallExport .flash) s = .next u ∧ u.read stFlash (0x38000000 + 512 * (seq % 32768)) 512 = padTo 512 rec ∧ u.faults.toFlash = seq
          ∧ u.num PD.SPALL_FLASH_NEXT = (seq + 1) % 32768)
      ∧ (s.nextRecord s.faults.toHost = some (seq, rec) → 512 ≤ s.regionSize (s.num PD.SPALL_HOST_REGION) → (s.grant .spallExport 1).1 = true →
        (s.hostReachable (s.num PD.SPALL_HOST_REGION) = true → ∃ u, exec (.spallExport .host) s = .next u ∧ u.faults.toHost = seq
          ∧ u.outs = s.outs ++ [.hostWrite (s.num PD.SPALL_HOST_REGION) (512 * (seq % (s.regionSize (s.num PD.SPALL_HOST_REGION) / 512))) (padTo 512 rec)])
        ∧ (s.hostReachable (s.num PD.SPALL_HOST_REGION) = false → ∃ u, exec (.spallExport .host) s = .next u ∧ u.num PD.HOST_DMA_ERR = (s.num PD.HOST_DMA_ERR + 1) % 2 ^ 64 ∧ u.outs = s.outs))
      ∧ (s.nextRecord s.faults.toCollector = some (seq, rec) → (s.grant .spallExport 2).1 = true → ∀ to_ : Addr, s.collector = some to_ →
        ∃ u, exec (.spallExport .collector) s = .next u ∧ u.faults.toCollector = seq ∧ u.outs = ((s.grant .spallExport 2).2.send 5 to_ rec).outs ∧ u.link = ((s.grant .spallExport 2).2.send 5 to_ rec).link))
  ∧ (∀ (s : State) (bytes : List Byte), s.dictOk = true → s.mode.hubRuns = true → ∃ u, exec (.spallReceived bytes) s = .next u ∧ u.num PD.SPALL_NEWEST = s.num PD.SPALL_NEWEST
      ∧ (s.faults.ring.length < 4096 → u.faults.ring = s.faults.ring ++ [(0, bytes)] ∧ u.num PD.SPALL_LOST = s.num PD.SPALL_LOST)
      ∧ (∀ old rest, s.faults.ring = old :: rest → s.faults.ring.length = 4096 → u.faults.ring = rest ++ [(0, bytes)]
        ∧ u.num PD.SPALL_LOST = if s.num PD.SPALL_ACK < old.1 then (s.num PD.SPALL_LOST + 1) % 2 ^ 64 else s.num PD.SPALL_LOST))

/-- A freeze request freezes, merges or counts; the read-out sends its frames; release returns the state after the course actions. Derived from:
    R489, R490, R491, R493, R494, R497, R498, R499, R50, R53, 20_freeze_and_readout.md. -/
def Obligations.FreezesAreRequestedReadOutAndReleased : Prop :=
  ∀ s : State, s.dictOk = true →
  let freezes := s.mode = .calibrate ∨ s.mode = .held ∨ s.mode = .armed ∨ s.mode = .run ∨ s.mode = .drain ∨ s.mode = .fault
  let same := fun (u : State) => u.mode = s.mode ∧ u.events = s.events ∧ u.step = s.step ∧ u.mem = s.mem ∧ u.freeze = s.freeze ∧ u.course = s.course
  let asked := fun (u : State) (c : Nat) =>
    (freezes → u.mode = .frozen ∧ u.freeze.from_ = s.mode ∧ u.freeze.trigger = c ∧ u.freeze.latch = s.ctime ∧ u.freeze.courseBefore = s.course.st.code ∧ u.freeze.lastSent = false
      ∧ u.course.st = .lost ∧ u.course.segs = [] ∧ u.num PD.FREEZE_COUNT = (s.num PD.FREEZE_COUNT + 1) % 2 ^ 64
      ∧ u.num PD.COURSE_LOST_ENTRIES = (s.num PD.COURSE_LOST_ENTRIES + 1) % 2 ^ 64
      ∧ u.ready = s.ready ∧ u.faultN = s.faultN ∧ u.events = s.events ∧ u.step = s.step ∧ u.mem = s.mem)
    ∧ (¬ freezes → same u ∧ u.num PD.FREEZE_IGNORED = if s.mode = .frozen ∨ s.mode = .off ∨ s.mode = .reset then s.num PD.FREEZE_IGNORED else (s.num PD.FREEZE_IGNORED + 1) % 2 ^ 64)
  let released := fun (u : State) => u.mode = (if s.freeze.from_ = .armed ∨ s.freeze.from_ = .run ∨ s.freeze.from_ = .drain then .held else s.freeze.from_) ∧ u.events = [] ∧ u.step.opened = false ∧ u.course.st = (if s.course.configured = true then .acquiring else .unlocked) ∧ u.freeze.lastSent = false
    ∧ ∃ ns, u.freeze.last = [[s.freeze.trigger, s.freeze.latch.toNat, u.freeze.frames, u.freeze.uncorr, ns]]
  (s.freezeN = true → ∃ u, exec (.freezeN false) s = .next u ∧ u.freezeN = false ∧ asked u 0)
  ∧ (exec (.freezeN s.freezeN) s = .next s)
  ∧ (s.freezeN = false →
      (s.mode = .frozen ∧ s.freeze.lastSent = true ∧ (s.freeze.trigger = 0 ∨ s.num PD.FREEZE_RELEASE = 1) → ∃ u, exec (.freezeN true) s = .next u ∧ u.freezeN = true
        ∧ released u ∧ u.freeze.frames = s.freeze.frames ∧ u.freeze.uncorr = s.freeze.uncorr)
      ∧ (¬ (s.mode = .frozen ∧ s.freeze.lastSent = true ∧ (s.freeze.trigger = 0 ∨ s.num PD.FREEZE_RELEASE = 1)) → exec (.freezeN true) s = .next { s with freezeN := true }))
  ∧ (s.mode ≠ .calibrate → ∃ u, exec (.freezeCmd 1) s = .next u ∧ asked u 1)
  ∧ (s.mode = .calibrate → ∃ u, exec (.freezeCmd 1) s = .next u ∧ same u ∧ u.num PD.FREEZE_IGNORED = (s.num PD.FREEZE_IGNORED + 1) % 2 ^ 64)
  ∧ (∀ v : Byte, v ≠ 1 → exec (.freezeCmd v) s = .next s)
  ∧ (s.mode.hubRuns = true → ∀ t : CTime, ∃ u, exec (.freezeAt t) s = .next u
      ∧ u.num PD.FREEZE_RESULT = (if ¬ freezes ∨ s.mode = .calibrate then 5 else if s.timed = false then 4 else if t.toNat ≤ s.ctime.toNat then 1
        else if s.ctime.toNat + 2 ^ 24 * 65536 < t.toNat then 2 else if 1024 ≤ s.events.length then 3 else 0)
      ∧ u.events = (if u.num PD.FREEZE_RESULT = 0 then s.events ++ [⟨t, .freeze, 0, 0⟩] else s.events) ∧ u.mode = s.mode)
  ∧ (s.mode = .frozen → s.clk.refclk = true → s.freeze.lastSent = false → ∀ (upsets : List (Nat × Upset)) (cycles : Nat),
      let frames := State.readoutFrames { s with free := s.free + 1 } s.free upsets
      let go := (s.freeze.trigger = 0 ∧ s.freezeN = true) ∨ (s.freeze.trigger ≠ 0 ∧ s.num PD.FREEZE_RELEASE = 0)
      ∃ u, exec (.readoutEnd upsets cycles) s = .next u
        ∧ (∃ rest, frames.map (·.1) = froutFrame 0 0 0 0 0 false (s.rows PD.FREEZE_MAP).isEmpty s.inventory :: rest
          ∨ s.rows PD.FREEZE_MAP ≠ [] ∧ ∃ last, frames.map (·.1) = froutFrame 0 0 0 0 0 false last s.inventory :: rest)
        ∧ u.freeze.frames = frames.length ∧ u.freeze.uncorr = (frames.filter (·.2)).length
        ∧ (∃ more, u.outs = s.outs ++ (frames.map fun f => Out.frout f.1) ++ more ∧ (¬ go → more = []))
        ∧ (go → released u) ∧ (¬ go → u.mode = .frozen ∧ u.freeze.lastSent = true))

/-- A package is begun, received piece by piece, its headers checked, programmed into flash, and VERIFIED or FAILED with its result. Derived
    from: R502, R507, R508, R509, R510, R514, 21_firmware_and_security.md. -/
def Obligations.FirmwareIsStagedProgrammedAndVerified : Prop :=
  ∀ s : State, s.dictOk = true → s.mode.hubRuns = true →
  let stages := s.mode = .loader ∨ s.mode = .held ∨ s.mode = .armed ∨ s.mode = .run ∨ s.mode = .drain
  let n := s.num PD.FW_PACKAGE_LENGTH
  let got := s.num PD.FW_RECEIVED
  let state := s.num PD.FW_STAGE_STATE
  let failed := fun (u : State) (code : Nat) => u.num PD.FW_STAGE_STATE = 4 ∧ u.num PD.FW_RESULT = code ∧ u.fw.buffer = [] ∧ u.mode = s.mode
  let refused := fun (u : State) (code : Nat) => u.num PD.FW_STAGE_STATE = state ∧ u.num PD.FW_RESULT = code ∧ u.fw = s.fw ∧ u.mode = s.mode
  (∃ u, exec .fwStageBegin s = .next u
      ∧ (¬ stages → refused u 9) ∧ (stages → n < 1024 ∨ 532676608 < n → refused u 7)
      ∧ (stages → 1024 ≤ n → n ≤ 532676608 → u.num PD.FW_RECEIVED = 0 ∧ u.num PD.FW_STAGE_STATE = 1 ∧ u.num PD.FW_RESULT = 1 ∧ u.fw.buffer = [] ∧ u.fw.images = []
        ∧ u.fw.due = false ∧ (∀ e, e ∈ u.events → e.kind ≠ .firmware) ∧ u.mode = s.mode))
  ∧ (∃ u, exec .fwStageAbandon s = .next u
      ∧ (¬ stages ∨ state ≠ 1 → refused u 9)
      ∧ (stages → state = 1 → (s.fw.flashed = true → ∃ code, failed u code) ∧ (s.fw.flashed = false → u.num PD.FW_STAGE_STATE = 0 ∧ u.fw.buffer = [] ∧ u.mode = s.mode)))
  ∧ (∀ b : List Byte,
      let len := fieldAt b 4 2
      let good := b.length = 1032 ∧ stages ∧ state = 1 ∧ len ≠ 0 ∧ len ≤ 1024 ∧ fieldAt b 6 2 = 0 ∧ allZero (b.drop (8 + len)) = true ∧ fieldAt b 0 4 = got
        ∧ s.fw.buffer.length + len ≤ 0x400000 ∧ got + len ≤ n
      let T : State := { s.setNum PD.FW_RECEIVED (got + len) with fw := { s.fw with buffer := s.fw.buffer ++ sub b 8 len } }
      let h := s.fw.nextHeader
      let check := T.checkHead (T.stagedBytes h 512) s.fw.images h n (T.stagedEntry (s.fw.images.length - 1)) s.fw.rollback
      ∃ u, exec (.fwData b) s = .next u
        ∧ (¬ good → u.num PD.FW_PIECES_DISCARDED = (s.num PD.FW_PIECES_DISCARDED + 1) % 2 ^ 64 ∧ u.num PD.FW_RECEIVED = got ∧ u.fw = s.fw)
        ∧ (good → got + len < h + 512 → u.num PD.FW_RECEIVED = got + len ∧ u.fw.buffer = s.fw.buffer ++ sub b 8 len ∧ u.fw.images = s.fw.images ∧ u.num PD.FW_STAGE_STATE = 1)
        ∧ (good → h + 512 ≤ got + len → ∀ code, check = (code, none) → failed u code ∧ u.num PD.FW_RECEIVED = h + 512)
        ∧ (good → h + 512 ≤ got + len → ∀ code i r, check = (code, some (i, r)) → got + len < h + r.length + 512 → u.num PD.FW_RECEIVED = got + len
          ∧ u.fw.images = s.fw.images ++ [r] ∧ u.fw.nextHeader = h + r.length ∧ u.fw.buffer = s.fw.buffer ++ sub b 8 len ∧ u.num PD.FW_STAGE_STATE = 1))
  ∧ (∀ (h : List Byte) (seen : List ImageRec) (o len : Nat) (entry : Option ImageRec) (rb : Nat) (i : ImageHead), parseHead h = some i →
      let r : ImageRec := ⟨i.part, i.version, o, 512 + i.bodyLength, i.digest⟩
      (∀ x, x ∈ seen → x.part ≠ i.part) → (seen = [] → i.part = 1) → o + 512 + i.bodyLength ≤ len → (seen ≠ [] → entry = some r) →
      (s.sigsOk h i = false → s.checkHead h seen o len entry rb = (3, none))
      ∧ (s.sigsOk h i = true → (i.rollback < s.num PD.FW_ROLLBACK_MIN ∨ (seen ≠ [] ∧ i.rollback ≠ rb)) → s.checkHead h seen o len entry rb = (4, none))
      ∧ (s.sigsOk h i = true → s.num PD.FW_ROLLBACK_MIN ≤ i.rollback → (seen ≠ [] → i.rollback = rb) → s.checkHead h seen o len entry rb = (0, some (i, r))))
  ∧ (state = 1 → stages → 256 ≤ s.fw.buffer.length ∨ (got = n ∧ s.fw.buffer ≠ []) → (s.grant .firmwareStaging 0).1 = true → ∀ ok : Bool,
      ∃ u, exec (.firmwareStagingGrant ok) s = .next u ∧ u.fw.valid = false ∧ u.fw.flashed = true
        ∧ (ok = false → failed u 8)
        ∧ (ok = true → s.fw.erased ≤ s.fw.programmed → u.fw.erased = s.fw.erased + 65536 ∧ u.fw.programmed = s.fw.programmed ∧ u.fw.buffer = s.fw.buffer
          ∧ ∀ o, s.fw.erased ≤ o → o < s.fw.erased + 65536 → o + packageBase < 2 ^ 48 → u.readByte stFlash (packageBase + o) = 0xFF)
        ∧ (ok = true → s.fw.programmed < s.fw.erased → u.read stFlash (packageBase + s.fw.programmed) (min 256 s.fw.buffer.length) = s.fw.buffer.take 256
          ∧ u.fw.programmed = s.fw.programmed + min 256 s.fw.buffer.length ∧ u.fw.buffer = s.fw.buffer.drop 256))
  ∧ (state = 1 → got = n → s.fw.programmed = n →
      let okHead := fieldAt (s.read stFlash (packageBase + 512) 64) 0 2 = 6 ∧ allZero (sub (s.read stFlash (packageBase + 512) 64) 2 6) = true ∧ allZero (sub (s.read stFlash (packageBase + 512) 64) 12 52) = true
      let agrees := okHead ∧ s.fw.images.length = 7 ∧ s.fw.nextHeader = n ∧ ∀ k r, s.fw.images.tail[k]? = some r → s.stagedEntry k = some r
      ∃ u, exec .stagingVerified s = .next u
        ∧ ((∃ r, r ∈ s.fw.images ∧ s.bodyOk r = false) → failed u 5)
        ∧ ((∀ r, r ∈ s.fw.images → s.bodyOk r = true) → ¬ agrees → failed u 6)
        ∧ ((∀ r, r ∈ s.fw.images → s.bodyOk r = true) → agrees → u.num PD.FW_STAGE_STATE = 2 ∧ u.num PD.FW_RESULT = 0 ∧ u.fw.valid = true ∧ u.fw.package = s.fw.images
          ∧ (s.mode = .loader → u.mode = .boot ∧ u.num PD.RESET_CAUSE = 3) ∧ (s.mode ≠ .loader → u.mode = s.mode)))

/-- FW_ACTIVATE_AT queues an activation of a VERIFIED package; a nonce gives a 416-byte signed report of the module's digests. Derived from:
    R511, R517, R53, 21_firmware_and_security.md. -/
def Obligations.ActivationIsScheduledAndReportsAreSigned : Prop :=
  ∀ s : State, s.dictOk = true →
  (s.mode.hubRuns = true → ∀ t : CTime,
    let fits := s.num PD.FW_STAGE_STATE = 2 ∧ (s.mode = .held ∨ s.mode = .armed ∨ s.mode = .run ∨ s.mode = .drain) ∧ s.timed = true ∧ s.ctime.toNat < t.toNat
      ∧ t.toNat ≤ s.ctime.toNat + 2 ^ 24 * 65536 ∧ s.events.length < 1024
    ∃ u, exec (.fwActivateAt t) s = .next u ∧ u.mode = s.mode ∧ u.num PD.FW_STAGE_STATE = s.num PD.FW_STAGE_STATE
      ∧ (fits → u.num PD.FW_RESULT = 1 ∧ u.events = s.events ++ [⟨t, .firmware, 0, 0⟩]) ∧ (¬ fits → u.num PD.FW_RESULT = 9 ∧ u.events = s.events))
  ∧ (∀ nonce : List Byte, let opens := (s.mode = .held ∨ s.mode = .armed ∨ s.mode = .run ∨ s.mode = .drain ∨ s.mode = .fault ∨ s.mode = .loader) ∧ nonce.length = 32
      ∃ u, exec (.attestReq nonce) s = .next u
        ∧ (opens → s.fw.nonce = [] → u.num PD.ATTEST_RESULT = 1 ∧ u.fw.nonce = nonce) ∧ (opens → s.fw.nonce ≠ [] → u.num PD.ATTEST_RESULT = 2 ∧ u.fw.nonce = s.fw.nonce)
        ∧ (¬ opens → u = s))
  ∧ (s.fw.nonce = [] → exec .attestReport s = .next s)
  ∧ (s.fw.nonce ≠ [] → s.mode.hubRuns = true → ∃ u, exec .attestReport s = .next u ∧ u.num PD.ATTEST_RESULT = 0 ∧ u.fw.nonce = []
      ∧ ∃ b, (u.pdGet PD.ATTEST_REPORT).toBytes = b ++ padTo 96 (Config.identitySign s.free b) ∧ b.length = 320
        ∧ sub b 0 8 = le 8 (0x54545441 + 2 ^ 32 + s.mode.code * 2 ^ 36 + b2n s.timed * 2 ^ 40 + b2n (s.mode = .loader) * 2 ^ 41)
        ∧ sub b 8 8 = le 8 Config.serial.toNat ∧ sub b 16 32 = padTo 32 s.fw.nonce ∧ sub b 48 8 = le 8 (if s.timed = true then s.ctime.toNat else 0)
        ∧ sub b 56 8 = le 8 (s.num PD.STEP_NUMBER % 2 ^ 48)
        ∧ (s.mode = .loader → sub b 64 240 = zeros 240)
        ∧ (s.mode ≠ .loader → sub b 64 48 = padTo 48 s.fw.runningDigest ∧ sub b 112 48 = padTo 48 s.calDigest ∧ sub b 160 48 = padTo 48 s.healthDigest.toBytes
          ∧ sub b 208 48 = padTo 48 ((s.plan.map (·.digest)).getD []) ∧ sub b 256 48 = padTo 48 s.cfgDigest.toBytes)
        ∧ sub b 304 8 = le 8 (s.num PD.FW_ROLLBACK_MIN % 2 ^ 32) ∧ sub b 312 8 = le 8 (s.num PD.FW_OWNER_SIG_REQUIRED))
end

