-- ==== Sys2Proof/Laws/Kv.lean ====
section
/-! SUPPORT. Laws/Kv.lean: sparse tables: reading after a write, canonical form kept by every operation, equal readings of canonical tables
are equal tables. -/
namespace Sys2Proof.Machine

variable {α : Type}

theorem kvAbove_nil (k : Nat) : kvAbove k ([] : List (Nat × α)) = true := rfl

@[simp] theorem kvAbove_cons (k j : Nat) (v : α) (m : List (Nat × α)) :
    kvAbove k ((j, v) :: m) = true ↔ k < j ∧ kvAbove k m = true := by
  simp [kvAbove]

theorem kvAbove_mono {k j : Nat} (h : k ≤ j) {m : List (Nat × α)} (a : kvAbove j m = true) : kvAbove k m = true := by
  simp only [kvAbove, List.all_eq_true, decide_eq_true_eq] at *
  exact fun e he => Nat.lt_of_le_of_lt h (a e he)

/-- A key below or at the bound of a table is not listed in it. -/
theorem kvGet_above (d : Nat → α) {j k : Nat} (hk : k ≤ j) : ∀ m : List (Nat × α), kvAbove j m = true → kvGet d m k = d k
  | [], _ => rfl
  | (i, v) :: m, h => by
    obtain ⟨hi, hm⟩ := (kvAbove_cons j i v m).1 h
    simp only [kvGet]
    rw [if_neg (by omega), kvGet_above d hk m hm]

/-- Leaving out a key leaves the others as they read, and the key itself unlisted. -/
theorem kvGet_without (d : Nat → α) (k i : Nat) : ∀ m : List (Nat × α),
    kvGet d (m.filter fun x => decide (x.1 ≠ k)) i = if i = k then d k else kvGet d m i
  | [] => by simp only [List.filter_nil, kvGet]; split <;> simp_all
  | (j, w) :: m => by
    by_cases h : j = k
    · subst h
      simp only [List.filter, ne_eq, not_true_eq_false, decide_false, kvGet]
      rw [kvGet_without d j i m]
      by_cases hi : i = j
      · simp [hi]
      · rw [if_neg hi, if_neg hi, if_neg (Ne.symm hi)]
    · simp only [List.filter, ne_eq, h, not_false_eq_true, decide_true, kvGet]
      rw [kvGet_without d k i m]
      by_cases hi : i = k
      · subst hi; simp [h]
      · rw [if_neg hi, if_neg hi]

theorem kvAbove_filter (p : Nat × α → Bool) (k : Nat) : ∀ m : List (Nat × α), kvAbove k m = true → kvAbove k (m.filter p) = true := by
  intro m h
  simp only [kvAbove, List.all_eq_true, decide_eq_true_eq, List.mem_filter] at *
  exact fun e he => h e he.1

variable [DecidableEq α]

theorem kvWf_cons (d : Nat → α) (j : Nat) (v : α) (m : List (Nat × α)) :
    kvWf d ((j, v) :: m) = true ↔ v ≠ d j ∧ kvAbove j m = true ∧ kvWf d m = true := by
  simp [kvWf, and_assoc]

/-- An entry before a table that does not list its key. -/
theorem kvGet_entry (d : Nat → α) (k i : Nat) (v : α) {m : List (Nat × α)} (h : kvGet d m k = d k) :
    kvGet d (kvEntry d k v ++ m) i = if i = k then v else kvGet d m i := by
  unfold kvEntry
  by_cases hv : v = d k
  · rw [if_pos hv]
    by_cases hi : i = k
    · subst hi; simp [h, hv]
    · simp [hi]
  · rw [if_neg hv]
    simp only [List.cons_append, List.nil_append, kvGet]
    by_cases hi : i = k
    · simp [hi]
    · rw [if_neg (Ne.symm hi), if_neg hi]

theorem kvGet_set (d : Nat → α) (k i : Nat) (v : α) : ∀ m : List (Nat × α), kvGet d (kvSet d m k v) i = if i = k then v else kvGet d m i
  | [] => by simpa [kvSet] using kvGet_entry d k i v (m := []) rfl
  | (j, w) :: m => by
    simp only [kvSet]
    split
    · rename_i e
      rw [kvGet_set d k i v m]
      by_cases hi : i = k
      · simp [hi]
      · rw [if_neg hi, if_neg hi]
        simp only [kvGet]
        rw [if_neg (by omega)]
    · rename_i ne
      split
      · rw [kvGet_entry d k i v (by simp only [kvGet]; rw [if_neg ne, kvGet_without, if_pos rfl])]
        by_cases hi : i = k
        · rw [if_pos hi, if_pos hi]
        · rw [if_neg hi, if_neg hi]
          simp only [kvGet]
          rw [kvGet_without, if_neg hi]
      · simp only [kvGet]
        rw [kvGet_set d k i v m]
        by_cases hi : i = k
        · subst hi; rw [if_neg ne, if_pos rfl, if_pos rfl]
        · rw [if_neg hi, if_neg hi]

/-- Reading the key just written gives the value written. -/
@[simp] theorem kvGet_set_same (d : Nat → α) (k : Nat) (v : α) (m : List (Nat × α)) : kvGet d (kvSet d m k v) k = v := by
  rw [kvGet_set, if_pos rfl]

/-- Every other key reads as before. -/
theorem kvGet_set_ne (d : Nat → α) (k i : Nat) (v : α) (ne : i ≠ k) (m : List (Nat × α)) : kvGet d (kvSet d m k v) i = kvGet d m i := by
  rw [kvGet_set, if_neg ne]

theorem kvAbove_entry (d : Nat → α) {m : List (Nat × α)} {k i : Nat} (v : α) (h : kvAbove i m = true) (lt : i < k) :
    kvAbove i (kvEntry d k v ++ m) = true := by
  unfold kvEntry
  split
  · exact h
  · simpa using ⟨lt, h⟩

theorem kvWf_entry (d : Nat → α) {m : List (Nat × α)} {k : Nat} (v : α) (a : kvAbove k m = true) (h : kvWf d m = true) :
    kvWf d (kvEntry d k v ++ m) = true := by
  unfold kvEntry
  split
  · exact h
  · rename_i ne; simpa [kvWf_cons] using ⟨ne, a, h⟩

/-- Leaving entries out keeps the canonical form. -/
theorem kvWf_filter (d : Nat → α) (p : Nat × α → Bool) : ∀ m : List (Nat × α), kvWf d m = true → kvWf d (m.filter p) = true
  | [], _ => rfl
  | (j, w) :: m, h => by
    obtain ⟨hw, ha, hm⟩ := (kvWf_cons d j w m).1 h
    simp only [List.filter]
    split
    · exact (kvWf_cons d j w _).2 ⟨hw, kvAbove_filter p j m ha, kvWf_filter d p m hm⟩
    · exact kvWf_filter d p m hm

theorem kvAbove_set (d : Nat → α) (k i : Nat) (v : α) (lt : i < k) :
    ∀ m : List (Nat × α), kvAbove i m = true → kvAbove i (kvSet d m k v) = true
  | [], _ => by simpa [kvSet] using kvAbove_entry d (m := []) v (kvAbove_nil i) lt
  | (j, w) :: m, h => by
    obtain ⟨hj, hm⟩ := (kvAbove_cons i j w m).1 h
    simp only [kvSet]
    split
    · exact kvAbove_set d k i v lt m hm
    · split
      · exact kvAbove_entry d v ((kvAbove_cons i j w _).2 ⟨hj, kvAbove_filter _ i m hm⟩) lt
      · exact (kvAbove_cons i j w _).2 ⟨hj, kvAbove_set d k i v lt m hm⟩

/-- A write keeps the canonical form. -/
theorem kvWf_set (d : Nat → α) (k : Nat) (v : α) : ∀ m : List (Nat × α), kvWf d m = true → kvWf d (kvSet d m k v) = true
  | [], h => by simpa [kvSet] using kvWf_entry d (m := []) v (kvAbove_nil k) h
  | (j, w) :: m, h => by
    obtain ⟨hw, ha, hm⟩ := (kvWf_cons d j w m).1 h
    simp only [kvSet]
    split
    · exact kvWf_set d k v m hm
    · split
      · rename_i lt
        exact kvWf_entry d v ((kvAbove_cons k j w _).2 ⟨lt, kvAbove_filter _ k m (kvAbove_mono (Nat.le_of_lt lt) ha)⟩)
          ((kvWf_cons d j w _).2 ⟨hw, kvAbove_filter _ j m ha, kvWf_filter d _ m hm⟩)
      · exact (kvWf_cons d j w _).2 ⟨hw, kvAbove_set d k j v (by omega) m ha, kvWf_set d k v m hm⟩

theorem kvWf_mod (d : Nat → α) (m : List (Nat × α)) (k : Nat) (f : α → α) (h : kvWf d m = true) : kvWf d (kvMod d m k f) = true :=
  kvWf_set d k _ m h

theorem kvWf_setList (d : Nat → α) : ∀ (vs : List α) (m : List (Nat × α)) (k : Nat), kvWf d m = true → kvWf d (kvSetList d m k vs) = true
  | [], _, _, h => h
  | v :: vs, m, k, h => kvWf_setList d vs _ (k + 1) (kvWf_set d k v m h)

/-- Keys outside the written run read as before. -/
theorem kvGet_setList_out (d : Nat → α) (i : Nat) :
    ∀ (vs : List α) (m : List (Nat × α)) (k : Nat), (i < k ∨ k + vs.length ≤ i) → kvGet d (kvSetList d m k vs) i = kvGet d m i
  | [], _, _, _ => rfl
  | v :: vs, m, k, o => by
    have o' : i < k ∨ k + (vs.length + 1) ≤ i := by simpa using o
    simp only [kvSetList]
    rw [kvGet_setList_out d i vs _ (k + 1) (by omega), kvGet_set_ne d k i v (by omega) m]

/-- Keys of the written run read the values written. -/
theorem kvGet_setList_in (d : Nat → α) (i : Nat) :
    ∀ (vs : List α) (m : List (Nat × α)) (k : Nat), (hi : i < vs.length) → kvGet d (kvSetList d m k vs) (k + i) = vs[i]
  | v :: vs, m, k, hi => by
    simp only [kvSetList]
    cases i with
    | zero =>
      rw [kvGet_setList_out d (k + 0) vs _ (k + 1) (by omega)]
      simp
    | succ n =>
      have hn : n < vs.length := by simpa using hi
      have e : k + (n + 1) = k + 1 + n := by omega
      rw [e, kvGet_setList_in d n vs _ (k + 1) hn]
      simp

theorem kvGetList_setList (d : Nat → α) :
    ∀ (vs : List α) (m : List (Nat × α)) (k : Nat), kvGetList d (kvSetList d m k vs) k vs.length = vs := by
  have aux : ∀ (n : Nat) (m : List (Nat × α)) (k : Nat), (kvGetList d m k n).length = n := by
    intro n; induction n with
    | zero => intro m k; rfl
    | succ n ih => intro m k; simp [kvGetList, ih]
  have get : ∀ (n : Nat) (m : List (Nat × α)) (k i : Nat) (h : i < (kvGetList d m k n).length), (kvGetList d m k n)[i] = kvGet d m (k + i) := by
    intro n; induction n with
    | zero => intro m k i h; simp [kvGetList] at h
    | succ n ih =>
      intro m k i h
      cases i with
      | zero => simp [kvGetList]
      | succ i =>
        have e : k + (i + 1) = k + 1 + i := by omega
        simp only [kvGetList, List.getElem_cons_succ, e]
        exact ih m (k + 1) i (by simpa [kvGetList] using h)
  intro vs m k
  apply List.ext_getElem (aux _ _ _)
  intro i h1 h2
  rw [get, kvGet_setList_in d i vs m k h2]

/-- Canonical tables that read alike are equal. -/
theorem kv_ext (d : Nat → α) : ∀ m n : List (Nat × α), kvWf d m = true → kvWf d n = true → (∀ k, kvGet d m k = kvGet d n k) → m = n
  | [], [], _, _, _ => rfl
  | [], (j, w) :: n, _, hn, e => by
    obtain ⟨hw, _, _⟩ := (kvWf_cons d j w n).1 hn
    exact absurd (by simpa [kvGet] using (e j).symm) hw
  | (j, w) :: m, [], hm, _, e => by
    obtain ⟨hw, _, _⟩ := (kvWf_cons d j w m).1 hm
    exact absurd (by simpa [kvGet] using e j) hw
  | (j, w) :: m, (i, v) :: n, hm, hn, e => by
    obtain ⟨hw, ha, hm'⟩ := (kvWf_cons d j w m).1 hm
    obtain ⟨hv, hb, hn'⟩ := (kvWf_cons d i v n).1 hn
    have hji : j = i := by
      rcases Nat.lt_trichotomy j i with lt | eq | gt
      · have := e j
        simp only [kvGet, if_neg (Nat.ne_of_gt lt), if_true] at this
        rw [kvGet_above d (Nat.le_of_lt lt) n hb] at this
        exact absurd this hw
      · exact eq
      · have := e i
        simp only [kvGet, if_neg (Nat.ne_of_gt gt), if_true] at this
        rw [kvGet_above d (Nat.le_of_lt gt) m ha] at this
        exact absurd this.symm hv
    subst hji
    have hwv : w = v := by simpa [kvGet] using e j
    subst hwv
    have : m = n := by
      apply kv_ext d m n hm' hn'
      intro k
      by_cases hk : k ≤ j
      · rw [kvGet_above d hk m ha, kvGet_above d hk n hb]
      · have := e k
        simpa only [kvGet, if_neg (show ¬ j = k by omega)] using this
    rw [this]

end Sys2Proof.Machine
end

