-- ==== Sys2Proof/Laws/Run.lean ====
section
/-! SUPPORT. Laws/Run.lean: one relation that says what an operation may do to the state: which parts and which dictionary entries it may
change, and that it keeps the canonical forms of memory and dictionary and the agreement of pins and state. The record updates and the named
operations of Ops satisfy it; the other files of Laws/ show it of every operation and every command. -/
namespace Sys2Proof.Machine

/-- The place of a part's bit in a set of parts. -/
def Part.code : Part → Nat
  | .mode => 0
  | .resetN => 1
  | .pwrGood => 2
  | .freezeN => 3
  | .slotId => 4
  | .bondSide => 5
  | .ready => 6
  | .faultN => 7
  | .course => 8
  | .events => 9
  | .streams => 10
  | .plan => 11
  | .loading => 12
  | .place => 13
  | .triggers => 14
  | .placeDue => 15
  | .placing => 16
  | .placeWait => 17
  | .arrays => 18
  | .cells => 19
  | .cal => 20
  | .layers => 21
  | .widenLog => 22
  | .plumbLog => 23
  | .storm => 24
  | .jointModes => 25
  | .jointParts => 26
  | .jointWaits => 27
  | .backward => 28
  | .frogMost => 29
  | .step => 30
  | .exch => 31
  | .upd => 32
  | .mem => 33
  | .memUnit => 34
  | .bridges => 35
  | .link => 36
  | .ep0 => 37
  | .ep1 => 38
  | .dict => 39
  | .meas => 40
  | .clk => 41
  | .faults => 42
  | .freeze => 43
  | .fw => 44
  | .outs => 45
  | .free => 46
  | .pending => 47

/-- In a sorted list every element of a sorted list. -/
def subk : List Nat → List Nat → Bool
  | [], _ => true
  | _ :: _, [] => false
  | a :: as, b :: bs => if a = b then subk as bs else subk (a :: as) bs

/-- From `s` to `t` an operation with the parts `f` (a bit each) and the entries `K` may have run; bit 63 stands for any entry. -/
structure Run (f : Nat) (K : List Nat) (s t : State) : Prop where
  part : ∀ p : Part, f.testBit p.code = false → s.same t p
  mem : s.memOk = true → t.memOk = true
  dict : s.dictOk = true → t.dictOk = true
  entry : s.dictOk = true → f.testBit 63 = false → ∀ k, k ∉ K → t.pdGet k = s.pdGet k
  pins : s.pinsOk = true → t.pinsOk = true
  outs : s.outs <+: t.outs

theorem orr {a b c : Nat} (k : b ||| c = c) (h : a ||| b = b) : a ||| c = c := by
  rw [← k, ← Nat.or_assoc, h]

theorem subk_mem : ∀ {a b : List Nat}, subk a b = true → ∀ {x}, x ∈ a → x ∈ b
  | [], _, _, _, hx => by cases hx
  | _ :: _, [], h, _, _ => by simp [subk] at h
  | a :: as, b :: bs, h, x, hx => by
    unfold subk at h
    split at h
    · rename_i e
      cases hx with
      | head => exact e ▸ List.mem_cons_self
      | tail _ hx => exact List.mem_cons_of_mem _ (subk_mem h hx)
    · exact List.mem_cons_of_mem _ (subk_mem h hx)

/-- The entries of a callee within those of its caller within a larger list. -/
theorem sbk {a b c : List Nat} (k : ∀ x, x ∈ b → x ∈ c) (h : subk a b = true) : ∀ x, x ∈ a → x ∈ c :=
  fun _ hx => k _ (subk_mem h hx)

theorem testBit_sub {a f i : Nat} (h : a ||| f = f) (n : f.testBit i = false) : a.testBit i = false := by
  rw [← h, Nat.testBit_or] at n
  exact (Bool.or_eq_false_iff.1 n).1

theorem State.same_refl (s : State) (p : Part) : s.same s p := by cases p <;> rfl

theorem State.same_trans {s t u : State} {p : Part} (h : s.same t p) (k : t.same u p) : s.same u p := by
  cases p <;> exact Eq.trans k h

theorem Run.refl (f : Nat) (K : List Nat) (s : State) : Run f K s s :=
  ⟨fun p _ => s.same_refl p, id, id, fun _ _ _ _ => rfl, id, List.prefix_refl _⟩

theorem Run.trans {f : Nat} {K : List Nat} {s t u : State} (h : Run f K s t) (k : Run f K t u) : Run f K s u :=
  ⟨fun p n => State.same_trans (h.part p n) (k.part p n), fun w => k.mem (h.mem w), fun w => k.dict (h.dict w),
   fun w n i hi => (k.entry (h.dict w) n i hi).trans (h.entry w n i hi), fun w => k.pins (h.pins w), h.outs.trans k.outs⟩

/-- An entry outside the set reads as before. -/
theorem Run.num_eq {f : Nat} {K : List Nat} {s t : State} (h : Run f K s t) (w : s.dictOk = true) (n : f.testBit 63 = false) {k : Nat}
    (hk : k ∉ K) : t.num k = s.num k := by
  unfold State.num; rw [h.entry w n k hk]

theorem Run.rows_eq {f : Nat} {K : List Nat} {s t : State} (h : Run f K s t) (w : s.dictOk = true) (n : f.testBit 63 = false) {k : Nat}
    (hk : k ∉ K) : t.rows k = s.rows k := by
  unfold State.rows; rw [h.entry w n k hk]

theorem Run.byte_eq {f : Nat} {K : List Nat} {s t : State} (h : Run f K s t) (n : f.testBit Part.mem.code = false) (st a : Nat) :
    t.readByte st a = s.readByte st a := by
  unfold State.readByte; rw [show t.mem = s.mem from h.part .mem n]

/-- A record update of parts that neither the dictionary, the memory nor the pins belong to. -/
theorem Run.upd {b f : Nat} {K : List Nat} {s x y : State} (hf : b ||| f = f) (h : Run f K s x)
    (hs : ∀ p : Part, b.testBit p.code = false → x.same y p) (hm : y.mem = x.mem) (hp : y.pd = x.pd)
    (h1 : y.mode = x.mode) (h2 : y.ready = x.ready) (h3 : y.faultN = x.faultN) (ho : x.outs <+: y.outs) : Run f K s y :=
  ⟨fun p n => State.same_trans (h.part p n) (hs p (testBit_sub hf n)),
   fun w => by have := h.mem w; unfold State.memOk at *; rw [hm]; exact this,
   fun w => by have := h.dict w; unfold State.dictOk at *; rw [hp]; exact this,
   fun w n i hi => by have := h.entry w n i hi; unfold State.pdGet at *; rw [hp]; exact this,
   fun w => by have := h.pins w; unfold State.pinsOk at *; rw [h1, h2, h3]; exact this,
   h.outs.trans ho⟩

/-! ## Record updates -/

section
variable {f : Nat} {K : List Nat} {s0 x : State}

theorem run_upd_pwrGood {v0} (hf : 4 ||| f = f) (h : Run f K s0 x) :
    Run f K s0 { x with pwrGood := v0 } :=
  h.upd hf (fun p n => by cases p <;> first | rfl | cases n) rfl rfl rfl rfl rfl (List.prefix_refl _)
theorem run_upd_pwrGood_iff {v0} (hf : 4 ||| f = f) :
    Run f K s0 { x with pwrGood := v0 } ↔ Run f K s0 x :=
  ⟨fun h => h.upd hf (fun p n => by cases p <;> first | rfl | cases n) rfl rfl rfl rfl rfl (List.prefix_refl _), run_upd_pwrGood hf⟩
theorem run_upd_freezeN {v0} (hf : 8 ||| f = f) (h : Run f K s0 x) :
    Run f K s0 { x with freezeN := v0 } :=
  h.upd hf (fun p n => by cases p <;> first | rfl | cases n) rfl rfl rfl rfl rfl (List.prefix_refl _)
theorem run_upd_freezeN_iff {v0} (hf : 8 ||| f = f) :
    Run f K s0 { x with freezeN := v0 } ↔ Run f K s0 x :=
  ⟨fun h => h.upd hf (fun p n => by cases p <;> first | rfl | cases n) rfl rfl rfl rfl rfl (List.prefix_refl _), run_upd_freezeN hf⟩
theorem run_upd_course {v0} (hf : 256 ||| f = f) (h : Run f K s0 x) :
    Run f K s0 { x with course := v0 } :=
  h.upd hf (fun p n => by cases p <;> first | rfl | cases n) rfl rfl rfl rfl rfl (List.prefix_refl _)
theorem run_upd_course_iff {v0} (hf : 256 ||| f = f) :
    Run f K s0 { x with course := v0 } ↔ Run f K s0 x :=
  ⟨fun h => h.upd hf (fun p n => by cases p <;> first | rfl | cases n) rfl rfl rfl rfl rfl (List.prefix_refl _), run_upd_course hf⟩
theorem run_upd_events {v0} (hf : 512 ||| f = f) (h : Run f K s0 x) :
    Run f K s0 { x with events := v0 } :=
  h.upd hf (fun p n => by cases p <;> first | rfl | cases n) rfl rfl rfl rfl rfl (List.prefix_refl _)
theorem run_upd_events_iff {v0} (hf : 512 ||| f = f) :
    Run f K s0 { x with events := v0 } ↔ Run f K s0 x :=
  ⟨fun h => h.upd hf (fun p n => by cases p <;> first | rfl | cases n) rfl rfl rfl rfl rfl (List.prefix_refl _), run_upd_events hf⟩
theorem run_upd_streams {v0} (hf : 1024 ||| f = f) (h : Run f K s0 x) :
    Run f K s0 { x with streams := v0 } :=
  h.upd hf (fun p n => by cases p <;> first | rfl | cases n) rfl rfl rfl rfl rfl (List.prefix_refl _)
theorem run_upd_streams_iff {v0} (hf : 1024 ||| f = f) :
    Run f K s0 { x with streams := v0 } ↔ Run f K s0 x :=
  ⟨fun h => h.upd hf (fun p n => by cases p <;> first | rfl | cases n) rfl rfl rfl rfl rfl (List.prefix_refl _), run_upd_streams hf⟩
theorem run_upd_loading {v0} (hf : 4096 ||| f = f) (h : Run f K s0 x) :
    Run f K s0 { x with loading := v0 } :=
  h.upd hf (fun p n => by cases p <;> first | rfl | cases n) rfl rfl rfl rfl rfl (List.prefix_refl _)
theorem run_upd_loading_iff {v0} (hf : 4096 ||| f = f) :
    Run f K s0 { x with loading := v0 } ↔ Run f K s0 x :=
  ⟨fun h => h.upd hf (fun p n => by cases p <;> first | rfl | cases n) rfl rfl rfl rfl rfl (List.prefix_refl _), run_upd_loading hf⟩
theorem run_upd_triggers {v0} (hf : 16384 ||| f = f) (h : Run f K s0 x) :
    Run f K s0 { x with triggers := v0 } :=
  h.upd hf (fun p n => by cases p <;> first | rfl | cases n) rfl rfl rfl rfl rfl (List.prefix_refl _)
theorem run_upd_triggers_iff {v0} (hf : 16384 ||| f = f) :
    Run f K s0 { x with triggers := v0 } ↔ Run f K s0 x :=
  ⟨fun h => h.upd hf (fun p n => by cases p <;> first | rfl | cases n) rfl rfl rfl rfl rfl (List.prefix_refl _), run_upd_triggers hf⟩
theorem run_upd_placeDue {v0} (hf : 32768 ||| f = f) (h : Run f K s0 x) :
    Run f K s0 { x with placeDue := v0 } :=
  h.upd hf (fun p n => by cases p <;> first | rfl | cases n) rfl rfl rfl rfl rfl (List.prefix_refl _)
theorem run_upd_placeDue_iff {v0} (hf : 32768 ||| f = f) :
    Run f K s0 { x with placeDue := v0 } ↔ Run f K s0 x :=
  ⟨fun h => h.upd hf (fun p n => by cases p <;> first | rfl | cases n) rfl rfl rfl rfl rfl (List.prefix_refl _), run_upd_placeDue hf⟩
theorem run_upd_placing {v0} (hf : 65536 ||| f = f) (h : Run f K s0 x) :
    Run f K s0 { x with placing := v0 } :=
  h.upd hf (fun p n => by cases p <;> first | rfl | cases n) rfl rfl rfl rfl rfl (List.prefix_refl _)
theorem run_upd_placing_iff {v0} (hf : 65536 ||| f = f) :
    Run f K s0 { x with placing := v0 } ↔ Run f K s0 x :=
  ⟨fun h => h.upd hf (fun p n => by cases p <;> first | rfl | cases n) rfl rfl rfl rfl rfl (List.prefix_refl _), run_upd_placing hf⟩
theorem run_upd_placeWait {v0} (hf : 131072 ||| f = f) (h : Run f K s0 x) :
    Run f K s0 { x with placeWait := v0 } :=
  h.upd hf (fun p n => by cases p <;> first | rfl | cases n) rfl rfl rfl rfl rfl (List.prefix_refl _)
theorem run_upd_placeWait_iff {v0} (hf : 131072 ||| f = f) :
    Run f K s0 { x with placeWait := v0 } ↔ Run f K s0 x :=
  ⟨fun h => h.upd hf (fun p n => by cases p <;> first | rfl | cases n) rfl rfl rfl rfl rfl (List.prefix_refl _), run_upd_placeWait hf⟩
theorem run_upd_arrays {v0} (hf : 262144 ||| f = f) (h : Run f K s0 x) :
    Run f K s0 { x with arrays := v0 } :=
  h.upd hf (fun p n => by cases p <;> first | rfl | cases n) rfl rfl rfl rfl rfl (List.prefix_refl _)
theorem run_upd_arrays_iff {v0} (hf : 262144 ||| f = f) :
    Run f K s0 { x with arrays := v0 } ↔ Run f K s0 x :=
  ⟨fun h => h.upd hf (fun p n => by cases p <;> first | rfl | cases n) rfl rfl rfl rfl rfl (List.prefix_refl _), run_upd_arrays hf⟩
theorem run_upd_cells {v0} (hf : 524288 ||| f = f) (h : Run f K s0 x) :
    Run f K s0 { x with cells := v0 } :=
  h.upd hf (fun p n => by cases p <;> first | rfl | cases n) rfl rfl rfl rfl rfl (List.prefix_refl _)
theorem run_upd_cells_iff {v0} (hf : 524288 ||| f = f) :
    Run f K s0 { x with cells := v0 } ↔ Run f K s0 x :=
  ⟨fun h => h.upd hf (fun p n => by cases p <;> first | rfl | cases n) rfl rfl rfl rfl rfl (List.prefix_refl _), run_upd_cells hf⟩
theorem run_upd_cal {v0} (hf : 1048576 ||| f = f) (h : Run f K s0 x) :
    Run f K s0 { x with cal := v0 } :=
  h.upd hf (fun p n => by cases p <;> first | rfl | cases n) rfl rfl rfl rfl rfl (List.prefix_refl _)
theorem run_upd_cal_iff {v0} (hf : 1048576 ||| f = f) :
    Run f K s0 { x with cal := v0 } ↔ Run f K s0 x :=
  ⟨fun h => h.upd hf (fun p n => by cases p <;> first | rfl | cases n) rfl rfl rfl rfl rfl (List.prefix_refl _), run_upd_cal hf⟩
theorem run_upd_layers {v0} (hf : 2097152 ||| f = f) (h : Run f K s0 x) :
    Run f K s0 { x with layers := v0 } :=
  h.upd hf (fun p n => by cases p <;> first | rfl | cases n) rfl rfl rfl rfl rfl (List.prefix_refl _)
theorem run_upd_layers_iff {v0} (hf : 2097152 ||| f = f) :
    Run f K s0 { x with layers := v0 } ↔ Run f K s0 x :=
  ⟨fun h => h.upd hf (fun p n => by cases p <;> first | rfl | cases n) rfl rfl rfl rfl rfl (List.prefix_refl _), run_upd_layers hf⟩
theorem run_upd_widenLog {v0} (hf : 4194304 ||| f = f) (h : Run f K s0 x) :
    Run f K s0 { x with widenLog := v0 } :=
  h.upd hf (fun p n => by cases p <;> first | rfl | cases n) rfl rfl rfl rfl rfl (List.prefix_refl _)
theorem run_upd_widenLog_iff {v0} (hf : 4194304 ||| f = f) :
    Run f K s0 { x with widenLog := v0 } ↔ Run f K s0 x :=
  ⟨fun h => h.upd hf (fun p n => by cases p <;> first | rfl | cases n) rfl rfl rfl rfl rfl (List.prefix_refl _), run_upd_widenLog hf⟩
theorem run_upd_plumbLog {v0} (hf : 8388608 ||| f = f) (h : Run f K s0 x) :
    Run f K s0 { x with plumbLog := v0 } :=
  h.upd hf (fun p n => by cases p <;> first | rfl | cases n) rfl rfl rfl rfl rfl (List.prefix_refl _)
theorem run_upd_plumbLog_iff {v0} (hf : 8388608 ||| f = f) :
    Run f K s0 { x with plumbLog := v0 } ↔ Run f K s0 x :=
  ⟨fun h => h.upd hf (fun p n => by cases p <;> first | rfl | cases n) rfl rfl rfl rfl rfl (List.prefix_refl _), run_upd_plumbLog hf⟩
theorem run_upd_jointModes {v0} (hf : 33554432 ||| f = f) (h : Run f K s0 x) :
    Run f K s0 { x with jointModes := v0 } :=
  h.upd hf (fun p n => by cases p <;> first | rfl | cases n) rfl rfl rfl rfl rfl (List.prefix_refl _)
theorem run_upd_jointModes_iff {v0} (hf : 33554432 ||| f = f) :
    Run f K s0 { x with jointModes := v0 } ↔ Run f K s0 x :=
  ⟨fun h => h.upd hf (fun p n => by cases p <;> first | rfl | cases n) rfl rfl rfl rfl rfl (List.prefix_refl _), run_upd_jointModes hf⟩
theorem run_upd_jointParts {v0} (hf : 67108864 ||| f = f) (h : Run f K s0 x) :
    Run f K s0 { x with jointParts := v0 } :=
  h.upd hf (fun p n => by cases p <;> first | rfl | cases n) rfl rfl rfl rfl rfl (List.prefix_refl _)
theorem run_upd_jointParts_iff {v0} (hf : 67108864 ||| f = f) :
    Run f K s0 { x with jointParts := v0 } ↔ Run f K s0 x :=
  ⟨fun h => h.upd hf (fun p n => by cases p <;> first | rfl | cases n) rfl rfl rfl rfl rfl (List.prefix_refl _), run_upd_jointParts hf⟩
theorem run_upd_jointWaits {v0} (hf : 134217728 ||| f = f) (h : Run f K s0 x) :
    Run f K s0 { x with jointWaits := v0 } :=
  h.upd hf (fun p n => by cases p <;> first | rfl | cases n) rfl rfl rfl rfl rfl (List.prefix_refl _)
theorem run_upd_jointWaits_iff {v0} (hf : 134217728 ||| f = f) :
    Run f K s0 { x with jointWaits := v0 } ↔ Run f K s0 x :=
  ⟨fun h => h.upd hf (fun p n => by cases p <;> first | rfl | cases n) rfl rfl rfl rfl rfl (List.prefix_refl _), run_upd_jointWaits hf⟩
theorem run_upd_backward {v0} (hf : 268435456 ||| f = f) (h : Run f K s0 x) :
    Run f K s0 { x with backward := v0 } :=
  h.upd hf (fun p n => by cases p <;> first | rfl | cases n) rfl rfl rfl rfl rfl (List.prefix_refl _)
theorem run_upd_backward_iff {v0} (hf : 268435456 ||| f = f) :
    Run f K s0 { x with backward := v0 } ↔ Run f K s0 x :=
  ⟨fun h => h.upd hf (fun p n => by cases p <;> first | rfl | cases n) rfl rfl rfl rfl rfl (List.prefix_refl _), run_upd_backward hf⟩
theorem run_upd_frogMost {v0} (hf : 536870912 ||| f = f) (h : Run f K s0 x) :
    Run f K s0 { x with frogMost := v0 } :=
  h.upd hf (fun p n => by cases p <;> first | rfl | cases n) rfl rfl rfl rfl rfl (List.prefix_refl _)
theorem run_upd_frogMost_iff {v0} (hf : 536870912 ||| f = f) :
    Run f K s0 { x with frogMost := v0 } ↔ Run f K s0 x :=
  ⟨fun h => h.upd hf (fun p n => by cases p <;> first | rfl | cases n) rfl rfl rfl rfl rfl (List.prefix_refl _), run_upd_frogMost hf⟩
theorem run_upd_step {v0} (hf : 1073741824 ||| f = f) (h : Run f K s0 x) :
    Run f K s0 { x with step := v0 } :=
  h.upd hf (fun p n => by cases p <;> first | rfl | cases n) rfl rfl rfl rfl rfl (List.prefix_refl _)
theorem run_upd_step_iff {v0} (hf : 1073741824 ||| f = f) :
    Run f K s0 { x with step := v0 } ↔ Run f K s0 x :=
  ⟨fun h => h.upd hf (fun p n => by cases p <;> first | rfl | cases n) rfl rfl rfl rfl rfl (List.prefix_refl _), run_upd_step hf⟩
theorem run_upd_exch {v0} (hf : 2147483648 ||| f = f) (h : Run f K s0 x) :
    Run f K s0 { x with exch := v0 } :=
  h.upd hf (fun p n => by cases p <;> first | rfl | cases n) rfl rfl rfl rfl rfl (List.prefix_refl _)
theorem run_upd_exch_iff {v0} (hf : 2147483648 ||| f = f) :
    Run f K s0 { x with exch := v0 } ↔ Run f K s0 x :=
  ⟨fun h => h.upd hf (fun p n => by cases p <;> first | rfl | cases n) rfl rfl rfl rfl rfl (List.prefix_refl _), run_upd_exch hf⟩
theorem run_upd_upd {v0} (hf : 4294967296 ||| f = f) (h : Run f K s0 x) :
    Run f K s0 { x with upd := v0 } :=
  h.upd hf (fun p n => by cases p <;> first | rfl | cases n) rfl rfl rfl rfl rfl (List.prefix_refl _)
theorem run_upd_upd_iff {v0} (hf : 4294967296 ||| f = f) :
    Run f K s0 { x with upd := v0 } ↔ Run f K s0 x :=
  ⟨fun h => h.upd hf (fun p n => by cases p <;> first | rfl | cases n) rfl rfl rfl rfl rfl (List.prefix_refl _), run_upd_upd hf⟩
theorem run_upd_memUnit {v0} (hf : 17179869184 ||| f = f) (h : Run f K s0 x) :
    Run f K s0 { x with memUnit := v0 } :=
  h.upd hf (fun p n => by cases p <;> first | rfl | cases n) rfl rfl rfl rfl rfl (List.prefix_refl _)
theorem run_upd_memUnit_iff {v0} (hf : 17179869184 ||| f = f) :
    Run f K s0 { x with memUnit := v0 } ↔ Run f K s0 x :=
  ⟨fun h => h.upd hf (fun p n => by cases p <;> first | rfl | cases n) rfl rfl rfl rfl rfl (List.prefix_refl _), run_upd_memUnit hf⟩
theorem run_upd_bridges {v0} (hf : 34359738368 ||| f = f) (h : Run f K s0 x) :
    Run f K s0 { x with bridges := v0 } :=
  h.upd hf (fun p n => by cases p <;> first | rfl | cases n) rfl rfl rfl rfl rfl (List.prefix_refl _)
theorem run_upd_bridges_iff {v0} (hf : 34359738368 ||| f = f) :
    Run f K s0 { x with bridges := v0 } ↔ Run f K s0 x :=
  ⟨fun h => h.upd hf (fun p n => by cases p <;> first | rfl | cases n) rfl rfl rfl rfl rfl (List.prefix_refl _), run_upd_bridges hf⟩
theorem run_upd_link {v0} (hf : 68719476736 ||| f = f) (h : Run f K s0 x) :
    Run f K s0 { x with link := v0 } :=
  h.upd hf (fun p n => by cases p <;> first | rfl | cases n) rfl rfl rfl rfl rfl (List.prefix_refl _)
theorem run_upd_link_iff {v0} (hf : 68719476736 ||| f = f) :
    Run f K s0 { x with link := v0 } ↔ Run f K s0 x :=
  ⟨fun h => h.upd hf (fun p n => by cases p <;> first | rfl | cases n) rfl rfl rfl rfl rfl (List.prefix_refl _), run_upd_link hf⟩
theorem run_upd_ep0 {v0} (hf : 137438953472 ||| f = f) (h : Run f K s0 x) :
    Run f K s0 { x with ep0 := v0 } :=
  h.upd hf (fun p n => by cases p <;> first | rfl | cases n) rfl rfl rfl rfl rfl (List.prefix_refl _)
theorem run_upd_ep0_iff {v0} (hf : 137438953472 ||| f = f) :
    Run f K s0 { x with ep0 := v0 } ↔ Run f K s0 x :=
  ⟨fun h => h.upd hf (fun p n => by cases p <;> first | rfl | cases n) rfl rfl rfl rfl rfl (List.prefix_refl _), run_upd_ep0 hf⟩
theorem run_upd_ep1 {v0} (hf : 274877906944 ||| f = f) (h : Run f K s0 x) :
    Run f K s0 { x with ep1 := v0 } :=
  h.upd hf (fun p n => by cases p <;> first | rfl | cases n) rfl rfl rfl rfl rfl (List.prefix_refl _)
theorem run_upd_ep1_iff {v0} (hf : 274877906944 ||| f = f) :
    Run f K s0 { x with ep1 := v0 } ↔ Run f K s0 x :=
  ⟨fun h => h.upd hf (fun p n => by cases p <;> first | rfl | cases n) rfl rfl rfl rfl rfl (List.prefix_refl _), run_upd_ep1 hf⟩
theorem run_upd_dict {v0} (hf : 549755813888 ||| f = f) (h : Run f K s0 x) :
    Run f K s0 { x with dict := v0 } :=
  h.upd hf (fun p n => by cases p <;> first | rfl | cases n) rfl rfl rfl rfl rfl (List.prefix_refl _)
theorem run_upd_dict_iff {v0} (hf : 549755813888 ||| f = f) :
    Run f K s0 { x with dict := v0 } ↔ Run f K s0 x :=
  ⟨fun h => h.upd hf (fun p n => by cases p <;> first | rfl | cases n) rfl rfl rfl rfl rfl (List.prefix_refl _), run_upd_dict hf⟩
theorem run_upd_meas {v0} (hf : 1099511627776 ||| f = f) (h : Run f K s0 x) :
    Run f K s0 { x with meas := v0 } :=
  h.upd hf (fun p n => by cases p <;> first | rfl | cases n) rfl rfl rfl rfl rfl (List.prefix_refl _)
theorem run_upd_meas_iff {v0} (hf : 1099511627776 ||| f = f) :
    Run f K s0 { x with meas := v0 } ↔ Run f K s0 x :=
  ⟨fun h => h.upd hf (fun p n => by cases p <;> first | rfl | cases n) rfl rfl rfl rfl rfl (List.prefix_refl _), run_upd_meas hf⟩
theorem run_upd_clk {v0} (hf : 2199023255552 ||| f = f) (h : Run f K s0 x) :
    Run f K s0 { x with clk := v0 } :=
  h.upd hf (fun p n => by cases p <;> first | rfl | cases n) rfl rfl rfl rfl rfl (List.prefix_refl _)
theorem run_upd_clk_iff {v0} (hf : 2199023255552 ||| f = f) :
    Run f K s0 { x with clk := v0 } ↔ Run f K s0 x :=
  ⟨fun h => h.upd hf (fun p n => by cases p <;> first | rfl | cases n) rfl rfl rfl rfl rfl (List.prefix_refl _), run_upd_clk hf⟩
theorem run_upd_faults {v0} (hf : 4398046511104 ||| f = f) (h : Run f K s0 x) :
    Run f K s0 { x with faults := v0 } :=
  h.upd hf (fun p n => by cases p <;> first | rfl | cases n) rfl rfl rfl rfl rfl (List.prefix_refl _)
theorem run_upd_faults_iff {v0} (hf : 4398046511104 ||| f = f) :
    Run f K s0 { x with faults := v0 } ↔ Run f K s0 x :=
  ⟨fun h => h.upd hf (fun p n => by cases p <;> first | rfl | cases n) rfl rfl rfl rfl rfl (List.prefix_refl _), run_upd_faults hf⟩
theorem run_upd_freeze {v0} (hf : 8796093022208 ||| f = f) (h : Run f K s0 x) :
    Run f K s0 { x with freeze := v0 } :=
  h.upd hf (fun p n => by cases p <;> first | rfl | cases n) rfl rfl rfl rfl rfl (List.prefix_refl _)
theorem run_upd_freeze_iff {v0} (hf : 8796093022208 ||| f = f) :
    Run f K s0 { x with freeze := v0 } ↔ Run f K s0 x :=
  ⟨fun h => h.upd hf (fun p n => by cases p <;> first | rfl | cases n) rfl rfl rfl rfl rfl (List.prefix_refl _), run_upd_freeze hf⟩
theorem run_upd_fw {v0} (hf : 17592186044416 ||| f = f) (h : Run f K s0 x) :
    Run f K s0 { x with fw := v0 } :=
  h.upd hf (fun p n => by cases p <;> first | rfl | cases n) rfl rfl rfl rfl rfl (List.prefix_refl _)
theorem run_upd_fw_iff {v0} (hf : 17592186044416 ||| f = f) :
    Run f K s0 { x with fw := v0 } ↔ Run f K s0 x :=
  ⟨fun h => h.upd hf (fun p n => by cases p <;> first | rfl | cases n) rfl rfl rfl rfl rfl (List.prefix_refl _), run_upd_fw hf⟩
theorem run_upd_outs {l} (hf : 35184372088832 ||| f = f) (h : Run f K s0 x) : Run f K s0 { x with outs := x.outs ++ l } :=
  h.upd hf (fun p n => by cases p <;> first | rfl | cases n) rfl rfl rfl rfl rfl (List.prefix_append _ _)
theorem run_upd_free {v0} (hf : 70368744177664 ||| f = f) (h : Run f K s0 x) :
    Run f K s0 { x with free := v0 } :=
  h.upd hf (fun p n => by cases p <;> first | rfl | cases n) rfl rfl rfl rfl rfl (List.prefix_refl _)
theorem run_upd_free_iff {v0} (hf : 70368744177664 ||| f = f) :
    Run f K s0 { x with free := v0 } ↔ Run f K s0 x :=
  ⟨fun h => h.upd hf (fun p n => by cases p <;> first | rfl | cases n) rfl rfl rfl rfl rfl (List.prefix_refl _), run_upd_free hf⟩
theorem run_upd_pending {v0} (hf : 140737488355328 ||| f = f) (h : Run f K s0 x) :
    Run f K s0 { x with pending := v0 } :=
  h.upd hf (fun p n => by cases p <;> first | rfl | cases n) rfl rfl rfl rfl rfl (List.prefix_refl _)
theorem run_upd_pending_iff {v0} (hf : 140737488355328 ||| f = f) :
    Run f K s0 { x with pending := v0 } ↔ Run f K s0 x :=
  ⟨fun h => h.upd hf (fun p n => by cases p <;> first | rfl | cases n) rfl rfl rfl rfl rfl (List.prefix_refl _), run_upd_pending hf⟩
theorem run_upd_resetN_pwrGood {v0 v1} (hf : 6 ||| f = f) (h : Run f K s0 x) :
    Run f K s0 { x with resetN := v0, pwrGood := v1 } :=
  h.upd hf (fun p n => by cases p <;> first | rfl | cases n) rfl rfl rfl rfl rfl (List.prefix_refl _)
theorem run_upd_resetN_pwrGood_iff {v0 v1} (hf : 6 ||| f = f) :
    Run f K s0 { x with resetN := v0, pwrGood := v1 } ↔ Run f K s0 x :=
  ⟨fun h => h.upd hf (fun p n => by cases p <;> first | rfl | cases n) rfl rfl rfl rfl rfl (List.prefix_refl _), run_upd_resetN_pwrGood hf⟩
theorem run_upd_course_freeze {v0 v1} (hf : 8796093022464 ||| f = f) (h : Run f K s0 x) :
    Run f K s0 { x with course := v0, freeze := v1 } :=
  h.upd hf (fun p n => by cases p <;> first | rfl | cases n) rfl rfl rfl rfl rfl (List.prefix_refl _)
theorem run_upd_course_freeze_iff {v0 v1} (hf : 8796093022464 ||| f = f) :
    Run f K s0 { x with course := v0, freeze := v1 } ↔ Run f K s0 x :=
  ⟨fun h => h.upd hf (fun p n => by cases p <;> first | rfl | cases n) rfl rfl rfl rfl rfl (List.prefix_refl _), run_upd_course_freeze hf⟩
theorem run_upd_events_cal {v0 v1} (hf : 1049088 ||| f = f) (h : Run f K s0 x) :
    Run f K s0 { x with events := v0, cal := v1 } :=
  h.upd hf (fun p n => by cases p <;> first | rfl | cases n) rfl rfl rfl rfl rfl (List.prefix_refl _)
theorem run_upd_events_cal_iff {v0 v1} (hf : 1049088 ||| f = f) :
    Run f K s0 { x with events := v0, cal := v1 } ↔ Run f K s0 x :=
  ⟨fun h => h.upd hf (fun p n => by cases p <;> first | rfl | cases n) rfl rfl rfl rfl rfl (List.prefix_refl _), run_upd_events_cal hf⟩
theorem run_upd_streams_arrays {v0 v1} (hf : 263168 ||| f = f) (h : Run f K s0 x) :
    Run f K s0 { x with streams := v0, arrays := v1 } :=
  h.upd hf (fun p n => by cases p <;> first | rfl | cases n) rfl rfl rfl rfl rfl (List.prefix_refl _)
theorem run_upd_streams_arrays_iff {v0 v1} (hf : 263168 ||| f = f) :
    Run f K s0 { x with streams := v0, arrays := v1 } ↔ Run f K s0 x :=
  ⟨fun h => h.upd hf (fun p n => by cases p <;> first | rfl | cases n) rfl rfl rfl rfl rfl (List.prefix_refl _), run_upd_streams_arrays hf⟩
theorem run_upd_place_arrays {v0 v1} (hf : 270336 ||| f = f) (h : Run f K s0 x) :
    Run f K s0 { x with place := v0, arrays := v1 } :=
  h.upd hf (fun p n => by cases p <;> first | rfl | cases n) rfl rfl rfl rfl rfl (List.prefix_refl _)
theorem run_upd_place_arrays_iff {v0 v1} (hf : 270336 ||| f = f) :
    Run f K s0 { x with place := v0, arrays := v1 } ↔ Run f K s0 x :=
  ⟨fun h => h.upd hf (fun p n => by cases p <;> first | rfl | cases n) rfl rfl rfl rfl rfl (List.prefix_refl _), run_upd_place_arrays hf⟩
theorem run_upd_triggers_placeDue {v0 v1} (hf : 49152 ||| f = f) (h : Run f K s0 x) :
    Run f K s0 { x with triggers := v0, placeDue := v1 } :=
  h.upd hf (fun p n => by cases p <;> first | rfl | cases n) rfl rfl rfl rfl rfl (List.prefix_refl _)
theorem run_upd_triggers_placeDue_iff {v0 v1} (hf : 49152 ||| f = f) :
    Run f K s0 { x with triggers := v0, placeDue := v1 } ↔ Run f K s0 x :=
  ⟨fun h => h.upd hf (fun p n => by cases p <;> first | rfl | cases n) rfl rfl rfl rfl rfl (List.prefix_refl _), run_upd_triggers_placeDue hf⟩
theorem run_upd_triggers_storm {v0 v1} (hf : 16793600 ||| f = f) (h : Run f K s0 x) :
    Run f K s0 { x with triggers := v0, storm := v1 } :=
  h.upd hf (fun p n => by cases p <;> first | rfl | cases n) rfl rfl rfl rfl rfl (List.prefix_refl _)
theorem run_upd_triggers_storm_iff {v0 v1} (hf : 16793600 ||| f = f) :
    Run f K s0 { x with triggers := v0, storm := v1 } ↔ Run f K s0 x :=
  ⟨fun h => h.upd hf (fun p n => by cases p <;> first | rfl | cases n) rfl rfl rfl rfl rfl (List.prefix_refl _), run_upd_triggers_storm hf⟩
theorem run_upd_triggers_upd {v0 v1} (hf : 4294983680 ||| f = f) (h : Run f K s0 x) :
    Run f K s0 { x with triggers := v0, upd := v1 } :=
  h.upd hf (fun p n => by cases p <;> first | rfl | cases n) rfl rfl rfl rfl rfl (List.prefix_refl _)
theorem run_upd_triggers_upd_iff {v0 v1} (hf : 4294983680 ||| f = f) :
    Run f K s0 { x with triggers := v0, upd := v1 } ↔ Run f K s0 x :=
  ⟨fun h => h.upd hf (fun p n => by cases p <;> first | rfl | cases n) rfl rfl rfl rfl rfl (List.prefix_refl _), run_upd_triggers_upd hf⟩
theorem run_upd_triggers_faults {v0 v1} (hf : 4398046527488 ||| f = f) (h : Run f K s0 x) :
    Run f K s0 { x with triggers := v0, faults := v1 } :=
  h.upd hf (fun p n => by cases p <;> first | rfl | cases n) rfl rfl rfl rfl rfl (List.prefix_refl _)
theorem run_upd_triggers_faults_iff {v0 v1} (hf : 4398046527488 ||| f = f) :
    Run f K s0 { x with triggers := v0, faults := v1 } ↔ Run f K s0 x :=
  ⟨fun h => h.upd hf (fun p n => by cases p <;> first | rfl | cases n) rfl rfl rfl rfl rfl (List.prefix_refl _), run_upd_triggers_faults hf⟩
theorem run_upd_arrays_cells {v0 v1} (hf : 786432 ||| f = f) (h : Run f K s0 x) :
    Run f K s0 { x with arrays := v0, cells := v1 } :=
  h.upd hf (fun p n => by cases p <;> first | rfl | cases n) rfl rfl rfl rfl rfl (List.prefix_refl _)
theorem run_upd_arrays_cells_iff {v0 v1} (hf : 786432 ||| f = f) :
    Run f K s0 { x with arrays := v0, cells := v1 } ↔ Run f K s0 x :=
  ⟨fun h => h.upd hf (fun p n => by cases p <;> first | rfl | cases n) rfl rfl rfl rfl rfl (List.prefix_refl _), run_upd_arrays_cells hf⟩
theorem run_upd_arrays_cal {v0 v1} (hf : 1310720 ||| f = f) (h : Run f K s0 x) :
    Run f K s0 { x with arrays := v0, cal := v1 } :=
  h.upd hf (fun p n => by cases p <;> first | rfl | cases n) rfl rfl rfl rfl rfl (List.prefix_refl _)
theorem run_upd_arrays_cal_iff {v0 v1} (hf : 1310720 ||| f = f) :
    Run f K s0 { x with arrays := v0, cal := v1 } ↔ Run f K s0 x :=
  ⟨fun h => h.upd hf (fun p n => by cases p <;> first | rfl | cases n) rfl rfl rfl rfl rfl (List.prefix_refl _), run_upd_arrays_cal hf⟩
theorem run_upd_cal_clk {v0 v1} (hf : 2199024304128 ||| f = f) (h : Run f K s0 x) :
    Run f K s0 { x with cal := v0, clk := v1 } :=
  h.upd hf (fun p n => by cases p <;> first | rfl | cases n) rfl rfl rfl rfl rfl (List.prefix_refl _)
theorem run_upd_cal_clk_iff {v0 v1} (hf : 2199024304128 ||| f = f) :
    Run f K s0 { x with cal := v0, clk := v1 } ↔ Run f K s0 x :=
  ⟨fun h => h.upd hf (fun p n => by cases p <;> first | rfl | cases n) rfl rfl rfl rfl rfl (List.prefix_refl _), run_upd_cal_clk hf⟩
theorem run_upd_jointParts_jointWaits {v0 v1} (hf : 201326592 ||| f = f) (h : Run f K s0 x) :
    Run f K s0 { x with jointParts := v0, jointWaits := v1 } :=
  h.upd hf (fun p n => by cases p <;> first | rfl | cases n) rfl rfl rfl rfl rfl (List.prefix_refl _)
theorem run_upd_jointParts_jointWaits_iff {v0 v1} (hf : 201326592 ||| f = f) :
    Run f K s0 { x with jointParts := v0, jointWaits := v1 } ↔ Run f K s0 x :=
  ⟨fun h => h.upd hf (fun p n => by cases p <;> first | rfl | cases n) rfl rfl rfl rfl rfl (List.prefix_refl _), run_upd_jointParts_jointWaits hf⟩
theorem run_upd_exch_faults {v0 v1} (hf : 4400193994752 ||| f = f) (h : Run f K s0 x) :
    Run f K s0 { x with exch := v0, faults := v1 } :=
  h.upd hf (fun p n => by cases p <;> first | rfl | cases n) rfl rfl rfl rfl rfl (List.prefix_refl _)
theorem run_upd_exch_faults_iff {v0 v1} (hf : 4400193994752 ||| f = f) :
    Run f K s0 { x with exch := v0, faults := v1 } ↔ Run f K s0 x :=
  ⟨fun h => h.upd hf (fun p n => by cases p <;> first | rfl | cases n) rfl rfl rfl rfl rfl (List.prefix_refl _), run_upd_exch_faults hf⟩
theorem run_upd_exch_fw {v0 v1} (hf : 17594333528064 ||| f = f) (h : Run f K s0 x) :
    Run f K s0 { x with exch := v0, fw := v1 } :=
  h.upd hf (fun p n => by cases p <;> first | rfl | cases n) rfl rfl rfl rfl rfl (List.prefix_refl _)
theorem run_upd_exch_fw_iff {v0 v1} (hf : 17594333528064 ||| f = f) :
    Run f K s0 { x with exch := v0, fw := v1 } ↔ Run f K s0 x :=
  ⟨fun h => h.upd hf (fun p n => by cases p <;> first | rfl | cases n) rfl rfl rfl rfl rfl (List.prefix_refl _), run_upd_exch_fw hf⟩
theorem run_upd_ep0_ep1 {v0 v1} (hf : 412316860416 ||| f = f) (h : Run f K s0 x) :
    Run f K s0 { x with ep0 := v0, ep1 := v1 } :=
  h.upd hf (fun p n => by cases p <;> first | rfl | cases n) rfl rfl rfl rfl rfl (List.prefix_refl _)
theorem run_upd_ep0_ep1_iff {v0 v1} (hf : 412316860416 ||| f = f) :
    Run f K s0 { x with ep0 := v0, ep1 := v1 } ↔ Run f K s0 x :=
  ⟨fun h => h.upd hf (fun p n => by cases p <;> first | rfl | cases n) rfl rfl rfl rfl rfl (List.prefix_refl _), run_upd_ep0_ep1 hf⟩
theorem run_upd_clk_fw {v0 v1} (hf : 19791209299968 ||| f = f) (h : Run f K s0 x) :
    Run f K s0 { x with clk := v0, fw := v1 } :=
  h.upd hf (fun p n => by cases p <;> first | rfl | cases n) rfl rfl rfl rfl rfl (List.prefix_refl _)
theorem run_upd_clk_fw_iff {v0 v1} (hf : 19791209299968 ||| f = f) :
    Run f K s0 { x with clk := v0, fw := v1 } ↔ Run f K s0 x :=
  ⟨fun h => h.upd hf (fun p n => by cases p <;> first | rfl | cases n) rfl rfl rfl rfl rfl (List.prefix_refl _), run_upd_clk_fw hf⟩
theorem run_upd_streams_jointParts_jointWaits {v0 v1 v2} (hf : 201327616 ||| f = f) (h : Run f K s0 x) :
    Run f K s0 { x with streams := v0, jointParts := v1, jointWaits := v2 } :=
  h.upd hf (fun p n => by cases p <;> first | rfl | cases n) rfl rfl rfl rfl rfl (List.prefix_refl _)
theorem run_upd_streams_jointParts_jointWaits_iff {v0 v1 v2} (hf : 201327616 ||| f = f) :
    Run f K s0 { x with streams := v0, jointParts := v1, jointWaits := v2 } ↔ Run f K s0 x :=
  ⟨fun h => h.upd hf (fun p n => by cases p <;> first | rfl | cases n) rfl rfl rfl rfl rfl (List.prefix_refl _), run_upd_streams_jointParts_jointWaits hf⟩
theorem run_upd_triggers_placeDue_step {v0 v1 v2} (hf : 1073790976 ||| f = f) (h : Run f K s0 x) :
    Run f K s0 { x with triggers := v0, placeDue := v1, step := v2 } :=
  h.upd hf (fun p n => by cases p <;> first | rfl | cases n) rfl rfl rfl rfl rfl (List.prefix_refl _)
theorem run_upd_triggers_placeDue_step_iff {v0 v1 v2} (hf : 1073790976 ||| f = f) :
    Run f K s0 { x with triggers := v0, placeDue := v1, step := v2 } ↔ Run f K s0 x :=
  ⟨fun h => h.upd hf (fun p n => by cases p <;> first | rfl | cases n) rfl rfl rfl rfl rfl (List.prefix_refl _), run_upd_triggers_placeDue_step hf⟩
theorem run_upd_arrays_layers_jointModes {v0 v1 v2} (hf : 35913728 ||| f = f) (h : Run f K s0 x) :
    Run f K s0 { x with arrays := v0, layers := v1, jointModes := v2 } :=
  h.upd hf (fun p n => by cases p <;> first | rfl | cases n) rfl rfl rfl rfl rfl (List.prefix_refl _)
theorem run_upd_arrays_layers_jointModes_iff {v0 v1 v2} (hf : 35913728 ||| f = f) :
    Run f K s0 { x with arrays := v0, layers := v1, jointModes := v2 } ↔ Run f K s0 x :=
  ⟨fun h => h.upd hf (fun p n => by cases p <;> first | rfl | cases n) rfl rfl rfl rfl rfl (List.prefix_refl _), run_upd_arrays_layers_jointModes hf⟩
theorem run_upd_arrays_storm_jointModes {v0 v1 v2} (hf : 50593792 ||| f = f) (h : Run f K s0 x) :
    Run f K s0 { x with arrays := v0, storm := v1, jointModes := v2 } :=
  h.upd hf (fun p n => by cases p <;> first | rfl | cases n) rfl rfl rfl rfl rfl (List.prefix_refl _)
theorem run_upd_arrays_storm_jointModes_iff {v0 v1 v2} (hf : 50593792 ||| f = f) :
    Run f K s0 { x with arrays := v0, storm := v1, jointModes := v2 } ↔ Run f K s0 x :=
  ⟨fun h => h.upd hf (fun p n => by cases p <;> first | rfl | cases n) rfl rfl rfl rfl rfl (List.prefix_refl _), run_upd_arrays_storm_jointModes hf⟩
theorem run_upd_streams_plan_jointModes_upd {v0 v1 v2 v3} (hf : 4328524800 ||| f = f) (h : Run f K s0 x) :
    Run f K s0 { x with streams := v0, plan := v1, jointModes := v2, upd := v3 } :=
  h.upd hf (fun p n => by cases p <;> first | rfl | cases n) rfl rfl rfl rfl rfl (List.prefix_refl _)
theorem run_upd_streams_plan_jointModes_upd_iff {v0 v1 v2 v3} (hf : 4328524800 ||| f = f) :
    Run f K s0 { x with streams := v0, plan := v1, jointModes := v2, upd := v3 } ↔ Run f K s0 x :=
  ⟨fun h => h.upd hf (fun p n => by cases p <;> first | rfl | cases n) rfl rfl rfl rfl rfl (List.prefix_refl _), run_upd_streams_plan_jointModes_upd hf⟩
theorem run_upd_resetN_pwrGood_slotId_bondSide_clk {v0 v1 v2 v3 v4} (hf : 2199023255606 ||| f = f) (h : Run f K s0 x) :
    Run f K s0 { x with resetN := v0, pwrGood := v1, slotId := v2, bondSide := v3, clk := v4 } :=
  h.upd hf (fun p n => by cases p <;> first | rfl | cases n) rfl rfl rfl rfl rfl (List.prefix_refl _)
theorem run_upd_resetN_pwrGood_slotId_bondSide_clk_iff {v0 v1 v2 v3 v4} (hf : 2199023255606 ||| f = f) :
    Run f K s0 { x with resetN := v0, pwrGood := v1, slotId := v2, bondSide := v3, clk := v4 } ↔ Run f K s0 x :=
  ⟨fun h => h.upd hf (fun p n => by cases p <;> first | rfl | cases n) rfl rfl rfl rfl rfl (List.prefix_refl _), run_upd_resetN_pwrGood_slotId_bondSide_clk hf⟩
theorem run_upd_arrays_cells_link_dict_clk {v0 v1 v2 v3 v4} (hf : 2817499332608 ||| f = f) (h : Run f K s0 x) :
    Run f K s0 { x with arrays := v0, cells := v1, link := v2, dict := v3, clk := v4 } :=
  h.upd hf (fun p n => by cases p <;> first | rfl | cases n) rfl rfl rfl rfl rfl (List.prefix_refl _)
theorem run_upd_arrays_cells_link_dict_clk_iff {v0 v1 v2 v3 v4} (hf : 2817499332608 ||| f = f) :
    Run f K s0 { x with arrays := v0, cells := v1, link := v2, dict := v3, clk := v4 } ↔ Run f K s0 x :=
  ⟨fun h => h.upd hf (fun p n => by cases p <;> first | rfl | cases n) rfl rfl rfl rfl rfl (List.prefix_refl _), run_upd_arrays_cells_link_dict_clk hf⟩
theorem run_upd_arrays_jointParts_jointWaits_backward_exch {v0 v1 v2 v3 v4} (hf : 2617507840 ||| f = f) (h : Run f K s0 x) :
    Run f K s0 { x with arrays := v0, jointParts := v1, jointWaits := v2, backward := v3, exch := v4 } :=
  h.upd hf (fun p n => by cases p <;> first | rfl | cases n) rfl rfl rfl rfl rfl (List.prefix_refl _)
theorem run_upd_arrays_jointParts_jointWaits_backward_exch_iff {v0 v1 v2 v3 v4} (hf : 2617507840 ||| f = f) :
    Run f K s0 { x with arrays := v0, jointParts := v1, jointWaits := v2, backward := v3, exch := v4 } ↔ Run f K s0 x :=
  ⟨fun h => h.upd hf (fun p n => by cases p <;> first | rfl | cases n) rfl rfl rfl rfl rfl (List.prefix_refl _), run_upd_arrays_jointParts_jointWaits_backward_exch hf⟩
theorem run_upd_arrays_layers_storm_jointModes_jointParts_jointWaits_backward_exch {v0 v1 v2 v3 v4 v5 v6 v7} (hf : 2669936640 ||| f = f) (h : Run f K s0 x) :
    Run f K s0 { x with arrays := v0, layers := v1, storm := v2, jointModes := v3, jointParts := v4, jointWaits := v5, backward := v6, exch := v7 } :=
  h.upd hf (fun p n => by cases p <;> first | rfl | cases n) rfl rfl rfl rfl rfl (List.prefix_refl _)
theorem run_upd_arrays_layers_storm_jointModes_jointParts_jointWaits_backward_exch_iff {v0 v1 v2 v3 v4 v5 v6 v7} (hf : 2669936640 ||| f = f) :
    Run f K s0 { x with arrays := v0, layers := v1, storm := v2, jointModes := v3, jointParts := v4, jointWaits := v5, backward := v6, exch := v7 } ↔ Run f K s0 x :=
  ⟨fun h => h.upd hf (fun p n => by cases p <;> first | rfl | cases n) rfl rfl rfl rfl rfl (List.prefix_refl _), run_upd_arrays_layers_storm_jointModes_jointParts_jointWaits_backward_exch hf⟩
theorem run_upd_streams_plan_place_triggers_placeDue_placing_placeWait_arrays_layers_jointModes_jointParts_jointWaits_backward_frogMost_exch_upd {v0 v1 v2 v3 v4 v5 v6 v7 v8 v9 v10 v11 v12 v13 v14 v15} (hf : 7485254656 ||| f = f) (h : Run f K s0 x) :
    Run f K s0 { x with streams := v0, plan := v1, place := v2, triggers := v3, placeDue := v4, placing := v5, placeWait := v6, arrays := v7, layers := v8, jointModes := v9, jointParts := v10, jointWaits := v11, backward := v12, frogMost := v13, exch := v14, upd := v15 } :=
  h.upd hf (fun p n => by cases p <;> first | rfl | cases n) rfl rfl rfl rfl rfl (List.prefix_refl _)
theorem run_upd_streams_plan_place_triggers_placeDue_placing_placeWait_arrays_layers_jointModes_jointParts_jointWaits_backward_frogMost_exch_upd_iff {v0 v1 v2 v3 v4 v5 v6 v7 v8 v9 v10 v11 v12 v13 v14 v15} (hf : 7485254656 ||| f = f) :
    Run f K s0 { x with streams := v0, plan := v1, place := v2, triggers := v3, placeDue := v4, placing := v5, placeWait := v6, arrays := v7, layers := v8, jointModes := v9, jointParts := v10, jointWaits := v11, backward := v12, frogMost := v13, exch := v14, upd := v15 } ↔ Run f K s0 x :=
  ⟨fun h => h.upd hf (fun p n => by cases p <;> first | rfl | cases n) rfl rfl rfl rfl rfl (List.prefix_refl _), run_upd_streams_plan_place_triggers_placeDue_placing_placeWait_arrays_layers_jointModes_jointParts_jointWaits_backward_frogMost_exch_upd hf⟩
theorem run_upd_mem_clk {p v} (hf : 2207613190144 ||| f = f) (h : Run f K s0 x) : Run f K s0 { x with mem := x.mem.filter p, clk := v } :=
  ⟨fun p n => State.same_trans (h.part p n) (by
     have := testBit_sub hf n
     cases p <;> first | rfl | cases this), fun w => kvWf_filter _ _ _ (h.mem w), h.dict, h.entry, h.pins, h.outs⟩
theorem run_upd_mem_fw {p v} (hf : 17600775979008 ||| f = f) (h : Run f K s0 x) : Run f K s0 { x with mem := x.mem.filter p, fw := v } :=
  ⟨fun p n => State.same_trans (h.part p n) (by
     have := testBit_sub hf n
     cases p <;> first | rfl | cases this), fun w => kvWf_filter _ _ _ (h.mem w), h.dict, h.entry, h.pins, h.outs⟩

end

/-! ## Dictionary -/

theorem pdSet_run {f : Nat} {K : List Nat} {s0 s : State} {k : Nat} {v : PdVal} (hk : ∀ x, x ∈ [k] → x ∈ K) (h : Run f K s0 s) :
    Run f K s0 (s.pdSet k v) :=
  ⟨fun p n => State.same_trans (h.part p n) (by cases p <;> rfl), h.mem, fun w => kvWf_set _ _ _ _ (h.dict w),
   fun w n i hi => by
     have ne : i ≠ k := fun e => hi (hk i (by simp [e]))
     exact (kvGet_set_ne pdDefault k i v ne s.pd).trans (h.entry w n i hi), h.pins, h.outs⟩

/-- A write of an entry that is not known beforehand. -/
theorem pdSet_run_any {f : Nat} {K : List Nat} {s0 s : State} {k : Nat} {v : PdVal} (hf : 2 ^ 63 ||| f = f) (h : Run f K s0 s) :
    Run f K s0 (s.pdSet k v) :=
  ⟨fun p n => State.same_trans (h.part p n) (by cases p <;> rfl), h.mem, fun w => kvWf_set _ _ _ _ (h.dict w),
   fun _ n => absurd (testBit_sub hf n) (by decide), h.pins, h.outs⟩

theorem setNum_run {f : Nat} {K : List Nat} {s0 s : State} {k n : Nat} (hk : ∀ x, x ∈ [k] → x ∈ K) (h : Run f K s0 s) :
    Run f K s0 (s.setNum k n) := pdSet_run hk h

theorem setRows_run {f : Nat} {K : List Nat} {s0 s : State} {k : Nat} {r : List (List Nat)} (hk : ∀ x, x ∈ [k] → x ∈ K) (h : Run f K s0 s) :
    Run f K s0 (s.setRows k r) := pdSet_run hk h

theorem setBytes_run {f : Nat} {K : List Nat} {s0 s : State} {k : Nat} {b : List Byte} (hk : ∀ x, x ∈ [k] → x ∈ K) (h : Run f K s0 s) :
    Run f K s0 (s.setBytes k b) := pdSet_run hk h

theorem bumpBy_run {f : Nat} {K : List Nat} {s0 s : State} {k n : Nat} (hk : ∀ x, x ∈ [k] → x ∈ K) (h : Run f K s0 s) :
    Run f K s0 (s.bumpBy k n) := pdSet_run hk h

theorem bump_run {f : Nat} {K : List Nat} {s0 s : State} {k : Nat} (hk : ∀ x, x ∈ [k] → x ∈ K) (h : Run f K s0 s) :
    Run f K s0 (s.bump k) := pdSet_run hk h

/-! ## Memory -/

theorem mem_run {f : Nat} {K : List Nat} {s0 s : State} {m : List Host.Cell} (hf : 8589934592 ||| f = f) (hm : s.memOk = true → Memory.wf m = true)
    (h : Run f K s0 s) : Run f K s0 { s with mem := m } :=
  ⟨fun p n => State.same_trans (h.part p n) (by
     have := testBit_sub hf n
     cases p <;> first | rfl | cases this), fun w => hm (h.mem w), h.dict, h.entry, h.pins, h.outs⟩

theorem write_run {f : Nat} {K : List Nat} {s0 s : State} {st a : Nat} {b : List Byte} (hf : 8589934592 ||| f = f) (h : Run f K s0 s) :
    Run f K s0 (s.write st a b) := mem_run hf (kvWf_setList _ _ _ _) h

theorem clearStore_run {f : Nat} {K : List Nat} {s0 s : State} {st : Nat} (hf : 8589934592 ||| f = f) (h : Run f K s0 s) :
    Run f K s0 (s.clearStore st) := mem_run hf (kvWf_filter _ _ _) h

/-- Entries of the memory go back to what they read as before any write. -/
theorem memFilter_run {f : Nat} {K : List Nat} {s0 s : State} {p : Host.Cell → Bool} (hf : 8589934592 ||| f = f) (h : Run f K s0 s) :
    Run f K s0 { s with mem := s.mem.filter p } := mem_run hf (kvWf_filter _ _ _) h

/-! ## Sequences, choices and outcomes -/

theorem each_run {α : Type} {f : Nat} {K : List Nat} {s0 : State} {g : State → α → State} (hg : ∀ t x, Run f K s0 t → Run f K s0 (g t x)) :
    ∀ {l : List α} {s : State}, Run f K s0 s → Run f K s0 (s.each l g)
  | [], _, h => h
  | x :: l, s, h => each_run hg (l := l) (hg s x h)

theorem foldl_run {α : Type} {f : Nat} {K : List Nat} {s0 : State} {g : State → α → State} (hg : ∀ t x, Run f K s0 t → Run f K s0 (g t x))
    {l : List α} {s : State} (h : Run f K s0 s) : Run f K s0 (l.foldl g s) := each_run hg h

theorem ite_run {f : Nat} {K : List Nat} {s0 : State} {c : Prop} [Decidable c] {a b : State} (ha : Run f K s0 a) (hb : Run f K s0 b) :
    Run f K s0 (if c then a else b) := by
  split <;> assumption

/-- A fold whose accumulator holds the state under a projection. -/
theorem foldl_proj_run {α β : Type} (π : β → State) {f : Nat} {K : List Nat} {s0 : State} {g : β → α → β}
    (hg : ∀ t x, Run f K s0 (π t) → Run f K s0 (π (g t x))) : ∀ {l : List α} {b : β}, Run f K s0 (π b) → Run f K s0 (π (l.foldl g b))
  | [], _, h => h
  | x :: l, b, h => foldl_proj_run π hg (l := l) (hg b x h)

/-- The state that an outcome carries, if it carries one, is within the relation. -/
def RunRes (f : Nat) (K : List Nat) (s : State) (r : Res) : Prop := ∀ t, r = .next t → Run f K s t

theorem RunRes.next {f : Nat} {K : List Nat} {s t : State} (h : Run f K s t) : RunRes f K s (.next t) :=
  fun _ e => by cases e; exact h

theorem RunRes.ite {f : Nat} {K : List Nat} {s : State} {c : Prop} [Decidable c] {a b : Res} (ha : RunRes f K s a) (hb : RunRes f K s b) :
    RunRes f K s (if c then a else b) := by
  split <;> assumption

theorem RunRes.fault {f : Nat} {K : List Nat} {s : State} {e : Fault} : RunRes f K s (.fault e) := fun _ h => by cases h

theorem run_of_snd {α : Type} {f : Nat} {K : List Nat} {s0 s : State} {a : α} {p : α × State} (e : p = (a, s)) (h : Run f K s0 p.2) :
    Run f K s0 s := by subst e; exact h

theorem run_of_fst {α : Type} {f : Nat} {K : List Nat} {s0 s : State} {a : α} {p : State × α} (e : p = (s, a)) (h : Run f K s0 p.1) :
    Run f K s0 s := by subst e; exact h

theorem run_of_snd2 {α β : Type} {f : Nat} {K : List Nat} {s0 s : State} {a : α} {b : β} {p : α × β × State} (e : p = (a, b, s))
    (h : Run f K s0 p.2.2) : Run f K s0 s := by subst e; exact h

/-- The same for a result that may be absent. -/
def RunOpt {α : Type} (π : α → State) (f : Nat) (K : List Nat) (s : State) (r : Option α) : Prop := ∀ x, r = some x → Run f K s (π x)

theorem RunOpt.none {α : Type} {π : α → State} {f : Nat} {K : List Nat} {s : State} : RunOpt π f K s none := fun _ h => by cases h

theorem RunOpt.some {α : Type} {π : α → State} {f : Nat} {K : List Nat} {s : State} {x : α} (h : Run f K s (π x)) : RunOpt π f K s (some x) :=
  fun _ e => by cases e; exact h

theorem RunOpt.map {α β : Type} {π : β → State} {f : Nat} {K : List Nat} {s : State} {g : α → β} {o : Option α}
    (h : RunOpt (fun x => π (g x)) f K s o) : RunOpt π f K s (o.map g) := by
  intro x e
  cases o with
  | none => cases e
  | some y => cases e; exact h y rfl

theorem RunOpt.ite {α : Type} {π : α → State} {f : Nat} {K : List Nat} {s : State} {c : Prop} [Decidable c] {a b : Option α}
    (ha : RunOpt π f K s a) (hb : RunOpt π f K s b) : RunOpt π f K s (if c then a else b) := by
  split <;> assumption

theorem run_of_some {f : Nat} {K : List Nat} {s0 s : State} {o : Option State} (e : o = some s) (h : RunOpt (fun x => x) f K s0 o) :
    Run f K s0 s := h s e

theorem run_of_some_snd {α : Type} {f : Nat} {K : List Nat} {s0 s : State} {a : α} {o : Option (α × State)} (e : o = some (a, s))
    (h : RunOpt Prod.snd f K s0 o) : Run f K s0 s := h _ e

theorem run_of_next {f : Nat} {K : List Nat} {s0 s : State} {r : Res} (e : r = .next s) (h : RunRes f K s0 r) : Run f K s0 s := h s e

theorem getD_run {f : Nat} {K : List Nat} {s0 s : State} {o : Option State} (h : RunOpt (fun x => x) f K s0 o) (k : Run f K s0 s) :
    Run f K s0 (o.getD s) := by
  cases o with
  | none => exact k
  | some x => exact h x rfl

theorem arr_run {f : Nat} {K : List Nat} {s0 s : State} {g k n : Nat} (hk : ∀ x, x ∈ [k] → x ∈ K) (hd : ∀ x, x ∈ [PD.ARR_DIE_STATS] → x ∈ K)
    (h : Run f K s0 s) : Run f K s0 (s.arr g k n) := setRows_run hd (bumpBy_run hk h)

/-- The pins follow the table of states. -/
theorem pins_run {f : Nat} {K : List Nat} {s0 s : State} {m : Mode} (hf : 193 ||| f = f) (h : Run f K s0 s) :
    Run f K s0 { s with mode := m, ready := m.readyPin s.ready, faultN := m.faultPin s.faultN } :=
  ⟨fun p n => State.same_trans (h.part p n) (by
     have := testBit_sub hf n
     cases p <;> first | rfl | cases this), h.mem, h.dict, h.entry, fun _ => by
       unfold State.pinsOk
       cases m <;> simp [Mode.readyPin, Mode.faultPin, Mode.working], h.outs⟩

end Sys2Proof.Machine
end

