-- ==== Sys2Proof/Laws/RunShared.lean ====
section
/-! SUPPORT. Laws/RunShared.lean: what the operations and the commands may change, and that they keep the canonical forms and the pins
(Laws/Run.lean): the shared operations of Ops, the links, the oscillator, the open step, beds and operand forms. -/
namespace Sys2Proof.Machine

set_option linter.unusedVariables false

theorem reason_run {f K s0} (hf : 0 ||| f = f)
    (hK : ∀ x, x ∈ ([0x600004] : List Nat) → x ∈ K) {s x1}
    (h : Run f K s0 s) : Run f K s0 (State.reason s x1) := by
  have j0 := sbk (a := [PD.STEP_REASONS]) hK rfl
  unfold State.reason
  repeat' first
    | with_reducible assumption
    | with_reducible apply setNum_run j0
    | with_reducible apply ite_run
    | split
    | dsimp only
    | intro _ _

theorem dropEvents_run {f K s0} (hf : 512 ||| f = f)
    (hK : ∀ x, x ∈ ([] : List Nat) → x ∈ K) {s x1}
    (h : Run f K s0 s) : Run f K s0 (State.dropEvents s x1) := by
  have u0 := orr (a := 512) hf rfl
  unfold State.dropEvents
  repeat' first
    | with_reducible assumption
    | split
    | with_reducible apply run_upd_events u0
    | dsimp only
    | intro _ _

theorem endAttempt_run {f K s0} (hf : 1073742336 ||| f = f)
    (hK : ∀ x, x ∈ ([0x600003, 0x600004] : List Nat) → x ∈ K) {s}
    (h : Run f K s0 s) : Run f K s0 (State.endAttempt s) := by
  have r1 := @dropEvents_run f K s0 (orr hf rfl) (sbk hK rfl)
  have j0 := sbk (a := [PD.STEP_OPEN]) hK rfl
  have j1 := sbk (a := [PD.STEP_REASONS]) hK rfl
  have u0 := orr (a := 1073741824) hf rfl
  unfold State.endAttempt
  repeat' first
    | with_reducible assumption
    | with_reducible apply setNum_run j0
    | with_reducible apply setNum_run j1
    | with_reducible apply r1
    | split
    | with_reducible apply run_upd_step u0
    | dsimp only
    | intro _ _

theorem ringPush_run {f K s0} (hf : 4398046511104 ||| f = f)
    (hK : ∀ x, x ∈ ([0xA10001, 0xA10006] : List Nat) → x ∈ K) {s x1}
    (h : Run f K s0 s) : Run f K s0 (State.ringPush s x1) := by
  have j0 := sbk (a := [PD.SPALL_NEWEST]) hK rfl
  have j1 := sbk (a := [PD.SPALL_LOST]) hK rfl
  have u0 := orr (a := 4398046511104) hf rfl
  unfold State.ringPush
  repeat' first
    | with_reducible assumption
    | with_reducible apply bump_run j1
    | with_reducible apply setNum_run j0
    | with_reducible apply ite_run
    | with_reducible apply RunOpt.map
    | with_reducible apply getD_run
    | split
    | with_reducible apply run_upd_faults u0
    | dsimp only
    | intro _ _

theorem setEp_run {f K s0} (hf : 412316860416 ||| f = f)
    (hK : ∀ x, x ∈ ([] : List Nat) → x ∈ K) {s x1 x2}
    (h : Run f K s0 s) : Run f K s0 (State.setEp s x1 x2) := by
  have u0 := orr (a := 137438953472) hf rfl
  have u1 := orr (a := 274877906944) hf rfl
  unfold State.setEp
  repeat' first
    | with_reducible assumption
    | with_reducible apply ite_run
    | split
    | with_reducible apply run_upd_ep0 u0
    | with_reducible apply run_upd_ep1 u1
    | dsimp only
    | intro _ _

theorem emit_run {f K s0} (hf : 35184372088832 ||| f = f)
    (hK : ∀ x, x ∈ ([] : List Nat) → x ∈ K) {s x1}
    (h : Run f K s0 s) : Run f K s0 (State.emit s x1) := by
  have u0 := orr (a := 35184372088832) hf rfl
  unfold State.emit
  repeat' first
    | with_reducible assumption
    | split
    | with_reducible apply run_upd_outs u0
    | dsimp only
    | intro _ _

theorem sendVector_run {f K s0} (hf : 35596688949248 ||| f = f)
    (hK : ∀ x, x ∈ ([] : List Nat) → x ∈ K) {s x1 x2}
    (h : Run f K s0 s) : Run f K s0 (State.sendVector s x1 x2) := by
  have r1 := @setEp_run f K s0 (orr hf rfl) (sbk hK rfl)
  have r2 := @emit_run f K s0 (orr hf rfl) (sbk hK rfl)
  unfold State.sendVector
  repeat' first
    | with_reducible assumption
    | with_reducible apply r1
    | with_reducible apply r2
    | with_reducible apply ite_run
    | split
    | dsimp only
    | intro _ _

theorem causeAt_run {f K s0} (hf : 35596688949248 ||| f = f)
    (hK : ∀ x, x ∈ ([] : List Nat) → x ∈ K) {s x1 x2}
    (h : Run f K s0 s) : Run f K s0 (State.causeAt s x1 x2) := by
  have r1 := @sendVector_run f K s0 (orr hf rfl) (sbk hK rfl)
  have r2 := @setEp_run f K s0 (orr hf rfl) (sbk hK rfl)
  unfold State.causeAt
  repeat' first
    | with_reducible assumption
    | with_reducible apply r1
    | with_reducible apply r2
    | with_reducible apply ite_run
    | split
    | dsimp only
    | intro _ _

theorem cause_run {f K s0} (hf : 35596688949248 ||| f = f)
    (hK : ∀ x, x ∈ ([] : List Nat) → x ∈ K) {s x1}
    (h : Run f K s0 s) : Run f K s0 (State.cause s x1) := by
  have r1 := @causeAt_run f K s0 (orr hf rfl) (sbk hK rfl)
  unfold State.cause
  repeat' first
    | with_reducible assumption
    | with_reducible apply r1
    | split
    | dsimp only
    | intro _ _

theorem spall_run {f K s0} (hf : 39994735460352 ||| f = f)
    (hK : ∀ x, x ∈ ([0xA10001, 0xA10006] : List Nat) → x ∈ K) {s x1}
    (h : Run f K s0 s) : Run f K s0 (State.spall s x1) := by
  have r1 := @ringPush_run f K s0 (orr hf rfl) (sbk hK rfl)
  have r2 := @cause_run f K s0 (orr hf rfl) (sbk hK rfl)
  unfold State.spall
  repeat' first
    | with_reducible assumption
    | with_reducible apply r1
    | with_reducible apply r2
    | split
    | dsimp only
    | intro _ _

theorem discard_run {f K s0} (hf : 2669936640 ||| f = f)
    (hK : ∀ x, x ∈ ([] : List Nat) → x ∈ K) {s}
    (h : Run f K s0 s) : Run f K s0 (State.discard s) := by
  have u0 := orr (a := 2669936640) hf rfl
  unfold State.discard
  repeat' first
    | with_reducible assumption
    | split
    | with_reducible apply run_upd_arrays_layers_storm_jointModes_jointParts_jointWaits_backward_exch u0
    | dsimp only
    | intro _ _

theorem resetStreams_run {f K s0} (hf : 1024 ||| f = f)
    (hK : ∀ x, x ∈ ([] : List Nat) → x ∈ K) {s}
    (h : Run f K s0 s) : Run f K s0 (State.resetStreams s) := by
  have u0 := orr (a := 1024) hf rfl
  unfold State.resetStreams
  repeat' first
    | with_reducible assumption
    | with_reducible apply ite_run
    | split
    | with_reducible apply run_upd_streams u0
    | dsimp only
    | intro _ _

theorem endPhase_run {f K s0} (hf : 1073741824 ||| f = f)
    (hK : ∀ x, x ∈ ([] : List Nat) → x ∈ K) {s x1}
    (h : Run f K s0 s) : Run f K s0 (State.endPhase s x1) := by
  have u0 := orr (a := 1073741824) hf rfl
  unfold State.endPhase
  repeat' first
    | with_reducible assumption
    | with_reducible apply ite_run
    | split
    | with_reducible apply run_upd_step u0
    | dsimp only
    | intro _ _

theorem stopArrays_run {f K s0} (hf : 786432 ||| f = f)
    (hK : ∀ x, x ∈ ([] : List Nat) → x ∈ K) {s}
    (h : Run f K s0 s) : Run f K s0 (State.stopArrays s) := by
  have u0 := orr (a := 786432) hf rfl
  unfold State.stopArrays
  repeat' first
    | with_reducible assumption
    | split
    | with_reducible apply run_upd_arrays_cells u0
    | dsimp only
    | intro _ _

theorem voidStep_run {f K s0} (hf : 35600433202688 ||| f = f)
    (hK : ∀ x, x ∈ ([0x600002, 0x600003, 0x600004, 0x600007] : List Nat) → x ∈ K) {s x1 x2 x3 x4 x5}
    (h : Run f K s0 s) : Run f K s0 (State.voidStep s x1 x2 x3 x4 x5) := by
  have r1 := @endAttempt_run f K s0 (orr hf rfl) (sbk hK rfl)
  have r2 := @discard_run f K s0 (orr hf rfl) (sbk hK rfl)
  have r3 := @cause_run f K s0 (orr hf rfl) (sbk hK rfl)
  have r4 := @resetStreams_run f K s0 (orr hf rfl) (sbk hK rfl)
  have r5 := @endPhase_run f K s0 (orr hf rfl) (sbk hK rfl)
  have r6 := @stopArrays_run f K s0 (orr hf rfl) (sbk hK rfl)
  have j0 := sbk (a := [PD.STEP_ATTEMPT]) hK rfl
  have j1 := sbk (a := [PD.STEP_LAST_DECISION]) hK rfl
  have u0 := orr (a := 1073741824) hf rfl
  have u1 := orr (a := 1073790976) hf rfl
  unfold State.voidStep
  repeat' first
    | with_reducible assumption
    | with_reducible apply setNum_run j0
    | with_reducible apply setNum_run j1
    | with_reducible apply r1
    | with_reducible apply r2
    | with_reducible apply r3
    | with_reducible apply r4
    | with_reducible apply r5
    | with_reducible apply r6
    | split
    | with_reducible apply run_upd_step u0
    | with_reducible apply run_upd_triggers_placeDue_step u1
    | dsimp only
    | intro _ _

theorem setPort_run {f K s0} (hf : 68719476736 ||| f = f)
    (hK : ∀ x, x ∈ ([] : List Nat) → x ∈ K) {s x1 x2}
    (h : Run f K s0 s) : Run f K s0 (State.setPort s x1 x2) := by
  have u0 := orr (a := 68719476736) hf rfl
  unfold State.setPort
  repeat' first
    | with_reducible assumption
    | split
    | with_reducible apply run_upd_link u0
    | dsimp only
    | intro _ _

theorem sendFlit_run {f K s0} (hf : 35253091565568 ||| f = f)
    (hK : ∀ x, x ∈ ([] : List Nat) → x ∈ K) {s x1 x2 x3}
    (h : Run f K s0 s) : Run f K s0 (State.sendFlit s x1 x2 x3) := by
  have r1 := @setPort_run f K s0 (orr hf rfl) (sbk hK rfl)
  have r2 := @emit_run f K s0 (orr hf rfl) (sbk hK rfl)
  unfold State.sendFlit
  repeat' first
    | with_reducible assumption
    | with_reducible apply r1
    | with_reducible apply r2
    | with_reducible apply ite_run
    | with_reducible apply getD_run
    | split
    | dsimp only
    | intro _ _

theorem takeTag_run {f K s0} (hf : 68719476736 ||| f = f)
    (hK : ∀ x, x ∈ ([] : List Nat) → x ∈ K) {s x1}
    (h : Run f K s0 s) : Run f K s0 (State.takeTag s x1).2 := by
  have u0 := orr (a := 68719476736) hf rfl
  unfold State.takeTag
  repeat' first
    | with_reducible assumption
    | with_reducible apply getD_run
    | split
    | with_reducible apply run_upd_link u0
    | dsimp only
    | intro _ _

theorem sendOn_run {f K s0} (hf : 35253091565568 ||| f = f)
    (hK : ∀ x, x ∈ ([] : List Nat) → x ∈ K) {s x1 x2 x3 x4}
    (h : Run f K s0 s) : Run f K s0 (State.sendOn s x1 x2 x3 x4) := by
  have r1 := @sendFlit_run f K s0 (orr hf rfl) (sbk hK rfl)
  have r2 := @takeTag_run f K s0 (orr hf rfl) (sbk hK rfl)
  unfold State.sendOn
  repeat' first
    | with_reducible assumption
    | with_reducible apply r1
    | (with_reducible apply each_run; intro _ _ _)
    | with_reducible apply run_of_snd (by with_reducible assumption)
    | with_reducible apply r2
    | split
    | dsimp only
    | intro _ _

theorem sendVote_run {f K s0} (hf : 35253091565568 ||| f = f)
    (hK : ∀ x, x ∈ ([] : List Nat) → x ∈ K) {s x1 x2}
    (h : Run f K s0 s) : Run f K s0 (State.sendVote s x1 x2) := by
  have r1 := @sendOn_run f K s0 (orr hf rfl) (sbk hK rfl)
  unfold State.sendVote
  repeat' first
    | with_reducible assumption
    | with_reducible apply r1
    | split
    | dsimp only
    | intro _ _

theorem sendVerdict_run {f K s0} (hf : 35254165307392 ||| f = f)
    (hK : ∀ x, x ∈ ([] : List Nat) → x ∈ K) {s x1}
    (h : Run f K s0 s) : Run f K s0 (State.sendVerdict s x1) := by
  have r1 := @sendVote_run f K s0 (orr hf rfl) (sbk hK rfl)
  have u0 := orr (a := 1073741824) hf rfl
  unfold State.sendVerdict
  repeat' first
    | with_reducible assumption
    | with_reducible apply r1
    | split
    | with_reducible apply run_upd_step u0
    | dsimp only
    | intro _ _

theorem voidLocally_run {f K s0} (hf : 35669152679424 ||| f = f)
    (hK : ∀ x, x ∈ ([0x600002, 0x600003, 0x600004, 0x600007, 0x600203] : List Nat) → x ∈ K) {s}
    (h : Run f K s0 s) : Run f K s0 (State.voidLocally s) := by
  have r1 := @voidStep_run f K s0 (orr hf rfl) (sbk hK rfl)
  have r2 := @sendVerdict_run f K s0 (orr hf rfl) (sbk hK rfl)
  have j0 := sbk (a := [PD.VOID_LOCAL]) hK rfl
  have u0 := orr (a := 1073741824) hf rfl
  unfold State.voidLocally
  repeat' first
    | with_reducible assumption
    | with_reducible apply bump_run j0
    | with_reducible apply r1
    | with_reducible apply r2
    | with_reducible apply ite_run
    | split
    | with_reducible apply run_upd_step u0
    | dsimp only
    | intro _ _

theorem abandon_run {f K s0} (hf : 40067199190528 ||| f = f)
    (hK : ∀ x, x ∈ ([0x600002, 0x600003, 0x600004, 0x600007, 0x600203, 0xA10001, 0xA10006] : List Nat) → x ∈ K) {s x1 x2}
    (h : Run f K s0 s) : Run f K s0 (State.abandon s x1 x2) := by
  have r1 := @reason_run f K s0 (orr hf rfl) (sbk hK rfl)
  have r2 := @endAttempt_run f K s0 (orr hf rfl) (sbk hK rfl)
  have r3 := @spall_run f K s0 (orr hf rfl) (sbk hK rfl)
  have r4 := @voidLocally_run f K s0 (orr hf rfl) (sbk hK rfl)
  unfold State.abandon
  repeat' first
    | with_reducible assumption
    | with_reducible apply r1
    | with_reducible apply r2
    | with_reducible apply r3
    | with_reducible apply r4
    | with_reducible apply ite_run
    | split
    | dsimp only
    | intro _ _

theorem setStream_run {f K s0} (hf : 1024 ||| f = f)
    (hK : ∀ x, x ∈ ([] : List Nat) → x ∈ K) {s x1 x2}
    (h : Run f K s0 s) : Run f K s0 (State.setStream s x1 x2) := by
  have u0 := orr (a := 1024) hf rfl
  unfold State.setStream
  repeat' first
    | with_reducible assumption
    | split
    | with_reducible apply run_upd_streams u0
    | dsimp only
    | intro _ _

theorem countBeds_run {f K s0} (hf : 0 ||| f = f)
    (hK : ∀ x, x ∈ ([0x507002, 0x508201, 0x508202, 0x508203, 0x508204, 0x600004] : List Nat) → x ∈ K) {s x1}
    (h : Run f K s0 s) : Run f K s0 (State.countBeds s x1) := by
  have r1 := @reason_run f K s0 (orr hf rfl) (sbk hK rfl)
  have j0 := sbk (a := [PD.Q_NONFINITE]) hK rfl
  have j1 := sbk (a := [PD.BED_PROMOTIONS]) hK rfl
  have j2 := sbk (a := [PD.BED_SOLO_PROMOTIONS]) hK rfl
  have j3 := sbk (a := [PD.BED_INEXACT]) hK rfl
  have j4 := sbk (a := [PD.BED_OVERFLOW]) hK rfl
  unfold State.countBeds
  repeat' first
    | with_reducible assumption
    | with_reducible apply bumpBy_run j0
    | with_reducible apply bumpBy_run j1
    | with_reducible apply bumpBy_run j2
    | with_reducible apply bumpBy_run j3
    | with_reducible apply bumpBy_run j4
    | with_reducible apply r1
    | with_reducible apply ite_run
    | split
    | dsimp only
    | intro _ _

theorem present_run {f K s0} (hf : 512 ||| f = f)
    (hK : ∀ x, x ∈ ([0x202003] : List Nat) → x ∈ K) {s x1}
    (h : Run f K s0 s) : Run f K s0 (State.present s x1).2 := by
  have j0 := sbk (a := [PD.EVENT_REJECTED]) hK rfl
  have u0 := orr (a := 512) hf rfl
  unfold State.present
  repeat' first
    | with_reducible assumption
    | with_reducible apply bump_run j0
    | split
    | with_reducible apply run_upd_events u0
    | dsimp only
    | intro _ _

theorem queueMeasure_run {f K s0} (hf : 512 ||| f = f)
    (hK : ∀ x, x ∈ ([0x202003] : List Nat) → x ∈ K) {s x1}
    (h : Run f K s0 s) : Run f K s0 (State.queueMeasure s x1) := by
  have r1 := @present_run f K s0 (orr hf rfl) (sbk hK rfl)
  unfold State.queueMeasure
  repeat' first
    | with_reducible assumption
    | with_reducible apply ite_run
    | with_reducible apply run_of_snd (by with_reducible assumption)
    | with_reducible apply r1
    | split
    | dsimp only
    | intro _ _

theorem queueMeasures_run {f K s0} (hf : 512 ||| f = f)
    (hK : ∀ x, x ∈ ([0x202003] : List Nat) → x ∈ K) {s}
    (h : Run f K s0 s) : Run f K s0 (State.queueMeasures s) := by
  have r1 := @queueMeasure_run f K s0 (orr hf rfl) (sbk hK rfl)
  unfold State.queueMeasures
  repeat' first
    | with_reducible assumption
    | with_reducible apply r1
    | (with_reducible apply each_run; intro _ _ _)
    | split
    | dsimp only
    | intro _ _

theorem setCourse_run {f K s0} (hf : 35596688950016 ||| f = f)
    (hK : ∀ x, x ∈ ([0x202003] : List Nat) → x ∈ K) {s x1}
    (h : Run f K s0 s) : Run f K s0 (State.setCourse s x1) := by
  have r1 := @cause_run f K s0 (orr hf rfl) (sbk hK rfl)
  have r2 := @queueMeasures_run f K s0 (orr hf rfl) (sbk hK rfl)
  have u0 := orr (a := 256) hf rfl
  unfold State.setCourse
  repeat' first
    | with_reducible assumption
    | with_reducible apply r1
    | with_reducible apply r2
    | with_reducible apply ite_run
    | split
    | with_reducible apply run_upd_course u0
    | dsimp only
    | intro _ _

theorem pauseStreams_run {f K s0} (hf : 787456 ||| f = f)
    (hK : ∀ x, x ∈ ([] : List Nat) → x ∈ K) {s}
    (h : Run f K s0 s) : Run f K s0 (State.pauseStreams s) := by
  have r1 := @stopArrays_run f K s0 (orr hf rfl) (sbk hK rfl)
  have u0 := orr (a := 1024) hf rfl
  unfold State.pauseStreams
  repeat' first
    | with_reducible assumption
    | with_reducible apply r1
    | split
    | with_reducible apply run_upd_streams u0
    | dsimp only
    | intro _ _

theorem enter_run {f K s0} (hf : 35596688949441 ||| f = f)
    (hK : ∀ x, x ∈ ([] : List Nat) → x ∈ K) {s x1}
    (h : Run f K s0 s) : Run f K s0 (State.enter s x1) := by
  have r1 := @cause_run f K s0 (orr hf rfl) (sbk hK rfl)
  unfold State.enter
  repeat' first
    | with_reducible assumption
    | with_reducible apply r1
    | with_reducible apply ite_run
    | with_reducible apply pins_run (orr hf rfl)
    | split
    | dsimp only
    | intro _ _

theorem leaveFor_run {f K s0} (hf : 35597763479233 ||| f = f)
    (hK : ∀ x, x ∈ ([0x600003, 0x600004] : List Nat) → x ∈ K) {s x1}
    (h : Run f K s0 s) : Run f K s0 (State.leaveFor s x1) := by
  have r1 := @endAttempt_run f K s0 (orr hf rfl) (sbk hK rfl)
  have r2 := @pauseStreams_run f K s0 (orr hf rfl) (sbk hK rfl)
  have r3 := @enter_run f K s0 (orr hf rfl) (sbk hK rfl)
  unfold State.leaveFor
  repeat' first
    | with_reducible assumption
    | with_reducible apply r1
    | with_reducible apply r2
    | with_reducible apply r3
    | with_reducible apply ite_run
    | split
    | dsimp only
    | intro _ _

theorem fwResult_run {f K s0} (hf : 35596688949248 ||| f = f)
    (hK : ∀ x, x ∈ ([0xB01006] : List Nat) → x ∈ K) {s x1}
    (h : Run f K s0 s) : Run f K s0 (State.fwResult s x1) := by
  have r1 := @cause_run f K s0 (orr hf rfl) (sbk hK rfl)
  have j0 := sbk (a := [PD.FW_RESULT]) hK rfl
  unfold State.fwResult
  repeat' first
    | with_reducible assumption
    | with_reducible apply setNum_run j0
    | with_reducible apply r1
    | split
    | dsimp only
    | intro _ _

theorem fresh_run {f K s0} (hf : 70368744177664 ||| f = f)
    (hK : ∀ x, x ∈ ([] : List Nat) → x ∈ K) {s}
    (h : Run f K s0 s) : Run f K s0 (State.fresh s).2 := by
  have u0 := orr (a := 70368744177664) hf rfl
  unfold State.fresh
  repeat' first
    | with_reducible assumption
    | split
    | with_reducible apply run_upd_free u0
    | dsimp only
    | intro _ _

theorem concernedDigest_run {f K s0} (hf : 70368744177664 ||| f = f)
    (hK : ∀ x, x ∈ ([] : List Nat) → x ∈ K) {s x1}
    (h : Run f K s0 s) : Run f K s0 (State.concernedDigest s x1).2 := by
  have r1 := @fresh_run f K s0 (orr hf rfl) (sbk hK rfl)
  unfold State.concernedDigest
  repeat' first
    | with_reducible assumption
    | with_reducible apply ite_run
    | with_reducible apply run_of_snd (by with_reducible assumption)
    | with_reducible apply r1
    | split
    | dsimp only
    | intro _ _

theorem fwSpall_run {f K s0} (hf : 110363479638016 ||| f = f)
    (hK : ∀ x, x ∈ ([0xA10001, 0xA10006] : List Nat) → x ∈ K) {s x1 x2 x3}
    (h : Run f K s0 s) : Run f K s0 (State.fwSpall s x1 x2 x3) := by
  have r1 := @spall_run f K s0 (orr hf rfl) (sbk hK rfl)
  have r2 := @concernedDigest_run f K s0 (orr hf rfl) (sbk hK rfl)
  unfold State.fwSpall
  repeat' first
    | with_reducible assumption
    | with_reducible apply r1
    | with_reducible apply run_of_snd (by with_reducible assumption)
    | with_reducible apply r2
    | split
    | dsimp only
    | intro _ _

theorem courseActions_run {f K s0} (hf : 110435944416961 ||| f = f)
    (hK : ∀ x, x ∈ ([0x600002, 0x600003, 0x600004, 0x600007, 0x600203, 0xA10001, 0xA10006, 0xB01006] : List Nat) → x ∈ K) {s x1 x2}
    (h : Run f K s0 s) : Run f K s0 (State.courseActions s x1 x2) := by
  have r1 := @leaveFor_run f K s0 (orr hf rfl) (sbk hK rfl)
  have r2 := @reason_run f K s0 (orr hf rfl) (sbk hK rfl)
  have r3 := @endAttempt_run f K s0 (orr hf rfl) (sbk hK rfl)
  have r4 := @spall_run f K s0 (orr hf rfl) (sbk hK rfl)
  have r5 := @fwResult_run f K s0 (orr hf rfl) (sbk hK rfl)
  have r6 := @voidLocally_run f K s0 (orr hf rfl) (sbk hK rfl)
  have r7 := @fwSpall_run f K s0 (orr hf rfl) (sbk hK rfl)
  have u0 := orr (a := 1049088) hf rfl
  unfold State.courseActions
  repeat' first
    | with_reducible assumption
    | with_reducible apply r1
    | with_reducible apply r2
    | with_reducible apply r3
    | with_reducible apply r4
    | with_reducible apply r5
    | with_reducible apply r6
    | with_reducible apply r7
    | with_reducible apply ite_run
    | split
    | with_reducible apply run_upd_events_cal u0
    | dsimp only
    | intro _ _

theorem courseRestart_run {f K s0} (hf : 35596688950016 ||| f = f)
    (hK : ∀ x, x ∈ ([0x202003] : List Nat) → x ∈ K) {s}
    (h : Run f K s0 s) : Run f K s0 (State.courseRestart s) := by
  have r1 := @setCourse_run f K s0 (orr hf rfl) (sbk hK rfl)
  unfold State.courseRestart
  repeat' first
    | with_reducible assumption
    | with_reducible apply r1
    | with_reducible apply ite_run
    | split
    | dsimp only
    | intro _ _

theorem courseLost_run {f K s0} (hf : 35596688950016 ||| f = f)
    (hK : ∀ x, x ∈ ([0x201108, 0x202003] : List Nat) → x ∈ K) {s}
    (h : Run f K s0 s) : Run f K s0 (State.courseLost s) := by
  have r1 := @setCourse_run f K s0 (orr hf rfl) (sbk hK rfl)
  have j0 := sbk (a := [PD.COURSE_LOST_ENTRIES]) hK rfl
  have u0 := orr (a := 256) hf rfl
  unfold State.courseLost
  repeat' first
    | with_reducible assumption
    | with_reducible apply bump_run j0
    | with_reducible apply r1
    | split
    | with_reducible apply run_upd_course u0
    | dsimp only
    | intro _ _

theorem loseCourse_run {f K s0} (hf : 110435944417217 ||| f = f)
    (hK : ∀ x, x ∈ ([0x201108, 0x202003, 0x600002, 0x600003, 0x600004, 0x600007, 0x600203, 0xA10001, 0xA10006, 0xB01006] : List Nat) → x ∈ K) {s}
    (h : Run f K s0 s) : Run f K s0 (State.loseCourse s) := by
  have r1 := @courseActions_run f K s0 (orr hf rfl) (sbk hK rfl)
  have r2 := @courseRestart_run f K s0 (orr hf rfl) (sbk hK rfl)
  have r3 := @courseLost_run f K s0 (orr hf rfl) (sbk hK rfl)
  unfold State.loseCourse
  repeat' first
    | with_reducible assumption
    | with_reducible apply r1
    | with_reducible apply r2
    | with_reducible apply r3
    | split
    | dsimp only
    | intro _ _

theorem emits_run {f K s0} (hf : 35184372088832 ||| f = f)
    (hK : ∀ x, x ∈ ([] : List Nat) → x ∈ K) {s x1}
    (h : Run f K s0 s) : Run f K s0 (State.emits s x1) := by
  have u0 := orr (a := 35184372088832) hf rfl
  unfold State.emits
  repeat' first
    | with_reducible assumption
    | split
    | with_reducible apply run_upd_outs u0
    | dsimp only
    | intro _ _

theorem sendWaiting_run {f K s0} (hf : 35253091565568 ||| f = f)
    (hK : ∀ x, x ∈ ([] : List Nat) → x ∈ K) {s x1}
    (h : Run f K s0 s) : Run f K s0 (State.sendWaiting s x1) := by
  have r1 := @setPort_run f K s0 (orr hf rfl) (sbk hK rfl)
  have r2 := @sendFlit_run f K s0 (orr hf rfl) (sbk hK rfl)
  unfold State.sendWaiting
  repeat' first
    | with_reducible assumption
    | with_reducible apply r1
    | with_reducible apply r2
    | (with_reducible apply each_run; intro _ _ _)
    | split
    | dsimp only
    | intro _ _

theorem dropPorts_run {f K s0} (hf : 68719476736 ||| f = f)
    (hK : ∀ x, x ∈ ([] : List Nat) → x ∈ K) {s}
    (h : Run f K s0 s) : Run f K s0 (State.dropPorts s) := by
  have r1 := @setPort_run f K s0 (orr hf rfl) (sbk hK rfl)
  unfold State.dropPorts
  repeat' first
    | with_reducible assumption
    | with_reducible apply r1
    | (with_reducible apply each_run; intro _ _ _)
    | split
    | dsimp only
    | intro _ _

theorem wrapped_run {f K s0} (hf : 36283883716608 ||| f = f)
    (hK : ∀ x, x ∈ ([] : List Nat) → x ∈ K) {s x1}
    (h : Run f K s0 s) : Run f K s0 (State.wrapped s x1) := by
  have r1 := @emits_run f K s0 (orr hf rfl) (sbk hK rfl)
  have u0 := orr (a := 1099511627776) hf rfl
  unfold State.wrapped
  repeat' first
    | with_reducible assumption
    | with_reducible apply r1
    | with_reducible apply ite_run
    | (with_reducible apply foldl_run; intro _ _ _)
    | (with_reducible apply foldl_proj_run Prod.snd; intro _ _ _)
    | (with_reducible apply foldl_proj_run Prod.fst; intro _ _ _)
    | with_reducible apply run_of_snd (by with_reducible assumption)
    | with_reducible apply run_of_fst (by with_reducible assumption)
    | split
    | with_reducible apply run_upd_meas u0
    | dsimp only
    | intro _ _

theorem runTo_run {f K s0} (hf : 36283883716864 ||| f = f)
    (hK : ∀ x, x ∈ ([] : List Nat) → x ∈ K) {s x1}
    (h : Run f K s0 s) : Run f K s0 (State.runTo s x1) := by
  have r1 := @wrapped_run f K s0 (orr hf rfl) (sbk hK rfl)
  have u0 := orr (a := 256) hf rfl
  unfold State.runTo
  repeat' first
    | with_reducible assumption
    | with_reducible apply r1
    | split
    | with_reducible apply run_upd_course u0
    | dsimp only
    | intro _ _

theorem advanceTo_run {f K s0} (hf : 36283883716864 ||| f = f)
    (hK : ∀ x, x ∈ ([] : List Nat) → x ∈ K) {s x1}
    (h : Run f K s0 s) : Run f K s0 (State.advanceTo s x1) := by
  have r1 := @runTo_run f K s0 (orr hf rfl) (sbk hK rfl)
  unfold State.advanceTo
  repeat' first
    | with_reducible assumption
    | with_reducible apply r1
    | split
    | dsimp only
    | intro _ _

theorem epsUp_run {f K s0} (hf : 412316860416 ||| f = f)
    (hK : ∀ x, x ∈ ([] : List Nat) → x ∈ K) {s}
    (h : Run f K s0 s) : Run f K s0 (State.epsUp s) := by
  have r1 := @setEp_run f K s0 (orr hf rfl) (sbk hK rfl)
  unfold State.epsUp
  repeat' first
    | with_reducible assumption
    | with_reducible apply r1
    | with_reducible apply ite_run
    | (with_reducible apply each_run; intro _ _ _)
    | split
    | dsimp only
    | intro _ _

theorem fault_run {f K s0} (hf : 48863292212929 ||| f = f)
    (hK : ∀ x, x ∈ ([0x600002, 0x600003, 0x600004, 0x600007, 0x600203, 0xA10001, 0xA10006] : List Nat) → x ∈ K) {s}
    (h : Run f K s0 s) : Run f K s0 (State.fault s) := by
  have r1 := @leaveFor_run f K s0 (orr hf rfl) (sbk hK rfl)
  have r2 := @epsUp_run f K s0 (orr hf rfl) (sbk hK rfl)
  have r3 := @abandon_run f K s0 (orr hf rfl) (sbk hK rfl)
  have u0 := orr (a := 8796093022208) hf rfl
  unfold State.fault
  repeat' first
    | with_reducible assumption
    | with_reducible apply r1
    | with_reducible apply r2
    | with_reducible apply r3
    | split
    | with_reducible apply run_upd_freeze u0
    | dsimp only
    | intro _ _

theorem send_run {f K s0} (hf : 35253091565568 ||| f = f)
    (hK : ∀ x, x ∈ ([0x700208] : List Nat) → x ∈ K) {s x1 x2 x3}
    (h : Run f K s0 s) : Run f K s0 (State.send s x1 x2 x3) := by
  have r1 := @sendOn_run f K s0 (orr hf rfl) (sbk hK rfl)
  have r2 := @takeTag_run f K s0 (orr hf rfl) (sbk hK rfl)
  have j0 := sbk (a := [PD.FLITS_NO_ROUTE]) hK rfl
  have u0 := orr (a := 68719476736) hf rfl
  unfold State.send
  repeat' first
    | with_reducible assumption
    | with_reducible apply bumpBy_run j0
    | with_reducible apply r1
    | with_reducible apply run_of_snd (by with_reducible assumption)
    | with_reducible apply getD_run
    | with_reducible apply r2
    | split
    | with_reducible apply run_upd_link u0
    | dsimp only
    | intro _ _

theorem setLayerNum_run {f K s0} (hf : 2097152 ||| f = f)
    (hK : ∀ x, x ∈ ([] : List Nat) → x ∈ K) {s x1 x2}
    (h : Run f K s0 s) : Run f K s0 (State.setLayerNum s x1 x2) := by
  have u0 := orr (a := 2097152) hf rfl
  unfold State.setLayerNum
  repeat' first
    | with_reducible assumption
    | split
    | with_reducible apply run_upd_layers u0
    | dsimp only
    | intro _ _

theorem deadline_run {f K s0} (hf : 1073742336 ||| f = f)
    (hK : ∀ x, x ∈ ([0x202003] : List Nat) → x ∈ K) {s x1 x2}
    (h : Run f K s0 s) : Run f K s0 (State.deadline s x1 x2) := by
  have r1 := @present_run f K s0 (orr hf rfl) (sbk hK rfl)
  have u0 := orr (a := 1073741824) hf rfl
  unfold State.deadline
  repeat' first
    | with_reducible assumption
    | with_reducible apply run_of_snd (by with_reducible assumption)
    | with_reducible apply r1
    | split
    | with_reducible apply run_upd_step u0
    | dsimp only
    | intro _ _

theorem result_run {f K s0} (hf : 35596688949248 ||| f = f) {x1} (hk : ∀ x, x ∈ [x1] → x ∈ K) {s x2} (h : Run f K s0 s) :
    Run f K s0 (State.result s x1 x2) :=
  cause_run hf (fun _ hx => nomatch hx) (setNum_run hk h)

theorem beginAttempt_run {f K s0} (hf : 1073742336 ||| f = f)
    (hK : ∀ x, x ∈ ([0x202003, 0x600004] : List Nat) → x ∈ K) {s x1}
    (h : Run f K s0 s) : Run f K s0 (State.beginAttempt s x1) := by
  have r1 := @deadline_run f K s0 (orr hf rfl) (sbk hK rfl)
  have j0 := sbk (a := [PD.STEP_REASONS]) hK rfl
  have u0 := orr (a := 1073741824) hf rfl
  unfold State.beginAttempt
  repeat' first
    | with_reducible assumption
    | with_reducible apply setNum_run j0
    | with_reducible apply r1
    | with_reducible apply ite_run
    | split
    | with_reducible apply run_upd_step u0
    | dsimp only
    | intro _ _

theorem writeBar2_run {f K s0} (hf : 8589934592 ||| f = f) (hK : ∀ x, x ∈ ([] : List Nat) → x ∈ K) :
    ∀ {bs : List Byte} {s : State} {o : Nat} (_ : Run f K s0 s), Run f K s0 (s.writeBar2 o bs)
  | [], _, _, h => h
  | b :: bs, s, o, h => by
    unfold State.writeBar2
    apply writeBar2_run hf hK
    split
    · exact write_run hf h
    · exact h

theorem beginPhase_run {f K s0} (hf : 1073741824 ||| f = f)
    (hK : ∀ x, x ∈ ([] : List Nat) → x ∈ K) {s x1}
    (h : Run f K s0 s) : Run f K s0 (State.beginPhase s x1) := by
  have u0 := orr (a := 1073741824) hf rfl
  unfold State.beginPhase
  repeat' first
    | with_reducible assumption
    | with_reducible apply ite_run
    | split
    | with_reducible apply run_upd_step u0
    | dsimp only
    | intro _ _

theorem reasonOrNext_run {f K s0} (hf : 1073741824 ||| f = f)
    (hK : ∀ x, x ∈ ([0x600004] : List Nat) → x ∈ K) {s x1}
    (h : Run f K s0 s) : Run f K s0 (State.reasonOrNext s x1) := by
  have r1 := @reason_run f K s0 (orr hf rfl) (sbk hK rfl)
  have u0 := orr (a := 1073741824) hf rfl
  unfold State.reasonOrNext
  repeat' first
    | with_reducible assumption
    | with_reducible apply r1
    | with_reducible apply ite_run
    | split
    | with_reducible apply run_upd_step u0
    | dsimp only
    | intro _ _

theorem hold_run {f K s0} (hf : 40067199190721 ||| f = f)
    (hK : ∀ x, x ∈ ([0x600002, 0x600003, 0x600004, 0x600007, 0x600203, 0xA10001, 0xA10006] : List Nat) → x ∈ K) {s x1}
    (h : Run f K s0 s) : Run f K s0 (State.hold s x1) := by
  have r1 := @leaveFor_run f K s0 (orr hf rfl) (sbk hK rfl)
  have r2 := @abandon_run f K s0 (orr hf rfl) (sbk hK rfl)
  unfold State.hold
  repeat' first
    | with_reducible assumption
    | with_reducible apply r1
    | with_reducible apply r2
    | with_reducible apply ite_run
    | split
    | dsimp only
    | intro _ _

theorem deviceError_run {f K s0} (hf : 40067199190721 ||| f = f)
    (hK : ∀ x, x ∈ ([0x600002, 0x600003, 0x600004, 0x600007, 0x600203, 0xA10001, 0xA10006] : List Nat) → x ∈ K) {s x1}
    (h : Run f K s0 s) : Run f K s0 (State.deviceError s x1) := by
  have r1 := @reason_run f K s0 (orr hf rfl) (sbk hK rfl)
  have r2 := @reasonOrNext_run f K s0 (orr hf rfl) (sbk hK rfl)
  have r3 := @hold_run f K s0 (orr hf rfl) (sbk hK rfl)
  have u0 := orr (a := 1073741824) hf rfl
  unfold State.deviceError
  repeat' first
    | with_reducible assumption
    | with_reducible apply r1
    | with_reducible apply r2
    | with_reducible apply r3
    | with_reducible apply ite_run
    | split
    | with_reducible apply run_upd_step u0
    | dsimp only
    | intro _ _

theorem fwCancel_run {f K s0} (hf : 127955665682944 ||| f = f)
    (hK : ∀ x, x ∈ ([0xA10001, 0xA10006, 0xB01006] : List Nat) → x ∈ K) {s}
    (h : Run f K s0 s) : Run f K s0 (State.fwCancel s) := by
  have r1 := @dropEvents_run f K s0 (orr hf rfl) (sbk hK rfl)
  have r2 := @fwResult_run f K s0 (orr hf rfl) (sbk hK rfl)
  have r3 := @fwSpall_run f K s0 (orr hf rfl) (sbk hK rfl)
  have u0 := orr (a := 17592186044416) hf rfl
  unfold State.fwCancel
  repeat' first
    | with_reducible assumption
    | with_reducible apply r1
    | with_reducible apply r2
    | with_reducible apply r3
    | with_reducible apply ite_run
    | split
    | with_reducible apply run_upd_fw u0
    | dsimp only
    | intro _ _

theorem fwFail_run {f K s0} (hf : 127955665682432 ||| f = f)
    (hK : ∀ x, x ∈ ([0xA10001, 0xA10006, 0xB01005, 0xB01006] : List Nat) → x ∈ K) {s x1 x2}
    (h : Run f K s0 s) : Run f K s0 (State.fwFail s x1 x2) := by
  have r1 := @fwResult_run f K s0 (orr hf rfl) (sbk hK rfl)
  have r2 := @fwSpall_run f K s0 (orr hf rfl) (sbk hK rfl)
  have j0 := sbk (a := [PD.FW_STAGE_STATE]) hK rfl
  have u0 := orr (a := 17592186044416) hf rfl
  unfold State.fwFail
  repeat' first
    | with_reducible assumption
    | with_reducible apply setNum_run j0
    | with_reducible apply r1
    | with_reducible apply r2
    | split
    | with_reducible apply run_upd_fw u0
    | dsimp only
    | intro _ _

theorem countQuant_run {f K s0} (hf : 0 ||| f = f)
    (hK : ∀ x, x ∈ ([0x502104, 0x507001, 0x507002, 0x600004] : List Nat) → x ∈ K) {s x1}
    (h : Run f K s0 s) : Run f K s0 (State.countQuant s x1) := by
  have r1 := @reason_run f K s0 (orr hf rfl) (sbk hK rfl)
  have j0 := sbk (a := [PD.RESCALES]) hK rfl
  have j1 := sbk (a := [PD.Q_UNDERFLOW]) hK rfl
  have j2 := sbk (a := [PD.Q_NONFINITE]) hK rfl
  unfold State.countQuant
  repeat' first
    | with_reducible assumption
    | with_reducible apply bumpBy_run j0
    | with_reducible apply bumpBy_run j1
    | with_reducible apply bumpBy_run j2
    | with_reducible apply r1
    | with_reducible apply ite_run
    | split
    | dsimp only
    | intro _ _

theorem homeWrite_run {f K s0} (hf : 35192962023424 ||| f = f)
    (hK : ∀ x, x ∈ ([] : List Nat) → x ∈ K) {s x1 x2 x3}
    (h : Run f K s0 s) : Run f K s0 (State.homeWrite s x1 x2 x3) := by
  have r1 := @emit_run f K s0 (orr hf rfl) (sbk hK rfl)
  have cm := orr (a := 8589934592) hf rfl
  unfold State.homeWrite
  repeat' first
    | with_reducible assumption
    | with_reducible apply write_run cm
    | with_reducible apply r1
    | with_reducible apply ite_run
    | split
    | dsimp only
    | intro _ _

theorem tileWrite_run {f K s0} (hf : 35192962023424 ||| f = f)
    (hK : ∀ x, x ∈ ([] : List Nat) → x ∈ K) {s x1 x2 x3 x4}
    (h : Run f K s0 s) : Run f K s0 (State.tileWrite s x1 x2 x3 x4) := by
  have r1 := @homeWrite_run f K s0 (orr hf rfl) (sbk hK rfl)
  unfold State.tileWrite
  repeat' first
    | with_reducible assumption
    | with_reducible apply r1
    | split
    | dsimp only
    | intro _ _

theorem openStep_run {f K s0} (hf : 1073741824 ||| f = f)
    (hK : ∀ x, x ∈ ([0x600003, 0x600004] : List Nat) → x ∈ K) {s}
    (h : Run f K s0 s) : Run f K s0 (State.openStep s) := by
  have r1 := @reason_run f K s0 (orr hf rfl) (sbk hK rfl)
  have j0 := sbk (a := [PD.STEP_OPEN]) hK rfl
  have u0 := orr (a := 1073741824) hf rfl
  unfold State.openStep
  repeat' first
    | with_reducible assumption
    | with_reducible apply setNum_run j0
    | with_reducible apply r1
    | with_reducible apply ite_run
    | split
    | with_reducible apply run_upd_step u0
    | dsimp only
    | intro _ _

theorem fire_run {f K s0} (hf : 36283883717376 ||| f = f)
    (hK : ∀ x, x ∈ ([] : List Nat) → x ∈ K) {s x1}
    (h : Run f K s0 s) : RunOpt Prod.snd f K s0 (State.fire s x1) := by
  have r1 := @advanceTo_run f K s0 (orr hf rfl) (sbk hK rfl)
  have u0 := orr (a := 512) hf rfl
  unfold State.fire
  repeat' first
    | with_reducible assumption
    | with_reducible apply r1
    | with_reducible apply ite_run
    | with_reducible apply RunOpt.none
    | with_reducible apply RunOpt.some
    | with_reducible apply RunOpt.ite
    | split
    | with_reducible apply run_upd_events u0
    | dsimp only
    | intro _ _

theorem fireDeadline_run {f K s0} (hf : 36284957459200 ||| f = f)
    (hK : ∀ x, x ∈ ([] : List Nat) → x ∈ K) {s x1}
    (h : Run f K s0 s) : RunOpt (fun x => x) f K s0 (State.fireDeadline s x1) := by
  have r1 := @fire_run f K s0 (orr hf rfl) (sbk hK rfl)
  have u0 := orr (a := 1073741824) hf rfl
  unfold State.fireDeadline
  repeat' first
    | with_reducible assumption
    | with_reducible apply ite_run
    | with_reducible apply RunOpt.none
    | with_reducible apply RunOpt.some
    | with_reducible apply RunOpt.ite
    | with_reducible apply RunOpt.map
    | with_reducible apply run_of_some (by with_reducible assumption)
    | with_reducible apply run_of_some_snd (by with_reducible assumption)
    | with_reducible apply r1
    | split
    | with_reducible apply run_upd_step u0
    | dsimp only
    | intro _ _

theorem takeMessage_run {f K s0} (hf : 68719476736 ||| f = f)
    (hK : ∀ x, x ∈ ([] : List Nat) → x ∈ K) {s x1 x2}
    (h : Run f K s0 s) : Run f K s0 (State.takeMessage s x1 x2) := by
  have u0 := orr (a := 68719476736) hf rfl
  unfold State.takeMessage
  repeat' first
    | with_reducible assumption
    | split
    | with_reducible apply run_upd_link u0
    | dsimp only
    | intro _ _

theorem tick_run {f K s0} (hf : 36283883716864 ||| f = f)
    (hK : ∀ x, x ∈ ([] : List Nat) → x ∈ K) {s}
    (h : Run f K s0 s) : Run f K s0 (State.tick s) := by
  have r1 := @runTo_run f K s0 (orr hf rfl) (sbk hK rfl)
  unfold State.tick
  repeat' first
    | with_reducible assumption
    | with_reducible apply r1
    | with_reducible apply ite_run
    | split
    | dsimp only
    | intro _ _

theorem unpauseStreams_run {f K s0} (hf : 1024 ||| f = f)
    (hK : ∀ x, x ∈ ([] : List Nat) → x ∈ K) {s}
    (h : Run f K s0 s) : Run f K s0 (State.unpauseStreams s) := by
  have u0 := orr (a := 1024) hf rfl
  unfold State.unpauseStreams
  repeat' first
    | with_reducible assumption
    | with_reducible apply ite_run
    | split
    | with_reducible apply run_upd_streams u0
    | dsimp only
    | intro _ _

end Sys2Proof.Machine
end

