-- ==== Sys2Proof/Laws/RunWork.lean ====
section
/-! SUPPORT. Laws/RunWork.lean: what the operations and the commands may change, and that they keep the canonical forms and the pins
(Laws/Run.lean): numerics, weights, stations, faults, arrays, exchange records, array functions and joints. -/
namespace Sys2Proof.Machine

set_option linter.unusedVariables false

theorem setCell_run {f K s0} (hf : 524288 ||| f = f)
    (hK : ∀ x, x ∈ ([] : List Nat) → x ∈ K) {s x1 x2}
    (h : Run f K s0 s) : Run f K s0 (State.setCell s x1 x2) := by
  have u0 := orr (a := 524288) hf rfl
  unfold State.setCell
  repeat' first
    | with_reducible assumption
    | split
    | with_reducible apply run_upd_cells u0
    | dsimp only
    | intro _ _

theorem putBeds_run {f K s0} (hf : 268436480 ||| f = f)
    (hK : ∀ x, x ∈ ([] : List Nat) → x ∈ K) {s x1 x2 x3 x4}
    (h : Run f K s0 s) : Run f K s0 (State.putBeds s x1 x2 x3 x4) := by
  have r1 := @setStream_run f K s0 (orr hf rfl) (sbk hK rfl)
  have u0 := orr (a := 268435456) hf rfl
  unfold State.putBeds
  repeat' first
    | with_reducible assumption
    | with_reducible apply r1
    | with_reducible apply ite_run
    | split
    | with_reducible apply run_upd_backward u0
    | dsimp only
    | intro _ _

theorem promoteRun_run {f K s0} (hf : 268436480 ||| f = f)
    (hK : ∀ x, x ∈ ([0x40100B, 0x401101, 0x507002, 0x508201, 0x508202, 0x508203, 0x508204, 0x600004] : List Nat) → x ∈ K) {s x1 x2 x3 x4 x5 x6}
    (h : Run f K s0 s) : Run f K s0 (State.promoteRun s x1 x2 x3 x4 x5 x6) := by
  have r1 := @putBeds_run f K s0 (orr hf rfl) (sbk hK rfl)
  have r2 := @countBeds_run f K s0 (orr hf rfl) (sbk hK rfl)
  have j0 := sbk (a := [PD.ARR_PROMOTIONS]) hK rfl
  have ja := sbk (a := [PD.ARR_DIE_STATS]) hK rfl
  unfold State.promoteRun
  repeat' first
    | with_reducible assumption
    | with_reducible apply arr_run j0 ja
    | with_reducible apply r1
    | with_reducible apply r2
    | with_reducible apply ite_run
    | (with_reducible apply foldl_run; intro _ _ _)
    | (with_reducible apply foldl_proj_run Prod.snd; intro _ _ _)
    | (with_reducible apply foldl_proj_run Prod.fst; intro _ _ _)
    | with_reducible apply RunOpt.map
    | with_reducible apply run_of_snd (by with_reducible assumption)
    | with_reducible apply run_of_fst (by with_reducible assumption)
    | with_reducible apply getD_run
    | split
    | dsimp only
    | intro _ _

theorem accept_run {f K s0} (hf : 268960768 ||| f = f)
    (hK : ∀ x, x ∈ ([0x40100B, 0x401101, 0x507002, 0x508201, 0x508202, 0x508203, 0x508204, 0x600004] : List Nat) → x ∈ K) {s x1 x2 x3 x4 x5 x6 x7 x8}
    (h : Run f K s0 s) : Run f K s0 (State.accept s x1 x2 x3 x4 x5 x6 x7 x8) := by
  have r1 := @setCell_run f K s0 (orr hf rfl) (sbk hK rfl)
  have r2 := @promoteRun_run f K s0 (orr hf rfl) (sbk hK rfl)
  unfold State.accept
  repeat' first
    | with_reducible assumption
    | with_reducible apply r1
    | with_reducible apply r2
    | with_reducible apply ite_run
    | (with_reducible apply each_run; intro _ _ _)
    | split
    | dsimp only
    | intro _ _

theorem setRowMode_run {f K s0} (hf : 262144 ||| f = f)
    (hK : ∀ x, x ∈ ([] : List Nat) → x ∈ K) {s x1}
    (h : Run f K s0 s) : Run f K s0 (State.setRowMode s x1) := by
  have u0 := orr (a := 262144) hf rfl
  unfold State.setRowMode
  repeat' first
    | with_reducible assumption
    | split
    | with_reducible apply run_upd_arrays u0
    | dsimp only
    | intro _ _

theorem pairStat_run {f K s0} (hf : 262144 ||| f = f)
    (hK : ∀ x, x ∈ ([] : List Nat) → x ∈ K) {s x1 x2 x3 x4 x5 x6 x7}
    (h : Run f K s0 s) : Run f K s0 (State.pairStat s x1 x2 x3 x4 x5 x6 x7) := by
  have r1 := @setRowMode_run f K s0 (orr hf rfl) (sbk hK rfl)
  have u0 := orr (a := 262144) hf rfl
  unfold State.pairStat
  repeat' first
    | with_reducible assumption
    | with_reducible apply r1
    | with_reducible apply ite_run
    | with_reducible apply getD_run
    | split
    | with_reducible apply run_upd_arrays u0
    | dsimp only
    | intro _ _

theorem acceptCodes_run {f K s0} (hf : 269222912 ||| f = f)
    (hK : ∀ x, x ∈ ([0x40100B, 0x401101, 0x507002, 0x508201, 0x508202, 0x508203, 0x508204, 0x600004] : List Nat) → x ∈ K) {s x1 x2 x3 x4 x5 x6 x7 x8 x9}
    (h : Run f K s0 s) : Run f K s0 (State.acceptCodes s x1 x2 x3 x4 x5 x6 x7 x8 x9) := by
  have r1 := @pairStat_run f K s0 (orr hf rfl) (sbk hK rfl)
  have r2 := @accept_run f K s0 (orr hf rfl) (sbk hK rfl)
  unfold State.acceptCodes
  repeat' first
    | with_reducible assumption
    | with_reducible apply r1
    | with_reducible apply r2
    | split
    | dsimp only
    | intro _ _

theorem acceptOwn_run {f K s0} (hf : 2147483648 ||| f = f)
    (hK : ∀ x, x ∈ ([] : List Nat) → x ∈ K) {s x1 x2}
    (h : Run f K s0 s) : Run f K s0 (State.acceptOwn s x1 x2) := by
  have u0 := orr (a := 2147483648) hf rfl
  unfold State.acceptOwn
  repeat' first
    | with_reducible assumption
    | split
    | with_reducible apply run_upd_exch u0
    | dsimp only
    | intro _ _

theorem addStrikes_run {f K s0} (hf : 786432 ||| f = f)
    (hK : ∀ x, x ∈ ([0x401002, 0x401005, 0x401101] : List Nat) → x ∈ K) {s x1 x2 x3}
    (h : Run f K s0 s) : Run f K s0 (State.addStrikes s x1 x2 x3) := by
  have r1 := @setCell_run f K s0 (orr hf rfl) (sbk hK rfl)
  have r2 := @setRowMode_run f K s0 (orr hf rfl) (sbk hK rfl)
  have j0 := sbk (a := [PD.ARR_SKIPPED]) hK rfl
  have j1 := sbk (a := [PD.ARR_SCALE_SPLITS]) hK rfl
  have ja := sbk (a := [PD.ARR_DIE_STATS]) hK rfl
  unfold State.addStrikes
  repeat' first
    | with_reducible assumption
    | with_reducible apply arr_run j0 ja
    | with_reducible apply arr_run j1 ja
    | with_reducible apply r1
    | with_reducible apply r2
    | with_reducible apply ite_run
    | (with_reducible apply each_run; intro _ _ _)
    | split
    | dsimp only
    | intro _ _

theorem observe_run {f K s0} (hf : 39994735460352 ||| f = f)
    (hK : ∀ x, x ∈ ([0xA00107, 0xA10001, 0xA10006] : List Nat) → x ∈ K) {s}
    (h : Run f K s0 s) : Run f K s0 (State.observe s) := by
  have r1 := @spall_run f K s0 (orr hf rfl) (sbk hK rfl)
  have j0 := sbk (a := [PD.SUSPECTS_CLEARED]) hK rfl
  have u0 := orr (a := 4398046511104) hf rfl
  unfold State.observe
  repeat' first
    | with_reducible assumption
    | with_reducible apply bump_run j0
    | with_reducible apply r1
    | with_reducible apply ite_run
    | (with_reducible apply each_run; intro _ _ _)
    | split
    | with_reducible apply run_upd_faults u0
    | dsimp only
    | intro _ _

theorem closeWindows_run {f K s0} (hf : 4398046511104 ||| f = f)
    (hK : ∀ x, x ∈ ([] : List Nat) → x ∈ K) {s x1}
    (h : Run f K s0 s) : Run f K s0 (State.closeWindows s x1) := by
  have u0 := orr (a := 4398046511104) hf rfl
  unfold State.closeWindows
  repeat' first
    | with_reducible assumption
    | split
    | with_reducible apply run_upd_faults u0
    | dsimp only
    | intro _ _

theorem sendTo_run {f K s0} (hf : 35253091565568 ||| f = f)
    (hK : ∀ x, x ∈ ([0x700208] : List Nat) → x ∈ K) {s x1 x2 x3}
    (h : Run f K s0 s) : Run f K s0 (State.sendTo s x1 x2 x3) := by
  have r1 := @send_run f K s0 (orr hf rfl) (sbk hK rfl)
  unfold State.sendTo
  repeat' first
    | with_reducible assumption
    | with_reducible apply r1
    | split
    | dsimp only
    | intro _ _

theorem selfExclude_run {f K s0} (hf : 35255239049216 ||| f = f)
    (hK : ∀ x, x ∈ ([0x610107, 0x700208] : List Nat) → x ∈ K) {s}
    (h : Run f K s0 s) : Run f K s0 (State.selfExclude s) := by
  have r1 := @sendTo_run f K s0 (orr hf rfl) (sbk hK rfl)
  have j0 := sbk (a := [PD.EXCH_EXCLUDED]) hK rfl
  have u0 := orr (a := 2147483648) hf rfl
  unfold State.selfExclude
  repeat' first
    | with_reducible assumption
    | with_reducible apply bump_run j0
    | with_reducible apply r1
    | with_reducible apply ite_run
    | (with_reducible apply each_run; intro _ _ _)
    | split
    | with_reducible apply run_upd_exch u0
    | dsimp only
    | intro _ _

theorem retireBlock_run {f K s0} (hf : 39994735476736 ||| f = f)
    (hK : ∀ x, x ∈ ([0xA10001, 0xA10006] : List Nat) → x ∈ K) {s x1 x2 x3 x4}
    (h : Run f K s0 s) : Run f K s0 (State.retireBlock s x1 x2 x3 x4) := by
  have r1 := @spall_run f K s0 (orr hf rfl) (sbk hK rfl)
  have u0 := orr (a := 4398046527488) hf rfl
  unfold State.retireBlock
  repeat' first
    | with_reducible assumption
    | with_reducible apply r1
    | with_reducible apply ite_run
    | split
    | with_reducible apply run_upd_triggers_faults u0
    | dsimp only
    | intro _ _

theorem retireCell_run {f K s0} (hf : 39994735476736 ||| f = f)
    (hK : ∀ x, x ∈ ([0xA10001, 0xA10006] : List Nat) → x ∈ K) {s x1 x2 x3}
    (h : Run f K s0 s) : Run f K s0 (State.retireCell s x1 x2 x3) := by
  have r1 := @retireBlock_run f K s0 (orr hf rfl) (sbk hK rfl)
  have r2 := @spall_run f K s0 (orr hf rfl) (sbk hK rfl)
  have u0 := orr (a := 4398046527488) hf rfl
  unfold State.retireCell
  repeat' first
    | with_reducible assumption
    | with_reducible apply r1
    | with_reducible apply r2
    | with_reducible apply ite_run
    | split
    | with_reducible apply run_upd_triggers_faults u0
    | dsimp only
    | intro _ _

theorem confirm_run {f K s0} (hf : 39994735476736 ||| f = f)
    (hK : ∀ x, x ∈ ([0xA00106, 0xA00108, 0xA10001, 0xA10006] : List Nat) → x ∈ K) {s x1 x2}
    (h : Run f K s0 s) : Run f K s0 (State.confirm s x1 x2) := by
  have r1 := @retireBlock_run f K s0 (orr hf rfl) (sbk hK rfl)
  have r2 := @retireCell_run f K s0 (orr hf rfl) (sbk hK rfl)
  have j0 := sbk (a := [PD.REPEATS_CONFIRMED]) hK rfl
  have j1 := sbk (a := [PD.SUSPECT_RETIREMENTS]) hK rfl
  have u0 := orr (a := 4398046511104) hf rfl
  unfold State.confirm
  repeat' first
    | with_reducible assumption
    | with_reducible apply bump_run j0
    | with_reducible apply bump_run j1
    | with_reducible apply r1
    | with_reducible apply r2
    | with_reducible apply ite_run
    | with_reducible apply RunOpt.map
    | with_reducible apply getD_run
    | split
    | with_reducible apply run_upd_faults u0
    | dsimp only
    | intro _ _

theorem faultAndHold_run {f K s0} (hf : 40067199190721 ||| f = f)
    (hK : ∀ x, x ∈ ([0x600002, 0x600003, 0x600004, 0x600007, 0x600203, 0xA10001, 0xA10006] : List Nat) → x ∈ K) {s}
    (h : Run f K s0 s) : Run f K s0 (State.faultAndHold s) := by
  have r1 := @reason_run f K s0 (orr hf rfl) (sbk hK rfl)
  have r2 := @reasonOrNext_run f K s0 (orr hf rfl) (sbk hK rfl)
  have r3 := @hold_run f K s0 (orr hf rfl) (sbk hK rfl)
  have u0 := orr (a := 1073741824) hf rfl
  unfold State.faultAndHold
  repeat' first
    | with_reducible assumption
    | with_reducible apply r1
    | with_reducible apply r2
    | with_reducible apply r3
    | with_reducible apply ite_run
    | split
    | with_reducible apply run_upd_step u0
    | dsimp only
    | intro _ _

theorem openWindow_run {f K s0} (hf : 4398046511104 ||| f = f)
    (hK : ∀ x, x ∈ ([] : List Nat) → x ∈ K) {s x1 x2 x3}
    (h : Run f K s0 s) : Run f K s0 (State.openWindow s x1 x2 x3) := by
  have u0 := orr (a := 4398046511104) hf rfl
  unfold State.openWindow
  repeat' first
    | with_reducible assumption
    | split
    | with_reducible apply run_upd_faults u0
    | dsimp only
    | intro _ _

theorem toDevice_run {f K s0} (hf : 40067199190721 ||| f = f)
    (hK : ∀ x, x ∈ ([0x600002, 0x600003, 0x600004, 0x600007, 0x600203, 0xA10001, 0xA10006] : List Nat) → x ∈ K) {s x1 x2}
    (h : Run f K s0 s) : Run f K s0 (State.toDevice s x1 x2) := by
  have r1 := @faultAndHold_run f K s0 (orr hf rfl) (sbk hK rfl)
  have r2 := @openWindow_run f K s0 (orr hf rfl) (sbk hK rfl)
  have r3 := @deviceError_run f K s0 (orr hf rfl) (sbk hK rfl)
  unfold State.toDevice
  repeat' first
    | with_reducible assumption
    | with_reducible apply r1
    | with_reducible apply r2
    | with_reducible apply r3
    | with_reducible apply ite_run
    | split
    | dsimp only
    | intro _ _

theorem regionFromBlock_run {f K s0} (hf : 40067199190721 ||| f = f)
    (hK : ∀ x, x ∈ ([0x110103, 0x600002, 0x600003, 0x600004, 0x600007, 0x600203, 0xA10001, 0xA10006] : List Nat) → x ∈ K) {s x1}
    (h : Run f K s0 s) : Run f K s0 (State.regionFromBlock s x1) := by
  have r1 := @toDevice_run f K s0 (orr hf rfl) (sbk hK rfl)
  have r2 := @openWindow_run f K s0 (orr hf rfl) (sbk hK rfl)
  have j0 := sbk (a := [PD.ESC_REGION_TO_DEVICE]) hK rfl
  have u0 := orr (a := 4398046511104) hf rfl
  unfold State.regionFromBlock
  repeat' first
    | with_reducible assumption
    | with_reducible apply bump_run j0
    | with_reducible apply r1
    | with_reducible apply r2
    | with_reducible apply ite_run
    | split
    | with_reducible apply run_upd_faults u0
    | dsimp only
    | intro _ _

theorem escalate_run {f K s0} (hf : 39994735460352 ||| f = f)
    (hK : ∀ x, x ∈ ([0x110101, 0x110102, 0x110103, 0xA00109, 0xA10001, 0xA10006] : List Nat) → x ∈ K) {s x1 x2}
    (h : Run f K s0 s) : Run f K s0 (State.escalate s x1 x2).2 := by
  have r1 := @spall_run f K s0 (orr hf rfl) (sbk hK rfl)
  have j0 := sbk (a := [PD.ESC_CELL_TO_BLOCK]) hK rfl
  have j1 := sbk (a := [PD.ESC_BLOCK_TO_REGION]) hK rfl
  have j2 := sbk (a := [PD.ESC_REGION_TO_DEVICE]) hK rfl
  have j3 := sbk (a := [PD.ESC_COINCIDENT]) hK rfl
  unfold State.escalate
  repeat' first
    | with_reducible assumption
    | with_reducible apply bump_run j0
    | with_reducible apply bump_run j1
    | with_reducible apply bump_run j2
    | with_reducible apply bump_run j3
    | with_reducible apply r1
    | with_reducible apply ite_run
    | split
    | dsimp only
    | intro _ _

theorem blockError_run {f K s0} (hf : 40067199190721 ||| f = f)
    (hK : ∀ x, x ∈ ([0x110101, 0x110102, 0x110103, 0x600002, 0x600003, 0x600004, 0x600007, 0x600203, 0xA00105, 0xA00106, 0xA00108, 0xA00109,
       0xA10001, 0xA10006] : List Nat) → x ∈ K) {s x1 x2 x3 x4}
    (h : Run f K s0 s) : Run f K s0 (State.blockError s x1 x2 x3 x4).2 := by
  have r1 := @regionFromBlock_run f K s0 (orr hf rfl) (sbk hK rfl)
  have r2 := @toDevice_run f K s0 (orr hf rfl) (sbk hK rfl)
  have r3 := @escalate_run f K s0 (orr hf rfl) (sbk hK rfl)
  have r4 := @spall_run f K s0 (orr hf rfl) (sbk hK rfl)
  have r5 := @confirm_run f K s0 (orr hf rfl) (sbk hK rfl)
  have j0 := sbk (a := [PD.ESC_BLOCK_TO_REGION]) hK rfl
  have j1 := sbk (a := [PD.REPEATS_TRANSIENT]) hK rfl
  unfold State.blockError
  repeat' first
    | with_reducible assumption
    | with_reducible apply bump_run j0
    | with_reducible apply bump_run j1
    | with_reducible apply r1
    | with_reducible apply r2
    | with_reducible apply r4
    | with_reducible apply r5
    | with_reducible apply ite_run
    | with_reducible apply run_of_snd (by with_reducible assumption)
    | with_reducible apply r3
    | split
    | dsimp only
    | intro _ _

theorem setBridge_run {f K s0} (hf : 34359738368 ||| f = f)
    (hK : ∀ x, x ∈ ([] : List Nat) → x ∈ K) {s x1 x2}
    (h : Run f K s0 s) : Run f K s0 (State.setBridge s x1 x2) := by
  have u0 := orr (a := 34359738368) hf rfl
  unfold State.setBridge
  repeat' first
    | with_reducible assumption
    | split
    | with_reducible apply run_upd_bridges u0
    | dsimp only
    | intro _ _

theorem bridgeFailed_run {f K s0} (hf : 40101558929089 ||| f = f)
    (hK : ∀ x, x ∈ ([0x110103, 0x600002, 0x600003, 0x600004, 0x600007, 0x600203, 0xA10001, 0xA10006] : List Nat) → x ∈ K) {s x1}
    (h : Run f K s0 s) : Run f K s0 (State.bridgeFailed s x1) := by
  have r1 := @faultAndHold_run f K s0 (orr hf rfl) (sbk hK rfl)
  have r2 := @toDevice_run f K s0 (orr hf rfl) (sbk hK rfl)
  have r3 := @spall_run f K s0 (orr hf rfl) (sbk hK rfl)
  have r4 := @setBridge_run f K s0 (orr hf rfl) (sbk hK rfl)
  have j0 := sbk (a := [PD.ESC_REGION_TO_DEVICE]) hK rfl
  unfold State.bridgeFailed
  repeat' first
    | with_reducible assumption
    | with_reducible apply bump_run j0
    | with_reducible apply r1
    | with_reducible apply r2
    | with_reducible apply r3
    | with_reducible apply r4
    | split
    | dsimp only
    | intro _ _

theorem loadCell_run {f K s0} (hf : 786432 ||| f = f)
    (hK : ∀ x, x ∈ ([0x40100D, 0x401101, 0x507003] : List Nat) → x ∈ K) {s x1 x2 x3 x4 x5}
    (h : Run f K s0 s) : Run f K s0 (State.loadCell s x1 x2 x3 x4 x5) := by
  have r1 := @setCell_run f K s0 (orr hf rfl) (sbk hK rfl)
  have j0 := sbk (a := [PD.ARR_ROWS_UNCHANGED]) hK rfl
  have j1 := sbk (a := [PD.W2T_INVALID]) hK rfl
  have ja := sbk (a := [PD.ARR_DIE_STATS]) hK rfl
  have u0 := orr (a := 262144) hf rfl
  unfold State.loadCell
  repeat' first
    | with_reducible assumption
    | with_reducible apply bumpBy_run j1
    | with_reducible apply arr_run j0 ja
    | with_reducible apply r1
    | with_reducible apply ite_run
    | split
    | with_reducible apply run_upd_arrays u0
    | dsimp only
    | intro _ _

theorem takeover_run {f K s0} (hf : 40067199198913 ||| f = f)
    (hK : ∀ x, x ∈ ([0x320104, 0x40100D, 0x401101, 0x507003, 0x600002, 0x600003, 0x600004, 0x600007, 0x600203, 0xA10001, 0xA10006] : List Nat) → x ∈ K) {s x1 x2}
    (h : Run f K s0 s) : Run f K s0 (State.takeover s x1 x2) := by
  have r1 := @setCell_run f K s0 (orr hf rfl) (sbk hK rfl)
  have r2 := @toDevice_run f K s0 (orr hf rfl) (sbk hK rfl)
  have r3 := @loadCell_run f K s0 (orr hf rfl) (sbk hK rfl)
  have j0 := sbk (a := [PD.CELL_TAKEOVERS]) hK rfl
  have u0 := orr (a := 270336) hf rfl
  unfold State.takeover
  repeat' first
    | with_reducible assumption
    | with_reducible apply bump_run j0
    | with_reducible apply r1
    | with_reducible apply r2
    | with_reducible apply r3
    | with_reducible apply RunOpt.map
    | split
    | with_reducible apply run_upd_place_arrays u0
    | dsimp only
    | intro _ _

theorem retireArrayCell_run {f K s0} (hf : 40067199198913 ||| f = f)
    (hK : ∀ x, x ∈ ([0x320104, 0x40100D, 0x401101, 0x507003, 0x600002, 0x600003, 0x600004, 0x600007, 0x600203, 0xA10001, 0xA10006] : List Nat) → x ∈ K) {s x1 x2 x3}
    (h : Run f K s0 s) : Run f K s0 (State.retireArrayCell s x1 x2 x3) := by
  have r1 := @retireCell_run f K s0 (orr hf rfl) (sbk hK rfl)
  have r2 := @takeover_run f K s0 (orr hf rfl) (sbk hK rfl)
  have u0 := orr (a := 262144) hf rfl
  unfold State.retireArrayCell
  repeat' first
    | with_reducible assumption
    | with_reducible apply r1
    | with_reducible apply r2
    | with_reducible apply ite_run
    | with_reducible apply RunOpt.map
    | split
    | with_reducible apply run_upd_arrays u0
    | dsimp only
    | intro _ _

theorem checkLower_run {f K s0} (hf : 2097152 ||| f = f)
    (hK : ∀ x, x ∈ ([] : List Nat) → x ∈ K) {s x1 x2 x3 x4 x5 x6}
    (h : Run f K s0 s) : Run f K s0 (State.checkLower s x1 x2 x3 x4 x5 x6) := by
  have r1 := @setLayerNum_run f K s0 (orr hf rfl) (sbk hK rfl)
  unfold State.checkLower
  repeat' first
    | with_reducible assumption
    | with_reducible apply r1
    | split
    | dsimp only
    | intro _ _

theorem checkStorm_run {f K s0} (hf : 39994752253952 ||| f = f)
    (hK : ∀ x, x ∈ ([0x502106, 0x600004, 0xA10001, 0xA10006] : List Nat) → x ∈ K) {s}
    (h : Run f K s0 s) : Run f K s0 (State.checkStorm s) := by
  have r1 := @reason_run f K s0 (orr hf rfl) (sbk hK rfl)
  have r2 := @spall_run f K s0 (orr hf rfl) (sbk hK rfl)
  have j0 := sbk (a := [PD.STORMS]) hK rfl
  have u0 := orr (a := 16793600) hf rfl
  unfold State.checkStorm
  repeat' first
    | with_reducible assumption
    | with_reducible apply bump_run j0
    | with_reducible apply r1
    | with_reducible apply r2
    | with_reducible apply ite_run
    | with_reducible apply RunOpt.map
    | with_reducible apply getD_run
    | split
    | with_reducible apply run_upd_triggers_storm u0
    | dsimp only
    | intro _ _

theorem keep_run {f K s0} (hf : 268435456 ||| f = f)
    (hK : ∀ x, x ∈ ([] : List Nat) → x ∈ K) {s x1}
    (h : Run f K s0 s) : Run f K s0 (State.keep s x1) := by
  have u0 := orr (a := 268435456) hf rfl
  unfold State.keep
  repeat' first
    | with_reducible assumption
    | split
    | with_reducible apply run_upd_backward u0
    | dsimp only
    | intro _ _

theorem closeWindow_run {f K s0} (hf : 4398046511104 ||| f = f)
    (hK : ∀ x, x ∈ ([] : List Nat) → x ∈ K) {s x1 x2}
    (h : Run f K s0 s) : Run f K s0 (State.closeWindow s x1 x2) := by
  have r1 := @closeWindows_run f K s0 (orr hf rfl) (sbk hK rfl)
  unfold State.closeWindow
  repeat' first
    | with_reducible assumption
    | with_reducible apply r1
    | split
    | dsimp only
    | intro _ _

theorem countGrout_run {f K s0} (hf : 2097152 ||| f = f)
    (hK : ∀ x, x ∈ ([0x501101, 0x501102, 0x507001, 0x507002, 0x600004] : List Nat) → x ∈ K) {s x1 x2 x3 x4}
    (h : Run f K s0 s) : Run f K s0 (State.countGrout s x1 x2 x3 x4) := by
  have r1 := @reason_run f K s0 (orr hf rfl) (sbk hK rfl)
  have r2 := @setLayerNum_run f K s0 (orr hf rfl) (sbk hK rfl)
  have j0 := sbk (a := [PD.GROUT_VALUES]) hK rfl
  have j1 := sbk (a := [PD.GROUT_EXCESS]) hK rfl
  have j2 := sbk (a := [PD.Q_UNDERFLOW]) hK rfl
  have j3 := sbk (a := [PD.Q_NONFINITE]) hK rfl
  unfold State.countGrout
  repeat' first
    | with_reducible assumption
    | with_reducible apply bumpBy_run j0
    | with_reducible apply bumpBy_run j1
    | with_reducible apply bumpBy_run j2
    | with_reducible apply bumpBy_run j3
    | with_reducible apply r1
    | with_reducible apply r2
    | with_reducible apply ite_run
    | (with_reducible apply foldl_run; intro _ _ _)
    | (with_reducible apply foldl_proj_run Prod.snd; intro _ _ _)
    | (with_reducible apply foldl_proj_run Prod.fst; intro _ _ _)
    | with_reducible apply run_of_snd (by with_reducible assumption)
    | with_reducible apply run_of_fst (by with_reducible assumption)
    | split
    | dsimp only
    | intro _ _

theorem logWiden_run {f K s0} (hf : 4194304 ||| f = f)
    (hK : ∀ x, x ∈ ([0x502101] : List Nat) → x ∈ K) {s x1 x2 x3 x4 x5}
    (h : Run f K s0 s) : Run f K s0 (State.logWiden s x1 x2 x3 x4 x5) := by
  have j0 := sbk (a := [PD.WIDEN_EVENTS]) hK rfl
  have u0 := orr (a := 4194304) hf rfl
  unfold State.logWiden
  repeat' first
    | with_reducible assumption
    | with_reducible apply bump_run j0
    | split
    | with_reducible apply run_upd_widenLog u0
    | dsimp only
    | intro _ _

theorem putOutRows_run {f K s0} (hf : 4294967296 ||| f = f)
    (hK : ∀ x, x ∈ ([] : List Nat) → x ∈ K) {s x1}
    (h : Run f K s0 s) : Run f K s0 (State.putOutRows s x1) := by
  have u0 := orr (a := 4294967296) hf rfl
  unfold State.putOutRows
  repeat' first
    | with_reducible assumption
    | (with_reducible apply each_run; intro _ _ _)
    | split
    | with_reducible apply run_upd_upd u0
    | dsimp only
    | intro _ _

theorem writeTiles_run {f K s0} (hf : 35192962023424 ||| f = f)
    (hK : ∀ x, x ∈ ([] : List Nat) → x ∈ K) {s x1 x2}
    (h : Run f K s0 s) : Run f K s0 (State.writeTiles s x1 x2) := by
  have r1 := @tileWrite_run f K s0 (orr hf rfl) (sbk hK rfl)
  unfold State.writeTiles
  repeat' first
    | with_reducible assumption
    | with_reducible apply r1
    | (with_reducible apply each_run; intro _ _ _)
    | split
    | dsimp only
    | intro _ _

theorem setRung_run {f K s0} (hf : 39999049318400 ||| f = f)
    (hK : ∀ x, x ∈ ([0x502106, 0x600004, 0xA10001, 0xA10006] : List Nat) → x ∈ K) {s x1 x2}
    (h : Run f K s0 s) : Run f K s0 (State.setRung s x1 x2) := by
  have r1 := @setLayerNum_run f K s0 (orr hf rfl) (sbk hK rfl)
  have r2 := @checkStorm_run f K s0 (orr hf rfl) (sbk hK rfl)
  have u0 := orr (a := 4294983680) hf rfl
  unfold State.setRung
  repeat' first
    | with_reducible assumption
    | with_reducible apply r1
    | with_reducible apply r2
    | split
    | with_reducible apply run_upd_triggers_upd u0
    | dsimp only
    | intro _ _

theorem widen_run {f K s0} (hf : 39999053512704 ||| f = f)
    (hK : ∀ x, x ∈ ([0x502101, 0x502106, 0x600004, 0xA10001, 0xA10006] : List Nat) → x ∈ K) {s x1 x2 x3 x4}
    (h : Run f K s0 s) : Run f K s0 (State.widen s x1 x2 x3 x4).2 := by
  have r1 := @setRung_run f K s0 (orr hf rfl) (sbk hK rfl)
  have r2 := @logWiden_run f K s0 (orr hf rfl) (sbk hK rfl)
  have r3 := @setLayerNum_run f K s0 (orr hf rfl) (sbk hK rfl)
  unfold State.widen
  repeat' first
    | with_reducible assumption
    | with_reducible apply r1
    | with_reducible apply r2
    | with_reducible apply r3
    | split
    | dsimp only
    | intro _ _

theorem deriveCopies_run {f K s0} (hf : 40007643447296 ||| f = f)
    (hK : ∀ x, x ∈ ([0x502101, 0x502104, 0x502105, 0x502106, 0x507001, 0x600004, 0x620209, 0x62020A, 0xA10001, 0xA10006] : List Nat) → x ∈ K) {s x1 x2 x3}
    (h : Run f K s0 s) : Run f K s0 (State.deriveCopies s x1 x2 x3).2 := by
  have r1 := @logWiden_run f K s0 (orr hf rfl) (sbk hK rfl)
  have r2 := @putOutRows_run f K s0 (orr hf rfl) (sbk hK rfl)
  have r3 := @writeTiles_run f K s0 (orr hf rfl) (sbk hK rfl)
  have r4 := @widen_run f K s0 (orr hf rfl) (sbk hK rfl)
  have r5 := @setLayerNum_run f K s0 (orr hf rfl) (sbk hK rfl)
  have j0 := sbk (a := [PD.RESCALES]) hK rfl
  have j1 := sbk (a := [PD.RESCALE_CLIPS]) hK rfl
  have j2 := sbk (a := [PD.Q_UNDERFLOW]) hK rfl
  have j3 := sbk (a := [PD.QUANT_CODES_CHANGED]) hK rfl
  have j4 := sbk (a := [PD.QUANT_SCALES_REPLACED]) hK rfl
  have u0 := orr (a := 4294967296) hf rfl
  unfold State.deriveCopies
  repeat' first
    | with_reducible assumption
    | with_reducible apply bumpBy_run j0
    | with_reducible apply bumpBy_run j1
    | with_reducible apply bumpBy_run j2
    | with_reducible apply bumpBy_run j3
    | with_reducible apply bumpBy_run j4
    | with_reducible apply r1
    | with_reducible apply r2
    | with_reducible apply r3
    | with_reducible apply r5
    | with_reducible apply ite_run
    | (with_reducible apply foldl_run; intro _ _ _)
    | (with_reducible apply foldl_proj_run Prod.snd; intro _ _ _)
    | (with_reducible apply foldl_proj_run Prod.fst; intro _ _ _)
    | with_reducible apply RunOpt.map
    | with_reducible apply run_of_snd (by with_reducible assumption)
    | with_reducible apply run_of_fst (by with_reducible assumption)
    | with_reducible apply getD_run
    | with_reducible apply r4
    | split
    | simp only [run_upd_upd_iff u0]
    | dsimp only
    | intro _ _

theorem dropStrike_run {f K s0} (hf : 268960768 ||| f = f)
    (hK : ∀ x, x ∈ ([0x40100B, 0x401101, 0x507002, 0x508201, 0x508202, 0x508203, 0x508204, 0x600004] : List Nat) → x ∈ K) {s x1 x2 x3 x4 x5 x6 x7}
    (h : Run f K s0 s) : Run f K s0 (State.dropStrike s x1 x2 x3 x4 x5 x6 x7) := by
  have r1 := @accept_run f K s0 (orr hf rfl) (sbk hK rfl)
  unfold State.dropStrike
  repeat' first
    | with_reducible assumption
    | with_reducible apply r1
    | split
    | dsimp only
    | intro _ _

theorem wgradTile_run {f K s0} (hf : 268435456 ||| f = f)
    (hK : ∀ x, x ∈ ([] : List Nat) → x ∈ K) {s x1 x2}
    (h : Run f K s0 s) : Run f K s0 (State.wgradTile s x1 x2).2 := by
  have u0 := orr (a := 268435456) hf rfl
  unfold State.wgradTile
  repeat' first
    | with_reducible assumption
    | with_reducible apply ite_run
    | with_reducible apply RunOpt.map
    | with_reducible apply getD_run
    | split
    | with_reducible apply run_upd_backward u0
    | dsimp only
    | intro _ _

theorem sendLayer_run {f K s0} (hf : 35256312791040 ||| f = f)
    (hK : ∀ x, x ∈ ([0x610107, 0x700208] : List Nat) → x ∈ K) {s x1}
    (h : Run f K s0 s) : Run f K s0 (State.sendLayer s x1) := by
  have r1 := @sendTo_run f K s0 (orr hf rfl) (sbk hK rfl)
  have r2 := @selfExclude_run f K s0 (orr hf rfl) (sbk hK rfl)
  have r3 := @beginPhase_run f K s0 (orr hf rfl) (sbk hK rfl)
  have r4 := @acceptOwn_run f K s0 (orr hf rfl) (sbk hK rfl)
  have u0 := orr (a := 2147483648) hf rfl
  unfold State.sendLayer
  repeat' first
    | with_reducible assumption
    | with_reducible apply r1
    | with_reducible apply r2
    | with_reducible apply r3
    | with_reducible apply r4
    | with_reducible apply ite_run
    | (with_reducible apply each_run; intro _ _ _)
    | split
    | with_reducible apply run_upd_exch u0
    | dsimp only
    | intro _ _

theorem exchangeDue_run {f K s0} (hf : 35256312792064 ||| f = f)
    (hK : ∀ x, x ∈ ([0x610107, 0x700208] : List Nat) → x ∈ K) {s x1}
    (h : Run f K s0 s) : Run f K s0 (State.exchangeDue s x1) := by
  have r1 := @setStream_run f K s0 (orr hf rfl) (sbk hK rfl)
  have r2 := @sendLayer_run f K s0 (orr hf rfl) (sbk hK rfl)
  unfold State.exchangeDue
  repeat' first
    | with_reducible assumption
    | with_reducible apply r1
    | with_reducible apply r2
    | with_reducible apply ite_run
    | split
    | dsimp only
    | intro _ _

theorem stageOut_run {f K s0} (hf : 35253091565568 ||| f = f)
    (hK : ∀ x, x ∈ ([0x700208] : List Nat) → x ∈ K) {s x1 x2}
    (h : Run f K s0 s) : Run f K s0 (State.stageOut s x1 x2) := by
  have r1 := @send_run f K s0 (orr hf rfl) (sbk hK rfl)
  unfold State.stageOut
  repeat' first
    | with_reducible assumption
    | with_reducible apply r1
    | (with_reducible apply each_run; intro _ _ _)
    | split
    | dsimp only
    | intro _ _

theorem emitted_run {f K s0} (hf : 35256581227520 ||| f = f)
    (hK : ∀ x, x ∈ ([0x610107, 0x700208] : List Nat) → x ∈ K) {s x1 x2}
    (h : Run f K s0 s) : Run f K s0 (State.emitted s x1 x2) := by
  have r1 := @wgradTile_run f K s0 (orr hf rfl) (sbk hK rfl)
  have r2 := @exchangeDue_run f K s0 (orr hf rfl) (sbk hK rfl)
  have r3 := @stageOut_run f K s0 (orr hf rfl) (sbk hK rfl)
  unfold State.emitted
  repeat' first
    | with_reducible assumption
    | with_reducible apply r2
    | with_reducible apply r3
    | with_reducible apply ite_run
    | (with_reducible apply each_run; intro _ _ _)
    | (with_reducible apply foldl_run; intro _ _ _)
    | (with_reducible apply foldl_proj_run Prod.snd; intro _ _ _)
    | (with_reducible apply foldl_proj_run Prod.fst; intro _ _ _)
    | with_reducible apply run_of_snd (by with_reducible assumption)
    | with_reducible apply run_of_fst (by with_reducible assumption)
    | with_reducible apply r1
    | split
    | dsimp only
    | intro _ _

theorem restartOp_run {f K s0} (hf : 2884608 ||| f = f)
    (hK : ∀ x, x ∈ ([0x502102] : List Nat) → x ∈ K) {s x1 x2}
    (h : Run f K s0 s) : Run f K s0 (State.restartOp s x1 x2) := by
  have r1 := @setLayerNum_run f K s0 (orr hf rfl) (sbk hK rfl)
  have r2 := @stopArrays_run f K s0 (orr hf rfl) (sbk hK rfl)
  have j0 := sbk (a := [PD.WIDEN_REPEATS]) hK rfl
  have u0 := orr (a := 263168) hf rfl
  unfold State.restartOp
  repeat' first
    | with_reducible assumption
    | with_reducible apply bump_run j0
    | with_reducible apply r1
    | with_reducible apply r2
    | with_reducible apply ite_run
    | with_reducible apply RunOpt.map
    | with_reducible apply getD_run
    | split
    | with_reducible apply run_upd_streams_arrays u0
    | dsimp only
    | intro _ _

theorem quantTile_run {f K s0} (hf : 35192964120576 ||| f = f)
    (hK : ∀ x, x ∈ ([0x501101, 0x501102, 0x507001, 0x507002, 0x600004] : List Nat) → x ∈ K) {s x1 x2 x3 x4 x5 x6}
    (h : Run f K s0 s) : Run f K s0 (State.quantTile s x1 x2 x3 x4 x5 x6).2 := by
  have r1 := @checkLower_run f K s0 (orr hf rfl) (sbk hK rfl)
  have r2 := @tileWrite_run f K s0 (orr hf rfl) (sbk hK rfl)
  have r3 := @countGrout_run f K s0 (orr hf rfl) (sbk hK rfl)
  unfold State.quantTile
  repeat' first
    | with_reducible assumption
    | with_reducible apply r1
    | with_reducible apply r2
    | with_reducible apply r3
    | with_reducible apply ite_run
    | (with_reducible apply foldl_run; intro _ _ _)
    | (with_reducible apply foldl_proj_run Prod.snd; intro _ _ _)
    | (with_reducible apply foldl_proj_run Prod.fst; intro _ _ _)
    | with_reducible apply run_of_snd (by with_reducible assumption)
    | with_reducible apply run_of_fst (by with_reducible assumption)
    | split
    | dsimp only
    | intro _ _

theorem quantInput_run {f K s0} (hf : 40007644234752 ||| f = f)
    (hK : ∀ x, x ∈ ([0x501101, 0x501102, 0x502101, 0x502102, 0x502104, 0x502105, 0x502106, 0x507001, 0x507002, 0x600004, 0xA10001, 0xA10006] : List Nat) → x ∈ K) {s x1 x2 x3 x4 x5}
    (h : Run f K s0 s) : Run f K s0 (State.quantInput s x1 x2 x3 x4 x5) := by
  have r1 := @checkLower_run f K s0 (orr hf rfl) (sbk hK rfl)
  have r2 := @restartOp_run f K s0 (orr hf rfl) (sbk hK rfl)
  have r3 := @quantTile_run f K s0 (orr hf rfl) (sbk hK rfl)
  have r4 := @widen_run f K s0 (orr hf rfl) (sbk hK rfl)
  have j0 := sbk (a := [PD.RESCALES]) hK rfl
  have j1 := sbk (a := [PD.RESCALE_CLIPS]) hK rfl
  unfold State.quantInput
  repeat' first
    | with_reducible assumption
    | with_reducible apply bumpBy_run j0
    | with_reducible apply bumpBy_run j1
    | with_reducible apply r1
    | with_reducible apply r2
    | with_reducible apply ite_run
    | (with_reducible apply foldl_run; intro _ _ _)
    | (with_reducible apply foldl_proj_run Prod.snd; intro _ _ _)
    | (with_reducible apply foldl_proj_run Prod.fst; intro _ _ _)
    | with_reducible apply run_of_snd (by with_reducible assumption)
    | with_reducible apply run_of_fst (by with_reducible assumption)
    | with_reducible apply r3
    | with_reducible apply r4
    | split
    | dsimp only
    | intro _ _

theorem emitPlain_run {f K s0} (hf : 40007644234752 ||| f = f)
    (hK : ∀ x, x ∈ ([0x501101, 0x501102, 0x502101, 0x502102, 0x502104, 0x502105, 0x502106, 0x507001, 0x507002, 0x600004, 0xA10001, 0xA10006] : List Nat) → x ∈ K) {s x1 x2 x3 x4 x5 x6 x7 x8 x9}
    (h : Run f K s0 s) : Run f K s0 (State.emitPlain s x1 x2 x3 x4 x5 x6 x7 x8 x9) := by
  have r1 := @logWiden_run f K s0 (orr hf rfl) (sbk hK rfl)
  have r2 := @countQuant_run f K s0 (orr hf rfl) (sbk hK rfl)
  have r3 := @tileWrite_run f K s0 (orr hf rfl) (sbk hK rfl)
  have r4 := @setLayerNum_run f K s0 (orr hf rfl) (sbk hK rfl)
  have r5 := @quantInput_run f K s0 (orr hf rfl) (sbk hK rfl)
  have u0 := orr (a := 262144) hf rfl
  unfold State.emitPlain
  repeat' first
    | with_reducible assumption
    | with_reducible apply r1
    | with_reducible apply r2
    | with_reducible apply r3
    | with_reducible apply r4
    | with_reducible apply r5
    | with_reducible apply ite_run
    | with_reducible apply getD_run
    | split
    | with_reducible apply run_upd_arrays u0
    | dsimp only
    | intro _ _

theorem plumb_run {f K s0} (hf : 10485760 ||| f = f)
    (hK : ∀ x, x ∈ ([0x503101, 0x600004] : List Nat) → x ∈ K) {s x1 x2 x3 x4 x5}
    (h : Run f K s0 s) : Run f K s0 (State.plumb s x1 x2 x3 x4 x5).2 := by
  have r1 := @reason_run f K s0 (orr hf rfl) (sbk hK rfl)
  have r2 := @setLayerNum_run f K s0 (orr hf rfl) (sbk hK rfl)
  have j0 := sbk (a := [PD.PLUMB_EVENTS]) hK rfl
  have u0 := orr (a := 8388608) hf rfl
  unfold State.plumb
  repeat' first
    | with_reducible assumption
    | with_reducible apply bump_run j0
    | with_reducible apply r1
    | with_reducible apply r2
    | with_reducible apply ite_run
    | split
    | simp only [run_upd_plumbLog_iff u0]
    | dsimp only
    | intro _ _

theorem monitor_run {f K s0} (hf : 39999330336768 ||| f = f)
    (hK : ∀ x, x ∈ ([0x502101, 0x502106, 0x503101, 0x600004, 0xA10001, 0xA10006] : List Nat) → x ∈ K) {s x1 x2 x3 x4}
    (h : Run f K s0 s) : Run f K s0 (State.monitor s x1 x2 x3 x4) := by
  have r1 := @plumb_run f K s0 (orr hf rfl) (sbk hK rfl)
  have r2 := @widen_run f K s0 (orr hf rfl) (sbk hK rfl)
  have u0 := orr (a := 268435456) hf rfl
  unfold State.monitor
  repeat' first
    | with_reducible assumption
    | with_reducible apply ite_run
    | with_reducible apply RunOpt.map
    | with_reducible apply run_of_snd (by with_reducible assumption)
    | with_reducible apply getD_run
    | with_reducible apply r1
    | with_reducible apply r2
    | split
    | simp only [run_upd_backward_iff u0]
    | dsimp only
    | intro _ _

theorem emitOut_run {f K s0} (hf : 40007921058816 ||| f = f)
    (hK : ∀ x, x ∈ ([0x501101, 0x501102, 0x502101, 0x502102, 0x502104, 0x502105, 0x502106, 0x503101, 0x507001, 0x507002, 0x600004, 0xA10001,
       0xA10006] : List Nat) → x ∈ K) {s x1 x2 x3 x4 x5 x6 x7 x8 x9}
    (h : Run f K s0 s) : Run f K s0 (State.emitOut s x1 x2 x3 x4 x5 x6 x7 x8 x9) := by
  have r1 := @monitor_run f K s0 (orr hf rfl) (sbk hK rfl)
  have r2 := @emitPlain_run f K s0 (orr hf rfl) (sbk hK rfl)
  unfold State.emitOut
  repeat' first
    | with_reducible assumption
    | with_reducible apply r1
    | with_reducible apply r2
    | split
    | dsimp only
    | intro _ _

theorem emitRange_run {f K s0} (hf : 40007921058816 ||| f = f)
    (hK : ∀ x, x ∈ ([0x501101, 0x501102, 0x502101, 0x502102, 0x502104, 0x502105, 0x502106, 0x503101, 0x507001, 0x507002, 0x600004, 0xA10001,
       0xA10006] : List Nat) → x ∈ K) {s x1 x2 x3}
    (h : Run f K s0 s) : Run f K s0 (State.emitRange s x1 x2 x3) := by
  have r1 := @emitOut_run f K s0 (orr hf rfl) (sbk hK rfl)
  unfold State.emitRange
  repeat' first
    | with_reducible assumption
    | with_reducible apply r1
    | with_reducible apply ite_run
    | (with_reducible apply each_run; intro _ _ _)
    | split
    | dsimp only
    | intro _ _

theorem endForward_run {f K s0} (hf : 270795776 ||| f = f)
    (hK : ∀ x, x ∈ ([0x507002, 0x508201, 0x508202, 0x508203, 0x508204, 0x600004] : List Nat) → x ∈ K) {s x1}
    (h : Run f K s0 s) : Run f K s0 (State.endForward s x1) := by
  have r1 := @putBeds_run f K s0 (orr hf rfl) (sbk hK rfl)
  have r2 := @setLayerNum_run f K s0 (orr hf rfl) (sbk hK rfl)
  have r3 := @countBeds_run f K s0 (orr hf rfl) (sbk hK rfl)
  have u0 := orr (a := 262144) hf rfl
  unfold State.endForward
  repeat' first
    | with_reducible assumption
    | with_reducible apply r1
    | with_reducible apply r2
    | with_reducible apply r3
    | (with_reducible apply each_run; intro _ _ _)
    | split
    | with_reducible apply run_upd_arrays u0
    | dsimp only
    | intro _ _

theorem keepOutput_run {f K s0} (hf : 268435456 ||| f = f)
    (hK : ∀ x, x ∈ ([] : List Nat) → x ∈ K) {s x1 x2 x3 x4 x5}
    (h : Run f K s0 s) : Run f K s0 (State.keepOutput s x1 x2 x3 x4 x5) := by
  have r1 := @keep_run f K s0 (orr hf rfl) (sbk hK rfl)
  unfold State.keepOutput
  repeat' first
    | with_reducible assumption
    | with_reducible apply r1
    | with_reducible apply ite_run
    | (with_reducible apply each_run; intro _ _ _)
    | split
    | dsimp only
    | intro _ _

theorem keptLintel_run {f K s0} (hf : 262144 ||| f = f)
    (hK : ∀ x, x ∈ ([] : List Nat) → x ∈ K) {s x1 x2}
    (h : Run f K s0 s) : Run f K s0 (State.keptLintel s x1 x2) := by
  have u0 := orr (a := 262144) hf rfl
  unfold State.keptLintel
  repeat' first
    | with_reducible assumption
    | split
    | with_reducible apply run_upd_arrays u0
    | dsimp only
    | intro _ _

theorem endReplay_run {f K s0} (hf : 268697600 ||| f = f)
    (hK : ∀ x, x ∈ ([0x510107] : List Nat) → x ∈ K) {s x1}
    (h : Run f K s0 s) : Run f K s0 (State.endReplay s x1) := by
  have r1 := @keepOutput_run f K s0 (orr hf rfl) (sbk hK rfl)
  have r2 := @keptLintel_run f K s0 (orr hf rfl) (sbk hK rfl)
  have j0 := sbk (a := [PD.RECOMPUTE_OPS]) hK rfl
  have u0 := orr (a := 268435456) hf rfl
  unfold State.endReplay
  repeat' first
    | with_reducible assumption
    | with_reducible apply bump_run j0
    | with_reducible apply r1
    | with_reducible apply r2
    | (with_reducible apply each_run; intro _ _ _)
    | (with_reducible apply foldl_run; intro _ _ _)
    | (with_reducible apply foldl_proj_run Prod.snd; intro _ _ _)
    | (with_reducible apply foldl_proj_run Prod.fst; intro _ _ _)
    | with_reducible apply RunOpt.map
    | with_reducible apply run_of_snd (by with_reducible assumption)
    | with_reducible apply run_of_fst (by with_reducible assumption)
    | with_reducible apply getD_run
    | split
    | with_reducible apply run_upd_backward u0
    | dsimp only
    | intro _ _

theorem placeWaited_run {f K s0} (hf : 196608 ||| f = f)
    (hK : ∀ x, x ∈ ([0x320102] : List Nat) → x ∈ K) {s}
    (h : Run f K s0 s) : Run f K s0 (State.placeWaited s) := by
  have j0 := sbk (a := [PD.PLACE_WAIT_NS]) hK rfl
  have u0 := orr (a := 131072) hf rfl
  have u1 := orr (a := 65536) hf rfl
  unfold State.placeWaited
  repeat' first
    | with_reducible assumption
    | with_reducible apply bumpBy_run j0
    | split
    | with_reducible apply run_upd_placeWait u0
    | with_reducible apply run_upd_placing u1
    | dsimp only
    | intro _ _

theorem formParts_run {f K s0} (hf : 201326592 ||| f = f)
    (hK : ∀ x, x ∈ ([0x508102, 0x508103, 0x508104] : List Nat) → x ∈ K) {s x1 x2 x3 x4 x5}
    (h : Run f K s0 s) : Run f K s0 (State.formParts s x1 x2 x3 x4 x5) := by
  have j0 := sbk (a := [PD.JOINTS_ROUNDED]) hK rfl
  have j1 := sbk (a := [PD.JOINTS_EXACT]) hK rfl
  have j2 := sbk (a := [PD.JOINT_EXACT_BYTES]) hK rfl
  have u0 := orr (a := 67108864) hf rfl
  have u1 := orr (a := 134217728) hf rfl
  unfold State.formParts
  repeat' first
    | with_reducible assumption
    | with_reducible apply bumpBy_run j0
    | with_reducible apply bumpBy_run j1
    | with_reducible apply bumpBy_run j2
    | with_reducible apply ite_run
    | (with_reducible apply each_run; intro _ _ _)
    | split
    | with_reducible apply run_upd_jointParts u0
    | with_reducible apply run_upd_jointWaits u1
    | dsimp only
    | intro _ _

theorem sendSets_run {f K s0} (hf : 35255239049216 ||| f = f)
    (hK : ∀ x, x ∈ ([0x700208] : List Nat) → x ∈ K) {s}
    (h : Run f K s0 s) : Run f K s0 (State.sendSets s) := by
  have r1 := @sendTo_run f K s0 (orr hf rfl) (sbk hK rfl)
  have u0 := orr (a := 2147483648) hf rfl
  unfold State.sendSets
  repeat' first
    | with_reducible assumption
    | with_reducible apply r1
    | with_reducible apply ite_run
    | (with_reducible apply each_run; intro _ _ _)
    | with_reducible apply RunOpt.map
    | with_reducible apply getD_run
    | split
    | with_reducible apply run_upd_exch u0
    | dsimp only
    | intro _ _

theorem forwardEnds_run {f K s0} (hf : 35256312791040 ||| f = f)
    (hK : ∀ x, x ∈ ([0x700208] : List Nat) → x ∈ K) {s}
    (h : Run f K s0 s) : Run f K s0 (State.forwardEnds s) := by
  have r1 := @sendSets_run f K s0 (orr hf rfl) (sbk hK rfl)
  have u0 := orr (a := 1073741824) hf rfl
  unfold State.forwardEnds
  repeat' first
    | with_reducible assumption
    | with_reducible apply r1
    | with_reducible apply ite_run
    | split
    | with_reducible apply run_upd_step u0
    | dsimp only
    | intro _ _

theorem readyCopies_run {f K s0} (hf : 40007643447296 ||| f = f)
    (hK : ∀ x, x ∈ ([0x502101, 0x502104, 0x502105, 0x502106, 0x507001, 0x600004, 0x620209, 0x62020A, 0xA10001, 0xA10006] : List Nat) → x ∈ K) {s x1}
    (h : Run f K s0 s) : Run f K s0 (State.readyCopies s x1) := by
  have r1 := @putOutRows_run f K s0 (orr hf rfl) (sbk hK rfl)
  have r2 := @deriveCopies_run f K s0 (orr hf rfl) (sbk hK rfl)
  unfold State.readyCopies
  repeat' first
    | with_reducible assumption
    | with_reducible apply r1
    | with_reducible apply ite_run
    | (with_reducible apply each_run; intro _ _ _)
    | with_reducible apply run_of_snd (by with_reducible assumption)
    | with_reducible apply r2
    | split
    | dsimp only
    | intro _ _

theorem load_run {f K s0} (hf : 40007644233728 ||| f = f)
    (hK : ∀ x, x ∈ ([0x40100D, 0x401101, 0x502101, 0x502104, 0x502105, 0x502106, 0x507001, 0x507003, 0x600004, 0x620209, 0x62020A, 0xA10001,
       0xA10006] : List Nat) → x ∈ K) {s x1 x2}
    (h : Run f K s0 s) : Run f K s0 (State.load s x1 x2) := by
  have r1 := @readyCopies_run f K s0 (orr hf rfl) (sbk hK rfl)
  have r2 := @loadCell_run f K s0 (orr hf rfl) (sbk hK rfl)
  have u0 := orr (a := 262144) hf rfl
  unfold State.load
  repeat' first
    | with_reducible assumption
    | with_reducible apply r1
    | with_reducible apply r2
    | with_reducible apply ite_run
    | (with_reducible apply each_run; intro _ _ _)
    | split
    | with_reducible apply run_upd_arrays u0
    | dsimp only
    | intro _ _

theorem rewriteArrays_run {f K s0} (hf : 40007644233728 ||| f = f)
    (hK : ∀ x, x ∈ ([0x40100D, 0x401101, 0x502101, 0x502104, 0x502105, 0x502106, 0x507001, 0x507003, 0x600004, 0x620209, 0x62020A, 0xA10001,
       0xA10006] : List Nat) → x ∈ K) {s}
    (h : Run f K s0 s) : Run f K s0 (State.rewriteArrays s) := by
  have r1 := @load_run f K s0 (orr hf rfl) (sbk hK rfl)
  have u0 := orr (a := 262144) hf rfl
  unfold State.rewriteArrays
  repeat' first
    | with_reducible assumption
    | with_reducible apply r1
    | with_reducible apply ite_run
    | (with_reducible apply each_run; intro _ _ _)
    | split
    | with_reducible apply run_upd_arrays u0
    | dsimp only
    | intro _ _

theorem storeLost_run {f K s0} (hf : 40067199190721 ||| f = f)
    (hK : ∀ x, x ∈ ([0x110103, 0x600002, 0x600003, 0x600004, 0x600007, 0x600203, 0x800202, 0xA10001, 0xA10006] : List Nat) → x ∈ K) {s x1 x2 x3}
    (h : Run f K s0 s) : Run f K s0 (State.storeLost s x1 x2 x3) := by
  have r1 := @toDevice_run f K s0 (orr hf rfl) (sbk hK rfl)
  have r2 := @spall_run f K s0 (orr hf rfl) (sbk hK rfl)
  have j0 := sbk (a := [PD.ESC_REGION_TO_DEVICE]) hK rfl
  have j1 := sbk (a := [PD.GUARD_UNCORRECTABLE]) hK rfl
  unfold State.storeLost
  repeat' first
    | with_reducible assumption
    | with_reducible apply bump_run j0
    | with_reducible apply bump_run j1
    | with_reducible apply r1
    | with_reducible apply r2
    | with_reducible apply ite_run
    | split
    | dsimp only
    | intro _ _

theorem preload_run {f K s0} (hf : 40007644233728 ||| f = f)
    (hK : ∀ x, x ∈ ([0x40100D, 0x401101, 0x502101, 0x502104, 0x502105, 0x502106, 0x507001, 0x507003, 0x600004, 0x620209, 0x62020A, 0xA10001,
       0xA10006] : List Nat) → x ∈ K) {s}
    (h : Run f K s0 s) : Run f K s0 (State.preload s) := by
  have r1 := @load_run f K s0 (orr hf rfl) (sbk hK rfl)
  unfold State.preload
  repeat' first
    | with_reducible assumption
    | with_reducible apply r1
    | with_reducible apply ite_run
    | split
    | dsimp only
    | intro _ _

theorem nextInSequence_run {f K s0} (hf : 40079584935936 ||| f = f)
    (hK : ∀ x, x ∈ ([0x40100D, 0x401101, 0x502101, 0x502104, 0x502105, 0x502106, 0x507001, 0x507003, 0x600004, 0x620209, 0x62020A, 0x700208,
       0xA10001, 0xA10006] : List Nat) → x ∈ K) {s x1}
    (h : Run f K s0 s) : Run f K s0 (State.nextInSequence s x1) := by
  have r1 := @forwardEnds_run f K s0 (orr hf rfl) (sbk hK rfl)
  have r2 := @preload_run f K s0 (orr hf rfl) (sbk hK rfl)
  have u0 := orr (a := 262144) hf rfl
  unfold State.nextInSequence
  repeat' first
    | with_reducible assumption
    | with_reducible apply r1
    | with_reducible apply r2
    | with_reducible apply ite_run
    | split
    | with_reducible apply run_upd_arrays u0
    | dsimp only
    | intro _ _

theorem opPlumb_run {f K s0} (hf : 40007652623360 ||| f = f)
    (hK : ∀ x, x ∈ ([0x501101, 0x501102, 0x502101, 0x502102, 0x502104, 0x502105, 0x502106, 0x503101, 0x507001, 0x507002, 0x600004, 0xA10001,
       0xA10006] : List Nat) → x ∈ K) {s x1}
    (h : Run f K s0 s) : Run f K s0 (State.opPlumb s x1).2 := by
  have r1 := @plumb_run f K s0 (orr hf rfl) (sbk hK rfl)
  have r2 := @restartOp_run f K s0 (orr hf rfl) (sbk hK rfl)
  have r3 := @widen_run f K s0 (orr hf rfl) (sbk hK rfl)
  have r4 := @quantInput_run f K s0 (orr hf rfl) (sbk hK rfl)
  unfold State.opPlumb
  repeat' first
    | with_reducible assumption
    | with_reducible apply r2
    | with_reducible apply r4
    | with_reducible apply ite_run
    | (with_reducible apply each_run; intro _ _ _)
    | with_reducible apply run_of_snd (by with_reducible assumption)
    | with_reducible apply r1
    | with_reducible apply r3
    | split
    | dsimp only
    | intro _ _

theorem putFrog_run {f K s0} (hf : 805306368 ||| f = f)
    (hK : ∀ x, x ∈ ([0x51010B] : List Nat) → x ∈ K) {s x1}
    (h : Run f K s0 s) : Run f K s0 (State.putFrog s x1) := by
  have j0 := sbk (a := [PD.FROG_SPILL_RUNS]) hK rfl
  have u0 := orr (a := 268435456) hf rfl
  have u1 := orr (a := 536870912) hf rfl
  unfold State.putFrog
  repeat' first
    | with_reducible assumption
    | with_reducible apply bumpBy_run j0
    | split
    | with_reducible apply run_upd_backward u0
    | with_reducible apply run_upd_frogMost u1
    | dsimp only
    | intro _ _

theorem runRow_run {f K s0} (hf : 40008457929728 ||| f = f)
    (hK : ∀ x, x ∈ ([0x501101, 0x501102, 0x502101, 0x502102, 0x502104, 0x502105, 0x502106, 0x503101, 0x507001, 0x507002, 0x508201, 0x508202, 0x508203, 0x508204, 0x510106, 0x51010B,
       0x51010C, 0x51010D, 0x51010F, 0x600004, 0xA10001, 0xA10006] : List Nat) → x ∈ K) {s x1 x2 x3 x4 x5 x6}
    (h : Run f K s0 s) : Run f K s0 (State.runRow s x1 x2 x3 x4 x5 x6).1 := by
  have r1 := @putFrog_run f K s0 (orr hf rfl) (sbk hK rfl)
  have r2 := @emitOut_run f K s0 (orr hf rfl) (sbk hK rfl)
  have r3 := @countBeds_run f K s0 (orr hf rfl) (sbk hK rfl)
  have j0 := sbk (a := [PD.ROW_ROWS]) hK rfl
  have j1 := sbk (a := [PD.FROG_WAITS]) hK rfl
  have j2 := sbk (a := [PD.FROG_MISSING]) hK rfl
  have j3 := sbk (a := [PD.KEPT_MISSING]) hK rfl
  have u0 := orr (a := 268435456) hf rfl
  unfold State.runRow
  repeat' first
    | with_reducible assumption
    | with_reducible apply bump_run j1
    | with_reducible apply bump_run j2
    | with_reducible apply bump_run j3
    | with_reducible apply bumpBy_run j0
    | with_reducible apply r1
    | with_reducible apply r2
    | with_reducible apply r3
    | with_reducible apply ite_run
    | (with_reducible apply each_run; intro _ _ _)
    | (with_reducible apply foldl_run; intro _ _ _)
    | (with_reducible apply foldl_proj_run Prod.snd; intro _ _ _)
    | (with_reducible apply foldl_proj_run Prod.fst; intro _ _ _)
    | with_reducible apply run_of_snd (by with_reducible assumption)
    | with_reducible apply run_of_fst (by with_reducible assumption)
    | with_reducible apply getD_run
    | split
    | simp only [run_upd_backward_iff u0]
    | dsimp only
    | intro _ _

theorem runTopk_run {f K s0} (hf : 35192962023424 ||| f = f)
    (hK : ∀ x, x ∈ ([0x507002, 0x508301, 0x508302, 0x600004] : List Nat) → x ∈ K) {s x1 x2 x3 x4}
    (h : Run f K s0 s) : Run f K s0 (State.runTopk s x1 x2 x3 x4).1 := by
  have r1 := @tileWrite_run f K s0 (orr hf rfl) (sbk hK rfl)
  have r2 := @reason_run f K s0 (orr hf rfl) (sbk hK rfl)
  have j0 := sbk (a := [PD.Q_NONFINITE]) hK rfl
  have j1 := sbk (a := [PD.TOPK_NAN]) hK rfl
  have j2 := sbk (a := [PD.TOPK_ROWS]) hK rfl
  unfold State.runTopk
  repeat' first
    | with_reducible assumption
    | with_reducible apply bumpBy_run j0
    | with_reducible apply bumpBy_run j1
    | with_reducible apply bumpBy_run j2
    | with_reducible apply r1
    | with_reducible apply r2
    | with_reducible apply ite_run
    | (with_reducible apply each_run; intro _ _ _)
    | with_reducible apply getD_run
    | split
    | dsimp only
    | intro _ _

theorem runTiles_run {f K s0} (hf : 0 ||| f = f)
    (hK : ∀ x, x ∈ ([] : List Nat) → x ∈ K) {s x0 x1}
    (hx : ∀ t j, Run f K s0 t → Run f K s0 (x1 t j).1)     (h : Run f K s0 s) : Run f K s0 (runTiles x0 x1 s).1 := by
  unfold runTiles
  repeat' first
    | with_reducible assumption
    | apply hx
    | with_reducible apply ite_run
    | (with_reducible apply foldl_run; intro _ _ _)
    | (with_reducible apply foldl_proj_run Prod.snd; intro _ _ _)
    | (with_reducible apply foldl_proj_run Prod.fst; intro _ _ _)
    | with_reducible apply run_of_snd (by with_reducible assumption)
    | with_reducible apply run_of_fst (by with_reducible assumption)
    | split
    | dsimp only
    | intro _ _

theorem runHod_run {f K s0} (hf : 35192962023424 ||| f = f)
    (hK : ∀ x, x ∈ ([0x510108, 0x510109] : List Nat) → x ∈ K) {s x1 x2 x3 x4}
    (h : Run f K s0 s) : Run f K s0 (State.runHod s x1 x2 x3 x4).1 := by
  have r1 := @tileWrite_run f K s0 (orr hf rfl) (sbk hK rfl)
  have r2 := @runTiles_run f K s0 (orr hf rfl) (sbk hK rfl)
  have r3 := @homeWrite_run f K s0 (orr hf rfl) (sbk hK rfl)
  have r4 := @emit_run f K s0 (orr hf rfl) (sbk hK rfl)
  have j0 := sbk (a := [PD.CKPT_SPILL_BYTES]) hK rfl
  have j1 := sbk (a := [PD.CKPT_PREFETCH_BYTES]) hK rfl
  unfold State.runHod
  repeat' first
    | with_reducible assumption
    | with_reducible apply bumpBy_run j0
    | with_reducible apply bumpBy_run j1
    | with_reducible apply r1
    | with_reducible apply r3
    | with_reducible apply r4
    | with_reducible apply ite_run
    | with_reducible apply RunOpt.map
    | with_reducible apply run_of_fst (by with_reducible assumption)
    | with_reducible apply getD_run
    | (with_reducible apply r2; intro _ _ _)
    | split
    | dsimp only
    | intro _ _

theorem runAct_run {f K s0} (hf : 40007921058816 ||| f = f)
    (hK : ∀ x, x ∈ ([0x501101, 0x501102, 0x502101, 0x502102, 0x502104, 0x502105, 0x502106, 0x503101, 0x507001, 0x507002, 0x510105, 0x51010F,
       0x600004, 0xA10001, 0xA10006] : List Nat) → x ∈ K) {s x1 x2 x3 x4 x5}
    (h : Run f K s0 s) : Run f K s0 (State.runAct s x1 x2 x3 x4 x5).1 := by
  have r1 := @keep_run f K s0 (orr hf rfl) (sbk hK rfl)
  have r2 := @runTiles_run f K s0 (orr hf rfl) (sbk hK rfl)
  have r3 := @emitOut_run f K s0 (orr hf rfl) (sbk hK rfl)
  have j0 := sbk (a := [PD.ACT_DERIV_TILES]) hK rfl
  have j1 := sbk (a := [PD.KEPT_MISSING]) hK rfl
  unfold State.runAct
  repeat' first
    | with_reducible assumption
    | with_reducible apply bump_run j0
    | with_reducible apply bump_run j1
    | with_reducible apply bumpBy_run j0
    | with_reducible apply r1
    | with_reducible apply r3
    | with_reducible apply ite_run
    | with_reducible apply run_of_fst (by with_reducible assumption)
    | with_reducible apply getD_run
    | (with_reducible apply r2; intro _ _ _)
    | split
    | dsimp only
    | intro _ _

theorem runAttn_run {f K s0} (hf : 40008457929728 ||| f = f)
    (hK : ∀ x, x ∈ ([0x501101, 0x501102, 0x502101, 0x502102, 0x502104, 0x502105, 0x502106, 0x503101, 0x507001, 0x507002, 0x51010B, 0x51010E,
       0x600004, 0xA10001, 0xA10006] : List Nat) → x ∈ K) {s x1 x2 x3 x4 x5 x6}
    (h : Run f K s0 s) : Run f K s0 (State.runAttn s x1 x2 x3 x4 x5 x6).1 := by
  have r1 := @runTiles_run f K s0 (orr hf rfl) (sbk hK rfl)
  have r2 := @putFrog_run f K s0 (orr hf rfl) (sbk hK rfl)
  have r3 := @emitOut_run f K s0 (orr hf rfl) (sbk hK rfl)
  have j0 := sbk (a := [PD.ATTN_DROPPED]) hK rfl
  unfold State.runAttn
  repeat' first
    | with_reducible assumption
    | with_reducible apply bumpBy_run j0
    | with_reducible apply r2
    | with_reducible apply r3
    | with_reducible apply ite_run
    | (with_reducible apply foldl_run; intro _ _ _)
    | (with_reducible apply foldl_proj_run Prod.snd; intro _ _ _)
    | (with_reducible apply foldl_proj_run Prod.fst; intro _ _ _)
    | with_reducible apply run_of_snd (by with_reducible assumption)
    | with_reducible apply run_of_fst (by with_reducible assumption)
    | (with_reducible apply r1; intro _ _ _)
    | split
    | dsimp only
    | intro _ _

theorem setJointMode_run {f K s0} (hf : 33554432 ||| f = f)
    (hK : ∀ x, x ∈ ([] : List Nat) → x ∈ K) {s x1}
    (h : Run f K s0 s) : Run f K s0 (State.setJointMode s x1) := by
  have u0 := orr (a := 33554432) hf rfl
  unfold State.setJointMode
  repeat' first
    | with_reducible assumption
    | split
    | with_reducible apply run_upd_jointModes u0
    | dsimp only
    | intro _ _

theorem execJoint_run {f K s0} (hf : 40080096642048 ||| f = f)
    (hK : ∀ x, x ∈ ([0x501101, 0x501102, 0x502101, 0x502102, 0x502104, 0x502105, 0x502106, 0x503101, 0x507001, 0x507002, 0x600004, 0x610107,
       0x700208, 0xA10001, 0xA10006] : List Nat) → x ∈ K) {s x0 x1 x2 x3}
    (h : Run f K s0 s) : RunRes f K s0 (execJoint x0 x1 x2 x3 s) := by
  have r1 := @emitted_run f K s0 (orr hf rfl) (sbk hK rfl)
  have r2 := @setJointMode_run f K s0 (orr hf rfl) (sbk hK rfl)
  have r3 := @emitOut_run f K s0 (orr hf rfl) (sbk hK rfl)
  have u0 := orr (a := 201326592) hf rfl
  unfold execJoint
  repeat' first
    | with_reducible assumption
    | with_reducible apply r1
    | with_reducible apply r2
    | with_reducible apply r3
    | with_reducible apply RunRes.ite
    | with_reducible apply ite_run
    | with_reducible apply RunRes.next
    | (with_reducible apply foldl_run; intro _ _ _)
    | (with_reducible apply foldl_proj_run Prod.snd; intro _ _ _)
    | (with_reducible apply foldl_proj_run Prod.fst; intro _ _ _)
    | with_reducible apply run_of_snd (by with_reducible assumption)
    | with_reducible apply run_of_fst (by with_reducible assumption)
    | split
    | with_reducible apply run_upd_jointParts_jointWaits u0
    | dsimp only
    | intro _ _

theorem retireDue_run {f K s0} (hf : 39994735476736 ||| f = f)
    (hK : ∀ x, x ∈ ([0xA10001, 0xA10006] : List Nat) → x ∈ K) {s}
    (h : Run f K s0 s) : Run f K s0 (State.retireDue s) := by
  have r1 := @retireBlock_run f K s0 (orr hf rfl) (sbk hK rfl)
  have u0 := orr (a := 4398046511104) hf rfl
  unfold State.retireDue
  repeat' first
    | with_reducible assumption
    | with_reducible apply r1
    | (with_reducible apply each_run; intro _ _ _)
    | split
    | with_reducible apply run_upd_faults u0
    | dsimp only
    | intro _ _

theorem scout_run {f K s0} (hf : 40007644234752 ||| f = f)
    (hK : ∀ x, x ∈ ([0x501101, 0x501102, 0x502101, 0x502102, 0x502104, 0x502105, 0x502106, 0x507001, 0x507002, 0x507004, 0x600004, 0xA10001,
       0xA10006] : List Nat) → x ∈ K) {s x1 x2 x3}
    (h : Run f K s0 s) : Run f K s0 (State.scout s x1 x2 x3) := by
  have r1 := @setLayerNum_run f K s0 (orr hf rfl) (sbk hK rfl)
  have r2 := @quantInput_run f K s0 (orr hf rfl) (sbk hK rfl)
  have j0 := sbk (a := [PD.SCOUT_PASSES]) hK rfl
  unfold State.scout
  repeat' first
    | with_reducible assumption
    | with_reducible apply bump_run j0
    | with_reducible apply r1
    | with_reducible apply r2
    | with_reducible apply ite_run
    | (with_reducible apply each_run; intro _ _ _)
    | (with_reducible apply foldl_run; intro _ _ _)
    | (with_reducible apply foldl_proj_run Prod.snd; intro _ _ _)
    | (with_reducible apply foldl_proj_run Prod.fst; intro _ _ _)
    | with_reducible apply run_of_snd (by with_reducible assumption)
    | with_reducible apply run_of_fst (by with_reducible assumption)
    | split
    | dsimp only
    | intro _ _

theorem scoutFor_run {f K s0} (hf : 40007644234752 ||| f = f)
    (hK : ∀ x, x ∈ ([0x501101, 0x501102, 0x502101, 0x502102, 0x502104, 0x502105, 0x502106, 0x507001, 0x507002, 0x507004, 0x600004, 0xA10001,
       0xA10006] : List Nat) → x ∈ K) {s x1}
    (h : Run f K s0 s) : Run f K s0 (State.scoutFor s x1) := by
  have r1 := @scout_run f K s0 (orr hf rfl) (sbk hK rfl)
  unfold State.scoutFor
  repeat' first
    | with_reducible assumption
    | with_reducible apply r1
    | with_reducible apply ite_run
    | split
    | dsimp only
    | intro _ _

theorem splitStrike_run {f K s0} (hf : 4398047297536 ||| f = f)
    (hK : ∀ x, x ∈ ([0x401002, 0x401003, 0x401101] : List Nat) → x ∈ K) {s x1 x2 x3 x4 x5 x6 x7 x8}
    (h : Run f K s0 s) : Run f K s0 (State.splitStrike s x1 x2 x3 x4 x5 x6 x7 x8) := by
  have r1 := @setCell_run f K s0 (orr hf rfl) (sbk hK rfl)
  have r2 := @closeWindow_run f K s0 (orr hf rfl) (sbk hK rfl)
  have r3 := @setRowMode_run f K s0 (orr hf rfl) (sbk hK rfl)
  have j0 := sbk (a := [PD.ARR_SKIPPED]) hK rfl
  have j1 := sbk (a := [PD.ARR_OVERRANGE]) hK rfl
  have ja := sbk (a := [PD.ARR_DIE_STATS]) hK rfl
  unfold State.splitStrike
  repeat' first
    | with_reducible assumption
    | with_reducible apply arr_run j0 ja
    | with_reducible apply arr_run j1 ja
    | with_reducible apply r1
    | with_reducible apply r2
    | with_reducible apply r3
    | with_reducible apply ite_run
    | split
    | dsimp only
    | intro _ _

theorem startPart_run {f K s0} (hf : 786432 ||| f = f)
    (hK : ∀ x, x ∈ ([0x401002, 0x401005, 0x401101] : List Nat) → x ∈ K) {s x1 x2}
    (h : Run f K s0 s) : Run f K s0 (State.startPart s x1 x2) := by
  have r1 := @addStrikes_run f K s0 (orr hf rfl) (sbk hK rfl)
  have u0 := orr (a := 262144) hf rfl
  unfold State.startPart
  repeat' first
    | with_reducible assumption
    | with_reducible apply r1
    | with_reducible apply ite_run
    | (with_reducible apply each_run; intro _ _ _)
    | split
    | with_reducible apply run_upd_arrays u0
    | dsimp only
    | intro _ _

theorem substitute_run {f K s0} (hf : 40067199190721 ||| f = f)
    (hK : ∀ x, x ∈ ([0x110102, 0x110103, 0x40100B, 0x401101, 0x507002, 0x508201, 0x508202, 0x508203, 0x508204, 0x600002, 0x600003, 0x600004,
       0x600007, 0x600203, 0xA10001, 0xA10006] : List Nat) → x ∈ K) {s x1 x2 x3 x4 x5 x6 x7 x8}
    (h : Run f K s0 s) : Run f K s0 (State.substitute s x1 x2 x3 x4 x5 x6 x7 x8) := by
  have r1 := @setCell_run f K s0 (orr hf rfl) (sbk hK rfl)
  have r2 := @regionFromBlock_run f K s0 (orr hf rfl) (sbk hK rfl)
  have r3 := @dropStrike_run f K s0 (orr hf rfl) (sbk hK rfl)
  have r4 := @openWindow_run f K s0 (orr hf rfl) (sbk hK rfl)
  have j0 := sbk (a := [PD.ESC_BLOCK_TO_REGION]) hK rfl
  unfold State.substitute
  repeat' first
    | with_reducible assumption
    | with_reducible apply bump_run j0
    | with_reducible apply r1
    | with_reducible apply r2
    | with_reducible apply r3
    | with_reducible apply r4
    | with_reducible apply ite_run
    | split
    | dsimp only
    | intro _ _

theorem strikeFailed_run {f K s0} (hf : 40067199198913 ||| f = f)
    (hK : ∀ x, x ∈ ([0x110101, 0x110102, 0x110103, 0x320104, 0x40100B, 0x40100D, 0x401101, 0x507002, 0x507003, 0x508201, 0x508202, 0x508203,
       0x508204, 0x600002, 0x600003, 0x600004, 0x600007, 0x600203, 0xA00106, 0xA00108, 0xA00109, 0xA10001, 0xA10006] : List Nat) → x ∈ K) {s x1 x2 x3 x4 x5 x6 x7 x8}
    (h : Run f K s0 s) : Run f K s0 (State.strikeFailed s x1 x2 x3 x4 x5 x6 x7 x8) := by
  have r1 := @setCell_run f K s0 (orr hf rfl) (sbk hK rfl)
  have r2 := @regionFromBlock_run f K s0 (orr hf rfl) (sbk hK rfl)
  have r3 := @closeWindow_run f K s0 (orr hf rfl) (sbk hK rfl)
  have r4 := @toDevice_run f K s0 (orr hf rfl) (sbk hK rfl)
  have r5 := @escalate_run f K s0 (orr hf rfl) (sbk hK rfl)
  have r6 := @takeover_run f K s0 (orr hf rfl) (sbk hK rfl)
  have r7 := @dropStrike_run f K s0 (orr hf rfl) (sbk hK rfl)
  have r8 := @openWindow_run f K s0 (orr hf rfl) (sbk hK rfl)
  have r9 := @spall_run f K s0 (orr hf rfl) (sbk hK rfl)
  have r10 := @substitute_run f K s0 (orr hf rfl) (sbk hK rfl)
  have r11 := @confirm_run f K s0 (orr hf rfl) (sbk hK rfl)
  have j0 := sbk (a := [PD.ESC_CELL_TO_BLOCK]) hK rfl
  unfold State.strikeFailed
  repeat' first
    | with_reducible assumption
    | with_reducible apply bump_run j0
    | with_reducible apply r1
    | with_reducible apply r2
    | with_reducible apply r3
    | with_reducible apply r4
    | with_reducible apply r6
    | with_reducible apply r7
    | with_reducible apply r8
    | with_reducible apply r9
    | with_reducible apply r10
    | with_reducible apply r11
    | with_reducible apply ite_run
    | with_reducible apply run_of_snd (by with_reducible assumption)
    | with_reducible apply r5
    | split
    | dsimp only
    | intro _ _

theorem execArrayOperationStart_run {f K s0} (hf : 40007912670208 ||| f = f)
    (hK : ∀ x, x ∈ ([0x401002, 0x401005, 0x40100D, 0x401101, 0x501101, 0x501102, 0x502101, 0x502102, 0x502104, 0x502105, 0x502106, 0x507001,
       0x507002, 0x507003, 0x507004, 0x600004, 0x620209, 0x62020A, 0xA10001, 0xA10006] : List Nat) → x ∈ K) {s}
    (h : Run f K s0 s) : RunRes f K s0 (execArrayOperationStart s) := by
  have r1 := @scoutFor_run f K s0 (orr hf rfl) (sbk hK rfl)
  have r2 := @load_run f K s0 (orr hf rfl) (sbk hK rfl)
  have r3 := @startPart_run f K s0 (orr hf rfl) (sbk hK rfl)
  have r4 := @preload_run f K s0 (orr hf rfl) (sbk hK rfl)
  have u0 := orr (a := 262144) hf rfl
  have u1 := orr (a := 268435456) hf rfl
  unfold execArrayOperationStart
  repeat' first
    | with_reducible assumption
    | with_reducible apply r1
    | with_reducible apply r2
    | with_reducible apply r3
    | with_reducible apply r4
    | with_reducible apply RunRes.ite
    | with_reducible apply ite_run
    | with_reducible apply RunRes.next
    | split
    | with_reducible apply run_upd_arrays u0
    | with_reducible apply run_upd_backward u1
    | dsimp only
    | intro _ _

theorem execJointRecord_run {f K s0} (hf : 40101558929089 ||| f = f)
    (hK : ∀ x, x ∈ ([0x110103, 0x600002, 0x600003, 0x600004, 0x600007, 0x600203, 0xA10001, 0xA10006] : List Nat) → x ∈ K) {s x0 x1}
    (h : Run f K s0 s) : RunRes f K s0 (execJointRecord x0 x1 s) := by
  have r1 := @bridgeFailed_run f K s0 (orr hf rfl) (sbk hK rfl)
  have u0 := orr (a := 67108864) hf rfl
  unfold execJointRecord
  repeat' first
    | with_reducible assumption
    | with_reducible apply r1
    | with_reducible apply RunRes.ite
    | with_reducible apply ite_run
    | with_reducible apply RunRes.next
    | split
    | with_reducible apply run_upd_jointParts u0
    | dsimp only
    | intro _ _

theorem execWeightWrite_run {f K s0} (hf : 40067199198913 ||| f = f)
    (hK : ∀ x, x ∈ ([0x320104, 0x40100C, 0x40100D, 0x40100E, 0x40100F, 0x401010, 0x401101, 0x507003, 0x600002, 0x600003, 0x600004, 0x600007,
       0x600203, 0xA10001, 0xA10006] : List Nat) → x ∈ K) {s x0 x1 x2}
    (h : Run f K s0 s) : RunRes f K s0 (execWeightWrite x0 x1 x2 s) := by
  have r1 := @setCell_run f K s0 (orr hf rfl) (sbk hK rfl)
  have r2 := @retireArrayCell_run f K s0 (orr hf rfl) (sbk hK rfl)
  have j0 := sbk (a := [PD.ARR_ROWS_WRITTEN]) hK rfl
  have j1 := sbk (a := [PD.ARR_VERIFY_FAIL]) hK rfl
  have j2 := sbk (a := [PD.ARR_WRITE_REMAPS]) hK rfl
  have j3 := sbk (a := [PD.ARR_WRITE_RETIRES]) hK rfl
  have ja := sbk (a := [PD.ARR_DIE_STATS]) hK rfl
  have u0 := orr (a := 262144) hf rfl
  unfold execWeightWrite
  repeat' first
    | with_reducible assumption
    | with_reducible apply arr_run j0 ja
    | with_reducible apply arr_run j1 ja
    | with_reducible apply arr_run j2 ja
    | with_reducible apply arr_run j3 ja
    | with_reducible apply r1
    | with_reducible apply r2
    | with_reducible apply RunRes.ite
    | with_reducible apply ite_run
    | with_reducible apply RunRes.next
    | (with_reducible apply foldl_run; intro _ _ _)
    | (with_reducible apply foldl_proj_run Prod.snd; intro _ _ _)
    | (with_reducible apply foldl_proj_run Prod.fst; intro _ _ _)
    | with_reducible apply run_of_snd (by with_reducible assumption)
    | with_reducible apply run_of_fst (by with_reducible assumption)
    | with_reducible apply getD_run
    | split
    | with_reducible apply run_upd_arrays u0
    | dsimp only
    | intro _ _

theorem execArrayOperationEnd_run {f K s0} (hf : 40079861761024 ||| f = f)
    (hK : ∀ x, x ∈ ([0x401002, 0x401005, 0x40100D, 0x401101, 0x501101, 0x501102, 0x502101, 0x502102, 0x502104, 0x502105, 0x502106, 0x503101,
       0x507001, 0x507002, 0x507003, 0x508201, 0x508202, 0x508203, 0x508204, 0x510107, 0x600004, 0x620209, 0x62020A, 0x700208,
       0xA10001, 0xA10006] : List Nat) → x ∈ K) {s}
    (h : Run f K s0 s) : RunRes f K s0 (execArrayOperationEnd s) := by
  have r1 := @endForward_run f K s0 (orr hf rfl) (sbk hK rfl)
  have r2 := @opPlumb_run f K s0 (orr hf rfl) (sbk hK rfl)
  have r3 := @load_run f K s0 (orr hf rfl) (sbk hK rfl)
  have r4 := @nextInSequence_run f K s0 (orr hf rfl) (sbk hK rfl)
  have r5 := @endReplay_run f K s0 (orr hf rfl) (sbk hK rfl)
  have r6 := @startPart_run f K s0 (orr hf rfl) (sbk hK rfl)
  unfold execArrayOperationEnd
  repeat' first
    | with_reducible assumption
    | with_reducible apply r1
    | with_reducible apply r3
    | with_reducible apply r4
    | with_reducible apply r5
    | with_reducible apply r6
    | with_reducible apply RunRes.ite
    | with_reducible apply ite_run
    | with_reducible apply RunRes.next
    | with_reducible apply run_of_snd (by with_reducible assumption)
    | with_reducible apply r2
    | split
    | dsimp only
    | intro _ _

theorem execStrike_run {f K s0} (hf : 40067199198913 ||| f = f)
    (hK : ∀ x, x ∈ ([0x110101, 0x110102, 0x110103, 0x320104, 0x401001, 0x401002, 0x401003, 0x401004, 0x401006, 0x401007, 0x401009, 0x40100A,
       0x40100B, 0x40100D, 0x401101, 0x507002, 0x507003, 0x508201, 0x508202, 0x508203, 0x508204, 0x600002, 0x600003, 0x600004,
       0x600007, 0x600203, 0xA00105, 0xA00106, 0xA00108, 0xA00109, 0xA10001, 0xA10006] : List Nat) → x ∈ K) {s x0 x1 x2}
    (h : Run f K s0 s) : RunRes f K s0 (execStrike x0 x1 x2 s) := by
  have r1 := @closeWindow_run f K s0 (orr hf rfl) (sbk hK rfl)
  have r2 := @splitStrike_run f K s0 (orr hf rfl) (sbk hK rfl)
  have r3 := @acceptCodes_run f K s0 (orr hf rfl) (sbk hK rfl)
  have r4 := @strikeFailed_run f K s0 (orr hf rfl) (sbk hK rfl)
  have j0 := sbk (a := [PD.ARR_STRIKES]) hK rfl
  have j1 := sbk (a := [PD.ARR_REPLAY_HALVES]) hK rfl
  have j2 := sbk (a := [PD.ARR_WIT_MISMATCH]) hK rfl
  have j3 := sbk (a := [PD.ARR_WIT_RETRY_OK]) hK rfl
  have j4 := sbk (a := [PD.ARR_FLAG_FAULTS]) hK rfl
  have j5 := sbk (a := [PD.ARR_DOUBLE_EXTRA]) hK rfl
  have j6 := sbk (a := [PD.REPEATS_TRANSIENT]) hK rfl
  have ja := sbk (a := [PD.ARR_DIE_STATS]) hK rfl
  unfold execStrike
  repeat' first
    | with_reducible assumption
    | with_reducible apply bump_run j6
    | with_reducible apply arr_run j0 ja
    | with_reducible apply arr_run j1 ja
    | with_reducible apply arr_run j2 ja
    | with_reducible apply arr_run j3 ja
    | with_reducible apply arr_run j4 ja
    | with_reducible apply arr_run j5 ja
    | with_reducible apply r1
    | with_reducible apply r2
    | with_reducible apply r3
    | with_reducible apply r4
    | with_reducible apply RunRes.ite
    | with_reducible apply ite_run
    | with_reducible apply RunRes.next
    | with_reducible apply RunOpt.map
    | with_reducible apply getD_run
    | split
    | dsimp only
    | intro _ _

theorem execDigitalSubstitution_run {f K s0} (hf : 40067199190721 ||| f = f)
    (hK : ∀ x, x ∈ ([0x110102, 0x110103, 0x401008, 0x40100B, 0x401101, 0x507002, 0x508201, 0x508202, 0x508203, 0x508204, 0x600002, 0x600003,
       0x600004, 0x600007, 0x600203, 0xA10001, 0xA10006] : List Nat) → x ∈ K) {s x0}
    (h : Run f K s0 s) : RunRes f K s0 (execDigitalSubstitution x0 s) := by
  have r1 := @regionFromBlock_run f K s0 (orr hf rfl) (sbk hK rfl)
  have r2 := @closeWindow_run f K s0 (orr hf rfl) (sbk hK rfl)
  have r3 := @dropStrike_run f K s0 (orr hf rfl) (sbk hK rfl)
  have r4 := @acceptCodes_run f K s0 (orr hf rfl) (sbk hK rfl)
  have j0 := sbk (a := [PD.ESC_BLOCK_TO_REGION]) hK rfl
  have j1 := sbk (a := [PD.ARR_SUBSTITUTED]) hK rfl
  have ja := sbk (a := [PD.ARR_DIE_STATS]) hK rfl
  unfold execDigitalSubstitution
  repeat' first
    | with_reducible assumption
    | with_reducible apply bump_run j0
    | with_reducible apply arr_run j1 ja
    | with_reducible apply r1
    | with_reducible apply r2
    | with_reducible apply r3
    | with_reducible apply r4
    | with_reducible apply RunRes.ite
    | with_reducible apply ite_run
    | with_reducible apply RunRes.next
    | split
    | dsimp only
    | intro _ _

end Sys2Proof.Machine
end

