-- ==== Sys2Proof/Laws/RunSteps.lean ====
section
/-! SUPPORT. Laws/RunSteps.lean: what the operations and the commands may change, and that they keep the canonical forms and the pins
(Laws/Run.lean): plan and placement, history, update, exchange, Foreman, audits, streams and the backward pass. -/
namespace Sys2Proof.Machine

set_option linter.unusedVariables false

theorem setPane_run {f K s0} (hf : 4294967296 ||| f = f)
    (hK : ∀ x, x ∈ ([] : List Nat) → x ∈ K) {s x1}
    (h : Run f K s0 s) : Run f K s0 (State.setPane s x1) := by
  have u0 := orr (a := 4294967296) hf rfl
  unfold State.setPane
  repeat' first
    | with_reducible assumption
    | with_reducible apply ite_run
    | split
    | with_reducible apply run_upd_upd u0
    | dsimp only
    | intro _ _

theorem adoptRoots_run {f K s0} (hf : 4294967296 ||| f = f)
    (hK : ∀ x, x ∈ ([] : List Nat) → x ∈ K) {s}
    (h : Run f K s0 s) : Run f K s0 (State.adoptRoots s) := by
  have r1 := @setPane_run f K s0 (orr hf rfl) (sbk hK rfl)
  have u0 := orr (a := 4294967296) hf rfl
  unfold State.adoptRoots
  repeat' first
    | with_reducible assumption
    | with_reducible apply r1
    | (with_reducible apply each_run; intro _ _ _)
    | split
    | with_reducible apply run_upd_upd u0
    | dsimp only
    | intro _ _

theorem countPane_run {f K s0} (hf : 2147483648 ||| f = f)
    (hK : ∀ x, x ∈ ([0x610103] : List Nat) → x ∈ K) {s x1 x2}
    (h : Run f K s0 s) : Run f K s0 (State.countPane s x1 x2) := by
  have j0 := sbk (a := [PD.EXCH_CARRIED]) hK rfl
  have u0 := orr (a := 2147483648) hf rfl
  unfold State.countPane
  repeat' first
    | with_reducible assumption
    | with_reducible apply bumpBy_run j0
    | with_reducible apply ite_run
    | (with_reducible apply each_run; intro _ _ _)
    | split
    | with_reducible apply run_upd_exch u0
    | dsimp only
    | intro _ _

theorem commitExchange_run {f K s0} (hf : 2147483648 ||| f = f)
    (hK : ∀ x, x ∈ ([0x610103, 0x615103] : List Nat) → x ∈ K) {s}
    (h : Run f K s0 s) : Run f K s0 (State.commitExchange s) := by
  have r1 := @countPane_run f K s0 (orr hf rfl) (sbk hK rfl)
  have j0 := sbk (a := [PD.BOND_RBAR]) hK rfl
  have u0 := orr (a := 2147483648) hf rfl
  unfold State.commitExchange
  repeat' first
    | with_reducible assumption
    | with_reducible apply setNum_run j0
    | with_reducible apply r1
    | with_reducible apply ite_run
    | (with_reducible apply each_run; intro _ _ _)
    | (with_reducible apply foldl_run; intro _ _ _)
    | (with_reducible apply foldl_proj_run Prod.snd; intro _ _ _)
    | (with_reducible apply foldl_proj_run Prod.fst; intro _ _ _)
    | with_reducible apply run_of_snd (by with_reducible assumption)
    | with_reducible apply run_of_fst (by with_reducible assumption)
    | split
    | with_reducible apply run_upd_exch u0
    | dsimp only
    | intro _ _

theorem request_run {f K s0} (hf : 4398046511104 ||| f = f)
    (hK : ∀ x, x ∈ ([] : List Nat) → x ∈ K) {s x1 x2}
    (h : Run f K s0 s) : Run f K s0 (State.request s x1 x2) := by
  have u0 := orr (a := 4398046511104) hf rfl
  unfold State.request
  repeat' first
    | with_reducible assumption
    | with_reducible apply ite_run
    | with_reducible apply getD_run
    | split
    | with_reducible apply run_upd_faults u0
    | dsimp only
    | intro _ _

theorem grant_run {f K s0} (hf : 4398046511104 ||| f = f)
    (hK : ∀ x, x ∈ ([0xA01003] : List Nat) → x ∈ K) {s x1 x2}
    (h : Run f K s0 s) : Run f K s0 (State.grant s x1 x2).2 := by
  have r1 := @request_run f K s0 (orr hf rfl) (sbk hK rfl)
  have j0 := sbk (a := [PD.FOREMAN_LATE]) hK rfl
  have u0 := orr (a := 4398046511104) hf rfl
  unfold State.grant
  repeat' first
    | with_reducible assumption
    | with_reducible apply bump_run j0
    | with_reducible apply r1
    | with_reducible apply ite_run
    | with_reducible apply getD_run
    | split
    | simp only [run_upd_faults_iff u0]
    | dsimp only
    | intro _ _

theorem updatePane_run {f K s0} (hf : 40001177911296 ||| f = f)
    (hK : ∀ x, x ∈ ([0x620201, 0x620208, 0xA10001, 0xA10006] : List Nat) → x ∈ K) {s x1 x2}
    (h : Run f K s0 s) : Run f K s0 (State.updatePane s x1 x2) := by
  have r1 := @setPane_run f K s0 (orr hf rfl) (sbk hK rfl)
  have r2 := @spall_run f K s0 (orr hf rfl) (sbk hK rfl)
  have j0 := sbk (a := [PD.UPD_PANES]) hK rfl
  have j1 := sbk (a := [PD.UPD_NONFINITE]) hK rfl
  have u0 := orr (a := 2147483648) hf rfl
  have u1 := orr (a := 4294967296) hf rfl
  unfold State.updatePane
  repeat' first
    | with_reducible assumption
    | with_reducible apply bump_run j0
    | with_reducible apply bump_run j1
    | with_reducible apply r1
    | with_reducible apply r2
    | with_reducible apply ite_run
    | split
    | with_reducible apply run_upd_exch u0
    | with_reducible apply run_upd_upd u1
    | dsimp only
    | intro _ _

theorem updateAll_run {f K s0} (hf : 40001177911296 ||| f = f)
    (hK : ∀ x, x ∈ ([0x620201, 0x620208, 0xA10001, 0xA10006] : List Nat) → x ∈ K) {s x1}
    (h : Run f K s0 s) : Run f K s0 (State.updateAll s x1) := by
  have r1 := @updatePane_run f K s0 (orr hf rfl) (sbk hK rfl)
  have u0 := orr (a := 4294967296) hf rfl
  unfold State.updateAll
  repeat' first
    | with_reducible assumption
    | with_reducible apply r1
    | (with_reducible apply each_run; intro _ _ _)
    | split
    | with_reducible apply run_upd_upd u0
    | dsimp only
    | intro _ _

theorem histNow_run {f K s0} (hf : 35600983916544 ||| f = f)
    (hK : ∀ x, x ∈ ([0x505005] : List Nat) → x ∈ K) {s x1}
    (h : Run f K s0 s) : Run f K s0 (State.histNow s x1) := by
  have j0 := sbk (a := [PD.HIST_RESULT]) hK rfl
  have cr := orr (a := 35596688949248) hf rfl
  have u0 := orr (a := 4294967296) hf rfl
  unfold State.histNow
  repeat' first
    | with_reducible assumption
    | with_reducible apply result_run cr j0
    | split
    | with_reducible apply run_upd_upd u0
    | dsimp only
    | intro _ _

theorem histStart_run {f K s0} (hf : 4294967296 ||| f = f)
    (hK : ∀ x, x ∈ ([0x505005] : List Nat) → x ∈ K) {s x1 x2 x3}
    (h : Run f K s0 s) : Run f K s0 (State.histStart s x1 x2 x3) := by
  have j0 := sbk (a := [PD.HIST_RESULT]) hK rfl
  have u0 := orr (a := 4294967296) hf rfl
  unfold State.histStart
  repeat' first
    | with_reducible assumption
    | with_reducible apply setNum_run j0
    | split
    | with_reducible apply run_upd_upd u0
    | dsimp only
    | intro _ _

theorem histWrite_run {f K s0} (hf : 12884901888 ||| f = f)
    (hK : ∀ x, x ∈ ([0x505005] : List Nat) → x ∈ K) {s}
    (h : Run f K s0 s) : Run f K s0 (State.histWrite s) := by
  have r1 := @histStart_run f K s0 (orr hf rfl) (sbk hK rfl)
  have r2 := @writeBar2_run f K s0 (orr hf rfl) (sbk hK rfl)
  unfold State.histWrite
  repeat' first
    | with_reducible assumption
    | with_reducible apply r1
    | with_reducible apply r2
    | split
    | dsimp only
    | intro _ _

theorem histDueNow_run {f K s0} (hf : 35610647592960 ||| f = f)
    (hK : ∀ x, x ∈ ([0x505005] : List Nat) → x ∈ K) {s}
    (h : Run f K s0 s) : Run f K s0 (State.histDueNow s) := by
  have r1 := @histNow_run f K s0 (orr hf rfl) (sbk hK rfl)
  have r2 := @histWrite_run f K s0 (orr hf rfl) (sbk hK rfl)
  have u0 := orr (a := 1073741824) hf rfl
  unfold State.histDueNow
  repeat' first
    | with_reducible assumption
    | with_reducible apply r1
    | with_reducible apply r2
    | with_reducible apply ite_run
    | split
    | with_reducible apply run_upd_step u0
    | dsimp only
    | intro _ _

theorem paneDisagrees_run {f K s0} (hf : 4400193994752 ||| f = f)
    (hK : ∀ x, x ∈ ([0x600004, 0x615101] : List Nat) → x ∈ K) {s x1 x2 x3}
    (h : Run f K s0 s) : Run f K s0 (State.paneDisagrees s x1 x2 x3) := by
  have r1 := @reason_run f K s0 (orr hf rfl) (sbk hK rfl)
  have j0 := sbk (a := [PD.BOND_DISAGREE]) hK rfl
  have u0 := orr (a := 2147483648) hf rfl
  have u1 := orr (a := 4400193994752) hf rfl
  unfold State.paneDisagrees
  repeat' first
    | with_reducible assumption
    | with_reducible apply bump_run j0
    | with_reducible apply r1
    | with_reducible apply ite_run
    | with_reducible apply RunOpt.map
    | with_reducible apply getD_run
    | split
    | with_reducible apply run_upd_exch u0
    | with_reducible apply run_upd_exch_faults u1
    | dsimp only
    | intro _ _

theorem compareTwin_run {f K s0} (hf : 4400193994752 ||| f = f)
    (hK : ∀ x, x ∈ ([0x600004, 0x615101] : List Nat) → x ∈ K) {s x1}
    (h : Run f K s0 s) : Run f K s0 (State.compareTwin s x1) := by
  have r1 := @paneDisagrees_run f K s0 (orr hf rfl) (sbk hK rfl)
  have u0 := orr (a := 2147483648) hf rfl
  unfold State.compareTwin
  repeat' first
    | with_reducible assumption
    | with_reducible apply r1
    | with_reducible apply ite_run
    | split
    | with_reducible apply run_upd_exch u0
    | dsimp only
    | intro _ _

theorem atDeadline_run {f K s0} (hf : 39654360089600 ||| f = f)
    (hK : ∀ x, x ∈ ([0x600004, 0x610105, 0x610106, 0x610107, 0x615101, 0x700208] : List Nat) → x ∈ K) {s}
    (h : Run f K s0 s) : Run f K s0 (State.atDeadline s) := by
  have r1 := @selfExclude_run f K s0 (orr hf rfl) (sbk hK rfl)
  have r2 := @compareTwin_run f K s0 (orr hf rfl) (sbk hK rfl)
  have r3 := @reason_run f K s0 (orr hf rfl) (sbk hK rfl)
  have r4 := @resetStreams_run f K s0 (orr hf rfl) (sbk hK rfl)
  have r5 := @endPhase_run f K s0 (orr hf rfl) (sbk hK rfl)
  have r6 := @stopArrays_run f K s0 (orr hf rfl) (sbk hK rfl)
  have r7 := @send_run f K s0 (orr hf rfl) (sbk hK rfl)
  have j0 := sbk (a := [PD.EXCH_UNSENT]) hK rfl
  have j1 := sbk (a := [PD.EXCH_EMPTY]) hK rfl
  have u0 := orr (a := 2147483648) hf rfl
  have u1 := orr (a := 1073741824) hf rfl
  unfold State.atDeadline
  repeat' first
    | with_reducible assumption
    | with_reducible apply bumpBy_run j0
    | with_reducible apply bumpBy_run j1
    | with_reducible apply r1
    | with_reducible apply r2
    | with_reducible apply r3
    | with_reducible apply r4
    | with_reducible apply r5
    | with_reducible apply r6
    | with_reducible apply r7
    | with_reducible apply ite_run
    | (with_reducible apply each_run; intro _ _ _)
    | with_reducible apply RunOpt.map
    | with_reducible apply getD_run
    | split
    | with_reducible apply run_upd_exch u0
    | with_reducible apply run_upd_step u1
    | dsimp only
    | intro _ _

theorem repeatResult_run {f K s0} (hf : 39994735476736 ||| f = f)
    (hK : ∀ x, x ∈ ([0xA00105, 0xA00106, 0xA00108, 0xA10001, 0xA10006] : List Nat) → x ∈ K) {s x1 x2}
    (h : Run f K s0 s) : Run f K s0 (State.repeatResult s x1 x2).2 := by
  have r1 := @confirm_run f K s0 (orr hf rfl) (sbk hK rfl)
  have j0 := sbk (a := [PD.REPEATS_TRANSIENT]) hK rfl
  unfold State.repeatResult
  repeat' first
    | with_reducible assumption
    | with_reducible apply bump_run j0
    | with_reducible apply r1
    | with_reducible apply ite_run
    | split
    | dsimp only
    | intro _ _

theorem suspectSide_run {f K s0} (hf : 2147483648 ||| f = f)
    (hK : ∀ x, x ∈ ([] : List Nat) → x ∈ K) {s x1}
    (h : Run f K s0 s) : Run f K s0 (State.suspectSide s x1) := by
  have u0 := orr (a := 2147483648) hf rfl
  unfold State.suspectSide
  repeat' first
    | with_reducible assumption
    | with_reducible apply ite_run
    | split
    | with_reducible apply run_upd_exch u0
    | dsimp only
    | intro _ _

theorem auditCell_run {f K s0} (hf : 39996882960384 ||| f = f)
    (hK : ∀ x, x ∈ ([0x600004, 0xA00103, 0xA00104, 0xA00105, 0xA00106, 0xA00108, 0xA10001, 0xA10006] : List Nat) → x ∈ K) {s x1 x2 x3}
    (h : Run f K s0 s) : Run f K s0 (State.auditCell s x1 x2 x3).2 := by
  have r1 := @repeatResult_run f K s0 (orr hf rfl) (sbk hK rfl)
  have r2 := @reason_run f K s0 (orr hf rfl) (sbk hK rfl)
  have r3 := @suspectSide_run f K s0 (orr hf rfl) (sbk hK rfl)
  have r4 := @spall_run f K s0 (orr hf rfl) (sbk hK rfl)
  have j0 := sbk (a := [PD.AUDIT_MISMATCHES]) hK rfl
  have j1 := sbk (a := [PD.AUDIT_DRIFTS]) hK rfl
  have u0 := orr (a := 4398046511104) hf rfl
  unfold State.auditCell
  repeat' first
    | with_reducible assumption
    | with_reducible apply bump_run j0
    | with_reducible apply bump_run j1
    | with_reducible apply r2
    | with_reducible apply r3
    | with_reducible apply r4
    | with_reducible apply ite_run
    | with_reducible apply run_of_snd (by with_reducible assumption)
    | with_reducible apply r1
    | split
    | simp only [run_upd_faults_iff u0]
    | dsimp only
    | intro _ _

theorem auditDigital_run {f K s0} (hf : 39996882960384 ||| f = f)
    (hK : ∀ x, x ∈ ([0x600004, 0xA00103, 0xA00105, 0xA00106, 0xA00108, 0xA10001, 0xA10006] : List Nat) → x ∈ K) {s x1 x2 x3}
    (h : Run f K s0 s) : Run f K s0 (State.auditDigital s x1 x2 x3).2 := by
  have r1 := @repeatResult_run f K s0 (orr hf rfl) (sbk hK rfl)
  have r2 := @reason_run f K s0 (orr hf rfl) (sbk hK rfl)
  have r3 := @suspectSide_run f K s0 (orr hf rfl) (sbk hK rfl)
  have r4 := @spall_run f K s0 (orr hf rfl) (sbk hK rfl)
  have j0 := sbk (a := [PD.AUDIT_MISMATCHES]) hK rfl
  unfold State.auditDigital
  repeat' first
    | with_reducible assumption
    | with_reducible apply bump_run j0
    | with_reducible apply r2
    | with_reducible apply r3
    | with_reducible apply r4
    | with_reducible apply ite_run
    | (with_reducible apply each_run; intro _ _ _)
    | with_reducible apply run_of_snd (by with_reducible assumption)
    | with_reducible apply r1
    | split
    | dsimp only
    | intro _ _

theorem bedMoves_run {f K s0} (hf : 70368744177664 ||| f = f)
    (hK : ∀ x, x ∈ ([0x508207, 0x508209] : List Nat) → x ∈ K) {s x1}
    (h : Run f K s0 s) : Run f K s0 (State.bedMoves s x1) := by
  have r1 := @fresh_run f K s0 (orr hf rfl) (sbk hK rfl)
  have j0 := sbk (a := [PD.BED_SPILL_ROWS]) hK rfl
  have j1 := sbk (a := [PD.GROUP_SAVES]) hK rfl
  unfold State.bedMoves
  repeat' first
    | with_reducible assumption
    | with_reducible apply bumpBy_run j0
    | with_reducible apply bumpBy_run j1
    | with_reducible apply ite_run
    | with_reducible apply run_of_snd (by with_reducible assumption)
    | with_reducible apply r1
    | split
    | dsimp only
    | intro _ _

theorem checkpoint_run {f K s0} (hf : 35184640524288 ||| f = f)
    (hK : ∀ x, x ∈ ([0x120103, 0x510108, 0x600004] : List Nat) → x ∈ K) {s x1 x2 x3 x4 x5 x6}
    (h : Run f K s0 s) : Run f K s0 (State.checkpoint s x1 x2 x3 x4 x5 x6) := by
  have r1 := @keep_run f K s0 (orr hf rfl) (sbk hK rfl)
  have r2 := @reason_run f K s0 (orr hf rfl) (sbk hK rfl)
  have r3 := @emit_run f K s0 (orr hf rfl) (sbk hK rfl)
  have j0 := sbk (a := [PD.HOST_DMA_ERR]) hK rfl
  have j1 := sbk (a := [PD.CKPT_SPILL_BYTES]) hK rfl
  unfold State.checkpoint
  repeat' first
    | with_reducible assumption
    | with_reducible apply bump_run j0
    | with_reducible apply bumpBy_run j1
    | with_reducible apply r1
    | with_reducible apply r2
    | with_reducible apply r3
    | with_reducible apply ite_run
    | with_reducible apply RunOpt.map
    | with_reducible apply getD_run
    | split
    | dsimp only
    | intro _ _

theorem requeueGrants_run {f K s0} (hf : 4398046511104 ||| f = f)
    (hK : ∀ x, x ∈ ([] : List Nat) → x ∈ K) {s}
    (h : Run f K s0 s) : Run f K s0 (State.requeueGrants s) := by
  have u0 := orr (a := 4398046511104) hf rfl
  unfold State.requeueGrants
  repeat' first
    | with_reducible assumption
    | split
    | with_reducible apply run_upd_faults u0
    | dsimp only
    | intro _ _

theorem dropPlan_run {f K s0} (hf : 7485254656 ||| f = f)
    (hK : ∀ x, x ∈ ([] : List Nat) → x ∈ K) {s}
    (h : Run f K s0 s) : Run f K s0 (State.dropPlan s) := by
  have u0 := orr (a := 7485254656) hf rfl
  unfold State.dropPlan
  repeat' first
    | with_reducible assumption
    | split
    | with_reducible apply run_upd_streams_plan_place_triggers_placeDue_placing_placeWait_arrays_layers_jointModes_jointParts_jointWaits_backward_frogMost_exch_upd u0
    | dsimp only
    | intro _ _

theorem planCommand_run {f K s0} (hf : 35604174208000 ||| f = f)
    (hK : ∀ x, x ∈ ([0x300004] : List Nat) → x ∈ K) {s x1}
    (h : Run f K s0 s) : Run f K s0 (State.planCommand s x1) := by
  have r1 := @dropPlan_run f K s0 (orr hf rfl) (sbk hK rfl)
  have j0 := sbk (a := [PD.PLAN_STATUS]) hK rfl
  have cr := orr (a := 35596688949248) hf rfl
  have u0 := orr (a := 4096) hf rfl
  unfold State.planCommand
  repeat' first
    | with_reducible assumption
    | with_reducible apply setNum_run j0
    | with_reducible apply result_run cr j0
    | with_reducible apply r1
    | with_reducible apply ite_run
    | split
    | with_reducible apply run_upd_loading u0
    | dsimp only
    | intro _ _

theorem histSave_run {f K s0} (hf : 35610647592960 ||| f = f)
    (hK : ∀ x, x ∈ ([0x505005] : List Nat) → x ∈ K) {s x1}
    (h : Run f K s0 s) : Run f K s0 (State.histSave s x1) := by
  have r1 := @histNow_run f K s0 (orr hf rfl) (sbk hK rfl)
  have r2 := @histWrite_run f K s0 (orr hf rfl) (sbk hK rfl)
  have j0 := sbk (a := [PD.HIST_RESULT]) hK rfl
  have u0 := orr (a := 1073741824) hf rfl
  unfold State.histSave
  repeat' first
    | with_reducible assumption
    | with_reducible apply setNum_run j0
    | with_reducible apply r1
    | with_reducible apply r2
    | with_reducible apply ite_run
    | split
    | with_reducible apply run_upd_step u0
    | dsimp only
    | intro _ _

theorem histRestore_run {f K s0} (hf : 35600986046464 ||| f = f)
    (hK : ∀ x, x ∈ ([0x505005] : List Nat) → x ∈ K) {s x1}
    (h : Run f K s0 s) : Run f K s0 (State.histRestore s x1) := by
  have r1 := @histStart_run f K s0 (orr hf rfl) (sbk hK rfl)
  have r2 := @histNow_run f K s0 (orr hf rfl) (sbk hK rfl)
  have r3 := @setLayerNum_run f K s0 (orr hf rfl) (sbk hK rfl)
  have u0 := orr (a := 32768) hf rfl
  have u1 := orr (a := 4294967296) hf rfl
  unfold State.histRestore
  repeat' first
    | with_reducible assumption
    | with_reducible apply r1
    | with_reducible apply r2
    | with_reducible apply r3
    | with_reducible apply ite_run
    | (with_reducible apply each_run; intro _ _ _)
    | split
    | with_reducible apply run_upd_placeDue u0
    | with_reducible apply run_upd_upd u1
    | dsimp only
    | intro _ _

theorem dropStruck_run {f K s0} (hf : 524288 ||| f = f)
    (hK : ∀ x, x ∈ ([] : List Nat) → x ∈ K) {s x1}
    (h : Run f K s0 s) : Run f K s0 (State.dropStruck s x1) := by
  have u0 := orr (a := 524288) hf rfl
  unfold State.dropStruck
  repeat' first
    | with_reducible assumption
    | with_reducible apply ite_run
    | split
    | with_reducible apply run_upd_cells u0
    | dsimp only
    | intro _ _

theorem mark_run {f K s0} (hf : 8589935616 ||| f = f)
    (hK : ∀ x, x ∈ ([] : List Nat) → x ∈ K) {s x1 x2 x3 x4 x5}
    (h : Run f K s0 s) : Run f K s0 (State.mark s x1 x2 x3 x4 x5) := by
  have r1 := @setStream_run f K s0 (orr hf rfl) (sbk hK rfl)
  have cm := orr (a := 8589934592) hf rfl
  unfold State.mark
  repeat' first
    | with_reducible assumption
    | with_reducible apply write_run cm
    | with_reducible apply r1
    | with_reducible apply ite_run
    | with_reducible apply getD_run
    | split
    | dsimp only
    | intro _ _

theorem streamResume_run {f K s0} (hf : 8590459904 ||| f = f)
    (hK : ∀ x, x ∈ ([0x310202] : List Nat) → x ∈ K) {s x1 x2 x3}
    (h : Run f K s0 s) : Run f K s0 (State.streamResume s x1 x2 x3) := by
  have r1 := @setStream_run f K s0 (orr hf rfl) (sbk hK rfl)
  have r2 := @dropStruck_run f K s0 (orr hf rfl) (sbk hK rfl)
  have r3 := @mark_run f K s0 (orr hf rfl) (sbk hK rfl)
  have j0 := sbk (a := [PD.STREAM_CMD_RESULT]) hK rfl
  unfold State.streamResume
  repeat' first
    | with_reducible assumption
    | with_reducible apply setNum_run j0
    | with_reducible apply r1
    | with_reducible apply r2
    | with_reducible apply r3
    | with_reducible apply ite_run
    | split
    | dsimp only
    | intro _ _

theorem completion_run {f K s0} (hf : 35596688949248 ||| f = f)
    (hK : ∀ x, x ∈ ([] : List Nat) → x ∈ K) {s x1 x2}
    (h : Run f K s0 s) : Run f K s0 (State.completion s x1 x2) := by
  have r1 := @sendVector_run f K s0 (orr hf rfl) (sbk hK rfl)
  have r2 := @setEp_run f K s0 (orr hf rfl) (sbk hK rfl)
  unfold State.completion
  repeat' first
    | with_reducible assumption
    | with_reducible apply r1
    | with_reducible apply r2
    | with_reducible apply ite_run
    | (with_reducible apply each_run; intro _ _ _)
    | split
    | dsimp only
    | intro _ _

theorem countRoot_run {f K s0} (hf : 0 ||| f = f)
    (hK : ∀ x, x ∈ ([0x620202, 0x620203, 0x620204, 0x620205, 0x620206] : List Nat) → x ∈ K) {s x1 x2}
    (h : Run f K s0 s) : Run f K s0 (State.countRoot s x1 x2) := by
  have j0 := sbk (a := [PD.ROOT_FIRST]) hK rfl
  have j1 := sbk (a := [PD.ROOT_DAMPED]) hK rfl
  have j2 := sbk (a := [PD.ROOT_KEPT]) hK rfl
  have j3 := sbk (a := [PD.ROOT_DIAG]) hK rfl
  have j4 := sbk (a := [PD.ROOT_ZERO]) hK rfl
  unfold State.countRoot
  repeat' first
    | with_reducible assumption
    | with_reducible apply bump_run j0
    | with_reducible apply bump_run j1
    | with_reducible apply bump_run j2
    | with_reducible apply bump_run j3
    | with_reducible apply bump_run j4
    | with_reducible apply ite_run
    | split
    | dsimp only
    | intro _ _

theorem doneMicro_run {f K s0} (hf : 1073741824 ||| f = f)
    (hK : ∀ x, x ∈ ([] : List Nat) → x ∈ K) {s x1 x2}
    (h : Run f K s0 s) : Run f K s0 (State.doneMicro s x1 x2) := by
  have u0 := orr (a := 1073741824) hf rfl
  unfold State.doneMicro
  repeat' first
    | with_reducible assumption
    | with_reducible apply ite_run
    | split
    | with_reducible apply run_upd_step u0
    | dsimp only
    | intro _ _

theorem haltStream_run {f K s0} (hf : 35596688950272 ||| f = f)
    (hK : ∀ x, x ∈ ([0x310304] : List Nat) → x ∈ K) {s x1 x2 x3 x4}
    (h : Run f K s0 s) : Run f K s0 (State.haltStream s x1 x2 x3 x4) := by
  have r1 := @setStream_run f K s0 (orr hf rfl) (sbk hK rfl)
  have r2 := @cause_run f K s0 (orr hf rfl) (sbk hK rfl)
  have j0 := sbk (a := [PD.STREAM_HALTS]) hK rfl
  unfold State.haltStream
  repeat' first
    | with_reducible assumption
    | with_reducible apply bump_run j0
    | with_reducible apply r1
    | with_reducible apply r2
    | split
    | dsimp only
    | intro _ _

theorem doorbell_run {f K s0} (hf : 35596688950272 ||| f = f)
    (hK : ∀ x, x ∈ ([0x310301, 0x310302, 0x310304] : List Nat) → x ∈ K) {s x1 x2 x3 x4}
    (h : Run f K s0 s) : Run f K s0 (State.doorbell s x1 x2 x3 x4) := by
  have r1 := @setStream_run f K s0 (orr hf rfl) (sbk hK rfl)
  have r2 := @haltStream_run f K s0 (orr hf rfl) (sbk hK rfl)
  have j0 := sbk (a := [PD.DOORBELL_DROPPED]) hK rfl
  have j1 := sbk (a := [PD.DOORBELL_STALE]) hK rfl
  unfold State.doorbell
  repeat' first
    | with_reducible assumption
    | with_reducible apply bump_run j0
    | with_reducible apply bump_run j1
    | with_reducible apply r1
    | with_reducible apply r2
    | with_reducible apply ite_run
    | split
    | dsimp only
    | intro _ _

theorem emitGain_run {f K s0} (hf : 40079853372416 ||| f = f)
    (hK : ∀ x, x ∈ ([0x501101, 0x501102, 0x502101, 0x502102, 0x502104, 0x502105, 0x502106, 0x507001, 0x507002, 0x600004, 0x610107, 0x700208,
       0xA10001, 0xA10006] : List Nat) → x ∈ K) {s x1}
    (h : Run f K s0 s) : Run f K s0 (State.emitGain s x1) := by
  have r1 := @emitted_run f K s0 (orr hf rfl) (sbk hK rfl)
  have r2 := @emitPlain_run f K s0 (orr hf rfl) (sbk hK rfl)
  have u0 := orr (a := 268435456) hf rfl
  unfold State.emitGain
  repeat' first
    | with_reducible assumption
    | with_reducible apply r1
    | with_reducible apply r2
    | (with_reducible apply each_run; intro _ _ _)
    | split
    | with_reducible apply run_upd_backward u0
    | dsimp only
    | intro _ _

theorem endGrant_run {f K s0} (hf : 4398046511104 ||| f = f)
    (hK : ∀ x, x ∈ ([] : List Nat) → x ∈ K) {s x1 x2}
    (h : Run f K s0 s) : Run f K s0 (State.endGrant s x1 x2) := by
  have u0 := orr (a := 4398046511104) hf rfl
  unfold State.endGrant
  repeat' first
    | with_reducible assumption
    | split
    | with_reducible apply run_upd_faults u0
    | dsimp only
    | intro _ _

theorem failAt_run {f K s0} (hf : 8589935616 ||| f = f)
    (hK : ∀ x, x ∈ ([] : List Nat) → x ∈ K) {s x1 x2 x3 x4 x5}
    (h : Run f K s0 s) : Run f K s0 (State.failAt s x1 x2 x3 x4 x5) := by
  have r1 := @setStream_run f K s0 (orr hf rfl) (sbk hK rfl)
  have r2 := @mark_run f K s0 (orr hf rfl) (sbk hK rfl)
  unfold State.failAt
  repeat' first
    | with_reducible assumption
    | with_reducible apply r1
    | with_reducible apply r2
    | split
    | dsimp only
    | intro _ _

theorem enterPhase_run {f K s0} (hf : 1073938432 ||| f = f)
    (hK : ∀ x, x ∈ ([0x320102, 0x600003, 0x600004] : List Nat) → x ∈ K) {s x1 x2}
    (h : Run f K s0 s) : Run f K s0 (State.enterPhase s x1 x2) := by
  have r1 := @placeWaited_run f K s0 (orr hf rfl) (sbk hK rfl)
  have r2 := @openStep_run f K s0 (orr hf rfl) (sbk hK rfl)
  have r3 := @beginPhase_run f K s0 (orr hf rfl) (sbk hK rfl)
  unfold State.enterPhase
  repeat' first
    | with_reducible assumption
    | with_reducible apply r1
    | with_reducible apply r2
    | with_reducible apply r3
    | with_reducible apply ite_run
    | split
    | dsimp only
    | intro _ _

theorem enterFront_run {f K s0} (hf : 9664660480 ||| f = f)
    (hK : ∀ x, x ∈ ([0x320102, 0x320105, 0x401002, 0x401005, 0x401101, 0x508208, 0x600003, 0x600004] : List Nat) → x ∈ K) {s x1 x2 x3 x4}
    (h : Run f K s0 s) : Run f K s0 (State.enterFront s x1 x2 x3 x4) := by
  have r1 := @setStream_run f K s0 (orr hf rfl) (sbk hK rfl)
  have r2 := @failAt_run f K s0 (orr hf rfl) (sbk hK rfl)
  have r3 := @enterPhase_run f K s0 (orr hf rfl) (sbk hK rfl)
  have r4 := @addStrikes_run f K s0 (orr hf rfl) (sbk hK rfl)
  have j0 := sbk (a := [PD.RESIDENCY_WAITS]) hK rfl
  have j1 := sbk (a := [PD.BED_SPILL_WAITS]) hK rfl
  have u0 := orr (a := 131072) hf rfl
  unfold State.enterFront
  repeat' first
    | with_reducible assumption
    | with_reducible apply bump_run j0
    | with_reducible apply bump_run j1
    | with_reducible apply r1
    | with_reducible apply r2
    | with_reducible apply r3
    | with_reducible apply r4
    | with_reducible apply ite_run
    | with_reducible apply getD_run
    | split
    | with_reducible apply run_upd_placeWait u0
    | dsimp only
    | intro _ _

theorem failFirst_run {f K s0} (hf : 8590459904 ||| f = f)
    (hK : ∀ x, x ∈ ([] : List Nat) → x ∈ K) {s x1 x2 x3 x4}
    (h : Run f K s0 s) : Run f K s0 (State.failFirst s x1 x2 x3 x4) := by
  have r1 := @setStream_run f K s0 (orr hf rfl) (sbk hK rfl)
  have r2 := @failAt_run f K s0 (orr hf rfl) (sbk hK rfl)
  have r3 := @dropStruck_run f K s0 (orr hf rfl) (sbk hK rfl)
  unfold State.failFirst
  repeat' first
    | with_reducible assumption
    | with_reducible apply r1
    | with_reducible apply r2
    | with_reducible apply r3
    | split
    | dsimp only
    | intro _ _

theorem finishRange_run {f K s0} (hf : 40008122385408 ||| f = f)
    (hK : ∀ x, x ∈ ([0x501101, 0x501102, 0x502101, 0x502102, 0x502104, 0x502105, 0x502106, 0x503101, 0x507001, 0x507002, 0x508102, 0x508103,
       0x508104, 0x600004, 0xA10001, 0xA10006] : List Nat) → x ∈ K) {s x1 x2 x3 x4 x5}
    (h : Run f K s0 s) : Run f K s0 (State.finishRange s x1 x2 x3 x4 x5).2 := by
  have r1 := @emitRange_run f K s0 (orr hf rfl) (sbk hK rfl)
  have r2 := @formParts_run f K s0 (orr hf rfl) (sbk hK rfl)
  unfold State.finishRange
  repeat' first
    | with_reducible assumption
    | with_reducible apply r1
    | with_reducible apply r2
    | with_reducible apply ite_run
    | split
    | dsimp only
    | intro _ _

theorem gathered_run {f K s0} (hf : 2147483648 ||| f = f)
    (hK : ∀ x, x ∈ ([] : List Nat) → x ∈ K) {s x1}
    (h : Run f K s0 s) : Run f K s0 (State.gathered s x1) := by
  have u0 := orr (a := 2147483648) hf rfl
  unfold State.gathered
  repeat' first
    | with_reducible assumption
    | split
    | with_reducible apply run_upd_exch u0
    | dsimp only
    | intro _ _

theorem landCkpt_run {f K s0} (hf : 268435456 ||| f = f)
    (hK : ∀ x, x ∈ ([0x120103, 0x510109, 0x600004] : List Nat) → x ∈ K) {s x1 x2}
    (h : Run f K s0 s) : Run f K s0 (State.landCkpt s x1 x2) := by
  have r1 := @keep_run f K s0 (orr hf rfl) (sbk hK rfl)
  have r2 := @reason_run f K s0 (orr hf rfl) (sbk hK rfl)
  have j0 := sbk (a := [PD.HOST_DMA_ERR]) hK rfl
  have j1 := sbk (a := [PD.CKPT_PREFETCH_BYTES]) hK rfl
  have u0 := orr (a := 268435456) hf rfl
  unfold State.landCkpt
  repeat' first
    | with_reducible assumption
    | with_reducible apply bump_run j0
    | with_reducible apply bumpBy_run j1
    | with_reducible apply r1
    | with_reducible apply r2
    | with_reducible apply ite_run
    | (with_reducible apply each_run; intro _ _ _)
    | with_reducible apply RunOpt.map
    | with_reducible apply getD_run
    | split
    | with_reducible apply run_upd_backward u0
    | dsimp only
    | intro _ _

theorem lateRecord_run {f K s0} (hf : 35253091565568 ||| f = f)
    (hK : ∀ x, x ∈ ([0x610102, 0x700208] : List Nat) → x ∈ K) {s x1}
    (h : Run f K s0 s) : Run f K s0 (State.lateRecord s x1) := by
  have r1 := @sendTo_run f K s0 (orr hf rfl) (sbk hK rfl)
  have j0 := sbk (a := [PD.EXCH_LATE]) hK rfl
  unfold State.lateRecord
  repeat' first
    | with_reducible assumption
    | with_reducible apply bump_run j0
    | with_reducible apply r1
    | split
    | dsimp only
    | intro _ _

theorem leaveForward_run {f K s0} (hf : 35184640524288 ||| f = f)
    (hK : ∀ x, x ∈ ([0x120103, 0x510108, 0x600004] : List Nat) → x ∈ K) {s x1 x2 x3 x4 x5 x6}
    (h : Run f K s0 s) : Run f K s0 (State.leaveForward s x1 x2 x3 x4 x5 x6) := by
  have r1 := @checkpoint_run f K s0 (orr hf rfl) (sbk hK rfl)
  have u0 := orr (a := 268435456) hf rfl
  unfold State.leaveForward
  repeat' first
    | with_reducible assumption
    | with_reducible apply r1
    | with_reducible apply ite_run
    | (with_reducible apply each_run; intro _ _ _)
    | split
    | with_reducible apply run_upd_backward u0
    | dsimp only
    | intro _ _

theorem leaveDigital_run {f K s0} (hf : 35256313053184 ||| f = f)
    (hK : ∀ x, x ∈ ([0x700208] : List Nat) → x ∈ K) {s x1 x2 x3}
    (h : Run f K s0 s) : Run f K s0 (State.leaveDigital s x1 x2 x3) := by
  have r1 := @forwardEnds_run f K s0 (orr hf rfl) (sbk hK rfl)
  have u0 := orr (a := 262144) hf rfl
  unfold State.leaveDigital
  repeat' first
    | with_reducible assumption
    | with_reducible apply r1
    | with_reducible apply ite_run
    | split
    | with_reducible apply run_upd_arrays u0
    | dsimp only
    | intro _ _

theorem leave_run {f K s0} (hf : 35256581488640 ||| f = f)
    (hK : ∀ x, x ∈ ([0x120103, 0x510108, 0x600004, 0x700208] : List Nat) → x ∈ K) {s x1 x2 x3 x4 x5}
    (h : Run f K s0 s) : Run f K s0 (State.leave s x1 x2 x3 x4 x5) := by
  have r1 := @leaveForward_run f K s0 (orr hf rfl) (sbk hK rfl)
  have r2 := @leaveDigital_run f K s0 (orr hf rfl) (sbk hK rfl)
  have u0 := orr (a := 1073741824) hf rfl
  unfold State.leave
  repeat' first
    | with_reducible assumption
    | with_reducible apply r1
    | with_reducible apply r2
    | with_reducible apply ite_run
    | split
    | with_reducible apply run_upd_step u0
    | dsimp only
    | intro _ _

theorem leaveRow_run {f K s0} (hf : 40079853372416 ||| f = f)
    (hK : ∀ x, x ∈ ([0x501101, 0x501102, 0x502101, 0x502102, 0x502104, 0x502105, 0x502106, 0x507001, 0x507002, 0x600004, 0x610107, 0x700208,
       0xA10001, 0xA10006] : List Nat) → x ∈ K) {s x1 x2 x3}
    (h : Run f K s0 s) : Run f K s0 (State.leaveRow s x1 x2 x3) := by
  have r1 := @emitGain_run f K s0 (orr hf rfl) (sbk hK rfl)
  have r2 := @doneMicro_run f K s0 (orr hf rfl) (sbk hK rfl)
  have u0 := orr (a := 268435456) hf rfl
  unfold State.leaveRow
  repeat' first
    | with_reducible assumption
    | with_reducible apply r1
    | with_reducible apply r2
    | with_reducible apply ite_run
    | with_reducible apply RunOpt.map
    | with_reducible apply getD_run
    | split
    | with_reducible apply run_upd_backward u0
    | dsimp only
    | intro _ _

theorem meetError_run {f K s0} (hf : 40101558929089 ||| f = f)
    (hK : ∀ x, x ∈ ([0x110101, 0x110102, 0x110103, 0x120103, 0x508205, 0x508206, 0x600002, 0x600003, 0x600004, 0x600007, 0x600203, 0x800202,
       0xA00105, 0xA00106, 0xA00108, 0xA00109, 0xA10001, 0xA10006] : List Nat) → x ∈ K) {s x1 x2 x3 x4}
    (h : Run f K s0 s) : Run f K s0 (State.meetError s x1 x2 x3 x4).2 := by
  have r1 := @bridgeFailed_run f K s0 (orr hf rfl) (sbk hK rfl)
  have r2 := @reason_run f K s0 (orr hf rfl) (sbk hK rfl)
  have r3 := @storeLost_run f K s0 (orr hf rfl) (sbk hK rfl)
  have r4 := @confirm_run f K s0 (orr hf rfl) (sbk hK rfl)
  have r5 := @blockError_run f K s0 (orr hf rfl) (sbk hK rfl)
  have j0 := sbk (a := [PD.HOST_DMA_ERR]) hK rfl
  have j1 := sbk (a := [PD.BED_RESIDUE_ERR]) hK rfl
  have j2 := sbk (a := [PD.BED_PARITY_ERR]) hK rfl
  unfold State.meetError
  repeat' first
    | with_reducible assumption
    | with_reducible apply bump_run j0
    | with_reducible apply bump_run j1
    | with_reducible apply bump_run j2
    | with_reducible apply r1
    | with_reducible apply r2
    | with_reducible apply r3
    | with_reducible apply r4
    | with_reducible apply ite_run
    | with_reducible apply run_of_snd (by with_reducible assumption)
    | with_reducible apply r5
    | split
    | dsimp only
    | intro _ _

theorem meetErrors_run {f K s0} (hf : 40101558929089 ||| f = f)
    (hK : ∀ x, x ∈ ([0x110101, 0x110102, 0x110103, 0x120103, 0x508205, 0x508206, 0x600002, 0x600003, 0x600004, 0x600007, 0x600203, 0x800202,
       0xA00105, 0xA00106, 0xA00108, 0xA00109, 0xA10001, 0xA10006] : List Nat) → x ∈ K) {s x1 x2 x3 x4}
    (h : Run f K s0 s) : Run f K s0 (State.meetErrors s x1 x2 x3 x4).2 := by
  have r1 := @meetError_run f K s0 (orr hf rfl) (sbk hK rfl)
  unfold State.meetErrors
  repeat' first
    | with_reducible assumption
    | (with_reducible apply foldl_run; intro _ _ _)
    | (with_reducible apply foldl_proj_run Prod.snd; intro _ _ _)
    | (with_reducible apply foldl_proj_run Prod.fst; intro _ _ _)
    | with_reducible apply run_of_snd (by with_reducible assumption)
    | with_reducible apply run_of_fst (by with_reducible assumption)
    | with_reducible apply r1
    | split
    | dsimp only
    | intro _ _

theorem moveHomes_run {f K s0} (hf : 8589934592 ||| f = f)
    (hK : ∀ x, x ∈ ([] : List Nat) → x ∈ K) {s x1 x2 x3}
    (h : Run f K s0 s) : Run f K s0 (State.moveHomes s x1 x2 x3) := by
  have cm := orr (a := 8589934592) hf rfl
  unfold State.moveHomes
  repeat' first
    | with_reducible assumption
    | with_reducible apply write_run cm
    | with_reducible apply ite_run
    | (with_reducible apply each_run; intro _ _ _)
    | (with_reducible apply foldl_run; intro _ _ _)
    | (with_reducible apply foldl_proj_run Prod.snd; intro _ _ _)
    | (with_reducible apply foldl_proj_run Prod.fst; intro _ _ _)
    | with_reducible apply RunOpt.map
    | with_reducible apply run_of_snd (by with_reducible assumption)
    | with_reducible apply run_of_fst (by with_reducible assumption)
    | with_reducible apply getD_run
    | split
    | dsimp only
    | intro _ _

theorem planFails_run {f K s0} (hf : 35596688949248 ||| f = f)
    (hK : ∀ x, x ∈ ([0x300004, 0x300006] : List Nat) → x ∈ K) {s x1}
    (h : Run f K s0 s) : Run f K s0 (State.planFails s x1) := by
  have j0 := sbk (a := [PD.PLAN_STATUS]) hK rfl
  have j1 := sbk (a := [PD.PLAN_FAULTS]) hK rfl
  have cr := orr (a := 35596688949248) hf rfl
  unfold State.planFails
  repeat' first
    | with_reducible assumption
    | with_reducible apply result_run cr j0
    | with_reducible apply setRows_run j1
    | split
    | dsimp only
    | intro _ _

theorem putTiles_run {f K s0} (hf : 35192962023424 ||| f = f)
    (hK : ∀ x, x ∈ ([] : List Nat) → x ∈ K) {s x1 x2}
    (h : Run f K s0 s) : Run f K s0 (State.putTiles s x1 x2) := by
  have r1 := @writeTiles_run f K s0 (orr hf rfl) (sbk hK rfl)
  unfold State.putTiles
  repeat' first
    | with_reducible assumption
    | with_reducible apply r1
    | split
    | dsimp only
    | intro _ _

theorem putWork_run {f K s0} (hf : 110376866563072 ||| f = f)
    (hK : ∀ x, x ∈ ([0x501101, 0x501102, 0x502101, 0x502102, 0x502104, 0x502105, 0x502106, 0x503101, 0x507001, 0x507002, 0x508102, 0x508103,
       0x508104, 0x508201, 0x508202, 0x508203, 0x508204, 0x508207, 0x508209, 0x600004, 0xA10001, 0xA10006] : List Nat) → x ∈ K) {s x1 x2 x3 x4 x5 x6}
    (h : Run f K s0 s) : Run f K s0 (State.putWork s x1 x2 x3 x4 x5 x6).2.2 := by
  have r1 := @finishRange_run f K s0 (orr hf rfl) (sbk hK rfl)
  have r2 := @setStream_run f K s0 (orr hf rfl) (sbk hK rfl)
  have r3 := @countBeds_run f K s0 (orr hf rfl) (sbk hK rfl)
  have r4 := @bedMoves_run f K s0 (orr hf rfl) (sbk hK rfl)
  unfold State.putWork
  repeat' first
    | with_reducible assumption
    | with_reducible apply r2
    | with_reducible apply r3
    | with_reducible apply r4
    | with_reducible apply ite_run
    | with_reducible apply run_of_snd (by with_reducible assumption)
    | with_reducible apply getD_run
    | with_reducible apply r1
    | split
    | dsimp only
    | intro _ _

theorem queueRoots_run {f K s0} (hf : 4294967296 ||| f = f)
    (hK : ∀ x, x ∈ ([0x620207] : List Nat) → x ∈ K) {s}
    (h : Run f K s0 s) : Run f K s0 (State.queueRoots s) := by
  have j0 := sbk (a := [PD.ROOT_OVERRUN]) hK rfl
  have u0 := orr (a := 4294967296) hf rfl
  unfold State.queueRoots
  repeat' first
    | with_reducible assumption
    | with_reducible apply bump_run j0
    | with_reducible apply ite_run
    | (with_reducible apply each_run; intro _ _ _)
    | split
    | with_reducible apply run_upd_upd u0
    | dsimp only
    | intro _ _

theorem receiveRecord_run {f K s0} (hf : 68719476736 ||| f = f)
    (hK : ∀ x, x ∈ ([0x610104, 0x610108, 0x610109] : List Nat) → x ∈ K) {s x1 x2 x3 x4}
    (hx : ∀ t a b, Run f K s0 t → Run f K s0 (x4 t a b))     (h : Run f K s0 s) : Run f K s0 (State.receiveRecord s x1 x2 x3 x4) := by
  have r1 := @takeMessage_run f K s0 (orr hf rfl) (sbk hK rfl)
  have j0 := sbk (a := [PD.EXCH_NOTICE_LATE]) hK rfl
  have j1 := sbk (a := [PD.EXCH_REC_ERR]) hK rfl
  have j2 := sbk (a := [PD.EXCH_STALE]) hK rfl
  unfold State.receiveRecord
  repeat' first
    | with_reducible assumption
    | apply hx
    | with_reducible apply bump_run j0
    | with_reducible apply bump_run j1
    | with_reducible apply bump_run j2
    | with_reducible apply r1
    | with_reducible apply ite_run
    | split
    | dsimp only
    | intro _ _

theorem runAccumulate_run {f K s0} (hf : 110448807265280 ||| f = f)
    (hK : ∀ x, x ∈ ([0x501101, 0x501102, 0x502101, 0x502102, 0x502104, 0x502105, 0x502106, 0x503101, 0x506002, 0x507001, 0x507002, 0x508102,
       0x508103, 0x508104, 0x508201, 0x508202, 0x508203, 0x508204, 0x508207, 0x508209, 0x510101, 0x510102, 0x510103, 0x510104,
       0x51010D, 0x51010F, 0x600004, 0x610107, 0x700208, 0xA10001, 0xA10006] : List Nat) → x ∈ K) {s x1 x2 x3 x4 x5 x6 x7 x8}
    (h : Run f K s0 s) : Run f K s0 (State.runAccumulate s x1 x2 x3 x4 x5 x6 x7 x8).1 := by
  have r1 := @emitted_run f K s0 (orr hf rfl) (sbk hK rfl)
  have r2 := @putWork_run f K s0 (orr hf rfl) (sbk hK rfl)
  have r3 := @doneMicro_run f K s0 (orr hf rfl) (sbk hK rfl)
  have j0 := sbk (a := [PD.REF_TILES]) hK rfl
  have j1 := sbk (a := [PD.BWDX_TILES]) hK rfl
  have j2 := sbk (a := [PD.BWDW_TILES]) hK rfl
  have j3 := sbk (a := [PD.BWDW_ZERO_BLOCKS]) hK rfl
  have j4 := sbk (a := [PD.BWDW_REBLOCKED]) hK rfl
  have j5 := sbk (a := [PD.FROG_MISSING]) hK rfl
  have j6 := sbk (a := [PD.KEPT_MISSING]) hK rfl
  unfold State.runAccumulate
  repeat' first
    | with_reducible assumption
    | with_reducible apply bump_run j1
    | with_reducible apply bump_run j5
    | with_reducible apply bump_run j6
    | with_reducible apply bumpBy_run j0
    | with_reducible apply bumpBy_run j2
    | with_reducible apply bumpBy_run j3
    | with_reducible apply bumpBy_run j4
    | with_reducible apply r1
    | with_reducible apply r3
    | with_reducible apply ite_run
    | (with_reducible apply each_run; intro _ _ _)
    | with_reducible apply run_of_snd (by with_reducible assumption)
    | with_reducible apply run_of_snd2 (by with_reducible assumption)
    | with_reducible apply r2
    | split
    | dsimp only
    | intro _ _

theorem runDesc_run {f K s0} (hf : 110449344136192 ||| f = f)
    (hK : ∀ x, x ∈ ([0x120103, 0x501101, 0x501102, 0x502101, 0x502102, 0x502104, 0x502105, 0x502106, 0x503101, 0x506002, 0x507001, 0x507002,
       0x508102, 0x508103, 0x508104, 0x508201, 0x508202, 0x508203, 0x508204, 0x508207, 0x508209, 0x508301, 0x508302, 0x510101,
       0x510102, 0x510103, 0x510104, 0x510105, 0x510106, 0x510108, 0x510109, 0x51010B, 0x51010C, 0x51010D, 0x51010E, 0x51010F,
       0x600004, 0x610107, 0x700208, 0xA10001, 0xA10006] : List Nat) → x ∈ K) {s x1 x2 x3 x4}
    (h : Run f K s0 s) : Run f K s0 (State.runDesc s x1 x2 x3 x4).1 := by
  have r1 := @runRow_run f K s0 (orr hf rfl) (sbk hK rfl)
  have r2 := @emitted_run f K s0 (orr hf rfl) (sbk hK rfl)
  have r3 := @runTopk_run f K s0 (orr hf rfl) (sbk hK rfl)
  have r4 := @runAccumulate_run f K s0 (orr hf rfl) (sbk hK rfl)
  have r5 := @leaveRow_run f K s0 (orr hf rfl) (sbk hK rfl)
  have r6 := @runHod_run f K s0 (orr hf rfl) (sbk hK rfl)
  have r7 := @runAct_run f K s0 (orr hf rfl) (sbk hK rfl)
  have r8 := @sendLayer_run f K s0 (orr hf rfl) (sbk hK rfl)
  have r9 := @reason_run f K s0 (orr hf rfl) (sbk hK rfl)
  have r10 := @runAttn_run f K s0 (orr hf rfl) (sbk hK rfl)
  have j0 := sbk (a := [PD.HOST_DMA_ERR]) hK rfl
  unfold State.runDesc
  repeat' first
    | with_reducible assumption
    | with_reducible apply bump_run j0
    | with_reducible apply r2
    | with_reducible apply r5
    | with_reducible apply r8
    | with_reducible apply r9
    | with_reducible apply ite_run
    | (with_reducible apply each_run; intro _ _ _)
    | with_reducible apply RunOpt.map
    | with_reducible apply run_of_fst (by with_reducible assumption)
    | with_reducible apply getD_run
    | with_reducible apply r1
    | with_reducible apply r3
    | with_reducible apply r4
    | with_reducible apply r6
    | with_reducible apply r7
    | with_reducible apply r10
    | split
    | dsimp only
    | intro _ _

theorem runJoints_run {f K s0} (hf : 40080096642048 ||| f = f)
    (hK : ∀ x, x ∈ ([0x501101, 0x501102, 0x502101, 0x502102, 0x502104, 0x502105, 0x502106, 0x503101, 0x507001, 0x507002, 0x600004, 0x610107,
       0x700208, 0xA10001, 0xA10006] : List Nat) → x ∈ K) {s}
    (h : Run f K s0 s) : Run f K s0 (State.runJoints s) := by
  have r1 := @execJoint_run f K s0 (orr hf rfl) (sbk hK rfl)
  unfold State.runJoints
  repeat' first
    | with_reducible assumption
    | (with_reducible apply each_run; intro _ _ _)
    | with_reducible apply run_of_next (by with_reducible assumption)
    | with_reducible apply r1
    | split
    | dsimp only
    | intro _ _

theorem replaySum_run {f K s0} (hf : 40080096642048 ||| f = f)
    (hK : ∀ x, x ∈ ([0x501101, 0x501102, 0x502101, 0x502102, 0x502104, 0x502105, 0x502106, 0x503101, 0x507001, 0x507002, 0x508102, 0x508103,
       0x508104, 0x508201, 0x508202, 0x508203, 0x508204, 0x600004, 0x610107, 0x700208, 0xA10001, 0xA10006] : List Nat) → x ∈ K) {s x1 x2 x3 x4 x5 x6 x7}
    (h : Run f K s0 s) : Run f K s0 (State.replaySum s x1 x2 x3 x4 x5 x6 x7).2 := by
  have r1 := @setStream_run f K s0 (orr hf rfl) (sbk hK rfl)
  have r2 := @runJoints_run f K s0 (orr hf rfl) (sbk hK rfl)
  have r3 := @emitRange_run f K s0 (orr hf rfl) (sbk hK rfl)
  have r4 := @formParts_run f K s0 (orr hf rfl) (sbk hK rfl)
  have r5 := @countBeds_run f K s0 (orr hf rfl) (sbk hK rfl)
  unfold State.replaySum
  repeat' first
    | with_reducible assumption
    | with_reducible apply r1
    | with_reducible apply r2
    | with_reducible apply r3
    | with_reducible apply r4
    | with_reducible apply r5
    | with_reducible apply ite_run
    | with_reducible apply getD_run
    | split
    | dsimp only
    | intro _ _

theorem replayOne_run {f K s0} (hf : 110449377690624 ||| f = f)
    (hK : ∀ x, x ∈ ([0x120103, 0x501101, 0x501102, 0x502101, 0x502102, 0x502104, 0x502105, 0x502106, 0x503101, 0x506002, 0x507001, 0x507002,
       0x508102, 0x508103, 0x508104, 0x508201, 0x508202, 0x508203, 0x508204, 0x508207, 0x508209, 0x508301, 0x508302, 0x510101,
       0x510102, 0x510103, 0x510104, 0x510105, 0x510106, 0x510108, 0x510109, 0x51010B, 0x51010C, 0x51010D, 0x51010E, 0x51010F,
       0x600004, 0x610107, 0x700208, 0xA10001, 0xA10006] : List Nat) → x ∈ K) {s x1 x2}
    (h : Run f K s0 s) : Run f K s0 (State.replayOne s x1 x2).2 := by
  have r1 := @runDesc_run f K s0 (orr hf rfl) (sbk hK rfl)
  have r2 := @replaySum_run f K s0 (orr hf rfl) (sbk hK rfl)
  unfold State.replayOne
  repeat' first
    | with_reducible assumption
    | with_reducible apply ite_run
    | with_reducible apply run_of_snd (by with_reducible assumption)
    | with_reducible apply run_of_fst (by with_reducible assumption)
    | with_reducible apply r1
    | with_reducible apply r2
    | split
    | dsimp only
    | intro _ _

theorem replayState_run {f K s0} (hf : 35192964382720 ||| f = f)
    (hK : ∀ x, x ∈ ([] : List Nat) → x ∈ K) {s x1 x2 x3}
    (h : Run f K s0 s) : Run f K s0 (State.replayState s x1 x2 x3) := by
  have r1 := @tileWrite_run f K s0 (orr hf rfl) (sbk hK rfl)
  have r2 := @setLayerNum_run f K s0 (orr hf rfl) (sbk hK rfl)
  have r3 := @keptLintel_run f K s0 (orr hf rfl) (sbk hK rfl)
  unfold State.replayState
  repeat' first
    | with_reducible assumption
    | with_reducible apply r1
    | with_reducible apply r2
    | with_reducible apply r3
    | (with_reducible apply each_run; intro _ _ _)
    | split
    | dsimp only
    | intro _ _

theorem replayDigital_run {f K s0} (hf : 110449377690624 ||| f = f)
    (hK : ∀ x, x ∈ ([0x120103, 0x501101, 0x501102, 0x502101, 0x502102, 0x502104, 0x502105, 0x502106, 0x503101, 0x506002, 0x507001, 0x507002,
       0x508102, 0x508103, 0x508104, 0x508201, 0x508202, 0x508203, 0x508204, 0x508207, 0x508209, 0x508301, 0x508302, 0x510101,
       0x510102, 0x510103, 0x510104, 0x510105, 0x510106, 0x510107, 0x510108, 0x510109, 0x51010B, 0x51010C, 0x51010D, 0x51010E,
       0x51010F, 0x600004, 0x610107, 0x700208, 0xA10001, 0xA10006] : List Nat) → x ∈ K) {a : State × List (Nat × Stream)} {x1 x2}
    (h : Run f K s0 a.1) : Run f K s0 (State.replayDigital a x1 x2).1 := by
  have r1 := @keep_run f K s0 (orr hf rfl) (sbk hK rfl)
  have r2 := @keepOutput_run f K s0 (orr hf rfl) (sbk hK rfl)
  have j : ∀ k, k ∈ replayCounters → k ∈ K := fun k hk => hK k (subk_mem (a := replayCounters) rfl hk)
  have hc : ∀ (u : State) (l : List Nat), (∀ k, k ∈ l → k ∈ K) → ∀ t, Run f K s0 t →
      Run f K s0 (t.each l fun s k => s.setNum k (u.num k)) := by
    intro u l
    induction l with
    | nil => exact fun _ _ ht => ht
    | cons k l ih =>
      intro hl t ht
      refine ih (fun i hi => hl i (List.mem_cons_of_mem _ hi)) _ (setNum_run ?_ ht)
      intro i hi
      cases hi with
      | head => exact hl _ List.mem_cons_self
      | tail _ hi => cases hi
  have jr := sbk (a := [PD.RECOMPUTE_OPS]) hK rfl
  have u0 := orr (a := 268435456) hf rfl
  unfold State.replayDigital
  obtain ⟨s, g⟩ := a
  dsimp only
  cases s.streamDef x1.stream with
  | none => exact h
  | some df =>
    dsimp only
    generalize (State.replayOne _ x1 df) = p
    have b := fun v => run_upd_backward (f := f) (K := K) (s0 := s0) (v0 := v) u0 (bump_run jr (hc p.2 _ j s h))
    split
    · split
      · exact each_run (fun t x ht => r2 ht) (each_run (fun t x ht => r1 ht) (b _))
      · exact each_run (fun t x ht => r1 ht) (b _)
    · exact each_run (fun t x ht => r1 ht) (b _)

theorem replayLayers_run {f K s0} (hf : 110449377690624 ||| f = f)
    (hK : ∀ x, x ∈ ([0x120103, 0x501101, 0x501102, 0x502101, 0x502102, 0x502104, 0x502105, 0x502106, 0x503101, 0x506002, 0x507001, 0x507002,
       0x508102, 0x508103, 0x508104, 0x508201, 0x508202, 0x508203, 0x508204, 0x508207, 0x508209, 0x508301, 0x508302, 0x510101,
       0x510102, 0x510103, 0x510104, 0x510105, 0x510106, 0x510107, 0x510108, 0x510109, 0x51010B, 0x51010C, 0x51010D, 0x51010E,
       0x51010F, 0x600004, 0x610107, 0x700208, 0xA10001, 0xA10006] : List Nat) → x ∈ K) {s x1 x2}
    (h : Run f K s0 s) : Run f K s0 (State.replayLayers s x1 x2).2 := by
  have r1 := @replayDigital_run f K s0 (orr hf rfl) (sbk hK rfl)
  have u0 := orr (a := 268435456) hf rfl
  induction x2 generalizing s with
  | nil => exact h
  | cons i is ih =>
    unfold State.replayLayers
    split
    · exact ih h
    · split
      · exact h
      · apply ih
        apply run_upd_backward u0
        apply foldl_proj_run Prod.fst
        · intro t x ht
          exact r1 ht
        · exact h

theorem retire_run {f K s0} (hf : 35605278884864 ||| f = f)
    (hK : ∀ x, x ∈ ([] : List Nat) → x ∈ K) {s x1 x2 x3}
    (h : Run f K s0 s) : Run f K s0 (State.retire s x1 x2 x3) := by
  have r1 := @setStream_run f K s0 (orr hf rfl) (sbk hK rfl)
  have r2 := @completion_run f K s0 (orr hf rfl) (sbk hK rfl)
  have r3 := @mark_run f K s0 (orr hf rfl) (sbk hK rfl)
  unfold State.retire
  repeat' first
    | with_reducible assumption
    | with_reducible apply r1
    | with_reducible apply r2
    | with_reducible apply r3
    | with_reducible apply ite_run
    | split
    | dsimp only
    | intro _ _

theorem sendGather_run {f K s0} (hf : 35253091565568 ||| f = f)
    (hK : ∀ x, x ∈ ([0x700208] : List Nat) → x ∈ K) {s x1 x2 x3 x4}
    (h : Run f K s0 s) : Run f K s0 (State.sendGather s x1 x2 x3 x4) := by
  have r1 := @send_run f K s0 (orr hf rfl) (sbk hK rfl)
  unfold State.sendGather
  repeat' first
    | with_reducible assumption
    | with_reducible apply r1
    | (with_reducible apply each_run; intro _ _ _)
    | split
    | dsimp only
    | intro _ _

theorem startGrant_run {f K s0} (hf : 4398046511104 ||| f = f)
    (hK : ∀ x, x ∈ ([] : List Nat) → x ∈ K) {s x1 x2}
    (h : Run f K s0 s) : Run f K s0 (State.startGrant s x1 x2) := by
  have u0 := orr (a := 4398046511104) hf rfl
  unfold State.startGrant
  repeat' first
    | with_reducible assumption
    | split
    | with_reducible apply run_upd_faults u0
    | dsimp only
    | intro _ _

theorem takeContribution_run {f K s0} (hf : 35255239049216 ||| f = f)
    (hK : ∀ x, x ∈ ([0x600004, 0x610101, 0x610102, 0x610107, 0x700208] : List Nat) → x ∈ K) {s x1 x2}
    (h : Run f K s0 s) : Run f K s0 (State.takeContribution s x1 x2) := by
  have r1 := @reason_run f K s0 (orr hf rfl) (sbk hK rfl)
  have r2 := @acceptOwn_run f K s0 (orr hf rfl) (sbk hK rfl)
  have r3 := @lateRecord_run f K s0 (orr hf rfl) (sbk hK rfl)
  have j0 := sbk (a := [PD.EXCH_RECORDS]) hK rfl
  have j1 := sbk (a := [PD.EXCH_EXCLUDED]) hK rfl
  unfold State.takeContribution
  repeat' first
    | with_reducible assumption
    | with_reducible apply bump_run j0
    | with_reducible apply bump_run j1
    | with_reducible apply r1
    | with_reducible apply r2
    | with_reducible apply r3
    | with_reducible apply ite_run
    | split
    | dsimp only
    | intro _ _

theorem usePlacement_run {f K s0} (hf : 40007644241920 ||| f = f)
    (hK : ∀ x, x ∈ ([0x320001, 0x32000A, 0x320101, 0x40100D, 0x401101, 0x502101, 0x502104, 0x502105, 0x502106, 0x507001, 0x507003, 0x600004,
       0x620209, 0x62020A, 0xA10001, 0xA10006] : List Nat) → x ∈ K) {s x1}
    (h : Run f K s0 s) : Run f K s0 (State.usePlacement s x1) := by
  have r1 := @preload_run f K s0 (orr hf rfl) (sbk hK rfl)
  have r2 := @rewriteArrays_run f K s0 (orr hf rfl) (sbk hK rfl)
  have j0 := sbk (a := [PD.PLACE_VERSION]) hK rfl
  have j1 := sbk (a := [PD.PLACE_TRIGGERS]) hK rfl
  have j2 := sbk (a := [PD.PLACE_COUNT]) hK rfl
  have u0 := orr (a := 270336) hf rfl
  unfold State.usePlacement
  repeat' first
    | with_reducible assumption
    | with_reducible apply bump_run j2
    | with_reducible apply setNum_run j0
    | with_reducible apply setNum_run j1
    | with_reducible apply r1
    | with_reducible apply r2
    | split
    | with_reducible apply run_upd_place_arrays u0
    | dsimp only
    | intro _ _

theorem execForemanBound_run {f K s0} (hf : 4398046511104 ||| f = f)
    (hK : ∀ x, x ∈ ([] : List Nat) → x ∈ K) {s x0 x1}
    (h : Run f K s0 s) : RunRes f K s0 (execForemanBound x0 x1 s) := by
  have u0 := orr (a := 4398046511104) hf rfl
  unfold execForemanBound
  repeat' first
    | with_reducible assumption
    | with_reducible apply RunRes.ite
    | with_reducible apply ite_run
    | with_reducible apply RunRes.next
    | split
    | with_reducible apply run_upd_faults u0
    | dsimp only
    | intro _ _

theorem execGatherRecord_run {f K s0} (hf : 40078511194112 ||| f = f)
    (hK : ∀ x, x ∈ ([0x40100D, 0x401101, 0x502101, 0x502104, 0x502105, 0x502106, 0x507001, 0x507003, 0x600004, 0x610101, 0x610104, 0x610108,
       0x610109, 0x620209, 0x62020A, 0xA10001, 0xA10006] : List Nat) → x ∈ K) {s x0}
    (h : Run f K s0 s) : RunRes f K s0 (execGatherRecord x0 s) := by
  have r1 := @putTiles_run f K s0 (orr hf rfl) (sbk hK rfl)
  have r2 := @putOutRows_run f K s0 (orr hf rfl) (sbk hK rfl)
  have r3 := @gathered_run f K s0 (orr hf rfl) (sbk hK rfl)
  have r4 := @receiveRecord_run f K s0 (orr hf rfl) (sbk hK rfl)
  have r5 := @rewriteArrays_run f K s0 (orr hf rfl) (sbk hK rfl)
  have j0 := sbk (a := [PD.EXCH_RECORDS]) hK rfl
  have j1 := sbk (a := [PD.EXCH_REC_ERR]) hK rfl
  unfold execGatherRecord
  repeat' first
    | with_reducible assumption
    | with_reducible apply bump_run j0
    | with_reducible apply bump_run j1
    | with_reducible apply r1
    | with_reducible apply r2
    | with_reducible apply r3
    | (with_reducible apply r4; intro _ _ _ _)
    | with_reducible apply r5
    | with_reducible apply RunRes.ite
    | with_reducible apply ite_run
    | with_reducible apply RunRes.next
    | (with_reducible apply each_run; intro _ _ _)
    | split
    | dsimp only
    | intro _ _

theorem execDoorbell_run {f K s0} (hf : 35596688950272 ||| f = f)
    (hK : ∀ x, x ∈ ([0x310301, 0x310302, 0x310304] : List Nat) → x ∈ K) {s x0 x1 x2 x3}
    (h : Run f K s0 s) : RunRes f K s0 (execDoorbell x0 x1 x2 x3 s) := by
  have r1 := @doorbell_run f K s0 (orr hf rfl) (sbk hK rfl)
  unfold execDoorbell
  repeat' first
    | with_reducible assumption
    | with_reducible apply r1
    | with_reducible apply RunRes.next
    | split
    | dsimp only
    | intro _ _

theorem execPlanLoadComplete_run {f K s0} (hf : 40007677803520 ||| f = f)
    (hK : ∀ x, x ∈ ([0x300004, 0x300006, 0x320001, 0x32000A, 0x320101, 0x40100D, 0x401101, 0x502101, 0x502104, 0x502105, 0x502106, 0x507001,
       0x507003, 0x600004, 0x620209, 0x62020A, 0xA10001, 0xA10006] : List Nat) → x ∈ K) {s}
    (h : Run f K s0 s) : RunRes f K s0 (execPlanLoadComplete s) := by
  have r1 := @planFails_run f K s0 (orr hf rfl) (sbk hK rfl)
  have r2 := @usePlacement_run f K s0 (orr hf rfl) (sbk hK rfl)
  have j0 := sbk (a := [PD.PLAN_STATUS]) hK rfl
  have cr := orr (a := 35596688949248) hf rfl
  have u0 := orr (a := 4096) hf rfl
  have u1 := orr (a := 4328524800) hf rfl
  unfold execPlanLoadComplete
  repeat' first
    | with_reducible assumption
    | with_reducible apply result_run cr j0
    | with_reducible apply r1
    | with_reducible apply r2
    | with_reducible apply RunRes.ite
    | with_reducible apply ite_run
    | with_reducible apply RunRes.next
    | split
    | with_reducible apply run_upd_loading u0
    | with_reducible apply run_upd_streams_plan_jointModes_upd u1
    | dsimp only
    | intro _ _

theorem execSetRecord_run {f K s0} (hf : 35255239049216 ||| f = f)
    (hK : ∀ x, x ∈ ([0x610101, 0x610102, 0x610104, 0x610108, 0x610109, 0x700208] : List Nat) → x ∈ K) {s x0}
    (h : Run f K s0 s) : RunRes f K s0 (execSetRecord x0 s) := by
  have r1 := @receiveRecord_run f K s0 (orr hf rfl) (sbk hK rfl)
  have r2 := @lateRecord_run f K s0 (orr hf rfl) (sbk hK rfl)
  have j0 := sbk (a := [PD.EXCH_RECORDS]) hK rfl
  have u0 := orr (a := 2147483648) hf rfl
  unfold execSetRecord
  repeat' first
    | with_reducible assumption
    | with_reducible apply bump_run j0
    | (with_reducible apply r1; intro _ _ _ _)
    | with_reducible apply r2
    | with_reducible apply RunRes.ite
    | with_reducible apply ite_run
    | with_reducible apply RunRes.next
    | split
    | with_reducible apply run_upd_exch u0
    | dsimp only
    | intro _ _

theorem execAudit_run {f K s0} (hf : 39996882960384 ||| f = f)
    (hK : ∀ x, x ∈ ([0x600004, 0xA00101, 0xA00102, 0xA00103, 0xA00104, 0xA00105, 0xA00106, 0xA00108, 0xA01003, 0xA10001, 0xA10006] : List Nat) → x ∈ K) {s x0 x1 x2}
    (h : Run f K s0 s) : RunRes f K s0 (execAudit x0 x1 x2 s) := by
  have r1 := @grant_run f K s0 (orr hf rfl) (sbk hK rfl)
  have r2 := @auditDigital_run f K s0 (orr hf rfl) (sbk hK rfl)
  have r3 := @auditCell_run f K s0 (orr hf rfl) (sbk hK rfl)
  have j0 := sbk (a := [PD.AUDITS_DONE]) hK rfl
  have j1 := sbk (a := [PD.AUDITS_ABANDONED]) hK rfl
  have u0 := orr (a := 4398046511104) hf rfl
  unfold execAudit
  repeat' first
    | with_reducible assumption
    | with_reducible apply bump_run j0
    | with_reducible apply bump_run j1
    | with_reducible apply RunRes.ite
    | with_reducible apply ite_run
    | with_reducible apply RunRes.next
    | (with_reducible apply foldl_run; intro _ _ _)
    | (with_reducible apply foldl_proj_run Prod.snd; intro _ _ _)
    | (with_reducible apply foldl_proj_run Prod.fst; intro _ _ _)
    | with_reducible apply run_of_snd (by with_reducible assumption)
    | with_reducible apply run_of_fst (by with_reducible assumption)
    | with_reducible apply r1
    | with_reducible apply r2
    | with_reducible apply r3
    | split
    | with_reducible apply run_upd_faults u0
    | dsimp only
    | intro _ _

theorem execRootJob_run {f K s0} (hf : 4294967296 ||| f = f)
    (hK : ∀ x, x ∈ ([0x620202, 0x620203, 0x620204, 0x620205, 0x620206] : List Nat) → x ∈ K) {s x0}
    (h : Run f K s0 s) : RunRes f K s0 (execRootJob x0 s) := by
  have r1 := @countRoot_run f K s0 (orr hf rfl) (sbk hK rfl)
  have u0 := orr (a := 4294967296) hf rfl
  unfold execRootJob
  repeat' first
    | with_reducible assumption
    | with_reducible apply r1
    | with_reducible apply RunRes.ite
    | with_reducible apply ite_run
    | with_reducible apply RunRes.next
    | split
    | with_reducible apply run_upd_upd u0
    | dsimp only
    | intro _ _

theorem execLateNotice_run {f K s0} (hf : 70866960384 ||| f = f)
    (hK : ∀ x, x ∈ ([0x610101, 0x610104, 0x610108, 0x610109] : List Nat) → x ∈ K) {s x0}
    (h : Run f K s0 s) : RunRes f K s0 (execLateNotice x0 s) := by
  have r1 := @receiveRecord_run f K s0 (orr hf rfl) (sbk hK rfl)
  have j0 := sbk (a := [PD.EXCH_RECORDS]) hK rfl
  have u0 := orr (a := 2147483648) hf rfl
  unfold execLateNotice
  repeat' first
    | with_reducible assumption
    | with_reducible apply bump_run j0
    | (with_reducible apply r1; intro _ _ _ _)
    | with_reducible apply RunRes.ite
    | with_reducible apply ite_run
    | with_reducible apply RunRes.next
    | split
    | with_reducible apply run_upd_exch u0
    | dsimp only
    | intro _ _

theorem execHistSave_run {f K s0} (hf : 35610647592960 ||| f = f)
    (hK : ∀ x, x ∈ ([0x505005] : List Nat) → x ∈ K) {s}
    (h : Run f K s0 s) : RunRes f K s0 (execHistSave s) := by
  have r1 := @histSave_run f K s0 (orr hf rfl) (sbk hK rfl)
  unfold execHistSave
  repeat' first
    | with_reducible assumption
    | with_reducible apply r1
    | with_reducible apply RunRes.next
    | split
    | dsimp only
    | intro _ _

theorem execSpallReceived_run {f K s0} (hf : 40063454937088 ||| f = f)
    (hK : ∀ x, x ∈ ([0xA10006] : List Nat) → x ∈ K) {s x0}
    (h : Run f K s0 s) : RunRes f K s0 (execSpallReceived x0 s) := by
  have r1 := @cause_run f K s0 (orr hf rfl) (sbk hK rfl)
  have r2 := @takeMessage_run f K s0 (orr hf rfl) (sbk hK rfl)
  have j0 := sbk (a := [PD.SPALL_LOST]) hK rfl
  have u0 := orr (a := 4398046511104) hf rfl
  unfold execSpallReceived
  repeat' first
    | with_reducible assumption
    | with_reducible apply bump_run j0
    | with_reducible apply r1
    | with_reducible apply r2
    | with_reducible apply RunRes.ite
    | with_reducible apply ite_run
    | with_reducible apply RunRes.next
    | with_reducible apply RunOpt.map
    | with_reducible apply getD_run
    | split
    | with_reducible apply run_upd_faults u0
    | dsimp only
    | intro _ _

theorem execCheckpointPrefetch_run {f K s0} (hf : 268435456 ||| f = f)
    (hK : ∀ x, x ∈ ([0x120103, 0x510109, 0x600004] : List Nat) → x ∈ K) {s x0}
    (h : Run f K s0 s) : RunRes f K s0 (execCheckpointPrefetch x0 s) := by
  have r1 := @landCkpt_run f K s0 (orr hf rfl) (sbk hK rfl)
  unfold execCheckpointPrefetch
  repeat' first
    | with_reducible assumption
    | with_reducible apply r1
    | with_reducible apply RunRes.ite
    | with_reducible apply ite_run
    | with_reducible apply RunRes.next
    | (with_reducible apply each_run; intro _ _ _)
    | with_reducible apply RunOpt.map
    | with_reducible apply getD_run
    | split
    | dsimp only
    | intro _ _

theorem execHistSaveAtBoundary_run {f K s0} (hf : 35610647592960 ||| f = f)
    (hK : ∀ x, x ∈ ([0x505005] : List Nat) → x ∈ K) {s}
    (h : Run f K s0 s) : RunRes f K s0 (execHistSaveAtBoundary s) := by
  have r1 := @histDueNow_run f K s0 (orr hf rfl) (sbk hK rfl)
  unfold execHistSaveAtBoundary
  repeat' first
    | with_reducible assumption
    | with_reducible apply r1
    | with_reducible apply RunRes.ite
    | with_reducible apply ite_run
    | with_reducible apply RunRes.next
    | split
    | dsimp only
    | intro _ _

theorem execContributionRecord_run {f K s0} (hf : 35255239049216 ||| f = f)
    (hK : ∀ x, x ∈ ([0x600004, 0x610101, 0x610102, 0x610104, 0x610107, 0x610108, 0x610109, 0x700208] : List Nat) → x ∈ K) {s x0}
    (h : Run f K s0 s) : RunRes f K s0 (execContributionRecord x0 s) := by
  have r1 := @receiveRecord_run f K s0 (orr hf rfl) (sbk hK rfl)
  have r2 := @takeContribution_run f K s0 (orr hf rfl) (sbk hK rfl)
  unfold execContributionRecord
  repeat' first
    | with_reducible assumption
    | (with_reducible apply r1; intro _ _ _ _)
    | with_reducible apply r2
    | with_reducible apply RunRes.next
    | split
    | dsimp only
    | intro _ _

theorem execStageRecord_run {f K s0} (hf : 35263828983808 ||| f = f)
    (hK : ∀ x, x ∈ ([0x610101, 0x610104, 0x610108, 0x610109, 0x61010A] : List Nat) → x ∈ K) {s x0}
    (h : Run f K s0 s) : RunRes f K s0 (execStageRecord x0 s) := by
  have r1 := @tileWrite_run f K s0 (orr hf rfl) (sbk hK rfl)
  have r2 := @receiveRecord_run f K s0 (orr hf rfl) (sbk hK rfl)
  have j0 := sbk (a := [PD.EXCH_RECORDS]) hK rfl
  have j1 := sbk (a := [PD.EXCH_REC_ERR]) hK rfl
  have j2 := sbk (a := [PD.STAGE_TILES]) hK rfl
  have u0 := orr (a := 2147483648) hf rfl
  unfold execStageRecord
  repeat' first
    | with_reducible assumption
    | with_reducible apply bump_run j0
    | with_reducible apply bump_run j1
    | with_reducible apply bump_run j2
    | with_reducible apply r1
    | (with_reducible apply r2; intro _ _ _ _)
    | with_reducible apply RunRes.ite
    | with_reducible apply ite_run
    | with_reducible apply RunRes.next
    | with_reducible apply RunOpt.map
    | split
    | with_reducible apply run_upd_exch u0
    | dsimp only
    | intro _ _

theorem execDescriptorComplete_run {f K s0} (hf : 110483737462465 ||| f = f)
    (hK : ∀ x, x ∈ ([0x110101, 0x110102, 0x110103, 0x120103, 0x501101, 0x501102, 0x502101, 0x502102, 0x502104, 0x502105, 0x502106, 0x503101,
       0x506002, 0x507001, 0x507002, 0x508102, 0x508103, 0x508104, 0x508201, 0x508202, 0x508203, 0x508204, 0x508205, 0x508206,
       0x508207, 0x508209, 0x508301, 0x508302, 0x510101, 0x510102, 0x510103, 0x510104, 0x510105, 0x510106, 0x510108, 0x510109,
       0x51010B, 0x51010C, 0x51010D, 0x51010E, 0x51010F, 0x600002, 0x600003, 0x600004, 0x600007, 0x600203, 0x610107, 0x700208,
       0x800202, 0xA00105, 0xA00106, 0xA00108, 0xA00109, 0xA10001, 0xA10006] : List Nat) → x ∈ K) {s x0 x1 x2}
    (h : Run f K s0 s) : RunRes f K s0 (execDescriptorComplete x0 x1 x2 s) := by
  have r1 := @retire_run f K s0 (orr hf rfl) (sbk hK rfl)
  have r2 := @runDesc_run f K s0 (orr hf rfl) (sbk hK rfl)
  have r3 := @leave_run f K s0 (orr hf rfl) (sbk hK rfl)
  have r4 := @setStream_run f K s0 (orr hf rfl) (sbk hK rfl)
  have r5 := @meetErrors_run f K s0 (orr hf rfl) (sbk hK rfl)
  have r6 := @failFirst_run f K s0 (orr hf rfl) (sbk hK rfl)
  unfold execDescriptorComplete
  repeat' first
    | with_reducible assumption
    | with_reducible apply r1
    | with_reducible apply r3
    | with_reducible apply r4
    | with_reducible apply r6
    | with_reducible apply RunRes.ite
    | with_reducible apply ite_run
    | with_reducible apply RunRes.next
    | with_reducible apply RunOpt.map
    | with_reducible apply run_of_snd (by with_reducible assumption)
    | with_reducible apply run_of_fst (by with_reducible assumption)
    | with_reducible apply getD_run
    | with_reducible apply r2
    | with_reducible apply r5
    | split
    | dsimp only
    | intro _ _

theorem execRecompute_run {f K s0} (hf : 110449377690624 ||| f = f)
    (hK : ∀ x, x ∈ ([0x120103, 0x501101, 0x501102, 0x502101, 0x502102, 0x502104, 0x502105, 0x502106, 0x503101, 0x506002, 0x507001, 0x507002,
       0x508102, 0x508103, 0x508104, 0x508201, 0x508202, 0x508203, 0x508204, 0x508207, 0x508209, 0x508301, 0x508302, 0x510101,
       0x510102, 0x510103, 0x510104, 0x510105, 0x510106, 0x510107, 0x510108, 0x510109, 0x51010A, 0x51010B, 0x51010C, 0x51010D,
       0x51010E, 0x51010F, 0x600004, 0x610107, 0x700208, 0xA10001, 0xA10006] : List Nat) → x ∈ K) {s x0 x1}
    (h : Run f K s0 s) : RunRes f K s0 (execRecompute x0 x1 s) := by
  have r1 := @replayLayers_run f K s0 (orr hf rfl) (sbk hK rfl)
  have j0 := sbk (a := [PD.CKPT_WAITS]) hK rfl
  have u0 := orr (a := 268435456) hf rfl
  unfold execRecompute
  repeat' first
    | with_reducible assumption
    | with_reducible apply bump_run j0
    | with_reducible apply RunRes.ite
    | with_reducible apply ite_run
    | with_reducible apply RunRes.next
    | with_reducible apply run_of_snd (by with_reducible assumption)
    | with_reducible apply r1
    | split
    | with_reducible apply run_upd_backward u0
    | dsimp only
    | intro _ _

theorem execTwinShard_run {f K s0} (hf : 4468913471488 ||| f = f)
    (hK : ∀ x, x ∈ ([0x600004, 0x610101, 0x610104, 0x610108, 0x610109, 0x615101] : List Nat) → x ∈ K) {s x0}
    (h : Run f K s0 s) : RunRes f K s0 (execTwinShard x0 s) := by
  have r1 := @compareTwin_run f K s0 (orr hf rfl) (sbk hK rfl)
  have r2 := @receiveRecord_run f K s0 (orr hf rfl) (sbk hK rfl)
  have j0 := sbk (a := [PD.EXCH_RECORDS]) hK rfl
  have j1 := sbk (a := [PD.EXCH_REC_ERR]) hK rfl
  have u0 := orr (a := 2147483648) hf rfl
  unfold execTwinShard
  repeat' first
    | with_reducible assumption
    | with_reducible apply bump_run j0
    | with_reducible apply bump_run j1
    | with_reducible apply r1
    | (with_reducible apply r2; intro _ _ _ _)
    | with_reducible apply RunRes.ite
    | with_reducible apply ite_run
    | with_reducible apply RunRes.next
    | split
    | with_reducible apply run_upd_exch u0
    | dsimp only
    | intro _ _

theorem execContributionDeadline_run {f K s0} (hf : 40753871718144 ||| f = f)
    (hK : ∀ x, x ∈ ([0x600004, 0x610105, 0x610106, 0x610107, 0x615101, 0x700208] : List Nat) → x ∈ K) {s}
    (h : Run f K s0 s) : RunRes f K s0 (execContributionDeadline s) := by
  have r1 := @fireDeadline_run f K s0 (orr hf rfl) (sbk hK rfl)
  have r2 := @atDeadline_run f K s0 (orr hf rfl) (sbk hK rfl)
  unfold execContributionDeadline
  repeat' first
    | with_reducible assumption
    | with_reducible apply r2
    | with_reducible apply RunRes.ite
    | with_reducible apply ite_run
    | with_reducible apply RunRes.next
    | with_reducible apply run_of_some (by with_reducible assumption)
    | with_reducible apply run_of_some_snd (by with_reducible assumption)
    | with_reducible apply r1
    | split
    | dsimp only
    | intro _ _

theorem execStreamReset_run {f K s0} (hf : 8590459904 ||| f = f)
    (hK : ∀ x, x ∈ ([0x310202] : List Nat) → x ∈ K) {s x0 x1}
    (h : Run f K s0 s) : RunRes f K s0 (execStreamReset x0 x1 s) := by
  have r1 := @streamResume_run f K s0 (orr hf rfl) (sbk hK rfl)
  unfold execStreamReset
  repeat' first
    | with_reducible assumption
    | with_reducible apply r1
    | with_reducible apply RunRes.next
    | split
    | dsimp only
    | intro _ _

theorem execHistRestore_run {f K s0} (hf : 35600986046464 ||| f = f)
    (hK : ∀ x, x ∈ ([0x505005] : List Nat) → x ∈ K) {s}
    (h : Run f K s0 s) : RunRes f K s0 (execHistRestore s) := by
  have r1 := @histRestore_run f K s0 (orr hf rfl) (sbk hK rfl)
  unfold execHistRestore
  repeat' first
    | with_reducible assumption
    | with_reducible apply r1
    | with_reducible apply RunRes.next
    | split
    | dsimp only
    | intro _ _

theorem execPlanUnload_run {f K s0} (hf : 35604174208000 ||| f = f)
    (hK : ∀ x, x ∈ ([0x300004] : List Nat) → x ∈ K) {s}
    (h : Run f K s0 s) : RunRes f K s0 (execPlanUnload s) := by
  have r1 := @planCommand_run f K s0 (orr hf rfl) (sbk hK rfl)
  unfold execPlanUnload
  repeat' first
    | with_reducible assumption
    | with_reducible apply r1
    | with_reducible apply RunRes.next
    | split
    | dsimp only
    | intro _ _

theorem execGatherDeadline_run {f K s0} (hf : 41166710818753 ||| f = f)
    (hK : ∀ x, x ∈ ([0x600002, 0x600003, 0x600004, 0x600007, 0x600203, 0x61010B, 0xA10001, 0xA10006] : List Nat) → x ∈ K) {s}
    (h : Run f K s0 s) : RunRes f K s0 (execGatherDeadline s) := by
  have r1 := @fireDeadline_run f K s0 (orr hf rfl) (sbk hK rfl)
  have r2 := @spall_run f K s0 (orr hf rfl) (sbk hK rfl)
  have r3 := @hold_run f K s0 (orr hf rfl) (sbk hK rfl)
  have j0 := sbk (a := [PD.GATHER_MISSING]) hK rfl
  have u0 := orr (a := 2147483648) hf rfl
  unfold execGatherDeadline
  repeat' first
    | with_reducible assumption
    | with_reducible apply bumpBy_run j0
    | with_reducible apply r2
    | with_reducible apply r3
    | with_reducible apply RunRes.ite
    | with_reducible apply ite_run
    | with_reducible apply RunRes.next
    | with_reducible apply run_of_some (by with_reducible assumption)
    | with_reducible apply run_of_some_snd (by with_reducible assumption)
    | with_reducible apply r1
    | split
    | with_reducible apply run_upd_exch u0
    | dsimp only
    | intro _ _

theorem execTwinDelta_run {f K s0} (hf : 75161927680 ||| f = f)
    (hK : ∀ x, x ∈ ([0x610101, 0x610104, 0x610108, 0x610109] : List Nat) → x ∈ K) {s x0}
    (h : Run f K s0 s) : RunRes f K s0 (execTwinDelta x0 s) := by
  have r1 := @setPane_run f K s0 (orr hf rfl) (sbk hK rfl)
  have r2 := @receiveRecord_run f K s0 (orr hf rfl) (sbk hK rfl)
  have j0 := sbk (a := [PD.EXCH_RECORDS]) hK rfl
  have j1 := sbk (a := [PD.EXCH_REC_ERR]) hK rfl
  have u0 := orr (a := 2147483648) hf rfl
  have u1 := orr (a := 4294967296) hf rfl
  unfold execTwinDelta
  repeat' first
    | with_reducible assumption
    | with_reducible apply bump_run j0
    | with_reducible apply bump_run j1
    | with_reducible apply r1
    | (with_reducible apply r2; intro _ _ _ _)
    | with_reducible apply RunRes.next
    | split
    | with_reducible apply run_upd_exch u0
    | with_reducible apply run_upd_upd u1
    | dsimp only
    | intro _ _

theorem execHistoryObjectComplete_run {f K s0} (hf : 35600983916544 ||| f = f)
    (hK : ∀ x, x ∈ ([0x505005, 0x505006] : List Nat) → x ∈ K) {s}
    (h : Run f K s0 s) : RunRes f K s0 (execHistoryObjectComplete s) := by
  have r1 := @histNow_run f K s0 (orr hf rfl) (sbk hK rfl)
  have j0 := sbk (a := [PD.HIST_LENGTH]) hK rfl
  unfold execHistoryObjectComplete
  repeat' first
    | with_reducible assumption
    | with_reducible apply setNum_run j0
    | with_reducible apply r1
    | with_reducible apply RunRes.ite
    | with_reducible apply ite_run
    | with_reducible apply RunRes.next
    | split
    | dsimp only
    | intro _ _

theorem execRetry_run {f K s0} (hf : 8590459904 ||| f = f)
    (hK : ∀ x, x ∈ ([0x310202] : List Nat) → x ∈ K) {s x0 x1}
    (h : Run f K s0 s) : RunRes f K s0 (execRetry x0 x1 s) := by
  have r1 := @streamResume_run f K s0 (orr hf rfl) (sbk hK rfl)
  unfold execRetry
  repeat' first
    | with_reducible assumption
    | with_reducible apply r1
    | with_reducible apply RunRes.next
    | split
    | dsimp only
    | intro _ _

theorem execDescriptorEntry_run {f K s0} (hf : 9664660480 ||| f = f)
    (hK : ∀ x, x ∈ ([0x310303, 0x320102, 0x320105, 0x401002, 0x401005, 0x401101, 0x508208, 0x600003, 0x600004] : List Nat) → x ∈ K) {s x0}
    (h : Run f K s0 s) : RunRes f K s0 (execDescriptorEntry x0 s) := by
  have r1 := @setStream_run f K s0 (orr hf rfl) (sbk hK rfl)
  have r2 := @failAt_run f K s0 (orr hf rfl) (sbk hK rfl)
  have r3 := @enterFront_run f K s0 (orr hf rfl) (sbk hK rfl)
  have j0 := sbk (a := [PD.DESC_REJECTED]) hK rfl
  unfold execDescriptorEntry
  repeat' first
    | with_reducible assumption
    | with_reducible apply bump_run j0
    | with_reducible apply r1
    | with_reducible apply r2
    | with_reducible apply r3
    | with_reducible apply RunRes.ite
    | with_reducible apply ite_run
    | with_reducible apply RunRes.next
    | with_reducible apply getD_run
    | split
    | dsimp only
    | intro _ _

theorem execTwinShardDeadline_run {f K s0} (hf : 36284957459200 ||| f = f)
    (hK : ∀ x, x ∈ ([0x600004] : List Nat) → x ∈ K) {s}
    (h : Run f K s0 s) : RunRes f K s0 (execTwinShardDeadline s) := by
  have r1 := @fireDeadline_run f K s0 (orr hf rfl) (sbk hK rfl)
  have r2 := @reason_run f K s0 (orr hf rfl) (sbk hK rfl)
  unfold execTwinShardDeadline
  repeat' first
    | with_reducible assumption
    | with_reducible apply r2
    | with_reducible apply RunRes.ite
    | with_reducible apply ite_run
    | with_reducible apply RunRes.next
    | with_reducible apply run_of_some (by with_reducible assumption)
    | with_reducible apply run_of_some_snd (by with_reducible assumption)
    | with_reducible apply r1
    | split
    | dsimp only
    | intro _ _

theorem execSkip_run {f K s0} (hf : 8590459904 ||| f = f)
    (hK : ∀ x, x ∈ ([0x310202] : List Nat) → x ∈ K) {s x0 x1}
    (h : Run f K s0 s) : RunRes f K s0 (execSkip x0 x1 s) := by
  have r1 := @streamResume_run f K s0 (orr hf rfl) (sbk hK rfl)
  unfold execSkip
  repeat' first
    | with_reducible assumption
    | with_reducible apply r1
    | with_reducible apply RunRes.next
    | split
    | dsimp only
    | intro _ _

theorem execStreamHalt_run {f K s0} (hf : 35596688950272 ||| f = f)
    (hK : ∀ x, x ∈ ([0x310304] : List Nat) → x ∈ K) {s x0}
    (h : Run f K s0 s) : RunRes f K s0 (execStreamHalt x0 s) := by
  have r1 := @haltStream_run f K s0 (orr hf rfl) (sbk hK rfl)
  unfold execStreamHalt
  repeat' first
    | with_reducible assumption
    | with_reducible apply r1
    | with_reducible apply RunRes.ite
    | with_reducible apply ite_run
    | with_reducible apply RunRes.next
    | split
    | dsimp only
    | intro _ _

theorem execSpallExport_run {f K s0} (hf : 39659728011264 ||| f = f)
    (hK : ∀ x, x ∈ ([0x120103, 0x700208, 0xA01003, 0xA1000A] : List Nat) → x ∈ K) {s x0}
    (h : Run f K s0 s) : RunRes f K s0 (execSpallExport x0 s) := by
  have r1 := @grant_run f K s0 (orr hf rfl) (sbk hK rfl)
  have r2 := @send_run f K s0 (orr hf rfl) (sbk hK rfl)
  have r3 := @emit_run f K s0 (orr hf rfl) (sbk hK rfl)
  have j0 := sbk (a := [PD.HOST_DMA_ERR]) hK rfl
  have j1 := sbk (a := [PD.SPALL_FLASH_NEXT]) hK rfl
  have cm := orr (a := 8589934592) hf rfl
  have u0 := orr (a := 4398046511104) hf rfl
  unfold execSpallExport
  repeat' first
    | with_reducible assumption
    | with_reducible apply bump_run j0
    | with_reducible apply setNum_run j1
    | with_reducible apply write_run cm
    | with_reducible apply r2
    | with_reducible apply r3
    | with_reducible apply RunRes.ite
    | with_reducible apply ite_run
    | with_reducible apply RunRes.next
    | with_reducible apply run_of_snd (by with_reducible assumption)
    | with_reducible apply r1
    | split
    | with_reducible apply run_upd_faults u0
    | dsimp only
    | intro _ _

theorem execExcludeRecord_run {f K s0} (hf : 35255239049216 ||| f = f)
    (hK : ∀ x, x ∈ ([0x610101, 0x610102, 0x610104, 0x610107, 0x610108, 0x610109, 0x700208] : List Nat) → x ∈ K) {s x0}
    (h : Run f K s0 s) : RunRes f K s0 (execExcludeRecord x0 s) := by
  have r1 := @receiveRecord_run f K s0 (orr hf rfl) (sbk hK rfl)
  have r2 := @lateRecord_run f K s0 (orr hf rfl) (sbk hK rfl)
  have j0 := sbk (a := [PD.EXCH_RECORDS]) hK rfl
  have j1 := sbk (a := [PD.EXCH_EXCLUDED]) hK rfl
  have u0 := orr (a := 2147483648) hf rfl
  unfold execExcludeRecord
  repeat' first
    | with_reducible assumption
    | with_reducible apply bump_run j0
    | with_reducible apply bump_run j1
    | (with_reducible apply r1; intro _ _ _ _)
    | with_reducible apply r2
    | with_reducible apply RunRes.ite
    | with_reducible apply ite_run
    | with_reducible apply RunRes.next
    | split
    | with_reducible apply run_upd_exch u0
    | dsimp only
    | intro _ _

theorem execPlacement_run {f K s0} (hf : 40080088360641 ||| f = f)
    (hK : ∀ x, x ∈ ([0x300004, 0x300006, 0x320001, 0x32000A, 0x320101, 0x40100D, 0x401101, 0x502101, 0x502104, 0x502105, 0x502106, 0x507001,
       0x507003, 0x600002, 0x600003, 0x600004, 0x600007, 0x600203, 0x620209, 0x62020A, 0xA10001, 0xA10006] : List Nat) → x ∈ K) {s}
    (h : Run f K s0 s) : RunRes f K s0 (execPlacement s) := by
  have r1 := @planFails_run f K s0 (orr hf rfl) (sbk hK rfl)
  have r2 := @closeWindows_run f K s0 (orr hf rfl) (sbk hK rfl)
  have r3 := @retireDue_run f K s0 (orr hf rfl) (sbk hK rfl)
  have r4 := @moveHomes_run f K s0 (orr hf rfl) (sbk hK rfl)
  have r5 := @reasonOrNext_run f K s0 (orr hf rfl) (sbk hK rfl)
  have r6 := @spall_run f K s0 (orr hf rfl) (sbk hK rfl)
  have r7 := @usePlacement_run f K s0 (orr hf rfl) (sbk hK rfl)
  have r8 := @hold_run f K s0 (orr hf rfl) (sbk hK rfl)
  have u0 := orr (a := 32768) hf rfl
  have u1 := orr (a := 65536) hf rfl
  have u2 := orr (a := 16384) hf rfl
  have u3 := orr (a := 49152) hf rfl
  unfold execPlacement
  repeat' first
    | with_reducible assumption
    | with_reducible apply r1
    | with_reducible apply r2
    | with_reducible apply r3
    | with_reducible apply r4
    | with_reducible apply r5
    | with_reducible apply r6
    | with_reducible apply r7
    | with_reducible apply r8
    | with_reducible apply RunRes.ite
    | with_reducible apply ite_run
    | with_reducible apply RunRes.next
    | with_reducible apply RunOpt.map
    | with_reducible apply getD_run
    | split
    | with_reducible apply run_upd_placeDue u0
    | with_reducible apply run_upd_placing u1
    | with_reducible apply run_upd_triggers u2
    | with_reducible apply run_upd_triggers_placeDue u3
    | dsimp only
    | intro _ _

theorem execPlanLoad_run {f K s0} (hf : 35604174208000 ||| f = f)
    (hK : ∀ x, x ∈ ([0x300004] : List Nat) → x ∈ K) {s}
    (h : Run f K s0 s) : RunRes f K s0 (execPlanLoad s) := by
  have r1 := @planCommand_run f K s0 (orr hf rfl) (sbk hK rfl)
  unfold execPlanLoad
  repeat' first
    | with_reducible assumption
    | with_reducible apply r1
    | with_reducible apply RunRes.next
    | split
    | dsimp only
    | intro _ _

end Sys2Proof.Machine
end

