-- ==== Sys2Proof/Laws/RunUnits.lean ====
section
/-! SUPPORT. Laws/RunUnits.lean: what the operations and the commands may change, and that they keep the canonical forms and the pins
(Laws/Run.lean): discovery, the course unit, calibration, images, Kenlink and measurement. -/
namespace Sys2Proof.Machine

set_option linter.unusedVariables false

theorem tryLock_run {f K s0} (hf : 35596688950016 ||| f = f)
    (hK : ∀ x, x ∈ ([0x201003, 0x201007, 0x202003] : List Nat) → x ∈ K) {s}
    (h : Run f K s0 s) : Run f K s0 (State.tryLock s) := by
  have r1 := @setCourse_run f K s0 (orr hf rfl) (sbk hK rfl)
  have j0 := sbk (a := [PD.COURSE_HOLDOVER_COUNT]) hK rfl
  have j1 := sbk (a := [PD.COURSE_FLAGS]) hK rfl
  have u0 := orr (a := 256) hf rfl
  unfold State.tryLock
  repeat' first
    | with_reducible assumption
    | with_reducible apply setNum_run j0
    | with_reducible apply setNum_run j1
    | with_reducible apply r1
    | with_reducible apply ite_run
    | with_reducible apply RunOpt.map
    | with_reducible apply getD_run
    | split
    | with_reducible apply run_upd_course u0
    | dsimp only
    | intro _ _

theorem acquire_run {f K s0} (hf : 35596688950016 ||| f = f)
    (hK : ∀ x, x ∈ ([0x201003, 0x201007, 0x202003] : List Nat) → x ∈ K) {s x1 x2}
    (h : Run f K s0 s) : Run f K s0 (State.acquire s x1 x2) := by
  have r1 := @tryLock_run f K s0 (orr hf rfl) (sbk hK rfl)
  have u0 := orr (a := 256) hf rfl
  unfold State.acquire
  repeat' first
    | with_reducible assumption
    | with_reducible apply r1
    | split
    | with_reducible apply run_upd_course u0
    | dsimp only
    | intro _ _

theorem useMark_run {f K s0} (hf : 35596688950016 ||| f = f)
    (hK : ∀ x, x ∈ ([0x201003, 0x201006, 0x201007, 0x202003] : List Nat) → x ∈ K) {s x1 x2 x3}
    (h : Run f K s0 s) : Run f K s0 (State.useMark s x1 x2 x3) := by
  have r1 := @setCourse_run f K s0 (orr hf rfl) (sbk hK rfl)
  have j0 := sbk (a := [PD.COURSE_HOLDOVER_COUNT]) hK rfl
  have j1 := sbk (a := [PD.COURSE_PHASE_ERR]) hK rfl
  have j2 := sbk (a := [PD.COURSE_FLAGS]) hK rfl
  have u0 := orr (a := 256) hf rfl
  unfold State.useMark
  repeat' first
    | with_reducible assumption
    | with_reducible apply setNum_run j0
    | with_reducible apply setNum_run j1
    | with_reducible apply setNum_run j2
    | with_reducible apply r1
    | with_reducible apply ite_run
    | with_reducible apply RunOpt.map
    | with_reducible apply getD_run
    | split
    | with_reducible apply run_upd_course u0
    | dsimp only
    | intro _ _

theorem newSeries_run {f K s0} (hf : 110435944417217 ||| f = f)
    (hK : ∀ x, x ∈ ([0x201003, 0x201007, 0x201108, 0x202003, 0x600002, 0x600003, 0x600004, 0x600007, 0x600203, 0xA10001, 0xA10006, 0xB01006] : List Nat) → x ∈ K) {s x1}
    (h : Run f K s0 s) : Run f K s0 (State.newSeries s x1) := by
  have r1 := @loseCourse_run f K s0 (orr hf rfl) (sbk hK rfl)
  have r2 := @tryLock_run f K s0 (orr hf rfl) (sbk hK rfl)
  have u0 := orr (a := 256) hf rfl
  unfold State.newSeries
  repeat' first
    | with_reducible assumption
    | with_reducible apply r1
    | with_reducible apply r2
    | with_reducible apply ite_run
    | (with_reducible apply foldl_run; intro _ _ _)
    | (with_reducible apply foldl_proj_run Prod.snd; intro _ _ _)
    | (with_reducible apply foldl_proj_run Prod.fst; intro _ _ _)
    | with_reducible apply run_of_snd (by with_reducible assumption)
    | with_reducible apply run_of_fst (by with_reducible assumption)
    | split
    | with_reducible apply run_upd_course u0
    | dsimp only
    | intro _ _

theorem timedMark_run {f K s0} (hf : 110435944417217 ||| f = f)
    (hK : ∀ x, x ∈ ([0x201003, 0x201006, 0x201007, 0x201105, 0x201106, 0x201108, 0x202003, 0x600002, 0x600003, 0x600004, 0x600007, 0x600203,
       0xA10001, 0xA10006, 0xB01006] : List Nat) → x ∈ K) {s x1 x2}
    (h : Run f K s0 s) : Run f K s0 (State.timedMark s x1 x2) := by
  have r1 := @loseCourse_run f K s0 (orr hf rfl) (sbk hK rfl)
  have r2 := @useMark_run f K s0 (orr hf rfl) (sbk hK rfl)
  have r3 := @newSeries_run f K s0 (orr hf rfl) (sbk hK rfl)
  have j0 := sbk (a := [PD.COURSE_DISCORDANT]) hK rfl
  have j1 := sbk (a := [PD.COURSE_OUT_OF_WINDOW]) hK rfl
  have u0 := orr (a := 256) hf rfl
  unfold State.timedMark
  repeat' first
    | with_reducible assumption
    | with_reducible apply bump_run j0
    | with_reducible apply bump_run j1
    | with_reducible apply r1
    | with_reducible apply r2
    | with_reducible apply r3
    | with_reducible apply ite_run
    | split
    | with_reducible apply run_upd_course u0
    | dsimp only
    | intro _ _

theorem acceptFrame_run {f K s0} (hf : 110435944417217 ||| f = f)
    (hK : ∀ x, x ∈ ([0x201003, 0x201005, 0x201006, 0x201007, 0x201101, 0x201105, 0x201106, 0x201108, 0x202003, 0x600002, 0x600003, 0x600004,
       0x600007, 0x600203, 0xA10001, 0xA10006, 0xB01006] : List Nat) → x ∈ K) {s x1 x2}
    (h : Run f K s0 s) : Run f K s0 (State.acceptFrame s x1 x2) := by
  have r1 := @acquire_run f K s0 (orr hf rfl) (sbk hK rfl)
  have r2 := @timedMark_run f K s0 (orr hf rfl) (sbk hK rfl)
  have j0 := sbk (a := [PD.COURSE_LAST_TAG]) hK rfl
  have j1 := sbk (a := [PD.COURSE_FRAMES_GOOD]) hK rfl
  unfold State.acceptFrame
  repeat' first
    | with_reducible assumption
    | with_reducible apply bump_run j1
    | with_reducible apply setNum_run j0
    | with_reducible apply r1
    | with_reducible apply r2
    | split
    | dsimp only
    | intro _ _

theorem retrain_run {f K s0} (hf : 68719476736 ||| f = f)
    (hK : ∀ x, x ∈ ([0x700205] : List Nat) → x ∈ K) {s x1}
    (h : Run f K s0 s) : Run f K s0 (State.retrain s x1) := by
  have r1 := @setPort_run f K s0 (orr hf rfl) (sbk hK rfl)
  have j0 := sbk (a := [PD.LINK_RETRAINS]) hK rfl
  unfold State.retrain
  repeat' first
    | with_reducible assumption
    | with_reducible apply bump_run j0
    | with_reducible apply r1
    | split
    | dsimp only
    | intro _ _

theorem replayFlits_run {f K s0} (hf : 35253091565568 ||| f = f)
    (hK : ∀ x, x ∈ ([0x700204, 0x700205] : List Nat) → x ∈ K) {s x1}
    (h : Run f K s0 s) : Run f K s0 (State.replayFlits s x1) := by
  have r1 := @setPort_run f K s0 (orr hf rfl) (sbk hK rfl)
  have r2 := @emits_run f K s0 (orr hf rfl) (sbk hK rfl)
  have r3 := @retrain_run f K s0 (orr hf rfl) (sbk hK rfl)
  have j0 := sbk (a := [PD.FLIT_REPLAYS]) hK rfl
  unfold State.replayFlits
  repeat' first
    | with_reducible assumption
    | with_reducible apply bumpBy_run j0
    | with_reducible apply r1
    | with_reducible apply r2
    | with_reducible apply r3
    | with_reducible apply ite_run
    | split
    | dsimp only
    | intro _ _

theorem acknowledge_run {f K s0} (hf : 35253091565568 ||| f = f)
    (hK : ∀ x, x ∈ ([0x700204, 0x700205] : List Nat) → x ∈ K) {s x1 x2 x3}
    (h : Run f K s0 s) : Run f K s0 (State.acknowledge s x1 x2 x3) := by
  have r1 := @setPort_run f K s0 (orr hf rfl) (sbk hK rfl)
  have r2 := @replayFlits_run f K s0 (orr hf rfl) (sbk hK rfl)
  have r3 := @sendWaiting_run f K s0 (orr hf rfl) (sbk hK rfl)
  unfold State.acknowledge
  repeat' first
    | with_reducible assumption
    | with_reducible apply r1
    | with_reducible apply r2
    | with_reducible apply r3
    | with_reducible apply ite_run
    | split
    | dsimp only
    | intro _ _

theorem startGroup_run {f K s0} (hf : 1099511627776 ||| f = f)
    (hK : ∀ x, x ∈ ([] : List Nat) → x ∈ K) {s x1}
    (h : Run f K s0 s) : Run f K s0 (State.startGroup s x1) := by
  have u0 := orr (a := 1099511627776) hf rfl
  unfold State.startGroup
  repeat' first
    | with_reducible assumption
    | split
    | with_reducible apply run_upd_meas u0
    | dsimp only
    | intro _ _

theorem triggerOne_run {f K s0} (hf : 1099511627776 ||| f = f)
    (hK : ∀ x, x ∈ ([0x900202, 0x900203] : List Nat) → x ∈ K) {s x1}
    (h : Run f K s0 s) : Run f K s0 (State.triggerOne s x1) := by
  have r1 := @startGroup_run f K s0 (orr hf rfl) (sbk hK rfl)
  have j0 := sbk (a := [PD.ADC_URGENT_DROPPED]) hK rfl
  have j1 := sbk (a := [PD.ADC_TRIGGER_MERGED]) hK rfl
  have u0 := orr (a := 1099511627776) hf rfl
  unfold State.triggerOne
  repeat' first
    | with_reducible assumption
    | with_reducible apply bump_run j0
    | with_reducible apply bump_run j1
    | with_reducible apply r1
    | with_reducible apply ite_run
    | split
    | with_reducible apply run_upd_meas u0
    | dsimp only
    | intro _ _

theorem triggerAll_run {f K s0} (hf : 1099511627776 ||| f = f)
    (hK : ∀ x, x ∈ ([0x900202, 0x900203] : List Nat) → x ∈ K) {s x1}
    (h : Run f K s0 s) : Run f K s0 (State.triggerAll s x1) := by
  have r1 := @triggerOne_run f K s0 (orr hf rfl) (sbk hK rfl)
  unfold State.triggerAll
  repeat' first
    | with_reducible assumption
    | with_reducible apply r1
    | with_reducible apply ite_run
    | (with_reducible apply each_run; intro _ _ _)
    | split
    | dsimp only
    | intro _ _

theorem adcTrigger_run {f K s0} (hf : 1099511627776 ||| f = f)
    (hK : ∀ x, x ∈ ([0x900103, 0x900202, 0x900203] : List Nat) → x ∈ K) {s x1}
    (h : Run f K s0 s) : Run f K s0 (State.adcTrigger s x1) := by
  have r1 := @triggerAll_run f K s0 (orr hf rfl) (sbk hK rfl)
  have j0 := sbk (a := [PD.ADC_TRIGGER_RESULT]) hK rfl
  unfold State.adcTrigger
  repeat' first
    | with_reducible assumption
    | with_reducible apply setNum_run j0
    | with_reducible apply r1
    | with_reducible apply ite_run
    | split
    | dsimp only
    | intro _ _

theorem triggerKind_run {f K s0} (hf : 1099511627776 ||| f = f)
    (hK : ∀ x, x ∈ ([0x900202, 0x900203] : List Nat) → x ∈ K) {s x1}
    (h : Run f K s0 s) : Run f K s0 (State.triggerKind s x1) := by
  have r1 := @triggerAll_run f K s0 (orr hf rfl) (sbk hK rfl)
  unfold State.triggerKind
  repeat' first
    | with_reducible assumption
    | with_reducible apply r1
    | split
    | dsimp only
    | intro _ _

theorem setF_run {f K s0} (hf : 36696200577024 ||| f = f)
    (hK : ∀ x, x ∈ ([0x900202, 0x900203, 0x903101] : List Nat) → x ∈ K) {s x1}
    (h : Run f K s0 s) : Run f K s0 (State.setF s x1) := by
  have r1 := @cause_run f K s0 (orr hf rfl) (sbk hK rfl)
  have r2 := @triggerKind_run f K s0 (orr hf rfl) (sbk hK rfl)
  have j0 := sbk (a := [PD.LEVEL_F]) hK rfl
  have u0 := orr (a := 1099511627776) hf rfl
  unfold State.setF
  repeat' first
    | with_reducible assumption
    | with_reducible apply setNum_run j0
    | with_reducible apply r1
    | with_reducible apply r2
    | with_reducible apply ite_run
    | split
    | with_reducible apply run_upd_meas u0
    | dsimp only
    | intro _ _

theorem setAlarm_run {f K s0} (hf : 49962803840705 ||| f = f)
    (hK : ∀ x, x ∈ ([0x600002, 0x600003, 0x600004, 0x600007, 0x600203, 0x900202, 0x900203, 0x903101, 0x903103, 0xA10001, 0xA10006] : List Nat) → x ∈ K) {s x1}
    (h : Run f K s0 s) : Run f K s0 (State.setAlarm s x1) := by
  have r1 := @fault_run f K s0 (orr hf rfl) (sbk hK rfl)
  have r2 := @setF_run f K s0 (orr hf rfl) (sbk hK rfl)
  have r3 := @spall_run f K s0 (orr hf rfl) (sbk hK rfl)
  have j0 := sbk (a := [PD.LEVEL_ALARMS]) hK rfl
  have u0 := orr (a := 1099511627776) hf rfl
  unfold State.setAlarm
  repeat' first
    | with_reducible assumption
    | with_reducible apply setNum_run j0
    | with_reducible apply r1
    | with_reducible apply r2
    | with_reducible apply r3
    | with_reducible apply ite_run
    | split
    | with_reducible apply run_upd_meas u0
    | dsimp only
    | intro _ _

theorem alarmTick_run {f K s0} (hf : 49962803840705 ||| f = f)
    (hK : ∀ x, x ∈ ([0x600002, 0x600003, 0x600004, 0x600007, 0x600203, 0x900202, 0x900203, 0x903101, 0x903103, 0xA10001, 0xA10006] : List Nat) → x ∈ K) {s x1 x2 x3}
    (h : Run f K s0 s) : Run f K s0 (State.alarmTick s x1 x2 x3) := by
  have r1 := @setAlarm_run f K s0 (orr hf rfl) (sbk hK rfl)
  have j0 := sbk (a := [PD.LEVEL_ALARMS]) hK rfl
  have u0 := orr (a := 1099511627776) hf rfl
  unfold State.alarmTick
  repeat' first
    | with_reducible assumption
    | with_reducible apply setNum_run j0
    | with_reducible apply r1
    | with_reducible apply ite_run
    | split
    | with_reducible apply run_upd_meas u0
    | dsimp only
    | intro _ _

theorem setDieCal_run {f K s0} (hf : 1048576 ||| f = f)
    (hK : ∀ x, x ∈ ([] : List Nat) → x ∈ K) {s x1 x2}
    (h : Run f K s0 s) : Run f K s0 (State.setDieCal s x1 x2) := by
  have u0 := orr (a := 1048576) hf rfl
  unfold State.setDieCal
  repeat' first
    | with_reducible assumption
    | split
    | with_reducible apply run_upd_cal u0
    | dsimp only
    | intro _ _

theorem startResident_run {f K s0} (hf : 4398047559680 ||| f = f)
    (hK : ∀ x, x ∈ ([] : List Nat) → x ∈ K) {s x1}
    (h : Run f K s0 s) : Run f K s0 (State.startResident s x1) := by
  have r1 := @request_run f K s0 (orr hf rfl) (sbk hK rfl)
  have r2 := @setDieCal_run f K s0 (orr hf rfl) (sbk hK rfl)
  unfold State.startResident
  repeat' first
    | with_reducible assumption
    | with_reducible apply r1
    | with_reducible apply r2
    | with_reducible apply ite_run
    | split
    | dsimp only
    | intro _ _

theorem writeIdle_run {f K s0} (hf : 1048576 ||| f = f)
    (hK : ∀ x, x ∈ ([] : List Nat) → x ∈ K) {s x1}
    (h : Run f K s0 s) : Run f K s0 (State.writeIdle s x1) := by
  have u0 := orr (a := 1048576) hf rfl
  unfold State.writeIdle
  repeat' first
    | with_reducible assumption
    | with_reducible apply ite_run
    | split
    | with_reducible apply run_upd_cal u0
    | dsimp only
    | intro _ _

theorem writeDue_run {f K s0} (hf : 4398047559680 ||| f = f)
    (hK : ∀ x, x ∈ ([0xA01003] : List Nat) → x ∈ K) {s}
    (h : Run f K s0 s) : Run f K s0 (State.writeDue s) := by
  have r1 := @writeIdle_run f K s0 (orr hf rfl) (sbk hK rfl)
  have r2 := @grant_run f K s0 (orr hf rfl) (sbk hK rfl)
  have r3 := @setDieCal_run f K s0 (orr hf rfl) (sbk hK rfl)
  unfold State.writeDue
  repeat' first
    | with_reducible assumption
    | with_reducible apply r1
    | with_reducible apply r3
    | with_reducible apply ite_run
    | (with_reducible apply each_run; intro _ _ _)
    | with_reducible apply run_of_snd (by with_reducible assumption)
    | with_reducible apply r2
    | split
    | dsimp only
    | intro _ _

theorem calVerdict_run {f K s0} (hf : 4398047560192 ||| f = f)
    (hK : ∀ x, x ∈ ([0x202003, 0x411004, 0x411008, 0xA01003] : List Nat) → x ∈ K) {s}
    (h : Run f K s0 s) : Run f K s0 (State.calVerdict s) := by
  have r1 := @present_run f K s0 (orr hf rfl) (sbk hK rfl)
  have r2 := @startResident_run f K s0 (orr hf rfl) (sbk hK rfl)
  have r3 := @writeDue_run f K s0 (orr hf rfl) (sbk hK rfl)
  have j0 := sbk (a := [PD.CAL_SWAPS_DEFERRED]) hK rfl
  have j1 := sbk (a := [PD.CAL_COMPAT_TRIGGERS]) hK rfl
  have u0 := orr (a := 1048576) hf rfl
  have u1 := orr (a := 4398046511104) hf rfl
  unfold State.calVerdict
  repeat' first
    | with_reducible assumption
    | with_reducible apply bump_run j0
    | with_reducible apply bump_run j1
    | with_reducible apply r2
    | with_reducible apply r3
    | with_reducible apply ite_run
    | (with_reducible apply each_run; intro _ _ _)
    | with_reducible apply run_of_snd (by with_reducible assumption)
    | with_reducible apply r1
    | split
    | with_reducible apply run_upd_cal u0
    | with_reducible apply run_upd_faults u1
    | dsimp only
    | intro _ _

theorem commitMaster_run {f K s0} (hf : 256 ||| f = f)
    (hK : ∀ x, x ∈ ([] : List Nat) → x ∈ K) {s x1}
    (h : Run f K s0 s) : Run f K s0 (State.commitMaster s x1) := by
  have u0 := orr (a := 256) hf rfl
  unfold State.commitMaster
  repeat' first
    | with_reducible assumption
    | with_reducible apply ite_run
    | split
    | with_reducible apply run_upd_course u0
    | dsimp only
    | intro _ _

theorem setDuty_run {f K s0} (hf : 1099511627776 ||| f = f)
    (hK : ∀ x, x ∈ ([] : List Nat) → x ∈ K) {s x1 x2}
    (h : Run f K s0 s) : Run f K s0 (State.setDuty s x1 x2) := by
  have u0 := orr (a := 1099511627776) hf rfl
  unfold State.setDuty
  repeat' first
    | with_reducible assumption
    | split
    | with_reducible apply run_upd_meas u0
    | dsimp only
    | intro _ _

theorem hostDuties_run {f K s0} (hf : 1099511627776 ||| f = f)
    (hK : ∀ x, x ∈ ([] : List Nat) → x ∈ K) {s}
    (h : Run f K s0 s) : Run f K s0 (State.hostDuties s) := by
  have r1 := @setDuty_run f K s0 (orr hf rfl) (sbk hK rfl)
  unfold State.hostDuties
  repeat' first
    | with_reducible assumption
    | with_reducible apply r1
    | with_reducible apply ite_run
    | (with_reducible apply each_run; intro _ _ _)
    | with_reducible apply getD_run
    | split
    | dsimp only
    | intro _ _

theorem setDiscovery_run {f K s0} (hf : 35596688949248 ||| f = f)
    (hK : ∀ x, x ∈ ([0x700103] : List Nat) → x ∈ K) {s x1}
    (h : Run f K s0 s) : Run f K s0 (State.setDiscovery s x1) := by
  have r1 := @cause_run f K s0 (orr hf rfl) (sbk hK rfl)
  have j0 := sbk (a := [PD.DISCOVERY_STATE]) hK rfl
  unfold State.setDiscovery
  repeat' first
    | with_reducible assumption
    | with_reducible apply setNum_run j0
    | with_reducible apply r1
    | with_reducible apply ite_run
    | split
    | dsimp only
    | intro _ _

theorem settlePort_run {f K s0} (hf : 35253091565568 ||| f = f)
    (hK : ∀ x, x ∈ ([] : List Nat) → x ∈ K) {s x1 x2 x3}
    (h : Run f K s0 s) : Run f K s0 (State.settlePort s x1 x2 x3) := by
  have r1 := @setPort_run f K s0 (orr hf rfl) (sbk hK rfl)
  have r2 := @sendWaiting_run f K s0 (orr hf rfl) (sbk hK rfl)
  unfold State.settlePort
  repeat' first
    | with_reducible assumption
    | with_reducible apply r1
    | with_reducible apply r2
    | with_reducible apply ite_run
    | with_reducible apply getD_run
    | split
    | dsimp only
    | intro _ _

theorem decideRun_run {f K s0} (hf : 35665408425984 ||| f = f)
    (hK : ∀ x, x ∈ ([0x700103] : List Nat) → x ∈ K) {s}
    (h : Run f K s0 s) : Run f K s0 (State.decideRun s) := by
  have r1 := @setDiscovery_run f K s0 (orr hf rfl) (sbk hK rfl)
  have r2 := @settlePort_run f K s0 (orr hf rfl) (sbk hK rfl)
  have u0 := orr (a := 68719476736) hf rfl
  unfold State.decideRun
  repeat' first
    | with_reducible assumption
    | with_reducible apply r1
    | with_reducible apply r2
    | (with_reducible apply each_run; intro _ _ _)
    | with_reducible apply RunOpt.map
    | split
    | with_reducible apply run_upd_link u0
    | dsimp only
    | intro _ _

theorem tryDecide_run {f K s0} (hf : 35665408425984 ||| f = f)
    (hK : ∀ x, x ∈ ([0x700103] : List Nat) → x ∈ K) {s}
    (h : Run f K s0 s) : Run f K s0 (State.tryDecide s) := by
  have r1 := @decideRun_run f K s0 (orr hf rfl) (sbk hK rfl)
  unfold State.tryDecide
  repeat' first
    | with_reducible assumption
    | with_reducible apply r1
    | with_reducible apply ite_run
    | split
    | dsimp only
    | intro _ _

theorem discover_run {f K s0} (hf : 35665408425984 ||| f = f)
    (hK : ∀ x, x ∈ ([0x700103] : List Nat) → x ∈ K) {s}
    (h : Run f K s0 s) : Run f K s0 (State.discover s) := by
  have r1 := @setDiscovery_run f K s0 (orr hf rfl) (sbk hK rfl)
  have r2 := @tryDecide_run f K s0 (orr hf rfl) (sbk hK rfl)
  have u0 := orr (a := 68719476736) hf rfl
  unfold State.discover
  repeat' first
    | with_reducible assumption
    | with_reducible apply r1
    | with_reducible apply r2
    | with_reducible apply ite_run
    | split
    | with_reducible apply run_upd_link u0
    | dsimp only
    | intro _ _

theorem imageNow_run {f K s0} (hf : 35600983916544 ||| f = f)
    (hK : ∀ x, x ∈ ([0x620103] : List Nat) → x ∈ K) {s x1}
    (h : Run f K s0 s) : Run f K s0 (State.imageNow s x1) := by
  have j0 := sbk (a := [PD.UPD_IMAGE_RESULT]) hK rfl
  have cr := orr (a := 35596688949248) hf rfl
  have u0 := orr (a := 4294967296) hf rfl
  unfold State.imageNow
  repeat' first
    | with_reducible assumption
    | with_reducible apply result_run cr j0
    | split
    | with_reducible apply run_upd_upd u0
    | dsimp only
    | intro _ _

theorem imageStart_run {f K s0} (hf : 4294967296 ||| f = f)
    (hK : ∀ x, x ∈ ([0x620103] : List Nat) → x ∈ K) {s x1 x2 x3}
    (h : Run f K s0 s) : Run f K s0 (State.imageStart s x1 x2 x3) := by
  have j0 := sbk (a := [PD.UPD_IMAGE_RESULT]) hK rfl
  have u0 := orr (a := 4294967296) hf rfl
  unfold State.imageStart
  repeat' first
    | with_reducible assumption
    | with_reducible apply setNum_run j0
    | split
    | with_reducible apply run_upd_upd u0
    | dsimp only
    | intro _ _

theorem imageWrite_run {f K s0} (hf : 35188667056128 ||| f = f)
    (hK : ∀ x, x ∈ ([0x120103, 0x620103] : List Nat) → x ∈ K) {s}
    (h : Run f K s0 s) : Run f K s0 (State.imageWrite s) := by
  have r1 := @imageStart_run f K s0 (orr hf rfl) (sbk hK rfl)
  have r2 := @emit_run f K s0 (orr hf rfl) (sbk hK rfl)
  have j0 := sbk (a := [PD.HOST_DMA_ERR]) hK rfl
  unfold State.imageWrite
  repeat' first
    | with_reducible assumption
    | with_reducible apply bump_run j0
    | with_reducible apply r1
    | with_reducible apply r2
    | with_reducible apply ite_run
    | split
    | dsimp only
    | intro _ _

theorem imageDueNow_run {f K s0} (hf : 35602057658368 ||| f = f)
    (hK : ∀ x, x ∈ ([0x120103, 0x620103] : List Nat) → x ∈ K) {s}
    (h : Run f K s0 s) : Run f K s0 (State.imageDueNow s) := by
  have r1 := @imageNow_run f K s0 (orr hf rfl) (sbk hK rfl)
  have r2 := @imageWrite_run f K s0 (orr hf rfl) (sbk hK rfl)
  have u0 := orr (a := 1073741824) hf rfl
  unfold State.imageDueNow
  repeat' first
    | with_reducible assumption
    | with_reducible apply r1
    | with_reducible apply r2
    | with_reducible apply ite_run
    | split
    | with_reducible apply run_upd_step u0
    | dsimp only
    | intro _ _

theorem enterCalibrate_run {f K s0} (hf : 35596690260161 ||| f = f)
    (hK : ∀ x, x ∈ ([0x41100A] : List Nat) → x ∈ K) {s x1}
    (h : Run f K s0 s) : Run f K s0 (State.enterCalibrate s x1) := by
  have r1 := @setDieCal_run f K s0 (orr hf rfl) (sbk hK rfl)
  have r2 := @enter_run f K s0 (orr hf rfl) (sbk hK rfl)
  have j0 := sbk (a := [PD.CAL_COLUMNS_FAILED]) hK rfl
  have u0 := orr (a := 1310720) hf rfl
  unfold State.enterCalibrate
  repeat' first
    | with_reducible assumption
    | with_reducible apply setNum_run j0
    | with_reducible apply r1
    | with_reducible apply r2
    | (with_reducible apply each_run; intro _ _ _)
    | split
    | with_reducible apply run_upd_arrays_cal u0
    | dsimp only
    | intro _ _

theorem calRun_run {f K s0} (hf : 39994736771265 ||| f = f)
    (hK : ∀ x, x ∈ ([0x410102, 0x41100A] : List Nat) → x ∈ K) {s x1}
    (h : Run f K s0 s) : Run f K s0 (State.calRun s x1) := by
  have r1 := @startResident_run f K s0 (orr hf rfl) (sbk hK rfl)
  have r2 := @enterCalibrate_run f K s0 (orr hf rfl) (sbk hK rfl)
  have j0 := sbk (a := [PD.CAL_RUN_RESULT]) hK rfl
  have cr := orr (a := 35596688949248) hf rfl
  unfold State.calRun
  repeat' first
    | with_reducible assumption
    | with_reducible apply result_run cr j0
    | with_reducible apply r1
    | with_reducible apply r2
    | with_reducible apply ite_run
    | (with_reducible apply each_run; intro _ _ _)
    | split
    | dsimp only
    | intro _ _

theorem calWhenIdle_run {f K s0} (hf : 4398047559680 ||| f = f)
    (hK : ∀ x, x ∈ ([0xA01003] : List Nat) → x ∈ K) {s}
    (h : Run f K s0 s) : Run f K s0 (State.calWhenIdle s) := by
  have r1 := @writeDue_run f K s0 (orr hf rfl) (sbk hK rfl)
  unfold State.calWhenIdle
  repeat' first
    | with_reducible assumption
    | with_reducible apply r1
    | with_reducible apply ite_run
    | split
    | dsimp only
    | intro _ _

theorem calibrateCell_run {f K s0} (hf : 40067200247489 ||| f = f)
    (hK : ∀ x, x ∈ ([0x320104, 0x40100D, 0x401101, 0x41100A, 0x507003, 0x600002, 0x600003, 0x600004, 0x600007, 0x600203, 0xA10001, 0xA10006] : List Nat) → x ∈ K) {s x1}
    (h : Run f K s0 s) : Run f K s0 (State.calibrateCell s x1) := by
  have r1 := @setCell_run f K s0 (orr hf rfl) (sbk hK rfl)
  have r2 := @setDieCal_run f K s0 (orr hf rfl) (sbk hK rfl)
  have r3 := @retireArrayCell_run f K s0 (orr hf rfl) (sbk hK rfl)
  have j0 := sbk (a := [PD.CAL_COLUMNS_FAILED]) hK rfl
  have u0 := orr (a := 1048576) hf rfl
  unfold State.calibrateCell
  repeat' first
    | with_reducible assumption
    | with_reducible apply bumpBy_run j0
    | with_reducible apply r1
    | with_reducible apply r2
    | with_reducible apply r3
    | with_reducible apply ite_run
    | (with_reducible apply foldl_run; intro _ _ _)
    | (with_reducible apply foldl_proj_run Prod.snd; intro _ _ _)
    | (with_reducible apply foldl_proj_run Prod.fst; intro _ _ _)
    | with_reducible apply RunOpt.map
    | with_reducible apply run_of_snd (by with_reducible assumption)
    | with_reducible apply run_of_fst (by with_reducible assumption)
    | with_reducible apply getD_run
    | split
    | with_reducible apply run_upd_cal u0
    | dsimp only
    | intro _ _

theorem checkAlarms_run {f K s0} (hf : 49962803840705 ||| f = f)
    (hK : ∀ x, x ∈ ([0x600002, 0x600003, 0x600004, 0x600007, 0x600203, 0x900202, 0x900203, 0x903101, 0x903103, 0xA10001, 0xA10006] : List Nat) → x ∈ K) {s}
    (h : Run f K s0 s) : Run f K s0 (State.checkAlarms s) := by
  have r1 := @alarmTick_run f K s0 (orr hf rfl) (sbk hK rfl)
  unfold State.checkAlarms
  repeat' first
    | with_reducible assumption
    | with_reducible apply r1
    | with_reducible apply ite_run
    | split
    | dsimp only
    | intro _ _

theorem stopMeasure_run {f K s0} (hf : 1099511627776 ||| f = f)
    (hK : ∀ x, x ∈ ([] : List Nat) → x ∈ K) {s}
    (h : Run f K s0 s) : Run f K s0 (State.stopMeasure s) := by
  have u0 := orr (a := 1099511627776) hf rfl
  unfold State.stopMeasure
  repeat' first
    | with_reducible assumption
    | split
    | with_reducible apply run_upd_meas u0
    | dsimp only
    | intro _ _

theorem imageRestore_run {f K s0} (hf : 35600983916544 ||| f = f)
    (hK : ∀ x, x ∈ ([0x620103] : List Nat) → x ∈ K) {s}
    (h : Run f K s0 s) : Run f K s0 (State.imageRestore s) := by
  have r1 := @imageNow_run f K s0 (orr hf rfl) (sbk hK rfl)
  have r2 := @imageStart_run f K s0 (orr hf rfl) (sbk hK rfl)
  unfold State.imageRestore
  repeat' first
    | with_reducible assumption
    | with_reducible apply r1
    | with_reducible apply r2
    | with_reducible apply ite_run
    | split
    | dsimp only
    | intro _ _

theorem imageSave_run {f K s0} (hf : 35602057658368 ||| f = f)
    (hK : ∀ x, x ∈ ([0x120103, 0x620103] : List Nat) → x ∈ K) {s}
    (h : Run f K s0 s) : Run f K s0 (State.imageSave s) := by
  have r1 := @imageNow_run f K s0 (orr hf rfl) (sbk hK rfl)
  have r2 := @imageWrite_run f K s0 (orr hf rfl) (sbk hK rfl)
  have j0 := sbk (a := [PD.UPD_IMAGE_RESULT]) hK rfl
  have u0 := orr (a := 1073741824) hf rfl
  unfold State.imageSave
  repeat' first
    | with_reducible assumption
    | with_reducible apply setNum_run j0
    | with_reducible apply r1
    | with_reducible apply r2
    | with_reducible apply ite_run
    | split
    | with_reducible apply run_upd_step u0
    | dsimp only
    | intro _ _

theorem imageCmd_run {f K s0} (hf : 35602057658368 ||| f = f)
    (hK : ∀ x, x ∈ ([0x120103, 0x620103] : List Nat) → x ∈ K) {s x1}
    (h : Run f K s0 s) : Run f K s0 (State.imageCmd s x1) := by
  have r1 := @imageNow_run f K s0 (orr hf rfl) (sbk hK rfl)
  have r2 := @imageRestore_run f K s0 (orr hf rfl) (sbk hK rfl)
  have r3 := @imageSave_run f K s0 (orr hf rfl) (sbk hK rfl)
  unfold State.imageCmd
  repeat' first
    | with_reducible assumption
    | with_reducible apply r1
    | with_reducible apply r2
    | with_reducible apply r3
    | with_reducible apply ite_run
    | split
    | dsimp only
    | intro _ _

theorem pmbResult_run {f K s0} (hf : 0 ||| f = f)
    (hK : ∀ x, x ∈ ([0x902004] : List Nat) → x ∈ K) {s x1 x2}
    (h : Run f K s0 s) : Run f K s0 (State.pmbResult s x1 x2) := by
  have j0 := sbk (a := [PD.PMB_XFER_RESULT]) hK rfl
  unfold State.pmbResult
  repeat' first
    | with_reducible assumption
    | with_reducible apply setBytes_run j0
    | split
    | dsimp only
    | intro _ _

theorem pmbStart_run {f K s0} (hf : 36283883716608 ||| f = f)
    (hK : ∀ x, x ∈ ([0x902004] : List Nat) → x ∈ K) {s x1}
    (h : Run f K s0 s) : Run f K s0 (State.pmbStart s x1) := by
  have r1 := @pmbResult_run f K s0 (orr hf rfl) (sbk hK rfl)
  have r2 := @emit_run f K s0 (orr hf rfl) (sbk hK rfl)
  have u0 := orr (a := 1099511627776) hf rfl
  unfold State.pmbStart
  repeat' first
    | with_reducible assumption
    | with_reducible apply r1
    | with_reducible apply r2
    | with_reducible apply ite_run
    | split
    | with_reducible apply run_upd_meas u0
    | dsimp only
    | intro _ _

theorem deliver_run {f K s0} (hf : 68719476736 ||| f = f)
    (hK : ∀ x, x ∈ ([] : List Nat) → x ∈ K) {s x1 x2 x3 x4 x5 x6}
    (h : Run f K s0 s) : Run f K s0 (State.deliver s x1 x2 x3 x4 x5 x6) := by
  have u0 := orr (a := 68719476736) hf rfl
  unfold State.deliver
  repeat' first
    | with_reducible assumption
    | with_reducible apply ite_run
    | with_reducible apply RunOpt.map
    | split
    | with_reducible apply run_upd_link u0
    | dsimp only
    | intro _ _

theorem sendIdle_run {f K s0} (hf : 35253091565568 ||| f = f)
    (hK : ∀ x, x ∈ ([] : List Nat) → x ∈ K) {s x1 x2}
    (h : Run f K s0 s) : Run f K s0 (State.sendIdle s x1 x2) := by
  have r1 := @setPort_run f K s0 (orr hf rfl) (sbk hK rfl)
  have r2 := @emit_run f K s0 (orr hf rfl) (sbk hK rfl)
  unfold State.sendIdle
  repeat' first
    | with_reducible assumption
    | with_reducible apply r1
    | with_reducible apply r2
    | with_reducible apply getD_run
    | split
    | dsimp only
    | intro _ _

theorem discardFlit_run {f K s0} (hf : 35253091565568 ||| f = f)
    (hK : ∀ x, x ∈ ([] : List Nat) → x ∈ K) {s x1}
    (h : Run f K s0 s) : Run f K s0 (State.discardFlit s x1) := by
  have r1 := @setPort_run f K s0 (orr hf rfl) (sbk hK rfl)
  have r2 := @sendIdle_run f K s0 (orr hf rfl) (sbk hK rfl)
  unfold State.discardFlit
  repeat' first
    | with_reducible assumption
    | with_reducible apply r1
    | with_reducible apply r2
    | with_reducible apply ite_run
    | split
    | dsimp only
    | intro _ _

theorem discoverOnce_run {f K s0} (hf : 35665408425984 ||| f = f)
    (hK : ∀ x, x ∈ ([0x700103] : List Nat) → x ∈ K) {s}
    (h : Run f K s0 s) : Run f K s0 (State.discoverOnce s) := by
  have r1 := @discover_run f K s0 (orr hf rfl) (sbk hK rfl)
  unfold State.discoverOnce
  repeat' first
    | with_reducible assumption
    | with_reducible apply r1
    | with_reducible apply ite_run
    | split
    | dsimp only
    | intro _ _

theorem refreshSet_run {f K s0} (hf : 4398047559680 ||| f = f)
    (hK : ∀ x, x ∈ ([] : List Nat) → x ∈ K) {s x1}
    (h : Run f K s0 s) : Run f K s0 (State.refreshSet s x1) := by
  have r1 := @request_run f K s0 (orr hf rfl) (sbk hK rfl)
  have r2 := @setDieCal_run f K s0 (orr hf rfl) (sbk hK rfl)
  have u0 := orr (a := 1048576) hf rfl
  unfold State.refreshSet
  repeat' first
    | with_reducible assumption
    | with_reducible apply r1
    | with_reducible apply r2
    | with_reducible apply ite_run
    | (with_reducible apply foldl_run; intro _ _ _)
    | (with_reducible apply foldl_proj_run Prod.snd; intro _ _ _)
    | (with_reducible apply foldl_proj_run Prod.fst; intro _ _ _)
    | with_reducible apply run_of_snd (by with_reducible assumption)
    | with_reducible apply run_of_fst (by with_reducible assumption)
    | split
    | with_reducible apply run_upd_cal u0
    | dsimp only
    | intro _ _

theorem runDone_run {f K s0} (hf : 4398047559680 ||| f = f)
    (hK : ∀ x, x ∈ ([] : List Nat) → x ∈ K) {s x1 x2}
    (h : Run f K s0 s) : Run f K s0 (State.runDone s x1 x2) := by
  have r1 := @refreshSet_run f K s0 (orr hf rfl) (sbk hK rfl)
  have r2 := @setDieCal_run f K s0 (orr hf rfl) (sbk hK rfl)
  unfold State.runDone
  repeat' first
    | with_reducible assumption
    | with_reducible apply r1
    | with_reducible apply r2
    | split
    | dsimp only
    | intro _ _

theorem swapBanks_run {f K s0} (hf : 1048576 ||| f = f)
    (hK : ∀ x, x ∈ ([0x411002, 0x411003, 0x411005] : List Nat) → x ∈ K) {s x1}
    (h : Run f K s0 s) : Run f K s0 (State.swapBanks s x1) := by
  have j0 := sbk (a := [PD.CAL_BANK]) hK rfl
  have j1 := sbk (a := [PD.CAL_SWAPS]) hK rfl
  have j2 := sbk (a := [PD.CAL_LAST_SWAP]) hK rfl
  have u0 := orr (a := 1048576) hf rfl
  unfold State.swapBanks
  repeat' first
    | with_reducible assumption
    | with_reducible apply bump_run j1
    | with_reducible apply setNum_run j0
    | with_reducible apply setNum_run j2
    | split
    | with_reducible apply run_upd_cal u0
    | dsimp only
    | intro _ _

theorem endPattern_run {f K s0} (hf : 4398047559680 ||| f = f)
    (hK : ∀ x, x ∈ ([0x411002, 0x411003, 0x411005, 0x411007] : List Nat) → x ∈ K) {s}
    (h : Run f K s0 s) : Run f K s0 (State.endPattern s) := by
  have r1 := @runDone_run f K s0 (orr hf rfl) (sbk hK rfl)
  have r2 := @writeIdle_run f K s0 (orr hf rfl) (sbk hK rfl)
  have r3 := @swapBanks_run f K s0 (orr hf rfl) (sbk hK rfl)
  have r4 := @setDieCal_run f K s0 (orr hf rfl) (sbk hK rfl)
  have j0 := sbk (a := [PD.CAL_RUNS]) hK rfl
  have u0 := orr (a := 1048576) hf rfl
  unfold State.endPattern
  repeat' first
    | with_reducible assumption
    | with_reducible apply bump_run j0
    | with_reducible apply r1
    | with_reducible apply r2
    | with_reducible apply r3
    | with_reducible apply r4
    | with_reducible apply ite_run
    | (with_reducible apply each_run; intro _ _ _)
    | split
    | with_reducible apply run_upd_cal u0
    | dsimp only
    | intro _ _

theorem forward_run {f K s0} (hf : 35253091565568 ||| f = f)
    (hK : ∀ x, x ∈ ([0x700207, 0x700208] : List Nat) → x ∈ K) {s x1 x2 x3}
    (h : Run f K s0 s) : Run f K s0 (State.forward s x1 x2 x3) := by
  have r1 := @sendFlit_run f K s0 (orr hf rfl) (sbk hK rfl)
  have j0 := sbk (a := [PD.FLITS_FORWARDED]) hK rfl
  have j1 := sbk (a := [PD.FLITS_NO_ROUTE]) hK rfl
  have u0 := orr (a := 68719476736) hf rfl
  unfold State.forward
  repeat' first
    | with_reducible assumption
    | with_reducible apply bump_run j0
    | with_reducible apply bump_run j1
    | with_reducible apply r1
    | with_reducible apply ite_run
    | with_reducible apply RunOpt.map
    | split
    | with_reducible apply run_upd_link u0
    | dsimp only
    | intro _ _

theorem halfF_run {f K s0} (hf : 70368744177664 ||| f = f)
    (hK : ∀ x, x ∈ ([] : List Nat) → x ∈ K) {s}
    (h : Run f K s0 s) : Run f K s0 (State.halfF s).2 := by
  have r1 := @fresh_run f K s0 (orr hf rfl) (sbk hK rfl)
  unfold State.halfF
  repeat' first
    | with_reducible assumption
    | with_reducible apply ite_run
    | with_reducible apply run_of_snd (by with_reducible assumption)
    | with_reducible apply r1
    | split
    | dsimp only
    | intro _ _

theorem recheck_run {f K s0} (hf : 40067199190721 ||| f = f)
    (hK : ∀ x, x ∈ ([0x600002, 0x600003, 0x600004, 0x600007, 0x600203, 0x700103, 0x700204, 0x700205, 0x70020A, 0x70020B, 0xA10001, 0xA10006] : List Nat) → x ∈ K) {s x1 x2 x3}
    (h : Run f K s0 s) : Run f K s0 (State.recheck s x1 x2 x3) := by
  have r1 := @setDiscovery_run f K s0 (orr hf rfl) (sbk hK rfl)
  have r2 := @faultAndHold_run f K s0 (orr hf rfl) (sbk hK rfl)
  have r3 := @setPort_run f K s0 (orr hf rfl) (sbk hK rfl)
  have r4 := @spall_run f K s0 (orr hf rfl) (sbk hK rfl)
  have r5 := @replayFlits_run f K s0 (orr hf rfl) (sbk hK rfl)
  have r6 := @sendWaiting_run f K s0 (orr hf rfl) (sbk hK rfl)
  have j0 := sbk (a := [PD.FLITS_FLUSHED]) hK rfl
  have j1 := sbk (a := [PD.IDENTITY_CHANGES]) hK rfl
  have u0 := orr (a := 68719476736) hf rfl
  unfold State.recheck
  dsimp only
  split
  · split
    · exact r6 (r5 (r3 h))
    · exact r6 (r3 h)
  · apply r1
    have a1 : ∀ t, Run f K s0 t → Run f K s0 (if (decide (idPeer x2 = idPeer x3)) = true then t else t.bump PD.IDENTITY_CHANGES) :=
      fun t ht => ite_run ht (bump_run j1 ht)
    generalize ht : State.spall _ _ = t
    have h1 : Run f K s0 t := by
      rw [← ht]
      exact r4 (run_upd_link u0 (bumpBy_run j0 (r3 (a1 _ h))))
    clear ht
    have h2 : Run f K s0 (if t.step.opened = true then t.faultAndHold else t) := ite_run (r2 h1) h1
    generalize (if t.step.opened = true then t.faultAndHold else t) = u at *
    exact ite_run (run_upd_link u0 h2) h2

theorem identified_run {f K s0} (hf : 40067199190721 ||| f = f)
    (hK : ∀ x, x ∈ ([0x600002, 0x600003, 0x600004, 0x600007, 0x600203, 0x700103, 0x700204, 0x700205, 0x70020A, 0x70020B, 0xA10001, 0xA10006] : List Nat) → x ∈ K) {s x1 x2}
    (h : Run f K s0 s) : Run f K s0 (State.identified s x1 x2) := by
  have r1 := @setPort_run f K s0 (orr hf rfl) (sbk hK rfl)
  have r2 := @recheck_run f K s0 (orr hf rfl) (sbk hK rfl)
  have r3 := @decideRun_run f K s0 (orr hf rfl) (sbk hK rfl)
  have r4 := @tryDecide_run f K s0 (orr hf rfl) (sbk hK rfl)
  have u0 := orr (a := 68719476736) hf rfl
  unfold State.identified
  repeat' first
    | with_reducible assumption
    | with_reducible apply r1
    | with_reducible apply r2
    | with_reducible apply r3
    | with_reducible apply r4
    | with_reducible apply ite_run
    | split
    | simp only [run_upd_link_iff u0]
    | dsimp only
    | intro _ _

theorem takeImage_run {f K s0} (hf : 4294967296 ||| f = f)
    (hK : ∀ x, x ∈ ([] : List Nat) → x ∈ K) {s x1}
    (h : Run f K s0 s) : Run f K s0 (State.takeImage s x1) := by
  have r1 := @setPane_run f K s0 (orr hf rfl) (sbk hK rfl)
  have u0 := orr (a := 4294967296) hf rfl
  unfold State.takeImage
  repeat' first
    | with_reducible assumption
    | with_reducible apply r1
    | with_reducible apply ite_run
    | split
    | with_reducible apply run_upd_upd u0
    | dsimp only
    | intro _ _

theorem takeImages_run {f K s0} (hf : 40007644233728 ||| f = f)
    (hK : ∀ x, x ∈ ([0x40100D, 0x401101, 0x502101, 0x502104, 0x502105, 0x502106, 0x507001, 0x507003, 0x600004, 0x620209, 0x62020A, 0xA10001,
       0xA10006] : List Nat) → x ∈ K) {s x1}
    (h : Run f K s0 s) : Run f K s0 (State.takeImages s x1) := by
  have r1 := @deriveCopies_run f K s0 (orr hf rfl) (sbk hK rfl)
  have r2 := @takeImage_run f K s0 (orr hf rfl) (sbk hK rfl)
  have r3 := @rewriteArrays_run f K s0 (orr hf rfl) (sbk hK rfl)
  unfold State.takeImages
  repeat' first
    | with_reducible assumption
    | with_reducible apply r2
    | with_reducible apply r3
    | with_reducible apply ite_run
    | (with_reducible apply each_run; intro _ _ _)
    | with_reducible apply run_of_snd (by with_reducible assumption)
    | with_reducible apply r1
    | split
    | dsimp only
    | intro _ _

theorem imageData_run {f K s0} (hf : 40007644233728 ||| f = f)
    (hK : ∀ x, x ∈ ([0x120103, 0x40100D, 0x401101, 0x502101, 0x502104, 0x502105, 0x502106, 0x507001, 0x507003, 0x600004, 0x620103, 0x620209,
       0x62020A, 0xA10001, 0xA10006] : List Nat) → x ∈ K) {s x1 x2}
    (h : Run f K s0 s) : Run f K s0 (State.imageData s x1 x2) := by
  have r1 := @takeImages_run f K s0 (orr hf rfl) (sbk hK rfl)
  have r2 := @imageStart_run f K s0 (orr hf rfl) (sbk hK rfl)
  have j0 := sbk (a := [PD.HOST_DMA_ERR]) hK rfl
  unfold State.imageData
  repeat' first
    | with_reducible assumption
    | with_reducible apply bump_run j0
    | with_reducible apply r1
    | with_reducible apply r2
    | with_reducible apply ite_run
    | split
    | dsimp only
    | intro _ _

theorem linkDown_run {f K s0} (hf : 40063454937088 ||| f = f)
    (hK : ∀ x, x ∈ ([0x700206, 0x700208, 0x70020A, 0xA10001, 0xA10006] : List Nat) → x ∈ K) {s x1}
    (h : Run f K s0 s) : Run f K s0 (State.linkDown s x1) := by
  have r1 := @setPort_run f K s0 (orr hf rfl) (sbk hK rfl)
  have r2 := @spall_run f K s0 (orr hf rfl) (sbk hK rfl)
  have r3 := @cause_run f K s0 (orr hf rfl) (sbk hK rfl)
  have j0 := sbk (a := [PD.LINK_DROPS]) hK rfl
  have j1 := sbk (a := [PD.FLITS_NO_ROUTE]) hK rfl
  have j2 := sbk (a := [PD.FLITS_FLUSHED]) hK rfl
  unfold State.linkDown
  repeat' first
    | with_reducible assumption
    | with_reducible apply bump_run j0
    | with_reducible apply bumpBy_run j1
    | with_reducible apply bumpBy_run j2
    | with_reducible apply r1
    | with_reducible apply r2
    | with_reducible apply r3
    | split
    | dsimp only
    | intro _ _

theorem readSets_run {f K s0} (hf : 1048576 ||| f = f)
    (hK : ∀ x, x ∈ ([0x412004, 0x412005] : List Nat) → x ∈ K) {s}
    (h : Run f K s0 s) : Run f K s0 (State.readSets s) := by
  have j0 := sbk (a := [PD.CAL_SET_RESTORED]) hK rfl
  have j1 := sbk (a := [PD.CAL_SET_BAD]) hK rfl
  have u0 := orr (a := 1048576) hf rfl
  unfold State.readSets
  repeat' first
    | with_reducible assumption
    | with_reducible apply bump_run j0
    | with_reducible apply bump_run j1
    | with_reducible apply ite_run
    | (with_reducible apply each_run; intro _ _ _)
    | split
    | with_reducible apply run_upd_cal u0
    | dsimp only
    | intro _ _

theorem readT16_run {f K s0} (hf : 1048576 ||| f = f)
    (hK : ∀ x, x ∈ ([] : List Nat) → x ∈ K) {s x1}
    (h : Run f K s0 s) : Run f K s0 (State.readT16 s x1) := by
  have r1 := @setDieCal_run f K s0 (orr hf rfl) (sbk hK rfl)
  unfold State.readT16
  repeat' first
    | with_reducible assumption
    | with_reducible apply r1
    | split
    | dsimp only
    | intro _ _

theorem receive_run {f K s0} (hf : 68719476736 ||| f = f)
    (hK : ∀ x, x ∈ ([0x700201, 0x700202, 0x700203] : List Nat) → x ∈ K) {s x1 x2 x3 x4 x5}
    (h : Run f K s0 s) : Run f K s0 (State.receive s x1 x2 x3 x4 x5).2 := by
  have r1 := @setPort_run f K s0 (orr hf rfl) (sbk hK rfl)
  have j0 := sbk (a := [PD.FEC_CORRECTED]) hK rfl
  have j1 := sbk (a := [PD.FEC_UNCORRECTABLE]) hK rfl
  have j2 := sbk (a := [PD.FLIT_CRC_ERR]) hK rfl
  unfold State.receive
  repeat' first
    | with_reducible assumption
    | with_reducible apply bump_run j2
    | with_reducible apply bumpBy_run j0
    | with_reducible apply bumpBy_run j1
    | with_reducible apply r1
    | with_reducible apply ite_run
    | split
    | dsimp only
    | intro _ _

theorem sendIdentity_run {f K s0} (hf : 35184372088832 ||| f = f)
    (hK : ∀ x, x ∈ ([] : List Nat) → x ∈ K) {s x1}
    (h : Run f K s0 s) : Run f K s0 (State.sendIdentity s x1) := by
  have r1 := @emit_run f K s0 (orr hf rfl) (sbk hK rfl)
  unfold State.sendIdentity
  repeat' first
    | with_reducible assumption
    | with_reducible apply r1
    | split
    | dsimp only
    | intro _ _

theorem setChan_run {f K s0} (hf : 1099511627776 ||| f = f)
    (hK : ∀ x, x ∈ ([] : List Nat) → x ∈ K) {s x1 x2}
    (h : Run f K s0 s) : Run f K s0 (State.setChan s x1 x2) := by
  have u0 := orr (a := 1099511627776) hf rfl
  unfold State.setChan
  repeat' first
    | with_reducible assumption
    | split
    | with_reducible apply run_upd_meas u0
    | dsimp only
    | intro _ _

theorem setPmb_run {f K s0} (hf : 1099511627776 ||| f = f)
    (hK : ∀ x, x ∈ ([] : List Nat) → x ∈ K) {s x1 x2}
    (h : Run f K s0 s) : Run f K s0 (State.setPmb s x1 x2) := by
  have u0 := orr (a := 1099511627776) hf rfl
  unfold State.setPmb
  repeat' first
    | with_reducible assumption
    | split
    | with_reducible apply run_upd_meas u0
    | dsimp only
    | intro _ _

theorem setTach_run {f K s0} (hf : 1099511627776 ||| f = f)
    (hK : ∀ x, x ∈ ([] : List Nat) → x ∈ K) {s x1 x2}
    (h : Run f K s0 s) : Run f K s0 (State.setTach s x1 x2) := by
  have u0 := orr (a := 1099511627776) hf rfl
  unfold State.setTach
  repeat' first
    | with_reducible assumption
    | split
    | with_reducible apply run_upd_meas u0
    | dsimp only
    | intro _ _

theorem startWaiting_run {f K s0} (hf : 1099511627776 ||| f = f)
    (hK : ∀ x, x ∈ ([] : List Nat) → x ∈ K) {s}
    (h : Run f K s0 s) : Run f K s0 (State.startWaiting s) := by
  have r1 := @startGroup_run f K s0 (orr hf rfl) (sbk hK rfl)
  unfold State.startWaiting
  repeat' first
    | with_reducible assumption
    | with_reducible apply r1
    | with_reducible apply ite_run
    | (with_reducible apply each_run; intro _ _ _)
    | split
    | dsimp only
    | intro _ _

theorem takeSample_run {f K s0} (hf : 1099511627776 ||| f = f)
    (hK : ∀ x, x ∈ ([0x900204, 0x900206] : List Nat) → x ∈ K) {s x1 x2 x3 x4}
    (h : Run f K s0 s) : Run f K s0 (State.takeSample s x1 x2 x3 x4) := by
  have r1 := @setChan_run f K s0 (orr hf rfl) (sbk hK rfl)
  have j0 := sbk (a := [PD.ADC_RANGE_FLAGS]) hK rfl
  have j1 := sbk (a := [PD.ADC_SAMPLES]) hK rfl
  unfold State.takeSample
  repeat' first
    | with_reducible assumption
    | with_reducible apply bump_run j1
    | with_reducible apply bumpBy_run j0
    | with_reducible apply r1
    | split
    | dsimp only
    | intro _ _

theorem takeRound_run {f K s0} (hf : 1099511627776 ||| f = f)
    (hK : ∀ x, x ∈ ([0x900204, 0x900206] : List Nat) → x ∈ K) {s x1 x2 x3 x4}
    (h : Run f K s0 s) : Run f K s0 (State.takeRound s x1 x2 x3 x4) := by
  have r1 := @takeSample_run f K s0 (orr hf rfl) (sbk hK rfl)
  have u0 := orr (a := 1099511627776) hf rfl
  unfold State.takeRound
  repeat' first
    | with_reducible assumption
    | with_reducible apply r1
    | with_reducible apply ite_run
    | (with_reducible apply each_run; intro _ _ _)
    | with_reducible apply RunOpt.map
    | with_reducible apply getD_run
    | split
    | with_reducible apply run_upd_meas u0
    | dsimp only
    | intro _ _

theorem throttleOut_run {f K s0} (hf : 1099511627776 ||| f = f)
    (hK : ∀ x, x ∈ ([] : List Nat) → x ∈ K) {s}
    (h : Run f K s0 s) : Run f K s0 (State.throttleOut s) := by
  have u0 := orr (a := 1099511627776) hf rfl
  unfold State.throttleOut
  repeat' first
    | with_reducible assumption
    | with_reducible apply ite_run
    | split
    | with_reducible apply run_upd_meas u0
    | dsimp only
    | intro _ _

theorem valve_run {f K s0} (hf : 1099511627776 ||| f = f)
    (hK : ∀ x, x ∈ ([] : List Nat) → x ∈ K) {s}
    (h : Run f K s0 s) : Run f K s0 (State.valve s) := by
  have r1 := @setDuty_run f K s0 (orr hf rfl) (sbk hK rfl)
  have u0 := orr (a := 1099511627776) hf rfl
  unfold State.valve
  repeat' first
    | with_reducible assumption
    | with_reducible apply r1
    | with_reducible apply ite_run
    | split
    | with_reducible apply run_upd_meas u0
    | dsimp only
    | intro _ _

theorem withFetchWord_run {f K s0} (hf : 140737488355328 ||| f = f)
    (hK : ∀ x, x ∈ ([] : List Nat) → x ∈ K) {s x1 x2}
    (h : Run f K s0 s) : Run f K s0 (State.withFetchWord s x1 x2) := by
  have u0 := orr (a := 140737488355328) hf rfl
  unfold State.withFetchWord
  repeat' first
    | with_reducible assumption
    | split
    | with_reducible apply run_upd_pending u0
    | dsimp only
    | intro _ _

theorem execResidentProbeSet_run {f K s0} (hf : 39994736525312 ||| f = f)
    (hK : ∀ x, x ∈ ([0x411007, 0xA00106, 0xA00108, 0xA01003, 0xA10001, 0xA10006] : List Nat) → x ∈ K) {s x0 x1}
    (h : Run f K s0 s) : RunRes f K s0 (execResidentProbeSet x0 x1 s) := by
  have r1 := @runDone_run f K s0 (orr hf rfl) (sbk hK rfl)
  have r2 := @startGrant_run f K s0 (orr hf rfl) (sbk hK rfl)
  have r3 := @readT16_run f K s0 (orr hf rfl) (sbk hK rfl)
  have r4 := @grant_run f K s0 (orr hf rfl) (sbk hK rfl)
  have r5 := @calWhenIdle_run f K s0 (orr hf rfl) (sbk hK rfl)
  have r6 := @spall_run f K s0 (orr hf rfl) (sbk hK rfl)
  have r7 := @confirm_run f K s0 (orr hf rfl) (sbk hK rfl)
  have r8 := @endGrant_run f K s0 (orr hf rfl) (sbk hK rfl)
  have r9 := @setDieCal_run f K s0 (orr hf rfl) (sbk hK rfl)
  have j0 := sbk (a := [PD.CAL_RUNS]) hK rfl
  have u0 := orr (a := 1048576) hf rfl
  unfold execResidentProbeSet
  repeat' first
    | with_reducible assumption
    | with_reducible apply bump_run j0
    | with_reducible apply r1
    | with_reducible apply r2
    | with_reducible apply r3
    | with_reducible apply r5
    | with_reducible apply r6
    | with_reducible apply r7
    | with_reducible apply r8
    | with_reducible apply r9
    | with_reducible apply RunRes.ite
    | with_reducible apply ite_run
    | with_reducible apply RunRes.next
    | with_reducible apply RunOpt.map
    | with_reducible apply run_of_snd (by with_reducible assumption)
    | with_reducible apply getD_run
    | with_reducible apply r4
    | split
    | with_reducible apply run_upd_cal u0
    | dsimp only
    | intro _ _

theorem execUpdImageRestore_run {f K s0} (hf : 40007644233728 ||| f = f)
    (hK : ∀ x, x ∈ ([0x120103, 0x40100D, 0x401101, 0x502101, 0x502104, 0x502105, 0x502106, 0x507001, 0x507003, 0x600004, 0x620103, 0x620209,
       0x62020A, 0xA10001, 0xA10006] : List Nat) → x ∈ K) {s x0 x1}
    (h : Run f K s0 s) : RunRes f K s0 (execUpdImageRestore x0 x1 s) := by
  have r1 := @imageRestore_run f K s0 (orr hf rfl) (sbk hK rfl)
  have r2 := @imageData_run f K s0 (orr hf rfl) (sbk hK rfl)
  unfold execUpdImageRestore
  repeat' first
    | with_reducible assumption
    | with_reducible apply r1
    | with_reducible apply r2
    | with_reducible apply RunRes.ite
    | with_reducible apply ite_run
    | with_reducible apply RunRes.next
    | split
    | dsimp only
    | intro _ _

theorem execFastClamp_run {f K s0} (hf : 107064944754688 ||| f = f)
    (hK : ∀ x, x ∈ ([0x900202, 0x900203, 0x903101, 0x903105] : List Nat) → x ∈ K) {s x0 x1 x2}
    (h : Run f K s0 s) : RunRes f K s0 (execFastClamp x0 x1 x2 s) := by
  have r1 := @setF_run f K s0 (orr hf rfl) (sbk hK rfl)
  have r2 := @halfF_run f K s0 (orr hf rfl) (sbk hK rfl)
  have j0 := sbk (a := [PD.LEVEL_FAST_CLAMPS]) hK rfl
  unfold execFastClamp
  repeat' first
    | with_reducible assumption
    | with_reducible apply bump_run j0
    | with_reducible apply r1
    | with_reducible apply RunRes.ite
    | with_reducible apply ite_run
    | with_reducible apply RunRes.next
    | with_reducible apply run_of_snd (by with_reducible assumption)
    | with_reducible apply r2
    | split
    | dsimp only
    | intro _ _

theorem execBankSettled_run {f K s0} (hf : 4398047559680 ||| f = f)
    (hK : ∀ x, x ∈ ([0x411002, 0x411003, 0x411005, 0xA01003] : List Nat) → x ∈ K) {s}
    (h : Run f K s0 s) : RunRes f K s0 (execBankSettled s) := by
  have r1 := @calWhenIdle_run f K s0 (orr hf rfl) (sbk hK rfl)
  have r2 := @swapBanks_run f K s0 (orr hf rfl) (sbk hK rfl)
  have u0 := orr (a := 1048576) hf rfl
  unfold execBankSettled
  repeat' first
    | with_reducible assumption
    | with_reducible apply r1
    | with_reducible apply r2
    | with_reducible apply RunRes.ite
    | with_reducible apply ite_run
    | with_reducible apply RunRes.next
    | split
    | with_reducible apply run_upd_cal u0
    | dsimp only
    | intro _ _

theorem execChannelStale_run {f K s0} (hf : 1099511627776 ||| f = f)
    (hK : ∀ x, x ∈ ([] : List Nat) → x ∈ K) {s x0}
    (h : Run f K s0 s) : RunRes f K s0 (execChannelStale x0 s) := by
  have r1 := @setChan_run f K s0 (orr hf rfl) (sbk hK rfl)
  unfold execChannelStale
  repeat' first
    | with_reducible assumption
    | with_reducible apply r1
    | with_reducible apply RunRes.ite
    | with_reducible apply ite_run
    | with_reducible apply RunRes.next
    | split
    | dsimp only
    | intro _ _

theorem execSliceCalibration_run {f K s0} (hf : 5497558138880 ||| f = f)
    (hK : ∀ x, x ∈ ([0xA01003] : List Nat) → x ∈ K) {s x0 x1}
    (h : Run f K s0 s) : RunRes f K s0 (execSliceCalibration x0 x1 s) := by
  have r1 := @grant_run f K s0 (orr hf rfl) (sbk hK rfl)
  have u0 := orr (a := 1099511627776) hf rfl
  unfold execSliceCalibration
  repeat' first
    | with_reducible assumption
    | with_reducible apply RunRes.ite
    | with_reducible apply ite_run
    | with_reducible apply RunRes.next
    | with_reducible apply run_of_snd (by with_reducible assumption)
    | with_reducible apply r1
    | split
    | with_reducible apply run_upd_meas u0
    | dsimp only
    | intro _ _

theorem execPaneImageComplete_run {f K s0} (hf : 35600983916544 ||| f = f)
    (hK : ∀ x, x ∈ ([0x620103, 0x620104] : List Nat) → x ∈ K) {s}
    (h : Run f K s0 s) : RunRes f K s0 (execPaneImageComplete s) := by
  have r1 := @imageNow_run f K s0 (orr hf rfl) (sbk hK rfl)
  have j0 := sbk (a := [PD.UPD_IMAGE_LENGTH]) hK rfl
  unfold execPaneImageComplete
  repeat' first
    | with_reducible assumption
    | with_reducible apply setNum_run j0
    | with_reducible apply r1
    | with_reducible apply RunRes.ite
    | with_reducible apply ite_run
    | with_reducible apply RunRes.next
    | split
    | dsimp only
    | intro _ _

theorem execRetrainLimit_run {f K s0} (hf : 40063454937088 ||| f = f)
    (hK : ∀ x, x ∈ ([0x700206, 0x700208, 0x70020A, 0xA10001, 0xA10006] : List Nat) → x ∈ K) {s x0}
    (h : Run f K s0 s) : RunRes f K s0 (execRetrainLimit x0 s) := by
  have r1 := @linkDown_run f K s0 (orr hf rfl) (sbk hK rfl)
  unfold execRetrainLimit
  repeat' first
    | with_reducible assumption
    | with_reducible apply r1
    | with_reducible apply RunRes.ite
    | with_reducible apply ite_run
    | with_reducible apply RunRes.next
    | split
    | dsimp only
    | intro _ _

theorem execIdleFlit_run {f K s0} (hf : 35253091565568 ||| f = f)
    (hK : ∀ x, x ∈ ([0x700201, 0x700202, 0x700203, 0x700204, 0x700205] : List Nat) → x ∈ K) {s x0 x1 x2 x3}
    (h : Run f K s0 s) : RunRes f K s0 (execIdleFlit x0 x1 x2 x3 s) := by
  have r1 := @setPort_run f K s0 (orr hf rfl) (sbk hK rfl)
  have r2 := @receive_run f K s0 (orr hf rfl) (sbk hK rfl)
  have r3 := @acknowledge_run f K s0 (orr hf rfl) (sbk hK rfl)
  unfold execIdleFlit
  repeat' first
    | with_reducible assumption
    | with_reducible apply r1
    | with_reducible apply r3
    | with_reducible apply RunRes.ite
    | with_reducible apply ite_run
    | with_reducible apply RunRes.next
    | with_reducible apply run_of_snd (by with_reducible assumption)
    | with_reducible apply getD_run
    | with_reducible apply r2
    | split
    | dsimp only
    | intro _ _

theorem execCalRunResident_run {f K s0} (hf : 39994736771265 ||| f = f)
    (hK : ∀ x, x ∈ ([0x410102, 0x41100A] : List Nat) → x ∈ K) {s}
    (h : Run f K s0 s) : RunRes f K s0 (execCalRunResident s) := by
  have r1 := @calRun_run f K s0 (orr hf rfl) (sbk hK rfl)
  unfold execCalRunResident
  repeat' first
    | with_reducible assumption
    | with_reducible apply r1
    | with_reducible apply RunRes.next
    | split
    | dsimp only
    | intro _ _

theorem execTachEdge_run {f K s0} (hf : 36283883716864 ||| f = f)
    (hK : ∀ x, x ∈ ([] : List Nat) → x ∈ K) {s x0 x1}
    (h : Run f K s0 s) : RunRes f K s0 (execTachEdge x0 x1 s) := by
  have r1 := @runTo_run f K s0 (orr hf rfl) (sbk hK rfl)
  have r2 := @setTach_run f K s0 (orr hf rfl) (sbk hK rfl)
  unfold execTachEdge
  repeat' first
    | with_reducible assumption
    | with_reducible apply r1
    | with_reducible apply r2
    | with_reducible apply RunRes.ite
    | with_reducible apply ite_run
    | with_reducible apply RunRes.next
    | split
    | dsimp only
    | intro _ _

theorem execReplayTimeout_run {f K s0} (hf : 35253091565568 ||| f = f)
    (hK : ∀ x, x ∈ ([0x700204, 0x700205] : List Nat) → x ∈ K) {s x0}
    (h : Run f K s0 s) : RunRes f K s0 (execReplayTimeout x0 s) := by
  have r1 := @replayFlits_run f K s0 (orr hf rfl) (sbk hK rfl)
  unfold execReplayTimeout
  repeat' first
    | with_reducible assumption
    | with_reducible apply r1
    | with_reducible apply RunRes.ite
    | with_reducible apply ite_run
    | with_reducible apply RunRes.next
    | split
    | dsimp only
    | intro _ _

theorem execPmbPoll_run {f K s0} (hf : 36283883716608 ||| f = f)
    (hK : ∀ x, x ∈ ([0x902005] : List Nat) → x ∈ K) {s x0 x1 x2 x3 x4 x5}
    (h : Run f K s0 s) : RunRes f K s0 (execPmbPoll x0 x1 x2 x3 x4 x5 s) := by
  have r1 := @setPmb_run f K s0 (orr hf rfl) (sbk hK rfl)
  have r2 := @emits_run f K s0 (orr hf rfl) (sbk hK rfl)
  have j0 := sbk (a := [PD.PMB_ERRORS]) hK rfl
  unfold execPmbPoll
  repeat' first
    | with_reducible assumption
    | with_reducible apply bumpBy_run j0
    | with_reducible apply r1
    | with_reducible apply r2
    | with_reducible apply RunRes.ite
    | with_reducible apply ite_run
    | with_reducible apply RunRes.next
    | with_reducible apply RunOpt.map
    | with_reducible apply getD_run
    | split
    | dsimp only
    | intro _ _

theorem execCodewordTimeout_run {f K s0} (hf : 68719476736 ||| f = f)
    (hK : ∀ x, x ∈ ([0x700205] : List Nat) → x ∈ K) {s x0}
    (h : Run f K s0 s) : RunRes f K s0 (execCodewordTimeout x0 s) := by
  have r1 := @retrain_run f K s0 (orr hf rfl) (sbk hK rfl)
  unfold execCodewordTimeout
  repeat' first
    | with_reducible assumption
    | with_reducible apply r1
    | with_reducible apply RunRes.ite
    | with_reducible apply ite_run
    | with_reducible apply RunRes.next
    | split
    | dsimp only
    | intro _ _

theorem execUnmarkedWrap_run {f K s0} (hf : 111535456044993 ||| f = f)
    (hK : ∀ x, x ∈ ([0x201003, 0x201007, 0x201107, 0x201108, 0x202003, 0x600002, 0x600003, 0x600004, 0x600007, 0x600203, 0xA10001, 0xA10006,
       0xB01006] : List Nat) → x ∈ K) {s}
    (h : Run f K s0 s) : RunRes f K s0 (execUnmarkedWrap s) := by
  have r1 := @setCourse_run f K s0 (orr hf rfl) (sbk hK rfl)
  have r2 := @runTo_run f K s0 (orr hf rfl) (sbk hK rfl)
  have r3 := @loseCourse_run f K s0 (orr hf rfl) (sbk hK rfl)
  have j0 := sbk (a := [PD.COURSE_HOLDOVER_COUNT]) hK rfl
  have j1 := sbk (a := [PD.COURSE_FLAGS]) hK rfl
  have j2 := sbk (a := [PD.COURSE_UNMARKED]) hK rfl
  have u0 := orr (a := 256) hf rfl
  unfold execUnmarkedWrap
  repeat' first
    | with_reducible assumption
    | with_reducible apply bump_run j2
    | with_reducible apply setNum_run j0
    | with_reducible apply setNum_run j1
    | with_reducible apply r1
    | with_reducible apply r2
    | with_reducible apply r3
    | with_reducible apply RunRes.ite
    | with_reducible apply ite_run
    | with_reducible apply RunRes.next
    | split
    | with_reducible apply run_upd_course u0
    | dsimp only
    | intro _ _

theorem execExtTrig_run {f K s0} (hf : 1099511627776 ||| f = f)
    (hK : ∀ x, x ∈ ([0x900202, 0x900203] : List Nat) → x ∈ K) {s x0}
    (h : Run f K s0 s) : RunRes f K s0 (execExtTrig x0 s) := by
  have r1 := @triggerKind_run f K s0 (orr hf rfl) (sbk hK rfl)
  unfold execExtTrig
  repeat' first
    | with_reducible assumption
    | with_reducible apply r1
    | with_reducible apply RunRes.ite
    | with_reducible apply ite_run
    | with_reducible apply RunRes.next
    | split
    | dsimp only
    | intro _ _

theorem execCourseFrame_run {f K s0} (hf : 111535456044993 ||| f = f)
    (hK : ∀ x, x ∈ ([0x201003, 0x201005, 0x201006, 0x201007, 0x201101, 0x201102, 0x201103, 0x201104, 0x201105, 0x201106, 0x201108, 0x202003,
       0x600002, 0x600003, 0x600004, 0x600007, 0x600203, 0xA10001, 0xA10006, 0xB01006] : List Nat) → x ∈ K) {s x0 x1 x2}
    (h : Run f K s0 s) : RunRes f K s0 (execCourseFrame x0 x1 x2 s) := by
  have r1 := @runTo_run f K s0 (orr hf rfl) (sbk hK rfl)
  have r2 := @acceptFrame_run f K s0 (orr hf rfl) (sbk hK rfl)
  have j0 := sbk (a := [PD.COURSE_CRC_ERR]) hK rfl
  have j1 := sbk (a := [PD.COURSE_DECODE_ERR]) hK rfl
  have j2 := sbk (a := [PD.COURSE_VERSION_ERR]) hK rfl
  unfold execCourseFrame
  repeat' first
    | with_reducible assumption
    | with_reducible apply bump_run j0
    | with_reducible apply bump_run j1
    | with_reducible apply bump_run j2
    | with_reducible apply r1
    | with_reducible apply r2
    | with_reducible apply RunRes.ite
    | with_reducible apply ite_run
    | with_reducible apply RunRes.next
    | split
    | dsimp only
    | intro _ _

theorem execLevelEvaluation_run {f K s0} (hf : 49962803840705 ||| f = f)
    (hK : ∀ x, x ∈ ([0x600002, 0x600003, 0x600004, 0x600007, 0x600203, 0x900202, 0x900203, 0x903101, 0x903102, 0x903103, 0x903106, 0xA10001,
       0xA10006] : List Nat) → x ∈ K) {s}
    (h : Run f K s0 s) : RunRes f K s0 (execLevelEvaluation s) := by
  have r1 := @throttleOut_run f K s0 (orr hf rfl) (sbk hK rfl)
  have r2 := @setF_run f K s0 (orr hf rfl) (sbk hK rfl)
  have r3 := @checkAlarms_run f K s0 (orr hf rfl) (sbk hK rfl)
  have r4 := @valve_run f K s0 (orr hf rfl) (sbk hK rfl)
  have j0 := sbk (a := [PD.LEVEL_P1]) hK rfl
  have j1 := sbk (a := [PD.LEVEL_THROTTLE_TICKS]) hK rfl
  have u0 := orr (a := 1099511627776) hf rfl
  unfold execLevelEvaluation
  repeat' first
    | with_reducible assumption
    | with_reducible apply bump_run j1
    | with_reducible apply setNum_run j0
    | with_reducible apply r1
    | with_reducible apply r2
    | with_reducible apply r3
    | with_reducible apply r4
    | with_reducible apply RunRes.ite
    | with_reducible apply ite_run
    | with_reducible apply RunRes.next
    | split
    | with_reducible apply run_upd_meas u0
    | dsimp only
    | intro _ _

theorem execPortTrainingRetry_run {f K s0} (hf : 68719476736 ||| f = f)
    (hK : ∀ x, x ∈ ([] : List Nat) → x ∈ K) {s x0 x1}
    (h : Run f K s0 s) : RunRes f K s0 (execPortTrainingRetry x0 x1 s) := by
  have r1 := @setPort_run f K s0 (orr hf rfl) (sbk hK rfl)
  unfold execPortTrainingRetry
  repeat' first
    | with_reducible assumption
    | with_reducible apply r1
    | with_reducible apply RunRes.ite
    | with_reducible apply ite_run
    | with_reducible apply RunRes.next
    | split
    | dsimp only
    | intro _ _

theorem execDataFlit_run {f K s0} (hf : 35253091565568 ||| f = f)
    (hK : ∀ x, x ∈ ([0x700201, 0x700202, 0x700203, 0x700204, 0x700205, 0x700207, 0x700208] : List Nat) → x ∈ K) {s x0 x1 x2 x3}
    (h : Run f K s0 s) : RunRes f K s0 (execDataFlit x0 x1 x2 x3 s) := by
  have r1 := @setPort_run f K s0 (orr hf rfl) (sbk hK rfl)
  have r2 := @receive_run f K s0 (orr hf rfl) (sbk hK rfl)
  have r3 := @acknowledge_run f K s0 (orr hf rfl) (sbk hK rfl)
  have r4 := @discardFlit_run f K s0 (orr hf rfl) (sbk hK rfl)
  have r5 := @sendIdle_run f K s0 (orr hf rfl) (sbk hK rfl)
  have r6 := @forward_run f K s0 (orr hf rfl) (sbk hK rfl)
  have r7 := @deliver_run f K s0 (orr hf rfl) (sbk hK rfl)
  have j0 := sbk (a := [PD.FLITS_NO_ROUTE]) hK rfl
  unfold execDataFlit
  repeat' first
    | with_reducible assumption
    | with_reducible apply bump_run j0
    | with_reducible apply r1
    | with_reducible apply r3
    | with_reducible apply r4
    | with_reducible apply r5
    | with_reducible apply r6
    | with_reducible apply r7
    | with_reducible apply RunRes.ite
    | with_reducible apply ite_run
    | with_reducible apply RunRes.next
    | with_reducible apply run_of_snd (by with_reducible assumption)
    | with_reducible apply getD_run
    | with_reducible apply r2
    | split
    | dsimp only
    | intro _ _

theorem execDiscoveryRestart_run {f K s0} (hf : 35665408425984 ||| f = f)
    (hK : ∀ x, x ∈ ([0x700103] : List Nat) → x ∈ K) {s}
    (h : Run f K s0 s) : RunRes f K s0 (execDiscoveryRestart s) := by
  have r1 := @discover_run f K s0 (orr hf rfl) (sbk hK rfl)
  unfold execDiscoveryRestart
  repeat' first
    | with_reducible assumption
    | with_reducible apply r1
    | with_reducible apply RunRes.ite
    | with_reducible apply ite_run
    | with_reducible apply RunRes.next
    | split
    | dsimp only
    | intro _ _

theorem execSetFlashWrite_run {f K s0} (hf : 4406637494272 ||| f = f)
    (hK : ∀ x, x ∈ ([0xA01003] : List Nat) → x ∈ K) {s x0 x1}
    (h : Run f K s0 s) : RunRes f K s0 (execSetFlashWrite x0 x1 s) := by
  have r1 := @grant_run f K s0 (orr hf rfl) (sbk hK rfl)
  have r2 := @request_run f K s0 (orr hf rfl) (sbk hK rfl)
  have cm := orr (a := 8589934592) hf rfl
  have u0 := orr (a := 1048576) hf rfl
  unfold execSetFlashWrite
  repeat' first
    | with_reducible assumption
    | with_reducible apply write_run cm
    | with_reducible apply r2
    | with_reducible apply RunRes.ite
    | with_reducible apply ite_run
    | with_reducible apply RunRes.next
    | with_reducible apply run_of_snd (by with_reducible assumption)
    | with_reducible apply r1
    | split
    | with_reducible apply run_upd_cal u0
    | dsimp only
    | intro _ _

theorem execPmbXfer_run {f K s0} (hf : 36283883716608 ||| f = f)
    (hK : ∀ x, x ∈ ([0x902004, 0x902005] : List Nat) → x ∈ K) {s x0 x1}
    (h : Run f K s0 s) : RunRes f K s0 (execPmbXfer x0 x1 s) := by
  have r1 := @pmbStart_run f K s0 (orr hf rfl) (sbk hK rfl)
  have r2 := @setPmb_run f K s0 (orr hf rfl) (sbk hK rfl)
  have r3 := @pmbResult_run f K s0 (orr hf rfl) (sbk hK rfl)
  have j0 := sbk (a := [PD.PMB_ERRORS]) hK rfl
  have u0 := orr (a := 1099511627776) hf rfl
  unfold execPmbXfer
  repeat' first
    | with_reducible assumption
    | with_reducible apply bump_run j0
    | with_reducible apply r1
    | with_reducible apply r2
    | with_reducible apply r3
    | with_reducible apply RunRes.ite
    | with_reducible apply ite_run
    | with_reducible apply RunRes.next
    | (with_reducible apply each_run; intro _ _ _)
    | split
    | with_reducible apply run_upd_meas u0
    | dsimp only
    | intro _ _

theorem execIdentityFlit_run {f K s0} (hf : 40067199190721 ||| f = f)
    (hK : ∀ x, x ∈ ([0x600002, 0x600003, 0x600004, 0x600007, 0x600203, 0x700103, 0x700201, 0x700202, 0x700203, 0x700204, 0x700205, 0x70020A,
       0x70020B, 0xA10001, 0xA10006] : List Nat) → x ∈ K) {s x0 x1 x2 x3}
    (h : Run f K s0 s) : RunRes f K s0 (execIdentityFlit x0 x1 x2 x3 s) := by
  have r1 := @receive_run f K s0 (orr hf rfl) (sbk hK rfl)
  have r2 := @identified_run f K s0 (orr hf rfl) (sbk hK rfl)
  have r3 := @acknowledge_run f K s0 (orr hf rfl) (sbk hK rfl)
  unfold execIdentityFlit
  repeat' first
    | with_reducible assumption
    | with_reducible apply r2
    | with_reducible apply r3
    | with_reducible apply RunRes.ite
    | with_reducible apply ite_run
    | with_reducible apply RunRes.next
    | with_reducible apply run_of_snd (by with_reducible assumption)
    | with_reducible apply r1
    | split
    | dsimp only
    | intro _ _

theorem execReassemblyTimeout_run {f K s0} (hf : 68719476736 ||| f = f)
    (hK : ∀ x, x ∈ ([0x700209] : List Nat) → x ∈ K) {s x0 x1 x2 x3 x4}
    (h : Run f K s0 s) : RunRes f K s0 (execReassemblyTimeout x0 x1 x2 x3 x4 s) := by
  have j0 := sbk (a := [PD.MSG_REASSEMBLY_DROPS]) hK rfl
  have u0 := orr (a := 68719476736) hf rfl
  unfold execReassemblyTimeout
  repeat' first
    | with_reducible assumption
    | with_reducible apply bump_run j0
    | with_reducible apply RunRes.ite
    | with_reducible apply ite_run
    | with_reducible apply RunRes.next
    | split
    | with_reducible apply run_upd_link u0
    | dsimp only
    | intro _ _

theorem execWrap_run {f K s0} (hf : 36283883716864 ||| f = f)
    (hK : ∀ x, x ∈ ([] : List Nat) → x ∈ K) {s}
    (h : Run f K s0 s) : RunRes f K s0 (execWrap s) := by
  have r1 := @advanceTo_run f K s0 (orr hf rfl) (sbk hK rfl)
  unfold execWrap
  repeat' first
    | with_reducible assumption
    | with_reducible apply r1
    | with_reducible apply RunRes.ite
    | with_reducible apply ite_run
    | with_reducible apply RunRes.next
    | split
    | dsimp only
    | intro _ _

theorem execCourseMasterFrame_run {f K s0} (hf : 111535456044993 ||| f = f)
    (hK : ∀ x, x ∈ ([0x201003, 0x201005, 0x201006, 0x201007, 0x201101, 0x201105, 0x201106, 0x201108, 0x202003, 0x600002, 0x600003, 0x600004,
       0x600007, 0x600203, 0xA10001, 0xA10006, 0xB01006] : List Nat) → x ∈ K) {s}
    (h : Run f K s0 s) : RunRes f K s0 (execCourseMasterFrame s) := by
  have r1 := @runTo_run f K s0 (orr hf rfl) (sbk hK rfl)
  have r2 := @acceptFrame_run f K s0 (orr hf rfl) (sbk hK rfl)
  have r3 := @emit_run f K s0 (orr hf rfl) (sbk hK rfl)
  have u0 := orr (a := 256) hf rfl
  unfold execCourseMasterFrame
  repeat' first
    | with_reducible assumption
    | with_reducible apply r1
    | with_reducible apply r2
    | with_reducible apply r3
    | with_reducible apply RunRes.ite
    | with_reducible apply ite_run
    | with_reducible apply RunRes.next
    | split
    | with_reducible apply run_upd_course u0
    | dsimp only
    | intro _ _

theorem execSamplingGroupDone_run {f K s0} (hf : 40681931276544 ||| f = f)
    (hK : ∀ x, x ∈ ([0x900204, 0x900206, 0xA01003] : List Nat) → x ∈ K) {s x0 x1}
    (h : Run f K s0 s) : RunRes f K s0 (execSamplingGroupDone x0 x1 s) := by
  have r1 := @startWaiting_run f K s0 (orr hf rfl) (sbk hK rfl)
  have r2 := @takeRound_run f K s0 (orr hf rfl) (sbk hK rfl)
  have r3 := @runTo_run f K s0 (orr hf rfl) (sbk hK rfl)
  have r4 := @calWhenIdle_run f K s0 (orr hf rfl) (sbk hK rfl)
  have u0 := orr (a := 1099511627776) hf rfl
  unfold execSamplingGroupDone
  repeat' first
    | with_reducible assumption
    | with_reducible apply r1
    | with_reducible apply r2
    | with_reducible apply r3
    | with_reducible apply r4
    | with_reducible apply RunRes.ite
    | with_reducible apply ite_run
    | with_reducible apply RunRes.next
    | (with_reducible apply each_run; intro _ _ _)
    | with_reducible apply getD_run
    | split
    | with_reducible apply run_upd_meas u0
    | dsimp only
    | intro _ _

theorem execMeasurementTrigger_run {f K s0} (hf : 36283883717376 ||| f = f)
    (hK : ∀ x, x ∈ ([0x900202, 0x900203] : List Nat) → x ∈ K) {s}
    (h : Run f K s0 s) : RunRes f K s0 (execMeasurementTrigger s) := by
  have r1 := @fire_run f K s0 (orr hf rfl) (sbk hK rfl)
  have r2 := @triggerAll_run f K s0 (orr hf rfl) (sbk hK rfl)
  unfold execMeasurementTrigger
  repeat' first
    | with_reducible assumption
    | with_reducible apply r2
    | with_reducible apply RunRes.next
    | with_reducible apply run_of_some (by with_reducible assumption)
    | with_reducible apply run_of_some_snd (by with_reducible assumption)
    | with_reducible apply r1
    | split
    | dsimp only
    | intro _ _

theorem execPortTraining_run {f K s0} (hf : 35253091565568 ||| f = f)
    (hK : ∀ x, x ∈ ([] : List Nat) → x ∈ K) {s x0 x1}
    (h : Run f K s0 s) : RunRes f K s0 (execPortTraining x0 x1 s) := by
  have r1 := @setPort_run f K s0 (orr hf rfl) (sbk hK rfl)
  have r2 := @sendIdentity_run f K s0 (orr hf rfl) (sbk hK rfl)
  unfold execPortTraining
  repeat' first
    | with_reducible assumption
    | with_reducible apply r1
    | with_reducible apply r2
    | with_reducible apply RunRes.ite
    | with_reducible apply ite_run
    | with_reducible apply RunRes.next
    | split
    | dsimp only
    | intro _ _

theorem execCalibrationTableSwap_run {f K s0} (hf : 36283884765952 ||| f = f)
    (hK : ∀ x, x ∈ ([0x411002, 0x411003, 0x411005] : List Nat) → x ∈ K) {s}
    (h : Run f K s0 s) : RunRes f K s0 (execCalibrationTableSwap s) := by
  have r1 := @fire_run f K s0 (orr hf rfl) (sbk hK rfl)
  have r2 := @swapBanks_run f K s0 (orr hf rfl) (sbk hK rfl)
  unfold execCalibrationTableSwap
  repeat' first
    | with_reducible assumption
    | with_reducible apply r2
    | with_reducible apply RunRes.ite
    | with_reducible apply ite_run
    | with_reducible apply RunRes.next
    | with_reducible apply run_of_some (by with_reducible assumption)
    | with_reducible apply run_of_some_snd (by with_reducible assumption)
    | with_reducible apply r1
    | split
    | dsimp only
    | intro _ _

theorem execIdentityResend_run {f K s0} (hf : 35184372088832 ||| f = f)
    (hK : ∀ x, x ∈ ([] : List Nat) → x ∈ K) {s x0}
    (h : Run f K s0 s) : RunRes f K s0 (execIdentityResend x0 s) := by
  have r1 := @sendIdentity_run f K s0 (orr hf rfl) (sbk hK rfl)
  unfold execIdentityResend
  repeat' first
    | with_reducible assumption
    | with_reducible apply r1
    | with_reducible apply RunRes.ite
    | with_reducible apply ite_run
    | with_reducible apply RunRes.next
    | split
    | dsimp only
    | intro _ _

theorem execCalRunPattern_run {f K s0} (hf : 39994736771265 ||| f = f)
    (hK : ∀ x, x ∈ ([0x410102, 0x41100A] : List Nat) → x ∈ K) {s}
    (h : Run f K s0 s) : RunRes f K s0 (execCalRunPattern s) := by
  have r1 := @calRun_run f K s0 (orr hf rfl) (sbk hK rfl)
  unfold execCalRunPattern
  repeat' first
    | with_reducible assumption
    | with_reducible apply r1
    | with_reducible apply RunRes.next
    | split
    | dsimp only
    | intro _ _

theorem execCalibrationWave_run {f K s0} (hf : 40067200247489 ||| f = f)
    (hK : ∀ x, x ∈ ([0x320104, 0x40100D, 0x401101, 0x41100A, 0x507003, 0x600002, 0x600003, 0x600004, 0x600007, 0x600203, 0xA10001, 0xA10006] : List Nat) → x ∈ K) {s x0 x1}
    (h : Run f K s0 s) : RunRes f K s0 (execCalibrationWave x0 x1 s) := by
  have r1 := @calibrateCell_run f K s0 (orr hf rfl) (sbk hK rfl)
  have r2 := @readT16_run f K s0 (orr hf rfl) (sbk hK rfl)
  have u0 := orr (a := 1048576) hf rfl
  unfold execCalibrationWave
  repeat' first
    | with_reducible assumption
    | with_reducible apply r1
    | with_reducible apply r2
    | with_reducible apply RunRes.ite
    | with_reducible apply ite_run
    | with_reducible apply RunRes.next
    | (with_reducible apply each_run; intro _ _ _)
    | split
    | with_reducible apply run_upd_cal u0
    | dsimp only
    | intro _ _

theorem execDiscoveryWindowEnd_run {f K s0} (hf : 35665408425984 ||| f = f)
    (hK : ∀ x, x ∈ ([0x700103] : List Nat) → x ∈ K) {s}
    (h : Run f K s0 s) : RunRes f K s0 (execDiscoveryWindowEnd s) := by
  have r1 := @decideRun_run f K s0 (orr hf rfl) (sbk hK rfl)
  unfold execDiscoveryWindowEnd
  repeat' first
    | with_reducible assumption
    | with_reducible apply r1
    | with_reducible apply RunRes.ite
    | with_reducible apply ite_run
    | with_reducible apply RunRes.next
    | split
    | dsimp only
    | intro _ _

theorem execTachStall_run {f K s0} (hf : 1099511627776 ||| f = f)
    (hK : ∀ x, x ∈ ([] : List Nat) → x ∈ K) {s x0}
    (h : Run f K s0 s) : RunRes f K s0 (execTachStall x0 s) := by
  have r1 := @setTach_run f K s0 (orr hf rfl) (sbk hK rfl)
  unfold execTachStall
  repeat' first
    | with_reducible assumption
    | with_reducible apply r1
    | with_reducible apply RunRes.ite
    | with_reducible apply ite_run
    | with_reducible apply RunRes.next
    | split
    | dsimp only
    | intro _ _

theorem execUpdImageSave_run {f K s0} (hf : 35602057658368 ||| f = f)
    (hK : ∀ x, x ∈ ([0x120103, 0x620103] : List Nat) → x ∈ K) {s}
    (h : Run f K s0 s) : RunRes f K s0 (execUpdImageSave s) := by
  have r1 := @imageSave_run f K s0 (orr hf rfl) (sbk hK rfl)
  unfold execUpdImageSave
  repeat' first
    | with_reducible assumption
    | with_reducible apply r1
    | with_reducible apply RunRes.next
    | split
    | dsimp only
    | intro _ _

theorem execAdcTrigger_run {f K s0} (hf : 1099511627776 ||| f = f)
    (hK : ∀ x, x ∈ ([0x900103, 0x900202, 0x900203] : List Nat) → x ∈ K) {s x0}
    (h : Run f K s0 s) : RunRes f K s0 (execAdcTrigger x0 s) := by
  have r1 := @adcTrigger_run f K s0 (orr hf rfl) (sbk hK rfl)
  unfold execAdcTrigger
  repeat' first
    | with_reducible assumption
    | with_reducible apply r1
    | with_reducible apply RunRes.next
    | split
    | dsimp only
    | intro _ _

theorem execLevelTick_run {f K s0} (hf : 1099511627776 ||| f = f)
    (hK : ∀ x, x ∈ ([0x900202, 0x900203] : List Nat) → x ∈ K) {s}
    (h : Run f K s0 s) : RunRes f K s0 (execLevelTick s) := by
  have r1 := @triggerAll_run f K s0 (orr hf rfl) (sbk hK rfl)
  have u0 := orr (a := 1099511627776) hf rfl
  unfold execLevelTick
  repeat' first
    | with_reducible assumption
    | with_reducible apply r1
    | with_reducible apply RunRes.ite
    | with_reducible apply ite_run
    | with_reducible apply RunRes.next
    | split
    | with_reducible apply run_upd_meas u0
    | dsimp only
    | intro _ _

theorem execThrottleIn_run {f K s0} (hf : 36696200577024 ||| f = f)
    (hK : ∀ x, x ∈ ([0x900202, 0x900203] : List Nat) → x ∈ K) {s x0}
    (h : Run f K s0 s) : RunRes f K s0 (execThrottleIn x0 s) := by
  have r1 := @cause_run f K s0 (orr hf rfl) (sbk hK rfl)
  have r2 := @triggerKind_run f K s0 (orr hf rfl) (sbk hK rfl)
  have u0 := orr (a := 1099511627776) hf rfl
  unfold execThrottleIn
  repeat' first
    | with_reducible assumption
    | with_reducible apply r1
    | with_reducible apply r2
    | with_reducible apply RunRes.ite
    | with_reducible apply ite_run
    | with_reducible apply RunRes.next
    | split
    | with_reducible apply run_upd_meas u0
    | dsimp only
    | intro _ _

theorem execLevelTickLate_run {f K s0} (hf : 49962803840705 ||| f = f)
    (hK : ∀ x, x ∈ ([0x600002, 0x600003, 0x600004, 0x600007, 0x600203, 0x900202, 0x900203, 0x903101, 0x903103, 0x903104, 0x903106, 0xA10001,
       0xA10006] : List Nat) → x ∈ K) {s}
    (h : Run f K s0 s) : RunRes f K s0 (execLevelTickLate s) := by
  have r1 := @throttleOut_run f K s0 (orr hf rfl) (sbk hK rfl)
  have r2 := @alarmTick_run f K s0 (orr hf rfl) (sbk hK rfl)
  have j0 := sbk (a := [PD.LEVEL_TICKS_LATE]) hK rfl
  have j1 := sbk (a := [PD.LEVEL_THROTTLE_TICKS]) hK rfl
  have u0 := orr (a := 1099511627776) hf rfl
  unfold execLevelTickLate
  repeat' first
    | with_reducible assumption
    | with_reducible apply bump_run j0
    | with_reducible apply bump_run j1
    | with_reducible apply r1
    | with_reducible apply r2
    | with_reducible apply RunRes.ite
    | with_reducible apply ite_run
    | with_reducible apply RunRes.next
    | split
    | with_reducible apply run_upd_meas u0
    | dsimp only
    | intro _ _

theorem execTimerExpiry_run {f K s0} (hf : 36283883716864 ||| f = f)
    (hK : ∀ x, x ∈ ([0x900202, 0x900203] : List Nat) → x ∈ K) {s x0}
    (h : Run f K s0 s) : RunRes f K s0 (execTimerExpiry x0 s) := by
  have r1 := @runTo_run f K s0 (orr hf rfl) (sbk hK rfl)
  have r2 := @triggerAll_run f K s0 (orr hf rfl) (sbk hK rfl)
  have u0 := orr (a := 1099511627776) hf rfl
  unfold execTimerExpiry
  repeat' first
    | with_reducible assumption
    | with_reducible apply r1
    | with_reducible apply r2
    | with_reducible apply RunRes.ite
    | with_reducible apply ite_run
    | with_reducible apply RunRes.next
    | with_reducible apply getD_run
    | split
    | with_reducible apply run_upd_meas u0
    | dsimp only
    | intro _ _

end Sys2Proof.Machine
end

