-- ==== Sys2Proof/Laws/RunHost.lean ====
section
/-! SUPPORT. Laws/RunHost.lean: what the operations and the commands may change, and that they keep the canonical forms and the pins
(Laws/Run.lean): restart, firmware, the vote, configuration, freeze, the host interface, memory, PDX, reports, SGMII and start-up. -/
namespace Sys2Proof.Machine

set_option linter.unusedVariables false

theorem clearScratch_run {f K s0} (hf : 8589934592 ||| f = f)
    (hK : ∀ x, x ∈ ([] : List Nat) → x ∈ K) {s}
    (h : Run f K s0 s) : Run f K s0 (State.clearScratch s) := by
  have cm := orr (a := 8589934592) hf rfl
  unfold State.clearScratch
  repeat' first
    | with_reducible assumption
    | with_reducible apply clearStore_run cm
    | (with_reducible apply each_run; intro _ _ _)
    | split
    | dsimp only
    | intro _ _

theorem loseHistory_run {f K s0} (hf : 35913728 ||| f = f)
    (hK : ∀ x, x ∈ ([] : List Nat) → x ∈ K) {s}
    (h : Run f K s0 s) : Run f K s0 (State.loseHistory s) := by
  have u0 := orr (a := 35913728) hf rfl
  unfold State.loseHistory
  repeat' first
    | with_reducible assumption
    | split
    | with_reducible apply run_upd_arrays_layers_jointModes u0
    | dsimp only
    | intro _ _

theorem warmRestart_run {f K s0} (hf : 38423887611841 ||| f = f)
    (hK : ∀ x, x ∈ ([0x202003, 0x210202, 0x600003, 0x600004] : List Nat) → x ∈ K) {s}
    (h : Run f K s0 s) : Run f K s0 (State.warmRestart s) := by
  have r1 := @dropPorts_run f K s0 (orr hf rfl) (sbk hK rfl)
  have r2 := @endAttempt_run f K s0 (orr hf rfl) (sbk hK rfl)
  have r3 := @clearScratch_run f K s0 (orr hf rfl) (sbk hK rfl)
  have r4 := @loseHistory_run f K s0 (orr hf rfl) (sbk hK rfl)
  have r5 := @pauseStreams_run f K s0 (orr hf rfl) (sbk hK rfl)
  have r6 := @courseRestart_run f K s0 (orr hf rfl) (sbk hK rfl)
  have r7 := @enter_run f K s0 (orr hf rfl) (sbk hK rfl)
  have r8 := @stopArrays_run f K s0 (orr hf rfl) (sbk hK rfl)
  have j0 := sbk (a := [PD.RESET_CAUSE]) hK rfl
  have u0 := orr (a := 2817499332608) hf rfl
  have u1 := orr (a := 256) hf rfl
  have u2 := orr (a := 512) hf rfl
  unfold State.warmRestart
  repeat' first
    | with_reducible assumption
    | with_reducible apply setNum_run j0
    | with_reducible apply r1
    | with_reducible apply r2
    | with_reducible apply r3
    | with_reducible apply r4
    | with_reducible apply r5
    | with_reducible apply r6
    | with_reducible apply r7
    | with_reducible apply r8
    | with_reducible apply ite_run
    | split
    | with_reducible apply run_upd_arrays_cells_link_dict_clk u0
    | with_reducible apply run_upd_course u1
    | with_reducible apply run_upd_events u2
    | dsimp only
    | intro _ _

theorem activate_run {f K s0} (hf : 130782864345025 ||| f = f)
    (hK : ∀ x, x ∈ ([0x202003, 0x210202, 0x600003, 0x600004, 0xA10001, 0xA10006, 0xB00004, 0xB01005, 0xB01006, 0xB01101] : List Nat) → x ∈ K) {s}
    (h : Run f K s0 s) : Run f K s0 (State.activate s) := by
  have r1 := @warmRestart_run f K s0 (orr hf rfl) (sbk hK rfl)
  have r2 := @fwSpall_run f K s0 (orr hf rfl) (sbk hK rfl)
  have j0 := sbk (a := [PD.FW_ROLLBACK_MIN]) hK rfl
  have j1 := sbk (a := [PD.FW_STAGE_STATE]) hK rfl
  have j2 := sbk (a := [PD.FW_RESULT]) hK rfl
  have j3 := sbk (a := [PD.FW_ACTIVATIONS]) hK rfl
  have u0 := orr (a := 17592186044416) hf rfl
  unfold State.activate
  repeat' first
    | with_reducible assumption
    | with_reducible apply bump_run j3
    | with_reducible apply setNum_run j0
    | with_reducible apply setNum_run j1
    | with_reducible apply setNum_run j2
    | with_reducible apply r1
    | with_reducible apply r2
    | split
    | with_reducible apply run_upd_fw u0
    | dsimp only
    | intro _ _

theorem freezeNow_run {f K s0} (hf : 44392781971905 ||| f = f)
    (hK : ∀ x, x ∈ ([0x201108, 0xA20006] : List Nat) → x ∈ K) {s x1}
    (h : Run f K s0 s) : Run f K s0 (State.freezeNow s x1) := by
  have r1 := @enter_run f K s0 (orr hf rfl) (sbk hK rfl)
  have j0 := sbk (a := [PD.COURSE_LOST_ENTRIES]) hK rfl
  have j1 := sbk (a := [PD.FREEZE_COUNT]) hK rfl
  have u0 := orr (a := 8796093022464) hf rfl
  unfold State.freezeNow
  repeat' first
    | with_reducible assumption
    | with_reducible apply bump_run j0
    | with_reducible apply bump_run j1
    | with_reducible apply r1
    | split
    | with_reducible apply run_upd_course_freeze u0
    | dsimp only
    | intro _ _

theorem freezeRequest_run {f K s0} (hf : 44392781971905 ||| f = f)
    (hK : ∀ x, x ∈ ([0x201108, 0xA20006, 0xA20007] : List Nat) → x ∈ K) {s x1}
    (h : Run f K s0 s) : Run f K s0 (State.freezeRequest s x1) := by
  have r1 := @freezeNow_run f K s0 (orr hf rfl) (sbk hK rfl)
  have j0 := sbk (a := [PD.FREEZE_IGNORED]) hK rfl
  unfold State.freezeRequest
  repeat' first
    | with_reducible assumption
    | with_reducible apply bump_run j0
    | with_reducible apply r1
    | with_reducible apply ite_run
    | split
    | dsimp only
    | intro _ _

theorem freezeByCommand_run {f K s0} (hf : 44392781971905 ||| f = f)
    (hK : ∀ x, x ∈ ([0x201108, 0xA20006, 0xA20007] : List Nat) → x ∈ K) {s}
    (h : Run f K s0 s) : Run f K s0 (State.freezeByCommand s) := by
  have r1 := @freezeRequest_run f K s0 (orr hf rfl) (sbk hK rfl)
  have j0 := sbk (a := [PD.FREEZE_IGNORED]) hK rfl
  unfold State.freezeByCommand
  repeat' first
    | with_reducible assumption
    | with_reducible apply bump_run j0
    | with_reducible apply r1
    | with_reducible apply ite_run
    | split
    | dsimp only
    | intro _ _

theorem freezeWhenSent_run {f K s0} (hf : 44942537785793 ||| f = f)
    (hK : ∀ x, x ∈ ([0x201108, 0xA20006, 0xA20007] : List Nat) → x ∈ K) {s}
    (h : Run f K s0 s) : Run f K s0 (State.freezeWhenSent s) := by
  have r1 := @freezeByCommand_run f K s0 (orr hf rfl) (sbk hK rfl)
  have u0 := orr (a := 549755813888) hf rfl
  unfold State.freezeWhenSent
  repeat' first
    | with_reducible assumption
    | with_reducible apply r1
    | with_reducible apply ite_run
    | split
    | with_reducible apply run_upd_dict u0
    | dsimp only
    | intro _ _

theorem respond_run {f K s0} (hf : 35802847379456 ||| f = f)
    (hK : ∀ x, x ∈ ([0x700208] : List Nat) → x ∈ K) {s x1 x2 x3}
    (h : Run f K s0 s) : Run f K s0 (State.respond s x1 x2 x3) := by
  have r1 := @send_run f K s0 (orr hf rfl) (sbk hK rfl)
  have r2 := @emit_run f K s0 (orr hf rfl) (sbk hK rfl)
  have u0 := orr (a := 549755813888) hf rfl
  unfold State.respond
  repeat' first
    | with_reducible assumption
    | with_reducible apply r1
    | with_reducible apply r2
    | with_reducible apply ite_run
    | split
    | with_reducible apply run_upd_dict u0
    | dsimp only
    | intro _ _

theorem answer_run {f K s0} (hf : 45011257262529 ||| f = f)
    (hK : ∀ x, x ∈ ([0x201108, 0x700208, 0xA20006, 0xA20007, 0xB20101, 0xB20103] : List Nat) → x ∈ K) {s x1 x2 x3 x4 x5 x6}
    (h : Run f K s0 s) : Run f K s0 (State.answer s x1 x2 x3 x4 x5 x6) := by
  have r1 := @freezeWhenSent_run f K s0 (orr hf rfl) (sbk hK rfl)
  have r2 := @respond_run f K s0 (orr hf rfl) (sbk hK rfl)
  have j0 := sbk (a := [PD.PDX_FRAMES]) hK rfl
  have j1 := sbk (a := [PD.PDX_BAD_FRAMES]) hK rfl
  unfold State.answer
  repeat' first
    | with_reducible assumption
    | with_reducible apply bump_run j0
    | with_reducible apply bump_run j1
    | with_reducible apply r1
    | with_reducible apply r2
    | with_reducible apply ite_run
    | split
    | dsimp only
    | intro _ _

theorem commitRung_run {f K s0} (hf : 4297080832 ||| f = f)
    (hK : ∀ x, x ∈ ([0x502103] : List Nat) → x ∈ K) {s x1 x2}
    (h : Run f K s0 s) : Run f K s0 (State.commitRung s x1 x2) := by
  have r1 := @setLayerNum_run f K s0 (orr hf rfl) (sbk hK rfl)
  have j0 := sbk (a := [PD.NARROWINGS]) hK rfl
  have u0 := orr (a := 4294983680) hf rfl
  unfold State.commitRung
  repeat' first
    | with_reducible assumption
    | with_reducible apply bump_run j0
    | with_reducible apply r1
    | with_reducible apply ite_run
    | with_reducible apply getD_run
    | split
    | with_reducible apply run_upd_triggers_upd u0
    | dsimp only
    | intro _ _

theorem commitLayer_run {f K s0} (hf : 4297080832 ||| f = f)
    (hK : ∀ x, x ∈ ([0x502103, 0x504102] : List Nat) → x ∈ K) {s x1 x2}
    (h : Run f K s0 s) : Run f K s0 (State.commitLayer s x1 x2) := by
  have r1 := @setLayerNum_run f K s0 (orr hf rfl) (sbk hK rfl)
  have r2 := @commitRung_run f K s0 (orr hf rfl) (sbk hK rfl)
  have j0 := sbk (a := [PD.GAUGE_CHANGES]) hK rfl
  unfold State.commitLayer
  repeat' first
    | with_reducible assumption
    | with_reducible apply bump_run j0
    | with_reducible apply r1
    | with_reducible apply r2
    | with_reducible apply ite_run
    | split
    | dsimp only
    | intro _ _

theorem commitNumerics_run {f K s0} (hf : 4347674624 ||| f = f)
    (hK : ∀ x, x ∈ ([0x320103, 0x501103, 0x502103, 0x504102, 0x508105] : List Nat) → x ∈ K) {s}
    (h : Run f K s0 s) : Run f K s0 (State.commitNumerics s) := by
  have r1 := @commitLayer_run f K s0 (orr hf rfl) (sbk hK rfl)
  have j2 := sbk (a := [PD.GROUT_FLAGGED]) hK rfl
  have j0 := sbk (a := [PD.DENSE_SWITCHES]) hK rfl
  have j1 := sbk (a := [PD.JOINT_SWITCHES]) hK rfl
  have u0 := orr (a := 50593792) hf rfl
  unfold State.commitNumerics
  repeat' first
    | with_reducible assumption
    | with_reducible apply bumpBy_run j0
    | with_reducible apply bumpBy_run j1
    | with_reducible apply setNum_run j2
    | with_reducible apply r1
    | (with_reducible apply each_run; intro _ _ _)
    | with_reducible apply RunOpt.map
    | with_reducible apply getD_run
    | split
    | with_reducible apply run_upd_arrays_storm_jointModes u0
    | dsimp only
    | intro _ _

theorem patchPhase_run {f K s0} (hf : 1073741824 ||| f = f)
    (hK : ∀ x, x ∈ ([] : List Nat) → x ∈ K) {s x1 x2 x3}
    (h : Run f K s0 s) : Run f K s0 (State.patchPhase s x1 x2 x3) := by
  have u0 := orr (a := 1073741824) hf rfl
  unfold State.patchPhase
  repeat' first
    | with_reducible assumption
    | with_reducible apply ite_run
    | with_reducible apply getD_run
    | split
    | with_reducible apply run_upd_step u0
    | dsimp only
    | intro _ _

theorem commitRow_run {f K s0} (hf : 1073741824 ||| f = f)
    (hK : ∀ x, x ∈ ([] : List Nat) → x ∈ K) {s x1}
    (h : Run f K s0 s) : Run f K s0 (State.commitRow s x1) := by
  have r1 := @patchPhase_run f K s0 (orr hf rfl) (sbk hK rfl)
  have u0 := orr (a := 1073741824) hf rfl
  unfold State.commitRow
  repeat' first
    | with_reducible assumption
    | with_reducible apply r1
    | split
    | with_reducible apply run_upd_step u0
    | dsimp only
    | intro _ _

theorem beginUpdate_run {f K s0} (hf : 3691298816 ||| f = f)
    (hK : ∀ x, x ∈ ([] : List Nat) → x ∈ K) {s}
    (h : Run f K s0 s) : Run f K s0 (State.beginUpdate s) := by
  have u0 := orr (a := 2617507840) hf rfl
  have u1 := orr (a := 1073790976) hf rfl
  unfold State.beginUpdate
  repeat' first
    | with_reducible assumption
    | split
    | with_reducible apply run_upd_arrays_jointParts_jointWaits_backward_exch u0
    | with_reducible apply run_upd_triggers_placeDue_step u1
    | dsimp only
    | intro _ _

theorem awaitGather_run {f K s0} (hf : 17595407270400 ||| f = f)
    (hK : ∀ x, x ∈ ([0x202003] : List Nat) → x ∈ K) {s x1}
    (h : Run f K s0 s) : Run f K s0 (State.awaitGather s x1) := by
  have r1 := @deadline_run f K s0 (orr hf rfl) (sbk hK rfl)
  have u0 := orr (a := 17594333528064) hf rfl
  unfold State.awaitGather
  repeat' first
    | with_reducible assumption
    | with_reducible apply r1
    | with_reducible apply ite_run
    | split
    | with_reducible apply run_upd_exch_fw u0
    | dsimp only
    | intro _ _

theorem applyWaiting_run {f K s0} (hf : 9223408183299538944 ||| f = f)
    (hK : ∀ x, x ∈ ([0x100102] : List Nat) → x ∈ K) {s}
    (h : Run f K s0 s) : Run f K s0 (State.applyWaiting s) := by
  have cany := orr (a := 2 ^ 63) hf rfl
  have j0 := sbk (a := [PD.CFG_STATUS]) hK rfl
  have cr := orr (a := 35596688949248) hf rfl
  have u0 := orr (a := 549755813888) hf rfl
  unfold State.applyWaiting
  repeat' first
    | with_reducible assumption
    | with_reducible apply result_run cr j0
    | with_reducible apply pdSet_run j0
    | with_reducible apply pdSet_run_any cany
    | with_reducible apply ite_run
    | (with_reducible apply each_run; intro _ _ _)
    | split
    | with_reducible apply run_upd_dict u0
    | dsimp only
    | intro _ _

theorem commitCounts_run {f K s0} (hf : 1073742336 ||| f = f)
    (hK : ∀ x, x ∈ ([0x600001, 0x600002, 0x600003, 0x600004, 0x600007, 0x600201] : List Nat) → x ∈ K) {s}
    (h : Run f K s0 s) : Run f K s0 (State.commitCounts s) := by
  have r1 := @endAttempt_run f K s0 (orr hf rfl) (sbk hK rfl)
  have j0 := sbk (a := [PD.STEP_NUMBER]) hK rfl
  have j1 := sbk (a := [PD.STEP_ATTEMPT]) hK rfl
  have j2 := sbk (a := [PD.STEP_LAST_DECISION]) hK rfl
  have j3 := sbk (a := [PD.STEPS_COMMITTED]) hK rfl
  unfold State.commitCounts
  repeat' first
    | with_reducible assumption
    | with_reducible apply bump_run j3
    | with_reducible apply setNum_run j0
    | with_reducible apply setNum_run j1
    | with_reducible apply setNum_run j2
    | with_reducible apply r1
    | split
    | dsimp only
    | intro _ _

theorem applyCommit_run {f K s0} (hf : 9223430181571838464 ||| f = f)
    (hK : ∀ x, x ∈ ([0x100102, 0x202003, 0x320103, 0x411004, 0x411008, 0x501103, 0x502103, 0x504102, 0x508105, 0x600001, 0x600002, 0x600003, 0x600004,
       0x600007, 0x600201, 0x610103, 0x615103, 0x620201, 0x620208, 0xA00107, 0xA01003, 0xA10001, 0xA10006] : List Nat) → x ∈ K) {s x1}
    (h : Run f K s0 s) : Run f K s0 (State.applyCommit s x1) := by
  have r1 := @observe_run f K s0 (orr hf rfl) (sbk hK rfl)
  have r2 := @commitNumerics_run f K s0 (orr hf rfl) (sbk hK rfl)
  have r3 := @closeWindows_run f K s0 (orr hf rfl) (sbk hK rfl)
  have r4 := @commitExchange_run f K s0 (orr hf rfl) (sbk hK rfl)
  have r5 := @adoptRoots_run f K s0 (orr hf rfl) (sbk hK rfl)
  have r6 := @calVerdict_run f K s0 (orr hf rfl) (sbk hK rfl)
  have r7 := @commitRow_run f K s0 (orr hf rfl) (sbk hK rfl)
  have r8 := @beginUpdate_run f K s0 (orr hf rfl) (sbk hK rfl)
  have r9 := @awaitGather_run f K s0 (orr hf rfl) (sbk hK rfl)
  have r10 := @updateAll_run f K s0 (orr hf rfl) (sbk hK rfl)
  have r11 := @applyWaiting_run f K s0 (orr hf rfl) (sbk hK rfl)
  have r12 := @commitCounts_run f K s0 (orr hf rfl) (sbk hK rfl)
  have r13 := @cause_run f K s0 (orr hf rfl) (sbk hK rfl)
  have r14 := @endPhase_run f K s0 (orr hf rfl) (sbk hK rfl)
  unfold State.applyCommit
  repeat' first
    | with_reducible assumption
    | with_reducible apply r1
    | with_reducible apply r2
    | with_reducible apply r3
    | with_reducible apply r4
    | with_reducible apply r5
    | with_reducible apply r6
    | with_reducible apply r7
    | with_reducible apply r8
    | with_reducible apply r9
    | with_reducible apply r10
    | with_reducible apply r11
    | with_reducible apply r12
    | with_reducible apply r13
    | with_reducible apply r14
    | split
    | dsimp only
    | intro _ _

theorem unsilence_run {f K s0} (hf : 35802847379456 ||| f = f)
    (hK : ∀ x, x ∈ ([] : List Nat) → x ∈ K) {s}
    (h : Run f K s0 s) : Run f K s0 (State.unsilence s) := by
  have r1 := @sendWaiting_run f K s0 (orr hf rfl) (sbk hK rfl)
  have u0 := orr (a := 549755813888) hf rfl
  unfold State.unsilence
  repeat' first
    | with_reducible assumption
    | with_reducible apply r1
    | with_reducible apply ite_run
    | (with_reducible apply each_run; intro _ _ _)
    | split
    | with_reducible apply run_upd_dict u0
    | dsimp only
    | intro _ _

theorem requeueGroups_run {f K s0} (hf : 512 ||| f = f)
    (hK : ∀ x, x ∈ ([0x202003] : List Nat) → x ∈ K) {s x1}
    (h : Run f K s0 s) : Run f K s0 (State.requeueGroups s x1) := by
  have r1 := @queueMeasures_run f K s0 (orr hf rfl) (sbk hK rfl)
  have u0 := orr (a := 512) hf rfl
  unfold State.requeueGroups
  repeat' first
    | with_reducible assumption
    | with_reducible apply r1
    | split
    | with_reducible apply run_upd_events u0
    | dsimp only
    | intro _ _

theorem rediscover_run {f K s0} (hf : 35665408425984 ||| f = f)
    (hK : ∀ x, x ∈ ([0x700103] : List Nat) → x ∈ K) {s x1}
    (h : Run f K s0 s) : Run f K s0 (State.rediscover s x1) := by
  have r1 := @decideRun_run f K s0 (orr hf rfl) (sbk hK rfl)
  have r2 := @discover_run f K s0 (orr hf rfl) (sbk hK rfl)
  unfold State.rediscover
  extract_lets -merge changed
  exact ite_run h (ite_run (r1 h) (r2 h))

theorem restartTimers_run {f K s0} (hf : 1099511627776 ||| f = f) {s x1}
    (h : Run f K s0 s) : Run f K s0 (State.restartTimers s x1) := by
  unfold State.restartTimers
  exact run_upd_meas hf h

theorem followConfig_run {f K s0} (hf : 37314675868416 ||| f = f)
    (hK : ∀ x, x ∈ ([0x202003, 0x700103] : List Nat) → x ∈ K) {s x1}
    (h : Run f K s0 s) : Run f K s0 (State.followConfig s x1) := by
  have r1 := @setCourse_run f K s0 (orr hf rfl) (sbk hK rfl)
  have r2 := @unsilence_run f K s0 (orr hf rfl) (sbk hK rfl)
  have r3 := @commitMaster_run f K s0 (orr hf rfl) (sbk hK rfl)
  have r4 := @requeueGroups_run f K s0 (orr hf rfl) (sbk hK rfl)
  have r5 := @hostDuties_run f K s0 (orr hf rfl) (sbk hK rfl)
  have r6 := @rediscover_run f K s0 (orr hf rfl) (sbk hK rfl)
  have r7 := @restartTimers_run f K s0 (orr hf rfl)
  have u0 := orr (a := 256) hf rfl
  have a2 : ∀ t : State, Run f K s0 t → Run f K s0 (if t.course.st = .unlocked then t.setCourse .acquiring else t) :=
    fun t ht => ite_run (r1 ht) ht
  unfold State.followConfig
  extract_lets -merge c6 s6 s7 s8
  have h6 : Run f K s0 s6 := run_upd_course u0 h
  clear_value s6
  have h7 : Run f K s0 s7 := a2 _ h6
  clear_value s7
  have h8 : Run f K s0 s8 := r2 (r4 (r3 h7))
  clear_value s8
  exact r5 (r7 (r6 h8))

theorem applyValues_run {f K s0} (hf : 9223372036854775808 ||| f = f)
    (hK : ∀ x, x ∈ ([] : List Nat) → x ∈ K) {s x1}
    (h : Run f K s0 s) : Run f K s0 (State.applyValues s x1) := by
  have cany := orr (a := 2 ^ 63) hf rfl
  unfold State.applyValues
  repeat' first
    | with_reducible assumption
    | with_reducible apply pdSet_run_any cany
    | (with_reducible apply each_run; intro _ _ _)
    | split
    | dsimp only
    | intro _ _

theorem takeConfig_run {f K s0} (hf : 9223408183299538944 ||| f = f)
    (hK : ∀ x, x ∈ ([0x100102, 0x100103, 0x100105] : List Nat) → x ∈ K) {s}
    (h : Run f K s0 s) : Run f K s0 (State.takeConfig s) := by
  have r1 := @applyValues_run f K s0 (orr hf rfl) (sbk hK rfl)
  have cany := orr (a := 2 ^ 63) hf rfl
  have j0 := sbk (a := [PD.CFG_STATUS]) hK rfl
  have j1 := sbk (a := [PD.CFG_FAULTS]) hK rfl
  have j2 := sbk (a := [PD.CFG_GENERATION]) hK rfl
  have cr := orr (a := 35596688949248) hf rfl
  have u0 := orr (a := 549755813888) hf rfl
  unfold State.takeConfig
  extract_lets -merge cls now later step waits s1 s2 d3 s3 s4
  have h2 : Run f K s0 s2 := by
    show Run f K s0 (if waits = true then s1 else s1.applyValues later)
    exact ite_run (r1 h) (r1 (r1 h))
  clear_value s2
  have h3 : Run f K s0 s3 := run_upd_dict u0 h2
  clear_value s3
  have h4 : Run f K s0 s4 := setNum_run j2 (setRows_run j1 h3)
  clear_value s4
  exact result_run cr j0 h4

theorem applyConfig_run {f K s0} (hf : 9223409351530644224 ||| f = f)
    (hK : ∀ x, x ∈ ([0x100102, 0x100103, 0x100105, 0x202003, 0x700103] : List Nat) → x ∈ K) {s}
    (h : Run f K s0 s) : Run f K s0 (State.applyConfig s) := by
  have r1 := @followConfig_run f K s0 (orr hf rfl) (sbk hK rfl)
  have r2 := @takeConfig_run f K s0 (orr hf rfl) (sbk hK rfl)
  unfold State.applyConfig
  repeat' first
    | with_reducible assumption
    | with_reducible apply r1
    | with_reducible apply r2
    | split
    | dsimp only
    | intro _ _

theorem nextAttempt_run {f K s0} (hf : 1073742336 ||| f = f)
    (hK : ∀ x, x ∈ ([0x202003, 0x600004] : List Nat) → x ∈ K) {s x1}
    (h : Run f K s0 s) : Run f K s0 (State.nextAttempt s x1) := by
  have r1 := @beginAttempt_run f K s0 (orr hf rfl) (sbk hK rfl)
  unfold State.nextAttempt
  repeat' first
    | with_reducible assumption
    | with_reducible apply r1
    | with_reducible apply ite_run
    | split
    | dsimp only
    | intro _ _

theorem applyVoid_run {f K s0} (hf : 40011365664449 ||| f = f)
    (hK : ∀ x, x ∈ ([0x120103, 0x202003, 0x411004, 0x411008, 0x505005, 0x600002, 0x600003, 0x600004, 0x600007, 0x600202, 0x620103, 0xA01003] : List Nat) → x ∈ K) {s x1}
    (h : Run f K s0 s) : Run f K s0 (State.applyVoid s x1) := by
  have r1 := @closeWindows_run f K s0 (orr hf rfl) (sbk hK rfl)
  have r2 := @leaveFor_run f K s0 (orr hf rfl) (sbk hK rfl)
  have r3 := @calVerdict_run f K s0 (orr hf rfl) (sbk hK rfl)
  have r4 := @voidStep_run f K s0 (orr hf rfl) (sbk hK rfl)
  have r5 := @nextAttempt_run f K s0 (orr hf rfl) (sbk hK rfl)
  have r6 := @histDueNow_run f K s0 (orr hf rfl) (sbk hK rfl)
  have r7 := @imageDueNow_run f K s0 (orr hf rfl) (sbk hK rfl)
  have j0 := sbk (a := [PD.STEPS_VOIDED]) hK rfl
  unfold State.applyVoid
  repeat' first
    | with_reducible assumption
    | with_reducible apply bump_run j0
    | with_reducible apply r1
    | with_reducible apply r2
    | with_reducible apply r3
    | with_reducible apply r4
    | with_reducible apply r5
    | with_reducible apply r6
    | with_reducible apply r7
    | with_reducible apply ite_run
    | split
    | dsimp only
    | intro _ _

theorem arm_run {f K s0} (hf : 39995809202369 ||| f = f)
    (hK : ∀ x, x ∈ ([0x600001, 0x600002] : List Nat) → x ∈ K) {s}
    (h : Run f K s0 s) : Run f K s0 (State.arm s) := by
  have r1 := @closeWindows_run f K s0 (orr hf rfl) (sbk hK rfl)
  have r2 := @enter_run f K s0 (orr hf rfl) (sbk hK rfl)
  have j0 := sbk (a := [PD.STEP_NUMBER]) hK rfl
  have j1 := sbk (a := [PD.STEP_ATTEMPT]) hK rfl
  have u0 := orr (a := 1073741824) hf rfl
  unfold State.arm
  repeat' first
    | with_reducible assumption
    | with_reducible apply setNum_run j0
    | with_reducible apply setNum_run j1
    | with_reducible apply r1
    | with_reducible apply r2
    | split
    | with_reducible apply run_upd_step u0
    | dsimp only
    | intro _ _

theorem attestStart_run {f K s0} (hf : 17592186044416 ||| f = f)
    (hK : ∀ x, x ∈ ([0xB10002] : List Nat) → x ∈ K) {s x1}
    (h : Run f K s0 s) : Run f K s0 (State.attestStart s x1) := by
  have j0 := sbk (a := [PD.ATTEST_RESULT]) hK rfl
  have u0 := orr (a := 17592186044416) hf rfl
  unfold State.attestStart
  repeat' first
    | with_reducible assumption
    | with_reducible apply setNum_run j0
    | with_reducible apply ite_run
    | split
    | with_reducible apply run_upd_fw u0
    | dsimp only
    | intro _ _

theorem mailStart_run {f K s0} (hf : 962072674304 ||| f = f)
    (hK : ∀ x, x ∈ ([0x120102] : List Nat) → x ∈ K) {s x1 x2}
    (h : Run f K s0 s) : Run f K s0 (State.mailStart s x1 x2) := by
  have r1 := @setEp_run f K s0 (orr hf rfl) (sbk hK rfl)
  have j0 := sbk (a := [PD.MBOX_DROPPED]) hK rfl
  have u0 := orr (a := 549755813888) hf rfl
  unfold State.mailStart
  repeat' first
    | with_reducible assumption
    | with_reducible apply bump_run j0
    | with_reducible apply r1
    | with_reducible apply ite_run
    | split
    | with_reducible apply run_upd_dict u0
    | dsimp only
    | intro _ _

theorem maskIrq_run {f K s0} (hf : 35596688949248 ||| f = f)
    (hK : ∀ x, x ∈ ([] : List Nat) → x ∈ K) {s x1 x2}
    (h : Run f K s0 s) : Run f K s0 (State.maskIrq s x1 x2) := by
  have r1 := @sendVector_run f K s0 (orr hf rfl) (sbk hK rfl)
  have r2 := @setEp_run f K s0 (orr hf rfl) (sbk hK rfl)
  unfold State.maskIrq
  repeat' first
    | with_reducible assumption
    | with_reducible apply r1
    | with_reducible apply r2
    | (with_reducible apply each_run; intro _ _ _)
    | split
    | dsimp only
    | intro _ _

theorem clearIrq_run {f K s0} (hf : 412316860416 ||| f = f)
    (hK : ∀ x, x ∈ ([] : List Nat) → x ∈ K) {s x1 x2}
    (h : Run f K s0 s) : Run f K s0 (State.clearIrq s x1 x2) := by
  have r1 := @setEp_run f K s0 (orr hf rfl) (sbk hK rfl)
  unfold State.clearIrq
  repeat' first
    | with_reducible assumption
    | with_reducible apply r1
    | split
    | dsimp only
    | intro _ _

theorem ctrlWrite_run {f K s0} (hf : 36146444763136 ||| f = f)
    (hK : ∀ x, x ∈ ([0x120102] : List Nat) → x ∈ K) {s x1 x2 x3 x4}
    (h : Run f K s0 s) : Run f K s0 (State.ctrlWrite s x1 x2 x3 x4) := by
  have r1 := @mailStart_run f K s0 (orr hf rfl) (sbk hK rfl)
  have r2 := @maskIrq_run f K s0 (orr hf rfl) (sbk hK rfl)
  have r3 := @clearIrq_run f K s0 (orr hf rfl) (sbk hK rfl)
  unfold State.ctrlWrite
  repeat' first
    | with_reducible assumption
    | with_reducible apply r1
    | with_reducible apply r2
    | with_reducible apply r3
    | with_reducible apply ite_run
    | split
    | dsimp only
    | intro _ _

theorem msixWrite_run {f K s0} (hf : 35596688949248 ||| f = f)
    (hK : ∀ x, x ∈ ([] : List Nat) → x ∈ K) {s x1 x2 x3 x4}
    (h : Run f K s0 s) : Run f K s0 (State.msixWrite s x1 x2 x3 x4) := by
  have r1 := @setEp_run f K s0 (orr hf rfl) (sbk hK rfl)
  have r2 := @emit_run f K s0 (orr hf rfl) (sbk hK rfl)
  unfold State.msixWrite
  repeat' first
    | with_reducible assumption
    | with_reducible apply r1
    | with_reducible apply r2
    | with_reducible apply ite_run
    | split
    | dsimp only
    | intro _ _

theorem bar0Store_run {f K s0} (hf : 36146444763136 ||| f = f)
    (hK : ∀ x, x ∈ ([0x120102] : List Nat) → x ∈ K) {s x1 x2 x3 x4}
    (h : Run f K s0 s) : Run f K s0 (State.bar0Store s x1 x2 x3 x4) := by
  have r1 := @setEp_run f K s0 (orr hf rfl) (sbk hK rfl)
  have r2 := @ctrlWrite_run f K s0 (orr hf rfl) (sbk hK rfl)
  have r3 := @msixWrite_run f K s0 (orr hf rfl) (sbk hK rfl)
  unfold State.bar0Store
  repeat' first
    | with_reducible assumption
    | with_reducible apply r1
    | with_reducible apply r2
    | with_reducible apply r3
    | with_reducible apply ite_run
    | split
    | dsimp only
    | intro _ _

theorem bootFails_run {f K s0} (hf : 130154688938177 ||| f = f)
    (hK : ∀ x, x ∈ ([0xA10001, 0xA10006, 0xB01005, 0xB01006] : List Nat) → x ∈ K) {s x1 x2}
    (h : Run f K s0 s) : Run f K s0 (State.bootFails s x1 x2) := by
  have r1 := @epsUp_run f K s0 (orr hf rfl) (sbk hK rfl)
  have r2 := @fwResult_run f K s0 (orr hf rfl) (sbk hK rfl)
  have r3 := @enter_run f K s0 (orr hf rfl) (sbk hK rfl)
  have r4 := @fwSpall_run f K s0 (orr hf rfl) (sbk hK rfl)
  have j0 := sbk (a := [PD.FW_STAGE_STATE]) hK rfl
  have u0 := orr (a := 19791209299968) hf rfl
  unfold State.bootFails
  repeat' first
    | with_reducible assumption
    | with_reducible apply setNum_run j0
    | with_reducible apply r1
    | with_reducible apply r2
    | with_reducible apply r3
    | with_reducible apply r4
    | with_reducible apply ite_run
    | split
    | with_reducible apply run_upd_clk_fw u0
    | dsimp only
    | intro _ _

theorem bootFromLoader_run {f K s0} (hf : 37795712204993 ||| f = f)
    (hK : ∀ x, x ∈ ([0x210202] : List Nat) → x ∈ K) {s}
    (h : Run f K s0 s) : Run f K s0 (State.bootFromLoader s) := by
  have r1 := @enter_run f K s0 (orr hf rfl) (sbk hK rfl)
  have j0 := sbk (a := [PD.RESET_CAUSE]) hK rfl
  have u0 := orr (a := 2199023255552) hf rfl
  unfold State.bootFromLoader
  repeat' first
    | with_reducible assumption
    | with_reducible apply setNum_run j0
    | with_reducible apply r1
    | split
    | with_reducible apply run_upd_clk u0
    | dsimp only
    | intro _ _

theorem discardConfig_run {f K s0} (hf : 36146444763136 ||| f = f)
    (hK : ∀ x, x ∈ ([0x100102] : List Nat) → x ∈ K) {s}
    (h : Run f K s0 s) : Run f K s0 (State.discardConfig s) := by
  have j0 := sbk (a := [PD.CFG_STATUS]) hK rfl
  have cr := orr (a := 35596688949248) hf rfl
  have u0 := orr (a := 549755813888) hf rfl
  unfold State.discardConfig
  repeat' first
    | with_reducible assumption
    | with_reducible apply result_run cr j0
    | with_reducible apply ite_run
    | split
    | with_reducible apply run_upd_dict u0
    | dsimp only
    | intro _ _

theorem stage_run {f K s0} (hf : 549755813888 ||| f = f)
    (hK : ∀ x, x ∈ ([] : List Nat) → x ∈ K) {s x1 x2}
    (h : Run f K s0 s) : Run f K s0 (State.stage s x1 x2) := by
  have u0 := orr (a := 549755813888) hf rfl
  unfold State.stage
  repeat' first
    | with_reducible assumption
    | split
    | with_reducible apply run_upd_dict u0
    | dsimp only
    | intro _ _

theorem stageDefaults_run {f K s0} (hf : 549755813888 ||| f = f)
    (hK : ∀ x, x ∈ ([] : List Nat) → x ∈ K) {s}
    (h : Run f K s0 s) : Run f K s0 (State.stageDefaults s) := by
  have r1 := @stage_run f K s0 (orr hf rfl) (sbk hK rfl)
  unfold State.stageDefaults
  repeat' first
    | with_reducible assumption
    | with_reducible apply r1
    | with_reducible apply ite_run
    | (with_reducible apply each_run; intro _ _ _)
    | split
    | dsimp only
    | intro _ _

theorem cfgCommand_run {f K s0} (hf : 36146444763136 ||| f = f)
    (hK : ∀ x, x ∈ ([0x100102, 0x100108] : List Nat) → x ∈ K) {s x1}
    (h : Run f K s0 s) : Run f K s0 (State.cfgCommand s x1) := by
  have r1 := @discardConfig_run f K s0 (orr hf rfl) (sbk hK rfl)
  have r2 := @stageDefaults_run f K s0 (orr hf rfl) (sbk hK rfl)
  have j0 := sbk (a := [PD.CFG_STATUS]) hK rfl
  have j1 := sbk (a := [PD.CFG_CMD_RESULT]) hK rfl
  unfold State.cfgCommand
  repeat' first
    | with_reducible assumption
    | with_reducible apply setNum_run j0
    | with_reducible apply setNum_run j1
    | with_reducible apply r1
    | with_reducible apply r2
    | with_reducible apply ite_run
    | split
    | dsimp only
    | intro _ _

theorem repairRows_run {f K s0} (hf : 17179869184 ||| f = f)
    (hK : ∀ x, x ∈ ([] : List Nat) → x ∈ K) {s x1}
    (h : Run f K s0 s) : Run f K s0 (State.repairRows s x1) := by
  have u0 := orr (a := 17179869184) hf rfl
  unfold State.repairRows
  repeat' first
    | with_reducible assumption
    | with_reducible apply ite_run
    | split
    | with_reducible apply run_upd_memUnit u0
    | dsimp only
    | intro _ _

theorem clearForFill_run {f K s0} (hf : 25769803776 ||| f = f)
    (hK : ∀ x, x ∈ ([] : List Nat) → x ∈ K) {s x1}
    (h : Run f K s0 s) : Run f K s0 (State.clearForFill s x1) := by
  have r1 := @repairRows_run f K s0 (orr hf rfl) (sbk hK rfl)
  have cm := orr (a := 8589934592) hf rfl
  unfold State.clearForFill
  repeat' first
    | with_reducible assumption
    | with_reducible apply r1
    | with_reducible apply ite_run
    | with_reducible apply memFilter_run cm
    | split
    | dsimp only
    | intro _ _

theorem closeSession_run {f K s0} (hf : 549755813888 ||| f = f)
    (hK : ∀ x, x ∈ ([] : List Nat) → x ∈ K) {s x1}
    (h : Run f K s0 s) : Run f K s0 (State.closeSession s x1) := by
  have u0 := orr (a := 549755813888) hf rfl
  unfold State.closeSession
  repeat' first
    | with_reducible assumption
    | split
    | with_reducible apply run_upd_dict u0
    | dsimp only
    | intro _ _

theorem coast_run {f K s0} (hf : 113734479300545 ||| f = f)
    (hK : ∀ x, x ∈ ([0x201108, 0x202003, 0x600002, 0x600003, 0x600004, 0x600007, 0x600203, 0xA10001, 0xA10006, 0xB01006] : List Nat) → x ∈ K) {s}
    (h : Run f K s0 s) : Run f K s0 (State.coast s) := by
  have r1 := @dropPorts_run f K s0 (orr hf rfl) (sbk hK rfl)
  have r2 := @courseActions_run f K s0 (orr hf rfl) (sbk hK rfl)
  have r3 := @fresh_run f K s0 (orr hf rfl) (sbk hK rfl)
  have r4 := @spall_run f K s0 (orr hf rfl) (sbk hK rfl)
  have r5 := @requeueGrants_run f K s0 (orr hf rfl) (sbk hK rfl)
  have r6 := @stopMeasure_run f K s0 (orr hf rfl) (sbk hK rfl)
  have r7 := @pauseStreams_run f K s0 (orr hf rfl) (sbk hK rfl)
  have r8 := @enter_run f K s0 (orr hf rfl) (sbk hK rfl)
  have r9 := @courseLost_run f K s0 (orr hf rfl) (sbk hK rfl)
  have u0 := orr (a := 2199023255552) hf rfl
  have u1 := orr (a := 412316860416) hf rfl
  unfold State.coast
  repeat' first
    | with_reducible assumption
    | with_reducible apply r1
    | with_reducible apply r2
    | with_reducible apply r4
    | with_reducible apply r5
    | with_reducible apply r6
    | with_reducible apply r7
    | with_reducible apply r8
    | with_reducible apply r9
    | with_reducible apply ite_run
    | with_reducible apply run_of_snd (by with_reducible assumption)
    | with_reducible apply r3
    | split
    | with_reducible apply run_upd_clk u0
    | with_reducible apply run_upd_ep0_ep1 u1
    | dsimp only
    | intro _ _

theorem freezeAtCmd_run {f K s0} (hf : 512 ||| f = f)
    (hK : ∀ x, x ∈ ([0x202003, 0xA20005] : List Nat) → x ∈ K) {s x1}
    (h : Run f K s0 s) : Run f K s0 (State.freezeAtCmd s x1) := by
  have r1 := @present_run f K s0 (orr hf rfl) (sbk hK rfl)
  have j0 := sbk (a := [PD.FREEZE_RESULT]) hK rfl
  unfold State.freezeAtCmd
  repeat' first
    | with_reducible assumption
    | with_reducible apply setNum_run j0
    | with_reducible apply ite_run
    | with_reducible apply run_of_snd (by with_reducible assumption)
    | with_reducible apply r1
    | split
    | dsimp only
    | intro _ _

theorem fwRefuse_run {f K s0} (hf : 35596688949248 ||| f = f)
    (hK : ∀ x, x ∈ ([0xB01006] : List Nat) → x ∈ K) {s x1}
    (h : Run f K s0 s) : Run f K s0 (State.fwRefuse s x1) := by
  have r1 := @fwResult_run f K s0 (orr hf rfl) (sbk hK rfl)
  unfold State.fwRefuse
  repeat' first
    | with_reducible assumption
    | with_reducible apply r1
    | split
    | dsimp only
    | intro _ _

theorem fwBegin_run {f K s0} (hf : 127955665682944 ||| f = f)
    (hK : ∀ x, x ∈ ([0xA10001, 0xA10006, 0xB01004, 0xB01005, 0xB01006, 0xB01008] : List Nat) → x ∈ K) {s}
    (h : Run f K s0 s) : Run f K s0 (State.fwBegin s) := by
  have r1 := @fwCancel_run f K s0 (orr hf rfl) (sbk hK rfl)
  have r2 := @fwRefuse_run f K s0 (orr hf rfl) (sbk hK rfl)
  have j0 := sbk (a := [PD.FW_RECEIVED]) hK rfl
  have j1 := sbk (a := [PD.FW_STAGE_STATE]) hK rfl
  have j2 := sbk (a := [PD.FW_RESULT]) hK rfl
  have j3 := sbk (a := [PD.FW_STAGED_DIGEST]) hK rfl
  have u0 := orr (a := 17592186044416) hf rfl
  unfold State.fwBegin
  repeat' first
    | with_reducible assumption
    | with_reducible apply setNum_run j0
    | with_reducible apply setNum_run j1
    | with_reducible apply setNum_run j2
    | with_reducible apply setBytes_run j3
    | with_reducible apply r1
    | with_reducible apply r2
    | with_reducible apply ite_run
    | split
    | with_reducible apply run_upd_fw u0
    | dsimp only
    | intro _ _

theorem refuseCmd_run {f K s0} (hf : 35610649722880 ||| f = f)
    (hK : ∀ x, x ∈ ([0x100003, 0x100108, 0x120103, 0x300004, 0x310202, 0x410102, 0x505005, 0x600206, 0x620103, 0x900103, 0x902004, 0xA20005,
       0xA20007, 0xB01006, 0xB01102] : List Nat) → x ∈ K) {s x1}
    (h : Run f K s0 s) : Run f K s0 (State.refuseCmd s x1) := by
  have r1 := @imageCmd_run f K s0 (orr hf rfl) (sbk hK rfl)
  have r2 := @pmbResult_run f K s0 (orr hf rfl) (sbk hK rfl)
  have r3 := @fwRefuse_run f K s0 (orr hf rfl) (sbk hK rfl)
  have r4 := @histSave_run f K s0 (orr hf rfl) (sbk hK rfl)
  have r5 := @histRestore_run f K s0 (orr hf rfl) (sbk hK rfl)
  have j0 := sbk (a := [PD.STATE_REQ_RESULT]) hK rfl
  have j1 := sbk (a := [PD.CFG_CMD_RESULT]) hK rfl
  have j2 := sbk (a := [PD.PLAN_STATUS]) hK rfl
  have j3 := sbk (a := [PD.STREAM_CMD_RESULT]) hK rfl
  have j4 := sbk (a := [PD.CAL_RUN_RESULT]) hK rfl
  have j5 := sbk (a := [PD.VOTE_CMD_IGNORED]) hK rfl
  have j6 := sbk (a := [PD.ADC_TRIGGER_RESULT]) hK rfl
  have j7 := sbk (a := [PD.FREEZE_RESULT]) hK rfl
  have j8 := sbk (a := [PD.FREEZE_IGNORED]) hK rfl
  have j9 := sbk (a := [PD.FW_PIECES_DISCARDED]) hK rfl
  have cr := orr (a := 35596688949248) hf rfl
  unfold State.refuseCmd
  repeat' first
    | with_reducible assumption
    | with_reducible apply bump_run j5
    | with_reducible apply bump_run j8
    | with_reducible apply bump_run j9
    | with_reducible apply setNum_run j0
    | with_reducible apply setNum_run j1
    | with_reducible apply setNum_run j3
    | with_reducible apply setNum_run j6
    | with_reducible apply setNum_run j7
    | with_reducible apply result_run cr j2
    | with_reducible apply result_run cr j4
    | with_reducible apply r1
    | with_reducible apply r2
    | with_reducible apply r3
    | with_reducible apply r4
    | with_reducible apply r5
    | with_reducible apply ite_run
    | split
    | dsimp only
    | intro _ _

theorem fwAbandon_run {f K s0} (hf : 127955665682432 ||| f = f)
    (hK : ∀ x, x ∈ ([0xA10001, 0xA10006, 0xB01005, 0xB01006] : List Nat) → x ∈ K) {s}
    (h : Run f K s0 s) : Run f K s0 (State.fwAbandon s) := by
  have r1 := @fresh_run f K s0 (orr hf rfl) (sbk hK rfl)
  have r2 := @fwRefuse_run f K s0 (orr hf rfl) (sbk hK rfl)
  have r3 := @fwResult_run f K s0 (orr hf rfl) (sbk hK rfl)
  have r4 := @fwFail_run f K s0 (orr hf rfl) (sbk hK rfl)
  have j0 := sbk (a := [PD.FW_STAGE_STATE]) hK rfl
  have u0 := orr (a := 17592186044416) hf rfl
  unfold State.fwAbandon
  repeat' first
    | with_reducible assumption
    | with_reducible apply setNum_run j0
    | with_reducible apply r2
    | with_reducible apply r3
    | with_reducible apply r4
    | with_reducible apply ite_run
    | with_reducible apply run_of_snd (by with_reducible assumption)
    | with_reducible apply r1
    | split
    | with_reducible apply run_upd_fw u0
    | dsimp only
    | intro _ _

theorem drainOrHold_run {f K s0} (hf : 35597763479233 ||| f = f)
    (hK : ∀ x, x ∈ ([0x600003, 0x600004] : List Nat) → x ∈ K) {s}
    (h : Run f K s0 s) : Run f K s0 (State.drainOrHold s) := by
  have r1 := @leaveFor_run f K s0 (orr hf rfl) (sbk hK rfl)
  have r2 := @enter_run f K s0 (orr hf rfl) (sbk hK rfl)
  unfold State.drainOrHold
  repeat' first
    | with_reducible assumption
    | with_reducible apply r1
    | with_reducible apply r2
    | with_reducible apply ite_run
    | split
    | dsimp only
    | intro _ _

theorem stateReq_run {f K s0} (hf : 39995809990337 ||| f = f)
    (hK : ∀ x, x ∈ ([0x100003, 0x600001, 0x600002, 0x600003, 0x600004] : List Nat) → x ∈ K) {s x1}
    (h : Run f K s0 s) : Run f K s0 (State.stateReq s x1) := by
  have r1 := @arm_run f K s0 (orr hf rfl) (sbk hK rfl)
  have r2 := @drainOrHold_run f K s0 (orr hf rfl) (sbk hK rfl)
  have j0 := sbk (a := [PD.STATE_REQ_RESULT]) hK rfl
  unfold State.stateReq
  repeat' first
    | with_reducible assumption
    | with_reducible apply setNum_run j0
    | with_reducible apply r1
    | with_reducible apply r2
    | with_reducible apply ite_run
    | split
    | dsimp only
    | intro _ _

theorem fwSchedule_run {f K s0} (hf : 35596688949760 ||| f = f)
    (hK : ∀ x, x ∈ ([0x202003, 0xB01006] : List Nat) → x ∈ K) {s x1}
    (h : Run f K s0 s) : Run f K s0 (State.fwSchedule s x1) := by
  have r1 := @present_run f K s0 (orr hf rfl) (sbk hK rfl)
  have r2 := @fwRefuse_run f K s0 (orr hf rfl) (sbk hK rfl)
  have j0 := sbk (a := [PD.FW_RESULT]) hK rfl
  unfold State.fwSchedule
  repeat' first
    | with_reducible assumption
    | with_reducible apply setNum_run j0
    | with_reducible apply r2
    | with_reducible apply ite_run
    | with_reducible apply run_of_snd (by with_reducible assumption)
    | with_reducible apply r1
    | split
    | dsimp only
    | intro _ _

theorem lateDecision_run {f K s0} (hf : 40067199190721 ||| f = f)
    (hK : ∀ x, x ∈ ([0x600002, 0x600003, 0x600004, 0x600007, 0x600203, 0xA10001, 0xA10006] : List Nat) → x ∈ K) {s x1}
    (h : Run f K s0 s) : Run f K s0 (State.lateDecision s x1) := by
  have r1 := @leaveFor_run f K s0 (orr hf rfl) (sbk hK rfl)
  have r2 := @spall_run f K s0 (orr hf rfl) (sbk hK rfl)
  have r3 := @voidLocally_run f K s0 (orr hf rfl) (sbk hK rfl)
  unfold State.lateDecision
  repeat' first
    | with_reducible assumption
    | with_reducible apply r1
    | with_reducible apply r2
    | with_reducible apply r3
    | split
    | dsimp only
    | intro _ _

theorem takeDecision_run {f K s0} (hf : 40067199190721 ||| f = f)
    (hK : ∀ x, x ∈ ([0x202003, 0x600002, 0x600003, 0x600004, 0x600007, 0x600203, 0xA10001, 0xA10006] : List Nat) → x ∈ K) {s x1}
    (h : Run f K s0 s) : Run f K s0 (State.takeDecision s x1) := by
  have r1 := @present_run f K s0 (orr hf rfl) (sbk hK rfl)
  have r2 := @lateDecision_run f K s0 (orr hf rfl) (sbk hK rfl)
  have u0 := orr (a := 1073741824) hf rfl
  unfold State.takeDecision
  repeat' first
    | with_reducible assumption
    | with_reducible apply r2
    | with_reducible apply run_of_snd (by with_reducible assumption)
    | with_reducible apply r1
    | split
    | with_reducible apply run_upd_step u0
    | dsimp only
    | intro _ _

theorem rootDecides_run {f K s0} (hf : 40067199190721 ||| f = f)
    (hK : ∀ x, x ∈ ([0x202003, 0x600002, 0x600003, 0x600004, 0x600007, 0x600203, 0xA10001, 0xA10006] : List Nat) → x ∈ K) {s x1 x2}
    (h : Run f K s0 s) : Run f K s0 (State.rootDecides s x1 x2) := by
  have r1 := @sendVote_run f K s0 (orr hf rfl) (sbk hK rfl)
  have r2 := @takeDecision_run f K s0 (orr hf rfl) (sbk hK rfl)
  unfold State.rootDecides
  repeat' first
    | with_reducible assumption
    | with_reducible apply r1
    | with_reducible apply r2
    | (with_reducible apply each_run; intro _ _ _)
    | split
    | dsimp only
    | intro _ _

theorem progress_run {f K s0} (hf : 40067199190721 ||| f = f)
    (hK : ∀ x, x ∈ ([0x202003, 0x600002, 0x600003, 0x600004, 0x600007, 0x600203, 0xA10001, 0xA10006] : List Nat) → x ∈ K) {s}
    (h : Run f K s0 s) : Run f K s0 (State.progress s) := by
  have r1 := @rootDecides_run f K s0 (orr hf rfl) (sbk hK rfl)
  have r2 := @sendVerdict_run f K s0 (orr hf rfl) (sbk hK rfl)
  unfold State.progress
  repeat' first
    | with_reducible assumption
    | with_reducible apply r1
    | with_reducible apply r2
    | with_reducible apply ite_run
    | split
    | dsimp only
    | intro _ _

theorem stepVoidReq_run {f K s0} (hf : 40067199190721 ||| f = f)
    (hK : ∀ x, x ∈ ([0x202003, 0x600002, 0x600003, 0x600004, 0x600007, 0x600203, 0x600206, 0xA10001, 0xA10006] : List Nat) → x ∈ K) {s}
    (h : Run f K s0 s) : Run f K s0 (State.stepVoidReq s) := by
  have r1 := @reason_run f K s0 (orr hf rfl) (sbk hK rfl)
  have r2 := @progress_run f K s0 (orr hf rfl) (sbk hK rfl)
  have j0 := sbk (a := [PD.VOTE_CMD_IGNORED]) hK rfl
  unfold State.stepVoidReq
  repeat' first
    | with_reducible assumption
    | with_reducible apply bump_run j0
    | with_reducible apply r1
    | with_reducible apply r2
    | with_reducible apply ite_run
    | split
    | dsimp only
    | intro _ _

theorem passHeaders_run {f K s0} (hf : 127955665682432 ||| f = f)
    (hK : ∀ x, x ∈ ([0xA10001, 0xA10006, 0xB01004, 0xB01005, 0xB01006] : List Nat) → x ∈ K) {s x1}
    (h : Run f K s0 s) : Run f K s0 (State.passHeaders s x1) := by
  have r1 := @fwFail_run f K s0 (orr hf rfl) (sbk hK rfl)
  have j0 := sbk (a := [PD.FW_RECEIVED]) hK rfl
  have u0 := orr (a := 17592186044416) hf rfl
  induction x1 generalizing s with
  | zero => exact h
  | succ n ih =>
    unfold State.passHeaders
    repeat' first
      | with_reducible assumption
      | with_reducible apply ih
      | with_reducible apply setNum_run j0
      | with_reducible apply r1
      | with_reducible apply ite_run
      | split
      | simp only [run_upd_fw_iff u0]
      | dsimp only
      | intro _ _

theorem fwPiece_run {f K s0} (hf : 127955665682432 ||| f = f)
    (hK : ∀ x, x ∈ ([0xA10001, 0xA10006, 0xB01004, 0xB01005, 0xB01006, 0xB01102] : List Nat) → x ∈ K) {s x1}
    (h : Run f K s0 s) : Run f K s0 (State.fwPiece s x1) := by
  have r1 := @passHeaders_run f K s0 (orr hf rfl) (sbk hK rfl)
  have j0 := sbk (a := [PD.FW_RECEIVED]) hK rfl
  have j1 := sbk (a := [PD.FW_PIECES_DISCARDED]) hK rfl
  have u0 := orr (a := 17592186044416) hf rfl
  unfold State.fwPiece
  repeat' first
    | with_reducible assumption
    | with_reducible apply bump_run j1
    | with_reducible apply setNum_run j0
    | with_reducible apply r1
    | with_reducible apply ite_run
    | split
    | with_reducible apply run_upd_fw u0
    | dsimp only
    | intro _ _

theorem command_run {f K s0} (hf : 129690819886785 ||| f = f)
    (hK : ∀ x, x ∈ ([0x100003, 0x100102, 0x100108, 0x120103, 0x202003, 0x300004, 0x310202, 0x410102, 0x41100A, 0x505005, 0x600001, 0x600002,
       0x600003, 0x600004, 0x600007, 0x600203, 0x600206, 0x620103, 0x700103, 0x900103, 0x900202, 0x900203, 0x902004, 0xA10001,
       0xA10006, 0xA20005, 0xA20007, 0xB01004, 0xB01005, 0xB01006, 0xB01008, 0xB01102, 0xB10002] : List Nat) → x ∈ K) {s x1 x2}
    (h : Run f K s0 s) : Run f K s0 (State.command s x1 x2) := by
  have r1 := @planCommand_run f K s0 (orr hf rfl) (sbk hK rfl)
  have r2 := @freezeAtCmd_run f K s0 (orr hf rfl) (sbk hK rfl)
  have r3 := @fwBegin_run f K s0 (orr hf rfl) (sbk hK rfl)
  have r4 := @refuseCmd_run f K s0 (orr hf rfl) (sbk hK rfl)
  have r5 := @pmbStart_run f K s0 (orr hf rfl) (sbk hK rfl)
  have r6 := @cfgCommand_run f K s0 (orr hf rfl) (sbk hK rfl)
  have r7 := @calRun_run f K s0 (orr hf rfl) (sbk hK rfl)
  have r8 := @imageCmd_run f K s0 (orr hf rfl) (sbk hK rfl)
  have r9 := @fwAbandon_run f K s0 (orr hf rfl) (sbk hK rfl)
  have r10 := @adcTrigger_run f K s0 (orr hf rfl) (sbk hK rfl)
  have r11 := @fwRefuse_run f K s0 (orr hf rfl) (sbk hK rfl)
  have r12 := @streamResume_run f K s0 (orr hf rfl) (sbk hK rfl)
  have r13 := @stateReq_run f K s0 (orr hf rfl) (sbk hK rfl)
  have r14 := @histSave_run f K s0 (orr hf rfl) (sbk hK rfl)
  have r15 := @histRestore_run f K s0 (orr hf rfl) (sbk hK rfl)
  have r16 := @attestStart_run f K s0 (orr hf rfl) (sbk hK rfl)
  have r17 := @fwSchedule_run f K s0 (orr hf rfl) (sbk hK rfl)
  have r18 := @stepVoidReq_run f K s0 (orr hf rfl) (sbk hK rfl)
  have r19 := @fwPiece_run f K s0 (orr hf rfl) (sbk hK rfl)
  have r20 := @discover_run f K s0 (orr hf rfl) (sbk hK rfl)
  have u0 := orr (a := 549755813888) hf rfl
  unfold State.command
  repeat' first
    | with_reducible assumption
    | with_reducible apply r1
    | with_reducible apply r2
    | with_reducible apply r3
    | with_reducible apply r4
    | with_reducible apply r5
    | with_reducible apply r6
    | with_reducible apply r7
    | with_reducible apply r8
    | with_reducible apply r9
    | with_reducible apply r10
    | with_reducible apply r11
    | with_reducible apply r12
    | with_reducible apply r13
    | with_reducible apply r14
    | with_reducible apply r15
    | with_reducible apply r16
    | with_reducible apply r17
    | with_reducible apply r18
    | with_reducible apply r19
    | with_reducible apply r20
    | with_reducible apply ite_run
    | split
    | with_reducible apply run_upd_dict u0
    | dsimp only
    | intro _ _

theorem countStore_run {f K s0} (hf : 17179869184 ||| f = f)
    (hK : ∀ x, x ∈ ([] : List Nat) → x ∈ K) {s x1 x2 x3}
    (h : Run f K s0 s) : Run f K s0 (State.countStore s x1 x2 x3) := by
  have u0 := orr (a := 17179869184) hf rfl
  unfold State.countStore
  repeat' first
    | with_reducible assumption
    | with_reducible apply RunOpt.map
    | with_reducible apply getD_run
    | split
    | with_reducible apply run_upd_memUnit u0
    | dsimp only
    | intro _ _

theorem corrections_run {f K s0} (hf : 17179869184 ||| f = f)
    (hK : ∀ x, x ∈ ([0x800201] : List Nat) → x ∈ K) {s x1 x2}
    (h : Run f K s0 s) : Run f K s0 (State.corrections s x1 x2) := by
  have r1 := @countStore_run f K s0 (orr hf rfl) (sbk hK rfl)
  have j0 := sbk (a := [PD.GUARD_CORRECTED]) hK rfl
  unfold State.corrections
  repeat' first
    | with_reducible assumption
    | with_reducible apply bump_run j0
    | with_reducible apply r1
    | with_reducible apply ite_run
    | split
    | dsimp only
    | intro _ _

theorem started_run {f K s0} (hf : 72567767433216 ||| f = f)
    (hK : ∀ x, x ∈ ([] : List Nat) → x ∈ K) {s x1}
    (h : Run f K s0 s) : Run f K s0 (State.started s x1) := by
  have r1 := @fresh_run f K s0 (orr hf rfl) (sbk hK rfl)
  have u0 := orr (a := 2199023255552) hf rfl
  unfold State.started
  repeat' first
    | with_reducible assumption
    | (with_reducible apply each_run; intro _ _ _)
    | with_reducible apply run_of_snd (by with_reducible assumption)
    | with_reducible apply r1
    | split
    | with_reducible apply run_upd_clk u0
    | dsimp only
    | intro _ _

theorem startSpall_run {f K s0} (hf : 39994735460352 ||| f = f)
    (hK : ∀ x, x ∈ ([0xA10001, 0xA10006] : List Nat) → x ∈ K) {s x1 x2 x3 x4}
    (h : Run f K s0 s) : Run f K s0 (State.startSpall s x1 x2 x3 x4) := by
  have r1 := @spall_run f K s0 (orr hf rfl) (sbk hK rfl)
  unfold State.startSpall
  repeat' first
    | with_reducible assumption
    | with_reducible apply r1
    | split
    | dsimp only
    | intro _ _

theorem trainSlow_run {f K s0} (hf : 112562502893568 ||| f = f)
    (hK : ∀ x, x ∈ ([0x800001, 0xA10001, 0xA10006] : List Nat) → x ∈ K) {s x1}
    (h : Run f K s0 s) : Run f K s0 (State.trainSlow s x1) := by
  have r1 := @started_run f K s0 (orr hf rfl) (sbk hK rfl)
  have r2 := @startSpall_run f K s0 (orr hf rfl) (sbk hK rfl)
  have j0 := sbk (a := [PD.SLOW_CAPACITY]) hK rfl
  have u0 := orr (a := 2199023255552) hf rfl
  unfold State.trainSlow
  repeat' first
    | with_reducible assumption
    | with_reducible apply setNum_run j0
    | with_reducible apply r1
    | with_reducible apply r2
    | (with_reducible apply each_run; intro _ _ _)
    | split
    | with_reducible apply run_upd_clk u0
    | dsimp only
    | intro _ _

theorem fillSlow_run {f K s0} (hf : 112562502893568 ||| f = f)
    (hK : ∀ x, x ∈ ([0xA10001, 0xA10006] : List Nat) → x ∈ K) {s}
    (h : Run f K s0 s) : Run f K s0 (State.fillSlow s).2 := by
  have r1 := @started_run f K s0 (orr hf rfl) (sbk hK rfl)
  have r2 := @startSpall_run f K s0 (orr hf rfl) (sbk hK rfl)
  unfold State.fillSlow
  repeat' first
    | with_reducible assumption
    | with_reducible apply r1
    | with_reducible apply r2
    | split
    | dsimp only
    | intro _ _

theorem fillMemory_run {f K s0} (hf : 112588272697344 ||| f = f)
    (hK : ∀ x, x ∈ ([0x110001, 0x800001, 0xA10001, 0xA10006] : List Nat) → x ∈ K) {s x1 x2 x3}
    (h : Run f K s0 s) : Run f K s0 (State.fillMemory s x1 x2 x3).2 := by
  have r1 := @trainSlow_run f K s0 (orr hf rfl) (sbk hK rfl)
  have r2 := @clearForFill_run f K s0 (orr hf rfl) (sbk hK rfl)
  have r3 := @fillSlow_run f K s0 (orr hf rfl) (sbk hK rfl)
  have r4 := @started_run f K s0 (orr hf rfl) (sbk hK rfl)
  have r5 := @startSpall_run f K s0 (orr hf rfl) (sbk hK rfl)
  have j0 := sbk (a := [PD.HEALTH_DIE_MASK]) hK rfl
  unfold State.fillMemory
  repeat' first
    | with_reducible assumption
    | with_reducible apply setNum_run j0
    | with_reducible apply r1
    | with_reducible apply r2
    | with_reducible apply r4
    | with_reducible apply r5
    | with_reducible apply run_of_snd (by with_reducible assumption)
    | with_reducible apply r3
    | split
    | dsimp only
    | intro _ _

theorem groutVerdict_run {f K s0} (hf : 39999053512704 ||| f = f)
    (hK : ∀ x, x ∈ ([0x502101, 0x502106, 0x600004, 0xA10001, 0xA10006] : List Nat) → x ∈ K) {s}
    (h : Run f K s0 s) : Run f K s0 (State.groutVerdict s) := by
  have r1 := @widen_run f K s0 (orr hf rfl) (sbk hK rfl)
  unfold State.groutVerdict
  repeat' first
    | with_reducible assumption
    | with_reducible apply ite_run
    | (with_reducible apply each_run; intro _ _ _)
    | with_reducible apply RunOpt.map
    | with_reducible apply run_of_snd (by with_reducible assumption)
    | with_reducible apply getD_run
    | with_reducible apply r1
    | split
    | dsimp only
    | intro _ _

theorem formVerdict_run {f K s0} (hf : 40070994214912 ||| f = f)
    (hK : ∀ x, x ∈ ([0x502101, 0x502106, 0x600004, 0x610107, 0x700208, 0xA10001, 0xA10006] : List Nat) → x ∈ K) {s}
    (h : Run f K s0 s) : Run f K s0 (State.formVerdict s) := by
  have r1 := @selfExclude_run f K s0 (orr hf rfl) (sbk hK rfl)
  have r2 := @groutVerdict_run f K s0 (orr hf rfl) (sbk hK rfl)
  have r3 := @beginPhase_run f K s0 (orr hf rfl) (sbk hK rfl)
  have r4 := @endPhase_run f K s0 (orr hf rfl) (sbk hK rfl)
  have j0 := sbk (a := [PD.STEP_REASONS]) hK rfl
  have u0 := orr (a := 1073741824) hf rfl
  unfold State.formVerdict
  repeat' first
    | with_reducible assumption
    | with_reducible apply setNum_run j0
    | with_reducible apply r1
    | with_reducible apply r2
    | with_reducible apply r3
    | with_reducible apply r4
    | with_reducible apply ite_run
    | with_reducible apply getD_run
    | split
    | with_reducible apply run_upd_step u0
    | dsimp only
    | intro _ _

theorem forwardPdx_run {f K s0} (hf : 45011257262529 ||| f = f)
    (hK : ∀ x, x ∈ ([0x201108, 0x700208, 0xA20006, 0xA20007, 0xB20101, 0xB20103, 0xB20104] : List Nat) → x ∈ K) {s x1 x2 x3 x4 x5}
    (h : Run f K s0 s) : Run f K s0 (State.forwardPdx s x1 x2 x3 x4 x5) := by
  have r1 := @answer_run f K s0 (orr hf rfl) (sbk hK rfl)
  have r2 := @send_run f K s0 (orr hf rfl) (sbk hK rfl)
  have j0 := sbk (a := [PD.PDX_FORWARDED]) hK rfl
  have u0 := orr (a := 549755813888) hf rfl
  unfold State.forwardPdx
  repeat' first
    | with_reducible assumption
    | with_reducible apply bump_run j0
    | with_reducible apply r1
    | with_reducible apply r2
    | with_reducible apply ite_run
    | split
    | with_reducible apply run_upd_dict u0
    | dsimp only
    | intro _ _

theorem frozenNs_run {f K s0} (hf : 70368744177664 ||| f = f)
    (hK : ∀ x, x ∈ ([] : List Nat) → x ∈ K) {s x1}
    (h : Run f K s0 s) : Run f K s0 (State.frozenNs s x1).2 := by
  have r1 := @fresh_run f K s0 (orr hf rfl) (sbk hK rfl)
  unfold State.frozenNs
  repeat' first
    | with_reducible assumption
    | with_reducible apply ite_run
    | with_reducible apply run_of_snd (by with_reducible assumption)
    | with_reducible apply r1
    | split
    | dsimp only
    | intro _ _

theorem fwOperate_run {f K s0} (hf : 17600775979008 ||| f = f)
    (hK : ∀ x, x ∈ ([] : List Nat) → x ∈ K) {s}
    (h : Run f K s0 s) : Run f K s0 (State.fwOperate s) := by
  have cm := orr (a := 8589934592) hf rfl
  have u0 := orr (a := 17592186044416) hf rfl
  have cmfw := orr (a := 17600775979008) hf rfl
  unfold State.fwOperate
  repeat' first
    | with_reducible assumption
    | with_reducible apply write_run cm
    | with_reducible apply ite_run
    | with_reducible apply memFilter_run cm
    | split
    | with_reducible apply run_upd_mem_fw cmfw
    | with_reducible apply run_upd_fw u0
    | dsimp only
    | intro _ _

theorem keepOver_run {f K s0} (hf : 9223407221226864631 ||| f = f) {s} {m : Mode} (hm : m = .off ∨ m = .reset) (h : Run f K s0 s) :
    Run f K s0 (s.keepOver m) := by
  have hb : 2 ^ 63 ||| f = f := orr hf rfl
  unfold State.keepOver
  refine pdSet_run_any hb (pdSet_run_any hb (pdSet_run_any hb (pdSet_run_any hb (pdSet_run_any hb ?_))))
  refine ⟨fun p n => State.same_trans (h.part p n) ?_, fun w => kvWf_filter _ _ _ (h.mem w), fun _ => rfl,
    fun _ n => absurd (testBit_sub hb n) (by decide), fun _ => ?_, h.outs⟩
  · have := testBit_sub hf n
    cases p <;> first | rfl | cases this
  · rcases hm with rfl | rfl <;> rfl

theorem startCalibrate_run {f K s0} (hf : 35596690260161 ||| f = f)
    (hK : ∀ x, x ∈ ([0x41100A] : List Nat) → x ∈ K) {s}
    (h : Run f K s0 s) : Run f K s0 (State.startCalibrate s) := by
  have r1 := @enterCalibrate_run f K s0 (orr hf rfl) (sbk hK rfl)
  unfold State.startCalibrate
  repeat' first
    | with_reducible assumption
    | with_reducible apply r1
    | with_reducible apply ite_run
    | split
    | dsimp only
    | intro _ _

theorem leaveCoast_run {f K s0} (hf : 108233177170881 ||| f = f)
    (hK : ∀ x, x ∈ ([0x202003, 0x210102, 0x41100A, 0x700103] : List Nat) → x ∈ K) {s}
    (h : Run f K s0 s) : Run f K s0 (State.leaveCoast s) := by
  have r1 := @fresh_run f K s0 (orr hf rfl) (sbk hK rfl)
  have r2 := @startCalibrate_run f K s0 (orr hf rfl) (sbk hK rfl)
  have r3 := @epsUp_run f K s0 (orr hf rfl) (sbk hK rfl)
  have r4 := @courseRestart_run f K s0 (orr hf rfl) (sbk hK rfl)
  have r5 := @enter_run f K s0 (orr hf rfl) (sbk hK rfl)
  have r6 := @discoverOnce_run f K s0 (orr hf rfl) (sbk hK rfl)
  have j0 := sbk (a := [PD.COAST_NS]) hK rfl
  have u0 := orr (a := 2199023255552) hf rfl
  unfold State.leaveCoast
  repeat' first
    | with_reducible assumption
    | with_reducible apply bumpBy_run j0
    | with_reducible apply r2
    | with_reducible apply r3
    | with_reducible apply r4
    | with_reducible apply r5
    | with_reducible apply r6
    | with_reducible apply ite_run
    | with_reducible apply run_of_snd (by with_reducible assumption)
    | with_reducible apply r1
    | split
    | with_reducible apply run_upd_clk u0
    | dsimp only
    | intro _ _

theorem memoryStep_run {f K s0} (hf : 51062316517057 ||| f = f)
    (hK : ∀ x, x ∈ ([0x41100A, 0x600002, 0x600003, 0x600004, 0x600007, 0x600203, 0xA10001, 0xA10006] : List Nat) → x ∈ K) {s x1}
    (h : Run f K s0 s) : Run f K s0 (State.memoryStep s x1) := by
  have r1 := @fault_run f K s0 (orr hf rfl) (sbk hK rfl)
  have r2 := @startCalibrate_run f K s0 (orr hf rfl) (sbk hK rfl)
  have u0 := orr (a := 2199023255552) hf rfl
  unfold State.memoryStep
  repeat' first
    | with_reducible assumption
    | with_reducible apply r1
    | with_reducible apply r2
    | with_reducible apply ite_run
    | split
    | with_reducible apply run_upd_clk u0
    | dsimp only
    | intro _ _

theorem noteSession_run {f K s0} (hf : 549755813888 ||| f = f)
    (hK : ∀ x, x ∈ ([] : List Nat) → x ∈ K) {s x1 x2 x3}
    (h : Run f K s0 s) : Run f K s0 (State.noteSession s x1 x2 x3) := by
  have u0 := orr (a := 549755813888) hf rfl
  unfold State.noteSession
  repeat' first
    | with_reducible assumption
    | with_reducible apply ite_run
    | split
    | with_reducible apply run_upd_dict u0
    | dsimp only
    | intro _ _

theorem openSession_run {f K s0} (hf : 70918499991552 ||| f = f)
    (hK : ∀ x, x ∈ ([] : List Nat) → x ∈ K) {s x1 x2}
    (h : Run f K s0 s) : Run f K s0 (State.openSession s x1 x2).2 := by
  have r1 := @fresh_run f K s0 (orr hf rfl) (sbk hK rfl)
  have u0 := orr (a := 549755813888) hf rfl
  unfold State.openSession
  repeat' first
    | with_reducible assumption
    | with_reducible apply ite_run
    | with_reducible apply run_of_snd (by with_reducible assumption)
    | with_reducible apply r1
    | split
    | simp only [run_upd_dict_iff u0]
    | dsimp only
    | intro _ _

theorem reissue_run {f K s0} (hf : 17179869184 ||| f = f)
    (hK : ∀ x, x ∈ ([0x800201, 0x800203, 0x800205] : List Nat) → x ∈ K) {s x1 x2 x3}
    (h : Run f K s0 s) : Run f K s0 (State.reissue s x1 x2 x3).2 := by
  have r1 := @corrections_run f K s0 (orr hf rfl) (sbk hK rfl)
  have j0 := sbk (a := [PD.GUARD_REISSUE_OK]) hK rfl
  have j1 := sbk (a := [PD.SEAL_REPAIRED]) hK rfl
  unfold State.reissue
  repeat' first
    | with_reducible assumption
    | with_reducible apply bump_run j0
    | with_reducible apply bump_run j1
    | with_reducible apply r1
    | with_reducible apply ite_run
    | split
    | dsimp only
    | intro _ _

theorem readStruck_run {f K s0} (hf : 40011915329536 ||| f = f)
    (hK : ∀ x, x ∈ ([0x800201, 0x800203, 0x800204, 0x800205, 0xA10001, 0xA10006] : List Nat) → x ∈ K) {s x1 x2}
    (h : Run f K s0 s) : Run f K s0 (State.readStruck s x1 x2).2 := by
  have r1 := @corrections_run f K s0 (orr hf rfl) (sbk hK rfl)
  have r2 := @reissue_run f K s0 (orr hf rfl) (sbk hK rfl)
  have r3 := @spall_run f K s0 (orr hf rfl) (sbk hK rfl)
  have j0 := sbk (a := [PD.SEAL_MISMATCH]) hK rfl
  unfold State.readStruck
  repeat' first
    | with_reducible assumption
    | with_reducible apply bump_run j0
    | with_reducible apply r1
    | with_reducible apply r3
    | with_reducible apply ite_run
    | with_reducible apply run_of_snd (by with_reducible assumption)
    | with_reducible apply r2
    | split
    | dsimp only
    | intro _ _

theorem xorWord_run {f K s0} (hf : 8589934592 ||| f = f)
    (hK : ∀ x, x ∈ ([] : List Nat) → x ∈ K) {s x1 x2 x3}
    (h : Run f K s0 s) : Run f K s0 (State.xorWord s x1 x2 x3) := by
  have cm := orr (a := 8589934592) hf rfl
  unfold State.xorWord
  repeat' first
    | with_reducible assumption
    | with_reducible apply write_run cm
    | with_reducible apply ite_run
    | split
    | dsimp only
    | intro _ _

theorem weaken_run {f K s0} (hf : 17179869184 ||| f = f)
    (hK : ∀ x, x ∈ ([] : List Nat) → x ∈ K) {s x1 x2}
    (h : Run f K s0 s) : Run f K s0 (State.weaken s x1 x2) := by
  have u0 := orr (a := 17179869184) hf rfl
  unfold State.weaken
  repeat' first
    | with_reducible assumption
    | with_reducible apply ite_run
    | split
    | with_reducible apply run_upd_memUnit u0
    | dsimp only
    | intro _ _

theorem patrolWord_run {f K s0} (hf : 40092968994497 ||| f = f)
    (hK : ∀ x, x ∈ ([0x110103, 0x600002, 0x600003, 0x600004, 0x600007, 0x600203, 0x800201, 0x800202, 0x800203, 0x800204, 0x800205, 0x800206,
       0x800207, 0xA10001, 0xA10006] : List Nat) → x ∈ K) {s x1 x2 x3}
    (h : Run f K s0 s) : Run f K s0 (State.patrolWord s x1 x2 x3) := by
  have r1 := @readStruck_run f K s0 (orr hf rfl) (sbk hK rfl)
  have r2 := @storeLost_run f K s0 (orr hf rfl) (sbk hK rfl)
  have r3 := @countStore_run f K s0 (orr hf rfl) (sbk hK rfl)
  have r4 := @spall_run f K s0 (orr hf rfl) (sbk hK rfl)
  have r5 := @xorWord_run f K s0 (orr hf rfl) (sbk hK rfl)
  have r6 := @weaken_run f K s0 (orr hf rfl) (sbk hK rfl)
  have j0 := sbk (a := [PD.GUARD_UNCORRECTABLE]) hK rfl
  have j1 := sbk (a := [PD.SCRUB_WRITEBACKS]) hK rfl
  have j2 := sbk (a := [PD.SCRUB_WRITEBACK_DROPPED]) hK rfl
  have u0 := orr (a := 17179869184) hf rfl
  unfold State.patrolWord
  repeat' first
    | with_reducible assumption
    | with_reducible apply bump_run j0
    | with_reducible apply bump_run j1
    | with_reducible apply bump_run j2
    | with_reducible apply r2
    | with_reducible apply r3
    | with_reducible apply r4
    | with_reducible apply r5
    | with_reducible apply r6
    | with_reducible apply ite_run
    | with_reducible apply run_of_snd (by with_reducible assumption)
    | with_reducible apply r1
    | split
    | with_reducible apply run_upd_memUnit u0
    | dsimp only
    | intro _ _

theorem takeRequest_run {f K s0} (hf : 618475290624 ||| f = f)
    (hK : ∀ x, x ∈ ([] : List Nat) → x ∈ K) {s x1 x2}
    (h : Run f K s0 s) : RunOpt Prod.snd f K s0 (State.takeRequest s x1 x2) := by
  have r1 := @takeMessage_run f K s0 (orr hf rfl) (sbk hK rfl)
  have u0 := orr (a := 549755813888) hf rfl
  unfold State.takeRequest
  repeat' first
    | with_reducible assumption
    | with_reducible apply r1
    | with_reducible apply ite_run
    | with_reducible apply RunOpt.none
    | with_reducible apply RunOpt.some
    | with_reducible apply RunOpt.ite
    | split
    | with_reducible apply run_upd_dict u0
    | dsimp only
    | intro _ _

theorem writeNow_run {f K s0} (hf : 9223373136366403584 ||| f = f)
    (hK : ∀ x, x ∈ ([] : List Nat) → x ∈ K) {s x1 x2}
    (h : Run f K s0 s) : Run f K s0 (State.writeNow s x1 x2) := by
  have r1 := @hostDuties_run f K s0 (orr hf rfl) (sbk hK rfl)
  have cany := orr (a := 2 ^ 63) hf rfl
  unfold State.writeNow
  repeat' first
    | with_reducible assumption
    | with_reducible apply pdSet_run_any cany
    | with_reducible apply r1
    | with_reducible apply ite_run
    | split
    | dsimp only
    | intro _ _

theorem writeValue_run {f K s0} (hf : 9223501727674662593 ||| f = f)
    (hK : ∀ x, x ∈ ([0x100003, 0x100102, 0x100108, 0x120103, 0x202003, 0x300004, 0x310202, 0x410102, 0x41100A, 0x505005, 0x600001, 0x600002,
       0x600003, 0x600004, 0x600007, 0x600203, 0x600206, 0x620103, 0x700103, 0x900103, 0x900202, 0x900203, 0x902004, 0xA10001,
       0xA10006, 0xA20005, 0xA20007, 0xB01004, 0xB01005, 0xB01006, 0xB01008, 0xB01102, 0xB10002] : List Nat) → x ∈ K) {s x1 x2}
    (h : Run f K s0 s) : Run f K s0 (State.writeValue s x1 x2).2 := by
  have r1 := @writeNow_run f K s0 (orr hf rfl) (sbk hK rfl)
  have r2 := @command_run f K s0 (orr hf rfl) (sbk hK rfl)
  have r3 := @stage_run f K s0 (orr hf rfl) (sbk hK rfl)
  unfold State.writeValue
  repeat' first
    | with_reducible assumption
    | with_reducible apply r1
    | with_reducible apply r2
    | with_reducible apply r3
    | with_reducible apply ite_run
    | split
    | dsimp only
    | intro _ _

theorem setOwnerKey_run {f K s0} (hf : 549755813888 ||| f = f)
    (hK : ∀ x, x ∈ ([] : List Nat) → x ∈ K) {s x1 x2}
    (h : Run f K s0 s) : Run f K s0 (State.setOwnerKey s x1 x2).2 := by
  have u0 := orr (a := 549755813888) hf rfl
  unfold State.setOwnerKey
  repeat' first
    | with_reducible assumption
    | with_reducible apply ite_run
    | split
    | simp only [run_upd_dict_iff u0]
    | dsimp only
    | intro _ _

theorem writeTable_run {f K s0} (hf : 9223501727674662593 ||| f = f)
    (hK : ∀ x, x ∈ ([0x100003, 0x100102, 0x100108, 0x120103, 0x202003, 0x300004, 0x310202, 0x410102, 0x41100A, 0x505005, 0x600001, 0x600002,
       0x600003, 0x600004, 0x600007, 0x600203, 0x600206, 0x620103, 0x700103, 0x900103, 0x900202, 0x900203, 0x902004, 0xA10001,
       0xA10006, 0xA20005, 0xA20007, 0xB01004, 0xB01005, 0xB01006, 0xB01008, 0xB01102, 0xB10002] : List Nat) → x ∈ K) {s x1 x2}
    (h : Run f K s0 s) : Run f K s0 (State.writeTable s x1 x2).2 := by
  have r1 := @writeValue_run f K s0 (orr hf rfl) (sbk hK rfl)
  have u0 := orr (a := 549755813888) hf rfl
  unfold State.writeTable
  repeat' first
    | with_reducible assumption
    | with_reducible apply ite_run
    | with_reducible apply run_of_snd (by with_reducible assumption)
    | with_reducible apply r1
    | split
    | simp only [run_upd_dict_iff u0]
    | dsimp only
    | intro _ _

theorem writePiece_run {f K s0} (hf : 9223501727674662593 ||| f = f)
    (hK : ∀ x, x ∈ ([0x100003, 0x100102, 0x100108, 0x120103, 0x202003, 0x300004, 0x310202, 0x410102, 0x41100A, 0x505005, 0x600001, 0x600002,
       0x600003, 0x600004, 0x600007, 0x600203, 0x600206, 0x620103, 0x700103, 0x900103, 0x900202, 0x900203, 0x902004, 0xA10001,
       0xA10006, 0xA20005, 0xA20007, 0xB01004, 0xB01005, 0xB01006, 0xB01008, 0xB01102, 0xB10002] : List Nat) → x ∈ K) {s x1 x2 x3}
    (h : Run f K s0 s) : Run f K s0 (State.writePiece s x1 x2 x3).2 := by
  have r1 := @writeTable_run f K s0 (orr hf rfl) (sbk hK rfl)
  unfold State.writePiece
  repeat' first
    | with_reducible assumption
    | with_reducible apply ite_run
    | with_reducible apply run_of_snd (by with_reducible assumption)
    | with_reducible apply r1
    | split
    | dsimp only
    | intro _ _

theorem writeEntry_run {f K s0} (hf : 9223501727674662593 ||| f = f)
    (hK : ∀ x, x ∈ ([0x100003, 0x100102, 0x100108, 0x120103, 0x202003, 0x300004, 0x310202, 0x410102, 0x41100A, 0x505005, 0x600001, 0x600002,
       0x600003, 0x600004, 0x600007, 0x600203, 0x600206, 0x620103, 0x700103, 0x900103, 0x900202, 0x900203, 0x902004, 0xA10001,
       0xA10006, 0xA20005, 0xA20007, 0xB01004, 0xB01005, 0xB01006, 0xB01008, 0xB01102, 0xB10002] : List Nat) → x ∈ K) {s x1 x2 x3 x4 x5}
    (h : Run f K s0 s) : Run f K s0 (State.writeEntry s x1 x2 x3 x4 x5).2 := by
  have r1 := @writeValue_run f K s0 (orr hf rfl) (sbk hK rfl)
  have r2 := @setOwnerKey_run f K s0 (orr hf rfl) (sbk hK rfl)
  have r3 := @writePiece_run f K s0 (orr hf rfl) (sbk hK rfl)
  unfold State.writeEntry
  repeat' first
    | with_reducible assumption
    | with_reducible apply ite_run
    | with_reducible apply run_of_snd (by with_reducible assumption)
    | with_reducible apply r1
    | with_reducible apply r2
    | with_reducible apply r3
    | split
    | dsimp only
    | intro _ _

theorem serveOp_run {f K s0} (hf : 9223501727674662593 ||| f = f)
    (hK : ∀ x, x ∈ ([0x100003, 0x100102, 0x100108, 0x120103, 0x202003, 0x300004, 0x310202, 0x410102, 0x41100A, 0x505005, 0x600001, 0x600002,
       0x600003, 0x600004, 0x600007, 0x600203, 0x600206, 0x620103, 0x700103, 0x900103, 0x900202, 0x900203, 0x902004, 0xA10001,
       0xA10006, 0xA20005, 0xA20007, 0xB01004, 0xB01005, 0xB01006, 0xB01008, 0xB01102, 0xB10002] : List Nat) → x ∈ K) {s x1 x2 x3}
    (h : Run f K s0 s) : Run f K s0 (State.serveOp s x1 x2 x3).2 := by
  have r1 := @openSession_run f K s0 (orr hf rfl) (sbk hK rfl)
  have r2 := @writeEntry_run f K s0 (orr hf rfl) (sbk hK rfl)
  have r3 := @closeSession_run f K s0 (orr hf rfl) (sbk hK rfl)
  unfold State.serveOp
  repeat' first
    | with_reducible assumption
    | with_reducible apply r3
    | with_reducible apply ite_run
    | with_reducible apply run_of_snd (by with_reducible assumption)
    | with_reducible apply r1
    | with_reducible apply r2
    | split
    | dsimp only
    | intro _ _

theorem serveLocal_run {f K s0} (hf : 9223510523767685057 ||| f = f)
    (hK : ∀ x, x ∈ ([0x100003, 0x100102, 0x100108, 0x120103, 0x201108, 0x202003, 0x300004, 0x310202, 0x410102, 0x41100A, 0x505005, 0x600001,
       0x600002, 0x600003, 0x600004, 0x600007, 0x600203, 0x600206, 0x620103, 0x700103, 0x700208, 0x900103, 0x900202, 0x900203,
       0x902004, 0xA10001, 0xA10006, 0xA20005, 0xA20006, 0xA20007, 0xB01004, 0xB01005, 0xB01006, 0xB01008, 0xB01102, 0xB10002,
       0xB20101, 0xB20102, 0xB20103] : List Nat) → x ∈ K) {s x1 x2 x3 x4}
    (h : Run f K s0 s) : Run f K s0 (State.serveLocal s x1 x2 x3 x4) := by
  have r1 := @noteSession_run f K s0 (orr hf rfl) (sbk hK rfl)
  have r2 := @answer_run f K s0 (orr hf rfl) (sbk hK rfl)
  have r3 := @serveOp_run f K s0 (orr hf rfl) (sbk hK rfl)
  have r4 := @respond_run f K s0 (orr hf rfl) (sbk hK rfl)
  have cany := orr (a := 2 ^ 63) hf rfl
  have j0 := sbk (a := [PD.PDX_AUTH_DROPPED]) hK rfl
  unfold State.serveLocal
  repeat' first
    | with_reducible assumption
    | with_reducible apply bump_run j0
    | with_reducible apply r1
    | with_reducible apply r2
    | with_reducible apply r4
    | with_reducible apply ite_run
    | with_reducible apply run_of_snd (by with_reducible assumption)
    | with_reducible apply r3
    | split
    | dsimp only
    | intro _ _

theorem pdx_run {f K s0} (hf : 9223510523767685057 ||| f = f)
    (hK : ∀ x, x ∈ ([0x100003, 0x100102, 0x100108, 0x120103, 0x201108, 0x202003, 0x300004, 0x310202, 0x410102, 0x41100A, 0x505005, 0x600001,
       0x600002, 0x600003, 0x600004, 0x600007, 0x600203, 0x600206, 0x620103, 0x700103, 0x700208, 0x900103, 0x900202, 0x900203,
       0x902004, 0xA10001, 0xA10006, 0xA20005, 0xA20006, 0xA20007, 0xB01004, 0xB01005, 0xB01006, 0xB01008, 0xB01102, 0xB10002,
       0xB20101, 0xB20102, 0xB20103, 0xB20104] : List Nat) → x ∈ K) {s x1 x2 x3}
    (h : Run f K s0 s) : Run f K s0 (State.pdx s x1 x2 x3) := by
  have r1 := @forwardPdx_run f K s0 (orr hf rfl) (sbk hK rfl)
  have r2 := @takeRequest_run f K s0 (orr hf rfl) (sbk hK rfl)
  have r3 := @serveLocal_run f K s0 (orr hf rfl) (sbk hK rfl)
  unfold State.pdx
  repeat' first
    | with_reducible assumption
    | with_reducible apply r1
    | with_reducible apply r3
    | with_reducible apply ite_run
    | with_reducible apply run_of_some (by with_reducible assumption)
    | with_reducible apply run_of_some_snd (by with_reducible assumption)
    | with_reducible apply r2
    | split
    | dsimp only
    | intro _ _

theorem wordLost_run {f K s0} (hf : 40084379059905 ||| f = f)
    (hK : ∀ x, x ∈ ([0x110103, 0x600002, 0x600003, 0x600004, 0x600007, 0x600203, 0x800202, 0xA10001, 0xA10006] : List Nat) → x ∈ K) {s x1 x2}
    (h : Run f K s0 s) : Run f K s0 (State.wordLost s x1 x2) := by
  have r1 := @storeLost_run f K s0 (orr hf rfl) (sbk hK rfl)
  have r2 := @countStore_run f K s0 (orr hf rfl) (sbk hK rfl)
  unfold State.wordLost
  repeat' first
    | with_reducible assumption
    | with_reducible apply r1
    | with_reducible apply r2
    | split
    | dsimp only
    | intro _ _

theorem readWord_run {f K s0} (hf : 40084379059905 ||| f = f)
    (hK : ∀ x, x ∈ ([0x110103, 0x600002, 0x600003, 0x600004, 0x600007, 0x600203, 0x800201, 0x800202, 0x800203, 0x800204, 0x800205, 0xA10001,
       0xA10006] : List Nat) → x ∈ K) {s x1 x2}
    (h : Run f K s0 s) : Run f K s0 (State.readWord s x1 x2).2 := by
  have r1 := @wordLost_run f K s0 (orr hf rfl) (sbk hK rfl)
  have r2 := @readStruck_run f K s0 (orr hf rfl) (sbk hK rfl)
  unfold State.readWord
  repeat' first
    | with_reducible assumption
    | with_reducible apply r1
    | with_reducible apply run_of_snd (by with_reducible assumption)
    | with_reducible apply r2
    | split
    | dsimp only
    | intro _ _

theorem resetEp_run {f K s0} (hf : 962072674304 ||| f = f)
    (hK : ∀ x, x ∈ ([] : List Nat) → x ∈ K) {s x1 x2 x3}
    (h : Run f K s0 s) : Run f K s0 (State.resetEp s x1 x2 x3) := by
  have r1 := @setEp_run f K s0 (orr hf rfl) (sbk hK rfl)
  have u0 := orr (a := 549755813888) hf rfl
  unfold State.resetEp
  repeat' first
    | with_reducible assumption
    | with_reducible apply r1
    | with_reducible apply ite_run
    | split
    | with_reducible apply run_upd_dict u0
    | dsimp only
    | intro _ _

theorem silence_run {f K s0} (hf : 549755813888 ||| f = f)
    (hK : ∀ x, x ∈ ([] : List Nat) → x ∈ K) {s}
    (h : Run f K s0 s) : Run f K s0 (State.silence s) := by
  have u0 := orr (a := 549755813888) hf rfl
  unfold State.silence
  repeat' first
    | with_reducible assumption
    | split
    | with_reducible apply run_upd_dict u0
    | dsimp only
    | intro _ _

theorem revalidate_run {f K s0} (hf : 36146444763136 ||| f = f)
    (hK : ∀ x, x ∈ ([0x100102, 0x100103] : List Nat) → x ∈ K) {s}
    (h : Run f K s0 s) : Run f K s0 (State.revalidate s) := by
  have r1 := @silence_run f K s0 (orr hf rfl) (sbk hK rfl)
  have j0 := sbk (a := [PD.CFG_STATUS]) hK rfl
  have j1 := sbk (a := [PD.CFG_FAULTS]) hK rfl
  have cr := orr (a := 35596688949248) hf rfl
  unfold State.revalidate
  repeat' first
    | with_reducible assumption
    | with_reducible apply result_run cr j0
    | with_reducible apply setRows_run j1
    | with_reducible apply r1
    | with_reducible apply ite_run
    | split
    | dsimp only
    | intro _ _

theorem sendCopies_run {f K s0} (hf : 40076363710464 ||| f = f)
    (hK : ∀ x, x ∈ ([0x40100D, 0x401101, 0x502101, 0x502104, 0x502105, 0x502106, 0x507001, 0x507003, 0x600004, 0x620209, 0x62020A, 0x700208,
       0xA10001, 0xA10006] : List Nat) → x ∈ K) {s}
    (h : Run f K s0 s) : Run f K s0 (State.sendCopies s) := by
  have r1 := @sendGather_run f K s0 (orr hf rfl) (sbk hK rfl)
  have r2 := @deriveCopies_run f K s0 (orr hf rfl) (sbk hK rfl)
  have r3 := @rewriteArrays_run f K s0 (orr hf rfl) (sbk hK rfl)
  unfold State.sendCopies
  repeat' first
    | with_reducible assumption
    | with_reducible apply r1
    | with_reducible apply r3
    | with_reducible apply ite_run
    | (with_reducible apply each_run; intro _ _ _)
    | (with_reducible apply foldl_run; intro _ _ _)
    | (with_reducible apply foldl_proj_run Prod.snd; intro _ _ _)
    | (with_reducible apply foldl_proj_run Prod.fst; intro _ _ _)
    | with_reducible apply RunOpt.map
    | with_reducible apply run_of_snd (by with_reducible assumption)
    | with_reducible apply run_of_fst (by with_reducible assumption)
    | with_reducible apply getD_run
    | with_reducible apply r2
    | split
    | dsimp only
    | intro _ _

theorem serveStray_run {f K s0} (hf : 9223510523767685057 ||| f = f)
    (hK : ∀ x, x ∈ ([0x100003, 0x100102, 0x100108, 0x120103, 0x201108, 0x202003, 0x300004, 0x310202, 0x410102, 0x41100A, 0x505005, 0x600001,
       0x600002, 0x600003, 0x600004, 0x600007, 0x600203, 0x600206, 0x620103, 0x700103, 0x700208, 0x900103, 0x900202, 0x900203,
       0x902004, 0xA10001, 0xA10006, 0xA20005, 0xA20006, 0xA20007, 0xB01004, 0xB01005, 0xB01006, 0xB01008, 0xB01102, 0xB10002,
       0xB20101, 0xB20102, 0xB20103, 0xB20104] : List Nat) → x ∈ K) {s}
    (h : Run f K s0 s) : Run f K s0 (State.serveStray s) := by
  have r1 := @forwardPdx_run f K s0 (orr hf rfl) (sbk hK rfl)
  have r2 := @respond_run f K s0 (orr hf rfl) (sbk hK rfl)
  have r3 := @serveLocal_run f K s0 (orr hf rfl) (sbk hK rfl)
  have cany := orr (a := 2 ^ 63) hf rfl
  have j0 := sbk (a := [PD.PDX_FRAMES]) hK rfl
  have j1 := sbk (a := [PD.PDX_BAD_FRAMES]) hK rfl
  have u0 := orr (a := 549755813888) hf rfl
  unfold State.serveStray
  repeat' first
    | with_reducible assumption
    | with_reducible apply bump_run j0
    | with_reducible apply bump_run j1
    | with_reducible apply r1
    | with_reducible apply r2
    | with_reducible apply r3
    | with_reducible apply ite_run
    | split
    | with_reducible apply run_upd_dict u0
    | dsimp only
    | intro _ _

theorem thawPorts_run {f K s0} (hf : 68719476736 ||| f = f)
    (hK : ∀ x, x ∈ ([] : List Nat) → x ∈ K) {s}
    (h : Run f K s0 s) : Run f K s0 (State.thawPorts s) := by
  have r1 := @setPort_run f K s0 (orr hf rfl) (sbk hK rfl)
  unfold State.thawPorts
  repeat' first
    | with_reducible assumption
    | with_reducible apply r1
    | (with_reducible apply each_run; intro _ _ _)
    | split
    | dsimp only
    | intro _ _

theorem thaw_run {f K s0} (hf : 119232037439425 ||| f = f)
    (hK : ∀ x, x ∈ ([0x202003, 0x600002, 0x600003, 0x600004, 0x600007, 0x600203, 0xA10001, 0xA10006, 0xB01006] : List Nat) → x ∈ K) {s x1}
    (h : Run f K s0 s) : Run f K s0 (State.thaw s x1) := by
  have r1 := @courseActions_run f K s0 (orr hf rfl) (sbk hK rfl)
  have r2 := @thawPorts_run f K s0 (orr hf rfl) (sbk hK rfl)
  have r3 := @courseRestart_run f K s0 (orr hf rfl) (sbk hK rfl)
  have r4 := @enter_run f K s0 (orr hf rfl) (sbk hK rfl)
  have u0 := orr (a := 8796093022208) hf rfl
  have u1 := orr (a := 1073741824) hf rfl
  unfold State.thaw
  repeat' first
    | with_reducible assumption
    | with_reducible apply r1
    | with_reducible apply r2
    | with_reducible apply r3
    | with_reducible apply r4
    | with_reducible apply ite_run
    | split
    | with_reducible apply run_upd_freeze u0
    | with_reducible apply run_upd_step u1
    | dsimp only
    | intro _ _

theorem writeWord_run {f K s0} (hf : 40092968994497 ||| f = f)
    (hK : ∀ x, x ∈ ([0x110103, 0x600002, 0x600003, 0x600004, 0x600007, 0x600203, 0x800201, 0x800202, 0x800203, 0x800204, 0x800205, 0xA10001,
       0xA10006] : List Nat) → x ∈ K) {s x1 x2 x3}
    (h : Run f K s0 s) : Run f K s0 (State.writeWord s x1 x2 x3) := by
  have r1 := @wordLost_run f K s0 (orr hf rfl) (sbk hK rfl)
  have r2 := @readStruck_run f K s0 (orr hf rfl) (sbk hK rfl)
  have r3 := @xorWord_run f K s0 (orr hf rfl) (sbk hK rfl)
  have cm := orr (a := 8589934592) hf rfl
  unfold State.writeWord
  repeat' first
    | with_reducible assumption
    | with_reducible apply write_run cm
    | with_reducible apply r1
    | with_reducible apply r3
    | with_reducible apply ite_run
    | with_reducible apply run_of_snd (by with_reducible assumption)
    | with_reducible apply r2
    | split
    | dsimp only
    | intro _ _

theorem execReadStaged_run {f K s0} (hf : 9223510523767685057 ||| f = f)
    (hK : ∀ x, x ∈ ([0x100003, 0x100102, 0x100108, 0x120103, 0x201108, 0x202003, 0x300004, 0x310202, 0x410102, 0x41100A, 0x505005, 0x600001,
       0x600002, 0x600003, 0x600004, 0x600007, 0x600203, 0x600206, 0x620103, 0x700103, 0x700208, 0x900103, 0x900202, 0x900203,
       0x902004, 0xA10001, 0xA10006, 0xA20005, 0xA20006, 0xA20007, 0xB01004, 0xB01005, 0xB01006, 0xB01008, 0xB01102, 0xB10002,
       0xB20101, 0xB20102, 0xB20103, 0xB20104] : List Nat) → x ∈ K) {s x0 x1}
    (h : Run f K s0 s) : RunRes f K s0 (execReadStaged x0 x1 s) := by
  have r1 := @pdx_run f K s0 (orr hf rfl) (sbk hK rfl)
  unfold execReadStaged
  repeat' first
    | with_reducible assumption
    | with_reducible apply r1
    | with_reducible apply RunRes.next
    | split
    | dsimp only
    | intro _ _

theorem execResetAssert_run {f K s0} (hf : 9223407221226864631 ||| f = f)
    (hK : ∀ x, x ∈ ([0x210202, 0xA10001, 0xA10005, 0xB00001, 0xB00004] : List Nat) → x ∈ K) {s x0}
    (h : Run f K s0 s) : RunRes f K s0 (execResetAssert x0 s) := by
  have c := @keepOver_run f K s0 (orr hf rfl)
  have cany := orr (a := 2 ^ 63) hf rfl
  unfold execResetAssert
  dsimp only
  split
  · exact RunRes.next h
  · split
    · exact RunRes.next (run_upd_resetN_pwrGood (orr hf rfl) h)
    · exact RunRes.next (pdSet_run_any cany (run_upd_resetN_pwrGood (orr hf rfl) (c (.inr rfl) h)))

theorem execFirmwareStagingGrant_run {f K s0} (hf : 127964255617024 ||| f = f)
    (hK : ∀ x, x ∈ ([0xA01003, 0xA10001, 0xA10006, 0xB01005, 0xB01006] : List Nat) → x ∈ K) {s x0}
    (h : Run f K s0 s) : RunRes f K s0 (execFirmwareStagingGrant x0 s) := by
  have r1 := @grant_run f K s0 (orr hf rfl) (sbk hK rfl)
  have r2 := @fwOperate_run f K s0 (orr hf rfl) (sbk hK rfl)
  have r3 := @fwFail_run f K s0 (orr hf rfl) (sbk hK rfl)
  have u0 := orr (a := 17592186044416) hf rfl
  unfold execFirmwareStagingGrant
  repeat' first
    | with_reducible assumption
    | with_reducible apply r2
    | with_reducible apply r3
    | with_reducible apply RunRes.ite
    | with_reducible apply ite_run
    | with_reducible apply RunRes.next
    | with_reducible apply run_of_snd (by with_reducible assumption)
    | with_reducible apply r1
    | split
    | with_reducible apply run_upd_fw u0
    | dsimp only
    | intro _ _

theorem execBar2Read_run {f K s0} (hf : 40084379059905 ||| f = f)
    (hK : ∀ x, x ∈ ([0x110103, 0x600002, 0x600003, 0x600004, 0x600007, 0x600203, 0x800201, 0x800202, 0x800203, 0x800204, 0x800205, 0x800303,
       0xA10001, 0xA10006] : List Nat) → x ∈ K) {s x0 x1 x2 x3}
    (h : Run f K s0 s) : RunRes f K s0 (execBar2Read x0 x1 x2 x3 s) := by
  have r1 := @readWord_run f K s0 (orr hf rfl) (sbk hK rfl)
  have r2 := @emit_run f K s0 (orr hf rfl) (sbk hK rfl)
  have j0 := sbk (a := [PD.BAR2_ABORTS]) hK rfl
  unfold execBar2Read
  repeat' first
    | with_reducible assumption
    | with_reducible apply bump_run j0
    | with_reducible apply r2
    | with_reducible apply RunRes.ite
    | with_reducible apply ite_run
    | with_reducible apply RunRes.next
    | with_reducible apply RunRes.fault
    | (with_reducible apply foldl_run; intro _ _ _)
    | (with_reducible apply foldl_proj_run Prod.snd; intro _ _ _)
    | (with_reducible apply foldl_proj_run Prod.fst; intro _ _ _)
    | with_reducible apply run_of_snd (by with_reducible assumption)
    | with_reducible apply run_of_fst (by with_reducible assumption)
    | with_reducible apply r1
    | split
    | dsimp only
    | intro _ _

theorem execCourseScheduledFreeze_run {f K s0} (hf : 45492293600193 ||| f = f)
    (hK : ∀ x, x ∈ ([0x201108, 0xA20006, 0xA20007] : List Nat) → x ∈ K) {s}
    (h : Run f K s0 s) : RunRes f K s0 (execCourseScheduledFreeze s) := by
  have r1 := @fire_run f K s0 (orr hf rfl) (sbk hK rfl)
  have r2 := @freezeRequest_run f K s0 (orr hf rfl) (sbk hK rfl)
  unfold execCourseScheduledFreeze
  repeat' first
    | with_reducible assumption
    | with_reducible apply r2
    | with_reducible apply RunRes.next
    | with_reducible apply run_of_some (by with_reducible assumption)
    | with_reducible apply run_of_some_snd (by with_reducible assumption)
    | with_reducible apply r1
    | split
    | dsimp only
    | intro _ _

theorem execRunEntry_run {f K s0} (hf : 36697274320833 ||| f = f)
    (hK : ∀ x, x ∈ ([0x202003, 0x600004] : List Nat) → x ∈ K) {s}
    (h : Run f K s0 s) : RunRes f K s0 (execRunEntry s) := by
  have r1 := @advanceTo_run f K s0 (orr hf rfl) (sbk hK rfl)
  have r2 := @beginAttempt_run f K s0 (orr hf rfl) (sbk hK rfl)
  have r3 := @unpauseStreams_run f K s0 (orr hf rfl) (sbk hK rfl)
  have r4 := @enter_run f K s0 (orr hf rfl) (sbk hK rfl)
  unfold execRunEntry
  repeat' first
    | with_reducible assumption
    | with_reducible apply r1
    | with_reducible apply r2
    | with_reducible apply r3
    | with_reducible apply r4
    | with_reducible apply RunRes.ite
    | with_reducible apply ite_run
    | with_reducible apply RunRes.next
    | split
    | dsimp only
    | intro _ _

theorem execRead_run {f K s0} (hf : 9223510523767685057 ||| f = f)
    (hK : ∀ x, x ∈ ([0x100003, 0x100102, 0x100108, 0x120103, 0x201108, 0x202003, 0x300004, 0x310202, 0x410102, 0x41100A, 0x505005, 0x600001,
       0x600002, 0x600003, 0x600004, 0x600007, 0x600203, 0x600206, 0x620103, 0x700103, 0x700208, 0x900103, 0x900202, 0x900203,
       0x902004, 0xA10001, 0xA10006, 0xA20005, 0xA20006, 0xA20007, 0xB01004, 0xB01005, 0xB01006, 0xB01008, 0xB01102, 0xB10002,
       0xB20101, 0xB20102, 0xB20103, 0xB20104] : List Nat) → x ∈ K) {s x0 x1}
    (h : Run f K s0 s) : RunRes f K s0 (execRead x0 x1 s) := by
  have r1 := @pdx_run f K s0 (orr hf rfl) (sbk hK rfl)
  unfold execRead
  repeat' first
    | with_reducible assumption
    | with_reducible apply r1
    | with_reducible apply RunRes.next
    | split
    | dsimp only
    | intro _ _

theorem execReadoutEnd_run {f K s0} (hf : 119232037439425 ||| f = f)
    (hK : ∀ x, x ∈ ([0x202003, 0x600002, 0x600003, 0x600004, 0x600007, 0x600203, 0xA10001, 0xA10006, 0xB01006] : List Nat) → x ∈ K) {s x0 x1}
    (h : Run f K s0 s) : RunRes f K s0 (execReadoutEnd x0 x1 s) := by
  have r1 := @fresh_run f K s0 (orr hf rfl) (sbk hK rfl)
  have r2 := @thaw_run f K s0 (orr hf rfl) (sbk hK rfl)
  have r3 := @frozenNs_run f K s0 (orr hf rfl) (sbk hK rfl)
  have r4 := @emits_run f K s0 (orr hf rfl) (sbk hK rfl)
  have u0 := orr (a := 8796093022208) hf rfl
  unfold execReadoutEnd
  repeat' first
    | with_reducible assumption
    | with_reducible apply r2
    | with_reducible apply r4
    | with_reducible apply RunRes.ite
    | with_reducible apply ite_run
    | with_reducible apply RunRes.next
    | with_reducible apply run_of_snd (by with_reducible assumption)
    | with_reducible apply r1
    | with_reducible apply r3
    | split
    | with_reducible apply run_upd_freeze u0
    | dsimp only
    | intro _ _

theorem execDecisionReceived_run {f K s0} (hf : 40067199190721 ||| f = f)
    (hK : ∀ x, x ∈ ([0x202003, 0x600002, 0x600003, 0x600004, 0x600007, 0x600203, 0x600205, 0xA10001, 0xA10006] : List Nat) → x ∈ K) {s x0 x1}
    (h : Run f K s0 s) : RunRes f K s0 (execDecisionReceived x0 x1 s) := by
  have r1 := @takeMessage_run f K s0 (orr hf rfl) (sbk hK rfl)
  have r2 := @sendVote_run f K s0 (orr hf rfl) (sbk hK rfl)
  have r3 := @takeDecision_run f K s0 (orr hf rfl) (sbk hK rfl)
  have j0 := sbk (a := [PD.VOTE_MSG_ERR]) hK rfl
  unfold execDecisionReceived
  repeat' first
    | with_reducible assumption
    | with_reducible apply bump_run j0
    | with_reducible apply r1
    | with_reducible apply r2
    | with_reducible apply r3
    | with_reducible apply RunRes.ite
    | with_reducible apply ite_run
    | with_reducible apply RunRes.next
    | (with_reducible apply each_run; intro _ _ _)
    | split
    | dsimp only
    | intro _ _

theorem execBridgeFlit_run {f K s0} (hf : 40101558929089 ||| f = f)
    (hK : ∀ x, x ∈ ([0x110103, 0x600002, 0x600003, 0x600004, 0x600007, 0x600203, 0xA10001, 0xA10006] : List Nat) → x ∈ K) {s x0 x1 x2}
    (h : Run f K s0 s) : RunRes f K s0 (execBridgeFlit x0 x1 x2 s) := by
  have r1 := @bridgeFailed_run f K s0 (orr hf rfl) (sbk hK rfl)
  have r2 := @setBridge_run f K s0 (orr hf rfl) (sbk hK rfl)
  unfold execBridgeFlit
  repeat' first
    | with_reducible assumption
    | with_reducible apply r1
    | with_reducible apply r2
    | with_reducible apply RunRes.ite
    | with_reducible apply ite_run
    | with_reducible apply RunRes.next
    | with_reducible apply getD_run
    | split
    | dsimp only
    | intro _ _

theorem execFreezeAt_run {f K s0} (hf : 512 ||| f = f)
    (hK : ∀ x, x ∈ ([0x202003, 0xA20005] : List Nat) → x ∈ K) {s x0}
    (h : Run f K s0 s) : RunRes f K s0 (execFreezeAt x0 s) := by
  have r1 := @freezeAtCmd_run f K s0 (orr hf rfl) (sbk hK rfl)
  unfold execFreezeAt
  repeat' first
    | with_reducible assumption
    | with_reducible apply r1
    | with_reducible apply RunRes.ite
    | with_reducible apply ite_run
    | with_reducible apply RunRes.next
    | split
    | dsimp only
    | intro _ _

theorem execArpNdAndEchoRequest_run {f K s0} (hf : 35184372088832 ||| f = f)
    (hK : ∀ x, x ∈ ([] : List Nat) → x ∈ K) {s x0}
    (h : Run f K s0 s) : RunRes f K s0 (execArpNdAndEchoRequest x0 s) := by
  have r1 := @emit_run f K s0 (orr hf rfl) (sbk hK rfl)
  unfold execArpNdAndEchoRequest
  repeat' first
    | with_reducible assumption
    | with_reducible apply r1
    | with_reducible apply RunRes.ite
    | with_reducible apply ite_run
    | with_reducible apply RunRes.next
    | split
    | dsimp only
    | intro _ _

theorem execMemoryStepDone_run {f K s0} (hf : 121456830498497 ||| f = f)
    (hK : ∀ x, x ∈ ([0x110001, 0x41100A, 0x600002, 0x600003, 0x600004, 0x600007, 0x600203, 0x800001, 0xA10001, 0xA10006] : List Nat) → x ∈ K) {s x0 x1 x2}
    (h : Run f K s0 s) : RunRes f K s0 (execMemoryStepDone x0 x1 x2 s) := by
  have r1 := @memoryStep_run f K s0 (orr hf rfl) (sbk hK rfl)
  have r2 := @started_run f K s0 (orr hf rfl) (sbk hK rfl)
  have r3 := @fillMemory_run f K s0 (orr hf rfl) (sbk hK rfl)
  unfold execMemoryStepDone
  repeat' first
    | with_reducible assumption
    | with_reducible apply r1
    | with_reducible apply r2
    | with_reducible apply RunRes.ite
    | with_reducible apply ite_run
    | with_reducible apply RunRes.next
    | with_reducible apply run_of_snd (by with_reducible assumption)
    | with_reducible apply r3
    | split
    | dsimp only
    | intro _ _

theorem execFirmwareActivation_run {f K s0} (hf : 131882375972801 ||| f = f)
    (hK : ∀ x, x ∈ ([0x202003, 0x210202, 0x600003, 0x600004, 0xA10001, 0xA10006, 0xB00004, 0xB01005, 0xB01006, 0xB01101] : List Nat) → x ∈ K) {s}
    (h : Run f K s0 s) : RunRes f K s0 (execFirmwareActivation s) := by
  have r1 := @fire_run f K s0 (orr hf rfl) (sbk hK rfl)
  have r2 := @activate_run f K s0 (orr hf rfl) (sbk hK rfl)
  have j0 := sbk (a := [PD.FW_RESULT]) hK rfl
  have u0 := orr (a := 17592186044416) hf rfl
  unfold execFirmwareActivation
  repeat' first
    | with_reducible assumption
    | with_reducible apply setNum_run j0
    | with_reducible apply r2
    | with_reducible apply RunRes.ite
    | with_reducible apply ite_run
    | with_reducible apply RunRes.next
    | with_reducible apply run_of_some (by with_reducible assumption)
    | with_reducible apply run_of_some_snd (by with_reducible assumption)
    | with_reducible apply r1
    | split
    | with_reducible apply run_upd_fw u0
    | dsimp only
    | intro _ _

theorem execPdxForwardedResponse_run {f K s0} (hf : 35802847379456 ||| f = f)
    (hK : ∀ x, x ∈ ([0x700208] : List Nat) → x ∈ K) {s x0}
    (h : Run f K s0 s) : RunRes f K s0 (execPdxForwardedResponse x0 s) := by
  have r1 := @respond_run f K s0 (orr hf rfl) (sbk hK rfl)
  have r2 := @takeMessage_run f K s0 (orr hf rfl) (sbk hK rfl)
  have u0 := orr (a := 549755813888) hf rfl
  unfold execPdxForwardedResponse
  repeat' first
    | with_reducible assumption
    | with_reducible apply r1
    | with_reducible apply r2
    | with_reducible apply RunRes.ite
    | with_reducible apply ite_run
    | with_reducible apply RunRes.next
    | split
    | with_reducible apply run_upd_dict u0
    | dsimp only
    | intro _ _

theorem execStateReqArm_run {f K s0} (hf : 39995809990337 ||| f = f)
    (hK : ∀ x, x ∈ ([0x100003, 0x600001, 0x600002, 0x600003, 0x600004] : List Nat) → x ∈ K) {s}
    (h : Run f K s0 s) : RunRes f K s0 (execStateReqArm s) := by
  have r1 := @stateReq_run f K s0 (orr hf rfl) (sbk hK rfl)
  unfold execStateReqArm
  repeat' first
    | with_reducible assumption
    | with_reducible apply r1
    | with_reducible apply RunRes.ite
    | with_reducible apply ite_run
    | with_reducible apply RunRes.next
    | split
    | dsimp only
    | intro _ _

theorem execOwnerKey_run {f K s0} (hf : 549755813888 ||| f = f)
    (hK : ∀ x, x ∈ ([] : List Nat) → x ∈ K) {s x0 x1 x2}
    (h : Run f K s0 s) : RunRes f K s0 (execOwnerKey x0 x1 x2 s) := by
  have r1 := @setOwnerKey_run f K s0 (orr hf rfl) (sbk hK rfl)
  unfold execOwnerKey
  repeat' first
    | with_reducible assumption
    | with_reducible apply RunRes.next
    | with_reducible apply run_of_snd (by with_reducible assumption)
    | with_reducible apply r1
    | split
    | dsimp only
    | intro _ _

theorem execFreezeN_run {f K s0} (hf : 119232037439433 ||| f = f)
    (hK : ∀ x, x ∈ ([0x201108, 0x202003, 0x600002, 0x600003, 0x600004, 0x600007, 0x600203, 0xA10001, 0xA10006, 0xA20006, 0xA20007, 0xB01006] : List Nat) → x ∈ K) {s x0}
    (h : Run f K s0 s) : RunRes f K s0 (execFreezeN x0 s) := by
  have r1 := @thaw_run f K s0 (orr hf rfl) (sbk hK rfl)
  have r2 := @freezeRequest_run f K s0 (orr hf rfl) (sbk hK rfl)
  have r3 := @frozenNs_run f K s0 (orr hf rfl) (sbk hK rfl)
  have u0 := orr (a := 8) hf rfl
  unfold execFreezeN
  repeat' first
    | with_reducible assumption
    | with_reducible apply r1
    | with_reducible apply r2
    | with_reducible apply RunRes.ite
    | with_reducible apply ite_run
    | with_reducible apply RunRes.next
    | with_reducible apply run_of_snd (by with_reducible assumption)
    | with_reducible apply r3
    | split
    | with_reducible apply run_upd_freezeN u0
    | dsimp only
    | intro _ _

theorem execLockLoss_run {f K s0} (hf : 0 ||| f = f)
    (hK : ∀ x, x ∈ ([0x210103] : List Nat) → x ∈ K) {s x0}
    (h : Run f K s0 s) : RunRes f K s0 (execLockLoss x0 s) := by
  have j0 := sbk (a := [PD.LOCK_LOSSES]) hK rfl
  unfold execLockLoss
  repeat' first
    | with_reducible assumption
    | with_reducible apply bump_run j0
    | with_reducible apply RunRes.ite
    | with_reducible apply ite_run
    | with_reducible apply RunRes.next
    | split
    | dsimp only
    | intro _ _

theorem execForwardTimeout_run {f K s0} (hf : 35802847379456 ||| f = f)
    (hK : ∀ x, x ∈ ([0x700208, 0xB20101] : List Nat) → x ∈ K) {s x0}
    (h : Run f K s0 s) : RunRes f K s0 (execForwardTimeout x0 s) := by
  have r1 := @respond_run f K s0 (orr hf rfl) (sbk hK rfl)
  have j0 := sbk (a := [PD.PDX_FRAMES]) hK rfl
  have u0 := orr (a := 549755813888) hf rfl
  unfold execForwardTimeout
  repeat' first
    | with_reducible assumption
    | with_reducible apply bump_run j0
    | with_reducible apply r1
    | with_reducible apply RunRes.ite
    | with_reducible apply ite_run
    | with_reducible apply RunRes.next
    | split
    | with_reducible apply run_upd_dict u0
    | dsimp only
    | intro _ _

theorem execDomainSnapshot_run {f K s0} (hf : 2199023255552 ||| f = f)
    (hK : ∀ x, x ∈ ([] : List Nat) → x ∈ K) {s}
    (h : Run f K s0 s) : RunRes f K s0 (execDomainSnapshot s) := by
  have u0 := orr (a := 2199023255552) hf rfl
  unfold execDomainSnapshot
  repeat' first
    | with_reducible assumption
    | with_reducible apply RunRes.ite
    | with_reducible apply ite_run
    | with_reducible apply RunRes.next
    | split
    | with_reducible apply run_upd_clk u0
    | dsimp only
    | intro _ _

theorem execLoopLockTimeout_run {f K s0} (hf : 121431059646145 ||| f = f)
    (hK : ∀ x, x ∈ ([0x600002, 0x600003, 0x600004, 0x600007, 0x600203, 0xA10001, 0xA10006] : List Nat) → x ∈ K) {s x0}
    (h : Run f K s0 s) : RunRes f K s0 (execLoopLockTimeout x0 s) := by
  have r1 := @fault_run f K s0 (orr hf rfl) (sbk hK rfl)
  have r2 := @started_run f K s0 (orr hf rfl) (sbk hK rfl)
  have r3 := @startSpall_run f K s0 (orr hf rfl) (sbk hK rfl)
  unfold execLoopLockTimeout
  repeat' first
    | with_reducible assumption
    | with_reducible apply r1
    | with_reducible apply r2
    | with_reducible apply r3
    | with_reducible apply RunRes.ite
    | with_reducible apply ite_run
    | with_reducible apply RunRes.next
    | split
    | dsimp only
    | intro _ _

theorem execPdxForward_run {f K s0} (hf : 9223510523767685057 ||| f = f)
    (hK : ∀ x, x ∈ ([0x100003, 0x100102, 0x100108, 0x120103, 0x201108, 0x202003, 0x300004, 0x310202, 0x410102, 0x41100A, 0x505005, 0x600001,
       0x600002, 0x600003, 0x600004, 0x600007, 0x600203, 0x600206, 0x620103, 0x700103, 0x700208, 0x900103, 0x900202, 0x900203,
       0x902004, 0xA10001, 0xA10006, 0xA20005, 0xA20006, 0xA20007, 0xB01004, 0xB01005, 0xB01006, 0xB01008, 0xB01102, 0xB10002,
       0xB20101, 0xB20102, 0xB20103, 0xB20104] : List Nat) → x ∈ K) {s x0 x1 x2}
    (h : Run f K s0 s) : RunRes f K s0 (execPdxForward x0 x1 x2 s) := by
  have r1 := @pdx_run f K s0 (orr hf rfl) (sbk hK rfl)
  unfold execPdxForward
  repeat' first
    | with_reducible assumption
    | with_reducible apply r1
    | with_reducible apply RunRes.next
    | split
    | dsimp only
    | intro _ _

theorem execFirmwareVerified_run {f K s0} (hf : 130154688938177 ||| f = f)
    (hK : ∀ x, x ∈ ([0xA10001, 0xA10006, 0xB01005, 0xB01006] : List Nat) → x ∈ K) {s}
    (h : Run f K s0 s) : RunRes f K s0 (execFirmwareVerified s) := by
  have r1 := @fresh_run f K s0 (orr hf rfl) (sbk hK rfl)
  have r2 := @started_run f K s0 (orr hf rfl) (sbk hK rfl)
  have r3 := @bootFails_run f K s0 (orr hf rfl) (sbk hK rfl)
  have u0 := orr (a := 19791209299968) hf rfl
  unfold execFirmwareVerified
  repeat' first
    | with_reducible assumption
    | with_reducible apply r2
    | with_reducible apply r3
    | with_reducible apply RunRes.ite
    | with_reducible apply ite_run
    | with_reducible apply RunRes.next
    | with_reducible apply run_of_snd (by with_reducible assumption)
    | with_reducible apply r1
    | split
    | with_reducible apply run_upd_clk_fw u0
    | dsimp only
    | intro _ _

theorem execDescribe_run {f K s0} (hf : 9223510523767685057 ||| f = f)
    (hK : ∀ x, x ∈ ([0x100003, 0x100102, 0x100108, 0x120103, 0x201108, 0x202003, 0x300004, 0x310202, 0x410102, 0x41100A, 0x505005, 0x600001,
       0x600002, 0x600003, 0x600004, 0x600007, 0x600203, 0x600206, 0x620103, 0x700103, 0x700208, 0x900103, 0x900202, 0x900203,
       0x902004, 0xA10001, 0xA10006, 0xA20005, 0xA20006, 0xA20007, 0xB01004, 0xB01005, 0xB01006, 0xB01008, 0xB01102, 0xB10002,
       0xB20101, 0xB20102, 0xB20103, 0xB20104] : List Nat) → x ∈ K) {s x0 x1}
    (h : Run f K s0 s) : RunRes f K s0 (execDescribe x0 x1 s) := by
  have r1 := @pdx_run f K s0 (orr hf rfl) (sbk hK rfl)
  unfold execDescribe
  repeat' first
    | with_reducible assumption
    | with_reducible apply r1
    | with_reducible apply RunRes.next
    | split
    | dsimp only
    | intro _ _

theorem execIrqMaskWrite_run {f K s0} (hf : 35596688949248 ||| f = f)
    (hK : ∀ x, x ∈ ([] : List Nat) → x ∈ K) {s x0 x1}
    (h : Run f K s0 s) : RunRes f K s0 (execIrqMaskWrite x0 x1 s) := by
  have r1 := @maskIrq_run f K s0 (orr hf rfl) (sbk hK rfl)
  unfold execIrqMaskWrite
  repeat' first
    | with_reducible assumption
    | with_reducible apply r1
    | with_reducible apply RunRes.ite
    | with_reducible apply ite_run
    | with_reducible apply RunRes.next
    | split
    | dsimp only
    | intro _ _

theorem execNext_run {f K s0} (hf : 9223510523767685057 ||| f = f)
    (hK : ∀ x, x ∈ ([0x100003, 0x100102, 0x100108, 0x120103, 0x201108, 0x202003, 0x300004, 0x310202, 0x410102, 0x41100A, 0x505005, 0x600001,
       0x600002, 0x600003, 0x600004, 0x600007, 0x600203, 0x600206, 0x620103, 0x700103, 0x700208, 0x900103, 0x900202, 0x900203,
       0x902004, 0xA10001, 0xA10006, 0xA20005, 0xA20006, 0xA20007, 0xB01004, 0xB01005, 0xB01006, 0xB01008, 0xB01102, 0xB10002,
       0xB20101, 0xB20102, 0xB20103, 0xB20104] : List Nat) → x ∈ K) {s x0 x1}
    (h : Run f K s0 s) : RunRes f K s0 (execNext x0 x1 s) := by
  have r1 := @pdx_run f K s0 (orr hf rfl) (sbk hK rfl)
  unfold execNext
  repeat' first
    | with_reducible assumption
    | with_reducible apply r1
    | with_reducible apply RunRes.next
    | split
    | dsimp only
    | intro _ _

theorem execResetRelease_run {f K s0} (hf : 37795712205047 ||| f = f)
    (hK : ∀ x, x ∈ ([] : List Nat) → x ∈ K) {s x0 x1 x2}
    (h : Run f K s0 s) : RunRes f K s0 (execResetRelease x0 x1 x2 s) := by
  have r1 := @enter_run f K s0 (orr hf rfl) (sbk hK rfl)
  have u0 := orr (a := 2199023255606) hf rfl
  unfold execResetRelease
  repeat' first
    | with_reducible assumption
    | with_reducible apply r1
    | with_reducible apply RunRes.ite
    | with_reducible apply ite_run
    | with_reducible apply RunRes.next
    | split
    | with_reducible apply run_upd_resetN_pwrGood_slotId_bondSide_clk u0
    | dsimp only
    | intro _ _

theorem execRefclkReturn_run {f K s0} (hf : 108233177170881 ||| f = f)
    (hK : ∀ x, x ∈ ([0x202003, 0x210102, 0x41100A, 0x700103] : List Nat) → x ∈ K) {s}
    (h : Run f K s0 s) : RunRes f K s0 (execRefclkReturn s) := by
  have r1 := @leaveCoast_run f K s0 (orr hf rfl) (sbk hK rfl)
  have u0 := orr (a := 2199023255552) hf rfl
  unfold execRefclkReturn
  repeat' first
    | with_reducible assumption
    | with_reducible apply r1
    | with_reducible apply RunRes.ite
    | with_reducible apply ite_run
    | with_reducible apply RunRes.next
    | split
    | with_reducible apply run_upd_clk u0
    | dsimp only
    | intro _ _

theorem execFlashReadsDone_run {f K s0} (hf : 130154690248897 ||| f = f)
    (hK : ∀ x, x ∈ ([0x41100A, 0x412004, 0x412005, 0xA10001, 0xA10006, 0xB01005, 0xB01006] : List Nat) → x ∈ K) {s}
    (h : Run f K s0 s) : RunRes f K s0 (execFlashReadsDone s) := by
  have r1 := @startCalibrate_run f K s0 (orr hf rfl) (sbk hK rfl)
  have r2 := @readSets_run f K s0 (orr hf rfl) (sbk hK rfl)
  have r3 := @bootFails_run f K s0 (orr hf rfl) (sbk hK rfl)
  have u0 := orr (a := 2199023255552) hf rfl
  unfold execFlashReadsDone
  repeat' first
    | with_reducible assumption
    | with_reducible apply r1
    | with_reducible apply r2
    | with_reducible apply r3
    | with_reducible apply RunRes.ite
    | with_reducible apply ite_run
    | with_reducible apply RunRes.next
    | split
    | with_reducible apply run_upd_clk u0
    | dsimp only
    | intro _ _

theorem execSessionIdleTimeout_run {f K s0} (hf : 36833639530752 ||| f = f)
    (hK : ∀ x, x ∈ ([] : List Nat) → x ∈ K) {s x0}
    (h : Run f K s0 s) : RunRes f K s0 (execSessionIdleTimeout x0 s) := by
  have r1 := @closeSession_run f K s0 (orr hf rfl) (sbk hK rfl)
  have r2 := @runTo_run f K s0 (orr hf rfl) (sbk hK rfl)
  unfold execSessionIdleTimeout
  repeat' first
    | with_reducible assumption
    | with_reducible apply r1
    | with_reducible apply r2
    | with_reducible apply RunRes.ite
    | with_reducible apply ite_run
    | with_reducible apply RunRes.next
    | split
    | dsimp only
    | intro _ _

theorem execCfgStageDefaults_run {f K s0} (hf : 36146444763136 ||| f = f)
    (hK : ∀ x, x ∈ ([0x100102, 0x100108] : List Nat) → x ∈ K) {s}
    (h : Run f K s0 s) : RunRes f K s0 (execCfgStageDefaults s) := by
  have r1 := @cfgCommand_run f K s0 (orr hf rfl) (sbk hK rfl)
  unfold execCfgStageDefaults
  repeat' first
    | with_reducible assumption
    | with_reducible apply r1
    | with_reducible apply RunRes.ite
    | with_reducible apply ite_run
    | with_reducible apply RunRes.next
    | split
    | dsimp only
    | intro _ _

theorem execRefclkLoss_run {f K s0} (hf : 113734479300545 ||| f = f)
    (hK : ∀ x, x ∈ ([0x201108, 0x202003, 0x210101, 0x600002, 0x600003, 0x600004, 0x600007, 0x600203, 0xA10001, 0xA10006, 0xB01006] : List Nat) → x ∈ K) {s}
    (h : Run f K s0 s) : RunRes f K s0 (execRefclkLoss s) := by
  have r1 := @coast_run f K s0 (orr hf rfl) (sbk hK rfl)
  have j0 := sbk (a := [PD.REFCLK_LOSSES]) hK rfl
  have u0 := orr (a := 2199023255552) hf rfl
  unfold execRefclkLoss
  repeat' first
    | with_reducible assumption
    | with_reducible apply bump_run j0
    | with_reducible apply r1
    | with_reducible apply RunRes.ite
    | with_reducible apply ite_run
    | with_reducible apply RunRes.next
    | split
    | with_reducible apply run_upd_clk u0
    | dsimp only
    | intro _ _

theorem execMboxReqLen_run {f K s0} (hf : 962072674304 ||| f = f)
    (hK : ∀ x, x ∈ ([0x120102] : List Nat) → x ∈ K) {s x0 x1}
    (h : Run f K s0 s) : RunRes f K s0 (execMboxReqLen x0 x1 s) := by
  have r1 := @mailStart_run f K s0 (orr hf rfl) (sbk hK rfl)
  unfold execMboxReqLen
  repeat' first
    | with_reducible assumption
    | with_reducible apply r1
    | with_reducible apply RunRes.ite
    | with_reducible apply ite_run
    | with_reducible apply RunRes.next
    | split
    | dsimp only
    | intro _ _

theorem execCfgValidationDone_run {f K s0} (hf : 9223409351530644224 ||| f = f)
    (hK : ∀ x, x ∈ ([0x100102, 0x100103, 0x100105, 0x202003, 0x700103] : List Nat) → x ∈ K) {s}
    (h : Run f K s0 s) : RunRes f K s0 (execCfgValidationDone s) := by
  have r1 := @silence_run f K s0 (orr hf rfl) (sbk hK rfl)
  have r2 := @applyConfig_run f K s0 (orr hf rfl) (sbk hK rfl)
  have cany := orr (a := 2 ^ 63) hf rfl
  have j0 := sbk (a := [PD.CFG_STATUS]) hK rfl
  have j1 := sbk (a := [PD.CFG_FAULTS]) hK rfl
  have cr := orr (a := 35596688949248) hf rfl
  unfold execCfgValidationDone
  repeat' first
    | with_reducible assumption
    | with_reducible apply result_run cr j0
    | with_reducible apply setRows_run j1
    | with_reducible apply r1
    | with_reducible apply r2
    | with_reducible apply RunRes.ite
    | with_reducible apply ite_run
    | with_reducible apply RunRes.next
    | split
    | dsimp only
    | intro _ _

theorem execWritebackEnd_run {f K s0} (hf : 130787180300225 ||| f = f)
    (hK : ∀ x, x ∈ ([0x120103, 0x202003, 0x210202, 0x40100D, 0x401101, 0x502101, 0x502104, 0x502105, 0x502106, 0x505005, 0x507001, 0x507003,
       0x600003, 0x600004, 0x620103, 0x620209, 0x62020A, 0xA10001, 0xA10006, 0xB00004, 0xB01005, 0xB01006, 0xB01101] : List Nat) → x ∈ K) {s}
    (h : Run f K s0 s) : RunRes f K s0 (execWritebackEnd s) := by
  have r1 := @dropEvents_run f K s0 (orr hf rfl) (sbk hK rfl)
  have r2 := @leaveFor_run f K s0 (orr hf rfl) (sbk hK rfl)
  have r3 := @histDueNow_run f K s0 (orr hf rfl) (sbk hK rfl)
  have r4 := @activate_run f K s0 (orr hf rfl) (sbk hK rfl)
  have r5 := @patchPhase_run f K s0 (orr hf rfl) (sbk hK rfl)
  have r6 := @imageDueNow_run f K s0 (orr hf rfl) (sbk hK rfl)
  have r7 := @preload_run f K s0 (orr hf rfl) (sbk hK rfl)
  have u0 := orr (a := 1073741824) hf rfl
  unfold execWritebackEnd
  repeat' first
    | with_reducible assumption
    | with_reducible apply r1
    | with_reducible apply r2
    | with_reducible apply r3
    | with_reducible apply r4
    | with_reducible apply r5
    | with_reducible apply r6
    | with_reducible apply r7
    | with_reducible apply RunRes.ite
    | with_reducible apply ite_run
    | with_reducible apply RunRes.next
    | with_reducible apply getD_run
    | split
    | with_reducible apply run_upd_step u0
    | dsimp only
    | intro _ _

theorem execMsixTableWrite_run {f K s0} (hf : 35596688949248 ||| f = f)
    (hK : ∀ x, x ∈ ([] : List Nat) → x ∈ K) {s x0 x1 x2 x3}
    (h : Run f K s0 s) : RunRes f K s0 (execMsixTableWrite x0 x1 x2 x3 s) := by
  have r1 := @msixWrite_run f K s0 (orr hf rfl) (sbk hK rfl)
  unfold execMsixTableWrite
  repeat' first
    | with_reducible assumption
    | with_reducible apply r1
    | with_reducible apply RunRes.ite
    | with_reducible apply ite_run
    | with_reducible apply RunRes.next
    | split
    | dsimp only
    | intro _ _

theorem execLocalVerdict_run {f K s0} (hf : 40071498352321 ||| f = f)
    (hK : ∀ x, x ∈ ([0x202003, 0x502101, 0x502106, 0x600002, 0x600003, 0x600004, 0x600007, 0x600203, 0x610107, 0x700208, 0xA10001,
       0xA10006] : List Nat) → x ∈ K) {s}
    (h : Run f K s0 s) : RunRes f K s0 (execLocalVerdict s) := by
  have r1 := @formVerdict_run f K s0 (orr hf rfl) (sbk hK rfl)
  have r2 := @progress_run f K s0 (orr hf rfl) (sbk hK rfl)
  unfold execLocalVerdict
  repeat' first
    | with_reducible assumption
    | with_reducible apply r1
    | with_reducible apply r2
    | with_reducible apply RunRes.ite
    | with_reducible apply ite_run
    | with_reducible apply RunRes.next
    | split
    | dsimp only
    | intro _ _

theorem execCommitEvent_run {f K s0} (hf : 9223431289673926593 ||| f = f)
    (hK : ∀ x, x ∈ ([0x100102, 0x120103, 0x202003, 0x320103, 0x411004, 0x411008, 0x501103, 0x502103, 0x504102, 0x505005, 0x508105, 0x600001, 0x600002,
       0x600003, 0x600004, 0x600007, 0x600201, 0x600202, 0x610103, 0x615103, 0x620103, 0x620201, 0x620208, 0xA00107, 0xA01003,
       0xA10001, 0xA10006] : List Nat) → x ∈ K) {s}
    (h : Run f K s0 s) : RunRes f K s0 (execCommitEvent s) := by
  have r1 := @fire_run f K s0 (orr hf rfl) (sbk hK rfl)
  have r2 := @nextAttempt_run f K s0 (orr hf rfl) (sbk hK rfl)
  have r3 := @applyCommit_run f K s0 (orr hf rfl) (sbk hK rfl)
  have r4 := @applyVoid_run f K s0 (orr hf rfl) (sbk hK rfl)
  unfold execCommitEvent
  repeat' first
    | with_reducible assumption
    | with_reducible apply r2
    | with_reducible apply r3
    | with_reducible apply r4
    | with_reducible apply RunRes.ite
    | with_reducible apply ite_run
    | with_reducible apply RunRes.next
    | with_reducible apply run_of_some (by with_reducible assumption)
    | with_reducible apply run_of_some_snd (by with_reducible assumption)
    | with_reducible apply r1
    | split
    | dsimp only
    | intro _ _

theorem execVoteDeadline_run {f K s0} (hf : 41166710818753 ||| f = f)
    (hK : ∀ x, x ∈ ([0x202003, 0x600002, 0x600003, 0x600004, 0x600007, 0x600203, 0xA10001, 0xA10006] : List Nat) → x ∈ K) {s}
    (h : Run f K s0 s) : RunRes f K s0 (execVoteDeadline s) := by
  have r1 := @fireDeadline_run f K s0 (orr hf rfl) (sbk hK rfl)
  have r2 := @rootDecides_run f K s0 (orr hf rfl) (sbk hK rfl)
  have r3 := @sendVerdict_run f K s0 (orr hf rfl) (sbk hK rfl)
  unfold execVoteDeadline
  repeat' first
    | with_reducible assumption
    | with_reducible apply r2
    | with_reducible apply r3
    | with_reducible apply RunRes.ite
    | with_reducible apply ite_run
    | with_reducible apply RunRes.next
    | with_reducible apply run_of_some (by with_reducible assumption)
    | with_reducible apply run_of_some_snd (by with_reducible assumption)
    | with_reducible apply r1
    | split
    | dsimp only
    | intro _ _

theorem execVerdictReceived_run {f K s0} (hf : 40067199190721 ||| f = f)
    (hK : ∀ x, x ∈ ([0x202003, 0x600002, 0x600003, 0x600004, 0x600007, 0x600203, 0x600204, 0x600205, 0xA10001, 0xA10006] : List Nat) → x ∈ K) {s x0 x1}
    (h : Run f K s0 s) : RunRes f K s0 (execVerdictReceived x0 x1 s) := by
  have r1 := @progress_run f K s0 (orr hf rfl) (sbk hK rfl)
  have r2 := @takeMessage_run f K s0 (orr hf rfl) (sbk hK rfl)
  have j0 := sbk (a := [PD.VERDICTS_LATE]) hK rfl
  have j1 := sbk (a := [PD.VOTE_MSG_ERR]) hK rfl
  have u0 := orr (a := 1073741824) hf rfl
  unfold execVerdictReceived
  repeat' first
    | with_reducible assumption
    | with_reducible apply bump_run j0
    | with_reducible apply bump_run j1
    | with_reducible apply r1
    | with_reducible apply r2
    | with_reducible apply RunRes.ite
    | with_reducible apply ite_run
    | with_reducible apply RunRes.next
    | with_reducible apply getD_run
    | split
    | with_reducible apply run_upd_step u0
    | dsimp only
    | intro _ _

theorem execBar2Write_run {f K s0} (hf : 40092968994497 ||| f = f)
    (hK : ∀ x, x ∈ ([0x110103, 0x600002, 0x600003, 0x600004, 0x600007, 0x600203, 0x800201, 0x800202, 0x800203, 0x800204, 0x800205, 0x800302,
       0xA10001, 0xA10006] : List Nat) → x ∈ K) {s x0 x1 x2 x3}
    (h : Run f K s0 s) : RunRes f K s0 (execBar2Write x0 x1 x2 x3 s) := by
  have r1 := @writeWord_run f K s0 (orr hf rfl) (sbk hK rfl)
  have j0 := sbk (a := [PD.BAR2_DISCARDED]) hK rfl
  unfold execBar2Write
  repeat' first
    | with_reducible assumption
    | with_reducible apply bump_run j0
    | with_reducible apply r1
    | with_reducible apply RunRes.ite
    | with_reducible apply ite_run
    | with_reducible apply RunRes.next
    | with_reducible apply RunRes.fault
    | (with_reducible apply each_run; intro _ _ _)
    | split
    | dsimp only
    | intro _ _

theorem execStateReqHold_run {f K s0} (hf : 39995809990337 ||| f = f)
    (hK : ∀ x, x ∈ ([0x100003, 0x600001, 0x600002, 0x600003, 0x600004] : List Nat) → x ∈ K) {s}
    (h : Run f K s0 s) : RunRes f K s0 (execStateReqHold s) := by
  have r1 := @stateReq_run f K s0 (orr hf rfl) (sbk hK rfl)
  unfold execStateReqHold
  repeat' first
    | with_reducible assumption
    | with_reducible apply r1
    | with_reducible apply RunRes.ite
    | with_reducible apply ite_run
    | with_reducible apply RunRes.next
    | split
    | dsimp only
    | intro _ _

theorem execCalibrationDone_run {f K s0} (hf : 113193888006337 ||| f = f)
    (hK : ∀ x, x ∈ ([0x100102, 0x100103, 0x210203, 0x40100D, 0x401101, 0x411002, 0x411003, 0x411005, 0x411007, 0x502101, 0x502104, 0x502105,
       0x502106, 0x507001, 0x507003, 0x600004, 0x620209, 0x62020A, 0x700103, 0xA10001, 0xA10006, 0xB01005, 0xB01006] : List Nat) → x ∈ K) {s}
    (h : Run f K s0 s) : RunRes f K s0 (execCalibrationDone s) := by
  have r1 := @fresh_run f K s0 (orr hf rfl) (sbk hK rfl)
  have r2 := @revalidate_run f K s0 (orr hf rfl) (sbk hK rfl)
  have r3 := @endPattern_run f K s0 (orr hf rfl) (sbk hK rfl)
  have r4 := @started_run f K s0 (orr hf rfl) (sbk hK rfl)
  have r5 := @fwResult_run f K s0 (orr hf rfl) (sbk hK rfl)
  have r6 := @enter_run f K s0 (orr hf rfl) (sbk hK rfl)
  have r7 := @discoverOnce_run f K s0 (orr hf rfl) (sbk hK rfl)
  have r8 := @preload_run f K s0 (orr hf rfl) (sbk hK rfl)
  have r9 := @rewriteArrays_run f K s0 (orr hf rfl) (sbk hK rfl)
  have j0 := sbk (a := [PD.READY_TIME_MS]) hK rfl
  have j1 := sbk (a := [PD.FW_STAGE_STATE]) hK rfl
  have u0 := orr (a := 2199024304128) hf rfl
  unfold execCalibrationDone
  repeat' first
    | with_reducible assumption
    | with_reducible apply setNum_run j0
    | with_reducible apply setNum_run j1
    | with_reducible apply r2
    | with_reducible apply r3
    | with_reducible apply r4
    | with_reducible apply r5
    | with_reducible apply r6
    | with_reducible apply r7
    | with_reducible apply r8
    | with_reducible apply r9
    | with_reducible apply RunRes.ite
    | with_reducible apply ite_run
    | with_reducible apply RunRes.next
    | with_reducible apply run_of_snd (by with_reducible assumption)
    | with_reducible apply r1
    | split
    | with_reducible apply run_upd_cal_clk u0
    | dsimp only
    | intro _ _

theorem execUpdateEnd_run {f K s0} (hf : 40077437452288 ||| f = f)
    (hK : ∀ x, x ∈ ([0x40100D, 0x401101, 0x502101, 0x502104, 0x502105, 0x502106, 0x507001, 0x507003, 0x600004, 0x620207, 0x620209, 0x62020A,
       0x700208, 0xA10001, 0xA10006] : List Nat) → x ∈ K) {s}
    (h : Run f K s0 s) : RunRes f K s0 (execUpdateEnd s) := by
  have r1 := @queueRoots_run f K s0 (orr hf rfl) (sbk hK rfl)
  have r2 := @patchPhase_run f K s0 (orr hf rfl) (sbk hK rfl)
  have r3 := @sendCopies_run f K s0 (orr hf rfl) (sbk hK rfl)
  have u0 := orr (a := 1073741824) hf rfl
  unfold execUpdateEnd
  repeat' first
    | with_reducible assumption
    | with_reducible apply r1
    | with_reducible apply r2
    | with_reducible apply r3
    | with_reducible apply RunRes.ite
    | with_reducible apply ite_run
    | with_reducible apply RunRes.next
    | with_reducible apply getD_run
    | split
    | simp only [run_upd_step_iff u0]
    | dsimp only
    | intro _ _

theorem execWrite_run {f K s0} (hf : 9223510523767685057 ||| f = f)
    (hK : ∀ x, x ∈ ([0x100003, 0x100102, 0x100108, 0x120103, 0x201108, 0x202003, 0x300004, 0x310202, 0x410102, 0x41100A, 0x505005, 0x600001,
       0x600002, 0x600003, 0x600004, 0x600007, 0x600203, 0x600206, 0x620103, 0x700103, 0x700208, 0x900103, 0x900202, 0x900203,
       0x902004, 0xA10001, 0xA10006, 0xA20005, 0xA20006, 0xA20007, 0xB01004, 0xB01005, 0xB01006, 0xB01008, 0xB01102, 0xB10002,
       0xB20101, 0xB20102, 0xB20103, 0xB20104] : List Nat) → x ∈ K) {s x0 x1}
    (h : Run f K s0 s) : RunRes f K s0 (execWrite x0 x1 s) := by
  have r1 := @pdx_run f K s0 (orr hf rfl) (sbk hK rfl)
  unfold execWrite
  repeat' first
    | with_reducible assumption
    | with_reducible apply r1
    | with_reducible apply RunRes.next
    | split
    | dsimp only
    | intro _ _

theorem execMailboxResponse_run {f K s0} (hf : 9223510523767685057 ||| f = f)
    (hK : ∀ x, x ∈ ([0x100003, 0x100102, 0x100108, 0x120103, 0x201108, 0x202003, 0x300004, 0x310202, 0x410102, 0x41100A, 0x505005, 0x600001,
       0x600002, 0x600003, 0x600004, 0x600007, 0x600203, 0x600206, 0x620103, 0x700103, 0x700208, 0x900103, 0x900202, 0x900203,
       0x902004, 0xA10001, 0xA10006, 0xA20005, 0xA20006, 0xA20007, 0xB01004, 0xB01005, 0xB01006, 0xB01008, 0xB01102, 0xB10002,
       0xB20101, 0xB20102, 0xB20103, 0xB20104] : List Nat) → x ∈ K) {s x0}
    (h : Run f K s0 s) : RunRes f K s0 (execMailboxResponse x0 s) := by
  have r1 := @serveStray_run f K s0 (orr hf rfl) (sbk hK rfl)
  have r2 := @freezeWhenSent_run f K s0 (orr hf rfl) (sbk hK rfl)
  have r3 := @setEp_run f K s0 (orr hf rfl) (sbk hK rfl)
  have r4 := @cause_run f K s0 (orr hf rfl) (sbk hK rfl)
  have u0 := orr (a := 549755813888) hf rfl
  unfold execMailboxResponse
  repeat' first
    | with_reducible assumption
    | with_reducible apply r1
    | with_reducible apply r2
    | with_reducible apply r3
    | with_reducible apply r4
    | with_reducible apply RunRes.ite
    | with_reducible apply ite_run
    | with_reducible apply RunRes.next
    | split
    | with_reducible apply run_upd_dict u0
    | dsimp only
    | intro _ _

theorem execPerst_run {f K s0} (hf : 962072674304 ||| f = f)
    (hK : ∀ x, x ∈ ([] : List Nat) → x ∈ K) {s x0 x1}
    (h : Run f K s0 s) : RunRes f K s0 (execPerst x0 x1 s) := by
  have r1 := @resetEp_run f K s0 (orr hf rfl) (sbk hK rfl)
  have r2 := @setEp_run f K s0 (orr hf rfl) (sbk hK rfl)
  unfold execPerst
  repeat' first
    | with_reducible assumption
    | with_reducible apply r1
    | with_reducible apply r2
    | with_reducible apply RunRes.ite
    | with_reducible apply ite_run
    | with_reducible apply RunRes.next
    | split
    | dsimp only
    | intro _ _

theorem execFwStageBegin_run {f K s0} (hf : 127955665682944 ||| f = f)
    (hK : ∀ x, x ∈ ([0xA10001, 0xA10006, 0xB01004, 0xB01005, 0xB01006, 0xB01008] : List Nat) → x ∈ K) {s}
    (h : Run f K s0 s) : RunRes f K s0 (execFwStageBegin s) := by
  have r1 := @fwBegin_run f K s0 (orr hf rfl) (sbk hK rfl)
  unfold execFwStageBegin
  repeat' first
    | with_reducible assumption
    | with_reducible apply r1
    | with_reducible apply RunRes.ite
    | with_reducible apply ite_run
    | with_reducible apply RunRes.next
    | split
    | dsimp only
    | intro _ _

theorem execStepVoidReq_run {f K s0} (hf : 40067199190721 ||| f = f)
    (hK : ∀ x, x ∈ ([0x202003, 0x600002, 0x600003, 0x600004, 0x600007, 0x600203, 0x600206, 0xA10001, 0xA10006] : List Nat) → x ∈ K) {s}
    (h : Run f K s0 s) : RunRes f K s0 (execStepVoidReq s) := by
  have r1 := @stepVoidReq_run f K s0 (orr hf rfl) (sbk hK rfl)
  unfold execStepVoidReq
  repeat' first
    | with_reducible assumption
    | with_reducible apply r1
    | with_reducible apply RunRes.ite
    | with_reducible apply ite_run
    | with_reducible apply RunRes.next
    | split
    | dsimp only
    | intro _ _

theorem execBridgesTrained_run {f K s0} (hf : 121431059646145 ||| f = f)
    (hK : ∀ x, x ∈ ([0x600002, 0x600003, 0x600004, 0x600007, 0x600203, 0xA10001, 0xA10006] : List Nat) → x ∈ K) {s x0}
    (h : Run f K s0 s) : RunRes f K s0 (execBridgesTrained x0 s) := by
  have r1 := @fault_run f K s0 (orr hf rfl) (sbk hK rfl)
  have r2 := @started_run f K s0 (orr hf rfl) (sbk hK rfl)
  have r3 := @epsUp_run f K s0 (orr hf rfl) (sbk hK rfl)
  have r4 := @startSpall_run f K s0 (orr hf rfl) (sbk hK rfl)
  have u0 := orr (a := 2199023255552) hf rfl
  unfold execBridgesTrained
  repeat' first
    | with_reducible assumption
    | with_reducible apply r1
    | with_reducible apply r2
    | with_reducible apply r3
    | with_reducible apply r4
    | with_reducible apply RunRes.ite
    | with_reducible apply ite_run
    | with_reducible apply RunRes.next
    | split
    | with_reducible apply run_upd_clk u0
    | dsimp only
    | intro _ _

theorem execFwActivateAt_run {f K s0} (hf : 35596688949760 ||| f = f)
    (hK : ∀ x, x ∈ ([0x202003, 0xB01006] : List Nat) → x ∈ K) {s x0}
    (h : Run f K s0 s) : RunRes f K s0 (execFwActivateAt x0 s) := by
  have r1 := @fwSchedule_run f K s0 (orr hf rfl) (sbk hK rfl)
  unfold execFwActivateAt
  repeat' first
    | with_reducible assumption
    | with_reducible apply r1
    | with_reducible apply RunRes.ite
    | with_reducible apply ite_run
    | with_reducible apply RunRes.next
    | split
    | dsimp only
    | intro _ _

theorem execBar0Write_run {f K s0} (hf : 36146444764160 ||| f = f)
    (hK : ∀ x, x ∈ ([0x120101, 0x120102, 0x310301, 0x310302, 0x310304] : List Nat) → x ∈ K) {s x0 x1 x2 x3}
    (h : Run f K s0 s) : RunRes f K s0 (execBar0Write x0 x1 x2 x3 s) := by
  have r1 := @doorbell_run f K s0 (orr hf rfl) (sbk hK rfl)
  have r2 := @bar0Store_run f K s0 (orr hf rfl) (sbk hK rfl)
  have j0 := sbk (a := [PD.BAR0_DISCARDED]) hK rfl
  unfold execBar0Write
  repeat' first
    | with_reducible assumption
    | with_reducible apply bump_run j0
    | with_reducible apply r1
    | with_reducible apply r2
    | with_reducible apply RunRes.ite
    | with_reducible apply ite_run
    | with_reducible apply RunRes.next
    | split
    | dsimp only
    | intro _ _

theorem execCfgDiscard_run {f K s0} (hf : 36146444763136 ||| f = f)
    (hK : ∀ x, x ∈ ([0x100102, 0x100108] : List Nat) → x ∈ K) {s}
    (h : Run f K s0 s) : RunRes f K s0 (execCfgDiscard s) := by
  have r1 := @cfgCommand_run f K s0 (orr hf rfl) (sbk hK rfl)
  unfold execCfgDiscard
  repeat' first
    | with_reducible assumption
    | with_reducible apply r1
    | with_reducible apply RunRes.ite
    | with_reducible apply ite_run
    | with_reducible apply RunRes.next
    | split
    | dsimp only
    | intro _ _

theorem execFreezeCmd_run {f K s0} (hf : 44392781971905 ||| f = f)
    (hK : ∀ x, x ∈ ([0x201108, 0xA20006, 0xA20007] : List Nat) → x ∈ K) {s x0}
    (h : Run f K s0 s) : RunRes f K s0 (execFreezeCmd x0 s) := by
  have r1 := @freezeByCommand_run f K s0 (orr hf rfl) (sbk hK rfl)
  unfold execFreezeCmd
  repeat' first
    | with_reducible assumption
    | with_reducible apply r1
    | with_reducible apply RunRes.ite
    | with_reducible apply ite_run
    | with_reducible apply RunRes.next
    | split
    | dsimp only
    | intro _ _

theorem execAttestReq_run {f K s0} (hf : 17592186044416 ||| f = f)
    (hK : ∀ x, x ∈ ([0xB10002] : List Nat) → x ∈ K) {s x0}
    (h : Run f K s0 s) : RunRes f K s0 (execAttestReq x0 s) := by
  have r1 := @attestStart_run f K s0 (orr hf rfl) (sbk hK rfl)
  unfold execAttestReq
  repeat' first
    | with_reducible assumption
    | with_reducible apply r1
    | with_reducible apply RunRes.next
    | split
    | dsimp only
    | intro _ _

theorem execStagingVerified_run {f K s0} (hf : 130154688938177 ||| f = f)
    (hK : ∀ x, x ∈ ([0x210202, 0xA10001, 0xA10006, 0xB01005, 0xB01006, 0xB01008] : List Nat) → x ∈ K) {s}
    (h : Run f K s0 s) : RunRes f K s0 (execStagingVerified s) := by
  have r1 := @bootFromLoader_run f K s0 (orr hf rfl) (sbk hK rfl)
  have r2 := @fwResult_run f K s0 (orr hf rfl) (sbk hK rfl)
  have r3 := @fwFail_run f K s0 (orr hf rfl) (sbk hK rfl)
  have j0 := sbk (a := [PD.FW_STAGE_STATE]) hK rfl
  have j1 := sbk (a := [PD.FW_STAGED_DIGEST]) hK rfl
  have u0 := orr (a := 17592186044416) hf rfl
  unfold execStagingVerified
  repeat' first
    | with_reducible assumption
    | with_reducible apply setNum_run j0
    | with_reducible apply setBytes_run j1
    | with_reducible apply r1
    | with_reducible apply r2
    | with_reducible apply r3
    | with_reducible apply RunRes.ite
    | with_reducible apply ite_run
    | with_reducible apply RunRes.next
    | with_reducible apply RunOpt.map
    | with_reducible apply getD_run
    | split
    | with_reducible apply run_upd_fw u0
    | dsimp only
    | intro _ _

theorem execLoopsLocked_run {f K s0} (hf : 72567767433216 ||| f = f)
    (hK : ∀ x, x ∈ ([] : List Nat) → x ∈ K) {s}
    (h : Run f K s0 s) : RunRes f K s0 (execLoopsLocked s) := by
  have r1 := @started_run f K s0 (orr hf rfl) (sbk hK rfl)
  have u0 := orr (a := 2199023255552) hf rfl
  unfold execLoopsLocked
  repeat' first
    | with_reducible assumption
    | with_reducible apply r1
    | with_reducible apply RunRes.ite
    | with_reducible apply ite_run
    | with_reducible apply RunRes.next
    | split
    | with_reducible apply run_upd_clk u0
    | dsimp only
    | intro _ _

theorem execSessionClose_run {f K s0} (hf : 9223510523767685057 ||| f = f)
    (hK : ∀ x, x ∈ ([0x100003, 0x100102, 0x100108, 0x120103, 0x201108, 0x202003, 0x300004, 0x310202, 0x410102, 0x41100A, 0x505005, 0x600001,
       0x600002, 0x600003, 0x600004, 0x600007, 0x600203, 0x600206, 0x620103, 0x700103, 0x700208, 0x900103, 0x900202, 0x900203,
       0x902004, 0xA10001, 0xA10006, 0xA20005, 0xA20006, 0xA20007, 0xB01004, 0xB01005, 0xB01006, 0xB01008, 0xB01102, 0xB10002,
       0xB20101, 0xB20102, 0xB20103, 0xB20104] : List Nat) → x ∈ K) {s x0 x1}
    (h : Run f K s0 s) : RunRes f K s0 (execSessionClose x0 x1 s) := by
  have r1 := @pdx_run f K s0 (orr hf rfl) (sbk hK rfl)
  unfold execSessionClose
  repeat' first
    | with_reducible assumption
    | with_reducible apply r1
    | with_reducible apply RunRes.next
    | split
    | dsimp only
    | intro _ _

theorem execPatrolScrub_run {f K s0} (hf : 40092968994497 ||| f = f)
    (hK : ∀ x, x ∈ ([0x110103, 0x600002, 0x600003, 0x600004, 0x600007, 0x600203, 0x800201, 0x800202, 0x800203, 0x800204, 0x800205, 0x800206,
       0x800207, 0xA01003, 0xA10001, 0xA10006] : List Nat) → x ∈ K) {s x0 x1 x2}
    (h : Run f K s0 s) : RunRes f K s0 (execPatrolScrub x0 x1 x2 s) := by
  have r1 := @grant_run f K s0 (orr hf rfl) (sbk hK rfl)
  have r2 := @patrolWord_run f K s0 (orr hf rfl) (sbk hK rfl)
  have u0 := orr (a := 17179869184) hf rfl
  unfold execPatrolScrub
  repeat' first
    | with_reducible assumption
    | with_reducible apply r2
    | with_reducible apply RunRes.ite
    | with_reducible apply ite_run
    | with_reducible apply RunRes.next
    | (with_reducible apply each_run; intro _ _ _)
    | with_reducible apply RunOpt.map
    | with_reducible apply run_of_snd (by with_reducible assumption)
    | with_reducible apply getD_run
    | with_reducible apply r1
    | split
    | with_reducible apply run_upd_memUnit u0
    | dsimp only
    | intro _ _

theorem execSessionOpen_run {f K s0} (hf : 9223510523767685057 ||| f = f)
    (hK : ∀ x, x ∈ ([0x100003, 0x100102, 0x100108, 0x120103, 0x201108, 0x202003, 0x300004, 0x310202, 0x410102, 0x41100A, 0x505005, 0x600001,
       0x600002, 0x600003, 0x600004, 0x600007, 0x600203, 0x600206, 0x620103, 0x700103, 0x700208, 0x900103, 0x900202, 0x900203,
       0x902004, 0xA10001, 0xA10006, 0xA20005, 0xA20006, 0xA20007, 0xB01004, 0xB01005, 0xB01006, 0xB01008, 0xB01102, 0xB10002,
       0xB20101, 0xB20102, 0xB20103, 0xB20104] : List Nat) → x ∈ K) {s x0 x1}
    (h : Run f K s0 s) : RunRes f K s0 (execSessionOpen x0 x1 s) := by
  have r1 := @pdx_run f K s0 (orr hf rfl) (sbk hK rfl)
  unfold execSessionOpen
  repeat' first
    | with_reducible assumption
    | with_reducible apply r1
    | with_reducible apply RunRes.next
    | split
    | dsimp only
    | intro _ _

theorem execAttestReport_run {f K s0} (hf : 87960930222080 ||| f = f)
    (hK : ∀ x, x ∈ ([0xB10002, 0xB10003] : List Nat) → x ∈ K) {s}
    (h : Run f K s0 s) : RunRes f K s0 (execAttestReport s) := by
  have r1 := @fresh_run f K s0 (orr hf rfl) (sbk hK rfl)
  have j0 := sbk (a := [PD.ATTEST_RESULT]) hK rfl
  have j1 := sbk (a := [PD.ATTEST_REPORT]) hK rfl
  have u0 := orr (a := 17592186044416) hf rfl
  unfold execAttestReport
  repeat' first
    | with_reducible assumption
    | with_reducible apply setNum_run j0
    | with_reducible apply setBytes_run j1
    | with_reducible apply RunRes.ite
    | with_reducible apply ite_run
    | with_reducible apply RunRes.next
    | with_reducible apply run_of_snd (by with_reducible assumption)
    | with_reducible apply r1
    | split
    | with_reducible apply run_upd_fw u0
    | dsimp only
    | intro _ _

theorem execFwStageAbandon_run {f K s0} (hf : 127955665682432 ||| f = f)
    (hK : ∀ x, x ∈ ([0xA10001, 0xA10006, 0xB01005, 0xB01006] : List Nat) → x ∈ K) {s}
    (h : Run f K s0 s) : RunRes f K s0 (execFwStageAbandon s) := by
  have r1 := @fwAbandon_run f K s0 (orr hf rfl) (sbk hK rfl)
  unfold execFwStageAbandon
  repeat' first
    | with_reducible assumption
    | with_reducible apply r1
    | with_reducible apply RunRes.ite
    | with_reducible apply ite_run
    | with_reducible apply RunRes.next
    | split
    | dsimp only
    | intro _ _

theorem execHostDmaTimeout_run {f K s0} (hf : 8590459904 ||| f = f)
    (hK : ∀ x, x ∈ ([0x120103, 0x600004] : List Nat) → x ∈ K) {s x0}
    (h : Run f K s0 s) : RunRes f K s0 (execHostDmaTimeout x0 s) := by
  have r1 := @reason_run f K s0 (orr hf rfl) (sbk hK rfl)
  have r2 := @failFirst_run f K s0 (orr hf rfl) (sbk hK rfl)
  have j0 := sbk (a := [PD.HOST_DMA_ERR]) hK rfl
  unfold execHostDmaTimeout
  repeat' first
    | with_reducible assumption
    | with_reducible apply bump_run j0
    | with_reducible apply r1
    | with_reducible apply r2
    | with_reducible apply RunRes.ite
    | with_reducible apply ite_run
    | with_reducible apply RunRes.next
    | split
    | dsimp only
    | intro _ _

theorem execCfgCommit_run {f K s0} (hf : 36146444763136 ||| f = f)
    (hK : ∀ x, x ∈ ([0x100102, 0x100108] : List Nat) → x ∈ K) {s}
    (h : Run f K s0 s) : RunRes f K s0 (execCfgCommit s) := by
  have r1 := @cfgCommand_run f K s0 (orr hf rfl) (sbk hK rfl)
  unfold execCfgCommit
  repeat' first
    | with_reducible assumption
    | with_reducible apply r1
    | with_reducible apply RunRes.ite
    | with_reducible apply ite_run
    | with_reducible apply RunRes.next
    | split
    | dsimp only
    | intro _ _

theorem execBroadcastDeadline_run {f K s0} (hf : 41166710818753 ||| f = f)
    (hK : ∀ x, x ∈ ([0x600002, 0x600003, 0x600004, 0x600007, 0x600203, 0xA10001, 0xA10006] : List Nat) → x ∈ K) {s}
    (h : Run f K s0 s) : RunRes f K s0 (execBroadcastDeadline s) := by
  have r1 := @fireDeadline_run f K s0 (orr hf rfl) (sbk hK rfl)
  have r2 := @lateDecision_run f K s0 (orr hf rfl) (sbk hK rfl)
  unfold execBroadcastDeadline
  repeat' first
    | with_reducible assumption
    | with_reducible apply r2
    | with_reducible apply RunRes.ite
    | with_reducible apply ite_run
    | with_reducible apply RunRes.next
    | with_reducible apply run_of_some (by with_reducible assumption)
    | with_reducible apply run_of_some_snd (by with_reducible assumption)
    | with_reducible apply r1
    | split
    | dsimp only
    | intro _ _

theorem execFwData_run {f K s0} (hf : 127955665682432 ||| f = f)
    (hK : ∀ x, x ∈ ([0xA10001, 0xA10006, 0xB01004, 0xB01005, 0xB01006, 0xB01102] : List Nat) → x ∈ K) {s x0}
    (h : Run f K s0 s) : RunRes f K s0 (execFwData x0 s) := by
  have r1 := @fwPiece_run f K s0 (orr hf rfl) (sbk hK rfl)
  unfold execFwData
  repeat' first
    | with_reducible assumption
    | with_reducible apply r1
    | with_reducible apply RunRes.ite
    | with_reducible apply ite_run
    | with_reducible apply RunRes.next
    | split
    | dsimp only
    | intro _ _

theorem execCoalesceIntervalEnd_run {f K s0} (hf : 35596688949248 ||| f = f)
    (hK : ∀ x, x ∈ ([] : List Nat) → x ∈ K) {s x0 x1}
    (h : Run f K s0 s) : RunRes f K s0 (execCoalesceIntervalEnd x0 x1 s) := by
  have r1 := @sendVector_run f K s0 (orr hf rfl) (sbk hK rfl)
  have r2 := @setEp_run f K s0 (orr hf rfl) (sbk hK rfl)
  unfold execCoalesceIntervalEnd
  repeat' first
    | with_reducible assumption
    | with_reducible apply r1
    | with_reducible apply r2
    | with_reducible apply RunRes.ite
    | with_reducible apply ite_run
    | with_reducible apply RunRes.next
    | split
    | dsimp only
    | intro _ _

theorem execIrqStatusClear_run {f K s0} (hf : 412316860416 ||| f = f)
    (hK : ∀ x, x ∈ ([] : List Nat) → x ∈ K) {s x0 x1}
    (h : Run f K s0 s) : RunRes f K s0 (execIrqStatusClear x0 x1 s) := by
  have r1 := @clearIrq_run f K s0 (orr hf rfl) (sbk hK rfl)
  unfold execIrqStatusClear
  repeat' first
    | with_reducible assumption
    | with_reducible apply r1
    | with_reducible apply RunRes.ite
    | with_reducible apply ite_run
    | with_reducible apply RunRes.next
    | split
    | dsimp only
    | intro _ _

theorem execFunctionLevelReset_run {f K s0} (hf : 962072674304 ||| f = f)
    (hK : ∀ x, x ∈ ([] : List Nat) → x ∈ K) {s x0}
    (h : Run f K s0 s) : RunRes f K s0 (execFunctionLevelReset x0 s) := by
  have r1 := @resetEp_run f K s0 (orr hf rfl) (sbk hK rfl)
  have r2 := @setEp_run f K s0 (orr hf rfl) (sbk hK rfl)
  unfold execFunctionLevelReset
  repeat' first
    | with_reducible assumption
    | with_reducible apply r1
    | with_reducible apply r2
    | with_reducible apply RunRes.ite
    | with_reducible apply ite_run
    | with_reducible apply RunRes.next
    | split
    | dsimp only
    | intro _ _

theorem execPowerOff_run {f K s0} (hf : 9223407221226864631 ||| f = f)
    (hK : ∀ x, x ∈ ([0xA10001, 0xA10005, 0xB00001, 0xB00004] : List Nat) → x ∈ K) {s}
    (h : Run f K s0 s) : RunRes f K s0 (execPowerOff s) := by
  have c := @keepOver_run f K s0 (orr hf rfl)
  have cany := orr (a := 2 ^ 63) hf rfl
  unfold execPowerOff
  split
  · exact RunRes.next h
  · exact RunRes.next (run_upd_pwrGood (orr hf rfl) (c (.inl rfl) h))

theorem execPowerUp_run {f K s0} (hf : 9223407221226864631 ||| f = f)
    (hK : ∀ x, x ∈ ([0xA10001, 0xA10005, 0xB00001, 0xB00004] : List Nat) → x ∈ K) {s}
    (h : Run f K s0 s) : RunRes f K s0 (execPowerUp s) := by
  have c := @keepOver_run f K s0 (orr hf rfl)
  have cany := orr (a := 2 ^ 63) hf rfl
  unfold execPowerUp
  split
  · exact RunRes.next (run_upd_pwrGood (orr hf rfl) (c (.inr rfl) h))
  · exact RunRes.next h

end Sys2Proof.Machine
end

