-- ==== Sys2Proof/Laws/State.lean ====
section
/-! SUPPORT. Laws/State.lean: reading after writing, operation by operation: dictionary values, memory bytes, endpoints, and every field that a
shared operation leaves alone. -/
namespace Sys2Proof.Machine

/-! ## Dictionary -/

section
variable {s : State} {k j n m : Nat} {v : PdVal}

theorem State.reset_inv : State.reset.Inv = true := by decide

theorem State.dictOk_pdSet (h : s.dictOk = true) : (s.pdSet k v).dictOk = true := kvWf_set _ _ _ _ h
theorem State.dictOk_setNum (h : s.dictOk = true) : (s.setNum k n).dictOk = true := State.dictOk_pdSet h
theorem State.dictOk_setRows {r : List (List Nat)} (h : s.dictOk = true) : (s.setRows k r).dictOk = true := State.dictOk_pdSet h
theorem State.dictOk_setBytes {b : List Byte} (h : s.dictOk = true) : (s.setBytes k b).dictOk = true := State.dictOk_pdSet h
theorem State.dictOk_bumpBy (h : s.dictOk = true) : (s.bumpBy k n).dictOk = true := State.dictOk_pdSet h
theorem State.dictOk_bump (h : s.dictOk = true) : (s.bump k).dictOk = true := State.dictOk_pdSet h

/-- An entry just written reads as written. -/
theorem State.pdGet_pdSet : (s.pdSet k v).pdGet k = v := kvGet_set_same _ _ _ _
/-- Every other entry reads as before. -/
theorem State.pdGet_pdSet_ne (ne : j ≠ k) : (s.pdSet k v).pdGet j = s.pdGet j := kvGet_set_ne _ _ _ _ ne _

theorem State.num_setNum : (s.setNum k n).num k = n := by
  unfold State.num State.setNum; rw [State.pdGet_pdSet]; rfl
theorem State.num_setNum_ne (ne : j ≠ k) : (s.setNum k n).num j = s.num j := by
  unfold State.num State.setNum; rw [State.pdGet_pdSet_ne ne]
theorem State.num_bumpBy : (s.bumpBy k n).num k = (s.num k + n) % 2 ^ 64 := State.num_setNum
theorem State.num_bumpBy_ne (ne : j ≠ k) : (s.bumpBy k n).num j = s.num j := State.num_setNum_ne ne
theorem State.num_bump : (s.bump k).num k = (s.num k + 1) % 2 ^ 64 := State.num_bumpBy
theorem State.num_bump_ne (ne : j ≠ k) : (s.bump k).num j = s.num j := State.num_bumpBy_ne ne
theorem State.num_setRows_ne {r : List (List Nat)} (ne : j ≠ k) : (s.setRows k r).num j = s.num j := by
  unfold State.num State.setRows; rw [State.pdGet_pdSet_ne ne]
theorem State.rows_setRows {r : List (List Nat)} : (s.setRows k r).rows k = r := by
  unfold State.rows State.setRows; rw [State.pdGet_pdSet]; rfl
theorem State.rows_setNum_ne (ne : j ≠ k) : (s.setNum k n).rows j = s.rows j := by
  unfold State.rows State.setNum; rw [State.pdGet_pdSet_ne ne]
theorem State.bytes_setBytes {b : List Byte} : ((s.setBytes k b).pdGet k).toBytes = b := by
  unfold State.setBytes; rw [State.pdGet_pdSet]; rfl
end

/-! ## Memory -/

section
variable {s : State} {st a b n : Nat} {bs : List Byte}

/-- Bytes outside a write read as before. -/
theorem State.readByte_write_out (o : memKey st b < memKey n a ∨ memKey n a + bs.length ≤ memKey st b) :
    (s.write n a bs).readByte st b = s.readByte st b := kvGet_setList_out _ _ _ _ _ o

/-- Bytes of a write read as written. -/
theorem State.read_write : (s.write st a bs).read st a bs.length = bs := kvGetList_setList _ _ _ _

theorem State.memOk_write (h : s.memOk = true) : (s.write st a bs).memOk = true := kvWf_setList _ _ _ _ h
theorem State.memOk_clearStore (h : s.memOk = true) : (s.clearStore st).memOk = true := kvWf_filter _ _ _ h
theorem State.memOk_writeBar2 (h : s.memOk = true) : (s.writeBar2 a bs).memOk = true :=
  (writeBar2_run (f := 8589934592) (K := []) rfl (fun _ => id) (Run.refl _ _ s)).mem h
end

/-! ## Endpoints -/

theorem State.ep_setEp (s : State) (i : Ep) (e : Endpoint) : (s.setEp i e).ep i = e := by
  unfold State.ep State.setEp; split <;> rfl
theorem State.ep_setEp_ne (s : State) (i j : Ep) (e : Endpoint) (ne : j ≠ i) : (s.setEp i e).ep j = s.ep j := by
  unfold State.ep State.setEp
  by_cases hi : i = 0
  · by_cases hj : j = 0
    · exact absurd (hj.trans hi.symm) ne
    · simp [hi, hj]
  · by_cases hj : j = 0
    · simp [hi, hj]
    · exact absurd ((by decide : ∀ i j : Fin 2, ¬i = 0 → ¬j = 0 → j = i) i j hi hj) ne

/-! ## Fields that a shared operation leaves alone -/

@[simp] theorem State.pdSet_mode (s : State) (k : Nat) (v : PdVal) : (s.pdSet k v).mode = s.mode := rfl
@[simp] theorem State.pdSet_resetN (s : State) (k : Nat) (v : PdVal) : (s.pdSet k v).resetN = s.resetN := rfl
@[simp] theorem State.pdSet_pwrGood (s : State) (k : Nat) (v : PdVal) : (s.pdSet k v).pwrGood = s.pwrGood := rfl
@[simp] theorem State.pdSet_freezeN (s : State) (k : Nat) (v : PdVal) : (s.pdSet k v).freezeN = s.freezeN := rfl
@[simp] theorem State.pdSet_slotId (s : State) (k : Nat) (v : PdVal) : (s.pdSet k v).slotId = s.slotId := rfl
@[simp] theorem State.pdSet_bondSide (s : State) (k : Nat) (v : PdVal) : (s.pdSet k v).bondSide = s.bondSide := rfl
@[simp] theorem State.pdSet_ready (s : State) (k : Nat) (v : PdVal) : (s.pdSet k v).ready = s.ready := rfl
@[simp] theorem State.pdSet_faultN (s : State) (k : Nat) (v : PdVal) : (s.pdSet k v).faultN = s.faultN := rfl
@[simp] theorem State.pdSet_course (s : State) (k : Nat) (v : PdVal) : (s.pdSet k v).course = s.course := rfl
@[simp] theorem State.pdSet_events (s : State) (k : Nat) (v : PdVal) : (s.pdSet k v).events = s.events := rfl
@[simp] theorem State.pdSet_streams (s : State) (k : Nat) (v : PdVal) : (s.pdSet k v).streams = s.streams := rfl
@[simp] theorem State.pdSet_plan (s : State) (k : Nat) (v : PdVal) : (s.pdSet k v).plan = s.plan := rfl
@[simp] theorem State.pdSet_loading (s : State) (k : Nat) (v : PdVal) : (s.pdSet k v).loading = s.loading := rfl
@[simp] theorem State.pdSet_place (s : State) (k : Nat) (v : PdVal) : (s.pdSet k v).place = s.place := rfl
@[simp] theorem State.pdSet_triggers (s : State) (k : Nat) (v : PdVal) : (s.pdSet k v).triggers = s.triggers := rfl
@[simp] theorem State.pdSet_placeDue (s : State) (k : Nat) (v : PdVal) : (s.pdSet k v).placeDue = s.placeDue := rfl
@[simp] theorem State.pdSet_placing (s : State) (k : Nat) (v : PdVal) : (s.pdSet k v).placing = s.placing := rfl
@[simp] theorem State.pdSet_placeWait (s : State) (k : Nat) (v : PdVal) : (s.pdSet k v).placeWait = s.placeWait := rfl
@[simp] theorem State.pdSet_arrays (s : State) (k : Nat) (v : PdVal) : (s.pdSet k v).arrays = s.arrays := rfl
@[simp] theorem State.pdSet_cells (s : State) (k : Nat) (v : PdVal) : (s.pdSet k v).cells = s.cells := rfl
@[simp] theorem State.pdSet_cal (s : State) (k : Nat) (v : PdVal) : (s.pdSet k v).cal = s.cal := rfl
@[simp] theorem State.pdSet_layers (s : State) (k : Nat) (v : PdVal) : (s.pdSet k v).layers = s.layers := rfl
@[simp] theorem State.pdSet_widenLog (s : State) (k : Nat) (v : PdVal) : (s.pdSet k v).widenLog = s.widenLog := rfl
@[simp] theorem State.pdSet_plumbLog (s : State) (k : Nat) (v : PdVal) : (s.pdSet k v).plumbLog = s.plumbLog := rfl
@[simp] theorem State.pdSet_storm (s : State) (k : Nat) (v : PdVal) : (s.pdSet k v).storm = s.storm := rfl
@[simp] theorem State.pdSet_jointModes (s : State) (k : Nat) (v : PdVal) : (s.pdSet k v).jointModes = s.jointModes := rfl
@[simp] theorem State.pdSet_jointParts (s : State) (k : Nat) (v : PdVal) : (s.pdSet k v).jointParts = s.jointParts := rfl
@[simp] theorem State.pdSet_jointWaits (s : State) (k : Nat) (v : PdVal) : (s.pdSet k v).jointWaits = s.jointWaits := rfl
@[simp] theorem State.pdSet_backward (s : State) (k : Nat) (v : PdVal) : (s.pdSet k v).backward = s.backward := rfl
@[simp] theorem State.pdSet_frogMost (s : State) (k : Nat) (v : PdVal) : (s.pdSet k v).frogMost = s.frogMost := rfl
@[simp] theorem State.pdSet_step (s : State) (k : Nat) (v : PdVal) : (s.pdSet k v).step = s.step := rfl
@[simp] theorem State.pdSet_exch (s : State) (k : Nat) (v : PdVal) : (s.pdSet k v).exch = s.exch := rfl
@[simp] theorem State.pdSet_upd (s : State) (k : Nat) (v : PdVal) : (s.pdSet k v).upd = s.upd := rfl
@[simp] theorem State.pdSet_mem (s : State) (k : Nat) (v : PdVal) : (s.pdSet k v).mem = s.mem := rfl
@[simp] theorem State.pdSet_memUnit (s : State) (k : Nat) (v : PdVal) : (s.pdSet k v).memUnit = s.memUnit := rfl
@[simp] theorem State.pdSet_bridges (s : State) (k : Nat) (v : PdVal) : (s.pdSet k v).bridges = s.bridges := rfl
@[simp] theorem State.pdSet_link (s : State) (k : Nat) (v : PdVal) : (s.pdSet k v).link = s.link := rfl
@[simp] theorem State.pdSet_ep0 (s : State) (k : Nat) (v : PdVal) : (s.pdSet k v).ep0 = s.ep0 := rfl
@[simp] theorem State.pdSet_ep1 (s : State) (k : Nat) (v : PdVal) : (s.pdSet k v).ep1 = s.ep1 := rfl
@[simp] theorem State.pdSet_dict (s : State) (k : Nat) (v : PdVal) : (s.pdSet k v).dict = s.dict := rfl
@[simp] theorem State.pdSet_meas (s : State) (k : Nat) (v : PdVal) : (s.pdSet k v).meas = s.meas := rfl
@[simp] theorem State.pdSet_clk (s : State) (k : Nat) (v : PdVal) : (s.pdSet k v).clk = s.clk := rfl
@[simp] theorem State.pdSet_faults (s : State) (k : Nat) (v : PdVal) : (s.pdSet k v).faults = s.faults := rfl
@[simp] theorem State.pdSet_freeze (s : State) (k : Nat) (v : PdVal) : (s.pdSet k v).freeze = s.freeze := rfl
@[simp] theorem State.pdSet_fw (s : State) (k : Nat) (v : PdVal) : (s.pdSet k v).fw = s.fw := rfl
@[simp] theorem State.pdSet_outs (s : State) (k : Nat) (v : PdVal) : (s.pdSet k v).outs = s.outs := rfl
@[simp] theorem State.pdSet_free (s : State) (k : Nat) (v : PdVal) : (s.pdSet k v).free = s.free := rfl
@[simp] theorem State.pdSet_pending (s : State) (k : Nat) (v : PdVal) : (s.pdSet k v).pending = s.pending := rfl

@[simp] theorem State.setNum_mode (s : State) (k n : Nat) : (s.setNum k n).mode = s.mode := rfl
@[simp] theorem State.setNum_resetN (s : State) (k n : Nat) : (s.setNum k n).resetN = s.resetN := rfl
@[simp] theorem State.setNum_pwrGood (s : State) (k n : Nat) : (s.setNum k n).pwrGood = s.pwrGood := rfl
@[simp] theorem State.setNum_freezeN (s : State) (k n : Nat) : (s.setNum k n).freezeN = s.freezeN := rfl
@[simp] theorem State.setNum_slotId (s : State) (k n : Nat) : (s.setNum k n).slotId = s.slotId := rfl
@[simp] theorem State.setNum_bondSide (s : State) (k n : Nat) : (s.setNum k n).bondSide = s.bondSide := rfl
@[simp] theorem State.setNum_ready (s : State) (k n : Nat) : (s.setNum k n).ready = s.ready := rfl
@[simp] theorem State.setNum_faultN (s : State) (k n : Nat) : (s.setNum k n).faultN = s.faultN := rfl
@[simp] theorem State.setNum_course (s : State) (k n : Nat) : (s.setNum k n).course = s.course := rfl
@[simp] theorem State.setNum_events (s : State) (k n : Nat) : (s.setNum k n).events = s.events := rfl
@[simp] theorem State.setNum_streams (s : State) (k n : Nat) : (s.setNum k n).streams = s.streams := rfl
@[simp] theorem State.setNum_plan (s : State) (k n : Nat) : (s.setNum k n).plan = s.plan := rfl
@[simp] theorem State.setNum_loading (s : State) (k n : Nat) : (s.setNum k n).loading = s.loading := rfl
@[simp] theorem State.setNum_place (s : State) (k n : Nat) : (s.setNum k n).place = s.place := rfl
@[simp] theorem State.setNum_triggers (s : State) (k n : Nat) : (s.setNum k n).triggers = s.triggers := rfl
@[simp] theorem State.setNum_placeDue (s : State) (k n : Nat) : (s.setNum k n).placeDue = s.placeDue := rfl
@[simp] theorem State.setNum_placing (s : State) (k n : Nat) : (s.setNum k n).placing = s.placing := rfl
@[simp] theorem State.setNum_placeWait (s : State) (k n : Nat) : (s.setNum k n).placeWait = s.placeWait := rfl
@[simp] theorem State.setNum_arrays (s : State) (k n : Nat) : (s.setNum k n).arrays = s.arrays := rfl
@[simp] theorem State.setNum_cells (s : State) (k n : Nat) : (s.setNum k n).cells = s.cells := rfl
@[simp] theorem State.setNum_cal (s : State) (k n : Nat) : (s.setNum k n).cal = s.cal := rfl
@[simp] theorem State.setNum_layers (s : State) (k n : Nat) : (s.setNum k n).layers = s.layers := rfl
@[simp] theorem State.setNum_widenLog (s : State) (k n : Nat) : (s.setNum k n).widenLog = s.widenLog := rfl
@[simp] theorem State.setNum_plumbLog (s : State) (k n : Nat) : (s.setNum k n).plumbLog = s.plumbLog := rfl
@[simp] theorem State.setNum_storm (s : State) (k n : Nat) : (s.setNum k n).storm = s.storm := rfl
@[simp] theorem State.setNum_jointModes (s : State) (k n : Nat) : (s.setNum k n).jointModes = s.jointModes := rfl
@[simp] theorem State.setNum_jointParts (s : State) (k n : Nat) : (s.setNum k n).jointParts = s.jointParts := rfl
@[simp] theorem State.setNum_jointWaits (s : State) (k n : Nat) : (s.setNum k n).jointWaits = s.jointWaits := rfl
@[simp] theorem State.setNum_backward (s : State) (k n : Nat) : (s.setNum k n).backward = s.backward := rfl
@[simp] theorem State.setNum_frogMost (s : State) (k n : Nat) : (s.setNum k n).frogMost = s.frogMost := rfl
@[simp] theorem State.setNum_step (s : State) (k n : Nat) : (s.setNum k n).step = s.step := rfl
@[simp] theorem State.setNum_exch (s : State) (k n : Nat) : (s.setNum k n).exch = s.exch := rfl
@[simp] theorem State.setNum_upd (s : State) (k n : Nat) : (s.setNum k n).upd = s.upd := rfl
@[simp] theorem State.setNum_mem (s : State) (k n : Nat) : (s.setNum k n).mem = s.mem := rfl
@[simp] theorem State.setNum_memUnit (s : State) (k n : Nat) : (s.setNum k n).memUnit = s.memUnit := rfl
@[simp] theorem State.setNum_bridges (s : State) (k n : Nat) : (s.setNum k n).bridges = s.bridges := rfl
@[simp] theorem State.setNum_link (s : State) (k n : Nat) : (s.setNum k n).link = s.link := rfl
@[simp] theorem State.setNum_ep0 (s : State) (k n : Nat) : (s.setNum k n).ep0 = s.ep0 := rfl
@[simp] theorem State.setNum_ep1 (s : State) (k n : Nat) : (s.setNum k n).ep1 = s.ep1 := rfl
@[simp] theorem State.setNum_dict (s : State) (k n : Nat) : (s.setNum k n).dict = s.dict := rfl
@[simp] theorem State.setNum_meas (s : State) (k n : Nat) : (s.setNum k n).meas = s.meas := rfl
@[simp] theorem State.setNum_clk (s : State) (k n : Nat) : (s.setNum k n).clk = s.clk := rfl
@[simp] theorem State.setNum_faults (s : State) (k n : Nat) : (s.setNum k n).faults = s.faults := rfl
@[simp] theorem State.setNum_freeze (s : State) (k n : Nat) : (s.setNum k n).freeze = s.freeze := rfl
@[simp] theorem State.setNum_fw (s : State) (k n : Nat) : (s.setNum k n).fw = s.fw := rfl
@[simp] theorem State.setNum_outs (s : State) (k n : Nat) : (s.setNum k n).outs = s.outs := rfl
@[simp] theorem State.setNum_free (s : State) (k n : Nat) : (s.setNum k n).free = s.free := rfl
@[simp] theorem State.setNum_pending (s : State) (k n : Nat) : (s.setNum k n).pending = s.pending := rfl

@[simp] theorem State.setRows_mode (s : State) (k : Nat) (r : List (List Nat)) : (s.setRows k r).mode = s.mode := rfl
@[simp] theorem State.setRows_resetN (s : State) (k : Nat) (r : List (List Nat)) : (s.setRows k r).resetN = s.resetN := rfl
@[simp] theorem State.setRows_pwrGood (s : State) (k : Nat) (r : List (List Nat)) : (s.setRows k r).pwrGood = s.pwrGood := rfl
@[simp] theorem State.setRows_freezeN (s : State) (k : Nat) (r : List (List Nat)) : (s.setRows k r).freezeN = s.freezeN := rfl
@[simp] theorem State.setRows_slotId (s : State) (k : Nat) (r : List (List Nat)) : (s.setRows k r).slotId = s.slotId := rfl
@[simp] theorem State.setRows_bondSide (s : State) (k : Nat) (r : List (List Nat)) : (s.setRows k r).bondSide = s.bondSide := rfl
@[simp] theorem State.setRows_ready (s : State) (k : Nat) (r : List (List Nat)) : (s.setRows k r).ready = s.ready := rfl
@[simp] theorem State.setRows_faultN (s : State) (k : Nat) (r : List (List Nat)) : (s.setRows k r).faultN = s.faultN := rfl
@[simp] theorem State.setRows_course (s : State) (k : Nat) (r : List (List Nat)) : (s.setRows k r).course = s.course := rfl
@[simp] theorem State.setRows_events (s : State) (k : Nat) (r : List (List Nat)) : (s.setRows k r).events = s.events := rfl
@[simp] theorem State.setRows_streams (s : State) (k : Nat) (r : List (List Nat)) : (s.setRows k r).streams = s.streams := rfl
@[simp] theorem State.setRows_plan (s : State) (k : Nat) (r : List (List Nat)) : (s.setRows k r).plan = s.plan := rfl
@[simp] theorem State.setRows_loading (s : State) (k : Nat) (r : List (List Nat)) : (s.setRows k r).loading = s.loading := rfl
@[simp] theorem State.setRows_place (s : State) (k : Nat) (r : List (List Nat)) : (s.setRows k r).place = s.place := rfl
@[simp] theorem State.setRows_triggers (s : State) (k : Nat) (r : List (List Nat)) : (s.setRows k r).triggers = s.triggers := rfl
@[simp] theorem State.setRows_placeDue (s : State) (k : Nat) (r : List (List Nat)) : (s.setRows k r).placeDue = s.placeDue := rfl
@[simp] theorem State.setRows_placing (s : State) (k : Nat) (r : List (List Nat)) : (s.setRows k r).placing = s.placing := rfl
@[simp] theorem State.setRows_placeWait (s : State) (k : Nat) (r : List (List Nat)) : (s.setRows k r).placeWait = s.placeWait := rfl
@[simp] theorem State.setRows_arrays (s : State) (k : Nat) (r : List (List Nat)) : (s.setRows k r).arrays = s.arrays := rfl
@[simp] theorem State.setRows_cells (s : State) (k : Nat) (r : List (List Nat)) : (s.setRows k r).cells = s.cells := rfl
@[simp] theorem State.setRows_cal (s : State) (k : Nat) (r : List (List Nat)) : (s.setRows k r).cal = s.cal := rfl
@[simp] theorem State.setRows_layers (s : State) (k : Nat) (r : List (List Nat)) : (s.setRows k r).layers = s.layers := rfl
@[simp] theorem State.setRows_widenLog (s : State) (k : Nat) (r : List (List Nat)) : (s.setRows k r).widenLog = s.widenLog := rfl
@[simp] theorem State.setRows_plumbLog (s : State) (k : Nat) (r : List (List Nat)) : (s.setRows k r).plumbLog = s.plumbLog := rfl
@[simp] theorem State.setRows_storm (s : State) (k : Nat) (r : List (List Nat)) : (s.setRows k r).storm = s.storm := rfl
@[simp] theorem State.setRows_jointModes (s : State) (k : Nat) (r : List (List Nat)) : (s.setRows k r).jointModes = s.jointModes := rfl
@[simp] theorem State.setRows_jointParts (s : State) (k : Nat) (r : List (List Nat)) : (s.setRows k r).jointParts = s.jointParts := rfl
@[simp] theorem State.setRows_jointWaits (s : State) (k : Nat) (r : List (List Nat)) : (s.setRows k r).jointWaits = s.jointWaits := rfl
@[simp] theorem State.setRows_backward (s : State) (k : Nat) (r : List (List Nat)) : (s.setRows k r).backward = s.backward := rfl
@[simp] theorem State.setRows_frogMost (s : State) (k : Nat) (r : List (List Nat)) : (s.setRows k r).frogMost = s.frogMost := rfl
@[simp] theorem State.setRows_step (s : State) (k : Nat) (r : List (List Nat)) : (s.setRows k r).step = s.step := rfl
@[simp] theorem State.setRows_exch (s : State) (k : Nat) (r : List (List Nat)) : (s.setRows k r).exch = s.exch := rfl
@[simp] theorem State.setRows_upd (s : State) (k : Nat) (r : List (List Nat)) : (s.setRows k r).upd = s.upd := rfl
@[simp] theorem State.setRows_mem (s : State) (k : Nat) (r : List (List Nat)) : (s.setRows k r).mem = s.mem := rfl
@[simp] theorem State.setRows_memUnit (s : State) (k : Nat) (r : List (List Nat)) : (s.setRows k r).memUnit = s.memUnit := rfl
@[simp] theorem State.setRows_bridges (s : State) (k : Nat) (r : List (List Nat)) : (s.setRows k r).bridges = s.bridges := rfl
@[simp] theorem State.setRows_link (s : State) (k : Nat) (r : List (List Nat)) : (s.setRows k r).link = s.link := rfl
@[simp] theorem State.setRows_ep0 (s : State) (k : Nat) (r : List (List Nat)) : (s.setRows k r).ep0 = s.ep0 := rfl
@[simp] theorem State.setRows_ep1 (s : State) (k : Nat) (r : List (List Nat)) : (s.setRows k r).ep1 = s.ep1 := rfl
@[simp] theorem State.setRows_dict (s : State) (k : Nat) (r : List (List Nat)) : (s.setRows k r).dict = s.dict := rfl
@[simp] theorem State.setRows_meas (s : State) (k : Nat) (r : List (List Nat)) : (s.setRows k r).meas = s.meas := rfl
@[simp] theorem State.setRows_clk (s : State) (k : Nat) (r : List (List Nat)) : (s.setRows k r).clk = s.clk := rfl
@[simp] theorem State.setRows_faults (s : State) (k : Nat) (r : List (List Nat)) : (s.setRows k r).faults = s.faults := rfl
@[simp] theorem State.setRows_freeze (s : State) (k : Nat) (r : List (List Nat)) : (s.setRows k r).freeze = s.freeze := rfl
@[simp] theorem State.setRows_fw (s : State) (k : Nat) (r : List (List Nat)) : (s.setRows k r).fw = s.fw := rfl
@[simp] theorem State.setRows_outs (s : State) (k : Nat) (r : List (List Nat)) : (s.setRows k r).outs = s.outs := rfl
@[simp] theorem State.setRows_free (s : State) (k : Nat) (r : List (List Nat)) : (s.setRows k r).free = s.free := rfl
@[simp] theorem State.setRows_pending (s : State) (k : Nat) (r : List (List Nat)) : (s.setRows k r).pending = s.pending := rfl

@[simp] theorem State.setBytes_mode (s : State) (k : Nat) (b : List Byte) : (s.setBytes k b).mode = s.mode := rfl
@[simp] theorem State.setBytes_resetN (s : State) (k : Nat) (b : List Byte) : (s.setBytes k b).resetN = s.resetN := rfl
@[simp] theorem State.setBytes_pwrGood (s : State) (k : Nat) (b : List Byte) : (s.setBytes k b).pwrGood = s.pwrGood := rfl
@[simp] theorem State.setBytes_freezeN (s : State) (k : Nat) (b : List Byte) : (s.setBytes k b).freezeN = s.freezeN := rfl
@[simp] theorem State.setBytes_slotId (s : State) (k : Nat) (b : List Byte) : (s.setBytes k b).slotId = s.slotId := rfl
@[simp] theorem State.setBytes_bondSide (s : State) (k : Nat) (b : List Byte) : (s.setBytes k b).bondSide = s.bondSide := rfl
@[simp] theorem State.setBytes_ready (s : State) (k : Nat) (b : List Byte) : (s.setBytes k b).ready = s.ready := rfl
@[simp] theorem State.setBytes_faultN (s : State) (k : Nat) (b : List Byte) : (s.setBytes k b).faultN = s.faultN := rfl
@[simp] theorem State.setBytes_course (s : State) (k : Nat) (b : List Byte) : (s.setBytes k b).course = s.course := rfl
@[simp] theorem State.setBytes_events (s : State) (k : Nat) (b : List Byte) : (s.setBytes k b).events = s.events := rfl
@[simp] theorem State.setBytes_streams (s : State) (k : Nat) (b : List Byte) : (s.setBytes k b).streams = s.streams := rfl
@[simp] theorem State.setBytes_plan (s : State) (k : Nat) (b : List Byte) : (s.setBytes k b).plan = s.plan := rfl
@[simp] theorem State.setBytes_loading (s : State) (k : Nat) (b : List Byte) : (s.setBytes k b).loading = s.loading := rfl
@[simp] theorem State.setBytes_place (s : State) (k : Nat) (b : List Byte) : (s.setBytes k b).place = s.place := rfl
@[simp] theorem State.setBytes_triggers (s : State) (k : Nat) (b : List Byte) : (s.setBytes k b).triggers = s.triggers := rfl
@[simp] theorem State.setBytes_placeDue (s : State) (k : Nat) (b : List Byte) : (s.setBytes k b).placeDue = s.placeDue := rfl
@[simp] theorem State.setBytes_placing (s : State) (k : Nat) (b : List Byte) : (s.setBytes k b).placing = s.placing := rfl
@[simp] theorem State.setBytes_placeWait (s : State) (k : Nat) (b : List Byte) : (s.setBytes k b).placeWait = s.placeWait := rfl
@[simp] theorem State.setBytes_arrays (s : State) (k : Nat) (b : List Byte) : (s.setBytes k b).arrays = s.arrays := rfl
@[simp] theorem State.setBytes_cells (s : State) (k : Nat) (b : List Byte) : (s.setBytes k b).cells = s.cells := rfl
@[simp] theorem State.setBytes_cal (s : State) (k : Nat) (b : List Byte) : (s.setBytes k b).cal = s.cal := rfl
@[simp] theorem State.setBytes_layers (s : State) (k : Nat) (b : List Byte) : (s.setBytes k b).layers = s.layers := rfl
@[simp] theorem State.setBytes_widenLog (s : State) (k : Nat) (b : List Byte) : (s.setBytes k b).widenLog = s.widenLog := rfl
@[simp] theorem State.setBytes_plumbLog (s : State) (k : Nat) (b : List Byte) : (s.setBytes k b).plumbLog = s.plumbLog := rfl
@[simp] theorem State.setBytes_storm (s : State) (k : Nat) (b : List Byte) : (s.setBytes k b).storm = s.storm := rfl
@[simp] theorem State.setBytes_jointModes (s : State) (k : Nat) (b : List Byte) : (s.setBytes k b).jointModes = s.jointModes := rfl
@[simp] theorem State.setBytes_jointParts (s : State) (k : Nat) (b : List Byte) : (s.setBytes k b).jointParts = s.jointParts := rfl
@[simp] theorem State.setBytes_jointWaits (s : State) (k : Nat) (b : List Byte) : (s.setBytes k b).jointWaits = s.jointWaits := rfl
@[simp] theorem State.setBytes_backward (s : State) (k : Nat) (b : List Byte) : (s.setBytes k b).backward = s.backward := rfl
@[simp] theorem State.setBytes_frogMost (s : State) (k : Nat) (b : List Byte) : (s.setBytes k b).frogMost = s.frogMost := rfl
@[simp] theorem State.setBytes_step (s : State) (k : Nat) (b : List Byte) : (s.setBytes k b).step = s.step := rfl
@[simp] theorem State.setBytes_exch (s : State) (k : Nat) (b : List Byte) : (s.setBytes k b).exch = s.exch := rfl
@[simp] theorem State.setBytes_upd (s : State) (k : Nat) (b : List Byte) : (s.setBytes k b).upd = s.upd := rfl
@[simp] theorem State.setBytes_mem (s : State) (k : Nat) (b : List Byte) : (s.setBytes k b).mem = s.mem := rfl
@[simp] theorem State.setBytes_memUnit (s : State) (k : Nat) (b : List Byte) : (s.setBytes k b).memUnit = s.memUnit := rfl
@[simp] theorem State.setBytes_bridges (s : State) (k : Nat) (b : List Byte) : (s.setBytes k b).bridges = s.bridges := rfl
@[simp] theorem State.setBytes_link (s : State) (k : Nat) (b : List Byte) : (s.setBytes k b).link = s.link := rfl
@[simp] theorem State.setBytes_ep0 (s : State) (k : Nat) (b : List Byte) : (s.setBytes k b).ep0 = s.ep0 := rfl
@[simp] theorem State.setBytes_ep1 (s : State) (k : Nat) (b : List Byte) : (s.setBytes k b).ep1 = s.ep1 := rfl
@[simp] theorem State.setBytes_dict (s : State) (k : Nat) (b : List Byte) : (s.setBytes k b).dict = s.dict := rfl
@[simp] theorem State.setBytes_meas (s : State) (k : Nat) (b : List Byte) : (s.setBytes k b).meas = s.meas := rfl
@[simp] theorem State.setBytes_clk (s : State) (k : Nat) (b : List Byte) : (s.setBytes k b).clk = s.clk := rfl
@[simp] theorem State.setBytes_faults (s : State) (k : Nat) (b : List Byte) : (s.setBytes k b).faults = s.faults := rfl
@[simp] theorem State.setBytes_freeze (s : State) (k : Nat) (b : List Byte) : (s.setBytes k b).freeze = s.freeze := rfl
@[simp] theorem State.setBytes_fw (s : State) (k : Nat) (b : List Byte) : (s.setBytes k b).fw = s.fw := rfl
@[simp] theorem State.setBytes_outs (s : State) (k : Nat) (b : List Byte) : (s.setBytes k b).outs = s.outs := rfl
@[simp] theorem State.setBytes_free (s : State) (k : Nat) (b : List Byte) : (s.setBytes k b).free = s.free := rfl
@[simp] theorem State.setBytes_pending (s : State) (k : Nat) (b : List Byte) : (s.setBytes k b).pending = s.pending := rfl

@[simp] theorem State.bumpBy_mode (s : State) (k n : Nat) : (s.bumpBy k n).mode = s.mode := rfl
@[simp] theorem State.bumpBy_resetN (s : State) (k n : Nat) : (s.bumpBy k n).resetN = s.resetN := rfl
@[simp] theorem State.bumpBy_pwrGood (s : State) (k n : Nat) : (s.bumpBy k n).pwrGood = s.pwrGood := rfl
@[simp] theorem State.bumpBy_freezeN (s : State) (k n : Nat) : (s.bumpBy k n).freezeN = s.freezeN := rfl
@[simp] theorem State.bumpBy_slotId (s : State) (k n : Nat) : (s.bumpBy k n).slotId = s.slotId := rfl
@[simp] theorem State.bumpBy_bondSide (s : State) (k n : Nat) : (s.bumpBy k n).bondSide = s.bondSide := rfl
@[simp] theorem State.bumpBy_ready (s : State) (k n : Nat) : (s.bumpBy k n).ready = s.ready := rfl
@[simp] theorem State.bumpBy_faultN (s : State) (k n : Nat) : (s.bumpBy k n).faultN = s.faultN := rfl
@[simp] theorem State.bumpBy_course (s : State) (k n : Nat) : (s.bumpBy k n).course = s.course := rfl
@[simp] theorem State.bumpBy_events (s : State) (k n : Nat) : (s.bumpBy k n).events = s.events := rfl
@[simp] theorem State.bumpBy_streams (s : State) (k n : Nat) : (s.bumpBy k n).streams = s.streams := rfl
@[simp] theorem State.bumpBy_plan (s : State) (k n : Nat) : (s.bumpBy k n).plan = s.plan := rfl
@[simp] theorem State.bumpBy_loading (s : State) (k n : Nat) : (s.bumpBy k n).loading = s.loading := rfl
@[simp] theorem State.bumpBy_place (s : State) (k n : Nat) : (s.bumpBy k n).place = s.place := rfl
@[simp] theorem State.bumpBy_triggers (s : State) (k n : Nat) : (s.bumpBy k n).triggers = s.triggers := rfl
@[simp] theorem State.bumpBy_placeDue (s : State) (k n : Nat) : (s.bumpBy k n).placeDue = s.placeDue := rfl
@[simp] theorem State.bumpBy_placing (s : State) (k n : Nat) : (s.bumpBy k n).placing = s.placing := rfl
@[simp] theorem State.bumpBy_placeWait (s : State) (k n : Nat) : (s.bumpBy k n).placeWait = s.placeWait := rfl
@[simp] theorem State.bumpBy_arrays (s : State) (k n : Nat) : (s.bumpBy k n).arrays = s.arrays := rfl
@[simp] theorem State.bumpBy_cells (s : State) (k n : Nat) : (s.bumpBy k n).cells = s.cells := rfl
@[simp] theorem State.bumpBy_cal (s : State) (k n : Nat) : (s.bumpBy k n).cal = s.cal := rfl
@[simp] theorem State.bumpBy_layers (s : State) (k n : Nat) : (s.bumpBy k n).layers = s.layers := rfl
@[simp] theorem State.bumpBy_widenLog (s : State) (k n : Nat) : (s.bumpBy k n).widenLog = s.widenLog := rfl
@[simp] theorem State.bumpBy_plumbLog (s : State) (k n : Nat) : (s.bumpBy k n).plumbLog = s.plumbLog := rfl
@[simp] theorem State.bumpBy_storm (s : State) (k n : Nat) : (s.bumpBy k n).storm = s.storm := rfl
@[simp] theorem State.bumpBy_jointModes (s : State) (k n : Nat) : (s.bumpBy k n).jointModes = s.jointModes := rfl
@[simp] theorem State.bumpBy_jointParts (s : State) (k n : Nat) : (s.bumpBy k n).jointParts = s.jointParts := rfl
@[simp] theorem State.bumpBy_jointWaits (s : State) (k n : Nat) : (s.bumpBy k n).jointWaits = s.jointWaits := rfl
@[simp] theorem State.bumpBy_backward (s : State) (k n : Nat) : (s.bumpBy k n).backward = s.backward := rfl
@[simp] theorem State.bumpBy_frogMost (s : State) (k n : Nat) : (s.bumpBy k n).frogMost = s.frogMost := rfl
@[simp] theorem State.bumpBy_step (s : State) (k n : Nat) : (s.bumpBy k n).step = s.step := rfl
@[simp] theorem State.bumpBy_exch (s : State) (k n : Nat) : (s.bumpBy k n).exch = s.exch := rfl
@[simp] theorem State.bumpBy_upd (s : State) (k n : Nat) : (s.bumpBy k n).upd = s.upd := rfl
@[simp] theorem State.bumpBy_mem (s : State) (k n : Nat) : (s.bumpBy k n).mem = s.mem := rfl
@[simp] theorem State.bumpBy_memUnit (s : State) (k n : Nat) : (s.bumpBy k n).memUnit = s.memUnit := rfl
@[simp] theorem State.bumpBy_bridges (s : State) (k n : Nat) : (s.bumpBy k n).bridges = s.bridges := rfl
@[simp] theorem State.bumpBy_link (s : State) (k n : Nat) : (s.bumpBy k n).link = s.link := rfl
@[simp] theorem State.bumpBy_ep0 (s : State) (k n : Nat) : (s.bumpBy k n).ep0 = s.ep0 := rfl
@[simp] theorem State.bumpBy_ep1 (s : State) (k n : Nat) : (s.bumpBy k n).ep1 = s.ep1 := rfl
@[simp] theorem State.bumpBy_dict (s : State) (k n : Nat) : (s.bumpBy k n).dict = s.dict := rfl
@[simp] theorem State.bumpBy_meas (s : State) (k n : Nat) : (s.bumpBy k n).meas = s.meas := rfl
@[simp] theorem State.bumpBy_clk (s : State) (k n : Nat) : (s.bumpBy k n).clk = s.clk := rfl
@[simp] theorem State.bumpBy_faults (s : State) (k n : Nat) : (s.bumpBy k n).faults = s.faults := rfl
@[simp] theorem State.bumpBy_freeze (s : State) (k n : Nat) : (s.bumpBy k n).freeze = s.freeze := rfl
@[simp] theorem State.bumpBy_fw (s : State) (k n : Nat) : (s.bumpBy k n).fw = s.fw := rfl
@[simp] theorem State.bumpBy_outs (s : State) (k n : Nat) : (s.bumpBy k n).outs = s.outs := rfl
@[simp] theorem State.bumpBy_free (s : State) (k n : Nat) : (s.bumpBy k n).free = s.free := rfl
@[simp] theorem State.bumpBy_pending (s : State) (k n : Nat) : (s.bumpBy k n).pending = s.pending := rfl

@[simp] theorem State.bump_mode (s : State) (k : Nat) : (s.bump k).mode = s.mode := rfl
@[simp] theorem State.bump_resetN (s : State) (k : Nat) : (s.bump k).resetN = s.resetN := rfl
@[simp] theorem State.bump_pwrGood (s : State) (k : Nat) : (s.bump k).pwrGood = s.pwrGood := rfl
@[simp] theorem State.bump_freezeN (s : State) (k : Nat) : (s.bump k).freezeN = s.freezeN := rfl
@[simp] theorem State.bump_slotId (s : State) (k : Nat) : (s.bump k).slotId = s.slotId := rfl
@[simp] theorem State.bump_bondSide (s : State) (k : Nat) : (s.bump k).bondSide = s.bondSide := rfl
@[simp] theorem State.bump_ready (s : State) (k : Nat) : (s.bump k).ready = s.ready := rfl
@[simp] theorem State.bump_faultN (s : State) (k : Nat) : (s.bump k).faultN = s.faultN := rfl
@[simp] theorem State.bump_course (s : State) (k : Nat) : (s.bump k).course = s.course := rfl
@[simp] theorem State.bump_events (s : State) (k : Nat) : (s.bump k).events = s.events := rfl
@[simp] theorem State.bump_streams (s : State) (k : Nat) : (s.bump k).streams = s.streams := rfl
@[simp] theorem State.bump_plan (s : State) (k : Nat) : (s.bump k).plan = s.plan := rfl
@[simp] theorem State.bump_loading (s : State) (k : Nat) : (s.bump k).loading = s.loading := rfl
@[simp] theorem State.bump_place (s : State) (k : Nat) : (s.bump k).place = s.place := rfl
@[simp] theorem State.bump_triggers (s : State) (k : Nat) : (s.bump k).triggers = s.triggers := rfl
@[simp] theorem State.bump_placeDue (s : State) (k : Nat) : (s.bump k).placeDue = s.placeDue := rfl
@[simp] theorem State.bump_placing (s : State) (k : Nat) : (s.bump k).placing = s.placing := rfl
@[simp] theorem State.bump_placeWait (s : State) (k : Nat) : (s.bump k).placeWait = s.placeWait := rfl
@[simp] theorem State.bump_arrays (s : State) (k : Nat) : (s.bump k).arrays = s.arrays := rfl
@[simp] theorem State.bump_cells (s : State) (k : Nat) : (s.bump k).cells = s.cells := rfl
@[simp] theorem State.bump_cal (s : State) (k : Nat) : (s.bump k).cal = s.cal := rfl
@[simp] theorem State.bump_layers (s : State) (k : Nat) : (s.bump k).layers = s.layers := rfl
@[simp] theorem State.bump_widenLog (s : State) (k : Nat) : (s.bump k).widenLog = s.widenLog := rfl
@[simp] theorem State.bump_plumbLog (s : State) (k : Nat) : (s.bump k).plumbLog = s.plumbLog := rfl
@[simp] theorem State.bump_storm (s : State) (k : Nat) : (s.bump k).storm = s.storm := rfl
@[simp] theorem State.bump_jointModes (s : State) (k : Nat) : (s.bump k).jointModes = s.jointModes := rfl
@[simp] theorem State.bump_jointParts (s : State) (k : Nat) : (s.bump k).jointParts = s.jointParts := rfl
@[simp] theorem State.bump_jointWaits (s : State) (k : Nat) : (s.bump k).jointWaits = s.jointWaits := rfl
@[simp] theorem State.bump_backward (s : State) (k : Nat) : (s.bump k).backward = s.backward := rfl
@[simp] theorem State.bump_frogMost (s : State) (k : Nat) : (s.bump k).frogMost = s.frogMost := rfl
@[simp] theorem State.bump_step (s : State) (k : Nat) : (s.bump k).step = s.step := rfl
@[simp] theorem State.bump_exch (s : State) (k : Nat) : (s.bump k).exch = s.exch := rfl
@[simp] theorem State.bump_upd (s : State) (k : Nat) : (s.bump k).upd = s.upd := rfl
@[simp] theorem State.bump_mem (s : State) (k : Nat) : (s.bump k).mem = s.mem := rfl
@[simp] theorem State.bump_memUnit (s : State) (k : Nat) : (s.bump k).memUnit = s.memUnit := rfl
@[simp] theorem State.bump_bridges (s : State) (k : Nat) : (s.bump k).bridges = s.bridges := rfl
@[simp] theorem State.bump_link (s : State) (k : Nat) : (s.bump k).link = s.link := rfl
@[simp] theorem State.bump_ep0 (s : State) (k : Nat) : (s.bump k).ep0 = s.ep0 := rfl
@[simp] theorem State.bump_ep1 (s : State) (k : Nat) : (s.bump k).ep1 = s.ep1 := rfl
@[simp] theorem State.bump_dict (s : State) (k : Nat) : (s.bump k).dict = s.dict := rfl
@[simp] theorem State.bump_meas (s : State) (k : Nat) : (s.bump k).meas = s.meas := rfl
@[simp] theorem State.bump_clk (s : State) (k : Nat) : (s.bump k).clk = s.clk := rfl
@[simp] theorem State.bump_faults (s : State) (k : Nat) : (s.bump k).faults = s.faults := rfl
@[simp] theorem State.bump_freeze (s : State) (k : Nat) : (s.bump k).freeze = s.freeze := rfl
@[simp] theorem State.bump_fw (s : State) (k : Nat) : (s.bump k).fw = s.fw := rfl
@[simp] theorem State.bump_outs (s : State) (k : Nat) : (s.bump k).outs = s.outs := rfl
@[simp] theorem State.bump_free (s : State) (k : Nat) : (s.bump k).free = s.free := rfl
@[simp] theorem State.bump_pending (s : State) (k : Nat) : (s.bump k).pending = s.pending := rfl

@[simp] theorem State.emit_mode (s : State) (x : Out) : (s.emit x).mode = s.mode := rfl
@[simp] theorem State.emit_resetN (s : State) (x : Out) : (s.emit x).resetN = s.resetN := rfl
@[simp] theorem State.emit_pwrGood (s : State) (x : Out) : (s.emit x).pwrGood = s.pwrGood := rfl
@[simp] theorem State.emit_freezeN (s : State) (x : Out) : (s.emit x).freezeN = s.freezeN := rfl
@[simp] theorem State.emit_slotId (s : State) (x : Out) : (s.emit x).slotId = s.slotId := rfl
@[simp] theorem State.emit_bondSide (s : State) (x : Out) : (s.emit x).bondSide = s.bondSide := rfl
@[simp] theorem State.emit_ready (s : State) (x : Out) : (s.emit x).ready = s.ready := rfl
@[simp] theorem State.emit_faultN (s : State) (x : Out) : (s.emit x).faultN = s.faultN := rfl
@[simp] theorem State.emit_pd (s : State) (x : Out) : (s.emit x).pd = s.pd := rfl
@[simp] theorem State.emit_course (s : State) (x : Out) : (s.emit x).course = s.course := rfl
@[simp] theorem State.emit_events (s : State) (x : Out) : (s.emit x).events = s.events := rfl
@[simp] theorem State.emit_streams (s : State) (x : Out) : (s.emit x).streams = s.streams := rfl
@[simp] theorem State.emit_plan (s : State) (x : Out) : (s.emit x).plan = s.plan := rfl
@[simp] theorem State.emit_loading (s : State) (x : Out) : (s.emit x).loading = s.loading := rfl
@[simp] theorem State.emit_place (s : State) (x : Out) : (s.emit x).place = s.place := rfl
@[simp] theorem State.emit_triggers (s : State) (x : Out) : (s.emit x).triggers = s.triggers := rfl
@[simp] theorem State.emit_placeDue (s : State) (x : Out) : (s.emit x).placeDue = s.placeDue := rfl
@[simp] theorem State.emit_placing (s : State) (x : Out) : (s.emit x).placing = s.placing := rfl
@[simp] theorem State.emit_placeWait (s : State) (x : Out) : (s.emit x).placeWait = s.placeWait := rfl
@[simp] theorem State.emit_arrays (s : State) (x : Out) : (s.emit x).arrays = s.arrays := rfl
@[simp] theorem State.emit_cells (s : State) (x : Out) : (s.emit x).cells = s.cells := rfl
@[simp] theorem State.emit_cal (s : State) (x : Out) : (s.emit x).cal = s.cal := rfl
@[simp] theorem State.emit_layers (s : State) (x : Out) : (s.emit x).layers = s.layers := rfl
@[simp] theorem State.emit_widenLog (s : State) (x : Out) : (s.emit x).widenLog = s.widenLog := rfl
@[simp] theorem State.emit_plumbLog (s : State) (x : Out) : (s.emit x).plumbLog = s.plumbLog := rfl
@[simp] theorem State.emit_storm (s : State) (x : Out) : (s.emit x).storm = s.storm := rfl
@[simp] theorem State.emit_jointModes (s : State) (x : Out) : (s.emit x).jointModes = s.jointModes := rfl
@[simp] theorem State.emit_jointParts (s : State) (x : Out) : (s.emit x).jointParts = s.jointParts := rfl
@[simp] theorem State.emit_jointWaits (s : State) (x : Out) : (s.emit x).jointWaits = s.jointWaits := rfl
@[simp] theorem State.emit_backward (s : State) (x : Out) : (s.emit x).backward = s.backward := rfl
@[simp] theorem State.emit_frogMost (s : State) (x : Out) : (s.emit x).frogMost = s.frogMost := rfl
@[simp] theorem State.emit_step (s : State) (x : Out) : (s.emit x).step = s.step := rfl
@[simp] theorem State.emit_exch (s : State) (x : Out) : (s.emit x).exch = s.exch := rfl
@[simp] theorem State.emit_upd (s : State) (x : Out) : (s.emit x).upd = s.upd := rfl
@[simp] theorem State.emit_mem (s : State) (x : Out) : (s.emit x).mem = s.mem := rfl
@[simp] theorem State.emit_memUnit (s : State) (x : Out) : (s.emit x).memUnit = s.memUnit := rfl
@[simp] theorem State.emit_bridges (s : State) (x : Out) : (s.emit x).bridges = s.bridges := rfl
@[simp] theorem State.emit_link (s : State) (x : Out) : (s.emit x).link = s.link := rfl
@[simp] theorem State.emit_ep0 (s : State) (x : Out) : (s.emit x).ep0 = s.ep0 := rfl
@[simp] theorem State.emit_ep1 (s : State) (x : Out) : (s.emit x).ep1 = s.ep1 := rfl
@[simp] theorem State.emit_dict (s : State) (x : Out) : (s.emit x).dict = s.dict := rfl
@[simp] theorem State.emit_meas (s : State) (x : Out) : (s.emit x).meas = s.meas := rfl
@[simp] theorem State.emit_clk (s : State) (x : Out) : (s.emit x).clk = s.clk := rfl
@[simp] theorem State.emit_faults (s : State) (x : Out) : (s.emit x).faults = s.faults := rfl
@[simp] theorem State.emit_freeze (s : State) (x : Out) : (s.emit x).freeze = s.freeze := rfl
@[simp] theorem State.emit_fw (s : State) (x : Out) : (s.emit x).fw = s.fw := rfl
@[simp] theorem State.emit_free (s : State) (x : Out) : (s.emit x).free = s.free := rfl
@[simp] theorem State.emit_pending (s : State) (x : Out) : (s.emit x).pending = s.pending := rfl

@[simp] theorem State.emits_mode (s : State) (x : List Out) : (s.emits x).mode = s.mode := rfl
@[simp] theorem State.emits_resetN (s : State) (x : List Out) : (s.emits x).resetN = s.resetN := rfl
@[simp] theorem State.emits_pwrGood (s : State) (x : List Out) : (s.emits x).pwrGood = s.pwrGood := rfl
@[simp] theorem State.emits_freezeN (s : State) (x : List Out) : (s.emits x).freezeN = s.freezeN := rfl
@[simp] theorem State.emits_slotId (s : State) (x : List Out) : (s.emits x).slotId = s.slotId := rfl
@[simp] theorem State.emits_bondSide (s : State) (x : List Out) : (s.emits x).bondSide = s.bondSide := rfl
@[simp] theorem State.emits_ready (s : State) (x : List Out) : (s.emits x).ready = s.ready := rfl
@[simp] theorem State.emits_faultN (s : State) (x : List Out) : (s.emits x).faultN = s.faultN := rfl
@[simp] theorem State.emits_pd (s : State) (x : List Out) : (s.emits x).pd = s.pd := rfl
@[simp] theorem State.emits_course (s : State) (x : List Out) : (s.emits x).course = s.course := rfl
@[simp] theorem State.emits_events (s : State) (x : List Out) : (s.emits x).events = s.events := rfl
@[simp] theorem State.emits_streams (s : State) (x : List Out) : (s.emits x).streams = s.streams := rfl
@[simp] theorem State.emits_plan (s : State) (x : List Out) : (s.emits x).plan = s.plan := rfl
@[simp] theorem State.emits_loading (s : State) (x : List Out) : (s.emits x).loading = s.loading := rfl
@[simp] theorem State.emits_place (s : State) (x : List Out) : (s.emits x).place = s.place := rfl
@[simp] theorem State.emits_triggers (s : State) (x : List Out) : (s.emits x).triggers = s.triggers := rfl
@[simp] theorem State.emits_placeDue (s : State) (x : List Out) : (s.emits x).placeDue = s.placeDue := rfl
@[simp] theorem State.emits_placing (s : State) (x : List Out) : (s.emits x).placing = s.placing := rfl
@[simp] theorem State.emits_placeWait (s : State) (x : List Out) : (s.emits x).placeWait = s.placeWait := rfl
@[simp] theorem State.emits_arrays (s : State) (x : List Out) : (s.emits x).arrays = s.arrays := rfl
@[simp] theorem State.emits_cells (s : State) (x : List Out) : (s.emits x).cells = s.cells := rfl
@[simp] theorem State.emits_cal (s : State) (x : List Out) : (s.emits x).cal = s.cal := rfl
@[simp] theorem State.emits_layers (s : State) (x : List Out) : (s.emits x).layers = s.layers := rfl
@[simp] theorem State.emits_widenLog (s : State) (x : List Out) : (s.emits x).widenLog = s.widenLog := rfl
@[simp] theorem State.emits_plumbLog (s : State) (x : List Out) : (s.emits x).plumbLog = s.plumbLog := rfl
@[simp] theorem State.emits_storm (s : State) (x : List Out) : (s.emits x).storm = s.storm := rfl
@[simp] theorem State.emits_jointModes (s : State) (x : List Out) : (s.emits x).jointModes = s.jointModes := rfl
@[simp] theorem State.emits_jointParts (s : State) (x : List Out) : (s.emits x).jointParts = s.jointParts := rfl
@[simp] theorem State.emits_jointWaits (s : State) (x : List Out) : (s.emits x).jointWaits = s.jointWaits := rfl
@[simp] theorem State.emits_backward (s : State) (x : List Out) : (s.emits x).backward = s.backward := rfl
@[simp] theorem State.emits_frogMost (s : State) (x : List Out) : (s.emits x).frogMost = s.frogMost := rfl
@[simp] theorem State.emits_step (s : State) (x : List Out) : (s.emits x).step = s.step := rfl
@[simp] theorem State.emits_exch (s : State) (x : List Out) : (s.emits x).exch = s.exch := rfl
@[simp] theorem State.emits_upd (s : State) (x : List Out) : (s.emits x).upd = s.upd := rfl
@[simp] theorem State.emits_mem (s : State) (x : List Out) : (s.emits x).mem = s.mem := rfl
@[simp] theorem State.emits_memUnit (s : State) (x : List Out) : (s.emits x).memUnit = s.memUnit := rfl
@[simp] theorem State.emits_bridges (s : State) (x : List Out) : (s.emits x).bridges = s.bridges := rfl
@[simp] theorem State.emits_link (s : State) (x : List Out) : (s.emits x).link = s.link := rfl
@[simp] theorem State.emits_ep0 (s : State) (x : List Out) : (s.emits x).ep0 = s.ep0 := rfl
@[simp] theorem State.emits_ep1 (s : State) (x : List Out) : (s.emits x).ep1 = s.ep1 := rfl
@[simp] theorem State.emits_dict (s : State) (x : List Out) : (s.emits x).dict = s.dict := rfl
@[simp] theorem State.emits_meas (s : State) (x : List Out) : (s.emits x).meas = s.meas := rfl
@[simp] theorem State.emits_clk (s : State) (x : List Out) : (s.emits x).clk = s.clk := rfl
@[simp] theorem State.emits_faults (s : State) (x : List Out) : (s.emits x).faults = s.faults := rfl
@[simp] theorem State.emits_freeze (s : State) (x : List Out) : (s.emits x).freeze = s.freeze := rfl
@[simp] theorem State.emits_fw (s : State) (x : List Out) : (s.emits x).fw = s.fw := rfl
@[simp] theorem State.emits_free (s : State) (x : List Out) : (s.emits x).free = s.free := rfl
@[simp] theorem State.emits_pending (s : State) (x : List Out) : (s.emits x).pending = s.pending := rfl

@[simp] theorem State.write_mode (s : State) (st a : Nat) (b : List Byte) : (s.write st a b).mode = s.mode := rfl
@[simp] theorem State.write_resetN (s : State) (st a : Nat) (b : List Byte) : (s.write st a b).resetN = s.resetN := rfl
@[simp] theorem State.write_pwrGood (s : State) (st a : Nat) (b : List Byte) : (s.write st a b).pwrGood = s.pwrGood := rfl
@[simp] theorem State.write_freezeN (s : State) (st a : Nat) (b : List Byte) : (s.write st a b).freezeN = s.freezeN := rfl
@[simp] theorem State.write_slotId (s : State) (st a : Nat) (b : List Byte) : (s.write st a b).slotId = s.slotId := rfl
@[simp] theorem State.write_bondSide (s : State) (st a : Nat) (b : List Byte) : (s.write st a b).bondSide = s.bondSide := rfl
@[simp] theorem State.write_ready (s : State) (st a : Nat) (b : List Byte) : (s.write st a b).ready = s.ready := rfl
@[simp] theorem State.write_faultN (s : State) (st a : Nat) (b : List Byte) : (s.write st a b).faultN = s.faultN := rfl
@[simp] theorem State.write_pd (s : State) (st a : Nat) (b : List Byte) : (s.write st a b).pd = s.pd := rfl
@[simp] theorem State.write_course (s : State) (st a : Nat) (b : List Byte) : (s.write st a b).course = s.course := rfl
@[simp] theorem State.write_events (s : State) (st a : Nat) (b : List Byte) : (s.write st a b).events = s.events := rfl
@[simp] theorem State.write_streams (s : State) (st a : Nat) (b : List Byte) : (s.write st a b).streams = s.streams := rfl
@[simp] theorem State.write_plan (s : State) (st a : Nat) (b : List Byte) : (s.write st a b).plan = s.plan := rfl
@[simp] theorem State.write_loading (s : State) (st a : Nat) (b : List Byte) : (s.write st a b).loading = s.loading := rfl
@[simp] theorem State.write_place (s : State) (st a : Nat) (b : List Byte) : (s.write st a b).place = s.place := rfl
@[simp] theorem State.write_triggers (s : State) (st a : Nat) (b : List Byte) : (s.write st a b).triggers = s.triggers := rfl
@[simp] theorem State.write_placeDue (s : State) (st a : Nat) (b : List Byte) : (s.write st a b).placeDue = s.placeDue := rfl
@[simp] theorem State.write_placing (s : State) (st a : Nat) (b : List Byte) : (s.write st a b).placing = s.placing := rfl
@[simp] theorem State.write_placeWait (s : State) (st a : Nat) (b : List Byte) : (s.write st a b).placeWait = s.placeWait := rfl
@[simp] theorem State.write_arrays (s : State) (st a : Nat) (b : List Byte) : (s.write st a b).arrays = s.arrays := rfl
@[simp] theorem State.write_cells (s : State) (st a : Nat) (b : List Byte) : (s.write st a b).cells = s.cells := rfl
@[simp] theorem State.write_cal (s : State) (st a : Nat) (b : List Byte) : (s.write st a b).cal = s.cal := rfl
@[simp] theorem State.write_layers (s : State) (st a : Nat) (b : List Byte) : (s.write st a b).layers = s.layers := rfl
@[simp] theorem State.write_widenLog (s : State) (st a : Nat) (b : List Byte) : (s.write st a b).widenLog = s.widenLog := rfl
@[simp] theorem State.write_plumbLog (s : State) (st a : Nat) (b : List Byte) : (s.write st a b).plumbLog = s.plumbLog := rfl
@[simp] theorem State.write_storm (s : State) (st a : Nat) (b : List Byte) : (s.write st a b).storm = s.storm := rfl
@[simp] theorem State.write_jointModes (s : State) (st a : Nat) (b : List Byte) : (s.write st a b).jointModes = s.jointModes := rfl
@[simp] theorem State.write_jointParts (s : State) (st a : Nat) (b : List Byte) : (s.write st a b).jointParts = s.jointParts := rfl
@[simp] theorem State.write_jointWaits (s : State) (st a : Nat) (b : List Byte) : (s.write st a b).jointWaits = s.jointWaits := rfl
@[simp] theorem State.write_backward (s : State) (st a : Nat) (b : List Byte) : (s.write st a b).backward = s.backward := rfl
@[simp] theorem State.write_frogMost (s : State) (st a : Nat) (b : List Byte) : (s.write st a b).frogMost = s.frogMost := rfl
@[simp] theorem State.write_step (s : State) (st a : Nat) (b : List Byte) : (s.write st a b).step = s.step := rfl
@[simp] theorem State.write_exch (s : State) (st a : Nat) (b : List Byte) : (s.write st a b).exch = s.exch := rfl
@[simp] theorem State.write_upd (s : State) (st a : Nat) (b : List Byte) : (s.write st a b).upd = s.upd := rfl
@[simp] theorem State.write_memUnit (s : State) (st a : Nat) (b : List Byte) : (s.write st a b).memUnit = s.memUnit := rfl
@[simp] theorem State.write_bridges (s : State) (st a : Nat) (b : List Byte) : (s.write st a b).bridges = s.bridges := rfl
@[simp] theorem State.write_link (s : State) (st a : Nat) (b : List Byte) : (s.write st a b).link = s.link := rfl
@[simp] theorem State.write_ep0 (s : State) (st a : Nat) (b : List Byte) : (s.write st a b).ep0 = s.ep0 := rfl
@[simp] theorem State.write_ep1 (s : State) (st a : Nat) (b : List Byte) : (s.write st a b).ep1 = s.ep1 := rfl
@[simp] theorem State.write_dict (s : State) (st a : Nat) (b : List Byte) : (s.write st a b).dict = s.dict := rfl
@[simp] theorem State.write_meas (s : State) (st a : Nat) (b : List Byte) : (s.write st a b).meas = s.meas := rfl
@[simp] theorem State.write_clk (s : State) (st a : Nat) (b : List Byte) : (s.write st a b).clk = s.clk := rfl
@[simp] theorem State.write_faults (s : State) (st a : Nat) (b : List Byte) : (s.write st a b).faults = s.faults := rfl
@[simp] theorem State.write_freeze (s : State) (st a : Nat) (b : List Byte) : (s.write st a b).freeze = s.freeze := rfl
@[simp] theorem State.write_fw (s : State) (st a : Nat) (b : List Byte) : (s.write st a b).fw = s.fw := rfl
@[simp] theorem State.write_outs (s : State) (st a : Nat) (b : List Byte) : (s.write st a b).outs = s.outs := rfl
@[simp] theorem State.write_free (s : State) (st a : Nat) (b : List Byte) : (s.write st a b).free = s.free := rfl
@[simp] theorem State.write_pending (s : State) (st a : Nat) (b : List Byte) : (s.write st a b).pending = s.pending := rfl

@[simp] theorem State.clearStore_mode (s : State) (st : Nat) : (s.clearStore st).mode = s.mode := rfl
@[simp] theorem State.clearStore_resetN (s : State) (st : Nat) : (s.clearStore st).resetN = s.resetN := rfl
@[simp] theorem State.clearStore_pwrGood (s : State) (st : Nat) : (s.clearStore st).pwrGood = s.pwrGood := rfl
@[simp] theorem State.clearStore_freezeN (s : State) (st : Nat) : (s.clearStore st).freezeN = s.freezeN := rfl
@[simp] theorem State.clearStore_slotId (s : State) (st : Nat) : (s.clearStore st).slotId = s.slotId := rfl
@[simp] theorem State.clearStore_bondSide (s : State) (st : Nat) : (s.clearStore st).bondSide = s.bondSide := rfl
@[simp] theorem State.clearStore_ready (s : State) (st : Nat) : (s.clearStore st).ready = s.ready := rfl
@[simp] theorem State.clearStore_faultN (s : State) (st : Nat) : (s.clearStore st).faultN = s.faultN := rfl
@[simp] theorem State.clearStore_pd (s : State) (st : Nat) : (s.clearStore st).pd = s.pd := rfl
@[simp] theorem State.clearStore_course (s : State) (st : Nat) : (s.clearStore st).course = s.course := rfl
@[simp] theorem State.clearStore_events (s : State) (st : Nat) : (s.clearStore st).events = s.events := rfl
@[simp] theorem State.clearStore_streams (s : State) (st : Nat) : (s.clearStore st).streams = s.streams := rfl
@[simp] theorem State.clearStore_plan (s : State) (st : Nat) : (s.clearStore st).plan = s.plan := rfl
@[simp] theorem State.clearStore_loading (s : State) (st : Nat) : (s.clearStore st).loading = s.loading := rfl
@[simp] theorem State.clearStore_place (s : State) (st : Nat) : (s.clearStore st).place = s.place := rfl
@[simp] theorem State.clearStore_triggers (s : State) (st : Nat) : (s.clearStore st).triggers = s.triggers := rfl
@[simp] theorem State.clearStore_placeDue (s : State) (st : Nat) : (s.clearStore st).placeDue = s.placeDue := rfl
@[simp] theorem State.clearStore_placing (s : State) (st : Nat) : (s.clearStore st).placing = s.placing := rfl
@[simp] theorem State.clearStore_placeWait (s : State) (st : Nat) : (s.clearStore st).placeWait = s.placeWait := rfl
@[simp] theorem State.clearStore_arrays (s : State) (st : Nat) : (s.clearStore st).arrays = s.arrays := rfl
@[simp] theorem State.clearStore_cells (s : State) (st : Nat) : (s.clearStore st).cells = s.cells := rfl
@[simp] theorem State.clearStore_cal (s : State) (st : Nat) : (s.clearStore st).cal = s.cal := rfl
@[simp] theorem State.clearStore_layers (s : State) (st : Nat) : (s.clearStore st).layers = s.layers := rfl
@[simp] theorem State.clearStore_widenLog (s : State) (st : Nat) : (s.clearStore st).widenLog = s.widenLog := rfl
@[simp] theorem State.clearStore_plumbLog (s : State) (st : Nat) : (s.clearStore st).plumbLog = s.plumbLog := rfl
@[simp] theorem State.clearStore_storm (s : State) (st : Nat) : (s.clearStore st).storm = s.storm := rfl
@[simp] theorem State.clearStore_jointModes (s : State) (st : Nat) : (s.clearStore st).jointModes = s.jointModes := rfl
@[simp] theorem State.clearStore_jointParts (s : State) (st : Nat) : (s.clearStore st).jointParts = s.jointParts := rfl
@[simp] theorem State.clearStore_jointWaits (s : State) (st : Nat) : (s.clearStore st).jointWaits = s.jointWaits := rfl
@[simp] theorem State.clearStore_backward (s : State) (st : Nat) : (s.clearStore st).backward = s.backward := rfl
@[simp] theorem State.clearStore_frogMost (s : State) (st : Nat) : (s.clearStore st).frogMost = s.frogMost := rfl
@[simp] theorem State.clearStore_step (s : State) (st : Nat) : (s.clearStore st).step = s.step := rfl
@[simp] theorem State.clearStore_exch (s : State) (st : Nat) : (s.clearStore st).exch = s.exch := rfl
@[simp] theorem State.clearStore_upd (s : State) (st : Nat) : (s.clearStore st).upd = s.upd := rfl
@[simp] theorem State.clearStore_memUnit (s : State) (st : Nat) : (s.clearStore st).memUnit = s.memUnit := rfl
@[simp] theorem State.clearStore_bridges (s : State) (st : Nat) : (s.clearStore st).bridges = s.bridges := rfl
@[simp] theorem State.clearStore_link (s : State) (st : Nat) : (s.clearStore st).link = s.link := rfl
@[simp] theorem State.clearStore_ep0 (s : State) (st : Nat) : (s.clearStore st).ep0 = s.ep0 := rfl
@[simp] theorem State.clearStore_ep1 (s : State) (st : Nat) : (s.clearStore st).ep1 = s.ep1 := rfl
@[simp] theorem State.clearStore_dict (s : State) (st : Nat) : (s.clearStore st).dict = s.dict := rfl
@[simp] theorem State.clearStore_meas (s : State) (st : Nat) : (s.clearStore st).meas = s.meas := rfl
@[simp] theorem State.clearStore_clk (s : State) (st : Nat) : (s.clearStore st).clk = s.clk := rfl
@[simp] theorem State.clearStore_faults (s : State) (st : Nat) : (s.clearStore st).faults = s.faults := rfl
@[simp] theorem State.clearStore_freeze (s : State) (st : Nat) : (s.clearStore st).freeze = s.freeze := rfl
@[simp] theorem State.clearStore_fw (s : State) (st : Nat) : (s.clearStore st).fw = s.fw := rfl
@[simp] theorem State.clearStore_outs (s : State) (st : Nat) : (s.clearStore st).outs = s.outs := rfl
@[simp] theorem State.clearStore_free (s : State) (st : Nat) : (s.clearStore st).free = s.free := rfl
@[simp] theorem State.clearStore_pending (s : State) (st : Nat) : (s.clearStore st).pending = s.pending := rfl

@[simp] theorem State.setEp_mode (s : State) (i : Ep) (e : Endpoint) : (s.setEp i e).mode = s.mode :=
  (setEp_run (f := 412316860416) rfl (fun _ => id) (Run.refl _ _ s)).part .mode rfl
@[simp] theorem State.setEp_resetN (s : State) (i : Ep) (e : Endpoint) : (s.setEp i e).resetN = s.resetN :=
  (setEp_run (f := 412316860416) rfl (fun _ => id) (Run.refl _ _ s)).part .resetN rfl
@[simp] theorem State.setEp_pwrGood (s : State) (i : Ep) (e : Endpoint) : (s.setEp i e).pwrGood = s.pwrGood :=
  (setEp_run (f := 412316860416) rfl (fun _ => id) (Run.refl _ _ s)).part .pwrGood rfl
@[simp] theorem State.setEp_freezeN (s : State) (i : Ep) (e : Endpoint) : (s.setEp i e).freezeN = s.freezeN :=
  (setEp_run (f := 412316860416) rfl (fun _ => id) (Run.refl _ _ s)).part .freezeN rfl
@[simp] theorem State.setEp_slotId (s : State) (i : Ep) (e : Endpoint) : (s.setEp i e).slotId = s.slotId :=
  (setEp_run (f := 412316860416) rfl (fun _ => id) (Run.refl _ _ s)).part .slotId rfl
@[simp] theorem State.setEp_bondSide (s : State) (i : Ep) (e : Endpoint) : (s.setEp i e).bondSide = s.bondSide :=
  (setEp_run (f := 412316860416) rfl (fun _ => id) (Run.refl _ _ s)).part .bondSide rfl
@[simp] theorem State.setEp_ready (s : State) (i : Ep) (e : Endpoint) : (s.setEp i e).ready = s.ready :=
  (setEp_run (f := 412316860416) rfl (fun _ => id) (Run.refl _ _ s)).part .ready rfl
@[simp] theorem State.setEp_faultN (s : State) (i : Ep) (e : Endpoint) : (s.setEp i e).faultN = s.faultN :=
  (setEp_run (f := 412316860416) rfl (fun _ => id) (Run.refl _ _ s)).part .faultN rfl
@[simp] theorem State.setEp_course (s : State) (i : Ep) (e : Endpoint) : (s.setEp i e).course = s.course :=
  (setEp_run (f := 412316860416) rfl (fun _ => id) (Run.refl _ _ s)).part .course rfl
@[simp] theorem State.setEp_events (s : State) (i : Ep) (e : Endpoint) : (s.setEp i e).events = s.events :=
  (setEp_run (f := 412316860416) rfl (fun _ => id) (Run.refl _ _ s)).part .events rfl
@[simp] theorem State.setEp_streams (s : State) (i : Ep) (e : Endpoint) : (s.setEp i e).streams = s.streams :=
  (setEp_run (f := 412316860416) rfl (fun _ => id) (Run.refl _ _ s)).part .streams rfl
@[simp] theorem State.setEp_plan (s : State) (i : Ep) (e : Endpoint) : (s.setEp i e).plan = s.plan :=
  (setEp_run (f := 412316860416) rfl (fun _ => id) (Run.refl _ _ s)).part .plan rfl
@[simp] theorem State.setEp_loading (s : State) (i : Ep) (e : Endpoint) : (s.setEp i e).loading = s.loading :=
  (setEp_run (f := 412316860416) rfl (fun _ => id) (Run.refl _ _ s)).part .loading rfl
@[simp] theorem State.setEp_place (s : State) (i : Ep) (e : Endpoint) : (s.setEp i e).place = s.place :=
  (setEp_run (f := 412316860416) rfl (fun _ => id) (Run.refl _ _ s)).part .place rfl
@[simp] theorem State.setEp_triggers (s : State) (i : Ep) (e : Endpoint) : (s.setEp i e).triggers = s.triggers :=
  (setEp_run (f := 412316860416) rfl (fun _ => id) (Run.refl _ _ s)).part .triggers rfl
@[simp] theorem State.setEp_placeDue (s : State) (i : Ep) (e : Endpoint) : (s.setEp i e).placeDue = s.placeDue :=
  (setEp_run (f := 412316860416) rfl (fun _ => id) (Run.refl _ _ s)).part .placeDue rfl
@[simp] theorem State.setEp_placing (s : State) (i : Ep) (e : Endpoint) : (s.setEp i e).placing = s.placing :=
  (setEp_run (f := 412316860416) rfl (fun _ => id) (Run.refl _ _ s)).part .placing rfl
@[simp] theorem State.setEp_placeWait (s : State) (i : Ep) (e : Endpoint) : (s.setEp i e).placeWait = s.placeWait :=
  (setEp_run (f := 412316860416) rfl (fun _ => id) (Run.refl _ _ s)).part .placeWait rfl
@[simp] theorem State.setEp_arrays (s : State) (i : Ep) (e : Endpoint) : (s.setEp i e).arrays = s.arrays :=
  (setEp_run (f := 412316860416) rfl (fun _ => id) (Run.refl _ _ s)).part .arrays rfl
@[simp] theorem State.setEp_cells (s : State) (i : Ep) (e : Endpoint) : (s.setEp i e).cells = s.cells :=
  (setEp_run (f := 412316860416) rfl (fun _ => id) (Run.refl _ _ s)).part .cells rfl
@[simp] theorem State.setEp_cal (s : State) (i : Ep) (e : Endpoint) : (s.setEp i e).cal = s.cal :=
  (setEp_run (f := 412316860416) rfl (fun _ => id) (Run.refl _ _ s)).part .cal rfl
@[simp] theorem State.setEp_layers (s : State) (i : Ep) (e : Endpoint) : (s.setEp i e).layers = s.layers :=
  (setEp_run (f := 412316860416) rfl (fun _ => id) (Run.refl _ _ s)).part .layers rfl
@[simp] theorem State.setEp_widenLog (s : State) (i : Ep) (e : Endpoint) : (s.setEp i e).widenLog = s.widenLog :=
  (setEp_run (f := 412316860416) rfl (fun _ => id) (Run.refl _ _ s)).part .widenLog rfl
@[simp] theorem State.setEp_plumbLog (s : State) (i : Ep) (e : Endpoint) : (s.setEp i e).plumbLog = s.plumbLog :=
  (setEp_run (f := 412316860416) rfl (fun _ => id) (Run.refl _ _ s)).part .plumbLog rfl
@[simp] theorem State.setEp_storm (s : State) (i : Ep) (e : Endpoint) : (s.setEp i e).storm = s.storm :=
  (setEp_run (f := 412316860416) rfl (fun _ => id) (Run.refl _ _ s)).part .storm rfl
@[simp] theorem State.setEp_jointModes (s : State) (i : Ep) (e : Endpoint) : (s.setEp i e).jointModes = s.jointModes :=
  (setEp_run (f := 412316860416) rfl (fun _ => id) (Run.refl _ _ s)).part .jointModes rfl
@[simp] theorem State.setEp_jointParts (s : State) (i : Ep) (e : Endpoint) : (s.setEp i e).jointParts = s.jointParts :=
  (setEp_run (f := 412316860416) rfl (fun _ => id) (Run.refl _ _ s)).part .jointParts rfl
@[simp] theorem State.setEp_jointWaits (s : State) (i : Ep) (e : Endpoint) : (s.setEp i e).jointWaits = s.jointWaits :=
  (setEp_run (f := 412316860416) rfl (fun _ => id) (Run.refl _ _ s)).part .jointWaits rfl
@[simp] theorem State.setEp_backward (s : State) (i : Ep) (e : Endpoint) : (s.setEp i e).backward = s.backward :=
  (setEp_run (f := 412316860416) rfl (fun _ => id) (Run.refl _ _ s)).part .backward rfl
@[simp] theorem State.setEp_frogMost (s : State) (i : Ep) (e : Endpoint) : (s.setEp i e).frogMost = s.frogMost :=
  (setEp_run (f := 412316860416) rfl (fun _ => id) (Run.refl _ _ s)).part .frogMost rfl
@[simp] theorem State.setEp_step (s : State) (i : Ep) (e : Endpoint) : (s.setEp i e).step = s.step :=
  (setEp_run (f := 412316860416) rfl (fun _ => id) (Run.refl _ _ s)).part .step rfl
@[simp] theorem State.setEp_exch (s : State) (i : Ep) (e : Endpoint) : (s.setEp i e).exch = s.exch :=
  (setEp_run (f := 412316860416) rfl (fun _ => id) (Run.refl _ _ s)).part .exch rfl
@[simp] theorem State.setEp_upd (s : State) (i : Ep) (e : Endpoint) : (s.setEp i e).upd = s.upd :=
  (setEp_run (f := 412316860416) rfl (fun _ => id) (Run.refl _ _ s)).part .upd rfl
@[simp] theorem State.setEp_mem (s : State) (i : Ep) (e : Endpoint) : (s.setEp i e).mem = s.mem :=
  (setEp_run (f := 412316860416) rfl (fun _ => id) (Run.refl _ _ s)).part .mem rfl
@[simp] theorem State.setEp_memUnit (s : State) (i : Ep) (e : Endpoint) : (s.setEp i e).memUnit = s.memUnit :=
  (setEp_run (f := 412316860416) rfl (fun _ => id) (Run.refl _ _ s)).part .memUnit rfl
@[simp] theorem State.setEp_bridges (s : State) (i : Ep) (e : Endpoint) : (s.setEp i e).bridges = s.bridges :=
  (setEp_run (f := 412316860416) rfl (fun _ => id) (Run.refl _ _ s)).part .bridges rfl
@[simp] theorem State.setEp_link (s : State) (i : Ep) (e : Endpoint) : (s.setEp i e).link = s.link :=
  (setEp_run (f := 412316860416) rfl (fun _ => id) (Run.refl _ _ s)).part .link rfl
@[simp] theorem State.setEp_dict (s : State) (i : Ep) (e : Endpoint) : (s.setEp i e).dict = s.dict :=
  (setEp_run (f := 412316860416) rfl (fun _ => id) (Run.refl _ _ s)).part .dict rfl
@[simp] theorem State.setEp_meas (s : State) (i : Ep) (e : Endpoint) : (s.setEp i e).meas = s.meas :=
  (setEp_run (f := 412316860416) rfl (fun _ => id) (Run.refl _ _ s)).part .meas rfl
@[simp] theorem State.setEp_clk (s : State) (i : Ep) (e : Endpoint) : (s.setEp i e).clk = s.clk :=
  (setEp_run (f := 412316860416) rfl (fun _ => id) (Run.refl _ _ s)).part .clk rfl
@[simp] theorem State.setEp_faults (s : State) (i : Ep) (e : Endpoint) : (s.setEp i e).faults = s.faults :=
  (setEp_run (f := 412316860416) rfl (fun _ => id) (Run.refl _ _ s)).part .faults rfl
@[simp] theorem State.setEp_freeze (s : State) (i : Ep) (e : Endpoint) : (s.setEp i e).freeze = s.freeze :=
  (setEp_run (f := 412316860416) rfl (fun _ => id) (Run.refl _ _ s)).part .freeze rfl
@[simp] theorem State.setEp_fw (s : State) (i : Ep) (e : Endpoint) : (s.setEp i e).fw = s.fw :=
  (setEp_run (f := 412316860416) rfl (fun _ => id) (Run.refl _ _ s)).part .fw rfl
@[simp] theorem State.setEp_outs (s : State) (i : Ep) (e : Endpoint) : (s.setEp i e).outs = s.outs :=
  (setEp_run (f := 412316860416) rfl (fun _ => id) (Run.refl _ _ s)).part .outs rfl
@[simp] theorem State.setEp_free (s : State) (i : Ep) (e : Endpoint) : (s.setEp i e).free = s.free :=
  (setEp_run (f := 412316860416) rfl (fun _ => id) (Run.refl _ _ s)).part .free rfl
@[simp] theorem State.setEp_pending (s : State) (i : Ep) (e : Endpoint) : (s.setEp i e).pending = s.pending :=
  (setEp_run (f := 412316860416) rfl (fun _ => id) (Run.refl _ _ s)).part .pending rfl
@[simp] theorem State.setEp_pd (s : State) (i : Ep) (e : Endpoint) : (s.setEp i e).pd = s.pd := by
  unfold State.setEp; split <;> rfl

@[simp] theorem State.sendVector_mode (s : State) (i : Ep) (v : Nat) : (s.sendVector i v).mode = s.mode :=
  (sendVector_run (f := 35596688949248) rfl (fun _ => id) (Run.refl _ _ s)).part .mode rfl
@[simp] theorem State.sendVector_resetN (s : State) (i : Ep) (v : Nat) : (s.sendVector i v).resetN = s.resetN :=
  (sendVector_run (f := 35596688949248) rfl (fun _ => id) (Run.refl _ _ s)).part .resetN rfl
@[simp] theorem State.sendVector_pwrGood (s : State) (i : Ep) (v : Nat) : (s.sendVector i v).pwrGood = s.pwrGood :=
  (sendVector_run (f := 35596688949248) rfl (fun _ => id) (Run.refl _ _ s)).part .pwrGood rfl
@[simp] theorem State.sendVector_freezeN (s : State) (i : Ep) (v : Nat) : (s.sendVector i v).freezeN = s.freezeN :=
  (sendVector_run (f := 35596688949248) rfl (fun _ => id) (Run.refl _ _ s)).part .freezeN rfl
@[simp] theorem State.sendVector_slotId (s : State) (i : Ep) (v : Nat) : (s.sendVector i v).slotId = s.slotId :=
  (sendVector_run (f := 35596688949248) rfl (fun _ => id) (Run.refl _ _ s)).part .slotId rfl
@[simp] theorem State.sendVector_bondSide (s : State) (i : Ep) (v : Nat) : (s.sendVector i v).bondSide = s.bondSide :=
  (sendVector_run (f := 35596688949248) rfl (fun _ => id) (Run.refl _ _ s)).part .bondSide rfl
@[simp] theorem State.sendVector_ready (s : State) (i : Ep) (v : Nat) : (s.sendVector i v).ready = s.ready :=
  (sendVector_run (f := 35596688949248) rfl (fun _ => id) (Run.refl _ _ s)).part .ready rfl
@[simp] theorem State.sendVector_faultN (s : State) (i : Ep) (v : Nat) : (s.sendVector i v).faultN = s.faultN :=
  (sendVector_run (f := 35596688949248) rfl (fun _ => id) (Run.refl _ _ s)).part .faultN rfl
@[simp] theorem State.sendVector_course (s : State) (i : Ep) (v : Nat) : (s.sendVector i v).course = s.course :=
  (sendVector_run (f := 35596688949248) rfl (fun _ => id) (Run.refl _ _ s)).part .course rfl
@[simp] theorem State.sendVector_events (s : State) (i : Ep) (v : Nat) : (s.sendVector i v).events = s.events :=
  (sendVector_run (f := 35596688949248) rfl (fun _ => id) (Run.refl _ _ s)).part .events rfl
@[simp] theorem State.sendVector_streams (s : State) (i : Ep) (v : Nat) : (s.sendVector i v).streams = s.streams :=
  (sendVector_run (f := 35596688949248) rfl (fun _ => id) (Run.refl _ _ s)).part .streams rfl
@[simp] theorem State.sendVector_plan (s : State) (i : Ep) (v : Nat) : (s.sendVector i v).plan = s.plan :=
  (sendVector_run (f := 35596688949248) rfl (fun _ => id) (Run.refl _ _ s)).part .plan rfl
@[simp] theorem State.sendVector_loading (s : State) (i : Ep) (v : Nat) : (s.sendVector i v).loading = s.loading :=
  (sendVector_run (f := 35596688949248) rfl (fun _ => id) (Run.refl _ _ s)).part .loading rfl
@[simp] theorem State.sendVector_place (s : State) (i : Ep) (v : Nat) : (s.sendVector i v).place = s.place :=
  (sendVector_run (f := 35596688949248) rfl (fun _ => id) (Run.refl _ _ s)).part .place rfl
@[simp] theorem State.sendVector_triggers (s : State) (i : Ep) (v : Nat) : (s.sendVector i v).triggers = s.triggers :=
  (sendVector_run (f := 35596688949248) rfl (fun _ => id) (Run.refl _ _ s)).part .triggers rfl
@[simp] theorem State.sendVector_placeDue (s : State) (i : Ep) (v : Nat) : (s.sendVector i v).placeDue = s.placeDue :=
  (sendVector_run (f := 35596688949248) rfl (fun _ => id) (Run.refl _ _ s)).part .placeDue rfl
@[simp] theorem State.sendVector_placing (s : State) (i : Ep) (v : Nat) : (s.sendVector i v).placing = s.placing :=
  (sendVector_run (f := 35596688949248) rfl (fun _ => id) (Run.refl _ _ s)).part .placing rfl
@[simp] theorem State.sendVector_placeWait (s : State) (i : Ep) (v : Nat) : (s.sendVector i v).placeWait = s.placeWait :=
  (sendVector_run (f := 35596688949248) rfl (fun _ => id) (Run.refl _ _ s)).part .placeWait rfl
@[simp] theorem State.sendVector_arrays (s : State) (i : Ep) (v : Nat) : (s.sendVector i v).arrays = s.arrays :=
  (sendVector_run (f := 35596688949248) rfl (fun _ => id) (Run.refl _ _ s)).part .arrays rfl
@[simp] theorem State.sendVector_cells (s : State) (i : Ep) (v : Nat) : (s.sendVector i v).cells = s.cells :=
  (sendVector_run (f := 35596688949248) rfl (fun _ => id) (Run.refl _ _ s)).part .cells rfl
@[simp] theorem State.sendVector_cal (s : State) (i : Ep) (v : Nat) : (s.sendVector i v).cal = s.cal :=
  (sendVector_run (f := 35596688949248) rfl (fun _ => id) (Run.refl _ _ s)).part .cal rfl
@[simp] theorem State.sendVector_layers (s : State) (i : Ep) (v : Nat) : (s.sendVector i v).layers = s.layers :=
  (sendVector_run (f := 35596688949248) rfl (fun _ => id) (Run.refl _ _ s)).part .layers rfl
@[simp] theorem State.sendVector_widenLog (s : State) (i : Ep) (v : Nat) : (s.sendVector i v).widenLog = s.widenLog :=
  (sendVector_run (f := 35596688949248) rfl (fun _ => id) (Run.refl _ _ s)).part .widenLog rfl
@[simp] theorem State.sendVector_plumbLog (s : State) (i : Ep) (v : Nat) : (s.sendVector i v).plumbLog = s.plumbLog :=
  (sendVector_run (f := 35596688949248) rfl (fun _ => id) (Run.refl _ _ s)).part .plumbLog rfl
@[simp] theorem State.sendVector_storm (s : State) (i : Ep) (v : Nat) : (s.sendVector i v).storm = s.storm :=
  (sendVector_run (f := 35596688949248) rfl (fun _ => id) (Run.refl _ _ s)).part .storm rfl
@[simp] theorem State.sendVector_jointModes (s : State) (i : Ep) (v : Nat) : (s.sendVector i v).jointModes = s.jointModes :=
  (sendVector_run (f := 35596688949248) rfl (fun _ => id) (Run.refl _ _ s)).part .jointModes rfl
@[simp] theorem State.sendVector_jointParts (s : State) (i : Ep) (v : Nat) : (s.sendVector i v).jointParts = s.jointParts :=
  (sendVector_run (f := 35596688949248) rfl (fun _ => id) (Run.refl _ _ s)).part .jointParts rfl
@[simp] theorem State.sendVector_jointWaits (s : State) (i : Ep) (v : Nat) : (s.sendVector i v).jointWaits = s.jointWaits :=
  (sendVector_run (f := 35596688949248) rfl (fun _ => id) (Run.refl _ _ s)).part .jointWaits rfl
@[simp] theorem State.sendVector_backward (s : State) (i : Ep) (v : Nat) : (s.sendVector i v).backward = s.backward :=
  (sendVector_run (f := 35596688949248) rfl (fun _ => id) (Run.refl _ _ s)).part .backward rfl
@[simp] theorem State.sendVector_frogMost (s : State) (i : Ep) (v : Nat) : (s.sendVector i v).frogMost = s.frogMost :=
  (sendVector_run (f := 35596688949248) rfl (fun _ => id) (Run.refl _ _ s)).part .frogMost rfl
@[simp] theorem State.sendVector_step (s : State) (i : Ep) (v : Nat) : (s.sendVector i v).step = s.step :=
  (sendVector_run (f := 35596688949248) rfl (fun _ => id) (Run.refl _ _ s)).part .step rfl
@[simp] theorem State.sendVector_exch (s : State) (i : Ep) (v : Nat) : (s.sendVector i v).exch = s.exch :=
  (sendVector_run (f := 35596688949248) rfl (fun _ => id) (Run.refl _ _ s)).part .exch rfl
@[simp] theorem State.sendVector_upd (s : State) (i : Ep) (v : Nat) : (s.sendVector i v).upd = s.upd :=
  (sendVector_run (f := 35596688949248) rfl (fun _ => id) (Run.refl _ _ s)).part .upd rfl
@[simp] theorem State.sendVector_mem (s : State) (i : Ep) (v : Nat) : (s.sendVector i v).mem = s.mem :=
  (sendVector_run (f := 35596688949248) rfl (fun _ => id) (Run.refl _ _ s)).part .mem rfl
@[simp] theorem State.sendVector_memUnit (s : State) (i : Ep) (v : Nat) : (s.sendVector i v).memUnit = s.memUnit :=
  (sendVector_run (f := 35596688949248) rfl (fun _ => id) (Run.refl _ _ s)).part .memUnit rfl
@[simp] theorem State.sendVector_bridges (s : State) (i : Ep) (v : Nat) : (s.sendVector i v).bridges = s.bridges :=
  (sendVector_run (f := 35596688949248) rfl (fun _ => id) (Run.refl _ _ s)).part .bridges rfl
@[simp] theorem State.sendVector_link (s : State) (i : Ep) (v : Nat) : (s.sendVector i v).link = s.link :=
  (sendVector_run (f := 35596688949248) rfl (fun _ => id) (Run.refl _ _ s)).part .link rfl
@[simp] theorem State.sendVector_dict (s : State) (i : Ep) (v : Nat) : (s.sendVector i v).dict = s.dict :=
  (sendVector_run (f := 35596688949248) rfl (fun _ => id) (Run.refl _ _ s)).part .dict rfl
@[simp] theorem State.sendVector_meas (s : State) (i : Ep) (v : Nat) : (s.sendVector i v).meas = s.meas :=
  (sendVector_run (f := 35596688949248) rfl (fun _ => id) (Run.refl _ _ s)).part .meas rfl
@[simp] theorem State.sendVector_clk (s : State) (i : Ep) (v : Nat) : (s.sendVector i v).clk = s.clk :=
  (sendVector_run (f := 35596688949248) rfl (fun _ => id) (Run.refl _ _ s)).part .clk rfl
@[simp] theorem State.sendVector_faults (s : State) (i : Ep) (v : Nat) : (s.sendVector i v).faults = s.faults :=
  (sendVector_run (f := 35596688949248) rfl (fun _ => id) (Run.refl _ _ s)).part .faults rfl
@[simp] theorem State.sendVector_freeze (s : State) (i : Ep) (v : Nat) : (s.sendVector i v).freeze = s.freeze :=
  (sendVector_run (f := 35596688949248) rfl (fun _ => id) (Run.refl _ _ s)).part .freeze rfl
@[simp] theorem State.sendVector_fw (s : State) (i : Ep) (v : Nat) : (s.sendVector i v).fw = s.fw :=
  (sendVector_run (f := 35596688949248) rfl (fun _ => id) (Run.refl _ _ s)).part .fw rfl
@[simp] theorem State.sendVector_free (s : State) (i : Ep) (v : Nat) : (s.sendVector i v).free = s.free :=
  (sendVector_run (f := 35596688949248) rfl (fun _ => id) (Run.refl _ _ s)).part .free rfl
@[simp] theorem State.sendVector_pending (s : State) (i : Ep) (v : Nat) : (s.sendVector i v).pending = s.pending :=
  (sendVector_run (f := 35596688949248) rfl (fun _ => id) (Run.refl _ _ s)).part .pending rfl
@[simp] theorem State.sendVector_pd (s : State) (i : Ep) (v : Nat) : (s.sendVector i v).pd = s.pd := by
  unfold State.sendVector; dsimp only; split
  · rfl
  · split <;> simp

@[simp] theorem State.causeAt_mode (s : State) (i : Ep) (k : Nat) : (s.causeAt i k).mode = s.mode :=
  (causeAt_run (f := 35596688949248) rfl (fun _ => id) (Run.refl _ _ s)).part .mode rfl
@[simp] theorem State.causeAt_resetN (s : State) (i : Ep) (k : Nat) : (s.causeAt i k).resetN = s.resetN :=
  (causeAt_run (f := 35596688949248) rfl (fun _ => id) (Run.refl _ _ s)).part .resetN rfl
@[simp] theorem State.causeAt_pwrGood (s : State) (i : Ep) (k : Nat) : (s.causeAt i k).pwrGood = s.pwrGood :=
  (causeAt_run (f := 35596688949248) rfl (fun _ => id) (Run.refl _ _ s)).part .pwrGood rfl
@[simp] theorem State.causeAt_freezeN (s : State) (i : Ep) (k : Nat) : (s.causeAt i k).freezeN = s.freezeN :=
  (causeAt_run (f := 35596688949248) rfl (fun _ => id) (Run.refl _ _ s)).part .freezeN rfl
@[simp] theorem State.causeAt_slotId (s : State) (i : Ep) (k : Nat) : (s.causeAt i k).slotId = s.slotId :=
  (causeAt_run (f := 35596688949248) rfl (fun _ => id) (Run.refl _ _ s)).part .slotId rfl
@[simp] theorem State.causeAt_bondSide (s : State) (i : Ep) (k : Nat) : (s.causeAt i k).bondSide = s.bondSide :=
  (causeAt_run (f := 35596688949248) rfl (fun _ => id) (Run.refl _ _ s)).part .bondSide rfl
@[simp] theorem State.causeAt_ready (s : State) (i : Ep) (k : Nat) : (s.causeAt i k).ready = s.ready :=
  (causeAt_run (f := 35596688949248) rfl (fun _ => id) (Run.refl _ _ s)).part .ready rfl
@[simp] theorem State.causeAt_faultN (s : State) (i : Ep) (k : Nat) : (s.causeAt i k).faultN = s.faultN :=
  (causeAt_run (f := 35596688949248) rfl (fun _ => id) (Run.refl _ _ s)).part .faultN rfl
@[simp] theorem State.causeAt_course (s : State) (i : Ep) (k : Nat) : (s.causeAt i k).course = s.course :=
  (causeAt_run (f := 35596688949248) rfl (fun _ => id) (Run.refl _ _ s)).part .course rfl
@[simp] theorem State.causeAt_events (s : State) (i : Ep) (k : Nat) : (s.causeAt i k).events = s.events :=
  (causeAt_run (f := 35596688949248) rfl (fun _ => id) (Run.refl _ _ s)).part .events rfl
@[simp] theorem State.causeAt_streams (s : State) (i : Ep) (k : Nat) : (s.causeAt i k).streams = s.streams :=
  (causeAt_run (f := 35596688949248) rfl (fun _ => id) (Run.refl _ _ s)).part .streams rfl
@[simp] theorem State.causeAt_plan (s : State) (i : Ep) (k : Nat) : (s.causeAt i k).plan = s.plan :=
  (causeAt_run (f := 35596688949248) rfl (fun _ => id) (Run.refl _ _ s)).part .plan rfl
@[simp] theorem State.causeAt_loading (s : State) (i : Ep) (k : Nat) : (s.causeAt i k).loading = s.loading :=
  (causeAt_run (f := 35596688949248) rfl (fun _ => id) (Run.refl _ _ s)).part .loading rfl
@[simp] theorem State.causeAt_place (s : State) (i : Ep) (k : Nat) : (s.causeAt i k).place = s.place :=
  (causeAt_run (f := 35596688949248) rfl (fun _ => id) (Run.refl _ _ s)).part .place rfl
@[simp] theorem State.causeAt_triggers (s : State) (i : Ep) (k : Nat) : (s.causeAt i k).triggers = s.triggers :=
  (causeAt_run (f := 35596688949248) rfl (fun _ => id) (Run.refl _ _ s)).part .triggers rfl
@[simp] theorem State.causeAt_placeDue (s : State) (i : Ep) (k : Nat) : (s.causeAt i k).placeDue = s.placeDue :=
  (causeAt_run (f := 35596688949248) rfl (fun _ => id) (Run.refl _ _ s)).part .placeDue rfl
@[simp] theorem State.causeAt_placing (s : State) (i : Ep) (k : Nat) : (s.causeAt i k).placing = s.placing :=
  (causeAt_run (f := 35596688949248) rfl (fun _ => id) (Run.refl _ _ s)).part .placing rfl
@[simp] theorem State.causeAt_placeWait (s : State) (i : Ep) (k : Nat) : (s.causeAt i k).placeWait = s.placeWait :=
  (causeAt_run (f := 35596688949248) rfl (fun _ => id) (Run.refl _ _ s)).part .placeWait rfl
@[simp] theorem State.causeAt_arrays (s : State) (i : Ep) (k : Nat) : (s.causeAt i k).arrays = s.arrays :=
  (causeAt_run (f := 35596688949248) rfl (fun _ => id) (Run.refl _ _ s)).part .arrays rfl
@[simp] theorem State.causeAt_cells (s : State) (i : Ep) (k : Nat) : (s.causeAt i k).cells = s.cells :=
  (causeAt_run (f := 35596688949248) rfl (fun _ => id) (Run.refl _ _ s)).part .cells rfl
@[simp] theorem State.causeAt_cal (s : State) (i : Ep) (k : Nat) : (s.causeAt i k).cal = s.cal :=
  (causeAt_run (f := 35596688949248) rfl (fun _ => id) (Run.refl _ _ s)).part .cal rfl
@[simp] theorem State.causeAt_layers (s : State) (i : Ep) (k : Nat) : (s.causeAt i k).layers = s.layers :=
  (causeAt_run (f := 35596688949248) rfl (fun _ => id) (Run.refl _ _ s)).part .layers rfl
@[simp] theorem State.causeAt_widenLog (s : State) (i : Ep) (k : Nat) : (s.causeAt i k).widenLog = s.widenLog :=
  (causeAt_run (f := 35596688949248) rfl (fun _ => id) (Run.refl _ _ s)).part .widenLog rfl
@[simp] theorem State.causeAt_plumbLog (s : State) (i : Ep) (k : Nat) : (s.causeAt i k).plumbLog = s.plumbLog :=
  (causeAt_run (f := 35596688949248) rfl (fun _ => id) (Run.refl _ _ s)).part .plumbLog rfl
@[simp] theorem State.causeAt_storm (s : State) (i : Ep) (k : Nat) : (s.causeAt i k).storm = s.storm :=
  (causeAt_run (f := 35596688949248) rfl (fun _ => id) (Run.refl _ _ s)).part .storm rfl
@[simp] theorem State.causeAt_jointModes (s : State) (i : Ep) (k : Nat) : (s.causeAt i k).jointModes = s.jointModes :=
  (causeAt_run (f := 35596688949248) rfl (fun _ => id) (Run.refl _ _ s)).part .jointModes rfl
@[simp] theorem State.causeAt_jointParts (s : State) (i : Ep) (k : Nat) : (s.causeAt i k).jointParts = s.jointParts :=
  (causeAt_run (f := 35596688949248) rfl (fun _ => id) (Run.refl _ _ s)).part .jointParts rfl
@[simp] theorem State.causeAt_jointWaits (s : State) (i : Ep) (k : Nat) : (s.causeAt i k).jointWaits = s.jointWaits :=
  (causeAt_run (f := 35596688949248) rfl (fun _ => id) (Run.refl _ _ s)).part .jointWaits rfl
@[simp] theorem State.causeAt_backward (s : State) (i : Ep) (k : Nat) : (s.causeAt i k).backward = s.backward :=
  (causeAt_run (f := 35596688949248) rfl (fun _ => id) (Run.refl _ _ s)).part .backward rfl
@[simp] theorem State.causeAt_frogMost (s : State) (i : Ep) (k : Nat) : (s.causeAt i k).frogMost = s.frogMost :=
  (causeAt_run (f := 35596688949248) rfl (fun _ => id) (Run.refl _ _ s)).part .frogMost rfl
@[simp] theorem State.causeAt_step (s : State) (i : Ep) (k : Nat) : (s.causeAt i k).step = s.step :=
  (causeAt_run (f := 35596688949248) rfl (fun _ => id) (Run.refl _ _ s)).part .step rfl
@[simp] theorem State.causeAt_exch (s : State) (i : Ep) (k : Nat) : (s.causeAt i k).exch = s.exch :=
  (causeAt_run (f := 35596688949248) rfl (fun _ => id) (Run.refl _ _ s)).part .exch rfl
@[simp] theorem State.causeAt_upd (s : State) (i : Ep) (k : Nat) : (s.causeAt i k).upd = s.upd :=
  (causeAt_run (f := 35596688949248) rfl (fun _ => id) (Run.refl _ _ s)).part .upd rfl
@[simp] theorem State.causeAt_mem (s : State) (i : Ep) (k : Nat) : (s.causeAt i k).mem = s.mem :=
  (causeAt_run (f := 35596688949248) rfl (fun _ => id) (Run.refl _ _ s)).part .mem rfl
@[simp] theorem State.causeAt_memUnit (s : State) (i : Ep) (k : Nat) : (s.causeAt i k).memUnit = s.memUnit :=
  (causeAt_run (f := 35596688949248) rfl (fun _ => id) (Run.refl _ _ s)).part .memUnit rfl
@[simp] theorem State.causeAt_bridges (s : State) (i : Ep) (k : Nat) : (s.causeAt i k).bridges = s.bridges :=
  (causeAt_run (f := 35596688949248) rfl (fun _ => id) (Run.refl _ _ s)).part .bridges rfl
@[simp] theorem State.causeAt_link (s : State) (i : Ep) (k : Nat) : (s.causeAt i k).link = s.link :=
  (causeAt_run (f := 35596688949248) rfl (fun _ => id) (Run.refl _ _ s)).part .link rfl
@[simp] theorem State.causeAt_dict (s : State) (i : Ep) (k : Nat) : (s.causeAt i k).dict = s.dict :=
  (causeAt_run (f := 35596688949248) rfl (fun _ => id) (Run.refl _ _ s)).part .dict rfl
@[simp] theorem State.causeAt_meas (s : State) (i : Ep) (k : Nat) : (s.causeAt i k).meas = s.meas :=
  (causeAt_run (f := 35596688949248) rfl (fun _ => id) (Run.refl _ _ s)).part .meas rfl
@[simp] theorem State.causeAt_clk (s : State) (i : Ep) (k : Nat) : (s.causeAt i k).clk = s.clk :=
  (causeAt_run (f := 35596688949248) rfl (fun _ => id) (Run.refl _ _ s)).part .clk rfl
@[simp] theorem State.causeAt_faults (s : State) (i : Ep) (k : Nat) : (s.causeAt i k).faults = s.faults :=
  (causeAt_run (f := 35596688949248) rfl (fun _ => id) (Run.refl _ _ s)).part .faults rfl
@[simp] theorem State.causeAt_freeze (s : State) (i : Ep) (k : Nat) : (s.causeAt i k).freeze = s.freeze :=
  (causeAt_run (f := 35596688949248) rfl (fun _ => id) (Run.refl _ _ s)).part .freeze rfl
@[simp] theorem State.causeAt_fw (s : State) (i : Ep) (k : Nat) : (s.causeAt i k).fw = s.fw :=
  (causeAt_run (f := 35596688949248) rfl (fun _ => id) (Run.refl _ _ s)).part .fw rfl
@[simp] theorem State.causeAt_free (s : State) (i : Ep) (k : Nat) : (s.causeAt i k).free = s.free :=
  (causeAt_run (f := 35596688949248) rfl (fun _ => id) (Run.refl _ _ s)).part .free rfl
@[simp] theorem State.causeAt_pending (s : State) (i : Ep) (k : Nat) : (s.causeAt i k).pending = s.pending :=
  (causeAt_run (f := 35596688949248) rfl (fun _ => id) (Run.refl _ _ s)).part .pending rfl
@[simp] theorem State.causeAt_pd (s : State) (i : Ep) (k : Nat) : (s.causeAt i k).pd = s.pd := by
  unfold State.causeAt
  dsimp only
  split
  · split
    · rfl
    · split <;> simp
  · rfl

@[simp] theorem State.cause_mode (s : State) (k : Nat) : (s.cause k).mode = s.mode :=
  (cause_run (f := 35596688949248) rfl (fun _ => id) (Run.refl _ _ s)).part .mode rfl
@[simp] theorem State.cause_resetN (s : State) (k : Nat) : (s.cause k).resetN = s.resetN :=
  (cause_run (f := 35596688949248) rfl (fun _ => id) (Run.refl _ _ s)).part .resetN rfl
@[simp] theorem State.cause_pwrGood (s : State) (k : Nat) : (s.cause k).pwrGood = s.pwrGood :=
  (cause_run (f := 35596688949248) rfl (fun _ => id) (Run.refl _ _ s)).part .pwrGood rfl
@[simp] theorem State.cause_freezeN (s : State) (k : Nat) : (s.cause k).freezeN = s.freezeN :=
  (cause_run (f := 35596688949248) rfl (fun _ => id) (Run.refl _ _ s)).part .freezeN rfl
@[simp] theorem State.cause_slotId (s : State) (k : Nat) : (s.cause k).slotId = s.slotId :=
  (cause_run (f := 35596688949248) rfl (fun _ => id) (Run.refl _ _ s)).part .slotId rfl
@[simp] theorem State.cause_bondSide (s : State) (k : Nat) : (s.cause k).bondSide = s.bondSide :=
  (cause_run (f := 35596688949248) rfl (fun _ => id) (Run.refl _ _ s)).part .bondSide rfl
@[simp] theorem State.cause_ready (s : State) (k : Nat) : (s.cause k).ready = s.ready :=
  (cause_run (f := 35596688949248) rfl (fun _ => id) (Run.refl _ _ s)).part .ready rfl
@[simp] theorem State.cause_faultN (s : State) (k : Nat) : (s.cause k).faultN = s.faultN :=
  (cause_run (f := 35596688949248) rfl (fun _ => id) (Run.refl _ _ s)).part .faultN rfl
@[simp] theorem State.cause_course (s : State) (k : Nat) : (s.cause k).course = s.course :=
  (cause_run (f := 35596688949248) rfl (fun _ => id) (Run.refl _ _ s)).part .course rfl
@[simp] theorem State.cause_events (s : State) (k : Nat) : (s.cause k).events = s.events :=
  (cause_run (f := 35596688949248) rfl (fun _ => id) (Run.refl _ _ s)).part .events rfl
@[simp] theorem State.cause_streams (s : State) (k : Nat) : (s.cause k).streams = s.streams :=
  (cause_run (f := 35596688949248) rfl (fun _ => id) (Run.refl _ _ s)).part .streams rfl
@[simp] theorem State.cause_plan (s : State) (k : Nat) : (s.cause k).plan = s.plan :=
  (cause_run (f := 35596688949248) rfl (fun _ => id) (Run.refl _ _ s)).part .plan rfl
@[simp] theorem State.cause_loading (s : State) (k : Nat) : (s.cause k).loading = s.loading :=
  (cause_run (f := 35596688949248) rfl (fun _ => id) (Run.refl _ _ s)).part .loading rfl
@[simp] theorem State.cause_place (s : State) (k : Nat) : (s.cause k).place = s.place :=
  (cause_run (f := 35596688949248) rfl (fun _ => id) (Run.refl _ _ s)).part .place rfl
@[simp] theorem State.cause_triggers (s : State) (k : Nat) : (s.cause k).triggers = s.triggers :=
  (cause_run (f := 35596688949248) rfl (fun _ => id) (Run.refl _ _ s)).part .triggers rfl
@[simp] theorem State.cause_placeDue (s : State) (k : Nat) : (s.cause k).placeDue = s.placeDue :=
  (cause_run (f := 35596688949248) rfl (fun _ => id) (Run.refl _ _ s)).part .placeDue rfl
@[simp] theorem State.cause_placing (s : State) (k : Nat) : (s.cause k).placing = s.placing :=
  (cause_run (f := 35596688949248) rfl (fun _ => id) (Run.refl _ _ s)).part .placing rfl
@[simp] theorem State.cause_placeWait (s : State) (k : Nat) : (s.cause k).placeWait = s.placeWait :=
  (cause_run (f := 35596688949248) rfl (fun _ => id) (Run.refl _ _ s)).part .placeWait rfl
@[simp] theorem State.cause_arrays (s : State) (k : Nat) : (s.cause k).arrays = s.arrays :=
  (cause_run (f := 35596688949248) rfl (fun _ => id) (Run.refl _ _ s)).part .arrays rfl
@[simp] theorem State.cause_cells (s : State) (k : Nat) : (s.cause k).cells = s.cells :=
  (cause_run (f := 35596688949248) rfl (fun _ => id) (Run.refl _ _ s)).part .cells rfl
@[simp] theorem State.cause_cal (s : State) (k : Nat) : (s.cause k).cal = s.cal :=
  (cause_run (f := 35596688949248) rfl (fun _ => id) (Run.refl _ _ s)).part .cal rfl
@[simp] theorem State.cause_layers (s : State) (k : Nat) : (s.cause k).layers = s.layers :=
  (cause_run (f := 35596688949248) rfl (fun _ => id) (Run.refl _ _ s)).part .layers rfl
@[simp] theorem State.cause_widenLog (s : State) (k : Nat) : (s.cause k).widenLog = s.widenLog :=
  (cause_run (f := 35596688949248) rfl (fun _ => id) (Run.refl _ _ s)).part .widenLog rfl
@[simp] theorem State.cause_plumbLog (s : State) (k : Nat) : (s.cause k).plumbLog = s.plumbLog :=
  (cause_run (f := 35596688949248) rfl (fun _ => id) (Run.refl _ _ s)).part .plumbLog rfl
@[simp] theorem State.cause_storm (s : State) (k : Nat) : (s.cause k).storm = s.storm :=
  (cause_run (f := 35596688949248) rfl (fun _ => id) (Run.refl _ _ s)).part .storm rfl
@[simp] theorem State.cause_jointModes (s : State) (k : Nat) : (s.cause k).jointModes = s.jointModes :=
  (cause_run (f := 35596688949248) rfl (fun _ => id) (Run.refl _ _ s)).part .jointModes rfl
@[simp] theorem State.cause_jointParts (s : State) (k : Nat) : (s.cause k).jointParts = s.jointParts :=
  (cause_run (f := 35596688949248) rfl (fun _ => id) (Run.refl _ _ s)).part .jointParts rfl
@[simp] theorem State.cause_jointWaits (s : State) (k : Nat) : (s.cause k).jointWaits = s.jointWaits :=
  (cause_run (f := 35596688949248) rfl (fun _ => id) (Run.refl _ _ s)).part .jointWaits rfl
@[simp] theorem State.cause_backward (s : State) (k : Nat) : (s.cause k).backward = s.backward :=
  (cause_run (f := 35596688949248) rfl (fun _ => id) (Run.refl _ _ s)).part .backward rfl
@[simp] theorem State.cause_frogMost (s : State) (k : Nat) : (s.cause k).frogMost = s.frogMost :=
  (cause_run (f := 35596688949248) rfl (fun _ => id) (Run.refl _ _ s)).part .frogMost rfl
@[simp] theorem State.cause_step (s : State) (k : Nat) : (s.cause k).step = s.step :=
  (cause_run (f := 35596688949248) rfl (fun _ => id) (Run.refl _ _ s)).part .step rfl
@[simp] theorem State.cause_exch (s : State) (k : Nat) : (s.cause k).exch = s.exch :=
  (cause_run (f := 35596688949248) rfl (fun _ => id) (Run.refl _ _ s)).part .exch rfl
@[simp] theorem State.cause_upd (s : State) (k : Nat) : (s.cause k).upd = s.upd :=
  (cause_run (f := 35596688949248) rfl (fun _ => id) (Run.refl _ _ s)).part .upd rfl
@[simp] theorem State.cause_mem (s : State) (k : Nat) : (s.cause k).mem = s.mem :=
  (cause_run (f := 35596688949248) rfl (fun _ => id) (Run.refl _ _ s)).part .mem rfl
@[simp] theorem State.cause_memUnit (s : State) (k : Nat) : (s.cause k).memUnit = s.memUnit :=
  (cause_run (f := 35596688949248) rfl (fun _ => id) (Run.refl _ _ s)).part .memUnit rfl
@[simp] theorem State.cause_bridges (s : State) (k : Nat) : (s.cause k).bridges = s.bridges :=
  (cause_run (f := 35596688949248) rfl (fun _ => id) (Run.refl _ _ s)).part .bridges rfl
@[simp] theorem State.cause_link (s : State) (k : Nat) : (s.cause k).link = s.link :=
  (cause_run (f := 35596688949248) rfl (fun _ => id) (Run.refl _ _ s)).part .link rfl
@[simp] theorem State.cause_dict (s : State) (k : Nat) : (s.cause k).dict = s.dict :=
  (cause_run (f := 35596688949248) rfl (fun _ => id) (Run.refl _ _ s)).part .dict rfl
@[simp] theorem State.cause_meas (s : State) (k : Nat) : (s.cause k).meas = s.meas :=
  (cause_run (f := 35596688949248) rfl (fun _ => id) (Run.refl _ _ s)).part .meas rfl
@[simp] theorem State.cause_clk (s : State) (k : Nat) : (s.cause k).clk = s.clk :=
  (cause_run (f := 35596688949248) rfl (fun _ => id) (Run.refl _ _ s)).part .clk rfl
@[simp] theorem State.cause_faults (s : State) (k : Nat) : (s.cause k).faults = s.faults :=
  (cause_run (f := 35596688949248) rfl (fun _ => id) (Run.refl _ _ s)).part .faults rfl
@[simp] theorem State.cause_freeze (s : State) (k : Nat) : (s.cause k).freeze = s.freeze :=
  (cause_run (f := 35596688949248) rfl (fun _ => id) (Run.refl _ _ s)).part .freeze rfl
@[simp] theorem State.cause_fw (s : State) (k : Nat) : (s.cause k).fw = s.fw :=
  (cause_run (f := 35596688949248) rfl (fun _ => id) (Run.refl _ _ s)).part .fw rfl
@[simp] theorem State.cause_free (s : State) (k : Nat) : (s.cause k).free = s.free :=
  (cause_run (f := 35596688949248) rfl (fun _ => id) (Run.refl _ _ s)).part .free rfl
@[simp] theorem State.cause_pending (s : State) (k : Nat) : (s.cause k).pending = s.pending :=
  (cause_run (f := 35596688949248) rfl (fun _ => id) (Run.refl _ _ s)).part .pending rfl
@[simp] theorem State.cause_pd (s : State) (k : Nat) : (s.cause k).pd = s.pd := by
  unfold State.cause; simp

@[simp] theorem State.spall_mode (s : State) (p : Spall) : (s.spall p).mode = s.mode :=
  (spall_run (f := 39994735460352) rfl (fun _ => id) (Run.refl _ _ s)).part .mode rfl
@[simp] theorem State.spall_resetN (s : State) (p : Spall) : (s.spall p).resetN = s.resetN :=
  (spall_run (f := 39994735460352) rfl (fun _ => id) (Run.refl _ _ s)).part .resetN rfl
@[simp] theorem State.spall_pwrGood (s : State) (p : Spall) : (s.spall p).pwrGood = s.pwrGood :=
  (spall_run (f := 39994735460352) rfl (fun _ => id) (Run.refl _ _ s)).part .pwrGood rfl
@[simp] theorem State.spall_freezeN (s : State) (p : Spall) : (s.spall p).freezeN = s.freezeN :=
  (spall_run (f := 39994735460352) rfl (fun _ => id) (Run.refl _ _ s)).part .freezeN rfl
@[simp] theorem State.spall_slotId (s : State) (p : Spall) : (s.spall p).slotId = s.slotId :=
  (spall_run (f := 39994735460352) rfl (fun _ => id) (Run.refl _ _ s)).part .slotId rfl
@[simp] theorem State.spall_bondSide (s : State) (p : Spall) : (s.spall p).bondSide = s.bondSide :=
  (spall_run (f := 39994735460352) rfl (fun _ => id) (Run.refl _ _ s)).part .bondSide rfl
@[simp] theorem State.spall_ready (s : State) (p : Spall) : (s.spall p).ready = s.ready :=
  (spall_run (f := 39994735460352) rfl (fun _ => id) (Run.refl _ _ s)).part .ready rfl
@[simp] theorem State.spall_faultN (s : State) (p : Spall) : (s.spall p).faultN = s.faultN :=
  (spall_run (f := 39994735460352) rfl (fun _ => id) (Run.refl _ _ s)).part .faultN rfl
@[simp] theorem State.spall_course (s : State) (p : Spall) : (s.spall p).course = s.course :=
  (spall_run (f := 39994735460352) rfl (fun _ => id) (Run.refl _ _ s)).part .course rfl
@[simp] theorem State.spall_events (s : State) (p : Spall) : (s.spall p).events = s.events :=
  (spall_run (f := 39994735460352) rfl (fun _ => id) (Run.refl _ _ s)).part .events rfl
@[simp] theorem State.spall_streams (s : State) (p : Spall) : (s.spall p).streams = s.streams :=
  (spall_run (f := 39994735460352) rfl (fun _ => id) (Run.refl _ _ s)).part .streams rfl
@[simp] theorem State.spall_plan (s : State) (p : Spall) : (s.spall p).plan = s.plan :=
  (spall_run (f := 39994735460352) rfl (fun _ => id) (Run.refl _ _ s)).part .plan rfl
@[simp] theorem State.spall_loading (s : State) (p : Spall) : (s.spall p).loading = s.loading :=
  (spall_run (f := 39994735460352) rfl (fun _ => id) (Run.refl _ _ s)).part .loading rfl
@[simp] theorem State.spall_place (s : State) (p : Spall) : (s.spall p).place = s.place :=
  (spall_run (f := 39994735460352) rfl (fun _ => id) (Run.refl _ _ s)).part .place rfl
@[simp] theorem State.spall_triggers (s : State) (p : Spall) : (s.spall p).triggers = s.triggers :=
  (spall_run (f := 39994735460352) rfl (fun _ => id) (Run.refl _ _ s)).part .triggers rfl
@[simp] theorem State.spall_placeDue (s : State) (p : Spall) : (s.spall p).placeDue = s.placeDue :=
  (spall_run (f := 39994735460352) rfl (fun _ => id) (Run.refl _ _ s)).part .placeDue rfl
@[simp] theorem State.spall_placing (s : State) (p : Spall) : (s.spall p).placing = s.placing :=
  (spall_run (f := 39994735460352) rfl (fun _ => id) (Run.refl _ _ s)).part .placing rfl
@[simp] theorem State.spall_placeWait (s : State) (p : Spall) : (s.spall p).placeWait = s.placeWait :=
  (spall_run (f := 39994735460352) rfl (fun _ => id) (Run.refl _ _ s)).part .placeWait rfl
@[simp] theorem State.spall_arrays (s : State) (p : Spall) : (s.spall p).arrays = s.arrays :=
  (spall_run (f := 39994735460352) rfl (fun _ => id) (Run.refl _ _ s)).part .arrays rfl
@[simp] theorem State.spall_cells (s : State) (p : Spall) : (s.spall p).cells = s.cells :=
  (spall_run (f := 39994735460352) rfl (fun _ => id) (Run.refl _ _ s)).part .cells rfl
@[simp] theorem State.spall_cal (s : State) (p : Spall) : (s.spall p).cal = s.cal :=
  (spall_run (f := 39994735460352) rfl (fun _ => id) (Run.refl _ _ s)).part .cal rfl
@[simp] theorem State.spall_layers (s : State) (p : Spall) : (s.spall p).layers = s.layers :=
  (spall_run (f := 39994735460352) rfl (fun _ => id) (Run.refl _ _ s)).part .layers rfl
@[simp] theorem State.spall_widenLog (s : State) (p : Spall) : (s.spall p).widenLog = s.widenLog :=
  (spall_run (f := 39994735460352) rfl (fun _ => id) (Run.refl _ _ s)).part .widenLog rfl
@[simp] theorem State.spall_plumbLog (s : State) (p : Spall) : (s.spall p).plumbLog = s.plumbLog :=
  (spall_run (f := 39994735460352) rfl (fun _ => id) (Run.refl _ _ s)).part .plumbLog rfl
@[simp] theorem State.spall_storm (s : State) (p : Spall) : (s.spall p).storm = s.storm :=
  (spall_run (f := 39994735460352) rfl (fun _ => id) (Run.refl _ _ s)).part .storm rfl
@[simp] theorem State.spall_jointModes (s : State) (p : Spall) : (s.spall p).jointModes = s.jointModes :=
  (spall_run (f := 39994735460352) rfl (fun _ => id) (Run.refl _ _ s)).part .jointModes rfl
@[simp] theorem State.spall_jointParts (s : State) (p : Spall) : (s.spall p).jointParts = s.jointParts :=
  (spall_run (f := 39994735460352) rfl (fun _ => id) (Run.refl _ _ s)).part .jointParts rfl
@[simp] theorem State.spall_jointWaits (s : State) (p : Spall) : (s.spall p).jointWaits = s.jointWaits :=
  (spall_run (f := 39994735460352) rfl (fun _ => id) (Run.refl _ _ s)).part .jointWaits rfl
@[simp] theorem State.spall_backward (s : State) (p : Spall) : (s.spall p).backward = s.backward :=
  (spall_run (f := 39994735460352) rfl (fun _ => id) (Run.refl _ _ s)).part .backward rfl
@[simp] theorem State.spall_frogMost (s : State) (p : Spall) : (s.spall p).frogMost = s.frogMost :=
  (spall_run (f := 39994735460352) rfl (fun _ => id) (Run.refl _ _ s)).part .frogMost rfl
@[simp] theorem State.spall_step (s : State) (p : Spall) : (s.spall p).step = s.step :=
  (spall_run (f := 39994735460352) rfl (fun _ => id) (Run.refl _ _ s)).part .step rfl
@[simp] theorem State.spall_exch (s : State) (p : Spall) : (s.spall p).exch = s.exch :=
  (spall_run (f := 39994735460352) rfl (fun _ => id) (Run.refl _ _ s)).part .exch rfl
@[simp] theorem State.spall_upd (s : State) (p : Spall) : (s.spall p).upd = s.upd :=
  (spall_run (f := 39994735460352) rfl (fun _ => id) (Run.refl _ _ s)).part .upd rfl
@[simp] theorem State.spall_mem (s : State) (p : Spall) : (s.spall p).mem = s.mem :=
  (spall_run (f := 39994735460352) rfl (fun _ => id) (Run.refl _ _ s)).part .mem rfl
@[simp] theorem State.spall_memUnit (s : State) (p : Spall) : (s.spall p).memUnit = s.memUnit :=
  (spall_run (f := 39994735460352) rfl (fun _ => id) (Run.refl _ _ s)).part .memUnit rfl
@[simp] theorem State.spall_bridges (s : State) (p : Spall) : (s.spall p).bridges = s.bridges :=
  (spall_run (f := 39994735460352) rfl (fun _ => id) (Run.refl _ _ s)).part .bridges rfl
@[simp] theorem State.spall_link (s : State) (p : Spall) : (s.spall p).link = s.link :=
  (spall_run (f := 39994735460352) rfl (fun _ => id) (Run.refl _ _ s)).part .link rfl
@[simp] theorem State.spall_dict (s : State) (p : Spall) : (s.spall p).dict = s.dict :=
  (spall_run (f := 39994735460352) rfl (fun _ => id) (Run.refl _ _ s)).part .dict rfl
@[simp] theorem State.spall_meas (s : State) (p : Spall) : (s.spall p).meas = s.meas :=
  (spall_run (f := 39994735460352) rfl (fun _ => id) (Run.refl _ _ s)).part .meas rfl
@[simp] theorem State.spall_clk (s : State) (p : Spall) : (s.spall p).clk = s.clk :=
  (spall_run (f := 39994735460352) rfl (fun _ => id) (Run.refl _ _ s)).part .clk rfl
@[simp] theorem State.spall_freeze (s : State) (p : Spall) : (s.spall p).freeze = s.freeze :=
  (spall_run (f := 39994735460352) rfl (fun _ => id) (Run.refl _ _ s)).part .freeze rfl
@[simp] theorem State.spall_fw (s : State) (p : Spall) : (s.spall p).fw = s.fw :=
  (spall_run (f := 39994735460352) rfl (fun _ => id) (Run.refl _ _ s)).part .fw rfl
@[simp] theorem State.spall_free (s : State) (p : Spall) : (s.spall p).free = s.free :=
  (spall_run (f := 39994735460352) rfl (fun _ => id) (Run.refl _ _ s)).part .free rfl
@[simp] theorem State.spall_pending (s : State) (p : Spall) : (s.spall p).pending = s.pending :=
  (spall_run (f := 39994735460352) rfl (fun _ => id) (Run.refl _ _ s)).part .pending rfl

@[simp] theorem State.ringPush_mode (s : State) (b : List Byte) : (s.ringPush b).mode = s.mode :=
  (ringPush_run (f := 4398046511104) rfl (fun _ => id) (Run.refl _ _ s)).part .mode rfl
@[simp] theorem State.ringPush_resetN (s : State) (b : List Byte) : (s.ringPush b).resetN = s.resetN :=
  (ringPush_run (f := 4398046511104) rfl (fun _ => id) (Run.refl _ _ s)).part .resetN rfl
@[simp] theorem State.ringPush_pwrGood (s : State) (b : List Byte) : (s.ringPush b).pwrGood = s.pwrGood :=
  (ringPush_run (f := 4398046511104) rfl (fun _ => id) (Run.refl _ _ s)).part .pwrGood rfl
@[simp] theorem State.ringPush_freezeN (s : State) (b : List Byte) : (s.ringPush b).freezeN = s.freezeN :=
  (ringPush_run (f := 4398046511104) rfl (fun _ => id) (Run.refl _ _ s)).part .freezeN rfl
@[simp] theorem State.ringPush_slotId (s : State) (b : List Byte) : (s.ringPush b).slotId = s.slotId :=
  (ringPush_run (f := 4398046511104) rfl (fun _ => id) (Run.refl _ _ s)).part .slotId rfl
@[simp] theorem State.ringPush_bondSide (s : State) (b : List Byte) : (s.ringPush b).bondSide = s.bondSide :=
  (ringPush_run (f := 4398046511104) rfl (fun _ => id) (Run.refl _ _ s)).part .bondSide rfl
@[simp] theorem State.ringPush_ready (s : State) (b : List Byte) : (s.ringPush b).ready = s.ready :=
  (ringPush_run (f := 4398046511104) rfl (fun _ => id) (Run.refl _ _ s)).part .ready rfl
@[simp] theorem State.ringPush_faultN (s : State) (b : List Byte) : (s.ringPush b).faultN = s.faultN :=
  (ringPush_run (f := 4398046511104) rfl (fun _ => id) (Run.refl _ _ s)).part .faultN rfl
@[simp] theorem State.ringPush_course (s : State) (b : List Byte) : (s.ringPush b).course = s.course :=
  (ringPush_run (f := 4398046511104) rfl (fun _ => id) (Run.refl _ _ s)).part .course rfl
@[simp] theorem State.ringPush_events (s : State) (b : List Byte) : (s.ringPush b).events = s.events :=
  (ringPush_run (f := 4398046511104) rfl (fun _ => id) (Run.refl _ _ s)).part .events rfl
@[simp] theorem State.ringPush_streams (s : State) (b : List Byte) : (s.ringPush b).streams = s.streams :=
  (ringPush_run (f := 4398046511104) rfl (fun _ => id) (Run.refl _ _ s)).part .streams rfl
@[simp] theorem State.ringPush_plan (s : State) (b : List Byte) : (s.ringPush b).plan = s.plan :=
  (ringPush_run (f := 4398046511104) rfl (fun _ => id) (Run.refl _ _ s)).part .plan rfl
@[simp] theorem State.ringPush_loading (s : State) (b : List Byte) : (s.ringPush b).loading = s.loading :=
  (ringPush_run (f := 4398046511104) rfl (fun _ => id) (Run.refl _ _ s)).part .loading rfl
@[simp] theorem State.ringPush_place (s : State) (b : List Byte) : (s.ringPush b).place = s.place :=
  (ringPush_run (f := 4398046511104) rfl (fun _ => id) (Run.refl _ _ s)).part .place rfl
@[simp] theorem State.ringPush_triggers (s : State) (b : List Byte) : (s.ringPush b).triggers = s.triggers :=
  (ringPush_run (f := 4398046511104) rfl (fun _ => id) (Run.refl _ _ s)).part .triggers rfl
@[simp] theorem State.ringPush_placeDue (s : State) (b : List Byte) : (s.ringPush b).placeDue = s.placeDue :=
  (ringPush_run (f := 4398046511104) rfl (fun _ => id) (Run.refl _ _ s)).part .placeDue rfl
@[simp] theorem State.ringPush_placing (s : State) (b : List Byte) : (s.ringPush b).placing = s.placing :=
  (ringPush_run (f := 4398046511104) rfl (fun _ => id) (Run.refl _ _ s)).part .placing rfl
@[simp] theorem State.ringPush_placeWait (s : State) (b : List Byte) : (s.ringPush b).placeWait = s.placeWait :=
  (ringPush_run (f := 4398046511104) rfl (fun _ => id) (Run.refl _ _ s)).part .placeWait rfl
@[simp] theorem State.ringPush_arrays (s : State) (b : List Byte) : (s.ringPush b).arrays = s.arrays :=
  (ringPush_run (f := 4398046511104) rfl (fun _ => id) (Run.refl _ _ s)).part .arrays rfl
@[simp] theorem State.ringPush_cells (s : State) (b : List Byte) : (s.ringPush b).cells = s.cells :=
  (ringPush_run (f := 4398046511104) rfl (fun _ => id) (Run.refl _ _ s)).part .cells rfl
@[simp] theorem State.ringPush_cal (s : State) (b : List Byte) : (s.ringPush b).cal = s.cal :=
  (ringPush_run (f := 4398046511104) rfl (fun _ => id) (Run.refl _ _ s)).part .cal rfl
@[simp] theorem State.ringPush_layers (s : State) (b : List Byte) : (s.ringPush b).layers = s.layers :=
  (ringPush_run (f := 4398046511104) rfl (fun _ => id) (Run.refl _ _ s)).part .layers rfl
@[simp] theorem State.ringPush_widenLog (s : State) (b : List Byte) : (s.ringPush b).widenLog = s.widenLog :=
  (ringPush_run (f := 4398046511104) rfl (fun _ => id) (Run.refl _ _ s)).part .widenLog rfl
@[simp] theorem State.ringPush_plumbLog (s : State) (b : List Byte) : (s.ringPush b).plumbLog = s.plumbLog :=
  (ringPush_run (f := 4398046511104) rfl (fun _ => id) (Run.refl _ _ s)).part .plumbLog rfl
@[simp] theorem State.ringPush_storm (s : State) (b : List Byte) : (s.ringPush b).storm = s.storm :=
  (ringPush_run (f := 4398046511104) rfl (fun _ => id) (Run.refl _ _ s)).part .storm rfl
@[simp] theorem State.ringPush_jointModes (s : State) (b : List Byte) : (s.ringPush b).jointModes = s.jointModes :=
  (ringPush_run (f := 4398046511104) rfl (fun _ => id) (Run.refl _ _ s)).part .jointModes rfl
@[simp] theorem State.ringPush_jointParts (s : State) (b : List Byte) : (s.ringPush b).jointParts = s.jointParts :=
  (ringPush_run (f := 4398046511104) rfl (fun _ => id) (Run.refl _ _ s)).part .jointParts rfl
@[simp] theorem State.ringPush_jointWaits (s : State) (b : List Byte) : (s.ringPush b).jointWaits = s.jointWaits :=
  (ringPush_run (f := 4398046511104) rfl (fun _ => id) (Run.refl _ _ s)).part .jointWaits rfl
@[simp] theorem State.ringPush_backward (s : State) (b : List Byte) : (s.ringPush b).backward = s.backward :=
  (ringPush_run (f := 4398046511104) rfl (fun _ => id) (Run.refl _ _ s)).part .backward rfl
@[simp] theorem State.ringPush_frogMost (s : State) (b : List Byte) : (s.ringPush b).frogMost = s.frogMost :=
  (ringPush_run (f := 4398046511104) rfl (fun _ => id) (Run.refl _ _ s)).part .frogMost rfl
@[simp] theorem State.ringPush_step (s : State) (b : List Byte) : (s.ringPush b).step = s.step :=
  (ringPush_run (f := 4398046511104) rfl (fun _ => id) (Run.refl _ _ s)).part .step rfl
@[simp] theorem State.ringPush_exch (s : State) (b : List Byte) : (s.ringPush b).exch = s.exch :=
  (ringPush_run (f := 4398046511104) rfl (fun _ => id) (Run.refl _ _ s)).part .exch rfl
@[simp] theorem State.ringPush_upd (s : State) (b : List Byte) : (s.ringPush b).upd = s.upd :=
  (ringPush_run (f := 4398046511104) rfl (fun _ => id) (Run.refl _ _ s)).part .upd rfl
@[simp] theorem State.ringPush_mem (s : State) (b : List Byte) : (s.ringPush b).mem = s.mem :=
  (ringPush_run (f := 4398046511104) rfl (fun _ => id) (Run.refl _ _ s)).part .mem rfl
@[simp] theorem State.ringPush_memUnit (s : State) (b : List Byte) : (s.ringPush b).memUnit = s.memUnit :=
  (ringPush_run (f := 4398046511104) rfl (fun _ => id) (Run.refl _ _ s)).part .memUnit rfl
@[simp] theorem State.ringPush_bridges (s : State) (b : List Byte) : (s.ringPush b).bridges = s.bridges :=
  (ringPush_run (f := 4398046511104) rfl (fun _ => id) (Run.refl _ _ s)).part .bridges rfl
@[simp] theorem State.ringPush_link (s : State) (b : List Byte) : (s.ringPush b).link = s.link :=
  (ringPush_run (f := 4398046511104) rfl (fun _ => id) (Run.refl _ _ s)).part .link rfl
@[simp] theorem State.ringPush_ep0 (s : State) (b : List Byte) : (s.ringPush b).ep0 = s.ep0 :=
  (ringPush_run (f := 4398046511104) rfl (fun _ => id) (Run.refl _ _ s)).part .ep0 rfl
@[simp] theorem State.ringPush_ep1 (s : State) (b : List Byte) : (s.ringPush b).ep1 = s.ep1 :=
  (ringPush_run (f := 4398046511104) rfl (fun _ => id) (Run.refl _ _ s)).part .ep1 rfl
@[simp] theorem State.ringPush_dict (s : State) (b : List Byte) : (s.ringPush b).dict = s.dict :=
  (ringPush_run (f := 4398046511104) rfl (fun _ => id) (Run.refl _ _ s)).part .dict rfl
@[simp] theorem State.ringPush_meas (s : State) (b : List Byte) : (s.ringPush b).meas = s.meas :=
  (ringPush_run (f := 4398046511104) rfl (fun _ => id) (Run.refl _ _ s)).part .meas rfl
@[simp] theorem State.ringPush_clk (s : State) (b : List Byte) : (s.ringPush b).clk = s.clk :=
  (ringPush_run (f := 4398046511104) rfl (fun _ => id) (Run.refl _ _ s)).part .clk rfl
@[simp] theorem State.ringPush_freeze (s : State) (b : List Byte) : (s.ringPush b).freeze = s.freeze :=
  (ringPush_run (f := 4398046511104) rfl (fun _ => id) (Run.refl _ _ s)).part .freeze rfl
@[simp] theorem State.ringPush_fw (s : State) (b : List Byte) : (s.ringPush b).fw = s.fw :=
  (ringPush_run (f := 4398046511104) rfl (fun _ => id) (Run.refl _ _ s)).part .fw rfl
@[simp] theorem State.ringPush_outs (s : State) (b : List Byte) : (s.ringPush b).outs = s.outs :=
  (ringPush_run (f := 4398046511104) rfl (fun _ => id) (Run.refl _ _ s)).part .outs rfl
@[simp] theorem State.ringPush_free (s : State) (b : List Byte) : (s.ringPush b).free = s.free :=
  (ringPush_run (f := 4398046511104) rfl (fun _ => id) (Run.refl _ _ s)).part .free rfl
@[simp] theorem State.ringPush_pending (s : State) (b : List Byte) : (s.ringPush b).pending = s.pending :=
  (ringPush_run (f := 4398046511104) rfl (fun _ => id) (Run.refl _ _ s)).part .pending rfl

@[simp] theorem State.reason_mode (s : State) (r : Nat) : (s.reason r).mode = s.mode :=
  (reason_run (f := 0) rfl (fun _ => id) (Run.refl _ _ s)).part .mode rfl
@[simp] theorem State.reason_resetN (s : State) (r : Nat) : (s.reason r).resetN = s.resetN :=
  (reason_run (f := 0) rfl (fun _ => id) (Run.refl _ _ s)).part .resetN rfl
@[simp] theorem State.reason_pwrGood (s : State) (r : Nat) : (s.reason r).pwrGood = s.pwrGood :=
  (reason_run (f := 0) rfl (fun _ => id) (Run.refl _ _ s)).part .pwrGood rfl
@[simp] theorem State.reason_freezeN (s : State) (r : Nat) : (s.reason r).freezeN = s.freezeN :=
  (reason_run (f := 0) rfl (fun _ => id) (Run.refl _ _ s)).part .freezeN rfl
@[simp] theorem State.reason_slotId (s : State) (r : Nat) : (s.reason r).slotId = s.slotId :=
  (reason_run (f := 0) rfl (fun _ => id) (Run.refl _ _ s)).part .slotId rfl
@[simp] theorem State.reason_bondSide (s : State) (r : Nat) : (s.reason r).bondSide = s.bondSide :=
  (reason_run (f := 0) rfl (fun _ => id) (Run.refl _ _ s)).part .bondSide rfl
@[simp] theorem State.reason_ready (s : State) (r : Nat) : (s.reason r).ready = s.ready :=
  (reason_run (f := 0) rfl (fun _ => id) (Run.refl _ _ s)).part .ready rfl
@[simp] theorem State.reason_faultN (s : State) (r : Nat) : (s.reason r).faultN = s.faultN :=
  (reason_run (f := 0) rfl (fun _ => id) (Run.refl _ _ s)).part .faultN rfl
@[simp] theorem State.reason_course (s : State) (r : Nat) : (s.reason r).course = s.course :=
  (reason_run (f := 0) rfl (fun _ => id) (Run.refl _ _ s)).part .course rfl
@[simp] theorem State.reason_events (s : State) (r : Nat) : (s.reason r).events = s.events :=
  (reason_run (f := 0) rfl (fun _ => id) (Run.refl _ _ s)).part .events rfl
@[simp] theorem State.reason_streams (s : State) (r : Nat) : (s.reason r).streams = s.streams :=
  (reason_run (f := 0) rfl (fun _ => id) (Run.refl _ _ s)).part .streams rfl
@[simp] theorem State.reason_plan (s : State) (r : Nat) : (s.reason r).plan = s.plan :=
  (reason_run (f := 0) rfl (fun _ => id) (Run.refl _ _ s)).part .plan rfl
@[simp] theorem State.reason_loading (s : State) (r : Nat) : (s.reason r).loading = s.loading :=
  (reason_run (f := 0) rfl (fun _ => id) (Run.refl _ _ s)).part .loading rfl
@[simp] theorem State.reason_place (s : State) (r : Nat) : (s.reason r).place = s.place :=
  (reason_run (f := 0) rfl (fun _ => id) (Run.refl _ _ s)).part .place rfl
@[simp] theorem State.reason_triggers (s : State) (r : Nat) : (s.reason r).triggers = s.triggers :=
  (reason_run (f := 0) rfl (fun _ => id) (Run.refl _ _ s)).part .triggers rfl
@[simp] theorem State.reason_placeDue (s : State) (r : Nat) : (s.reason r).placeDue = s.placeDue :=
  (reason_run (f := 0) rfl (fun _ => id) (Run.refl _ _ s)).part .placeDue rfl
@[simp] theorem State.reason_placing (s : State) (r : Nat) : (s.reason r).placing = s.placing :=
  (reason_run (f := 0) rfl (fun _ => id) (Run.refl _ _ s)).part .placing rfl
@[simp] theorem State.reason_placeWait (s : State) (r : Nat) : (s.reason r).placeWait = s.placeWait :=
  (reason_run (f := 0) rfl (fun _ => id) (Run.refl _ _ s)).part .placeWait rfl
@[simp] theorem State.reason_arrays (s : State) (r : Nat) : (s.reason r).arrays = s.arrays :=
  (reason_run (f := 0) rfl (fun _ => id) (Run.refl _ _ s)).part .arrays rfl
@[simp] theorem State.reason_cells (s : State) (r : Nat) : (s.reason r).cells = s.cells :=
  (reason_run (f := 0) rfl (fun _ => id) (Run.refl _ _ s)).part .cells rfl
@[simp] theorem State.reason_cal (s : State) (r : Nat) : (s.reason r).cal = s.cal :=
  (reason_run (f := 0) rfl (fun _ => id) (Run.refl _ _ s)).part .cal rfl
@[simp] theorem State.reason_layers (s : State) (r : Nat) : (s.reason r).layers = s.layers :=
  (reason_run (f := 0) rfl (fun _ => id) (Run.refl _ _ s)).part .layers rfl
@[simp] theorem State.reason_widenLog (s : State) (r : Nat) : (s.reason r).widenLog = s.widenLog :=
  (reason_run (f := 0) rfl (fun _ => id) (Run.refl _ _ s)).part .widenLog rfl
@[simp] theorem State.reason_plumbLog (s : State) (r : Nat) : (s.reason r).plumbLog = s.plumbLog :=
  (reason_run (f := 0) rfl (fun _ => id) (Run.refl _ _ s)).part .plumbLog rfl
@[simp] theorem State.reason_storm (s : State) (r : Nat) : (s.reason r).storm = s.storm :=
  (reason_run (f := 0) rfl (fun _ => id) (Run.refl _ _ s)).part .storm rfl
@[simp] theorem State.reason_jointModes (s : State) (r : Nat) : (s.reason r).jointModes = s.jointModes :=
  (reason_run (f := 0) rfl (fun _ => id) (Run.refl _ _ s)).part .jointModes rfl
@[simp] theorem State.reason_jointParts (s : State) (r : Nat) : (s.reason r).jointParts = s.jointParts :=
  (reason_run (f := 0) rfl (fun _ => id) (Run.refl _ _ s)).part .jointParts rfl
@[simp] theorem State.reason_jointWaits (s : State) (r : Nat) : (s.reason r).jointWaits = s.jointWaits :=
  (reason_run (f := 0) rfl (fun _ => id) (Run.refl _ _ s)).part .jointWaits rfl
@[simp] theorem State.reason_backward (s : State) (r : Nat) : (s.reason r).backward = s.backward :=
  (reason_run (f := 0) rfl (fun _ => id) (Run.refl _ _ s)).part .backward rfl
@[simp] theorem State.reason_frogMost (s : State) (r : Nat) : (s.reason r).frogMost = s.frogMost :=
  (reason_run (f := 0) rfl (fun _ => id) (Run.refl _ _ s)).part .frogMost rfl
@[simp] theorem State.reason_step (s : State) (r : Nat) : (s.reason r).step = s.step :=
  (reason_run (f := 0) rfl (fun _ => id) (Run.refl _ _ s)).part .step rfl
@[simp] theorem State.reason_exch (s : State) (r : Nat) : (s.reason r).exch = s.exch :=
  (reason_run (f := 0) rfl (fun _ => id) (Run.refl _ _ s)).part .exch rfl
@[simp] theorem State.reason_upd (s : State) (r : Nat) : (s.reason r).upd = s.upd :=
  (reason_run (f := 0) rfl (fun _ => id) (Run.refl _ _ s)).part .upd rfl
@[simp] theorem State.reason_mem (s : State) (r : Nat) : (s.reason r).mem = s.mem :=
  (reason_run (f := 0) rfl (fun _ => id) (Run.refl _ _ s)).part .mem rfl
@[simp] theorem State.reason_memUnit (s : State) (r : Nat) : (s.reason r).memUnit = s.memUnit :=
  (reason_run (f := 0) rfl (fun _ => id) (Run.refl _ _ s)).part .memUnit rfl
@[simp] theorem State.reason_bridges (s : State) (r : Nat) : (s.reason r).bridges = s.bridges :=
  (reason_run (f := 0) rfl (fun _ => id) (Run.refl _ _ s)).part .bridges rfl
@[simp] theorem State.reason_link (s : State) (r : Nat) : (s.reason r).link = s.link :=
  (reason_run (f := 0) rfl (fun _ => id) (Run.refl _ _ s)).part .link rfl
@[simp] theorem State.reason_ep0 (s : State) (r : Nat) : (s.reason r).ep0 = s.ep0 :=
  (reason_run (f := 0) rfl (fun _ => id) (Run.refl _ _ s)).part .ep0 rfl
@[simp] theorem State.reason_ep1 (s : State) (r : Nat) : (s.reason r).ep1 = s.ep1 :=
  (reason_run (f := 0) rfl (fun _ => id) (Run.refl _ _ s)).part .ep1 rfl
@[simp] theorem State.reason_dict (s : State) (r : Nat) : (s.reason r).dict = s.dict :=
  (reason_run (f := 0) rfl (fun _ => id) (Run.refl _ _ s)).part .dict rfl
@[simp] theorem State.reason_meas (s : State) (r : Nat) : (s.reason r).meas = s.meas :=
  (reason_run (f := 0) rfl (fun _ => id) (Run.refl _ _ s)).part .meas rfl
@[simp] theorem State.reason_clk (s : State) (r : Nat) : (s.reason r).clk = s.clk :=
  (reason_run (f := 0) rfl (fun _ => id) (Run.refl _ _ s)).part .clk rfl
@[simp] theorem State.reason_faults (s : State) (r : Nat) : (s.reason r).faults = s.faults :=
  (reason_run (f := 0) rfl (fun _ => id) (Run.refl _ _ s)).part .faults rfl
@[simp] theorem State.reason_freeze (s : State) (r : Nat) : (s.reason r).freeze = s.freeze :=
  (reason_run (f := 0) rfl (fun _ => id) (Run.refl _ _ s)).part .freeze rfl
@[simp] theorem State.reason_fw (s : State) (r : Nat) : (s.reason r).fw = s.fw :=
  (reason_run (f := 0) rfl (fun _ => id) (Run.refl _ _ s)).part .fw rfl
@[simp] theorem State.reason_outs (s : State) (r : Nat) : (s.reason r).outs = s.outs :=
  (reason_run (f := 0) rfl (fun _ => id) (Run.refl _ _ s)).part .outs rfl
@[simp] theorem State.reason_free (s : State) (r : Nat) : (s.reason r).free = s.free :=
  (reason_run (f := 0) rfl (fun _ => id) (Run.refl _ _ s)).part .free rfl
@[simp] theorem State.reason_pending (s : State) (r : Nat) : (s.reason r).pending = s.pending :=
  (reason_run (f := 0) rfl (fun _ => id) (Run.refl _ _ s)).part .pending rfl

@[simp] theorem State.enter_resetN (s : State) (m : Mode) : (s.enter m).resetN = s.resetN :=
  (enter_run (f := 35596688949441) rfl (fun _ => id) (Run.refl _ _ s)).part .resetN rfl
@[simp] theorem State.enter_pwrGood (s : State) (m : Mode) : (s.enter m).pwrGood = s.pwrGood :=
  (enter_run (f := 35596688949441) rfl (fun _ => id) (Run.refl _ _ s)).part .pwrGood rfl
@[simp] theorem State.enter_freezeN (s : State) (m : Mode) : (s.enter m).freezeN = s.freezeN :=
  (enter_run (f := 35596688949441) rfl (fun _ => id) (Run.refl _ _ s)).part .freezeN rfl
@[simp] theorem State.enter_slotId (s : State) (m : Mode) : (s.enter m).slotId = s.slotId :=
  (enter_run (f := 35596688949441) rfl (fun _ => id) (Run.refl _ _ s)).part .slotId rfl
@[simp] theorem State.enter_bondSide (s : State) (m : Mode) : (s.enter m).bondSide = s.bondSide :=
  (enter_run (f := 35596688949441) rfl (fun _ => id) (Run.refl _ _ s)).part .bondSide rfl
@[simp] theorem State.enter_course (s : State) (m : Mode) : (s.enter m).course = s.course :=
  (enter_run (f := 35596688949441) rfl (fun _ => id) (Run.refl _ _ s)).part .course rfl
@[simp] theorem State.enter_events (s : State) (m : Mode) : (s.enter m).events = s.events :=
  (enter_run (f := 35596688949441) rfl (fun _ => id) (Run.refl _ _ s)).part .events rfl
@[simp] theorem State.enter_streams (s : State) (m : Mode) : (s.enter m).streams = s.streams :=
  (enter_run (f := 35596688949441) rfl (fun _ => id) (Run.refl _ _ s)).part .streams rfl
@[simp] theorem State.enter_plan (s : State) (m : Mode) : (s.enter m).plan = s.plan :=
  (enter_run (f := 35596688949441) rfl (fun _ => id) (Run.refl _ _ s)).part .plan rfl
@[simp] theorem State.enter_loading (s : State) (m : Mode) : (s.enter m).loading = s.loading :=
  (enter_run (f := 35596688949441) rfl (fun _ => id) (Run.refl _ _ s)).part .loading rfl
@[simp] theorem State.enter_place (s : State) (m : Mode) : (s.enter m).place = s.place :=
  (enter_run (f := 35596688949441) rfl (fun _ => id) (Run.refl _ _ s)).part .place rfl
@[simp] theorem State.enter_triggers (s : State) (m : Mode) : (s.enter m).triggers = s.triggers :=
  (enter_run (f := 35596688949441) rfl (fun _ => id) (Run.refl _ _ s)).part .triggers rfl
@[simp] theorem State.enter_placeDue (s : State) (m : Mode) : (s.enter m).placeDue = s.placeDue :=
  (enter_run (f := 35596688949441) rfl (fun _ => id) (Run.refl _ _ s)).part .placeDue rfl
@[simp] theorem State.enter_placing (s : State) (m : Mode) : (s.enter m).placing = s.placing :=
  (enter_run (f := 35596688949441) rfl (fun _ => id) (Run.refl _ _ s)).part .placing rfl
@[simp] theorem State.enter_placeWait (s : State) (m : Mode) : (s.enter m).placeWait = s.placeWait :=
  (enter_run (f := 35596688949441) rfl (fun _ => id) (Run.refl _ _ s)).part .placeWait rfl
@[simp] theorem State.enter_arrays (s : State) (m : Mode) : (s.enter m).arrays = s.arrays :=
  (enter_run (f := 35596688949441) rfl (fun _ => id) (Run.refl _ _ s)).part .arrays rfl
@[simp] theorem State.enter_cells (s : State) (m : Mode) : (s.enter m).cells = s.cells :=
  (enter_run (f := 35596688949441) rfl (fun _ => id) (Run.refl _ _ s)).part .cells rfl
@[simp] theorem State.enter_cal (s : State) (m : Mode) : (s.enter m).cal = s.cal :=
  (enter_run (f := 35596688949441) rfl (fun _ => id) (Run.refl _ _ s)).part .cal rfl
@[simp] theorem State.enter_layers (s : State) (m : Mode) : (s.enter m).layers = s.layers :=
  (enter_run (f := 35596688949441) rfl (fun _ => id) (Run.refl _ _ s)).part .layers rfl
@[simp] theorem State.enter_widenLog (s : State) (m : Mode) : (s.enter m).widenLog = s.widenLog :=
  (enter_run (f := 35596688949441) rfl (fun _ => id) (Run.refl _ _ s)).part .widenLog rfl
@[simp] theorem State.enter_plumbLog (s : State) (m : Mode) : (s.enter m).plumbLog = s.plumbLog :=
  (enter_run (f := 35596688949441) rfl (fun _ => id) (Run.refl _ _ s)).part .plumbLog rfl
@[simp] theorem State.enter_storm (s : State) (m : Mode) : (s.enter m).storm = s.storm :=
  (enter_run (f := 35596688949441) rfl (fun _ => id) (Run.refl _ _ s)).part .storm rfl
@[simp] theorem State.enter_jointModes (s : State) (m : Mode) : (s.enter m).jointModes = s.jointModes :=
  (enter_run (f := 35596688949441) rfl (fun _ => id) (Run.refl _ _ s)).part .jointModes rfl
@[simp] theorem State.enter_jointParts (s : State) (m : Mode) : (s.enter m).jointParts = s.jointParts :=
  (enter_run (f := 35596688949441) rfl (fun _ => id) (Run.refl _ _ s)).part .jointParts rfl
@[simp] theorem State.enter_jointWaits (s : State) (m : Mode) : (s.enter m).jointWaits = s.jointWaits :=
  (enter_run (f := 35596688949441) rfl (fun _ => id) (Run.refl _ _ s)).part .jointWaits rfl
@[simp] theorem State.enter_backward (s : State) (m : Mode) : (s.enter m).backward = s.backward :=
  (enter_run (f := 35596688949441) rfl (fun _ => id) (Run.refl _ _ s)).part .backward rfl
@[simp] theorem State.enter_frogMost (s : State) (m : Mode) : (s.enter m).frogMost = s.frogMost :=
  (enter_run (f := 35596688949441) rfl (fun _ => id) (Run.refl _ _ s)).part .frogMost rfl
@[simp] theorem State.enter_step (s : State) (m : Mode) : (s.enter m).step = s.step :=
  (enter_run (f := 35596688949441) rfl (fun _ => id) (Run.refl _ _ s)).part .step rfl
@[simp] theorem State.enter_exch (s : State) (m : Mode) : (s.enter m).exch = s.exch :=
  (enter_run (f := 35596688949441) rfl (fun _ => id) (Run.refl _ _ s)).part .exch rfl
@[simp] theorem State.enter_upd (s : State) (m : Mode) : (s.enter m).upd = s.upd :=
  (enter_run (f := 35596688949441) rfl (fun _ => id) (Run.refl _ _ s)).part .upd rfl
@[simp] theorem State.enter_mem (s : State) (m : Mode) : (s.enter m).mem = s.mem :=
  (enter_run (f := 35596688949441) rfl (fun _ => id) (Run.refl _ _ s)).part .mem rfl
@[simp] theorem State.enter_memUnit (s : State) (m : Mode) : (s.enter m).memUnit = s.memUnit :=
  (enter_run (f := 35596688949441) rfl (fun _ => id) (Run.refl _ _ s)).part .memUnit rfl
@[simp] theorem State.enter_bridges (s : State) (m : Mode) : (s.enter m).bridges = s.bridges :=
  (enter_run (f := 35596688949441) rfl (fun _ => id) (Run.refl _ _ s)).part .bridges rfl
@[simp] theorem State.enter_link (s : State) (m : Mode) : (s.enter m).link = s.link :=
  (enter_run (f := 35596688949441) rfl (fun _ => id) (Run.refl _ _ s)).part .link rfl
@[simp] theorem State.enter_dict (s : State) (m : Mode) : (s.enter m).dict = s.dict :=
  (enter_run (f := 35596688949441) rfl (fun _ => id) (Run.refl _ _ s)).part .dict rfl
@[simp] theorem State.enter_meas (s : State) (m : Mode) : (s.enter m).meas = s.meas :=
  (enter_run (f := 35596688949441) rfl (fun _ => id) (Run.refl _ _ s)).part .meas rfl
@[simp] theorem State.enter_clk (s : State) (m : Mode) : (s.enter m).clk = s.clk :=
  (enter_run (f := 35596688949441) rfl (fun _ => id) (Run.refl _ _ s)).part .clk rfl
@[simp] theorem State.enter_faults (s : State) (m : Mode) : (s.enter m).faults = s.faults :=
  (enter_run (f := 35596688949441) rfl (fun _ => id) (Run.refl _ _ s)).part .faults rfl
@[simp] theorem State.enter_freeze (s : State) (m : Mode) : (s.enter m).freeze = s.freeze :=
  (enter_run (f := 35596688949441) rfl (fun _ => id) (Run.refl _ _ s)).part .freeze rfl
@[simp] theorem State.enter_fw (s : State) (m : Mode) : (s.enter m).fw = s.fw :=
  (enter_run (f := 35596688949441) rfl (fun _ => id) (Run.refl _ _ s)).part .fw rfl
@[simp] theorem State.enter_free (s : State) (m : Mode) : (s.enter m).free = s.free :=
  (enter_run (f := 35596688949441) rfl (fun _ => id) (Run.refl _ _ s)).part .free rfl
@[simp] theorem State.enter_pending (s : State) (m : Mode) : (s.enter m).pending = s.pending :=
  (enter_run (f := 35596688949441) rfl (fun _ => id) (Run.refl _ _ s)).part .pending rfl
@[simp] theorem State.enter_pd (s : State) (m : Mode) : (s.enter m).pd = s.pd := by
  unfold State.enter; dsimp only; split <;> simp

/-! ## Dictionary values through operations that do not write them -/

@[simp] theorem State.num_emit (s : State) (x : Out) (j : Nat) : (s.emit x).num j = s.num j := by
  unfold State.num State.pdGet; simp
@[simp] theorem State.rows_emit (s : State) (x : Out) (j : Nat) : (s.emit x).rows j = s.rows j := by
  unfold State.rows State.pdGet; simp
@[simp] theorem State.pdGet_emit (s : State) (x : Out) (j : Nat) : (s.emit x).pdGet j = s.pdGet j := by
  unfold State.pdGet; simp
@[simp] theorem State.dictOk_emit (s : State) (x : Out) : (s.emit x).dictOk = s.dictOk := by unfold State.dictOk; simp
@[simp] theorem State.num_emits (s : State) (x : List Out) (j : Nat) : (s.emits x).num j = s.num j := by
  unfold State.num State.pdGet; simp
@[simp] theorem State.rows_emits (s : State) (x : List Out) (j : Nat) : (s.emits x).rows j = s.rows j := by
  unfold State.rows State.pdGet; simp
@[simp] theorem State.pdGet_emits (s : State) (x : List Out) (j : Nat) : (s.emits x).pdGet j = s.pdGet j := by
  unfold State.pdGet; simp
@[simp] theorem State.dictOk_emits (s : State) (x : List Out) : (s.emits x).dictOk = s.dictOk := by unfold State.dictOk; simp
@[simp] theorem State.num_write (s : State) (st a : Nat) (b : List Byte) (j : Nat) : (s.write st a b).num j = s.num j := by
  unfold State.num State.pdGet; simp
@[simp] theorem State.rows_write (s : State) (st a : Nat) (b : List Byte) (j : Nat) : (s.write st a b).rows j = s.rows j := by
  unfold State.rows State.pdGet; simp
@[simp] theorem State.pdGet_write (s : State) (st a : Nat) (b : List Byte) (j : Nat) : (s.write st a b).pdGet j = s.pdGet j := by
  unfold State.pdGet; simp
@[simp] theorem State.dictOk_write (s : State) (st a : Nat) (b : List Byte) : (s.write st a b).dictOk = s.dictOk := by unfold State.dictOk; simp
@[simp] theorem State.num_setEp (s : State) (i : Ep) (e : Endpoint) (j : Nat) : (s.setEp i e).num j = s.num j := by
  unfold State.num State.pdGet; simp
@[simp] theorem State.rows_setEp (s : State) (i : Ep) (e : Endpoint) (j : Nat) : (s.setEp i e).rows j = s.rows j := by
  unfold State.rows State.pdGet; simp
@[simp] theorem State.pdGet_setEp (s : State) (i : Ep) (e : Endpoint) (j : Nat) : (s.setEp i e).pdGet j = s.pdGet j := by
  unfold State.pdGet; simp
@[simp] theorem State.dictOk_setEp (s : State) (i : Ep) (e : Endpoint) : (s.setEp i e).dictOk = s.dictOk := by unfold State.dictOk; simp
@[simp] theorem State.num_cause (s : State) (k : Nat) (j : Nat) : (s.cause k).num j = s.num j := by
  unfold State.num State.pdGet; simp
@[simp] theorem State.rows_cause (s : State) (k : Nat) (j : Nat) : (s.cause k).rows j = s.rows j := by
  unfold State.rows State.pdGet; simp
@[simp] theorem State.pdGet_cause (s : State) (k : Nat) (j : Nat) : (s.cause k).pdGet j = s.pdGet j := by
  unfold State.pdGet; simp
@[simp] theorem State.dictOk_cause (s : State) (k : Nat) : (s.cause k).dictOk = s.dictOk := by unfold State.dictOk; simp
@[simp] theorem State.num_enter (s : State) (m : Mode) (j : Nat) : (s.enter m).num j = s.num j := by
  unfold State.num State.pdGet; simp
@[simp] theorem State.rows_enter (s : State) (m : Mode) (j : Nat) : (s.enter m).rows j = s.rows j := by
  unfold State.rows State.pdGet; simp
@[simp] theorem State.pdGet_enter (s : State) (m : Mode) (j : Nat) : (s.enter m).pdGet j = s.pdGet j := by
  unfold State.pdGet; simp
@[simp] theorem State.dictOk_enter (s : State) (m : Mode) : (s.enter m).dictOk = s.dictOk := by unfold State.dictOk; simp

/-- The mode a module takes. -/
@[simp] theorem State.enter_mode (s : State) (m : Mode) : (s.enter m).mode = m := by
  unfold State.enter; dsimp only; split <;> simp
@[simp] theorem State.enter_ready (s : State) (m : Mode) : (s.enter m).ready = m.readyPin s.ready := by
  unfold State.enter; dsimp only; split <;> simp
@[simp] theorem State.enter_faultN (s : State) (m : Mode) : (s.enter m).faultN = m.faultPin s.faultN := by
  unfold State.enter; dsimp only; split <;> simp

/-! ## Hub time -/

theorem Course.runTo_now {c : Course} {t : Nat} (h : c.now < t) : (c.runTo t).now = t := by
  unfold Course.runTo
  rw [if_neg (by omega)]
  split <;> rfl
@[simp] theorem Course.runTo_segs (c : Course) (t : Nat) : (c.runTo t).segs = c.segs := by
  unfold Course.runTo
  split
  · rfl
  · split <;> rfl
@[simp] theorem Course.runTo_st (c : Course) (t : Nat) : (c.runTo t).st = c.st := by
  unfold Course.runTo
  split
  · rfl
  · split <;> rfl
@[simp] theorem Course.runTo_judged (c : Course) (t : Nat) : (c.runTo t).judged = c.judged := by
  unfold Course.runTo
  split
  · rfl
  · split <;> rfl
@[simp] theorem Course.runTo_lastUsed (c : Course) (t : Nat) : (c.runTo t).lastUsed = c.lastUsed := by
  unfold Course.runTo
  split
  · rfl
  · split <;> rfl
@[simp] theorem Course.runTo_period (c : Course) (t : Nat) : (c.runTo t).period = c.period := by
  unfold Course.runTo
  split
  · rfl
  · split <;> rfl
@[simp] theorem Course.runTo_configured (c : Course) (t : Nat) : (c.runTo t).configured = c.configured := by
  unfold Course.runTo
  split
  · rfl
  · split <;> rfl
@[simp] theorem Course.runTo_master (c : Course) (t : Nat) : (c.runTo t).master = c.master := by
  unfold Course.runTo
  split
  · rfl
  · split <;> rfl

theorem State.wrapped_course (s : State) (n : Nat) : (s.wrapped n).course = s.course := by
  unfold State.wrapped
  split
  · rfl
  · dsimp only
    split
    · split <;> rfl
    · rfl
@[simp] theorem State.runTo_course (s : State) (t : Nat) : (s.runTo t).course = s.course.runTo t := by
  unfold State.runTo
  rw [State.wrapped_course]

end Sys2Proof.Machine
end

