-- ==== Sys2Proof/WellFormed.lean ====
section
/-! DEFINITION. WellFormed.lean: what a command's operands must be like to be something that can happen to the block. The meanings are total
and do not assume it; it names the shapes that the spec's physical units can deliver. -/
namespace Sys2Proof

/-- A STRIKE delivers one code and one over-range bit for each of the 536 bit-columns of one of the module's 16,384 cells. -/
def strikeOk (cell : Nat) (codes : List Byte) (overs : List Bool) : Bool :=
  cell < 16384 && codes.length = 536 && overs.length = 536

/-- A row of a cell is one of 256, and each read-back names bit-columns of the 536. -/
def rowWriteOk (cell row : Nat) (wrong : List (List Nat)) : Bool :=
  cell < 16384 && row < 256 && wrong.all fun l => l.all (· < 536)

/-- A Kenlink flit is 256 bytes (R359). -/
def flitOk (bytes : List Byte) : Bool := bytes.length = 256

/-- A BAR0 access is 4 or 8 bytes, naturally aligned, in the 16 MiB of BAR0 (R386, R387). -/
def bar0Ok (offset size : Nat) : Bool := (size = 4 || size = 8) && offset % size = 0 && offset < 0x1000000

/-- The shape checks, command by command; every command without one is well formed. -/
def Instr.wf : Instr → Bool
  | .strike c k o => strikeOk c k o
  | .weightWrite c r w => rowWriteOk c r w
  | .digitalSubstitution c => c < 16384
  | .residentProbeSet c ks => c < 16384 && ks.all fun k => k.length = 536
  | .dataFlit _ b _ _ | .idleFlit _ b _ _ | .identityFlit _ b _ _ => flitOk b
  | .doorbell _ a n _ => bar0Ok a n
  | .bar0Write _ a n _ => bar0Ok a n
  | .patrolScrub st _ _ => st < 31
  | .audit d b _ => d < 16 && b < 128
  | _ => true

end Sys2Proof
end

