-- ==== Sys2Proof/Tests/Slice0.lean ====
section
/-! SUPPORT. Tests/Slice0.lean: small tests of single steps and of the encodings the spec writes out, and for each statement of
Certificates/Slice0/Obligations.lean a state and operands that meet its hypotheses. -/
namespace Sys2Proof.Tests
open Sys2Proof Sys2Proof.Machine
set_option Elab.async false

/-! ## Well-formedness: an ill-formed term for each check -/

theorem test_wf_strike_short : (Instr.strike 0 (List.replicate 535 0) (List.replicate 536 false)).wf = false := by decide +kernel
theorem test_wf_strike : (Instr.strike 16383 (List.replicate 536 0) (List.replicate 536 false)).wf = true := by decide +kernel
theorem test_wf_weightWrite_row : (Instr.weightWrite 0 256 []).wf = false := by decide
theorem test_wf_weightWrite_column : (Instr.weightWrite 0 255 [[536]]).wf = false := by decide
theorem test_wf_digitalSubstitution : (Instr.digitalSubstitution 16384).wf = false := by decide
theorem test_wf_residentProbeSet : (Instr.residentProbeSet 0 [[0]]).wf = false := by decide
theorem test_wf_dataFlit : (Instr.dataFlit 0 (List.replicate 255 0) true 0).wf = false := by decide +kernel
theorem test_wf_idleFlit : (Instr.idleFlit 0 (List.replicate 257 0) true 0).wf = false := by decide +kernel
theorem test_wf_identityFlit : (Instr.identityFlit 0 [] true 0).wf = false := by decide
theorem test_wf_doorbell_misaligned : (Instr.doorbell 0 4 8 0).wf = false := by decide
theorem test_wf_bar0Write_beyond : (Instr.bar0Write 0 0x1000000 4 0).wf = false := by decide
theorem test_wf_patrolScrub : (Instr.patrolScrub 31 [] []).wf = false := by decide
theorem test_wf_audit_die : (Instr.audit 16 0 .abandoned).wf = false := by decide
theorem test_wf_audit_block : (Instr.audit 15 128 .abandoned).wf = false := by decide

/-! ## The queue -/

/-- No row of the table gives bits, so no word spells a command. -/
theorem test_no_word_spells_a_command : decodeTableWord 16 0 = none ∧ State.reset.withFetchWord 16 0 = State.reset := by decide
/-- A command in front runs first and leaves the queue. -/
theorem test_step_takes_the_front : ∃ t, step { State.reset with pending := [.powerOff, .powerUp] } = .next t ∧ t.mode = .off ∧ t.pending = [.powerUp] :=
  ⟨_, rfl, rfl, rfl⟩

/-! ## States for the witnesses -/

/-- HELD, with the pins that go with it. -/
def tHeld : State := { State.reset with mode := .held, ready := true, resetN := true }
/-- RUN. -/
def tRun : State := { tHeld with mode := .run }
/-- BOOT before the loops lock. -/
def tBoot : State := { State.reset with mode := .boot, resetN := true }
/-- A course unit in LOCKED with a course of 1 ms: the increment of R44 for P = 10^6 cycles. -/
def tCourse : Course := { st := .locked, period := 65536000000, segs := [⟨0, 0, 281474977, 0, 1⟩] }
def tLocked : State := { tHeld with course := tCourse }
def tRunLocked : State := { tRun with course := tCourse }

def tPlan (st : Nat) : Plan :=
  { mode := 0, microTokens := 128, layers := [⟨4, 0, 0, 1, 0, false, false, 128, 128, 0, 0⟩], tensors := [], streams := [⟨st, true, true, false, 4, 0, 16⟩], sched := [], ckptRegion := 0, digest := [], rules := [] }
def tEvent (k : EventKind) (owner : Nat) (s : State) : State := { s with events := [⟨5, k, 1, owner⟩] }
/-- RUN with a plan of one host-fed stream and an attempt under way. -/
def tStream (st : Nat) (t : Stream) : State :=
  { tRunLocked with plan := some (tPlan st), streams := [(0, t)], step := { attempt := true }, ep0 := { linkUp := true, ready := true } }
/-- A descriptor of an OPCODE. -/
def tDesc (op : Nat) : BitVec 512 := BitVec.ofNat 512 (op * 256)
def tEntered (op : Nat) (joining : Bool) : Entered := ⟨0, tDesc op, [], false, joining⟩

/-! ## The hypotheses of the statements can be met -/

theorem test_hyp_IdleStepPassesOneHubCycle : tHeld.pending = [] ∧ tHeld.clk.refclk = true ∧ tHeld.mode ≠ .off ∧ tHeld.mode ≠ .frozen
    ∧ ({ tHeld with mode := .frozen } : State).pending = [] := by decide
theorem test_hyp_EveryStepKeepsInvariant : tHeld.Inv = true ∧ ∃ t, step tHeld = .next t := ⟨by decide, _, rfl⟩
theorem test_hyp_CommandsChangeOnlyTheirRow : tHeld.dictOk = true ∧ ∃ t, exec .powerOff tHeld = .next t := ⟨by decide, _, rfl⟩
theorem test_hyp_NothingSentIsTakenBack : ∃ t, exec .powerOff tHeld = .next t := ⟨_, rfl⟩
theorem test_hyp_FramesAreDiscardedOrAccepted : tHeld.dictOk = true ∧ tHeld.listening = true ∧ tHeld.course.master = none ∧ 2000 ≤ 2000 :=
  ⟨by decide, by decide, by decide, Nat.le_refl _⟩
/-- Frames of each kind: the levels of R39 with no transition, with a wrong check sum, of another version, and as sent. -/
theorem test_frames_of_each_kind : frameResult [] = .decodeErr
    ∧ frameResult (((frameBits 5 7).set 20 true).flatMap fun b => [!b, b]) ≠ .good ⟨5, 1, 7⟩
    ∧ frameResult ((frameBits 5 7).flatMap fun b => [!b, b]) = .good ⟨5, 1, 7⟩ := by decide +kernel
theorem test_hyp_InWindowMarkKeepsOrRegainsLock :
    let s := tLocked
    let levels := (frameBits 1 7).flatMap fun b => [!b, b]
    let ts := 1000000 + s.num PD.COURSE_IN_DELAY_NS
    let m := ts - s.num PD.COURSE_IN_DELAY_NS
    let c := s.course.runTo (ts + 9600)
    let near := (posOf c.segs m + 2 ^ 47) / 2 ^ 48
    let e : Int := (posOf c.segs m : Int) - ((near * 2 ^ 48 : Nat) : Int)
    s.dictOk = true ∧ s.listening = true ∧ s.course.master = none ∧ s.timed = true ∧ frameResult levels = .good ⟨1, 1, 7⟩
      ∧ (1 : BitVec 48) = BitVec.ofNat 48 near ∧ e.natAbs < 0x0400 * 2 ^ 32 := by decide +kernel
theorem test_hyp_SlewRemovesTheErrorExactly :
    let g : Seg := ⟨0, 0, 281474977, 4, 1000⟩
    2 ≤ g.freq ∧ 0 < g.slewN ∧ 16 * g.slewE.natAbs < g.slewN * g.freq := by decide
theorem test_hyp_EventsFireAtTheFirstCycleThatReachesThem :
    let g : Seg := ⟨0, 0, 281474977, 0, 1⟩
    (tCourse.segs = [g] ∧ g.start ≤ tCourse.now ∧ tCourse.pos = g.posAt tCourse.now ∧ 2 ≤ g.freq ∧ 0 < g.slewN ∧ g.slewN ≤ 2 ^ 46 ∧ 16 * g.slewE.natAbs < g.slewN * g.freq)
    ∧ (let s := { tLocked with events := [⟨5, .freeze, 0, 0⟩] }
       s.timed = true ∧ s.mode.hubRuns = true ∧ firstEvent s.events = some ⟨5, .freeze, 0, 0⟩) := by decide
theorem test_hyp_UnmarkedWrapsLeadToHoldover : tLocked.dictOk = true ∧ tLocked.timed = true ∧ tLocked.listening = true
    ∧ tLocked.num PD.COURSE_HOLDOVER_COUNT + 1 ≤ tLocked.num PD.COURSE_HOLDOVER_LIMIT ∧ tLocked.num PD.COURSE_HOLDOVER_COUNT + 1 < 65536 := by decide
theorem test_hyp_LossOfCourseCancelsEventsAndHolds :
    let s := tLocked.setNum PD.COURSE_HOLDOVER_COUNT (tLocked.num PD.COURSE_HOLDOVER_LIMIT)
    s.dictOk = true ∧ s.timed = true ∧ s.listening = true ∧ s.num PD.COURSE_HOLDOVER_LIMIT < s.num PD.COURSE_HOLDOVER_COUNT + 1 := by decide
theorem test_hyp_WrapIncrementsTheCourseCounter :
    let g : Seg := ⟨0, 0, 281474977, 0, 1⟩
    tLocked.timed = true ∧ tLocked.listening = true ∧ tLocked.course.segs = [g] ∧ g.start ≤ tLocked.course.now ∧ tLocked.course.pos = g.posAt tLocked.course.now
      ∧ 2 ≤ g.freq ∧ g.freq < 2 ^ 40 ∧ 0 < g.slewN ∧ g.slewN ≤ 2 ^ 46 ∧ 16 * g.slewE.natAbs < g.slewN * g.freq ∧ tLocked.course.count.toNat + 1 < 2 ^ 48 := by decide
theorem test_hyp_MasterSendsNumberedFramesAtItsPeriod :
    let s := { tLocked with course := { tCourse with master := some ⟨0, 1000000, 5⟩ } }
    s.dictOk = true ∧ s.course.master = some ⟨0, 1000000, 5⟩ ∧ s.drivesCourse = true ∧ s.course.now ≤ 5 := by decide
theorem test_hyp_QueueRefusesInOrderAndFiresTheFirst : tLocked.dictOk = true ∧ firstEvent [⟨5, .freeze, 0, 0⟩] = some ⟨5, .freeze, 0, 0⟩ := by decide
/-- The refusals of R53, each at the edge of its range. -/
theorem test_queue_edges : tLocked.evTest 0 = .past ∧ tLocked.evTest 1 = .ok ∧ tLocked.evTest (BitVec.ofNat 64 (2 ^ 40)) = .ok
    ∧ tLocked.evTest (BitVec.ofNat 64 (2 ^ 40 + 1)) = .tooFar ∧ tHeld.evTest 1 = .notLocked := by decide
theorem test_hyp_DeadlinesOfAnAttemptAct :
    let s := fun (k : EventKind) => { tRunLocked with step := { opened := true, attempt := true, due := [k] } }
    (∃ s1, (s .contribution).fireDeadline .contribution = some s1 ∧ s1.dictOk = true ∧ s1.step.attempt = true)
    ∧ (∃ s1, ((s .vote).setNum PD.VOTE_PARENT_PORT 0).fireDeadline .vote = some s1 ∧ s1.dictOk = true ∧ s1.isRoot = false ∧ s1.step.sent = false)
    ∧ (∃ s1, (s .vote).fireDeadline .vote = some s1 ∧ s1.isRoot = true ∧ s1.step.decision = none ∧ s1.timed = true ∧ s1.events.length < 1024
        ∧ (let c := s1.ceilTime + BitVec.ofNat 64 (s1.num PD.VOTE_COMMIT_LEAD); s1.ctime.toNat < c.toNat ∧ c.toNat ≤ s1.ctime.toNat + 2 ^ 24 * 65536))
    ∧ (∃ s1, (s .broadcast).fireDeadline .broadcast = some s1 ∧ s1.step.decision = none)
    ∧ (∃ s1, ({ s .gather with exch := { awaited := [⟨0, 0, 0⟩] } } : State).fireDeadline .gather = some s1 ∧ s1.exch.awaited ≠ []) := by
  refine ⟨⟨_, rfl, ?_⟩, ⟨_, rfl, ?_⟩, ⟨_, rfl, ?_⟩, ⟨_, rfl, ?_⟩, ⟨_, rfl, ?_⟩⟩ <;> decide

/-! ### Events, commit, streams, plan -/

theorem test_hyp_ScheduledEventsTakeEffectInTheirOrder :
    (let s := tEvent .swap 0 { tRunLocked with cal := { idle := .queued } }
     s.dictOk = true ∧ s.timed = true ∧ s.mode.hubRuns = true ∧ firstEvent s.events = some ⟨5, .swap, 1, 0⟩ ∧ s.cal.idle = .queued)
    ∧ (∀ m ∈ [Mode.run, .drain, .held, .armed], let s := tEvent .firmware 0 { tRunLocked with mode := m }
     s.dictOk = true ∧ s.timed = true ∧ s.mode.hubRuns = true ∧ firstEvent s.events = some ⟨5, .firmware, 1, 0⟩)
    ∧ (let s := tEvent .measure 15 (tRunLocked.setRows PD.ADC_GROUPS (List.replicate 15 [] ++ [[1]]))
     s.dictOk = true ∧ s.timed = true ∧ s.mode.hubRuns = true ∧ firstEvent s.events = some ⟨5, .measure, 1, 15⟩ ∧ s.groupCol 15 0 = 1
       ∧ (∀ r, r ∈ s.meas.running → r.1 ≠ 15) ∧ 15 ∉ s.meas.waiting ∧ s.convsFree 15 = true)
    ∧ (let s := tEvent .freeze 0 tRunLocked
     s.dictOk = true ∧ s.timed = true ∧ s.mode.hubRuns = true ∧ firstEvent s.events = some ⟨5, .freeze, 1, 0⟩ ∧ s.mode.freezes = true)
    ∧ (let s := (tEvent .freeze 0 { tRunLocked with mode := .armed }).setNum PD.EXCH_FIRST_DEADLINE 10
     s.dictOk = true ∧ s.timed = true ∧ s.mode.hubRuns = true ∧ firstEvent s.events = some ⟨5, .freeze, 1, 0⟩ ∧ s.mode = .armed
       ∧ s.num PD.EXCH_FIRST_DEADLINE < s.num PD.EXCH_PERIOD) := by decide +kernel
theorem test_hyp_DecisionsTakeEffectAtCommitTime (void : Bool) :
    let s := tEvent .commit 0 { tRunLocked with step := { opened := true, attempt := true, decision := some ⟨void, 0, 1, 0, 0, 5⟩ } }
    s.dictOk = true ∧ s.timed = true ∧ s.mode.hubRuns = true ∧ firstEvent s.events = some ⟨5, .commit, 1, 0⟩
      ∧ s.step.decision = some ⟨void, 0, 1, 0, 0, 5⟩ ∧ s.dict.waiting = none := by cases void <;> decide
/-- Dropped, without effect, stale, overrun, and taken: a doorbell with each TAIL. -/
theorem test_hyp_DoorbellsAreAppliedInTheOrderOfTheChecks :
    let s := tStream stHod { st := .idle }
    let f := tStream stHod { st := .halted }
    s.dictOk = true ∧ (s.ep 0).linkUp = true ∧ (s.ep 0).ready = true ∧ s.mode.hubRuns = true ∧ s.mode ≠ .boot ∧ s.mode ≠ .loader
      ∧ s.streamDef 0 = some ⟨stHod, true, true, false, 4, 0, 16⟩ ∧ s.streamDef 1 = none ∧ f.streamDef 0 = s.streamDef 0
      ∧ (s.stream 0).tail = 0 ∧ (f.stream 0).st = .halted ∧ (s.stream 0).failing = none
      ∧ 2 ^ 31 ≤ ((0xFFFFFFFF : W32) - 0).toNat ∧ 2 ^ 4 < ((17 : W32) - 0).toNat ∧ ((16 : W32) - 0).toNat ≤ 2 ^ 4 := by decide +kernel
theorem test_hyp_DescriptorsFailWaitOrEnterInRingOrder :
    (let s := tStream stHod { st := .active, tail := 1 }
     s.dictOk = true ∧ s.streamDef 0 = some ⟨stHod, true, true, false, 4, 0, 16⟩ ∧ s.mode = .run ∧ s.step.attempt = true ∧ s.step.deadlinePassed = false
       ∧ (s.stream 0).st = .active ∧ (s.stream 0).failing = none ∧ (0 : W32) ≠ (s.stream 0).tail
       ∧ s.entryCheck 0 ⟨stHod, true, true, false, 4, 0, 16⟩ 0 (s.readSlot 0 ⟨stHod, true, true, false, 4, 0, 16⟩ 0) ≠ 0)
    ∧ (let s := tStream stHod { st := .blocked, tail := 1, front := some (BitVec.ofNat 512 (256 + 2 ^ 24 + 2 ^ 384)) }
       let d := descOf (BitVec.ofNat 512 (256 + 2 ^ 24 + 2 ^ 384))
       s.waitsOn 0 (s.stream 0) 0 d = some 0)
    ∧ (let s := tStream stHod { st := .active, tail := 1, front := some (tDesc 1) }
       let d := descOf (tDesc 1)
       s.waitsOn 0 (s.stream 0) 0 d = none ∧ s.forwardReady = true ∧ s.arrayWork stHod d = false ∧ s.poolFor stHod d = 0) := by decide +kernel
theorem test_hyp_DescriptorsCompleteInRingOrder :
    (∀ x ∈ [(stGrout, 0), (stHod, 0x21)], let s := tStream x.1 { st := .active, tail := 1, entered := [tEntered 1 false] }
     let df : StreamDef := ⟨x.1, true, true, false, 4, 0, 16⟩
     s.streamDef 0 = some df ∧ s.mode = .run ∧ s.step.deadlinePassed = false ∧ (s.stream 0).st = .active ∧ (s.stream 0).entered = [tEntered 1 false]
       ∧ s.holdsBack df (tEntered 1 false) [] = false ∧ (s.runDesc 0 df (tEntered 1 false) []).2.joining = false ∧ (s.runDesc 0 df (tEntered 1 false) []).2.status = x.2)
    ∧ (let df : StreamDef := ⟨stFwd, true, true, false, 4, 0, 16⟩
     let pl : Placement := ⟨1, [], [], [], [], [], 0, [], [(0, stStack 0, 0)], 0⟩
     let s := { tStream stFwd { st := .active, tail := 1, entered := [tEntered 1 true] } with place := some pl }
     s.holdsBack df (tEntered 1 true) [] = false ∧ (tEntered 1 true).joining = true ∧ df.hostFed = true ∧ s.place = some pl
       ∧ (pl.rings.find? fun r => r.1 = 0) = some (0, stStack 0, 0) ∧ s.memOk = true) := by decide +kernel
theorem test_hyp_HaltsAndResumesActOnTheFailingDescriptor :
    (let s := tStream stHod { st := .active, tail := 1, failing := some ⟨0, 0x30, 0⟩ }
     s.dictOk = true ∧ (s.stream 0).failing = some ⟨0, 0x30, 0⟩ ∧ (s.stream 0).entered = [] ∧ (s.stream 0).st ≠ .paused)
    ∧ (∀ st ∈ [StreamState.halted, .idle, .blocked, .paused, .active], let s := tStream stHod { st := st, tail := 1, error := 0x30 }
     s.dictOk = true ∧ s.mode.hubRuns = true ∧ s.mode ≠ .boot ∧ s.mode ≠ .calibrate ∧ s.streamDef 0 = some ⟨stHod, true, true, false, 4, 0, 16⟩
       ∧ (s.stream 0).st = st ∧ s.streamDef 1 = none)
    ∧ (let s := tStream stHod { st := .active, tail := 1, entered := [tEntered 1 false] }
     s.dictOk = true ∧ s.streamDef 0 = some ⟨stHod, true, true, false, 4, 0, 16⟩ ∧ (s.stream 0).entered = [tEntered 1 false] ∧ s.mode = .run) := by decide +kernel
theorem test_hyp_PlansLoadOnlyInHeldAndEndLoadedOrFailed :
    (tHeld.dictOk = true ∧ tHeld.mode.hubRuns = true ∧ tHeld.mode = .held ∧ tHeld.num PD.PLAN_STATUS ≠ 1)
    ∧ (tRun.dictOk = true ∧ tRun.mode.hubRuns = true ∧ tRun.mode ≠ .held ∧ tRun.num PD.PLAN_STATUS ≠ 1)
    ∧ (tHeld.setNum PD.PLAN_STATUS 1).num PD.PLAN_STATUS = 1 ∧ (tHeld.setNum PD.PLAN_STATUS 1).dictOk = true
    ∧ (let s := { tHeld with loading := some (some (tPlan stHod), []) }
       s.loading = some (some (tPlan stHod), []) ∧ (({ s with loading := none } : State).makePlacement (tPlan stHod) 1).isOk = true)
    ∧ (let s := { tHeld with loading := some (none, [⟨7, 0, 3⟩]) }
       s.dictOk = true ∧ s.loading = some (none, [⟨7, 0, 3⟩])) := by decide +kernel

/-! ### Arrays, calibration, history, joints, backward -/

/-- A matmul layer of 1 x 256 W4, placed on one cell in two column slices. -/
def tArrPlan : Plan :=
  { mode := 0, microTokens := 128, layers := [⟨1, 0x18, 0x02, 1, 0, false, false, 128, 256, 0, 0⟩], tensors := [⟨5, 1, 4, 0, false, 0, 1, 1, 0⟩],
    streams := [⟨stFwd, true, true, false, 4, 0, 16⟩], sched := [], ckptRegion := 0, digest := [], rules := [] }
def tArrPlace (fmt : Nat) (more : Bool) : Placement :=
  { mode := 2, layers := [⟨0, 0, fmt, 2, 1, 1, 1, [⟨0, 0, 0, 0, [0]⟩, ⟨0, 1, 1, 0, [0]⟩]⟩], stations := [], homes := [], updDie := [], ckpts := [], ckptK := 0,
    sequence := [⟨0, 0, 0, 0, false⟩] ++ (if more then [⟨0, 0, 0, 1, false⟩] else []), rings := [], triggers := 0 }
/-- RUN with an attempt, the layer placed, and a forward descriptor of its whole input at the head of the stream. -/
def tArr (fmt : Nat) (more : Bool) (op : Option ArrayOp) : State :=
  { tRunLocked with plan := some tArrPlan, place := some (tArrPlace fmt more), step := { attempt := true }, arrays := { op := op },
                    streams := [(0, { st := .active, tail := 1, entered := [⟨0, BitVec.ofNat 512 (0x100 + 2 ^ 288 * 128 + 2 ^ 256 + 5 * 2 ^ 64), [], false, false⟩] })],
                    backward := { forward := [⟨0, 0, 0, BitVec.ofNat 512 (0x200 + 2 ^ 288 * 128 + 2 ^ 256 + 5 * 2 ^ 64), 0⟩] } }

theorem test_hyp_PlacementsComeIntoForce :
    let s := { tHeld with plan := some (tPlan stHod), place := some (tArrPlace 0x18 false), placeDue := 1 }
    let f := s.setNum PD.CKPT_BUDGET_PCT 0
    let due := fun (s : State) => ({ s.retireDue with triggers := s.triggers, placeDue := 0 } : State)
    (s.dictOk = true ∧ s.mode.hubRuns = true ∧ s.placeDue ≠ 0 ∧ s.step.opened = false ∧ s.step.updating = false ∧ s.step.writing = false
      ∧ s.plan = some (tPlan stHod) ∧ s.place = some (tArrPlace 0x18 false) ∧ ((due s).makePlacement (tPlan stHod) 1).isOk = true)
    ∧ f.dictOk = true ∧ ((due f).makePlacement (tPlan stHod) 1).isOk = false := by decide +kernel
theorem test_hyp_OperationsStart :
    let o : SeqOp := ⟨0, 0, 0, 0, false⟩
    let w := { tArr 0x18 false none with arrays := { loaded := [(0, loadKey 0 0 0 0x18)] } }
    let s := { w with arrays := { w.arrays with writes := [(0, 1023)] } }
    let X := fun (s : State) => ({ s with arrays := { s.arrays with seqPos := 0 } } : State).scoutFor o
    (s.mode = .run ∧ s.step.attempt = true ∧ s.step.deadlinePassed = false ∧ s.arrays.op = none ∧ s.forwardReady = true ∧ s.nextOp = some (0, o)
      ∧ (X s).onArrays 0 = true ∧ ((X s).load o 0).loadDone o = false)
    ∧ w.nextOp = some (0, o) ∧ (X w).onArrays 0 = true ∧ ((X w).load o 0).loadDone o = true := by decide +kernel
theorem test_hyp_OperationsEnd :
    let a : ArrayOp := ⟨0, 0, 0, 0, false, 0⟩
    let r : ArrayOp := { a with recompute := true }
    let s := fun (fmt : Nat) (more : Bool) (a : ArrayOp) => tArr fmt more (some a)
    let meets := fun (s : State) (a : ArrayOp) => s.dictOk = true ∧ s.arrays.op = some a ∧ (s.opPlace a.seq).isSome = true ∧ (s.layer a.layer).isSome = true
      ∧ (s.opCells a.seq).all (fun g => (s.cell g).todo.isEmpty) = true ∧ s.opCovered a.seq = true
    let parts := fun (s : State) => ((s.layer 0).bind fun l => (s.opPlace a.seq).map fun p => partsOf l p (s.wFormat 0)).getD 0
    let more := fun (s : State) (a : ArrayOp) => (s.opsFrom (s.arrays.seqPos + 1)).head?.any fun n => n.2.layer = a.layer && n.2.micro = a.micro && n.2.recompute == a.recompute
    (let w := s 0x19 false a
     let w := { w with arrays := { w.arrays with loaded := [(0, loadKey 0 0 1 0x18)] } }
     meets w a ∧ parts w = 2 ∧ (w.load a.seq 1).loadDone a.seq = true)
    ∧ (meets (s 0x18 true a) a ∧ parts (s 0x18 true a) = 1 ∧ more (s 0x18 true a) a = true)
    ∧ (meets (s 0x18 false r) r ∧ parts (s 0x18 false r) = 1 ∧ more (s 0x18 false r) r = false)
    ∧ (meets (s 0x18 false a) a ∧ more (s 0x18 false a) a = false) := by decide +kernel
/-- A Plumb check below the warm-up gives no event; one past it rests on a free sum (log 7). -/
theorem test_hyp_OperationsEndPlumb : ((tArr 0x18 false (some ⟨0, 0, 0, 0, false, 0⟩)).opPlumb ⟨0, 0, 0, 0, false⟩).1 = false := by decide +kernel

def tStrike (rows : Nat) (retried digital : Bool) : StrikePos := ⟨0, 0, 0, 0, rows, 0, false, retried, false, digital⟩
def tStruck (h : StrikePos) : State := { tArr 0x18 false (some ⟨0, 0, 0, 0, false, 0⟩) with cells := [(0, { todo := [h] })] }
theorem test_hyp_StrikesAreAcceptedReplayedOrRetried :
    (∀ x ∈ [(256, false), (64, false), (64, true)], let h := tStrike x.1 x.2 false
     let s := tStruck h
     s.dictOk = true ∧ s.mode = .run ∧ s.arrays.op = some ⟨0, 0, 0, 0, false, 0⟩ ∧ (s.layer 0).isSome = true ∧ (s.cellPlace ⟨0, 0, 0, 0, false, 0⟩ 0).isSome = true
       ∧ (s.struckDesc false h.stream h.index).isSome = true ∧ s.arrays.writes.any (fun w => w.1 = 0) = false ∧ (s.cell 0).todo.find? (fun h => !h.digital) = some h
       ∧ s.coinciding 0 ⟨0, 0, 0⟩ = none)
    ∧ (let h := tStrike 64 false true
       ((tStruck h).cell 0).todo.find? (fun h => h.digital) = some h ∧ ((tStruck h).bridge 0).stopped = false) := by decide +kernel
/-- Codes of an input of zeros: within the tolerance of the witnesses, at its edge, beyond it, and over range. -/
theorem test_hyp_StrikesByTheirCodes :
    let h := tStrike 64 false false
    let s := tStruck h
    let bad := fun (codes : List Byte) => (List.range 8).filter fun k => s.witTol h.rows
      < absDiff (((codes[(s.cell 0).route (528 + k)]?).map (·.toNat)).getD 0) (witnessCount h (List.replicate 64 false) k)
    let tol : Byte := BitVec.ofNat 8 (s.witTol 64)
    bad [] = [] ∧ bad (List.replicate 528 0 ++ [tol]) = [] ∧ bad (List.replicate 528 0 ++ [tol + 1]) = [0]
      ∧ (List.range 512).filter (fun t => ([] : List Bool)[(s.cell 0).route t]?.getD false) = []
      ∧ (List.range 512).filter (fun t => ([true] : List Bool)[(s.cell 0).route t]?.getD false) = [0] := by decide +kernel

def tWrite (spare : List (Nat × W16)) : State :=
  let s := tArr 0x18 false (some ⟨0, 0, 0, 0, false, 0⟩)
  { s with arrays := { s.arrays with loaded := [(0, loadKey 0 0 0 0x18)], writes := [(0, 1023)] }, cells := if spare = [] then [] else [(0, { spare := spare })] }
theorem test_hyp_WeightRowsAreVerifiedRemappedOrRetireTheCell :
    let full : List (Nat × W16) := (List.range 16).map fun k => (k, 0x4000)
    let tries := fun (s : State) (wrong : List (List Nat)) =>
      (List.range (max 1 (s.num PD.WRITE_VERIFY_LIMIT))).map fun i => (s.cell 0).wrongIn ((wrong[i]?).getD [])
    let remaps := fun (s : State) (wrong : List (List Nat)) =>
      (tries s wrong).flatten.eraseDups.foldl (fun (x : Option Cell) b => x.bind (·.remap b)) (some (s.cell 0))
    (∀ s ∈ [tWrite [], tWrite full], s.dictOk = true ∧ s.mode.working = true ∧ (0, 1023) ∈ s.arrays.writes ∧ (s.cell 0).runs = []
      ∧ (s.cell 0).todo.all (fun h => !h.half && !h.retried && !h.digital) = true ∧ (s.loadedFor 0).isSome = true)
    ∧ (tries (tWrite []) [[511], []]).findIdx? (·.isEmpty) = some 1
    ∧ (tries (tWrite []) [[511], [511], [511]]).findIdx? (·.isEmpty) = none ∧ (remaps (tWrite []) [[511], [511], [511]]).isSome = true
    ∧ (tries (tWrite full) [[511], [511], [511]]).findIdx? (·.isEmpty) = none ∧ remaps (tWrite full) [[511], [511], [511]] = none := by decide +kernel

theorem test_hyp_CalibrationRunsWaveByWave :
    (tHeld.dictOk = true ∧ tHeld.mode.hubRuns = true ∧ tHeld.mode ≠ .boot ∧ tHeld.mode ≠ .calibrate ∧ tHeld.mode = .held)
    ∧ (tRun.dictOk = true ∧ tRun.mode.hubRuns = true ∧ tRun.mode ≠ .boot ∧ tRun.mode ≠ .calibrate ∧ tRun.mode ≠ .held ∧ tRun.mode = .run)
    ∧ (let s := { tHeld with mode := .drain, ready := true }
       s.mode.hubRuns = true ∧ s.mode ≠ .held ∧ s.mode ≠ .run)
    ∧ (let s := { tHeld with mode := .calibrate, cal := { wave := 7 } }
       s.mode = .calibrate ∧ s.cal.wave = (7 : Fin 8).val ∧ s.cal.wave ≠ (6 : Fin 8).val)
    ∧ (let s := { tHeld with mode := .calibrate, cal := { wave := 8 } }
       s.dictOk = true ∧ s.mode = .calibrate ∧ s.cal.wave = 8) := by decide +kernel

/-- A resident run of die 0 in which cells 0 to `n` - 1 have their probe sets. -/
def tResident (n : Nat) : State := { tHeld with cal := { dies := [(0, { running := true, done := List.range n })] } }
theorem test_hyp_TrimBanksSettle :
    (∀ st ∈ [IdleBank.settling, .settled], let s := { tHeld with cal := { idle := st } }
      s.dictOk = true ∧ s.cal.idle = st ∧ s.mode ≠ .frozen ∧ s.mode ≠ .coast ∧ s.step.opened = false)
    ∧ (let s := { tRun with cal := { idle := .settling }, step := { opened := true } }
      s.dictOk = true ∧ s.cal.idle = .settling ∧ s.mode ≠ .frozen ∧ s.mode ≠ .coast ∧ s.step.opened = true) := by decide
theorem tResident_done (n : Nat) : ((tResident n).dieCal 0).done = List.range n := rfl
/-- Cells that measure next, one of many and the last of its die; without codes no column is fitted, and none lies out of its window. -/
theorem test_hyp_TrimBanksMeasure (n : Nat) :
    let s := tResident n
    s.dictOk = true ∧ s.mode = .held ∧ (s.dieCal 0).running = true ∧ n ∉ (s.dieCal 0).done ∧ s.arrays.op.all (fun o => o.leaf ≠ 2 && o.leaf ≠ n % 16 / 8) = true
      ∧ s.arrays.writes.all (fun w => w.1 ≠ n) = true ∧ n ∉ s.faults.retiredCells ∧ n / 16 ∉ s.faults.retiredBlocks ∧ 64 ≤ s.num PD.LEVEL_F := by
  refine ⟨rfl, rfl, rfl, ?_, rfl, rfl, ?_, ?_, Nat.le_refl 64⟩
  · rw [tResident_done]; simp
  · exact List.not_mem_nil
  · exact List.not_mem_nil
theorem test_hyp_TrimBanksMeasureGrant : ((tResident 0).grant .calibration 0).1 = true ∧ ((tResident 2047).grant .calibration 0).1 = true := ⟨rfl, rfl⟩
theorem test_hyp_TrimBanksMeasureMore :
    ((List.range 8).all fun w => ((tResident 0).waveCells w).all fun g => g / 2048 ≠ 0 || (((tResident 0).dieCal 0).done ++ [0]).contains g) = false := by decide +kernel
theorem test_hyp_TrimBanksMeasureLast :
    ((List.range 8).all fun w => ((tResident 2047).waveCells w).all fun g => g / 2048 ≠ 0 || (((tResident 2047).dieCal 0).done ++ [2047]).contains g) = true := by
  simp only [tResident_done, List.all_eq_true]
  intro w _ g _
  by_cases hg : g / 2048 = 0
  · simp; omega
  · simp [hg]
theorem test_hyp_TrimBanksMeasureWithoutCodes (p : Pair) (k : Nat) (xs : List Nat) : (probeFit p k (xs.zip (([] : List (List Byte)).map fun _ => 0))).out = false := by
  simp [probeFit]
theorem test_hyp_TrimBanksPersist :
    ∀ b ∈ [false, true], let s := { tHeld with cal := { flashDue := [(7, 4, b)] } }
      s.memOk = true ∧ s.mode.maintains = true ∧ (s.cal.flashDue.find? fun x => x.1 = (7 : Fin 8).val && x.2.1 = (4 : Fin 5).val) = some (7, 4, b)
        ∧ (s.grant .calibration (16 + 7 * 5 + 4)).1 = true := by decide +kernel

def tPlanned (m : Mode) : State := { tHeld.setNum PD.PLAN_STATUS 2 with mode := m, plan := some (tPlan stHod) }
theorem test_hyp_HistoryCommands :
    (∀ m ∈ [Mode.held, .armed, .run, .drain, .fault, .calibrate], let s := tPlanned m
      s.dictOk = true ∧ s.mode.hubRuns = true ∧ s.upd.histCmd = 0 ∧ s.step.histDue = false ∧ s.planIn = true ∧ s.plan = some (tPlan stHod) ∧ s.mode = m)
    ∧ (tPlanned .fault).allDies = true ∧ ((tPlanned .fault).setNum PD.HEALTH_DIE_MASK 0xFFFFE).allDies = false
    ∧ (tHeld.planIn = false ∧ tHeld.upd.histCmd = 0 ∧ tHeld.step.histDue = false ∧ tRun.planIn = false)
    ∧ (let s := { tPlanned .run with step := { histDue := true } }
      s.dictOk = true ∧ s.mode.hubRuns = true ∧ s.step.histDue = true ∧ s.step.boundary = true ∧ s.step.opened = false ∧ s.planIn = true)
    ∧ (let s := { tPlanned .held with upd := { histCmd := 2 } }
      s.dictOk = true ∧ s.mode.hubRuns = true ∧ s.upd.histCmd ≠ 0) := by decide +kernel

/-! ### History objects, joints, recompute -/

/-- HELD with the plan of one layer and the first bytes of a history object at HIST_OFFSET. -/
def tHist (b : List Byte) : State := (tPlanned .held).writeBar2 0 b
/-- Another plan's object, and one with a wrong first word. -/
theorem test_hyp_HistoryObjectsRefused :
    let len := 128 + total ((tPlan stHod).layers.map histLen)
    let head := fun (s : State) => s.readBar2 (s.num PD.HIST_OFFSET) 128
    let mismatch := fun (s : State) => decide (sub (head s) 16 48 ≠ padTo 48 (tPlan stHod).digest ∨ bits (fieldAt (head s) 8 8) 48 16 ≠ (tPlan stHod).layers.length % 2 ^ 16)
    let bad := fun (s : State) => decide (fieldAt (head s) 0 8 ≠ 0x54534948 + 2 ^ 32 ∨ bits (fieldAt (head s) 64 8) 0 32 ≠ len ∨ bits (fieldAt (head s) 64 8) 32 32 ≠ 0
      ∨ allZero (sub (head s) 72 56) = false)
    mismatch (tHist []) = true ∧ mismatch (tHist (zeros 8 ++ le 8 (2 ^ 48))) = false ∧ bad (tHist (zeros 8 ++ le 8 (2 ^ 48))) = true := by decide +kernel
/-- The object of a plan without layers is taken. -/
theorem test_hyp_HistoryObjectTaken :
    let s := { (tHist (le 8 (0x54534948 + 2 ^ 32) ++ zeros 56 ++ le 8 128)) with plan := some { tPlan stHod with layers := [] } }
    let b := s.readBar2 (s.num PD.HIST_OFFSET) 128
    s.mode = .held ∧ s.planIn = true ∧ sub b 16 48 = padTo 48 [] ∧ bits (fieldAt b 8 8) 48 16 = 0 ∧ fieldAt b 0 8 = 0x54534948 + 2 ^ 32
      ∧ bits (fieldAt b 64 8) 0 32 = 128 ∧ bits (fieldAt b 64 8) 32 32 = 0 ∧ allZero (sub b 72 56) = true ∧ histParseAll [] (b.drop 128) = some [] := by decide +kernel

/-! ### Joints, recompute, votes, exchange records -/

/-- RUN with an attempt, and a tile of one element that waits for `n` parts. -/
def tWait (n : Nat) (exact : Bool) : JointWait := ⟨0, 1, 5, 0, 0, 0, 1, 1, 0, 0, 0, n, exact⟩
def tJoint (n : Nat) (exact : Bool) (parts : List JointPart) : State :=
  { tArr 0x18 false none with jointWaits := [tWait n exact], jointParts := parts }
theorem test_hyp_Joints :
    let part : JointPart := ⟨0, 1, 0, 0, 0, 1, 1, 0, true, []⟩
    let find := fun (s : State) => s.jointWaits.find? fun w => w.layer = 0 ∧ w.kind = (1 : Byte).toNat ∧ w.tileRow = 0 ∧ w.tileCol = 0
    let rec64 := le 8 (1 + 2 ^ 16) ++ le 8 0 ++ le 8 (64 + 2 ^ 32) ++ le 8 0 ++ zeros 32 ++ padTo 64 (elemRecord 5)
    (∀ parts ∈ [[], [part]], let s := tJoint 1 true parts
      s.mode = .run ∧ find s = some (tWait 1 true) ∧ (s.jointParts.filter (tWait 1 true).owns).length = parts.length ∧ (s.tensor 5).isSome = true)
    ∧ ((tJoint 1 true []).parseJoint rec64).isSome = true ∧ (tJoint 1 false []).parseJoint rec64 = none := by decide +kernel
/-- One segment of one layer, in the module or in host memory, whose checkpoint has landed or not. -/
def tSegment (host landed up : Bool) : State :=
  let s := tArr 0x18 false none
  { s.setRows PD.HOST_REGIONS [[1, 0, 0, 4096, 0]] with
    plan := some { tArrPlan with ckptRegion := 1 },
    place := some { tArrPlace 0x18 false with ckpts := [(0, host)] },
    backward := { prefetched := if landed then [(0, 0)] else [] },
    ep0 := { linkUp := up } }
theorem test_hyp_Recompute :
    (∀ s ∈ [tSegment true false true, tSegment true true true, tSegment false false true],
      s.dictOk = true ∧ s.mode = .run ∧ s.step.attempt = true ∧ s.step.deadlinePassed = false ∧ s.segs[0]? = some (0, 0) ∧ (0, 0) ∉ s.backward.recomputed)
    ∧ (tSegment true false true).hostCkpt 0 = true ∧ (0, 0) ∉ (tSegment true false true).backward.prefetched
    ∧ (0, 0) ∈ (tSegment true true true).backward.prefetched ∧ (tSegment false false true).hostCkpt 0 = false
    ∧ (∀ up ∈ [true, false], let s := tSegment true false up
      ((s.place.map (·.ckpts)).getD []).filter (·.2) = [(0, true)] ∧ s.ckptsAhead < s.num PD.CKPT_PREFETCH_DEPTH
        ∧ s.hostReachable ((s.plan.map (·.ckptRegion)).getD 0) = up) := by decide +kernel

/-- RUN with an open step: a root or a node with parent port 0, children on ports 1 and 2, its verdict formed or not. -/
def tVote (root formed : Bool) (decision : Option Decision) (children : List Verdict) : State :=
  ({ tRunLocked with step := { opened := true, attempt := true, deadlinePassed := true, verdictFormed := formed, decision := decision, children := children } }.setNum PD.VOTE_CHILD_MASK 6).setNum
    PD.VOTE_PARENT_PORT (if root then 0xFF else 0)
def tVoteMsg (kind time : Nat) (void : Bool) : List Byte := Vote.bytes ⟨kind, 0, tRunLocked.num PD.STEP_NUMBER, void, b2n void, 1, 0, 0, time⟩
theorem test_hyp_VerdictsOfThisModule :
    (tRun.mode.commands = true ∧ tRun.step.opened = false ∧ tRun.dictOk = true)
    ∧ (∀ root ∈ [true, false], let s := tVote root false none []
      s.dictOk = true ∧ s.mode.commands = true ∧ s.step.opened = true ∧ ¬ (s.isRoot = true ∧ s.step.verdictFormed = true) ∧ s.step.attempt = true
        ∧ s.mode = .run ∧ s.step.verdictFormed = false ∧ s.reduceEnded = true ∧ s.isRoot = root)
    ∧ ({ tRun with step := { attempt := true } } : State).reduceEnded = false
    ∧ (∀ root ∈ [true, false], let s := tVote root true none []
      s.dictOk = true ∧ s.step.attempt = true ∧ s.step.verdictFormed = true ∧ s.isRoot = root ∧ s.step.decision = none ∧ s.anyVoid = false
        ∧ (s.setNum PD.VOTE_DOMAIN_SIZE 2).covered < (s.setNum PD.VOTE_DOMAIN_SIZE 2).num PD.VOTE_DOMAIN_SIZE ∧ s.num PD.VOTE_DOMAIN_SIZE ≤ s.covered
        ∧ s.evTest (s.ceilTime + BitVec.ofNat 64 (s.num PD.VOTE_COMMIT_LEAD)) = .ok)
    ∧ (tVote true true none [⟨1, true, 1, 1, 0, 0⟩]).anyVoid = true := by decide +kernel
theorem test_hyp_VoteMessages :
    (∀ sent ∈ [true, false], let s := tVote true true (if sent then some ⟨true, 1, 1, 0, 0, 5⟩ else none) []
      let msg := tVoteMsg 1 0 true
      s.mode.hubRuns = true ∧ (s.voteFor msg).map (·.kind) = some 1 ∧ (s.voteFor msg).map (·.time) = some 0 ∧ s.logicalOf (1 : Port).val = some 1 ∧ 1 ∈ s.childPorts
        ∧ s.step.children.all (fun c => c.port ≠ 1) = true ∧ (if s.isRoot then s.step.decision.isSome else s.step.sent) = sent)
    ∧ ((tVote true true none []).voteFor [] = none ∧ (tVote true true none []).logicalOf (0 : Port).val = some 0 ∧ 0 ∉ (tVote true true none []).childPorts)
    ∧ (∀ x ∈ [(5, true), (0, false)], let s := tVote false true none []
      let msg := tVoteMsg 2 x.1 false
      (s.voteFor msg).map (·.kind) = some 2 ∧ (s.voteFor msg).map (·.time) = some x.1 ∧ s.logicalOf (0 : Port).val = some 0 ∧ s.isRoot = false
        ∧ 0 = s.num PD.VOTE_PARENT_PORT ∧ s.step.decision = none ∧ decide (s.evTest (BitVec.ofNat 64 x.1) = .ok) = x.2) := by decide +kernel

/-- A plan of one exchanged layer of one weight, which this module owns. -/
def tExchPlan : Plan :=
  { mode := 0, microTokens := 128, layers := [⟨6, 0x18, 0x02, 1, 0, false, false, 1, 1, 9, 0⟩], tensors := [⟨9, 0x18, 1, 0, false, 0, 1, 1, 0⟩],
    streams := [], sched := [], ckptRegion := 0, digest := [], rules := [] }
def tExch (late : Bool) : State :=
  ((tRunLocked.setRows PD.STAGE_TABLE [[9, 1, 0, 0, 0]]).setNum PD.STEP_NUMBER 1) |> fun s =>
  { s with plan := some tExchPlan, step := { attempt := true, contribution := 5, deadlinePassed := late, phaseTable := [[1, 0, 1]] }, exch := { sentLayers := [0] } }
/-- A header of the attempt under way, or of the one just committed. -/
def tHdr (kind elements attempt : Nat) : XHdr :=
  { kind := kind, attempt := attempt, layer := 0, step := 1, sender := 0, elements := elements, tensor := if kind = 7 then 9 else 0, tile := if kind = 8 then 1 else 0 }
/-- An empty record, a record of each kind of its attempt, and the same of another attempt. -/
theorem test_hyp_RecordsParse :
    XHdr.parse [] ((tExch false).num PD.EXCH_SIZE) = none
    ∧ ∀ k ∈ [6, 8, 9, 3, 4, 5], XHdr.parse (XHdr.record (tHdr k 0 0) []) 1 = some (tHdr k 0 0, []) ∧ (tHdr k 0 0).kind = fieldAt (XHdr.record (tHdr k 0 0) []) 1 1 := by
  decide +kernel

/-! ### Exchange records, continued -/

theorem test_hyp_RecordsFresh :
    (∀ k ∈ [1, 2, 6, 7, 8, 9, 3, 4, 5, 10, 11], (tExch false).fresh? (tHdr k 0 0) = true ∧ (tExch false).fresh? (tHdr k 0 1) = false)
    ∧ (tExch false).dictOk = true ∧ (tExch false).mode.hubRuns = true ∧ (tExch true).late = true ∧ (tExch false).late = false
    ∧ (tExch false).exch.excluded.contains 0 = false ∧ (tHdr 2 0 0).excl = false
    ∧ ({ tExch false with step := { phaseTable := [[1, 0, 1]] } } : State).lastCommit = some ((tHdr 8 0 0).step, (tHdr 8 0 0).attempt)
    ∧ ({ tExch false with step := { phaseTable := [[1, 0, 1]] } } : State).fresh? (tHdr 8 0 0) = false := by decide +kernel
/-- SPARSE records of a finite value and of an infinity, under each policy. -/
theorem test_hyp_ContributionsByTheirValues :
    let body := fun (v : Nat) => padTo 64 (le 8 0 ++ le 4 v)
    (∀ v ∈ [0x3F800000, 0x7F800000], XHdr.parse (XHdr.record (tHdr 2 1 0) (body v)) 1 = some (tHdr 2 1 0, body v))
    ∧ (bodyValues 2 1 (body 0x3F800000)).all f32Finite = true ∧ (bodyValues 2 1 (body 0x7F800000)).all f32Finite = false
    ∧ (tExch false).num PD.EXCH_POLICY ≠ 1 ∧ ((tExch false).setNum PD.EXCH_POLICY 1).num PD.EXCH_POLICY = 1 ∧ (tExch false).step.attempt = true := by decide +kernel
/-- A tile of two-bit codes, all zero: the shortest there is. -/
def tTile : List Byte := le 8 (0x1B00 + 2 ^ 16 + 2 ^ 24) ++ List.replicate (tileSize 0x1B - 8) 0
theorem test_hyp_StagedTiles :
    (tExch false).tensor 9 = some ⟨9, 0x18, 1, 0, false, 0, 1, 1, 0⟩ ∧ (tHdr 7 1 0).tile < 1
      ∧ ((tExch false).rows PD.STAGE_TABLE).any (fun r => r.headD 0 = 9 && r.getD 1 0 = 1) = true := by decide +kernel
theorem test_hyp_StagedTileBody : bodyTiles 1 tTile = some [tTile] := by
  have h1 : (hdrOf tTile).format = 0x1B := by decide +kernel
  have h2 : tTile.length = tileSize 0x1B := by
    unfold tTile
    rw [List.length_append, List.length_replicate]
    decide
  have h3 : fmtValid 0x1B = true := by decide
  have h4 : tTile.drop (tileSize 0x1B) = [] := List.drop_eq_nil_of_le (Nat.le_of_eq h2)
  have h5 : tTile.take (tileSize 0x1B) = tTile := List.take_of_length_le (Nat.le_of_eq h2)
  unfold bodyTiles
  simp only [h1]
  rw [if_neg (by rw [h2]; decide), h4, h5]
  rfl
theorem test_hyp_GatheredPanes :
    (tExch false).layer 0 = some ⟨6, 0x18, 0x02, 1, 0, false, false, 1, 1, 9, 0⟩ ∧ bodyTiles 0 [] = some [] ∧ ((tExch false).ownTensor 0 1).isSome = true
      ∧ ((tExch false).tensor 9).isSome = true ∧ ((tExch false).owners.find? fun p => p.1.layer = 0 ∧ p.1.pane = 0) = some (⟨0, 0, 1, 1⟩, 0) := by decide +kernel

/-- The same in bond mode, with a shard of its own, an own delta and the pane's state. -/
def tBond : State :=
  { (tExch false).setRows PD.WIRING_PLAN (List.replicate 11 [0, 0, 0, 0] ++ [[1, 1, 0, 0]]) with
    exch := { shards := [⟨0, 0, [0x3F800000], []⟩], ownDeltas := [⟨0, 0, [0x3F800000], []⟩] },
    upd := { panes := [⟨0, 0, 1, 1, 2, 0, [0], [0], [0], [], [], none, none, 0, []⟩] } }
/-- Twin records carry one tile of 65,536 bytes. -/
def tTwinBody (v : Nat) : List Byte := le 4 v ++ List.replicate 65532 0
theorem test_hyp_TwinRecords :
    tBond.dictOk = true ∧ tBond.mode.hubRuns = true ∧ tBond.bonded = true ∧ tBond.ownedRef 0 0 = some ⟨0, 0, 1, 1⟩
      ∧ tBond.exch.twinShards.any (fun t => t.layer = 0 && t.pane = 0) = false
      ∧ (tBond.exch.shards.find? fun o => o.layer = 0 ∧ o.pane = 0) = some ⟨0, 0, [0x3F800000], []⟩ ∧ tBond.exch.ratios.any (fun r => r.1 = 0 && r.2.1 = 0) = false
      ∧ (tBond.exch.ownDeltas.find? fun d => d.layer = 0 && d.pane = 0) = some ⟨0, 0, [0x3F800000], []⟩ ∧ (tBond.findPane 0 0).isSome = true
      ∧ paneValues ⟨0, 0, 1, 1⟩ (tHdr 10 1 0) (tTwinBody 0x3F800000) = some [0x3F800000] := by decide +kernel
/-- The twins' gradients agree, or differ by more than the band. -/
theorem test_hyp_TwinsAgreeOrDisagree :
    let limit := FV.max (tBond.fv PD.BOND_BAND_FLOOR) (mul64 (tBond.fv PD.BOND_BAND_FACTOR) tBond.rbar)
    limit.lt (twinRatio [0x3F800000] [0x3F800000]) = false ∧ limit.lt (twinRatio [0x3F800000] [0x40000000]) = true
      ∧ tBond.step.attempt = true ∧ tBond.exch.contested = [] ∧ (tBond.twinDelta 0 0 [0x3F800000] [0x3F800000]).isSome = true
      ∧ tBond.twinDelta 0 0 [0x3F800000] [0x7F800000] = none := by decide +kernel
def tTwinRec (k : Nat) : List Byte :=
  le 8 (1 + k * 2 ^ 8) ++ le 8 1 ++ le 8 0 ++ le 8 (2 ^ 32) ++ le 8 65536 ++ zeros 24 ++ tTwinBody 0x3F800000
theorem tTwinBody_length (v : Nat) : (tTwinBody v).length = 65536 := by
  unfold tTwinBody
  have h : (le 4 v).length = 4 := rfl
  rw [List.length_append, List.length_replicate, h]
theorem test_hyp_TwinRecordsParse (k : Nat) (hk : k = 10 ∨ k = 11) :
    XHdr.parse (tTwinRec k) 1 = some (tHdr k 1 0, tTwinBody 0x3F800000) ∧ (tHdr k 1 0).kind = fieldAt (tTwinRec k) 1 1 := by
  have hl : (tTwinRec k).length = 65600 := by
    unfold tTwinRec
    have h : (le 8 (1 + k * 2 ^ 8) ++ le 8 1 ++ le 8 0 ++ le 8 (2 ^ 32) ++ le 8 65536 ++ zeros 24).length = 64 := rfl
    rw [List.length_append, tTwinBody_length, h]
  have hd : (tTwinRec k).drop 64 = tTwinBody 0x3F800000 := by
    unfold tTwinRec
    exact List.drop_left' rfl
  have f : fieldAt (tTwinRec k) 0 8 = 1 + k * 2 ^ 8 ∧ fieldAt (tTwinRec k) 8 8 = 1 ∧ fieldAt (tTwinRec k) 16 8 = 0 ∧ fieldAt (tTwinRec k) 24 8 = 2 ^ 32
      ∧ fieldAt (tTwinRec k) 32 8 = 65536 ∧ fieldAt (tTwinRec k) 40 8 = 0 ∧ fieldAt (tTwinRec k) 48 8 = 0 ∧ fieldAt (tTwinRec k) 56 8 = 0
      ∧ fieldAt (tTwinRec k) 1 1 = k := by
    rcases hk with rfl | rfl <;> decide +kernel
  obtain ⟨f0, f1, f2, f3, f4, f5, f6, f7, fk⟩ := f
  refine ⟨?_, fk.symm⟩
  rcases hk with rfl | rfl <;>
    simp [XHdr.parse, hl, hd, f0, f1, f2, f3, f4, f5, f6, f7, tTwinBody_length, bodyFits, tHdr, bits, bit]

/-! ### Update, images, memory, links -/

def tPane : Pane := ⟨0, 0, 1, 1, 1, 0, [0], [0], [0], [0], [0], none, none, 0, []⟩
theorem test_hyp_UpdateWritebackAndRootJobsEndInTurn :
    (let s := { tRun with step := { updating := true } }
     s.dictOk = true ∧ s.mode.hubRuns = true ∧ s.step.updating = true ∧ s.exch.ownDeltas = [])
    ∧ tRun.step.updating = false ∧ tRun.step.writing = false
    ∧ (∀ due ∈ [true, false], let s := { tRun with step := { writing := true }, fw := { due := due, dueCommit := due } }
     s.dictOk = true ∧ s.mode.hubRuns = true ∧ s.step.writing = true ∧ s.exch.awaited = [] ∧ s.arrays.writes = [] ∧ s.fw.due = due ∧ s.fw.dueCommit = due)
    ∧ (let j : RootJob := ⟨1, 0, 0, [0], [0], none⟩
     let s := { tRun with upd := { panes := [tPane], jobs := [j] } }
     s.step.updating = false ∧ s.step.writing = false ∧ (s.upd.jobs.find? fun j => j.die = (1 : Fin 2).val ∧ j.staged.isNone) = some j ∧ s.findPane 0 0 = some tPane)
    ∧ (tRun.upd.jobs.find? fun j => j.die = (0 : Fin 2).val ∧ j.staged.isNone) = none := by decide +kernel

/-- HELD or another mode, with a host region for pane images of `size` bytes whose endpoint is up or not. -/
def tImage (m : Mode) (size : Nat) (up : Bool) : State :=
  { (((tPlanned m).setRows PD.HOST_REGIONS [[1, 0, 0, size, 0]]).setNum PD.UPD_IMAGE_REGION 1) with upd := { panes := [tPane] }, ep0 := { linkUp := up }, plan := some tExchPlan }
theorem test_hyp_PaneImagesSaved :
    (∀ x ∈ [(Mode.held, 64, true), (.armed, 128, false), (.held, 128, true), (.run, 128, true), (.drain, 128, true)], let s := tImage x.1 x.2.1 x.2.2
      s.dictOk = true ∧ s.mode.hubRuns = true ∧ s.imageIdle = true ∧ s.planIn = true ∧ s.mode = x.1 ∧ s.regionSize (s.num PD.UPD_IMAGE_REGION) = x.2.1
        ∧ s.hostReachable (s.num PD.UPD_IMAGE_REGION) = x.2.2)
    ∧ ((tImage .held 64 true).upd.panes.flatMap fun p => p.image ((tImage .held 64 true).num PD.STEP_NUMBER - 1)).length = 128
    ∧ (tHeld.imageIdle = true ∧ tHeld.planIn = false ∧ tRun.imageIdle = true ∧ tRun.mode ≠ .held)
    ∧ (let s := { tHeld with upd := { imageCmd := 1, imageResult := 0 } }
      s.upd.imageCmd ≠ 0 ∧ s.upd.imageResult ≠ 1) := by decide +kernel
/-- Where a walk over a region ends and how many images it takes; none when it fails. -/
def tWalk (b : List Byte) : Option (Nat × Nat) :=
  let s := tImage .held 4096 true
  match (s.imageStart 2 1 (s.num PD.UPD_IMAGE_LENGTH)).imageWalk b 4096 (b.length / 64 + 1) 0 [] with
  | .ok n is => some (n, is.length)
  | .fail _ => none
/-- A region that names a pane no member owns fails, one without an image gives none, and the module's own image reads back. -/
theorem test_hyp_PaneImagesRestored :
    let s := tImage .held 4096 true
    s.imageIdle = true ∧ s.mode = .held ∧ s.planIn = true ∧ 64 ≤ s.regionSize (s.num PD.UPD_IMAGE_REGION) ∧ s.hostReachable (s.num PD.UPD_IMAGE_REGION) = true
      ∧ (tImage .held 4096 false).hostReachable 1 = false := by decide +kernel
theorem test_hyp_PaneImagesWalked : tWalk (le 8 (0x454E4150 + 2 ^ 32 + 2 ^ 48)) = none ∧ tWalk [] = some (0, 0) ∧ tWalk (tPane.image 0) = some (128, 1) := by
  decide +kernel

theorem test_hyp_TheHostWindowStoresAndReturnsEveryByteItMaps :
    (let s := { tHeld with ep0 := { linkUp := true } }
     s.memOk = true ∧ s.dictOk = true ∧ s.mode.windowOpen = true ∧ (s.ep 0).linkUp = true ∧ ([1] : List Byte) ≠ [] ∧ 2 ^ 36 - 1 + ([1] : List Byte).length ≤ 2 ^ 36
       ∧ bar2Map (2 ^ 36 - 1) = some (stStack 7, 0x1F0000000 - 1) ∧ bar2Map 0 = some (stStaging 0, 0) ∧ bar2Map 0x0C000000 = none ∧ (s.ep 1).linkUp = false)
    ∧ (let s := { tBoot with ep0 := { linkUp := true } }
     s.mode = .boot ∧ (s.ep 0).linkUp = true)
    ∧ ({ tHeld with mode := .frozen } : State).mode.windowOpen = false ∧ 2 ^ 36 < 2 ^ 36 + 1 := by decide +kernel

theorem test_hyp_Patrols :
    let e : List Byte := [1] ++ zeros 35
    tHeld.dictOk = true ∧ tHeld.mode.maintains = true ∧ (tHeld.grant .scrubbing 27).1 = true
      ∧ (let s := { tHeld with faults := { running := [⟨.scrubbing, 27, 0, false⟩] } }
         (s.grant .scrubbing 27).1 = false)
      ∧ guardResidue e = some (List.replicate 32 0, true) ∧ ([] : List Nat).contains 0 = false ∧ ([0] : List Nat).contains 0 = true
      ∧ State.reset.mode.maintains = false := by decide +kernel
/-- Two clean words with and without their check sum, one corrected symbol, a word beyond correction, at the first and the last try. -/
theorem test_hyp_Bridges :
    let word := fun (w : List Byte) => guardDecode ((padTo 36 w).map (·.toNat))
    let sum := crc32c (zeros 64)
    (word [] = .clean ∧ crc32c ((padTo 36 []).take 32 ++ (padTo 36 []).take 32) = (BitVec.ofNat 32 sum).toNat ∧ sum ≠ (0 : W32).toNat)
    ∧ (word [1] = .corrected 0 1 ∧ crc32c (((padTo 36 [1]).set 0 ((((padTo 36 ([1] : List Byte))[0]?).getD 0) ^^^ BitVec.ofNat 8 1)).take 32 ++ (padTo 36 []).take 32) = (BitVec.ofNat 32 sum).toNat)
    ∧ word [1, 1] = .bad
    ∧ (∀ n ∈ [7, 8], let s := { tHeld with bridges := [(26, { tries := n })] }
       s.mode.hubRuns = true ∧ (s.bridge 26).stopped = false ∧ (s.bridge 26).tries = n) := by decide +kernel

def tLink (l : LinkPort) : State := { tHeld with link := { ports := [(11, l)] } }
theorem test_hyp_PortsTrainRetrainReplayAndAreDiscovered :
    (∀ l ∈ [({ st := .down } : LinkPort), { st := .training, retraining := true }, { st := .identify }, { st := .active, replay := [([], 8)] }, { st := .active, replay := [([], 9)] }],
      (tLink l).dictOk = true ∧ (tLink l).port (11 : Port).val = l ∧ (tLink l).lanesUp = true)
    ∧ ({ st := .down } : LinkPort).st.live = false ∧ ({ st := .identify } : LinkPort).st.live = true
    ∧ ([(([] : List Byte), 9)].any fun r => 9 ≤ r.2) = true ∧ ([(([] : List Byte), 8)].any fun r => 9 ≤ r.2) = false
    ∧ tHeld.mode.commands = true ∧ (let s := tHeld.setNum PD.DISCOVERY_STATE 1; s.lanesUp = true ∧ s.num PD.DISCOVERY_STATE = 1 ∧ s.dictOk = true)
    ∧ tBoot.lanesUp = false := by decide +kernel

/-! ### Flits, endpoints, mailboxes -/

def tActive : LinkPort := { st := .active }
def tData (cls : Nat) (first last : Bool) (seq : Nat) : List Byte := sealFlit (dataHead cls first last 1 tHeld.self tHeld.self 7 0) [0xAB] seq 0xFFFF
def tIdle : List Byte := sealFlit (44 * 2 ^ 9) [] 0 0xFFFF
def tIdentity (version : Nat) : List Byte := sealFlit (2 + 128 * 2 ^ 9) (le 8 version) 0 0xFFFF
def tGood (kind : Nat) (bytes : List Byte) : Bool :=
  decide (bytes.length = 256) && fieldAt bytes 252 4 = crc32c (bytes.take 252) && flitFieldsOk kind bytes
set_option maxRecDepth 20000 in
theorem test_hyp_FlitsChecked :
    (tLink tActive).dictOk = true ∧ (tLink tActive).lanesUp = true ∧ (tLink tActive).port (11 : Port).val = tActive ∧ tActive.st.live = true ∧ tActive.waiting = []
      ∧ tGood 1 [] = false ∧ tGood 0 [] = false ∧ tGood 2 [] = false
      ∧ tGood 1 (tData 5 true true 0) = true ∧ tGood 1 (tData 1 false false 1) = true ∧ tGood 0 tIdle = true ∧ tGood 2 (tIdentity 1) = true := by decide +kernel
/-- DATA in and out of sequence, for this module: a whole message, a first part, and a part whose first is missing. -/
theorem test_hyp_FlitsInSequence :
    (∀ b ∈ [tData 5 true true 0, tData 5 true false 0, tData 5 false true 0], let h := fieldAt b 0 8
      bit h 59 = false ∧ BitVec.ofNat 16 (fieldAt b 248 2) = tActive.lastRx + 1 ∧ (⟨bits h 29 1, bits h 17 6, bits h 23 6⟩ : Addr) = (tLink tActive).self)
    ∧ BitVec.ofNat 16 (fieldAt (tData 1 false false 1) 248 2) ≠ tActive.lastRx + 1
    ∧ (∀ x ∈ [(tData 5 true true 0, true, true), (tData 5 true false 0, true, false), (tData 5 false true 0, false, true)],
      bit (fieldAt x.1 0 8) 7 = x.2.1 ∧ bit (fieldAt x.1 0 8) 8 = x.2.2) ∧ (tLink tActive).link.reasm = []
    ∧ bit (fieldAt tIdle 0 8) 59 = false
    ∧ idValid (BitVec.ofNat 1024 (fieldAt (tIdentity 1) 8 128)) = true ∧ idValid (BitVec.ofNat 1024 (fieldAt (tIdentity 2) 8 128)) = false
    ∧ tActive.peer = none ∧ ((tLink tActive).setNum PD.DISCOVERY_STATE 3).num PD.DISCOVERY_STATE = 3
    ∧ (let s := { tHeld with link := { reasm := [⟨false, 0, 0, 5, 7, [1]⟩] } }
      s.dictOk = true ∧ s.lanesUp = true ∧ s.link.reasm.any (fun r => r.side = false && r.pallet = 0 && r.slot = 0 && r.cls = 5 && r.tag = 7) = true) := by decide +kernel

def tEp (d : Endpoint) : State := { tHeld with ep0 := d }
def tOpen : Endpoint := { linkUp := true, ready := true }
theorem test_hyp_EndpointRegistersClearMaskAndSendInterrupts :
    (tEp tOpen).ep 0 = tOpen ∧ (tEp tOpen).epOpen 0 = true
      ∧ (let d : Endpoint := { tOpen with pending := [2047], msix := [(2047 * 4 + 3, 0)] }
         d.pending.contains (2047 : Fin 2048).val = true ∧ d.msixOn = true)
      ∧ 0x1000 - 1 < 0x1000 ∧ 0x17FF8 % 8 = 0 ∧ 0x10000 ≤ 0x17FF8 ∧ 0x17FF8 < 0x18000
      ∧ 0xFFFFFF < 2 ^ 24 ∧ 0x101000 ≤ 0xFFFFFF ∧ bar0Mapped false 0xFFFFFF = false ∧ bar0Mapped true 0x200000 = false
      ∧ (let d : Endpoint := { tOpen with merging := [16], merged := [16], msix := [(67, 0)] }
         (tEp d).mode.hubRuns = true ∧ d.merging.contains 16 = true ∧ d.merged.contains 16 = true ∧ d.linkUp = true ∧ d.msixOn = true ∧ d.vectorMasked 16 = false)
      ∧ (let d : Endpoint := { tOpen with merging := [16] }
         d.merging.contains 16 = true ∧ d.merged.contains 16 = false) := by decide +kernel
theorem test_hyp_MailboxesQueueAndEndpointResetsTouchOneEndpoint :
    (tEp tOpen).dictOk = true ∧ (tEp tOpen).epOpen 0 = true ∧ (tEp tOpen).ep 0 = tOpen ∧ tOpen.mbox ≠ 1 ∧ ({ tOpen with mbox := 1 } : Endpoint).mbox = 1
      ∧ (32769#16).toNat > 32768 ∧ (32768#16).toNat ≤ 32768 ∧ (32768#16).toNat ≠ 0 ∧ (0#16).toNat = 0
      ∧ (let s := { tEp tOpen with dict := { answers := [(0, [1])] } }
         s.pdxUp = true ∧ (s.dict.answers.find? fun a => a.1 = 0) = some (0, [1]) ∧ s.dict.freezeAfter = false)
      ∧ (tHeld.pdxUp = true ∧ tHeld.dict.answers.any (fun a => a.1 = 0) = false ∧ tHeld.dict.queue = [])
      ∧ tOpen.perstN = true ∧ ({ perstN := false } : Endpoint).perstN = false := by decide +kernel

/-! ### The dictionary's protocol -/

/-- An unauthenticated request of an entry. -/
def tReq (key offset : Nat) (body : List Byte) : PdxReq :=
  { version := 1, reservedSet := false, auth := false, sessionId := 0, sequence := 1, index := BitVec.ofNat 16 (key / 256), sub := BitVec.ofNat 8 key,
    offset := BitVec.ofNat 32 offset, length := BitVec.ofNat 32 body.length, forward := false, tgtSide := false, tgtPallet := 0, tgtSlot := 0, body := body, trailer := [] }
theorem test_hyp_PdxReads :
    (tHeld.dictOk = true ∧ tHeld.pdxUp = true ∧ tHeld.dict.freezeAfter = false)
    ∧ (∀ op ∈ [1, 2, 3, 4, 5], tHeld.takeRequest .sgmii (reqFrame op (tReq 0x100001 0 [])) = some (false, tHeld))
    ∧ headerOk .sgmii { tReq 0x100001 0 [] with version := 2 } = false ∧ headerOk .sgmii (tReq 0x100001 0 []) = true ∧ headerOk (.mailbox 0) (tReq 0x100001 0 []) = true
    ∧ tHeld.servesOpenly .sgmii 1 (tReq 0x0FFF01 0 []) = true ∧ tHeld.servesOpenly .sgmii 1 (tReq 0x100001 0 []) = false ∧ tHeld.servesOpenly .sgmii 2 (tReq 0x0FFF01 0 []) = false
    ∧ tHeld.servesOpenly (.mailbox 0) 2 (tReq 0x100001 0 []) = true ∧ tHeld.servesOpenly .sgmii 4 (tReq 0x0FFF01 0 []) = true ∧ tHeld.servesOpenly .sgmii 5 (tReq 0x0FFF01 0 []) = true
    ∧ tHeld.sessionFor 1 { tReq 0x100001 0 [] with auth := true } = none := by decide +kernel
/-- An index without entries, a command, and a value of four bytes read past and at its end. -/
theorem test_hyp_PdxReadsOfEntries :
    tHeld.entry 0xFFFF01 = none ∧ (tHeld.entry PD.CFG_COMMIT).map (fun m => decide (4 ≤ m.cls)) = some true
      ∧ ((tHeld.entry PD.STEP_FIRST).map fun m => decide (m.cls < 4)) = some true := by decide +kernel
theorem test_hyp_PdxForwards :
    let r := { tReq 0x100001 0 [] with forward := true, tgtSlot := 5 }
    let dst : Addr := ⟨b2n r.tgtSide, r.tgtPallet.toNat, r.tgtSlot.toNat⟩
    let s := { tHeld with link := { ports := (List.range 12).map fun p => (p, tActive) } }
    s.dictOk = true ∧ s.pdxUp = true ∧ r.forward = true ∧ dst ≠ s.self ∧ headerOk .sgmii r = true ∧ s.takeRequest .sgmii (reqFrame 1 r) = some (false, s)
      ∧ s.dict.forwards.length < 64 ∧ s.reaches dst = true ∧ tHeld.reaches dst = false
      ∧ 64 ≤ (List.replicate 64 (⟨0, .sgmii, false, 0, 0, 0, 0⟩ : Forward)).length := by decide +kernel

/-! ### Writes, sessions, commits -/

theorem test_hyp_PdxReadLengths :
    ((tHeld.entry PD.STEP_FIRST).map fun m => (m.encode (tHeld.entryValue m false)).length) = some 8
      ∧ ((tHeld.entry PD.STEP_FIRST).map fun m => (m.encode (tHeld.entryValue m true)).length) = some 8
      ∧ (tReq PD.STEP_FIRST 9 []).offset.toNat = 9 ∧ (tReq PD.STEP_FIRST 8 []).offset.toNat = 8 ∧ (tReq PD.STEP_FIRST 8 []).index.toNat * 256 + (tReq PD.STEP_FIRST 8 []).sub.toNat = PD.STEP_FIRST := by decide +kernel
/-- The class of one entry of each kind, and the states that accept its writes or not. -/
theorem test_hyp_WritesByClass :
    let cls := fun (k : Nat) => (tHeld.entry k).map (·.cls)
    cls 0xFFFF01 = none ∧ cls PD.STEP_NUMBER = some 0 ∧ cls PD.CFG_APPLY_STEP = some 1 ∧ cls PD.STEP_FIRST = some 2 ∧ cls PD.UPD_LR = some 3
      ∧ cls PD.CFG_COMMIT = some 4 ∧ cls PD.OWNER_KEY = some 5 ∧ (tHeld.entry PD.ADC_GROUPS).map (·.ty) = some 14 ∧ cls PD.PMB_XFER = some 4
      ∧ (tRun.mode ≠ .held ∧ State.reset.mode.working = false ∧ ({ tHeld with mode := .coast } : State).mode = .coast)
      ∧ (∀ c ∈ [1, 2, 3, 4, 5], tHeld.classOpen c = true) := by decide +kernel
theorem test_hyp_WritesByValue :
    let value := fun (k : Nat) (b : List Byte) => (tHeld.entry k).bind fun m => m.parse b
    let fits := fun (k : Nat) (b : List Byte) => (tHeld.entry k).bind fun m => (m.parse b).map m.inRange
    value PD.CFG_APPLY_STEP (le 8 5) = some (.num 5) ∧ fits PD.CFG_APPLY_STEP (le 8 5) = some true ∧ value PD.CFG_APPLY_STEP (le 4 5) = none
      ∧ fits PD.STREAM_SELECT (le 4 262143) = some true ∧ fits PD.STREAM_SELECT (le 4 262144) = some false
      ∧ (value PD.STEP_FIRST (le 8 5)).isSome = true ∧ (value PD.CFG_COMMIT [1]).isSome = true
      ∧ tHeld.num PD.CFG_STATUS ≠ 1 ∧ (tHeld.setNum PD.CFG_STATUS 1).num PD.CFG_STATUS = 1
      ∧ ([0, 0, 0] : List Byte).length < 4 ∧ (tReq PD.PMB_XFER 0 []).body.length < 4 := by decide +kernel
theorem test_hyp_WritesTaken :
    (∀ k ∈ [PD.STEP_NUMBER, PD.ADC_GROUPS, PD.OWNER_KEY], tHeld.takeRequest .sgmii (reqFrame 3 (tReq k 0 [1])) = some (false, tHeld)) ∧ tHeld.pdxUp = true
      ∧ headerOk (.mailbox 0) (tReq PD.STEP_NUMBER 0 [1]) = true ∧ (tReq PD.STEP_NUMBER 0 [1]).auth = false ∧ tHeld.mailboxOpen (.mailbox 0) = true
      ∧ tHeld.dictOk = true ∧ tHeld.dict.freezeAfter = false ∧ PD.STEP_NUMBER ≠ PD.PDX_FRAMES ∧ PD.STEP_NUMBER ≠ PD.PDX_BAD_FRAMES ∧ PD.STEP_NUMBER ≠ PD.FLITS_NO_ROUTE := by decide +kernel
/-- Owner keys: whether 97 bytes are a point of the curve rests on a free function (log 9). -/
theorem test_hyp_OwnerKeys :
    tHeld.mode = .held ∧ tHeld.flag PD.MBOX_AUTH_REQUIRED = false ∧ tHeld.flag PD.FW_OWNER_SIG_REQUIRED = false ∧ (zeros 97).length = 97 ∧ allZero (zeros 97) = true
      ∧ ({ tHeld with dict := { ownerKey := 4 :: zeros 96 } } : State).dict.ownerKey ≠ [] ∧ tHeld.dict.ownerKey = []
      ∧ allZero (4 :: zeros 96) = false ∧ (4 :: zeros 96).length = 97 ∧ (4 :: zeros 96) ≠ tHeld.dict.ownerKey ∧ tRun.mode ≠ .held ∧ (zeros 96).length ≠ 97
      ∧ (tHeld.setNum PD.FW_OWNER_SIG_REQUIRED 1).flag PD.FW_OWNER_SIG_REQUIRED = true := by decide +kernel

/-- A session, and a request that carries its authentication tag for an operation. -/
def tSession : Session := ⟨9, .sgmii, [1], [2], 5, [3], 0⟩
def tInSession : State := { tHeld with dict := { sessions := [tSession] } }
def tTagged (op : Nat) (sequence : W64) : PdxReq :=
  let r := { tReq 0x100001 0 [] with auth := true, sessionId := 9, sequence := sequence }
  { r with trailer := padTo 48 (Config.hmac [1] (reqHead op r ++ r.body)) }
theorem test_hyp_SessionsAuthenticate (op : Nat) (q : W64) : tInSession.sessionFor op (tTagged op q) = some tSession := by
  have h : (padTo 48 (Config.hmac [1] (reqHead op { tReq 0x100001 0 [] with auth := true, sessionId := 9, sequence := q } ++ []))).length = 48 := by
    simp [padTo, zeros, List.length_take, List.length_append]
  unfold State.sessionFor
  refine List.find?_cons_of_pos ?_
  simp only [Bool.and_eq_true, decide_eq_true_eq]
  exact ⟨⟨rfl, h⟩, rfl⟩
theorem test_hyp_SessionsHeader (op : Nat) (q : W64) : headerOk .sgmii (tTagged op q) = true := by
  have h : (padTo 48 (Config.hmac [1] (reqHead op { tReq 0x100001 0 [] with auth := true, sessionId := 9, sequence := q } ++ []))).length = 48 := by
    simp [padTo, zeros, List.length_take, List.length_append]
  unfold headerOk
  simp only [Bool.and_eq_true, decide_eq_true_eq]
  exact ⟨⟨⟨⟨rfl, rfl⟩, rfl⟩, h⟩, Nat.zero_le _⟩
theorem test_hyp_SessionsOpenCloseAndForwardedRequestsAreAnswered :
    (tInSession.dictOk = true ∧ tInSession.pdxUp = true ∧ tInSession.dict.freezeAfter = false)
    ∧ (∀ q, tInSession.takeRequest .sgmii (reqFrame 0x11 (tTagged 0x11 q)) = some (false, tInSession))
    ∧ (∀ q, (tTagged 0x11 q).auth = true ∧ (tTagged 0x11 q).sequence = q ∧ (tTagged 0x11 q).forward = false)
    ∧ tSession.lastSeq.toNat < (6 : W64).toNat ∧ (5 : W64) = tSession.lastSeq ∧ (4 : W64).toNat < tSession.lastSeq.toNat
    ∧ (∃ x, x ∈ tInSession.dict.sessions ∧ x.id = 9) :=
  ⟨⟨rfl, rfl, rfl⟩, fun _ => rfl, fun _ => ⟨rfl, rfl, rfl⟩, by decide, rfl, by decide, tSession, List.mem_singleton.2 rfl, rfl⟩
/-- SESSION_OPEN: the owner's signature rests on a free function (log 9). -/
theorem test_hyp_SessionsOpened :
    headerOk .sgmii (tReq 0x100001 0 (zeros 225)) = true ∧ (tReq 0x100001 0 (zeros 225)).body.length = 225 ∧ (tReq 0x100001 0 (zeros 224)).body.length ≠ 225
      ∧ tHeld.dict.ownerKey = [] ∧ ({ tHeld with dict := { ownerKey := 4 :: zeros 96 } } : State).dict.ownerKey ≠ []
      ∧ 8 ≤ (List.replicate 8 tSession).length ∧ (List.replicate 7 tSession).length < 8 := by decide +kernel
theorem test_hyp_Forwarded :
    let f : Forward := ⟨7, .sgmii, false, 0x1000, 1, 0, 1⟩
    let s := { tHeld with dict := { forwards := [f] } }
    let b := rspHead 1 0 false false 0 7 0x1000 1 0 0
    s.dictOk = true ∧ s.pdxUp = true ∧ s.dict.forwards.find? (fun g => g.sequence = f.sequence) = some f
      ∧ (s.dict.forwards.find? fun g => bit (fieldAt b 3 1) 0 && g.sequence.toNat = fieldAt b 8 8 && g.op.toNat = fieldAt b 1 1 && g.index.toNat = fieldAt b 16 2 && g.sub.toNat = fieldAt b 18 1) = some f
      ∧ (tHeld.dict.forwards.find? fun g => g.sequence.toNat = fieldAt b 8 8) = none := by decide +kernel

theorem test_hyp_ConfigurationsCommitted :
    (tHeld.dictOk = true ∧ tHeld.dictOpen = true ∧ tHeld.mode.working = true ∧ tHeld.num PD.CFG_STATUS ≠ 1 ∧ tHeld.num PD.CFG_STATUS ≠ 4)
    ∧ (let s := { tHeld with mode := .calibrate }
      s.dictOk = true ∧ s.dictOpen = true ∧ s.mode.working = false)
    ∧ (tHeld.setNum PD.CFG_STATUS 4).num PD.CFG_STATUS = 4
    ∧ (let s := { (tPlanned .held).setNum PD.CFG_STATUS 2 |>.setNum PD.DISCOVERY_STATE 2 with course := tCourse }
      s.mode = .held ∧ s.armable = true ∧ s.dictOpen = true ∧ s.dictOk = true)
    ∧ tHeld.armable = false ∧ tRun.dictOpen = true ∧ tRun.mode = .run := by decide +kernel
/-- A value that waits for the next step boundary, one out of its range, and one that comes into force at once. -/
def tCommit (m : Mode) (staged : List (Nat × PdVal)) : State := { tHeld.setNum PD.CFG_STATUS 1 with mode := m, dict := { staged := staged } }
theorem test_hyp_ConfigurationsValidated :
    (∀ s ∈ [tCommit .held [], tCommit .run [(PD.UPD_LR, .num 0)], tCommit .held [(PD.STREAM_SELECT, .num 0), (PD.WRITE_VERIFY_LIMIT, .num 0)]],
      s.dictOk = true ∧ s.num PD.CFG_STATUS = 1 ∧ s.mode.hubRuns = true ∧ s.mode ≠ .boot ∧ s.mode ≠ .loader)
    ∧ ((tCommit .run [(PD.UPD_LR, .num 0)]).dict.staged.filter fun p => (metaOf p.1).any fun m => m.cls = 3) ≠ []
    ∧ (tCommit .held [(PD.WRITE_VERIFY_LIMIT, .num 7)]).num PD.CFG_APPLY_STEP = 0 := by decide +kernel
theorem test_hyp_ConfigurationsFaulty : (tCommit .held [(PD.WRITE_VERIFY_LIMIT, .num 0)]).commitFaults ≠ [] := by decide +kernel
theorem test_hyp_ConfigurationsValid : (tCommit .run [(PD.UPD_LR, .num 0)]).commitFaults = [] := by decide +kernel
theorem test_hyp_ArpRequests :
    let s := tHeld.setNum PD.PDX_IPV4_ADDR 0x0A000001
    s.pdxUp = true ∧ s.ipv4 ≠ 0 ∧ ([10, 0, 0, 1] : List Byte).length = 4 ∧ ofBe ([10, 0, 0, 1] : List Byte) = s.ipv4 ∧ (zeros 6).length = 6 ∧ (zeros 4).length = 4 := by decide +kernel

/-! ### Measurement, clocks, audits, freezes, firmware -/

/-- RUN with 16 groups: the last has one round on converter 7 and channel 127; columns 0 and 4 are its trigger and URGENT. -/
def tGroup (trigger urgent : Nat) (m : Measure) : State :=
  { tRunLocked.setRows PD.ADC_GROUPS (List.replicate 15 [0, 0, 0, 0, 0, 0, 0] ++ [[trigger, 0, 0, 0, urgent, 1, 1] ++ List.replicate 7 255 ++ [127]]) with meas := m }
theorem test_hyp_SamplingTriggers :
    (∀ s ∈ [tGroup 6 0 { running := [(15, 0)] }, tGroup 6 0 { waiting := [15] }], (∃ r, r ∈ s.meas.running ∧ r.1 = 15) ∨ 15 ∈ s.meas.waiting)
    ∧ (let s := tGroup 6 0 {}
      (∀ r, r ∈ s.meas.running → r.1 ≠ 15) ∧ 15 ∉ s.meas.waiting ∧ s.convsFree 15 = true ∧ s.convsIdle 15 = true ∧ s.mode.commands = true ∧ (15#8).toNat < 16 ∧ s.groupCol 15 0 = 6 ∧ 16 ≤ (16#8).toNat)
    ∧ State.reset.mode.commands = false ∧ (tGroup 0 0 {}).groupCol 15 0 ≠ 6
    ∧ (tHeld.rows PD.BALL_SELECT)[8]? = some [4] ∧ 4 < 8 ∧ ((tHeld.setRows PD.BALL_SELECT (List.replicate 9 [8])).rows PD.BALL_SELECT)[8]? = some [8]
    ∧ (((tHeld.rows PD.TIMER_TABLE)[(1 : Fin 16).val]?).getD []).getD 0 0 = 40000 ∧ tHeld.mode.hubRuns = true ∧ tHeld.dictOk = true := by decide +kernel
/-- A second group on the same converter runs, and the last one finds it busy. -/
def tBusy (urgent : Nat) : State :=
  { tRunLocked.setRows PD.ADC_GROUPS (List.replicate 14 [0, 0, 0, 0, 0, 0, 0] ++ List.replicate 2 ([6, 0, 0, 0, urgent, 1, 1] ++ List.replicate 7 255 ++ [127])) with meas := { running := [(14, 0)] } }
theorem test_hyp_SamplingBusy :
    ∀ u ∈ [0, 1], let s := tBusy u
      (∀ r, r ∈ s.meas.running → r.1 ≠ 15) ∧ 15 ∉ s.meas.waiting ∧ s.convsFree 15 = false ∧ s.convsIdle 15 = false ∧ s.groupCol 15 4 = u := by decide +kernel
theorem test_hyp_SamplingResults :
    let s := tGroup 6 0 { running := [(15, 0)] }
    let x : Sample := ⟨7, 5, false, false⟩
    s.dictOk = true ∧ s.mode.hubRuns = true ∧ (s.meas.running.find? fun r => r.1 = (15 : Fin 16).val) = some ((15 : Fin 16).val, 0)
      ∧ s.groupCol 15 6 = 1 ∧ s.groupChan 15 0 7 = some 127 ∧ (∀ i, i < 1 → ∀ j, j < 8 → s.groupChan 15 i j = some 127 → i = 0 ∧ j = 7) ∧ [x].find? (fun y => y.conv.val = 7) = some x
      ∧ (∀ k, k < 1 → ∀ c, c < 8 → s.groupChan 15 k c ≠ some 0) ∧ 15 ∉ s.meas.waiting
      ∧ (let w := { (tBusy 0) with meas := { waiting := [15] } }
         w.meas.waiting = [15] ∧ w.convsFree 15 = true) := by decide +kernel
theorem test_hyp_ChannelsSlicesTachometersAndPmbusReport :
    (tHeld.mode.hubRuns = true ∧ State.reset.mode.hubRuns = false ∧ tHeld.mode.maintains = true ∧ State.reset.mode.maintains = false)
    ∧ (tHeld.meas.running.any (fun r => (tHeld.groupConvs r.1).contains (7 : Fin 8).val) = false ∧ (tBusy 0).meas.running.any (fun r => ((tBusy 0).groupConvs r.1).contains (7 : Fin 8).val) = true)
    ∧ (tHeld.grant .slice 7).1 = true ∧ (State.grant { tHeld with faults := { running := [⟨.slice, 7, 0, false⟩] } } .slice 7).1 = false
    ∧ (∀ n ∈ [0, 11], let s := { tHeld with meas := { slices := [(7, { slice := n })] } }
      (kvGet (fun _ => ({} : Slice)) s.meas.slices 7).slice = n ∧ n < 12)
    ∧ ((tHeld.setRows PD.TACH_TABLE (List.replicate 7 [0] ++ [[1, 0x3F800000]])).tachOn (7 : Fin 8).val = true ∧ (tHeld.setRows PD.TACH_TABLE []).tachOn (7 : Fin 8).val = false)
    ∧ ((tHeld.setRows PD.PMB_DEVICE_TABLE [[0x40]]).rows PD.PMB_DEVICE_TABLE)[0]? = some [0x40]
    ∧ (tHeld.meas.xfer = none ∧ tHeld.mode.transfers = true ∧ State.reset.mode.transfers = false)
    ∧ (let b : List Byte := [0x7F, 0, 1, 32, 9]
      ¬ (b.length < 4 ∨ b.length ≠ 4 + fieldAt b 2 1 ∨ 32 < fieldAt b 2 1 ∨ 32 < fieldAt b 3 1 ∨ 128 ≤ fieldAt b 0 1))
    ∧ (let b : List Byte := [0x80, 0, 0, 0]
      128 ≤ fieldAt b 0 1) := by decide +kernel
theorem test_hyp_TheLevelLoopSetsFAlarmsAndTheValve :
    (let s := { tRunLocked with meas := { tickOpen := true, tickDone := true } }
     s.dictOk = true ∧ s.mode.hubRuns = true ∧ s.meas.tickOpen = true ∧ s.meas.tickDone = true)
    ∧ (let s := { tRunLocked with meas := { tickOpen := true } }
     s.dictOk = true ∧ s.meas.tickOpen = true ∧ s.meas.tickDone = false)
    ∧ 1 < 2 ∧ tHeld.meas.throttleIn ≠ true ∧ tHeld.alarm alLeak = false
    ∧ (let s := { tHeld with meas := { causeTicks := [(alLeak, 1)], clearTicks := [(alInletLow, 9)] } }
     2 ≤ kvGet (fun _ => 0) s.meas.causeTicks alLeak + 1 ∧ kvGet (fun _ => 0) s.meas.causeTicks alInletLow + 1 < 2 ∧ 10 ≤ kvGet (fun _ => 0) s.meas.clearTicks alInletLow + 1) := by decide +kernel

theorem test_hyp_SuppliesAndTheResetPinMoveTheModule :
    tHeld.mode ≠ .off ∧ tHeld.mode ≠ .reset ∧ State.reset.mode = .reset ∧ ({ State.reset with mode := .off } : State).mode = .off := by decide
/-- The package that the part was supplied with passes; another's images rest on free functions (log 9), and one without a header does not pass. -/
theorem test_hyp_StartUpStepsRunInOrderAndTheirFailuresAreNamed :
    let passes := fun (s : State) => (s.fw.package = [] → s.flag PD.FW_OWNER_SIG_REQUIRED = false) ∧ ∀ r, r ∈ s.fw.package → s.bootCode r = 0
    let up := fun (c : Clocks) => { tBoot with clk := { c with loopsLocked := true, onLoop := true } }
    (tBoot.dictOk = true ∧ tBoot.mode = .boot ∧ tBoot.clk.refclk = true ∧ tBoot.clk.onLoop = false)
    ∧ ((up {}).clk.onLoop = true ∧ (up {}).clk.firmware = false ∧ (up {}).fw.valid = true ∧ passes (up {}))
    ∧ ¬ passes { up {} with fw := { package := [⟨1, 0, 0, 1024, []⟩] } }
    ∧ ((up { firmware := true }).clk.firmware = true ∧ (up { firmware := true }).clk.bridges = false ∧ (up { firmware := true }).clk.flashReads = false)
    ∧ (∃ c, c < connections ∧ c ∉ ([] : List Nat)) ∧ (∀ c, c < connections → c ∈ List.range connections)
    ∧ (∀ w ∈ [true, false], let s := up { firmware := true, bridges := true, warm := w }
      s.clk.bridges = true ∧ s.clk.memory = false ∧ s.clk.warm = w)
    ∧ (∃ n, n < 8 ∧ ([] : List Bool).getD n false = false) ∧ (∀ n, n < 8 → (List.replicate 8 true).getD n false = true)
    ∧ (∃ d, d < 2 ∧ State.slowDie { tBoot with clk := { channels := fittedRows [] } } d = 0)
    ∧ (∀ d, d < 2 → State.slowDie { tBoot with clk := { channels := fittedRows (List.replicate 12 (true, true, 2 ^ 34, 1)) } } d ≠ 0) := by
  refine ⟨by decide, ⟨rfl, rfl, rfl, fun _ => by decide +kernel, fun r h => absurd h List.not_mem_nil⟩, ?_, by decide, ⟨0, by decide, List.not_mem_nil⟩, fun c h => List.mem_range.2 h, by decide, ⟨0, by decide, rfl⟩,
    by decide, ⟨0, by decide, by decide +kernel⟩, by decide +kernel⟩
  intro h
  exact absurd (h.2 _ (List.mem_singleton.2 rfl)) (by decide +kernel)
theorem test_hyp_AReferenceLossCoastsAndItsReturnResumes :
    (tHeld.dictOk = true ∧ tHeld.mode ≠ .off ∧ tHeld.mode ≠ .reset ∧ tHeld.mode ≠ .frozen ∧ tHeld.mode ≠ .coast ∧ tHeld.clk.refclk = true)
    ∧ (let s := { tHeld with mode := .coast, ready := false, clk := { refclk := false, onLoop := true } }
      s.dictOk = true ∧ s.mode = .coast ∧ s.clk.refclk = false)
    ∧ (let s := { tHeld with clk := { loopsLocked := true, onLoop := true } }
      s.clk.refclk = true ∧ s.clk.onLoop = true ∧ s.mode.hubRuns = true ∧ s.clk.waiting = false) := by decide

theorem test_hyp_Audits :
    let audit : ArrayAudit := ⟨15, 64, 3, 9, 1, true⟩
    tRun.dictOk = true ∧ tRun.mode = .run ∧ 64 ≤ tRun.num PD.LEVEL_F ∧ 15 * 128 + 127 ∉ tRun.faults.retiredBlocks ∧ tRun.writesOpen 15 127 = false
      ∧ (tRun.grant .audit (15 * 128 + 127)).1 = true ∧ (tRun.grant .audit (7 * 128 + 127)).1 = true ∧ tRun.step.verdictFormed = false
      ∧ [audit].filter (fun a => decide (a.cell < 16) && !tRun.faults.retiredCells.contains (7 * 2048 + 127 * 16 + a.cell)) ≠ []
      ∧ auditHard audit = true ∧ auditHard { audit with largest := 2 } = false ∧ auditDrift { audit with largest := 2 } (tRun.fv PD.AUDIT_RMS_FACTOR) = true
      ∧ ({ tRun with step := { verdictFormed := true } } : State).step.verdictFormed = true := by decide +kernel
theorem test_hyp_Grants :
    (let s := { tHeld with faults := { running := [⟨.audit, 129, 0, false⟩] } }
     (∃ x, x ∈ s.faults.running ∧ grantsConflict .calibration 1 x.activity x.resource = true) ∧ s.mode ≠ .frozen ∧ s.mode ≠ .coast)
    ∧ tHeld.faults.running = [] ∧ tHeld.faults.queue = [] ∧ ¬ (Activity.calibration = .calibration ∧ (7 : Nat) = 8) := by decide
theorem test_hyp_SpallExports :
    (let s := { (tHeld.setRows PD.HOST_REGIONS [[1, 0, 0, 4096, 0]]).setNum PD.SPALL_HOST_REGION 1 |>.setNum PD.SPALL_COLLECTOR 5 with faults := { ring := [(1, [7])] }, ep0 := { linkUp := true } }
     s.dictOk = true ∧ s.mode.maintains = true ∧ s.nextRecord s.faults.toFlash = some (1, [7]) ∧ s.nextRecord s.faults.toHost = some (1, [7])
       ∧ s.nextRecord s.faults.toCollector = some (1, [7]) ∧ s.flag PD.SPALL_FLASH_EN = true ∧ (s.grant .spallExport 0).1 = true ∧ (s.grant .spallExport 1).1 = true
       ∧ (s.grant .spallExport 2).1 = true ∧ 512 ≤ s.regionSize (s.num PD.SPALL_HOST_REGION) ∧ s.hostReachable (s.num PD.SPALL_HOST_REGION) = true
       ∧ s.collector = some ⟨0, 0, 5⟩ ∧ ({ s with ep0 := {} } : State).hostReachable (s.num PD.SPALL_HOST_REGION) = false ∧ s.mode.hubRuns = true)
    ∧ ([7] : List Byte).length ≤ 512 := by decide +kernel
theorem test_hyp_SpallRingFull : (List.replicate 4096 ((1 : Nat), ([] : List Byte))).length = 4096 ∧ (List.replicate 4095 ((1 : Nat), ([] : List Byte))).length < 4096 := by
  rw [List.length_replicate, List.length_replicate]; decide

theorem test_hyp_FreezesAreRequestedReadOutAndReleased :
    (tRun.dictOk = true ∧ tRun.freezeN = true ∧ tRun.mode = .run ∧ tRun.mode ≠ .calibrate ∧ tRun.mode.hubRuns = true)
    ∧ ({ tHeld with mode := .calibrate } : State).mode = .calibrate
    ∧ (let s := { tHeld with mode := .frozen, freezeN := false, freeze := { lastSent := true } }
      s.dictOk = true ∧ s.freezeN = false ∧ s.mode = .frozen ∧ s.freeze.lastSent = true ∧ s.freeze.trigger = 0)
    ∧ (let s := { tHeld with mode := .frozen, freezeN := false }
      s.freezeN = false ∧ ¬ (s.mode = .frozen ∧ s.freeze.lastSent = true ∧ (s.freeze.trigger = 0 ∨ s.num PD.FREEZE_RELEASE = 1)))
    ∧ (∀ x ∈ [(0, true), (0, false), (1, true)], let s := { tHeld with mode := .frozen, freezeN := x.2, freeze := { trigger := x.1 } }
      s.dictOk = true ∧ s.mode = .frozen ∧ s.clk.refclk = true ∧ s.freeze.lastSent = false) := by decide

/-- A staging of a package of 1,024 bytes in HELD, `got` of them received. -/
def tStage (got : Nat) (fw : Firmware) : State :=
  { (((tHeld.setNum PD.FW_STAGE_STATE 1).setNum PD.FW_PACKAGE_LENGTH 1024).setNum PD.FW_RECEIVED got) with fw := fw }
def tPiece (offset len : Nat) : List Byte := padTo 1032 (le 4 offset ++ le 2 len)
theorem test_hyp_FirmwareStaged :
    (tHeld.dictOk = true ∧ tHeld.mode.hubRuns = true ∧ (tBoot.mode ≠ .loader ∧ tBoot.mode ≠ .held ∧ tBoot.mode.hubRuns = true))
    ∧ ((tStage 0 {}).num PD.FW_PACKAGE_LENGTH = 1024 ∧ 1023 < 1024 ∧ 532676608 < 532676609)
    ∧ ((tStage 0 { flashed := true }).fw.flashed = true ∧ (tStage 0 {}).fw.flashed = false ∧ (tStage 0 {}).num PD.FW_STAGE_STATE = 1)
    ∧ ((tStage 1024 { buffer := zeros 256 }).fw.buffer.length = 256 ∧ ((tStage 1024 { buffer := zeros 256 }).grant .firmwareStaging 0).1 = true
      ∧ (tStage 1024 { buffer := [1] }).num PD.FW_RECEIVED = 1024 ∧ (tStage 1024 { buffer := [1] }).fw.buffer ≠ [])
    ∧ (tStage 0 { erased := 0, programmed := 0 }).fw.erased ≤ 0 ∧ (tStage 0 { erased := 65536 }).fw.programmed < (tStage 0 { erased := 65536 }).fw.erased
    ∧ (tStage 1024 { programmed := 1024 }).num PD.FW_RECEIVED = 1024 ∧ (tStage 1024 { programmed := 1024 }).fw.programmed = 1024 := by decide +kernel
/-- Pieces: 511 bytes before the first header is whole, and 512 bytes of zeros as a header that no check passes. -/
theorem test_hyp_FirmwarePieces :
    ∀ len ∈ [511, 512], let b := tPiece 0 len
      b.length = 1032 ∧ fieldAt b 4 2 = len ∧ len ≠ 0 ∧ len ≤ 1024 ∧ fieldAt b 6 2 = 0 ∧ fieldAt b 0 4 = 0 ∧ len ≤ 0x400000 ∧ len ≤ 1024 := by decide +kernel
theorem test_hyp_FirmwarePiecesEnd (len : Nat) (h : len = 511 ∨ len = 512) : allZero ((tPiece 0 len).drop (8 + len)) = true := by
  rcases h with rfl | rfl <;> decide +kernel
theorem test_hyp_FirmwareHeaderRefused : (tStage 0 {}).checkHead (zeros 512) [] 0 1024 none 0 = (2, none) := by decide +kernel
/-- A header of the manifest with a body of 64 bytes; whether its signature holds rests on a free function (log 9). -/
def tHead : List Byte := padTo 512 (le 8 (0x4D524946 + 2 ^ 32 + 2 ^ 40) ++ le 8 64 ++ le 8 (0x2080 + 2 ^ 16) ++ le 8 0x7F)
theorem test_hyp_FirmwareHeader :
    (parseHead tHead).map (fun i => (i.part, i.bodyLength, i.rollback)) = some (1, 64, 0) ∧ (∀ x, x ∈ ([] : List ImageRec) → x.part ≠ 1) ∧ 0 + 512 + 64 ≤ 1024
      ∧ (tStage 0 {}).num PD.FW_ROLLBACK_MIN ≤ 0 ∧ 0 < ((tStage 0 {}).setNum PD.FW_ROLLBACK_MIN 1).num PD.FW_ROLLBACK_MIN := by decide +kernel
theorem test_hyp_FirmwareVerified :
    let s := tStage 1024 { programmed := 1024 }
    (∀ r, r ∈ s.fw.images → s.bodyOk r = true) ∧ fieldAt (s.read stFlash (packageBase + 512) 64) 0 2 ≠ 6 := by
  intro s
  exact ⟨fun r h => absurd h List.not_mem_nil, by decide +kernel⟩
/-- Images and a manifest that agree: six entries of erased bytes but for their reserved ones. -/
def tManifest : State :=
  { (tStage 1024 { programmed := 1024, nextHeader := 1024, images := List.replicate 7 ⟨0xFF, 0xFFFFFFFF, 0xFFFFFFFF, 0xFFFFFFFF, List.replicate 48 0xFF⟩ }) with
    mem := ((le 8 6 ++ zeros 56).zipIdx ++ (List.range 6).flatMap fun k => (zeros 3).zipIdx (65 + 64 * k)).map fun x => (memKey stFlash (packageBase + 512) + x.2, x.1) }
theorem test_hyp_FirmwareAgrees :
    let s := tManifest
    let m := s.read stFlash (packageBase + 512) 64
    fieldAt m 0 2 = 6 ∧ allZero (sub m 2 6) = true ∧ allZero (sub m 12 52) = true ∧ s.fw.images.length = 7 ∧ s.fw.nextHeader = s.num PD.FW_PACKAGE_LENGTH
      ∧ (List.range 6).all (fun k => decide (s.fw.images.tail[k]? = s.stagedEntry k)) = true := by decide +kernel

theorem test_hyp_ActivationIsScheduledAndReportsAreSigned :
    (let s := tLocked.setNum PD.FW_STAGE_STATE 2
     s.dictOk = true ∧ s.mode.hubRuns = true ∧ s.num PD.FW_STAGE_STATE = 2 ∧ s.mode = .held ∧ s.timed = true ∧ s.ctime.toNat < (1 : CTime).toNat
       ∧ (1 : CTime).toNat ≤ s.ctime.toNat + 2 ^ 24 * 65536 ∧ s.events.length < 1024)
    ∧ tLocked.num PD.FW_STAGE_STATE ≠ 2 ∧ (zeros 32).length = 32 ∧ tHeld.mode = .held ∧ tHeld.fw.nonce = []
    ∧ ({ tHeld with fw := { nonce := zeros 32 } } : State).fw.nonce ≠ [] ∧ State.reset.mode = .reset := by decide +kernel

end Sys2Proof.Tests
end

section
/-! Proofs of the patrol and of the bridges (01, 13): what PATROL_SCRUB and BRIDGE_FLIT do, in terms of the parts they are built from, and
the statement PatrolsRepairUnderAGrantAndBridgesRetryEightTimes. -/
namespace Sys2Proof.Machine

/-! ## A grant leaves the memory, its unit and the dictionary but FOREMAN_LATE alone -/

theorem State.run_grant (s : State) (a : Activity) (r : Nat) : Run 4398046511104 [PD.FOREMAN_LATE] s (s.grant a r).2 :=
  grant_run rfl (fun _ => id) (Run.refl _ _ s)

@[simp] theorem State.grant_mem (s : State) (a : Activity) (r : Nat) : (s.grant a r).2.mem = s.mem := (s.run_grant a r).part .mem rfl

@[simp] theorem State.grant_memUnit (s : State) (a : Activity) (r : Nat) : (s.grant a r).2.memUnit = s.memUnit :=
  (s.run_grant a r).part .memUnit rfl

theorem State.num_grant {s : State} (w : s.dictOk = true) (a : Activity) (r : Nat) {k : Nat} (ne : k ≠ PD.FOREMAN_LATE) :
    (s.grant a r).2.num k = s.num k :=
  (s.run_grant a r).num_eq w rfl fun h => ne (List.mem_singleton.1 h)

/-! ## Writing a word back (R349, R351) -/

/-- An xor reads and writes the memory alone. -/
theorem State.xorWord_mem_congr {s t : State} (h : s.mem = t.mem) (st addr : Nat) (r : List Nat) :
    (s.xorWord st addr r).mem = (t.xorWord st addr r).mem := by
  unfold State.xorWord
  split
  · exact h
  · simp only [State.write, State.read, h]

@[simp] theorem State.xorWord_memUnit (s : State) (st addr : Nat) (r : List Nat) : (s.xorWord st addr r).memUnit = s.memUnit :=
  (xorWord_run (f := 8589934592) (K := []) rfl (fun _ => id) (Run.refl _ _ s)).part .memUnit rfl

@[simp] theorem State.num_xorWord (s : State) (st addr : Nat) (r : List Nat) (k : Nat) : (s.xorWord st addr r).num k = s.num k := by
  unfold State.xorWord
  split <;> rfl

/-- The corrected word goes back, or is dropped where a newer write has overtaken it. -/
def State.writeBack (s : State) (st : Nat) (overtaken : List Nat) (addr : Nat) (r : List Nat) : State :=
  if overtaken.contains addr then s.bump PD.SCRUB_WRITEBACK_DROPPED else (s.bump PD.SCRUB_WRITEBACKS).xorWord st addr r

section
variable {s : State} {st addr : Nat} {overtaken : List Nat} {r : List Nat}

theorem State.writeBack_overtaken (h : overtaken.contains addr = true) :
    s.writeBack st overtaken addr r = s.bump PD.SCRUB_WRITEBACK_DROPPED := if_pos h

theorem State.writeBack_current (h : overtaken.contains addr = false) :
    s.writeBack st overtaken addr r = (s.bump PD.SCRUB_WRITEBACKS).xorWord st addr r := if_neg (ne_true_of_eq_false h)

@[simp] theorem State.writeBack_memUnit : (s.writeBack st overtaken addr r).memUnit = s.memUnit := by
  cases h : overtaken.contains addr
  · rw [State.writeBack_current h, State.xorWord_memUnit, State.bump_memUnit]
  · rw [State.writeBack_overtaken h, State.bump_memUnit]

theorem State.num_writeBack_ne {k : Nat} (h1 : k ≠ PD.SCRUB_WRITEBACKS) (h2 : k ≠ PD.SCRUB_WRITEBACK_DROPPED) :
    (s.writeBack st overtaken addr r).num k = s.num k := by
  cases h : overtaken.contains addr
  · rw [State.writeBack_current h, State.num_xorWord, State.num_bump_ne h1]
  · rw [State.writeBack_overtaken h, State.num_bump_ne h2]
end

/-- The row of a corrected word is weak when it was corrected on the pass before, and counts as corrected on this one. -/
def State.noteRow (s : State) (st row : Nat) : State :=
  if !hasRows st then s
  else
    let s := if s.memUnit.corrected.contains (st * 2 ^ 48 + row) then s.weaken st row else s
    { s with memUnit := { s.memUnit with corrected := s.memUnit.corrected ++ [st * 2 ^ 48 + row + 2 ^ 64] } }

section
variable (s : State) (st row : Nat)

@[simp] theorem State.weaken_mem : (s.weaken st row).mem = s.mem := by unfold State.weaken; split <;> rfl

@[simp] theorem State.num_weaken (k : Nat) : (s.weaken st row).num k = s.num k := by unfold State.weaken; split <;> rfl

theorem State.weaken_weak : (s.weaken st row).memUnit.weak =
    if s.memUnit.weak.any (fun w => w.1 = st && w.2.1 = row) = false then s.memUnit.weak ++ [(st, row, 0)] else s.memUnit.weak := by
  unfold State.weaken
  cases h : s.memUnit.weak.any fun w => w.1 = st && w.2.1 = row <;> rfl

@[simp] theorem State.noteRow_mem : (s.noteRow st row).mem = s.mem := by
  unfold State.noteRow
  split
  · rfl
  · dsimp only; split
    · exact s.weaken_mem st row
    · rfl

@[simp] theorem State.num_noteRow (k : Nat) : (s.noteRow st row).num k = s.num k := by
  unfold State.noteRow
  split
  · rfl
  · dsimp only; split
    · exact s.num_weaken st row k
    · rfl

theorem State.noteRow_weak : (s.noteRow st row).memUnit.weak =
    if hasRows st = true ∧ s.memUnit.corrected.contains (st * 2 ^ 48 + row) = true
        ∧ s.memUnit.weak.any (fun w => w.1 = st && w.2.1 = row) = false
      then s.memUnit.weak ++ [(st, row, 0)] else s.memUnit.weak := by
  unfold State.noteRow
  cases hr : hasRows st
  · rfl
  · cases hc : s.memUnit.corrected.contains (st * 2 ^ 48 + row)
    · rfl
    · exact (s.weaken_weak st row).trans (by simp only [true_and])
end

/-! ## One struck word (R341, R348) -/

section
variable (s : State) (st : Nat)

@[simp] theorem State.corrections_mem (fixed : Bool) : (s.corrections st fixed).mem = s.mem := by cases fixed <;> rfl
@[simp] theorem State.corrections_weak (fixed : Bool) : (s.corrections st fixed).memUnit.weak = s.memUnit.weak := by cases fixed <;> rfl
@[simp] theorem State.corrections_corrected (fixed : Bool) : (s.corrections st fixed).memUnit.corrected = s.memUnit.corrected := by
  cases fixed <;> rfl
theorem State.num_corrections_true : (s.corrections st true).num PD.GUARD_CORRECTED = (s.num PD.GUARD_CORRECTED + 1) % 2 ^ 64 := State.num_bump
theorem State.num_corrections_ne {k : Nat} (ne : k ≠ PD.GUARD_CORRECTED) : (s.corrections st true).num k = s.num k := State.num_bump_ne ne
end

/-- A store without the address seal delivers a word that the guard code corrects, and counts it. -/
theorem State.readStruck_corrected {s : State} {st : Nat} {u : Upset} {r : List Nat} (hst : st < 28) (hr : guardResidue u.first = some (r, true)) :
    s.readStruck st u = (.ok r true, s.corrections st true) := by
  unfold State.readStruck
  rw [hr]
  exact if_neg fun h => by omega

theorem State.patrolWord_corrected {s : State} {st : Nat} {overtaken : List Nat} {u : Upset} {r : List Nat} (hst : st < 28)
    (hr : guardResidue u.first = some (r, true)) :
    s.patrolWord st overtaken u
      = ((s.corrections st true).writeBack st overtaken u.addr r).noteRow st (u.addr / rowBytes st) := by
  unfold State.patrolWord
  rw [State.readStruck_corrected hst hr]
  rfl

section
variable {s : State} {st : Nat} {overtaken : List Nat} {u : Upset} {r : List Nat}
variable (hst : st < 28) (hr : guardResidue u.first = some (r, true))
include hst hr

theorem State.patrolWord_guardCorrected :
    (s.patrolWord st overtaken u).num PD.GUARD_CORRECTED = (s.num PD.GUARD_CORRECTED + 1) % 2 ^ 64 := by
  rw [State.patrolWord_corrected hst hr, State.num_noteRow, State.num_writeBack_ne (by decide) (by decide),
    State.num_corrections_true]

theorem State.patrolWord_current (h : overtaken.contains u.addr = false) :
    (s.patrolWord st overtaken u).num PD.SCRUB_WRITEBACKS = (s.num PD.SCRUB_WRITEBACKS + 1) % 2 ^ 64
      ∧ (s.patrolWord st overtaken u).mem = (s.xorWord st u.addr r).mem := by
  rw [State.patrolWord_corrected hst hr, State.writeBack_current h, State.num_noteRow, State.num_xorWord, State.num_bump,
    State.num_corrections_ne _ _ (by decide), State.noteRow_mem]
  exact ⟨rfl, State.xorWord_mem_congr ((State.bump_mem _ _).trans (s.corrections_mem st true)) st u.addr r⟩

theorem State.patrolWord_overtaken (h : overtaken.contains u.addr = true) :
    (s.patrolWord st overtaken u).num PD.SCRUB_WRITEBACK_DROPPED = (s.num PD.SCRUB_WRITEBACK_DROPPED + 1) % 2 ^ 64
      ∧ (s.patrolWord st overtaken u).mem = s.mem := by
  rw [State.patrolWord_corrected hst hr, State.writeBack_overtaken h, State.num_noteRow, State.num_bump,
    State.num_corrections_ne _ _ (by decide), State.noteRow_mem]
  exact ⟨rfl, (State.bump_mem _ _).trans (s.corrections_mem st true)⟩

/-- Among the stores without the seal the stacks alone have rows that can be weak. -/
theorem State.patrolWord_weak :
    (s.patrolWord st overtaken u).memUnit.weak =
      if (16 ≤ st ∧ st < 24) ∧ s.memUnit.corrected.contains (st * 2 ^ 48 + u.addr / rowBytes st) = true
          ∧ s.memUnit.weak.any (fun w => w.1 = st && w.2.1 = u.addr / rowBytes st) = false
        then s.memUnit.weak ++ [(st, u.addr / rowBytes st, 0)] else s.memUnit.weak := by
  have rows : hasRows st = true ↔ 16 ≤ st ∧ st < 24 := by
    simp only [hasRows, Bool.or_eq_true, Bool.and_eq_true, decide_eq_true_eq]; omega
  rw [State.patrolWord_corrected hst hr, State.noteRow_weak]
  simp only [State.writeBack_memUnit, State.corrections_weak, State.corrections_corrected, rows]
end

/-! ## A pass (R348) -/

/-- The end of a pass: the rows corrected on it are those that count at the next, and the pass is counted with its time. -/
def State.endPass (s : State) (store : Nat) : State :=
  let keep := s.memUnit.corrected.filterMap fun k =>
    if 2 ^ 64 ≤ k then some (k - 2 ^ 64) else if k / 2 ^ 48 = store then none else some k
  let n := ((s.memUnit.scrubPass.find? fun p => p.1 = store).map (·.2.1)).getD 0
  let rest := s.memUnit.scrubPass.filter fun p => p.1 ≠ store
  { s with memUnit := { s.memUnit with
    corrected := keep.eraseDups
    scrubPass := insertBy (fun (a b : Nat × Nat × CTime) => decide (a.1 ≤ b.1)) (store, n + 1, s.ctime) rest } }

@[simp] theorem State.endPass_mem (s : State) (store : Nat) : (s.endPass store).mem = s.mem := rfl
@[simp] theorem State.endPass_weak (s : State) (store : Nat) : (s.endPass store).memUnit.weak = s.memUnit.weak := rfl
@[simp] theorem State.num_endPass (s : State) (store k : Nat) : (s.endPass store).num k = s.num k := rfl

section
variable {s : State} {store : Nat} {ups : List Upset} {overs : List Nat}

theorem exec_patrolScrub_idle (h : s.mode.maintains = false) : exec (.patrolScrub store ups overs) s = .next s :=
  if_pos (.inl (by rw [h]; rfl))

variable (hm : s.mode.maintains = true) (hst : store < 28)
include hm hst

/-- Where the state maintains, what a pass does turns on the grant. -/
theorem exec_patrolScrub_maintains : exec (.patrolScrub store ups overs) s =
    match s.grant .scrubbing store with
    | (false, s) => .next s
    | (true, s) => .next ((s.each ups fun s u => s.patrolWord store overs u).endPass store) := by
  refine (if_neg ?_).trans rfl
  simp only [hm, Bool.not_true, Bool.false_eq_true, false_or]
  omega

theorem exec_patrolScrub_refused (hg : (s.grant .scrubbing store).1 = false) :
    exec (.patrolScrub store ups overs) s = .next (s.grant .scrubbing store).2 := by
  rw [exec_patrolScrub_maintains hm hst]
  generalize s.grant .scrubbing store = g at hg ⊢
  obtain ⟨taken, t⟩ := g
  cases hg
  rfl

theorem exec_patrolScrub_granted (hg : (s.grant .scrubbing store).1 = true) :
    exec (.patrolScrub store ups overs) s
      = .next (((s.grant .scrubbing store).2.each ups fun s u => s.patrolWord store overs u).endPass store) := by
  rw [exec_patrolScrub_maintains hm hst]
  generalize s.grant .scrubbing store = g at hg ⊢
  obtain ⟨taken, t⟩ := g
  cases hg
  rfl

/-- A granted pass that meets one word that the guard code corrects. -/
theorem exec_patrolScrub_corrected (w : s.dictOk = true) (hg : (s.grant .scrubbing store).1 = true) {x : Upset} {r : List Nat}
    (hr : guardResidue x.first = some (r, true)) :
    ∃ u, exec (.patrolScrub store [x] overs) s = .next u ∧ u.num PD.GUARD_CORRECTED = (s.num PD.GUARD_CORRECTED + 1) % 2 ^ 64
      ∧ (overs.contains x.addr = false → u.num PD.SCRUB_WRITEBACKS = (s.num PD.SCRUB_WRITEBACKS + 1) % 2 ^ 64
        ∧ u.mem = (s.xorWord store x.addr r).mem)
      ∧ (overs.contains x.addr = true → u.num PD.SCRUB_WRITEBACK_DROPPED = (s.num PD.SCRUB_WRITEBACK_DROPPED + 1) % 2 ^ 64 ∧ u.mem = s.mem)
      ∧ u.memUnit.weak = if (16 ≤ store ∧ store < 24) ∧ s.memUnit.corrected.contains (store * 2 ^ 48 + x.addr / rowBytes store) = true
            ∧ s.memUnit.weak.any (fun w => w.1 = store && w.2.1 = x.addr / rowBytes store) = false
          then s.memUnit.weak ++ [(store, x.addr / rowBytes store, 0)] else s.memUnit.weak := by
  let g := (s.grant .scrubbing store).2
  have num : ∀ {k}, k ≠ PD.FOREMAN_LATE → g.num k = s.num k := State.num_grant w _ _
  have mem : g.mem = s.mem := s.grant_mem _ _
  have unit : g.memUnit = s.memUnit := s.grant_memUnit _ _
  refine ⟨(g.patrolWord store overs x).endPass store, exec_patrolScrub_granted hm hst hg, ?_, fun h => ?_, fun h => ?_, ?_⟩
  · rw [State.num_endPass, State.patrolWord_guardCorrected hst hr, num (by decide)]
  · obtain ⟨count, word⟩ := g.patrolWord_current hst hr h
    rw [State.num_endPass, count, num (by decide), State.endPass_mem, word]
    exact ⟨rfl, State.xorWord_mem_congr mem _ _ _⟩
  · obtain ⟨count, word⟩ := g.patrolWord_overtaken hst hr h
    rw [State.num_endPass, count, num (by decide), State.endPass_mem, word]
    exact ⟨rfl, mem⟩
  · rw [State.endPass_weak, State.patrolWord_weak hst hr, unit]
end

/-! ## Bridges (R18, R19) -/

theorem State.bridge_setBridge (s : State) (n : Nat) (b : Bridge) : (s.setBridge n b).bridge n = b := kvGet_set_same _ _ _ _

@[simp] theorem State.toDevice_bridges (s : State) (u : FaultUnit) (committed : Bool) : (s.toDevice u committed).bridges = s.bridges :=
  (toDevice_run (f := 40067199190721) rfl (fun _ => id) (Run.refl _ _ s)).part .bridges rfl

@[simp] theorem State.faultAndHold_bridges (s : State) : s.faultAndHold.bridges = s.bridges :=
  (faultAndHold_run (f := 40067199190721) rfl (fun _ => id) (Run.refl _ _ s)).part .bridges rfl

/-- The device-level error that follows leaves the stopped bridge as it is. -/
theorem State.bridge_bridgeFailed (s : State) (n : Nat) : (s.bridgeFailed n).bridge n = { s.bridge n with stopped := true } := by
  have same : (s.bridgeFailed n).bridges = (s.setBridge n { s.bridge n with stopped := true }).bridges := by
    simp only [State.bridgeFailed, State.faultAndHold_bridges, State.toDevice_bridges, State.bump_bridges, State.spall_bridges]
  unfold State.bridge at same ⊢
  rw [same]
  exact kvGet_set_same _ _ _ _

/-- The decoder's outcome on a received word of a flit. -/
def wordOutcome (w : List Byte) : Guarded := guardDecode ((padTo 36 w).map (·.toNat))

/-- The data of a received word on the decoder's outcome: the symbol at fault corrected. -/
def wordData (w : List Byte) (d : Guarded) : List Byte :=
  (match d with
    | .corrected k v => (padTo 36 w).set k ((((padTo 36 w)[k]?).getD 0) ^^^ BitVec.ofNat 8 v)
    | _ => padTo 36 w).take 32

/-- Words of a flit that the decoder corrected. -/
def flitFixed (words : List (List Byte)) : Nat :=
  (((words.take 2).map wordOutcome).filter fun d => match d with
    | .corrected _ _ => true
    | _ => false).length

def flitData (words : List (List Byte)) : List Byte :=
  ((words.take 2).zip ((words.take 2).map wordOutcome)).flatMap fun p => wordData p.1 p.2

/-- A flit is good: two words, none of them uncorrectable, and a CRC that agrees with their data (R18, R19). -/
def flitGood (words : List (List Byte)) (crc : W32) : Bool :=
  ((words.take 2).map wordOutcome).all (fun d => d ≠ .bad) && words.length = 2 && crc32c (flitData words) = crc.toNat

/-- The connection with the corrections of a flit counted. -/
def Bridge.counted (c : Bridge) (words : List (List Byte)) : Bridge := { c with corrected := c.corrected + flitFixed words }

theorem flitData_pair (a b : List Byte) : flitData [a, b] = wordData a (wordOutcome a) ++ wordData b (wordOutcome b) := by
  simp only [flitData, List.take_succ_cons, List.take_nil, List.map_cons, List.map_nil, List.zip_cons_cons, List.zip_nil_right,
    List.flatMap_cons, List.flatMap_nil, List.append_nil]

theorem flitGood_pair_iff (a b : List Byte) (crc : W32) : flitGood [a, b] crc = true ↔
    wordOutcome a ≠ .bad ∧ wordOutcome b ≠ .bad ∧ crc32c (wordData a (wordOutcome a) ++ wordData b (wordOutcome b)) = crc.toNat := by
  simp [flitGood, flitData_pair, and_assoc]

section
variable {s : State} {link : Nat} {words : List (List Byte)} {a b : List Byte} {crc : W32}
variable (hr : s.mode.hubRuns = true) (hl : link < 27) (hs : (s.bridge link).stopped = false)
include hr hl hs

/-- BRIDGE_FLIT on a connection that has not stopped: the tries cleared, the bridge stopped, or one more try counted. -/
theorem exec_bridgeFlit_running : exec (.bridgeFlit link words crc) s =
    if flitGood words crc then .next (s.setBridge link { (s.bridge link).counted words with tries := 0 })
    else if 9 ≤ (s.bridge link).tries + 1 then
      .next ((s.setBridge link { (s.bridge link).counted words with tries := 9 }).bridgeFailed link)
    else .next (s.setBridge link { (s.bridge link).counted words with tries := (s.bridge link).tries + 1 }) := by
  refine (if_neg ?_).trans rfl
  simp only [hr, hs, connections, Bool.not_true, Bool.false_eq_true, false_or, or_false]
  omega

theorem exec_bridgeFlit_good (good : flitGood words crc = true) :
    ∃ u, exec (.bridgeFlit link words crc) s = .next u ∧ u.bridge link = { (s.bridge link).counted words with tries := 0 } ∧ u.mode = s.mode :=
  ⟨_, (exec_bridgeFlit_running hr hl hs).trans (if_pos good), State.bridge_setBridge _ _ _, rfl⟩

theorem exec_bridgeFlit_retry (bad : ¬flitGood words crc = true) (lt : (s.bridge link).tries < 8) :
    ∃ u, exec (.bridgeFlit link words crc) s = .next u ∧ (u.bridge link).tries = (s.bridge link).tries + 1
      ∧ (u.bridge link).stopped = false ∧ u.mode = s.mode := by
  refine ⟨_, (exec_bridgeFlit_running hr hl hs).trans ((if_neg bad).trans (if_neg (by omega))), ?_, ?_, rfl⟩ <;>
    rw [State.bridge_setBridge]
  exact hs

theorem exec_bridgeFlit_ninth (bad : ¬flitGood words crc = true) (le : 8 ≤ (s.bridge link).tries) :
    ∃ u, exec (.bridgeFlit link words crc) s = .next u ∧ (u.bridge link).stopped = true := by
  refine ⟨_, (exec_bridgeFlit_running hr hl hs).trans ((if_neg bad).trans (if_pos (by omega))), ?_⟩
  rw [State.bridge_bridgeFailed]

theorem exec_bridgeFlit_clean (ha : wordOutcome a = .clean) (hb : wordOutcome b = .clean)
    (hc : crc32c ((padTo 36 a).take 32 ++ (padTo 36 b).take 32) = crc.toNat) :
    ∃ u, exec (.bridgeFlit link [a, b] crc) s = .next u ∧ u.bridge link = { s.bridge link with tries := 0 } ∧ u.mode = s.mode := by
  have good : flitGood [a, b] crc = true := by
    rw [flitGood_pair_iff, ha, hb]; exact ⟨by decide, by decide, hc⟩
  have zero : flitFixed [a, b] = 0 := by simp [flitFixed, ha, hb]
  simpa only [Bridge.counted, zero, Nat.add_zero] using exec_bridgeFlit_good hr hl hs good

theorem exec_bridgeFlit_corrected {k v : Nat} (ha : wordOutcome a = .corrected k v) (hb : wordOutcome b = .clean)
    (hc : crc32c (((padTo 36 a).set k ((((padTo 36 a)[k]?).getD 0) ^^^ BitVec.ofNat 8 v)).take 32 ++ (padTo 36 b).take 32) = crc.toNat) :
    ∃ u, exec (.bridgeFlit link [a, b] crc) s = .next u
      ∧ u.bridge link = { s.bridge link with tries := 0, corrected := (s.bridge link).corrected + 1 } ∧ u.mode = s.mode := by
  have good : flitGood [a, b] crc = true := by
    rw [flitGood_pair_iff, ha, hb]; exact ⟨nofun, by decide, hc⟩
  have one : flitFixed [a, b] = 1 := by simp [flitFixed, ha, hb]
  simpa only [Bridge.counted, one] using exec_bridgeFlit_good hr hl hs good
end

/-- A word beyond correction, or clean words that the CRC does not agree with, make a flit fail. -/
theorem not_flitGood_pair {a b : List Byte} {crc : W32} (h : wordOutcome a = .bad ∨ wordOutcome b = .bad ∨ (wordOutcome a = .clean
    ∧ wordOutcome b = .clean ∧ crc32c ((padTo 36 a).take 32 ++ (padTo 36 b).take 32) ≠ crc.toNat)) : ¬flitGood [a, b] crc = true := by
  rw [flitGood_pair_iff]
  rintro ⟨na, nb, sum⟩
  rcases h with bad | bad | ⟨ha, hb, ne⟩
  · exact na bad
  · exact nb bad
  · rw [ha, hb] at sum; exact ne sum

end Sys2Proof.Machine

open Sys2Proof Sys2Proof.Machine

/-- Settles O39: a pass by its grant and by the one word it meets, a flit by the decoder's outcomes on its two words. -/
theorem patrolsRepairUnderAGrantAndBridgesRetryEightTimes : Obligations.PatrolsRepairUnderAGrantAndBridgesRetryEightTimes := by
  unfold Obligations.PatrolsRepairUnderAGrantAndBridgesRetryEightTimes
  refine ⟨fun s store overs w hm hst => ⟨fun ups hg => ?refused, fun hg => ?quiet, fun x r hg hr => ?repaired⟩,
    fun s store ups overs h => exec_patrolScrub_idle h, fun s link a b crc hr hl hs => ⟨?clean, ?corrected, ?failed⟩⟩
  case refused => exact ⟨_, exec_patrolScrub_refused hm hst hg, s.grant_mem _ _, s.grant_memUnit _ _⟩
  case quiet =>
    exact ⟨_, exec_patrolScrub_granted hm hst hg, s.grant_mem _ _, (State.endPass_weak _ _).trans (congrArg MemUnit.weak (s.grant_memUnit _ _))⟩
  case repaired => exact exec_patrolScrub_corrected hm hst w hg hr
  case clean => exact exec_bridgeFlit_clean hr hl hs
  case corrected => exact fun k v => exec_bridgeFlit_corrected hr hl hs
  case failed =>
    exact fun h => ⟨exec_bridgeFlit_retry hr hl hs (not_flitGood_pair h), exec_bridgeFlit_ninth hr hl hs (not_flitGood_pair h)⟩
end

section
/-! What the operations on one stream leave in it and around it (03): reading a stream after a write, after a mark in its ring, after a halt,
after a failure, and after a retirement. -/
namespace Sys2Proof.Machine

/-! ## Reading a stream -/

theorem State.stream_of_streams {s t : State} (h : t.streams = s.streams) (n : Nat) : t.stream n = s.stream n := by
  unfold State.stream; rw [h]

theorem State.num_of_pd {s t : State} (h : t.pd = s.pd) (k : Nat) : t.num k = s.num k := by
  unfold State.num State.pdGet; rw [h]

theorem State.read_of_mem {s t : State} (h : t.mem = s.mem) (st a n : Nat) : t.read st a n = s.read st a n := by
  unfold State.read; rw [h]

theorem State.readByte_of_mem {s t : State} (h : t.mem = s.mem) (st a : Nat) : t.readByte st a = s.readByte st a := by
  unfold State.readByte; rw [h]

section
variable (s : State) (n : Nat) (t : Stream)

@[simp] theorem State.stream_setStream : (s.setStream n t).stream n = t := kvGet_set_same _ _ _ _

theorem State.stream_setStream_ne {m : Nat} (ne : m ≠ n) : (s.setStream n t).stream m = s.stream m := kvGet_set_ne _ _ _ _ ne _

@[simp] theorem State.setStream_mem : (s.setStream n t).mem = s.mem := rfl
@[simp] theorem State.num_setStream (k : Nat) : (s.setStream n t).num k = s.num k := rfl
@[simp] theorem State.stream_bump (k : Nat) : (s.bump k).stream n = s.stream n := rfl
@[simp] theorem State.stream_setNum (k v : Nat) : (s.setNum k v).stream n = s.stream n := rfl
@[simp] theorem State.stream_cause (k : Nat) : (s.cause k).stream n = s.stream n := State.stream_of_streams (s.cause_streams k) n
end

/-! ## A mark in a ring (R77, R81) -/

/-- The first word of a marked slot. -/
def markWord (w : BitVec 512) (status : Option Nat) (done : Bool) : Nat :=
  bits w.toNat 0 48 + status.getD (bits w.toNat 48 8) % 256 * 2 ^ 48 + bits w.toNat 56 7 * 2 ^ 56 + b2n done * 2 ^ 63

/-- STATUS 0 with DONE: the descriptor's low 48 bits stay. -/
theorem markWord_done (w : BitVec 512) : markWord w (some 0) true < 2 ^ 64 ∧ markWord w (some 0) true / 2 ^ 63 = 1
    ∧ markWord w (some 0) true / 2 ^ 48 % 256 = 0 ∧ markWord w (some 0) true % 2 ^ 48 = w.toNat % 2 ^ 48 := by
  simp only [markWord, bits, b2n, Option.getD_some, if_true, Nat.pow_zero, Nat.div_one]
  omega

section
variable (s : State) (n : Nat) (d : StreamDef) (i : W32) (status : Option Nat) (done : Bool)

/-- Of its stream a mark changes the ring alone. -/
theorem State.stream_mark : ∃ r, (s.mark n d i status done).stream n = { s.stream n with ring := r } := by
  unfold State.mark
  dsimp only
  split
  · split <;> exact ⟨_, rfl⟩
  · exact ⟨_, State.stream_setStream _ _ _⟩

@[simp] theorem State.mark_pd : (s.mark n d i status done).pd = s.pd := by
  unfold State.mark
  dsimp only
  split
  · split <;> rfl
  · rfl

@[simp] theorem State.mark_mode : (s.mark n d i status done).mode = s.mode :=
  (mark_run (f := 8589935616) (K := []) rfl (fun _ => id) (Run.refl _ _ s)).part .mode rfl

@[simp] theorem State.num_mark (k : Nat) : (s.mark n d i status done).num k = s.num k := State.num_of_pd (s.mark_pd ..) k

variable {s n d} {st o : Nat}

theorem State.readSlot_hostFed (hf : d.hostFed = true) (hr : (s.place.bind fun p => p.rings.find? fun r => r.1 = n) = some (n, st, o)) :
    s.readSlot n d i = descBits (s.read st (o + 64 * (i.toNat % d.ring)) 64) := by
  unfold State.readSlot
  simp only [hf, hr, if_true]

/-- A mark in a host-fed ring writes the first word of its slot. -/
theorem State.mark_hostFed (hf : d.hostFed = true) (hr : (s.place.bind fun p => p.rings.find? fun r => r.1 = n) = some (n, st, o)) :
    s.mark n d i status done = s.write st (o + 64 * (i.toNat % d.ring)) (le 8 (markWord (s.readSlot n d i) status done)) := by
  unfold State.mark
  simp only [hf, hr, if_true]
  rfl
end

/-! ## Halts and failures (R80, R88) -/

section
variable (s : State) (n : Nat) (code : Byte) (index : W32) (tiles : Nat)

theorem State.stream_haltStream : (s.haltStream n code index tiles).stream n =
    { s.stream n with st := .halted, error := code, errIndex := index, tilesDone := tiles, failing := none, front := none, counted := false } := by
  unfold State.haltStream
  rw [State.stream_cause, State.stream_bump, State.stream_setStream]

theorem State.num_haltStream :
    (s.haltStream n code index tiles).num PD.STREAM_HALTS = (s.num PD.STREAM_HALTS + 1) % 2 ^ 64 := by
  unfold State.haltStream
  rw [State.num_cause, State.num_bump, State.num_setStream]
end

section
variable (s : State) (n : Nat) (df : StreamDef) (index : W32) (status tiles : Nat)

/-- A failing descriptor is noted in its stream; the rest of it but the ring stays. -/
theorem State.stream_failAt : ∃ r, (s.failAt n df index status tiles).stream n = { s.stream n with
    ring := r, failing := some ⟨index, BitVec.ofNat 8 status, tiles⟩, front := none, counted := false, st := .active } := by
  obtain ⟨r, h⟩ := s.stream_mark n df index (some status) false
  refine ⟨r, (State.stream_setStream _ _ _).trans ?_⟩
  rw [h]

@[simp] theorem State.num_failAt (k : Nat) : (s.failAt n df index status tiles).num k = s.num k := s.num_mark n df index _ _ k

@[simp] theorem State.dropStruck_streams : (s.dropStruck n).streams = s.streams :=
  (dropStruck_run (f := 524288) (K := []) rfl (fun _ => id) (Run.refl _ _ s)).part .streams rfl

@[simp] theorem State.stream_dropStruck (m : Nat) : (s.dropStruck n).stream m = s.stream m := State.stream_of_streams (s.dropStruck_streams n) m

@[simp] theorem State.dropStruck_pd : (s.dropStruck n).pd = s.pd := by
  unfold State.dropStruck; split <;> rfl

@[simp] theorem State.num_dropStruck (k : Nat) : (s.dropStruck n).num k = s.num k := State.num_of_pd (s.dropStruck_pd n) k

/-- The first entered descriptor fails at HEAD, and nothing stays entered. -/
theorem State.stream_failFirst : ∃ r, (s.failFirst n df status tiles).stream n = { s.stream n with
    entered := [], entryView := BitVec.ofNat 16 (s.stream n).openMask, ring := r, front := none, counted := false, st := .active,
    failing := some ⟨(s.stream n).head, BitVec.ofNat 8 status, tiles⟩ } := by
  unfold State.failFirst
  dsimp only
  obtain ⟨r, h⟩ := State.stream_failAt ((s.setStream n { s.stream n with
    entered := [], entryView := BitVec.ofNat 16 (s.stream n).openMask }).dropStruck n) n df (s.stream n).head status tiles
  refine ⟨r, h.trans ?_⟩
  rw [State.stream_dropStruck, State.stream_setStream]

@[simp] theorem State.num_failFirst (k : Nat) : (s.failFirst n df status tiles).num k = s.num k := by
  unfold State.failFirst
  rw [State.num_failAt, State.num_dropStruck, State.num_setStream]
end

end Sys2Proof.Machine
end

section
/-! Proofs of the doorbells (R75): the five checks of a doorbell, one after the other, and the statement
DoorbellsAreAppliedInTheOrderOfTheChecks. -/
namespace Sys2Proof.Machine

/-- Check 1 of a doorbell on a defined stream: its size, its address, its reserved bits, and that the stream takes doorbells there. -/
def StreamDef.refuses (d : StreamDef) (ep : Ep) (addr size : Nat) (v : W64) : Bool :=
  size ≠ 8 || addr % 8 ≠ 0 || v.toNat / 2 ^ 18 % 2 ^ 14 ≠ 0 || !d.hostFed || !(if ep = 0 then d.ep0 else d.ep1)

/-- Checks 2 to 5 of a doorbell. -/
def State.ringDoorbell (s : State) (n : Nat) (d : StreamDef) (tail : W32) : State :=
  let t := s.stream n
  if tail = t.tail then s
  else if 2 ^ 31 ≤ (tail - t.tail).toNat then s.bump PD.DOORBELL_STALE
  else if d.ring < (tail - t.head).toNat then
    if t.st = .halted then s.haltStream n 0x30 t.head 0
    else s.setStream n { t with
      failing := t.failing.or (some ⟨t.head + BitVec.ofNat 32 t.entered.length, 0x30, 0⟩)
      front := none, counted := false, st := if t.st = .idle ∨ t.st = .blocked then .active else t.st }
  else s.setStream n (t.ring1 tail)

section
variable {s : State} {ep : Ep} {addr size : Nat} {v : W64}
variable (up : (s.ep ep).linkUp = true) (ready : (s.ep ep).ready = true) (runs : s.mode.hubRuns = true)
variable (nb : s.mode ≠ .boot) (nl : s.mode ≠ .loader)
include up ready runs nb nl

/-- A doorbell on an open endpoint: check 1, then the others. -/
theorem exec_doorbell_open : exec (.doorbell ep addr size v) s = .next
    (match s.streamDef (v.toNat % 2 ^ 18) with
      | some d => if d.refuses ep addr size v then s.bump PD.DOORBELL_DROPPED
        else s.ringDoorbell (v.toNat % 2 ^ 18) d (BitVec.ofNat 32 (v.toNat / 2 ^ 32))
      | none => s.bump PD.DOORBELL_DROPPED) := by
  have isOpen : s.epOpen ep = true := by unfold State.epOpen; rw [up, ready, runs]; rfl
  have low : bits v.toNat 0 18 = v.toNat % 2 ^ 18 := by unfold bits; rw [Nat.pow_zero, Nat.div_one]
  refine congrArg Host.Outcome.next ?_
  unfold State.doorbell
  rw [isOpen, if_neg (by decide), if_neg (not_or.2 ⟨nb, nl⟩), low]
  dsimp only
  cases s.streamDef (v.toNat % 2 ^ 18) with
  | none => rfl
  | some d =>
    refine ite_congr (propext ?_) (fun _ => rfl) (fun _ => rfl)
    simp only [StreamDef.refuses, bits, Bool.or_eq_true, decide_eq_true_eq, Bool.not_eq_true', or_assoc]

theorem exec_doorbell_dropped (h : ((s.streamDef (v.toNat % 2 ^ 18)).all fun d => d.refuses ep addr size v) = true) :
    exec (.doorbell ep addr size v) s = .next (s.bump PD.DOORBELL_DROPPED) := by
  rw [exec_doorbell_open up ready runs nb nl]
  cases hd : s.streamDef (v.toNat % 2 ^ 18) with
  | none => rfl
  | some d => rw [hd] at h; exact congrArg Host.Outcome.next (if_pos h)

theorem exec_doorbell_passed {d : StreamDef} (hd : s.streamDef (v.toNat % 2 ^ 18) = some d) (hs : size = 8) (ha : addr % 8 = 0)
    (hv : v.toNat / 2 ^ 18 % 2 ^ 14 = 0) (hf : d.hostFed = true) (he : (if ep = 0 then d.ep0 else d.ep1) = true) :
    exec (.doorbell ep addr size v) s = .next (s.ringDoorbell (v.toNat % 2 ^ 18) d (BitVec.ofNat 32 (v.toNat / 2 ^ 32))) := by
  have passes : d.refuses ep addr size v = false := by unfold StreamDef.refuses; rw [hs, ha, hv, hf, he]; rfl
  rw [exec_doorbell_open up ready runs nb nl, hd]
  exact congrArg Host.Outcome.next (if_neg (ne_true_of_eq_false passes))
end

section
variable {s : State} {n : Nat} {d : StreamDef} {T : W32}

theorem State.ringDoorbell_same (h : T = (s.stream n).tail) : s.ringDoorbell n d T = s := if_pos h

variable (ne : T ≠ (s.stream n).tail)
include ne

theorem State.ringDoorbell_stale (h : 2 ^ 31 ≤ (T - (s.stream n).tail).toNat) : s.ringDoorbell n d T = s.bump PD.DOORBELL_STALE :=
  (if_neg ne).trans (if_pos h)

variable (fresh : (T - (s.stream n).tail).toNat < 2 ^ 31)
include fresh

/-- A doorbell past the ring's size: a halted stream has OVERRUN at once, any other as its failing status. -/
theorem State.ringDoorbell_overrun (past : 2 ^ d.ringCode < (T - (s.stream n).head).toNat) : s.ringDoorbell n d T =
    if (s.stream n).st = .halted then s.haltStream n 0x30 (s.stream n).head 0
    else s.setStream n { s.stream n with
      failing := (s.stream n).failing.or (some ⟨(s.stream n).head + BitVec.ofNat 32 (s.stream n).entered.length, 0x30, 0⟩)
      front := none, counted := false, st := if (s.stream n).st = .idle ∨ (s.stream n).st = .blocked then .active else (s.stream n).st } :=
  (if_neg ne).trans ((if_neg (Nat.not_le.2 fresh)).trans (if_pos past))

theorem State.stream_ringDoorbell_overrun (past : 2 ^ d.ringCode < (T - (s.stream n).head).toNat) :
    ((s.ringDoorbell n d T).stream n).tail = (s.stream n).tail ∧ ((s.ringDoorbell n d T).stream n).head = (s.stream n).head
      ∧ ((s.stream n).st = .halted → ((s.ringDoorbell n d T).stream n).st = .halted ∧ ((s.ringDoorbell n d T).stream n).error = 0x30
        ∧ ((s.ringDoorbell n d T).stream n).errIndex = (s.stream n).head)
      ∧ ((s.stream n).st ≠ .halted → (s.stream n).failing = none →
        ((s.ringDoorbell n d T).stream n).failing.map (·.status) = some 0x30) := by
  rw [State.ringDoorbell_overrun ne fresh past]
  by_cases halted : (s.stream n).st = .halted
  · rw [if_pos halted, State.stream_haltStream]
    exact ⟨rfl, rfl, fun _ => ⟨rfl, rfl, rfl⟩, fun h => absurd halted h⟩
  · rw [if_neg halted, State.stream_setStream]
    refine ⟨rfl, rfl, fun h => absurd h halted, fun _ hn => ?_⟩
    rw [hn]; rfl

theorem State.stream_ringDoorbell_taken (fits : (T - (s.stream n).head).toNat ≤ 2 ^ d.ringCode) : (s.ringDoorbell n d T).stream n =
    { s.stream n with tail := T, st := if (s.stream n).st = .idle then .active else (s.stream n).st } := by
  have eq : s.ringDoorbell n d T = s.setStream n ((s.stream n).ring1 T) :=
    (if_neg ne).trans ((if_neg (Nat.not_le.2 fresh)).trans (if_neg (Nat.not_lt.2 fits)))
  rw [eq, State.stream_setStream]
  rfl
end

end Sys2Proof.Machine

open Sys2Proof Sys2Proof.Machine

/-- Settles O21: check 1 drops the doorbell or leaves it to the other four, which exclude one another. -/
theorem doorbellsAreAppliedInTheOrderOfTheChecks : Obligations.DoorbellsAreAppliedInTheOrderOfTheChecks := by
  unfold Obligations.DoorbellsAreAppliedInTheOrderOfTheChecks
  intro s ep addr size v _ up ready runs nb nl
  refine ⟨fun h => ⟨_, exec_doorbell_dropped up ready runs nb nl h, rfl, State.num_bump⟩, fun d hd hs ha hv hf he => ?passed⟩
  case passed =>
    refine ⟨_, exec_doorbell_passed up ready runs nb nl hd hs ha hv hf he, State.ringDoorbell_same, fun ne stale => ?_,
      State.stream_ringDoorbell_overrun, State.stream_ringDoorbell_taken⟩
    rw [State.ringDoorbell_stale ne stale]
    exact ⟨rfl, State.num_bump⟩
end

section
/-! Proofs of the entry of descriptors (R78, R82, R88, R104, R225): the three outcomes of an attempt to enter the descriptor at the front, and the
statement DescriptorsFailWaitOrEnterInRingOrder. -/
namespace Sys2Proof.Machine

/-! ## What the checks read -/

/-- A change of a stream that leaves HEAD leaves what R82 asks. -/
theorem State.waitsOn_setStream (s : State) {n : Nat} {u : Stream} (hu : u.head = (s.stream n).head) (m : Nat) (t : Stream) (i : W32) (d : Desc) :
    (s.setStream n u).waitsOn m t i d = s.waitsOn m t i d := by
  have head : ((s.setStream n u).stream d.waitStream).head = (s.stream d.waitStream).head := by
    by_cases e : d.waitStream = n
    · rw [e, State.stream_setStream, hu]
    · rw [State.stream_setStream_ne _ _ _ e]
  unfold State.waitsOn
  rw [head]

theorem State.run_enterPhase (s : State) (st : Nat) (d : Desc) : Run 1073938432 [0x320102, 0x600003, 0x600004] s (s.enterPhase st d) :=
  enterPhase_run rfl (fun _ => id) (Run.refl _ _ s)

/-- The phases that an entry opens do not decide where its work runs. -/
theorem State.arrayWork_enterPhase {s : State} (w : s.dictOk = true) (st : Nat) (d : Desc) (st' : Nat) (d' : Desc) :
    (s.enterPhase st d).arrayWork st' d' = s.arrayWork st' d' := by
  have r := s.run_enterPhase st d
  have plan : (s.enterPhase st d).plan = s.plan := r.part .plan rfl
  have layers : (s.enterPhase st d).layers = s.layers := r.part .layers rfl
  have refAll : (s.enterPhase st d).num PD.REF_ALL = s.num PD.REF_ALL := r.num_eq w rfl (by decide)
  unfold State.arrayWork State.onArrays State.layer State.rung State.num? State.flag
  rw [plan, layers, refAll]

/-! ## The outcomes of an entry -/

/-- Digital work that may run and reserves no pool enters behind the entered descriptors. -/
theorem State.enterFront_enters {s : State} (w : s.dictOk = true) (n : Nat) (df : StreamDef) (i : W32) (x : BitVec 512)
    (ready : isBackward df.station (descOf x).opcode = true ∨ s.forwardReady = true) (digital : s.arrayWork df.station (descOf x) = false)
    (noPool : s.poolFor df.station (descOf x) = 0) :
    s.enterFront n df i x = (s.enterPhase df.station (descOf x)).setStream n { s.stream n with
      entered := (s.stream n).entered ++ [⟨i, x, [], groupedDesc df.station (descOf x) (s.stream n).entryView, false⟩],
      front := none, counted := false, st := .active, entryView := viewAfter (descOf x) (s.stream n).entryView } := by
  have c1 : ¬((!isBackward df.station (descOf x).opcode) = true ∧ (!s.forwardReady) = true) := by
    rcases ready with h | h <;> simp [h]
  have c2 : ¬(s.arrayWork df.station (descOf x) = true ∧ (!s.opCurrent (descOf x)) = true) := fun h => by rw [digital] at h; cases h.1
  have c3 : ¬(0 < s.poolFor df.station (descOf x)
      ∧ s.poolSize < s.poolUsed (homeDie n) + s.poolFor df.station (descOf x)) := by omega
  refine (if_neg c1).trans ((if_neg c2).trans ((if_neg c3).trans (if_neg ?_)))
  exact ne_true_of_eq_false ((State.arrayWork_enterPhase w ..).trans digital)

/-- The failing status of the descriptor `w` at the front of a stream, 0 where it passes or has been checked before (R78). -/
def State.entryCode (s : State) (n : Nat) (df : StreamDef) (w : BitVec 512) : Nat :=
  if (s.stream n).front.isSome || (!df.hostFed && decide (df.station = stReduce ∧ (descOf w).opcode = 4)) then 0
  else s.entryCheck n df (s.stream n).entryView w

section
variable {s : State} {n : Nat} {df : StreamDef} (hd : s.streamDef n = some df)
variable (mode : s.mode = .run ∨ s.mode = .drain ∧ s.step.opened = true) (attempt : s.step.attempt = true)
variable (early : s.step.deadlinePassed = false) (st : (s.stream n).st = .active ∨ (s.stream n).st = .blocked)
variable (sound : (s.stream n).failing = none) {index : W32} (hi : index = (s.stream n).head + BitVec.ofNat 32 (s.stream n).entered.length)
variable (published : index ≠ (s.stream n).tail) {w : BitVec 512} (hw : w = (s.stream n).front.getD (s.readSlot n df index))
include hd mode attempt early st sound hi published hw

/-- An attempt to enter the descriptor at the front: it fails a check, waits, or enters. -/
theorem exec_descriptorEntry_tries : exec (.descriptorEntry n) s =
    if s.entryCode n df w ≠ 0 then .next ((s.bump PD.DESC_REJECTED).failAt n df index (s.entryCode n df w) 0)
    else
      let x := s.setStream n { s.stream n with front := some w }
      match s.waitsOn n (s.stream n) index (descOf w) with
      | some b => .next (x.setStream n { s.stream n with front := some w, st := .blocked, blockedOn := BitVec.ofNat 32 b })
      | none => .next (x.enterFront n df index w) := by
  have tries : ¬((!s.mode.running) = true ∨ (!s.step.attempt) = true ∨ s.step.deadlinePassed = true
      ∨ (s.mode = .drain ∧ (!s.step.opened) = true) ∨ ((s.stream n).st ≠ .active ∧ (s.stream n).st ≠ .blocked)
      ∨ (s.stream n).failing.isSome = true ∨ index = (s.stream n).tail) := by
    have running : s.mode.running = true := by rcases mode with h | ⟨h, _⟩ <;> rw [h] <;> rfl
    have opens : s.mode = .drain → s.step.opened = true := by rcases mode with h | ⟨_, h⟩ <;> simp [h]
    have works : ¬((s.stream n).st ≠ .active ∧ (s.stream n).st ≠ .blocked) := by rcases st with h | h <;> simp [h]
    simpa [running, attempt, early, works, sound, published] using opens
  have code : (if (s.stream n).front.isSome = true
        ∨ (!df.hostFed && decide (df.station = stReduce) && decide ((descOf w).opcode = 4)) = true
      then 0 else s.entryCheck n df (s.stream n).entryView w) = s.entryCode n df w := by
    simp only [State.entryCode, Bool.or_eq_true, Bool.decide_and, Bool.and_assoc]
  rw [← State.waitsOn_setStream s (u := { s.stream n with front := some w }) rfl, ← code]
  subst hi hw
  change execDescriptorEntry n s = _
  unfold execDescriptorEntry
  dsimp only
  rw [hd]
  exact if_neg tries

theorem exec_descriptorEntry_fails (hc : s.entryCode n df w ≠ 0) : ∃ u, exec (.descriptorEntry n) s = .next u
    ∧ u.num PD.DESC_REJECTED = (s.num PD.DESC_REJECTED + 1) % 2 ^ 64
    ∧ (u.stream n).failing = some ⟨index, BitVec.ofNat 8 (s.entryCode n df w), 0⟩ ∧ (u.stream n).entered = (s.stream n).entered
    ∧ (u.stream n).head = (s.stream n).head := by
  obtain ⟨r, h⟩ := (s.bump PD.DESC_REJECTED).stream_failAt n df index (s.entryCode n df w) 0
  refine ⟨_, (exec_descriptorEntry_tries hd mode attempt early st sound hi published hw).trans (if_pos hc), ?_, ?_⟩
  · rw [State.num_failAt, State.num_bump]
  · rw [h]; exact ⟨rfl, rfl, rfl⟩

variable (hc : s.entryCode n df w = 0)
include hc

theorem exec_descriptorEntry_waits {b : Nat} (hb : s.waitsOn n (s.stream n) index (descOf w) = some b) :
    ∃ u, exec (.descriptorEntry n) s = .next u
      ∧ u.stream n = { s.stream n with front := some w, st := .blocked, blockedOn := BitVec.ofNat 32 b } ∧ u.mem = s.mem := by
  refine ⟨(s.setStream n { s.stream n with front := some w }).setStream n
    { s.stream n with front := some w, st := .blocked, blockedOn := BitVec.ofNat 32 b }, ?_, State.stream_setStream _ _ _, rfl⟩
  rw [exec_descriptorEntry_tries hd mode attempt early st sound hi published hw, if_neg (not_not_intro hc), hb]

theorem exec_descriptorEntry_enters (ok : s.dictOk = true) (hb : s.waitsOn n (s.stream n) index (descOf w) = none)
    (ready : isBackward df.station (descOf w).opcode = true ∨ s.forwardReady = true) (digital : s.arrayWork df.station (descOf w) = false)
    (noPool : s.poolFor df.station (descOf w) = 0) :
    ∃ u e, exec (.descriptorEntry n) s = .next u ∧ (u.stream n).entered = (s.stream n).entered ++ [e] ∧ e.index = index ∧ e.desc = w
      ∧ e.beds = [] ∧ (u.stream n).st = .active ∧ (u.stream n).front = none ∧ (u.stream n).head = (s.stream n).head ∧ u.mem = s.mem := by
  let x := s.setStream n { s.stream n with front := some w }
  have next : exec (.descriptorEntry n) s = .next (x.enterFront n df index w) := by
    rw [exec_descriptorEntry_tries hd mode attempt early st sound hi published hw, if_neg (not_not_intro hc), hb]
  rw [State.enterFront_enters (s := x) ok n df index w ready digital noPool, State.stream_setStream] at next
  refine ⟨_, ⟨index, w, [], groupedDesc df.station (descOf w) (s.stream n).entryView, false⟩, next, ?_⟩
  rw [State.stream_setStream]
  exact ⟨rfl, rfl, rfl, rfl, rfl, rfl, rfl, (x.run_enterPhase _ _).part .mem rfl⟩
end

end Sys2Proof.Machine

open Sys2Proof Sys2Proof.Machine

/-- Settles O22: the failing status, the wait of R82 and the entry are the three outcomes of an attempt, in this order. -/
theorem descriptorsFailWaitOrEnterInRingOrder : Obligations.DescriptorsFailWaitOrEnterInRingOrder := by
  unfold Obligations.DescriptorsFailWaitOrEnterInRingOrder
  intro s n df ok hd mode attempt early t index st sound published w d c
  exact ⟨exec_descriptorEntry_fails hd mode attempt early st sound rfl published rfl,
    fun b hc => exec_descriptorEntry_waits hd mode attempt early st sound rfl published rfl hc,
    fun hc => exec_descriptorEntry_enters hd mode attempt early st sound rfl published rfl hc ok⟩
end

section
/-! Proofs of the completion of descriptors (R77, R80, R81, R88): what a retirement leaves in the stream and in its slot, and the statement
DescriptorsCompleteInRingOrder. -/
namespace Sys2Proof.Machine

/-! ## Little-endian words -/

@[simp] theorem length_le : ∀ n v : Nat, (le n v).length = n
  | 0, _ => rfl
  | n + 1, v => congrArg (· + 1) (length_le n (v / 256))

theorem ofLe_le : ∀ n v : Nat, ofLe (le n v) = v % 256 ^ n
  | 0, v => (Nat.mod_one v).symm
  | n + 1, v => by
    have step : v % (256 * 256 ^ n) = v % 256 + 256 * (v / 256 % 256 ^ n) := Nat.mod_mul
    simp only [le, ofLe, ofLe_le n, BitVec.toNat_ofNat]
    rw [show 256 ^ (n + 1) = 256 * 256 ^ n from Nat.pow_succ']
    exact step.symm

/-! ## Retirement (R81) -/

section
variable (s : State) (n : Nat) (df : StreamDef) (e : Entered) (micro : Nat) (host : List Byte)

theorem State.run_completion : Run 35596688949248 [] s (s.completion n df) := completion_run rfl (fun _ => id) (Run.refl _ _ s)
@[simp] theorem State.completion_streams : (s.completion n df).streams = s.streams := (s.run_completion n df).part .streams rfl
@[simp] theorem State.completion_mem : (s.completion n df).mem = s.mem := (s.run_completion n df).part .mem rfl

theorem State.run_leave : Run 35256581488640 [0x120103, 0x510108, 0x600004, 0x700208] s (s.leave n df e micro host) :=
  leave_run rfl (fun _ => id) (Run.refl _ _ s)
@[simp] theorem State.leave_streams : (s.leave n df e micro host).streams = s.streams := (s.run_leave n df e micro host).part .streams rfl
@[simp] theorem State.leave_mem : (s.leave n df e micro host).mem = s.mem := (s.run_leave n df e micro host).part .mem rfl

/-- HEAD passes the first entered descriptor; the stream is IDLE when HEAD has reached TAIL and nothing fails. -/
theorem State.stream_retire : ∃ r, (s.retire n df e).stream n = { s.stream n with
    ring := r, head := (s.stream n).head + 1, entered := (s.stream n).entered.drop 1,
    st := if (s.stream n).head + 1 = (s.stream n).tail ∧ (s.stream n).failing.isNone then .idle else (s.stream n).st } := by
  obtain ⟨r, h⟩ := s.stream_mark n df e.index (some 0) true
  refine ⟨r, ?_⟩
  unfold State.retire
  dsimp only
  rw [h]
  split
  · rw [State.stream_of_streams (State.completion_streams ..), State.stream_setStream]
  · rw [State.stream_setStream]

/-- Of memory a retirement changes what its mark changes. -/
theorem State.retire_mem : (s.retire n df e).mem = (s.mark n df e.index (some 0) true).mem := by
  unfold State.retire
  dsimp only
  split
  · rw [State.completion_mem, State.setStream_mem]
  · rfl

/-- A retired descriptor's stream, with what the descriptor leaves behind. -/
theorem State.stream_leave_retire : ∃ r, ((s.retire n df e).leave n df e micro host).stream n = { s.stream n with
    ring := r, head := (s.stream n).head + 1, entered := (s.stream n).entered.drop 1,
    st := if (s.stream n).head + 1 = (s.stream n).tail ∧ (s.stream n).failing.isNone then .idle else (s.stream n).st } := by
  rw [State.stream_of_streams (State.leave_streams ..)]
  exact s.stream_retire n df e

variable {s n df} {st o : Nat}

/-- A retirement from a host-fed ring: the first word of the slot has STATUS 0, DONE and the descriptor's low 48 bits, and no other byte of
memory changes. -/
theorem State.slot_leave_retire (hf : df.hostFed = true) (hr : (s.place.bind fun p => p.rings.find? fun r => r.1 = n) = some (n, st, o)) :
    let a := o + 64 * (e.index.toNat % 2 ^ df.ringCode)
    let u := (s.retire n df e).leave n df e micro host
    ofLe (u.read st a 8) / 2 ^ 63 = 1 ∧ ofLe (u.read st a 8) / 2 ^ 48 % 256 = 0
      ∧ ofLe (u.read st a 8) % 2 ^ 48 = (descBits (s.read st a 64)).toNat % 2 ^ 48
      ∧ ∀ st' b, memKey st' b < memKey st a ∨ memKey st a + 8 ≤ memKey st' b → u.readByte st' b = s.readByte st' b := by
  intro a u
  let x := markWord (s.readSlot n df e.index) (some 0) true
  obtain ⟨fits, isDone, status, low⟩ : x < 2 ^ 64 ∧ x / 2 ^ 63 = 1 ∧ x / 2 ^ 48 % 256 = 0
      ∧ x % 2 ^ 48 = (s.readSlot n df e.index).toNat % 2 ^ 48 := markWord_done _
  have mem : u.mem = (s.write st a (le 8 x)).mem := by
    rw [State.leave_mem, State.retire_mem, State.mark_hostFed _ _ _ hf hr]
    rfl
  have word : ofLe (u.read st a 8) = x := by
    have read : (s.write st a (le 8 x)).read st a 8 = le 8 x := by
      simpa only [length_le] using State.read_write (s := s) (st := st) (a := a) (bs := le 8 x)
    rw [State.read_of_mem mem, read, ofLe_le, show 256 ^ 8 = 2 ^ 64 by decide]
    exact Nat.mod_eq_of_lt fits
  rw [State.readSlot_hostFed _ hf hr] at low
  rw [word]
  refine ⟨isDone, status, low, fun st' b out => ?_⟩
  rw [State.readByte_of_mem mem]
  exact State.readByte_write_out (by rw [length_le]; exact out)
end

/-! ## The outcomes of DESCRIPTOR_COMPLETE -/

section
variable {s : State} {n : Nat} {df : StreamDef} {e : Entered} {rest : List Entered} {host : List Byte}
variable (hd : s.streamDef n = some df) (mode : s.mode = .run ∨ s.mode = .drain) (early : s.step.deadlinePassed = false)
variable (st : (s.stream n).st = .active ∨ (s.stream n).st = .blocked) (he : (s.stream n).entered = e :: rest)
variable (may : s.holdsBack df e host = false)
include hd mode early st he may

/-- The first entered descriptor, meeting no error: it retires where its joint has emitted, and otherwise as its work says. -/
theorem exec_descriptorComplete_noErrors : exec (.descriptorComplete n host []) s =
    if e.joining then .next ((s.retire n df e).leave n df e
      ((s.tensor (descOf e.desc).src).map (fun t => (hdrOf (s.tileRead t false (descOf e.desc).srcTile host)).micro) |>.getD 0) host)
    else
      let r := s.runDesc n df e host
      if r.2.status ≠ 0 then .next (r.1.failFirst n df r.2.status r.2.tiles)
      else if r.2.joining then .next (r.1.setStream n
        { r.1.stream n with entered := { e with joining := true } :: (r.1.stream n).entered.drop 1 })
      else .next ((r.1.retire n df e).leave n df e r.2.micro host) := by
  have running : s.mode.running = true := by rcases mode with h | h <;> rw [h] <;> rfl
  have works : ¬((!s.mode.running) = true ∨ s.step.deadlinePassed = true
      ∨ ((s.stream n).st ≠ .active ∧ (s.stream n).st ≠ .blocked) ∨ s.holdsBack df e host = true) := by
    rw [running, early, may]
    rcases st with t | t <;> simp [t]
  change execDescriptorComplete n host [] s = _
  unfold execDescriptorComplete
  dsimp only
  rw [hd, he]
  refine (if_neg works).trans (ite_congr rfl (fun _ => rfl) fun _ => ?_)
  exact (if_neg (show ¬(!s.mode.running) = true by rw [running]; decide)).trans (if_neg (show ¬(!true) = true by decide))

theorem exec_descriptorComplete_joined (joined : e.joining = true) :
    ∃ m, exec (.descriptorComplete n host []) s = .next ((s.retire n df e).leave n df e m host) :=
  ⟨_, (exec_descriptorComplete_noErrors hd mode early st he may).trans (if_pos joined)⟩

theorem exec_descriptorComplete_worked (first : e.joining = false) {t : State} {f : Finish} (run : s.runDesc n df e host = (t, f))
    (whole : f.joining = false) : exec (.descriptorComplete n host []) s =
      if f.status ≠ 0 then .next (t.failFirst n df f.status f.tiles) else .next ((t.retire n df e).leave n df e f.micro host) := by
  rw [exec_descriptorComplete_noErrors hd mode early st he may, if_neg (ne_true_of_eq_false first), run]
  exact ite_congr rfl (fun _ => rfl) fun _ => if_neg (ne_true_of_eq_false whole)

theorem exec_descriptorComplete_unjoined (first : e.joining = false) {t : State} {f : Finish} (run : s.runDesc n df e host = (t, f))
    (whole : f.joining = false) : ∃ u, exec (.descriptorComplete n host []) s = .next u
      ∧ (f.status = 0 → (u.stream n).head = (t.stream n).head + 1 ∧ (u.stream n).entered = (t.stream n).entered.drop 1
          ∧ ((t.stream n).head + 1 = (t.stream n).tail → (t.stream n).failing = none → (u.stream n).st = .idle))
      ∧ (f.status ≠ 0 → (u.stream n).failing = some ⟨(t.stream n).head, BitVec.ofNat 8 f.status, f.tiles⟩ ∧ (u.stream n).entered = []
          ∧ (u.stream n).head = (t.stream n).head) := by
  have next := exec_descriptorComplete_worked hd mode early st he may first run whole
  by_cases ok : f.status = 0
  · obtain ⟨r, h⟩ := t.stream_leave_retire n df e f.micro host
    refine ⟨_, next.trans (if_neg (not_not_intro ok)), fun _ => ?_, fun bad => absurd ok bad⟩
    rw [h]
    exact ⟨rfl, rfl, fun last sound => if_pos ⟨last, by rw [sound]; rfl⟩⟩
  · obtain ⟨r, h⟩ := t.stream_failFirst n df f.status f.tiles
    refine ⟨_, next.trans (if_pos ok), fun good => absurd good ok, fun _ => ?_⟩
    rw [h]
    exact ⟨rfl, rfl, rfl⟩
end

end Sys2Proof.Machine

open Sys2Proof Sys2Proof.Machine

/-- Settles O23: a completion is a retirement or a failure of the first entered descriptor, and a retirement marks its slot. -/
theorem descriptorsCompleteInRingOrder : Obligations.DescriptorsCompleteInRingOrder := by
  unfold Obligations.DescriptorsCompleteInRingOrder
  intro s n df e rest host hd mode early hst he may
  refine ⟨fun t f first run whole => exec_descriptorComplete_unjoined hd mode early hst he may first run whole,
    fun pl st o joined hf hp hr _ => ?joined⟩
  case joined =>
    have ring : (s.place.bind fun p => p.rings.find? fun r => r.1 = n) = some (n, st, o) := by rw [hp]; exact hr
    obtain ⟨m, next⟩ := exec_descriptorComplete_joined hd mode early hst he may joined
    obtain ⟨r, h⟩ := s.stream_leave_retire n df e m host
    refine ⟨_, next, ?_, ?_, State.slot_leave_retire e m host hf ring⟩
    · rw [h]
    · rw [h, he]; rfl
end

section
/-! Proofs of the halts and of STREAM_RESUME (R88, R89, R395): the outcomes of its three actions, and the statement
HaltsAndResumesActOnTheFailingDescriptor. -/
namespace Sys2Proof.Machine

section
variable {s : State} {n : Nat}

/-- A halt with nothing entered before the failing descriptor takes effect. -/
theorem exec_streamHalt_takes {f : Failing} (hf : (s.stream n).failing = some f) (empty : (s.stream n).entered = [])
    (np : (s.stream n).st ≠ .paused) : exec (.streamHalt n) s =
      .next (s.haltStream n f.status (if f.status = 0x30 then (s.stream n).head else f.index) f.tilesDone) := by
  change execStreamHalt n s = _
  unfold execStreamHalt
  dsimp only
  rw [hf, empty]
  exact if_pos ⟨rfl, np⟩

theorem State.num_reason_ne (s : State) (r : Nat) {k : Nat} (ne : k ≠ PD.STEP_REASONS) : (s.reason r).num k = s.num k := by
  unfold State.reason
  split
  · exact State.num_setNum_ne ne
  · rfl

/-- A host timeout of an entered HOD descriptor counts, with a reason recorded for some of them, and the descriptor fails. -/
theorem exec_hostDmaTimeout_hod {df : StreamDef} {e : Entered} {rest : List Entered} (hd : s.streamDef n = some df)
    (he : (s.stream n).entered = e :: rest) (mode : s.mode = .run ∨ s.mode = .drain) (hod : df.station = stHod) :
    ∃ x : State, exec (.hostDmaTimeout n) s = .next (x.failFirst n df 0x21 0) ∧ x.stream n = s.stream n
      ∧ x.num PD.HOST_DMA_ERR = (s.num PD.HOST_DMA_ERR + 1) % 2 ^ 64 := by
  have running : s.mode.running = true := by rcases mode with h | h <;> rw [h] <;> rfl
  have acts : ¬((!s.mode.running) = true ∨ df.station ≠ stHod) := by rw [running]; simp [hod]
  have next : exec (.hostDmaTimeout n) s =
      .next ((if (!df.hostFed) = true ∧ (bits e.desc.toNat 0 8 = 3 ∨ bits e.desc.toNat 0 8 = 4)
        then (s.bump PD.HOST_DMA_ERR).reason rsFault else s.bump PD.HOST_DMA_ERR).failFirst n df 0x21 0) := by
    change execHostDmaTimeout n s = _
    unfold execHostDmaTimeout
    dsimp only
    rw [hd, he]
    exact if_neg acts
  refine ⟨_, next, ?_, ?_⟩ <;> split
  · exact State.stream_of_streams (State.reason_streams _ _) n
  · rfl
  · rw [State.num_reason_ne _ _ (by decide), State.num_bump]
  · exact State.num_bump
end

/-! ## STREAM_RESUME (R89) -/

section
variable {s : State} {n action reserved : Nat} (runs : s.mode.hubRuns = true) (nb : s.mode ≠ .boot) (nc : s.mode ≠ .calibrate)
include runs nb nc

theorem State.streamResume_badArgument (h : s.streamDef n = none ∨ reserved ≠ 0) :
    s.streamResume n action reserved = s.setNum PD.STREAM_CMD_RESULT 1 := by
  unfold State.streamResume
  rw [if_neg (by rw [runs]; decide), if_neg (not_or.2 ⟨nb, nc⟩)]
  dsimp only
  cases hd : s.streamDef n with
  | none => rfl
  | some df => exact if_pos (.inr (h.resolve_left (by rw [hd]; nofun)))

variable {df : StreamDef} (hd : s.streamDef n = some df)
include hd

/-- The three actions on a defined stream, the reserved field zero. -/
theorem State.streamResume_defined (ha : action < 3) : s.streamResume n action 0 =
    if action = 2 then
      if (s.stream n).st = .idle ∨ (s.stream n).st = .blocked ∨ (s.stream n).st = .halted ∨ (s.stream n).st = .paused then
        ((s.setStream n ((s.stream n).reset true)).dropStruck n).setNum PD.STREAM_CMD_RESULT 0
      else s.setNum PD.STREAM_CMD_RESULT 2
    else if (s.stream n).st ≠ .halted then s.setNum PD.STREAM_CMD_RESULT 2
    else
      let skip : Bool := action = 1 && (s.stream n).error ≠ 0x30
      let x := if skip then s.mark n df (s.stream n).head none true else s
      let t := if skip then { s.stream n with head := (s.stream n).head + 1 } else s.stream n
      (x.setStream n ({ t with entryView := BitVec.ofNat 16 t.openMask }.resume x.mode.running)).setNum PD.STREAM_CMD_RESULT 0 := by
  unfold State.streamResume
  rw [if_neg (by rw [runs]; decide), if_neg (not_or.2 ⟨nb, nc⟩)]
  dsimp only
  rw [hd]
  exact if_neg (by omega)

theorem State.streamResume_reset (h : (s.stream n).st = .idle ∨ (s.stream n).st = .blocked ∨ (s.stream n).st = .halted
      ∨ (s.stream n).st = .paused) :
    s.streamResume n 2 0 = ((s.setStream n ((s.stream n).reset true)).dropStruck n).setNum PD.STREAM_CMD_RESULT 0 := by
  rw [State.streamResume_defined runs nb nc hd (by decide)]
  exact if_pos h

/-- RETRY and SKIP of a stream that is not HALTED are in the wrong state. -/
theorem State.streamResume_wrongState (ha : action < 2) (h : (s.stream n).st ≠ .halted) :
    s.streamResume n action 0 = s.setNum PD.STREAM_CMD_RESULT 2 := by
  rw [State.streamResume_defined runs nb nc hd (by omega), if_neg (by omega), if_pos h]

variable (halted : (s.stream n).st = .halted)
include halted

theorem State.streamResume_retry : s.streamResume n 0 0 = (s.setStream n
    ({ s.stream n with entryView := BitVec.ofNat 16 (s.stream n).openMask }.resume s.mode.running)).setNum PD.STREAM_CMD_RESULT 0 := by
  rw [State.streamResume_defined runs nb nc hd (by decide)]
  exact if_neg (not_not_intro halted)

/-- SKIP passes the failing descriptor; the one that OVERRUN names was never entered and stays. -/
theorem State.streamResume_skip : (s.streamResume n 1 0).num PD.STREAM_CMD_RESULT = 0
    ∧ ((s.streamResume n 1 0).stream n).head = (if (s.stream n).error = 0x30 then (s.stream n).head else (s.stream n).head + 1)
    ∧ ((s.streamResume n 1 0).stream n).st =
      (if (if (s.stream n).error = 0x30 then (s.stream n).head else (s.stream n).head + 1) = (s.stream n).tail then .idle
        else if s.mode.running then .active else .paused) := by
  rw [State.streamResume_defined runs nb nc hd (by decide), if_neg (by decide), if_neg (not_not_intro halted)]
  by_cases ring : (s.stream n).error = 0x30
  · have stays : (decide (1 = 1) && decide ((s.stream n).error ≠ 0x30)) = false := by rw [ring]; rfl
    rw [stays, State.stream_setNum, State.stream_setStream, if_pos ring]
    exact ⟨State.num_setNum, rfl, rfl⟩
  · have passes : (decide (1 = 1) && decide ((s.stream n).error ≠ 0x30)) = true := by rw [decide_eq_true ring]; rfl
    rw [passes, State.stream_setNum, State.stream_setStream, if_neg ring]
    refine ⟨State.num_setNum, rfl, ?_⟩
    rw [← s.mark_mode n df (s.stream n).head none true]
    rfl
end

section
variable {s : State} {n : BitVec 18} (runs : s.mode.hubRuns = true) (nb : s.mode ≠ .boot) (nc : s.mode ≠ .calibrate)
include runs nb nc

theorem exec_streamResume_badArgument {r : BitVec 12} (h : s.streamDef n.toNat = none ∨ r ≠ 0) :
    exec (.retry n r) s = .next (s.setNum PD.STREAM_CMD_RESULT 1) ∧ exec (.skip n r) s = .next (s.setNum PD.STREAM_CMD_RESULT 1)
      ∧ exec (.streamReset n r) s = .next (s.setNum PD.STREAM_CMD_RESULT 1) := by
  have h' : s.streamDef n.toNat = none ∨ r.toNat ≠ 0 := h.imp_right fun ne z => ne (BitVec.eq_of_toNat_eq z)
  have all : ∀ action, (.next (s.streamResume n.toNat action r.toNat) : Res) = .next (s.setNum PD.STREAM_CMD_RESULT 1) :=
    fun _ => congrArg Host.Outcome.next (State.streamResume_badArgument runs nb nc h')
  exact ⟨all 0, all 1, all 2⟩

variable {df : StreamDef} (hd : s.streamDef n.toNat = some df)
include hd

theorem exec_resume_wrongState (h : (s.stream n.toNat).st ≠ .halted) :
    exec (.retry n 0) s = .next (s.setNum PD.STREAM_CMD_RESULT 2) ∧ exec (.skip n 0) s = .next (s.setNum PD.STREAM_CMD_RESULT 2) :=
  ⟨congrArg Host.Outcome.next (State.streamResume_wrongState runs nb nc hd (by decide) h),
    congrArg Host.Outcome.next (State.streamResume_wrongState runs nb nc hd (by decide) h)⟩

theorem exec_streamReset_resets (h : (s.stream n.toNat).st = .idle ∨ (s.stream n.toNat).st = .blocked ∨ (s.stream n.toNat).st = .halted
      ∨ (s.stream n.toNat).st = .paused) :
    ∃ u, exec (.streamReset n 0) s = .next u ∧ u.num PD.STREAM_CMD_RESULT = 0 ∧ u.stream n.toNat = (s.stream n.toNat).reset true := by
  refine ⟨_, congrArg Host.Outcome.next (State.streamResume_reset runs nb nc hd h), State.num_setNum, ?_⟩
  rw [State.stream_setNum, State.stream_dropStruck, State.stream_setStream]

theorem exec_retry_resumes (halted : (s.stream n.toNat).st = .halted) :
    ∃ u, exec (.retry n 0) s = .next u ∧ u.num PD.STREAM_CMD_RESULT = 0 ∧ (u.stream n.toNat).head = (s.stream n.toNat).head
      ∧ (u.stream n.toNat).st = (if (s.stream n.toNat).head = (s.stream n.toNat).tail then .idle else if s.mode.running then .active else .paused)
      ∧ u.mem = s.mem := by
  refine ⟨_, congrArg Host.Outcome.next (State.streamResume_retry runs nb nc hd halted), State.num_setNum, ?_⟩
  rw [State.stream_setNum, State.stream_setStream]
  exact ⟨rfl, rfl, rfl⟩
end

end Sys2Proof.Machine

open Sys2Proof Sys2Proof.Machine

/-- Settles O24: the halt, the three actions of STREAM_RESUME by the state of the stream, and the host timeout. -/
theorem haltsAndResumesActOnTheFailingDescriptor : Obligations.HaltsAndResumesActOnTheFailingDescriptor := by
  unfold Obligations.HaltsAndResumesActOnTheFailingDescriptor
  refine ⟨fun s n f _ hf empty np => ?halt, fun s n _ runs nb nc => ⟨fun df hd halted => ⟨?retry, ?skip⟩, fun df hd h => ?reset,
    fun df hd h => ?wrongState, fun r h => ?badArgument⟩, fun s n df e rest _ hd he mode hod => ?timeout⟩
  case halt =>
    refine ⟨_, exec_streamHalt_takes hf empty np, ?_⟩
    rw [State.stream_haltStream]
    exact ⟨rfl, rfl, rfl, rfl, rfl, State.num_haltStream ..⟩
  case retry => exact exec_retry_resumes runs nb nc hd halted
  case skip => exact ⟨_, rfl, State.streamResume_skip runs nb nc hd halted⟩
  case reset =>
    obtain ⟨u, next, result, stream⟩ := exec_streamReset_resets runs nb nc hd h
    refine ⟨u, next, result, ?_⟩
    rw [stream]
    exact ⟨rfl, rfl, rfl, rfl, rfl⟩
  case wrongState =>
    obtain ⟨retry, skip⟩ := exec_resume_wrongState runs nb nc hd h
    exact ⟨_, _, retry, skip, State.num_setNum, State.num_setNum, rfl, rfl⟩
  case badArgument =>
    obtain ⟨retry, skip, reset⟩ := exec_streamResume_badArgument runs nb nc h
    exact ⟨_, _, _, retry, skip, reset, State.num_setNum, State.num_setNum, State.num_setNum, rfl, rfl, rfl⟩
  case timeout =>
    obtain ⟨x, next, stream, count⟩ := exec_hostDmaTimeout_hod hd he mode hod
    obtain ⟨r, h⟩ := x.stream_failFirst n df 0x21 0
    refine ⟨_, next, (x.num_failFirst n df 0x21 0 _).trans count, ?_⟩
    rw [h, stream]
    exact ⟨rfl, rfl⟩
end

section
/-! Proofs of the loading of plans (R91, R92, R97): what PLAN_LOAD, PLAN_UNLOAD and PLAN_LOAD_COMPLETE do by state, and the statement
PlansLoadOnlyInHeldAndEndLoadedOrFailed. -/
namespace Sys2Proof.Machine

/-! ## A result with its interrupt (R389) -/

section
variable (s : State) (k v : Nat)

@[simp] theorem State.num_result : (s.result k v).num k = v := (State.num_cause ..).trans State.num_setNum
theorem State.num_result_ne {j : Nat} (ne : j ≠ k) : (s.result k v).num j = s.num j := (State.num_cause ..).trans (State.num_setNum_ne ne)
theorem State.rows_result_ne {j : Nat} (ne : j ≠ k) : (s.result k v).rows j = s.rows j := (State.rows_cause ..).trans (State.rows_setNum_ne ne)
@[simp] theorem State.result_plan : (s.result k v).plan = s.plan := State.cause_plan _ _
@[simp] theorem State.result_place : (s.result k v).place = s.place := State.cause_place _ _
@[simp] theorem State.result_loading : (s.result k v).loading = s.loading := State.cause_loading _ _
@[simp] theorem State.result_streams : (s.result k v).streams = s.streams := State.cause_streams _ _
@[simp] theorem State.result_layers : (s.result k v).layers = s.layers := State.cause_layers _ _
end

/-! ## PLAN_LOAD and PLAN_UNLOAD (R91, R92) -/

section
variable {s : State} {v : Nat}

/-- While a plan is LOADING neither command does anything. -/
theorem State.planCommand_loading (h : s.num PD.PLAN_STATUS = 1) : s.planCommand v = s := by
  unfold State.planCommand
  split
  · rfl
  · exact if_pos h

variable (nl : s.num PD.PLAN_STATUS ≠ 1)
include nl

theorem State.planCommand_elsewhere (hv : v = 1 ∨ v = 2) (nh : s.mode ≠ .held) (runs : s.mode.hubRuns = true) :
    s.planCommand v = s.result PD.PLAN_STATUS planWrongState :=
  (if_neg (by omega)).trans ((if_neg nl).trans ((if_pos nh).trans (if_pos runs)))

variable (held : s.mode = .held)
include held

theorem State.planCommand_unload : s.planCommand 2 = s.dropPlan.result PD.PLAN_STATUS planNone :=
  (if_neg (by decide)).trans ((if_neg nl).trans ((if_neg (not_not_intro held)).trans (if_pos rfl)))

/-- A load in HELD: the plan before is gone, and the object's check is under way. -/
theorem State.planCommand_load : ∃ r, s.planCommand 1 = { s.dropPlan.setNum PD.PLAN_STATUS planLoading with loading := some r } :=
  ⟨_, (if_neg (by decide)).trans ((if_neg nl).trans ((if_neg (not_not_intro held)).trans (if_neg (by decide))))⟩
end

/-! ## PLAN_LOAD_COMPLETE (R97) -/

section
variable (s : State) (fs : List PlanFault)

@[simp] theorem State.planFails_plan : (s.planFails fs).plan = s.plan := State.result_plan ..
@[simp] theorem State.planFails_loading : (s.planFails fs).loading = s.loading := State.result_loading ..
theorem State.planFails_status : (s.planFails fs).num PD.PLAN_STATUS = planFailed := State.num_result ..
theorem State.planFails_faults :
    (s.planFails fs).rows PD.PLAN_FAULTS = (fs.take 4096).map fun f => [f.code, f.obj, f.field] :=
  (State.rows_result_ne _ _ _ (by decide)).trans State.rows_setRows
end

section
variable (s : State) (pl : Placement)

/-- The state in which a placement's arrays are written: the placement in force and counted. -/
def State.placed (s : State) (pl : Placement) : State :=
  let s : State := { s with place := some pl, arrays := { s.arrays with seqPos := 0, op := none, loaded := [], writes := [] } }
  ((s.setNum PD.PLACE_VERSION ((s.num PD.PLACE_VERSION + 1) % 2 ^ 32)).bump PD.PLACE_COUNT).setNum PD.PLACE_TRIGGERS pl.triggers

theorem State.run_placed : Run 40007644233728 [0x40100D, 0x401101, 0x502101, 0x502104, 0x502105, 0x502106, 0x507001, 0x507003, 0x600004,
    0x620209, 0x62020A, 0xA10001, 0xA10006] (s.placed pl) (s.usePlacement pl) :=
  preload_run rfl (fun _ => id) (rewriteArrays_run rfl (fun _ => id) (Run.refl _ _ _))

@[simp] theorem State.usePlacement_place : (s.usePlacement pl).place = some pl := (s.run_placed pl).part .place rfl
@[simp] theorem State.usePlacement_plan : (s.usePlacement pl).plan = s.plan := (s.run_placed pl).part .plan rfl
@[simp] theorem State.usePlacement_loading : (s.usePlacement pl).loading = s.loading := (s.run_placed pl).part .loading rfl
@[simp] theorem State.usePlacement_streams : (s.usePlacement pl).streams = s.streams := (s.run_placed pl).part .streams rfl

variable {s}

/-- Writing the arrays does not count the placement again. -/
theorem State.usePlacement_version (w : s.dictOk = true) :
    (s.usePlacement pl).num PD.PLACE_VERSION = (s.num PD.PLACE_VERSION + 1) % 2 ^ 32 := by
  have ok : (s.placed pl).dictOk = true := State.dictOk_setNum (State.dictOk_bump (State.dictOk_setNum w))
  have version : (s.placed pl).num PD.PLACE_VERSION = (s.num PD.PLACE_VERSION + 1) % 2 ^ 32 :=
    (State.num_setNum_ne (by decide)).trans ((State.num_bump_ne (by decide)).trans State.num_setNum)
  exact ((s.run_placed pl).num_eq ok rfl (by decide)).trans version
end

section
variable {s : State} (runs : s.mode.hubRuns = true)
include runs

theorem exec_planLoadComplete_faults {po : Option Plan} {fs : List PlanFault} (hl : s.loading = some (po, fs)) (bad : po = none ∨ fs ≠ []) :
    exec .planLoadComplete s = .next (({ s with loading := none } : State).planFails fs) := by
  change execPlanLoadComplete s = _
  unfold execPlanLoadComplete
  rw [if_neg (by rw [runs]; decide), hl]
  cases po with
  | none => rfl
  | some p =>
    have faults : fs ≠ [] := bad.resolve_left nofun
    cases fs with
    | nil => exact absurd rfl faults
    | cons f fs => rfl

/-- A sound object that the Placer places: the state before the placement has its plan and its streams, each of them IDLE. -/
theorem exec_planLoadComplete_places {p : Plan} {pl : Placement} (hl : s.loading = some (some p, []))
    (hp : ({ s with loading := none } : State).makePlacement p 1 = .ok pl) :
    ∃ x : State, exec .planLoadComplete s = .next ((x.usePlacement pl).result PD.PLAN_STATUS planLoaded) ∧ x.pd = s.pd
      ∧ x.plan = some p ∧ x.loading = none ∧ x.streams = (List.range p.streams.length).map fun i => (i, ({ st := .idle } : Stream)) := by
  change ∃ x : State, execPlanLoadComplete s = _ ∧ _
  unfold execPlanLoadComplete
  rw [if_neg (by rw [runs]; decide), hl]
  dsimp only
  rw [if_neg (by decide), hp]
  exact ⟨_, rfl, rfl, rfl, rfl, rfl⟩
end

end Sys2Proof.Machine

open Sys2Proof Sys2Proof.Machine

/-- Settles O25: the two commands by PLAN_STATUS and state, and the end of a load by the object's faults and the Placer's answer. -/
theorem plansLoadOnlyInHeldAndEndLoadedOrFailed : Obligations.PlansLoadOnlyInHeldAndEndLoadedOrFailed := by
  unfold Obligations.PlansLoadOnlyInHeldAndEndLoadedOrFailed
  intro s ok runs
  refine ⟨fun held nl => ⟨?load, ?unload⟩, fun nh nl => ?elsewhere, fun h => ?loading, fun po fs hl bad => ?failed, fun p pl hl hp => ?loaded⟩
  case load =>
    obtain ⟨r, h⟩ := State.planCommand_load nl held
    exact ⟨_, r, congrArg Host.Outcome.next h, State.num_setNum, rfl, rfl, rfl, rfl⟩
  case unload =>
    refine ⟨_, congrArg Host.Outcome.next (State.planCommand_unload nl held), State.num_result .., ?_⟩
    rw [State.result_plan, State.result_place, State.result_streams, State.result_layers]
    exact ⟨rfl, rfl, rfl, rfl⟩
  case elsewhere =>
    exact ⟨_, _, congrArg Host.Outcome.next (State.planCommand_elsewhere nl (.inl rfl) nh runs),
      congrArg Host.Outcome.next (State.planCommand_elsewhere nl (.inr rfl) nh runs),
      State.num_result .., State.num_result .., State.result_plan .., State.result_plan .., State.result_streams .., State.result_streams ..⟩
  case loading => exact ⟨congrArg Host.Outcome.next (State.planCommand_loading h), congrArg Host.Outcome.next (State.planCommand_loading h)⟩
  case failed =>
    exact ⟨_, exec_planLoadComplete_faults runs hl bad, State.planFails_status .., State.planFails_faults .., State.planFails_plan ..,
      State.planFails_loading ..⟩
  case loaded =>
    obtain ⟨x, next, pd, plan, idle, streams⟩ := exec_planLoadComplete_places runs hl hp
    have okx : x.dictOk = true := by unfold State.dictOk at ok ⊢; rw [pd]; exact ok
    refine ⟨_, next, State.num_result .., ?_⟩
    rw [State.result_plan, State.result_place, State.result_loading, State.result_streams, State.num_result_ne _ _ _ (by decide),
      State.usePlacement_plan, State.usePlacement_place, State.usePlacement_loading, State.usePlacement_streams,
      State.usePlacement_version pl okx, State.num_of_pd pd]
    exact ⟨plan, rfl, idle, streams, rfl⟩
end

section
/-! Refutation about a boundary's placement (R113, R114): what PLACEMENT reports when the Placer fails, a layer that finds no cells, and the
statement PlacementsAndOperationsFollowTheArraySequence, which lists the Placer's faults as they are where the model, by R114, turns
LAYER_TOO_LARGE into NO_FIT. -/
namespace Sys2Proof.Machine

/-! ## A placement that fails (R114) -/

/-- A fault of the Placer as a boundary reports it: a layer that 64 sections do not hold, LAYER_TOO_LARGE at a load, is NO_FIT here. -/
def PlanFault.atBoundary (f : PlanFault) : PlanFault := if f.code = 6 then { f with code := 7 } else f

/-- The state in which a due placement is made: the blocks set aside have retired, and the boundary's triggers are answered. -/
def State.toPlace (s : State) : State := { s.retireDue with triggers := s.triggers, placeDue := 0 }

/-- With no block set aside only the boundary's triggers are answered. -/
theorem State.toPlace_of_none_aside {s : State} (h : s.faults.retireBlocks = []) : s.toPlace = { s with placeDue := 0 } := by
  have same : s.retireDue = s := by
    unfold State.retireDue
    rw [h]
    exact congrArg (fun r => { s with faults := { s.faults with retireBlocks := r } }) h.symm
  unfold State.toPlace
  rw [same]

section
variable (s : State)

theorem State.run_retireDue : Run 39994735476736 [0xA10001, 0xA10006] s s.retireDue := retireDue_run rfl (fun _ => id) (Run.refl _ _ s)

@[simp] theorem State.retireDue_placeDue : s.retireDue.placeDue = s.placeDue := s.run_retireDue.part .placeDue rfl

theorem State.dictOk_toPlace (w : s.dictOk = true) : s.toPlace.dictOk = true := s.run_retireDue.dict w

theorem State.dictOk_planFails (w : s.dictOk = true) (fs : List PlanFault) : (s.planFails fs).dictOk = true :=
  (planFails_run (f := 35596688949248) rfl (fun _ => id) (Run.refl _ _ s)).dict w

/-- The spall, the VOID vote and HELD that follow a failed placement. -/
theorem State.run_placementVoids (sp : Spall) (r : Nat) :
    Run 40067199190721 [0x600002, 0x600003, 0x600004, 0x600007, 0x600203, 0xA10001, 0xA10006] s (((s.spall sp).reasonOrNext r).hold r) :=
  hold_run rfl (fun _ => id) (reasonOrNext_run rfl (by decide) (spall_run rfl (by decide) (Run.refl _ _ s)))
end

/-- A boundary's placement that the Placer refuses lists its faults in PLAN_FAULTS, LAYER_TOO_LARGE as NO_FIT. -/
theorem exec_placement_fails {s : State} {p : Plan} {old : Placement} {fs : List PlanFault} (ok : s.dictOk = true)
    (runs : s.mode.hubRuns = true) (due : s.placeDue ≠ 0) (closed : s.step.opened = false) (nu : s.step.updating = false)
    (nw : s.step.writing = false) (hp : s.plan = some p) (ho : s.place = some old) (hf : s.toPlace.makePlacement p s.placeDue = .error fs) :
    ∃ u, exec .placement s = .next u
      ∧ u.rows PD.PLAN_FAULTS = ((fs.map PlanFault.atBoundary).take 4096).map fun f => [f.code, f.obj, f.field] := by
  let x := s.toPlace.planFails (fs.map PlanFault.atBoundary)
  let sp : Spall := { kind := 0x25, level := 3, mech := 17, outcome := 3, detail := [detailUint 0 ((fs.head?.map (·.obj)).getD 0)] }
  have next : exec .placement s = .next (((x.spall sp).reasonOrNext rsPlacement).hold rsPlacement) := by
    change execPlacement s = _
    unfold execPlacement
    rw [if_neg (by simp [runs, due, closed, nu, nw]), hp, ho]
    dsimp only
    rw [State.retireDue_placeDue]
    split
    · next pl h => exact absurd (h.symm.trans hf) nofun
    · next fs' h =>
      obtain rfl : fs' = fs := Except.error.inj (h.symm.trans hf)
      rfl
  refine ⟨_, next, ?_⟩
  rw [(x.run_placementVoids sp rsPlacement).rows_eq (State.dictOk_planFails _ (s.dictOk_toPlace ok) _) rfl (by decide)]
  exact State.planFails_faults ..

/-! ## A layer that finds no cells (R98) -/

/-- A die whose blocks have all retired has no working cells. -/
theorem State.workingCells_of_retired {s : State} {die leaf : Nat} (h : ∀ b < 128, die * 128 + b ∈ s.faults.retiredBlocks) :
    s.workingCells die leaf = [] :=
  List.flatMap_eq_nil_iff.2 fun b hb => if_pos (List.contains_iff_mem.2 (h b (List.mem_range.1 hb)))

theorem total_eq_zero : ∀ {l : List Nat}, (∀ n ∈ l, n = 0) → total l = 0
  | [], _ => rfl
  | n :: l, h => by
    obtain ⟨rfl, tail⟩ := List.forall_mem_cons.1 h
    exact total_eq_zero (l := l) tail

theorem placeReload_of_no_cells (i : Nat) (l : Layer) (wf leaf micro : Nat) {cells : List (List Nat)} (h : ∀ c ∈ cells, c = []) :
    placeReload i l wf leaf micro cells = none := by
  refine if_pos (total_eq_zero fun n hn => ?_)
  obtain ⟨c, hc, rfl⟩ := List.mem_map.1 hn
  rw [h c hc]
  exact Nat.zero_div _

/-- A RELOAD plan of one array layer, with no working cell left: the layer is too large. -/
theorem State.makePlacement_of_no_cells {s : State} {p : Plan} {l : Layer} (reload : p.mode = 2) (hl : p.layers = [l]) (array : l.kind = 1)
    (rung : s.rung 0 < 3) (retired : ∀ k < 1024, k ∈ s.faults.retiredBlocks) (triggers : Nat) :
    s.makePlacement p triggers = .error [⟨6, 0, 10⟩] := by
  have refused (wf leaf : Nat) :
      placeReload 0 l wf leaf p.microTokens ((List.range 8).map fun d => s.workingCells d leaf) = none := by
    refine placeReload_of_no_cells _ _ _ _ _ fun c hc => ?_
    obtain ⟨d, hd, rfl⟩ := List.mem_map.1 hc
    have hd : d < 8 := List.mem_range.1 hd
    exact State.workingCells_of_retired fun b hb => retired _ (by omega)
  unfold State.makePlacement
  simp [reload, hl, array, rung, refused]

/-! ## The counterexample: a W4A4 layer in RELOAD at a boundary at which every block has retired -/

namespace RetiredBoundary

def layer : Layer :=
  { kind := 1, wFormat := 0x18, aFormat := 0x02, rowGroup := 1, doubleStrike := 0, pin := false, noCkpt := false, k := 128, n := 128,
    weight := 0, groutG := 0 }

def plan : Plan :=
  { mode := 2, microTokens := 128, layers := [layer], tensors := [], streams := [], sched := [⟨0, false, 0, 0⟩],
    ckptRegion := 0, digest := [], rules := [] }

/-- The placement of the step before: the layer in one cell of leaf A. -/
def before : Placement :=
  { mode := 2, layers := [⟨0, 0, 0x18, 1, 1, 1, 1, [⟨0, 0, 0, 0, [0]⟩]⟩], stations := [], homes := [], updDie := [], ckpts := [], ckptK := 0,
    sequence := [⟨0, 0, 0, 0, false⟩], rings := [], triggers := 1 }

/-- RUN between two steps, with the trigger of the retirements due. -/
def state : State :=
  { mode := .run, ready := true, resetN := true, plan := some plan, place := some before, placeDue := 2,
    faults := { retiredBlocks := List.range 1024 } }

theorem toPlace_state : state.toPlace = { state with placeDue := 0 } := State.toPlace_of_none_aside rfl

theorem makePlacement_state : state.toPlace.makePlacement plan state.placeDue = .error [⟨6, 0, 10⟩] := by
  rw [toPlace_state]
  exact State.makePlacement_of_no_cells rfl rfl rfl (by decide) (fun k hk => by simpa [state] using hk) _

end RetiredBoundary

end Sys2Proof.Machine

open Sys2Proof Sys2Proof.Machine

/-- Refutes O26: a layer that finds no cells at a boundary is LAYER_TOO_LARGE (6) to the Placer, and PLAN_FAULTS lists it as NO_FIT (7), as
R114 asks; the statement lists the Placer's faults unchanged. -/
theorem not_placementsAndOperationsFollowTheArraySequence : ¬ Obligations.PlacementsAndOperationsFollowTheArraySequence := by
  unfold Obligations.PlacementsAndOperationsFollowTheArraySequence
  rintro ⟨placement, -, -⟩
  obtain ⟨-, fails⟩ := placement RetiredBoundary.state RetiredBoundary.plan RetiredBoundary.before (by decide) rfl (by decide) rfl rfl rfl rfl rfl
  obtain ⟨u, next, -, -, claimed, -⟩ := fails _ RetiredBoundary.makePlacement_state
  obtain ⟨v, next', listed⟩ := exec_placement_fails (by decide) rfl (by decide) rfl rfl rfl rfl rfl RetiredBoundary.makePlacement_state
  obtain rfl : u = v := Host.Outcome.next.inj (next.symm.trans next')
  exact absurd (claimed.symm.trans listed) (by decide)
end

section
/-! Proofs of the weight writes (R137, R146, R148): reading the counters of the arrays and the cells, what WEIGHT_WRITE does with the row it
writes and its read-backs, and the statement WeightRowsAreVerifiedRemappedOrRetireTheCell. -/
namespace Sys2Proof.Machine

/-! ## Array counters (R150) -/

section
variable {s : State} {g k n : Nat}

theorem State.num_arr (nd : k ≠ PD.ARR_DIE_STATS) : (s.arr g k n).num k = (s.num k + n) % 2 ^ 64 :=
  (State.num_setRows_ne nd).trans State.num_bumpBy

theorem State.num_arr_ne {j : Nat} (ne : j ≠ k) (nd : j ≠ PD.ARR_DIE_STATS) : (s.arr g k n).num j = s.num j :=
  (State.num_setRows_ne nd).trans (State.num_bumpBy_ne ne)

theorem State.dictOk_arr (w : s.dictOk = true) : (s.arr g k n).dictOk = true := State.dictOk_setRows (State.dictOk_bumpBy w)

@[simp] theorem State.arr_faults : (s.arr g k n).faults = s.faults := rfl
@[simp] theorem State.cell_arr (i : Nat) : (s.arr g k n).cell i = s.cell i := rfl

/-- What a row is to hold rests on the stack copy and the placement, not on the counters. -/
theorem State.intendedRow_arr (l : Layer) (wf : Nat) (cp : CellPlace) (part : Nat) (c : Cell) (r : Nat) :
    (s.arr g k n).intendedRow l wf cp part c r = s.intendedRow l wf cp part c r := rfl
end

/-! ## Cells -/

section
variable (s : State) (g : Nat) (c : Cell)

@[simp] theorem State.cell_setCell : (s.setCell g c).cell g = c := kvGet_set_same _ _ _ _
@[simp] theorem State.num_setCell (k : Nat) : (s.setCell g c).num k = s.num k := rfl

theorem State.cell_of_cells {s t : State} (h : t.cells = s.cells) (g : Nat) : t.cell g = s.cell g := by
  unfold State.cell; rw [h]

theorem Cell.row_setRow (r : Nat) (v : BitVec 536) : ({ c with rows := kvSet rowDefault c.rows r v } : Cell).row r = v := kvGet_set_same _ _ _ _
end

/-! ## The outcomes of WEIGHT_WRITE (R146, R148) -/

/-- The wrong columns of each read-back that a row's write may take. -/
def State.readBacks (s : State) (g : Nat) (wrong : List (List Nat)) : List (List Nat) :=
  (List.range (max 1 (s.num PD.WRITE_VERIFY_LIMIT))).map fun i => (s.cell g).wrongIn ((wrong[i]?).getD [])

/-- Every one of some bit-columns goes to a free usable spare, if there are enough. -/
def Cell.remapAll (c : Cell) (bad : List Nat) : Option Cell := bad.foldl (fun (x : Option Cell) b => x.bind (·.remap b)) (some c)

/-- A row that has verified after i wrong read-backs. -/
def State.rowVerified (s : State) (g row i : Nat) (v : BitVec 536) : State :=
  let s' := ((s.arr g PD.ARR_VERIFY_FAIL i).arr g PD.ARR_ROWS_WRITTEN 1).setCell g
    { s.cell g with rows := kvSet rowDefault (s.cell g).rows row v }
  { s' with arrays := { s'.arrays with writes := s'.arrays.writes.erase (g, row) } }

/-- A cell whose wrong columns have gone to spares waits to be written whole. -/
def State.columnsRemapped (s : State) (g n : Nat) (c : Cell) : State :=
  let s' := (s.arr g PD.ARR_WRITE_REMAPS n).setCell g c
  { s' with arrays := { s'.arrays with writes := s'.arrays.writes.filter (fun w => w.1 ≠ g) ++ (List.range 1024).map fun r => (g, r) } }

section
variable (s : State) (g row i n : Nat) (v : BitVec 536) (c : Cell)

theorem State.rowVerified_row : ((s.rowVerified g row i v).cell g).row row = v :=
  (congrArg (Cell.row · row) (State.cell_setCell _ g _)).trans (Cell.row_setRow _ row v)

theorem State.rowVerified_writes : (s.rowVerified g row i v).arrays.writes = s.arrays.writes.erase (g, row) := rfl

theorem State.rowVerified_verifyFail : (s.rowVerified g row i v).num PD.ARR_VERIFY_FAIL = (s.num PD.ARR_VERIFY_FAIL + i) % 2 ^ 64 :=
  (State.num_arr_ne (by decide) (by decide)).trans (State.num_arr (by decide))

theorem State.rowVerified_rowsWritten : (s.rowVerified g row i v).num PD.ARR_ROWS_WRITTEN = (s.num PD.ARR_ROWS_WRITTEN + 1) % 2 ^ 64 := by
  refine (State.num_arr (by decide)).trans ?_
  rw [State.num_arr_ne (by decide) (by decide)]

theorem State.columnsRemapped_cell : (s.columnsRemapped g n c).cell g = c := State.cell_setCell _ g c

theorem State.columnsRemapped_writes : (s.columnsRemapped g n c).arrays.writes
    = s.arrays.writes.filter (fun w => w.1 ≠ g) ++ (List.range 1024).map fun r => (g, r) := rfl

theorem State.columnsRemapped_remaps : (s.columnsRemapped g n c).num PD.ARR_WRITE_REMAPS = (s.num PD.ARR_WRITE_REMAPS + n) % 2 ^ 64 :=
  State.num_arr (by decide)

theorem State.columnsRemapped_num {k : Nat} (ne : k ≠ PD.ARR_WRITE_REMAPS) (nd : k ≠ PD.ARR_DIE_STATS) :
    (s.columnsRemapped g n c).num k = s.num k := State.num_arr_ne ne nd

/-- A retirement counts none of the array's write counters but that of the rows which a takeover finds unchanged. -/
theorem State.run_retireArrayCell (cause mech : Nat) :
    Run 40067199198913 [0x320104, 0x40100D, 0x401101, 0x507003, 0x600002, 0x600003, 0x600004, 0x600007, 0x600203, 0xA10001, 0xA10006]
      s (s.retireArrayCell g cause mech) := retireArrayCell_run rfl (fun _ => id) (Run.refl _ _ s)
end

section
variable {s : State} {g row : Nat} {wrong : List (List Nat)} {o : ArrayOp} {l : Layer} {wf : Nat} {cp : CellPlace}
variable (works : s.mode.working = true) (waits : (g, row) ∈ s.arrays.writes) (noRuns : (s.cell g).runs = [])
variable (fresh : (s.cell g).todo.all (fun h => !h.half && !h.retried && !h.digital) = true) (loaded : s.loadedFor g = some (o, l, wf, cp))
include works waits noRuns fresh loaded

/-- A row that waits, in a cell with nothing half done: its read-backs decide between the row, the spares and the retirement. -/
theorem exec_weightWrite_waiting : exec (.weightWrite g row wrong) s =
    match (s.readBacks g wrong).findIdx? (·.isEmpty) with
    | some i => .next (s.rowVerified g row i (s.intendedRow l wf cp o.part (s.cell g) row))
    | none =>
      let x := s.arr g PD.ARR_VERIFY_FAIL (s.readBacks g wrong).length
      match (s.cell g).remapAll (s.readBacks g wrong).flatten.eraseDups with
      | some c => .next (x.columnsRemapped g (s.readBacks g wrong).flatten.eraseDups.length c)
      | none => .next ((x.arr g PD.ARR_WRITE_RETIRES 1).retireArrayCell g 1 3) := by
  have none_half_done : (s.cell g).todo.any (fun h => h.half || h.retried || h.digital) = false := by
    rw [List.any_eq_false]
    intro h mem
    have := List.all_eq_true.1 fresh h mem
    simpa [and_assoc] using this
  have acts : ¬((!s.mode.working) = true ∨ (!s.arrays.writes.contains (g, row)) = true ∨ (!(s.cell g).runs.isEmpty) = true
      ∨ (s.cell g).todo.any (fun h => h.half || h.retried || h.digital) = true) := by
    simp [works, waits, noRuns, none_half_done]
  change execWeightWrite g row wrong s = _
  unfold execWeightWrite
  dsimp only
  rw [if_neg acts, loaded]
  simp only [State.intendedRow_arr]
  rfl

theorem exec_weightWrite_verifies {i : Nat} (hi : (s.readBacks g wrong).findIdx? (·.isEmpty) = some i) :
    exec (.weightWrite g row wrong) s = .next (s.rowVerified g row i (s.intendedRow l wf cp o.part (s.cell g) row)) := by
  rw [exec_weightWrite_waiting works waits noRuns fresh loaded, hi]

variable (never : (s.readBacks g wrong).findIdx? (·.isEmpty) = none)
include never

theorem exec_weightWrite_remaps {c : Cell} (hc : (s.cell g).remapAll (s.readBacks g wrong).flatten.eraseDups = some c) :
    exec (.weightWrite g row wrong) s = .next ((s.arr g PD.ARR_VERIFY_FAIL (s.readBacks g wrong).length).columnsRemapped g
      (s.readBacks g wrong).flatten.eraseDups.length c) := by
  rw [exec_weightWrite_waiting works waits noRuns fresh loaded, never]
  dsimp only
  rw [hc]

theorem exec_weightWrite_retires (hc : (s.cell g).remapAll (s.readBacks g wrong).flatten.eraseDups = none) :
    exec (.weightWrite g row wrong) s
      = .next (((s.arr g PD.ARR_VERIFY_FAIL (s.readBacks g wrong).length).arr g PD.ARR_WRITE_RETIRES 1).retireArrayCell g 1 3) := by
  rw [exec_weightWrite_waiting works waits noRuns fresh loaded, never]
  dsimp only
  rw [hc]
end

end Sys2Proof.Machine

open Sys2Proof Sys2Proof.Machine

/-- Settles O28: the first clean read-back writes the row; with none, the spares take the wrong columns or the cell retires. -/
theorem weightRowsAreVerifiedRemappedOrRetireTheCell : Obligations.WeightRowsAreVerifiedRemappedOrRetireTheCell := by
  unfold Obligations.WeightRowsAreVerifiedRemappedOrRetireTheCell
  intro s g row wrong o l wf cp ok works waits noRuns fresh loaded
  refine ⟨fun i hi => ?verified, fun c' never hc => ?remapped, fun never hc => ?retired⟩
  case verified =>
    exact ⟨_, exec_weightWrite_verifies works waits noRuns fresh loaded hi, State.rowVerified_row .., State.rowVerified_writes ..,
      State.rowVerified_verifyFail .., State.rowVerified_rowsWritten ..⟩
  case remapped =>
    refine ⟨_, exec_weightWrite_remaps works waits noRuns fresh loaded never hc, State.columnsRemapped_cell .., State.columnsRemapped_writes ..,
      ?_, ?_⟩
    · rw [State.columnsRemapped_num _ _ _ _ (by decide) (by decide), State.num_arr (by decide)]; rfl
    · rw [State.columnsRemapped_remaps, State.num_arr_ne (by decide) (by decide)]; rfl
  case retired =>
    have okx {n : Nat} : ((s.arr g PD.ARR_VERIFY_FAIL n).arr g PD.ARR_WRITE_RETIRES 1).dictOk = true := State.dictOk_arr (State.dictOk_arr ok)
    refine ⟨_, exec_weightWrite_retires works waits noRuns fresh loaded never hc, ?_, ?_⟩
    · rw [(State.run_retireArrayCell ..).num_eq okx rfl (by decide), State.num_arr_ne (by decide) (by decide), State.num_arr (by decide)]; rfl
    · rw [(State.run_retireArrayCell ..).num_eq okx rfl (by decide), State.num_arr (by decide), State.num_arr_ne (by decide) (by decide)]
end

section
/-! Proofs of the strikes (R124, R125, R129, R130, R134, R135, R474): what a strike counts and what its cell owes after it, by the over-range
columns and the witnesses, and the statement StrikesAreAcceptedReplayedOrRetried. -/
namespace Sys2Proof.Machine

/-! ## Accepted codes (R141) -/

section
variable (s : State) (o : ArrayOp) (l : Layer) (cp : CellPlace) (g used : Nat) (h : StrikePos) (phases : Nat) (codes : List Nat)
  (rest : List StrikePos)

theorem State.promoteRuns_cells (c : Cell) (rs : List NarrowRun) : (s.each rs fun s r => s.promoteRun o l cp g c r).cells = s.cells :=
  (each_run (fun _ _ k => promoteRun_run (f := 268436480) rfl (fun _ => id) k) (Run.refl _ _ s)).part .cells rfl

/-- A cell owes the rest once the codes of a strike are accepted: promoting a run leaves the cells alone. -/
theorem State.todo_accept : ((s.accept o l cp g h phases codes rest).cell g).todo = rest := by
  unfold State.accept
  dsimp only
  split
  · rw [State.cell_setCell]
  · rw [State.cell_of_cells (State.promoteRuns_cells ..), State.cell_setCell]

theorem State.todo_acceptCodes : ((s.acceptCodes o l cp g used h phases codes rest).cell g).todo = rest := State.todo_accept ..

theorem State.run_acceptCodes :
    Run 269222912 [0x40100B, 0x401101, 0x507002, 0x508201, 0x508202, 0x508203, 0x508204, 0x600004] s
      (s.acceptCodes o l cp g used h phases codes rest) := acceptCodes_run rfl (fun _ => id) (Run.refl _ _ s)
end

/-! ## A 256-row strike over range (R129, R130) -/

/-- A cell as the unit that its faults name (R475). -/
abbrev cellUnit (g : Nat) : FaultUnit := ⟨g / 2048, g % 2048 / 16, g % 16⟩

/-- The halves in which a discarded 256-row strike goes in again. -/
def State.replayHalves (s : State) (h : StrikePos) (bs : List Bool) : List StrikePos :=
  ((List.range 2).filter fun i => !(s.flag PD.SKIP_ZERO_PHASES && !((bs.drop (128 * i)).take 128).any id)).map
    fun i => { h with row := h.row + 128 * i, rows := 128, half := true, retried := false }

/-- The state in which the halves go in: the strike counted as over range, for the cell and for the choice of the layer's row groups. -/
def State.overRangeNoted (s : State) (o : ArrayOp) (l : Layer) (g : Nat) (h : StrikePos) (overs used : Nat) : State :=
  let s := (s.arr g PD.ARR_OVERRANGE 1).closeWindow 0 (cellUnit g)
  if s.autoDense l ∧ !o.recompute ∧ !h.extra then
    let r := s.rowMode o.layer
    s.setRowMode { r with pairs := r.pairs + used, overs := r.overs + overs }
  else s

section
variable (s : State) (o : ArrayOp) (l : Layer) (g : Nat) (h : StrikePos) (rest : List StrikePos) (bs : List Bool) (overs used : Nat)

theorem State.overRangeNoted_pd : (s.overRangeNoted o l g h overs used).pd = (s.arr g PD.ARR_OVERRANGE 1).pd := by
  unfold State.overRangeNoted
  dsimp only
  split <;> rfl

theorem State.splitStrike_eq : ∃ n, s.splitStrike o l g h rest bs overs used =
    let x := s.overRangeNoted o l g h overs used
    (x.setCell g { x.cell g with todo := insertReplay rest (x.replayHalves h bs) }).arr g PD.ARR_SKIPPED n := ⟨_, rfl⟩

theorem State.replayHalves_overRangeNoted : (s.overRangeNoted o l g h overs used).replayHalves h bs = s.replayHalves h bs := by
  have skip : (s.overRangeNoted o l g h overs used).flag PD.SKIP_ZERO_PHASES = s.flag PD.SKIP_ZERO_PHASES := by
    unfold State.flag
    rw [State.num_of_pd (State.overRangeNoted_pd ..), State.num_arr_ne (by decide) (by decide)]
  unfold State.replayHalves
  rw [skip]

theorem State.todo_splitStrike : ((s.splitStrike o l g h rest bs overs used).cell g).todo = insertReplay rest (s.replayHalves h bs) := by
  obtain ⟨n, split⟩ := s.splitStrike_eq o l g h rest bs overs used
  rw [split, State.cell_arr, State.cell_setCell, State.replayHalves_overRangeNoted]

theorem State.num_splitStrike {k : Nat} (ns : k ≠ PD.ARR_SKIPPED) (nd : k ≠ PD.ARR_DIE_STATS) :
    (s.splitStrike o l g h rest bs overs used).num k = (s.arr g PD.ARR_OVERRANGE 1).num k := by
  obtain ⟨n, split⟩ := s.splitStrike_eq o l g h rest bs overs used
  rw [split, State.num_arr_ne ns nd, State.num_setCell, State.num_of_pd (State.overRangeNoted_pd ..)]
end

/-! ## A failed strike (R135, R474, R475) -/

section
variable (s : State) (u : FaultUnit) (mech : Nat)

/-- Beyond its own count a confirmation changes what the retirement that may follow changes. -/
theorem State.run_confirm : Run 39994735476736 [0xA00108, 0xA10001, 0xA10006] (s.bump PD.REPEATS_CONFIRMED) (s.confirm u mech) := by
  unfold State.confirm
  dsimp only
  have suspected : ∀ r, Run 39994735476736 [0xA00108, 0xA10001, 0xA10006] (s.bump PD.REPEATS_CONFIRMED)
      { s.bump PD.REPEATS_CONFIRMED with faults := r } := fun _ => run_upd_faults rfl (Run.refl _ _ _)
  have retiring := fun r => bump_run (k := PD.SUSPECT_RETIREMENTS) (by simp) (suspected r)
  split
  · split
    · exact retireBlock_run rfl (by simp) (retiring _)
    · exact retireCell_run rfl (by simp) (retiring _)
  · exact suspected _

variable {s}

theorem State.num_confirm (w : s.dictOk = true) : (s.confirm u mech).num PD.REPEATS_CONFIRMED = (s.num PD.REPEATS_CONFIRMED + 1) % 2 ^ 64 :=
  ((s.run_confirm u mech).num_eq (State.dictOk_bump w) rfl (by decide)).trans State.num_bump

theorem State.num_confirm_ne (w : s.dictOk = true) {k : Nat} (ne : k ≠ PD.REPEATS_CONFIRMED) (h : k ∉ [0xA00108, 0xA10001, 0xA10006]) :
    (s.confirm u mech).num k = s.num k :=
  ((s.run_confirm u mech).num_eq (State.dictOk_bump w) rfl h).trans (State.num_bump_ne ne)
end

section
variable {s : State} {o : ArrayOp} {l : Layer} {cp : CellPlace} {g : Nat} {h : StrikePos} {phases : Nat} {rest : List StrikePos} {f : StrikeFault}

@[simp] theorem State.num_openWindow (level : Nat) (u : FaultUnit) (seq k : Nat) : (s.openWindow level u seq).num k = s.num k := rfl

theorem State.escalate_alone {level : Nat} {u : FaultUnit} (alone : s.coinciding level u = none) : s.escalate level u = (level, s) := by
  unfold State.escalate
  rw [alone]

/-- A first failure with no other recovery open puts the strike in again, marked retried. -/
theorem State.strikeFailed_first (first : h.retried = false) (alone : s.coinciding 0 (cellUnit g) = none) :
    s.strikeFailed o l cp g h phases rest f = (s.openWindow 0 (cellUnit g) 0).setCell g
      { s.cell g with todo := insertReplay rest [{ h with retried := true }] } := by
  unfold State.strikeFailed
  dsimp only
  rw [State.escalate_alone alone]
  exact if_pos (by rw [first]; rfl)

variable (s o l cp g phases rest f)

/-- The state in which a failed retry has passed to the block: its spall `p` recorded, counted, and the repeat confirmed. -/
def State.passedToBlock (s : State) (g : Nat) (p : Spall) : State :=
  (((s.closeWindow 0 (cellUnit g)).spall p).bump PD.ESC_CELL_TO_BLOCK).confirm (cellUnit g) 0

/-- A failed retry: once the block has it, the cell is taken over if it has retired, and its strike is substituted otherwise. -/
theorem State.strikeFailed_retried (again : h.retried = true) : ∃ p seq, s.strikeFailed o l cp g h phases rest f =
    let x := s.passedToBlock g p
    if x.faults.retiredCells.contains g then (x.setCell g { x.cell g with todo := { h with retried := false } :: rest }).takeover o g
    else x.substitute o l cp g h phases rest seq :=
  ⟨_, _, if_neg (by rw [again]; decide)⟩

theorem State.run_strikeFailed_retried (again : h.retried = true) : ∃ p, Run 40067199198913
    [0x110102, 0x110103, 0x320104, 0x40100B, 0x40100D, 0x401101, 0x507002, 0x507003, 0x508201, 0x508202, 0x508203, 0x508204, 0x600002, 0x600003,
      0x600004, 0x600007, 0x600203, 0xA10001, 0xA10006] (s.passedToBlock g p) (s.strikeFailed o l cp g h phases rest f) := by
  obtain ⟨p, seq, failed⟩ := s.strikeFailed_retried o l cp g phases rest f again
  refine ⟨p, ?_⟩
  rw [failed]
  exact ite_run (takeover_run rfl (sbk (fun _ => id) rfl) (setCell_run rfl (by simp) (Run.refl _ _ _)))
    (substitute_run rfl (sbk (fun _ => id) rfl) (Run.refl _ _ _))

theorem State.run_windowSpall (p : Spall) : Run 39994735460352 [0xA10001, 0xA10006] s ((s.closeWindow 0 (cellUnit g)).spall p) :=
  spall_run rfl (fun _ => id) (closeWindow_run rfl (by simp) (Run.refl _ _ s))

variable (w : s.dictOk = true)
include w

theorem State.passedToBlock_counts (p : Spall) : (s.passedToBlock g p).dictOk = true
    ∧ (s.passedToBlock g p).num PD.ESC_CELL_TO_BLOCK = (s.num PD.ESC_CELL_TO_BLOCK + 1) % 2 ^ 64
    ∧ (s.passedToBlock g p).num PD.REPEATS_CONFIRMED = (s.num PD.REPEATS_CONFIRMED + 1) % 2 ^ 64 := by
  have recorded := s.run_windowSpall g p
  have counted : (((s.closeWindow 0 (cellUnit g)).spall p).bump PD.ESC_CELL_TO_BLOCK).dictOk = true :=
    State.dictOk_bump (recorded.dict w)
  refine ⟨(State.run_confirm ..).dict (State.dictOk_bump counted), ?_, ?_⟩
  · exact (State.num_confirm_ne _ _ counted (by decide) (by decide)).trans (by rw [State.num_bump, recorded.num_eq w rfl (by decide)])
  · refine (State.num_confirm _ _ counted).trans ?_
    rw [State.num_bump_ne (by decide), recorded.num_eq w rfl (by decide)]

theorem State.strikeFailed_retried_counts (again : h.retried = true) :
    (s.strikeFailed o l cp g h phases rest f).num PD.ESC_CELL_TO_BLOCK = (s.num PD.ESC_CELL_TO_BLOCK + 1) % 2 ^ 64
    ∧ (s.strikeFailed o l cp g h phases rest f).num PD.REPEATS_CONFIRMED = (s.num PD.REPEATS_CONFIRMED + 1) % 2 ^ 64 := by
  obtain ⟨p, run⟩ := s.run_strikeFailed_retried o l cp g phases rest f again
  obtain ⟨ok, passed, confirmed⟩ := s.passedToBlock_counts g w p
  rw [run.num_eq ok rfl (by decide), run.num_eq ok rfl (by decide)]
  exact ⟨passed, confirmed⟩

theorem State.strikeFailed_mismatches : (s.strikeFailed o l cp g h phases rest f).num PD.ARR_WIT_MISMATCH = s.num PD.ARR_WIT_MISMATCH :=
  (strikeFailed_run (f := 40067199198913) rfl (fun _ => id) (Run.refl _ _ s)).num_eq w rfl (by decide)
end

/-! ## The outcomes of STRIKE (R124) -/

/-- The weight columns in use of a cell's slice, as data bit-columns. -/
def State.usedColumns (s : State) (o : ArrayOp) (l : Layer) (cp : CellPlace) : Nat :=
  weightBits (s.wFormat o.layer) * slotsOf l (s.wFormat o.layer) (sliceOf cp.place cp.group (s.wFormat o.layer) o.part)

/-- The input bits of a strike. -/
def State.strikeBits (s : State) (o : ArrayOp) (cp : CellPlace) (d : Desc) (h : StrikePos) : List Bool :=
  let images := s.opImages o.recompute o.micro d
  inputRow images.1 d images.2 h.token cp.q h.row h.rows h.phase

/-- The code that counts for a target. -/
def Cell.codeAt (c : Cell) (codes : List Byte) (t : Nat) : Nat := ((codes[c.route t]?).map (·.toNat)).getD 0

/-- The columns in use that are over range. -/
def Cell.overRange (c : Cell) (overs : List Bool) (used : Nat) : List Nat :=
  (List.range used).filter fun t => (overs[c.route t]?).getD false

/-- The witnesses that are off by more than the tolerance (R134). -/
def Cell.badWitnesses (c : Cell) (tol : Nat) (h : StrikePos) (bs : List Bool) (codes : List Byte) : List Nat :=
  (List.range 8).filter fun k => tol < absDiff (c.codeAt codes (528 + k)) (witnessCount h bs k)

/-- A strike is counted, as an added repetition and as a replayed half where it is one. -/
def State.struck (s : State) (g : Nat) (h : StrikePos) : State :=
  ((s.arr g PD.ARR_STRIKES 1).arr g PD.ARR_DOUBLE_EXTRA (b2n (h.extra && !h.retried && !h.half))).arr g PD.ARR_REPLAY_HALVES
    (b2n (h.half && !h.retried))

section
variable (s : State) (g : Nat) (h : StrikePos)

@[simp] theorem State.struck_faults : (s.struck g h).faults = s.faults := by simp only [State.struck, State.arr_faults]

theorem State.dictOk_struck (w : s.dictOk = true) : (s.struck g h).dictOk = true := State.dictOk_arr (State.dictOk_arr (State.dictOk_arr w))

theorem State.num_struck : (s.struck g h).num PD.ARR_STRIKES = (s.num PD.ARR_STRIKES + 1) % 2 ^ 64 :=
  (State.num_arr_ne (by decide) (by decide)).trans ((State.num_arr_ne (by decide) (by decide)).trans (State.num_arr (by decide)))

theorem State.num_struck_ne {k : Nat} (hk : k ∉ [PD.ARR_STRIKES, PD.ARR_DOUBLE_EXTRA, PD.ARR_REPLAY_HALVES, PD.ARR_DIE_STATS]) :
    (s.struck g h).num k = s.num k := by
  obtain ⟨n1, n2, n3, nd⟩ : k ≠ PD.ARR_STRIKES ∧ k ≠ PD.ARR_DOUBLE_EXTRA ∧ k ≠ PD.ARR_REPLAY_HALVES ∧ k ≠ PD.ARR_DIE_STATS := by
    simpa only [List.mem_cons, List.not_mem_nil, or_false, not_or] using hk
  exact (State.num_arr_ne n3 nd).trans ((State.num_arr_ne n2 nd).trans (State.num_arr_ne n1 nd))

theorem State.witTol_struck (rows : Nat) : (s.struck g h).witTol rows = s.witTol rows := by
  unfold State.witTol
  split
  · exact s.num_struck_ne g h (by decide)
  · split <;> exact s.num_struck_ne g h (by decide)

theorem State.replayHalves_struck (bs : List Bool) : (s.struck g h).replayHalves h bs = s.replayHalves h bs := by
  unfold State.replayHalves State.flag
  rw [s.num_struck_ne g h (by decide)]
end

/-- A strike with a bad witness is counted as a mismatch. -/
def State.mismatched (s : State) (g : Nat) (h : StrikePos) : State := (s.struck g h).arr g PD.ARR_WIT_MISMATCH 1

/-- A good retry shows that its failure was transient, and ends its recovery. -/
def State.retrySettled (s : State) (g : Nat) (h : StrikePos) : State :=
  if h.retried then ((s.arr g PD.ARR_WIT_RETRY_OK 1).bump PD.REPEATS_TRANSIENT).closeWindow 0 (cellUnit g) else s

section
variable (s : State) (g : Nat) (h : StrikePos)

theorem State.dictOk_mismatched (w : s.dictOk = true) : (s.mismatched g h).dictOk = true := State.dictOk_arr (s.dictOk_struck g h w)

theorem State.num_mismatched : (s.mismatched g h).num PD.ARR_WIT_MISMATCH = (s.num PD.ARR_WIT_MISMATCH + 1) % 2 ^ 64 := by
  refine (State.num_arr (by decide)).trans ?_
  rw [s.num_struck_ne g h (by decide)]

theorem State.num_mismatched_strikes : (s.mismatched g h).num PD.ARR_STRIKES = (s.num PD.ARR_STRIKES + 1) % 2 ^ 64 :=
  (State.num_arr_ne (by decide) (by decide)).trans (s.num_struck g h)

theorem State.num_mismatched_ne {k : Nat}
    (hk : k ∉ [PD.ARR_STRIKES, PD.ARR_DOUBLE_EXTRA, PD.ARR_REPLAY_HALVES, PD.ARR_DIE_STATS]) (nm : k ≠ PD.ARR_WIT_MISMATCH) :
    (s.mismatched g h).num k = s.num k :=
  (State.num_arr_ne nm fun e => hk (by simp [e])).trans (s.num_struck_ne g h hk)

theorem State.coinciding_mismatched (level : Nat) (u : FaultUnit) : (s.mismatched g h).coinciding level u = s.coinciding level u := by
  unfold State.coinciding
  rw [State.mismatched, State.arr_faults, State.struck_faults]

theorem State.dictOk_retrySettled (w : s.dictOk = true) : (s.retrySettled g h).dictOk = true := by
  unfold State.retrySettled
  split
  · exact State.dictOk_bump (State.dictOk_arr w)
  · exact w

theorem State.num_retrySettled_strikes : (s.retrySettled g h).num PD.ARR_STRIKES = s.num PD.ARR_STRIKES := by
  unfold State.retrySettled
  split
  · exact (State.num_bump_ne (by decide)).trans (State.num_arr_ne (by decide) (by decide))
  · rfl
end

section
variable {s : State} {g : Nat} {o : ArrayOp} {h : StrikePos} {l : Layer} {cp : CellPlace} {d : Desc} {codes : List Byte} {overs : List Bool}
variable (mode : s.mode = .run ∨ s.mode = .drain) (op : s.arrays.op = some o) (hl : s.layer o.layer = some l) (hp : s.cellPlace o g = some cp)
variable (hd : s.struckDesc o.recompute h.stream h.index = some d)
include mode op hl hp hd

section
variable (written : s.arrays.writes.any (fun w => w.1 = g) = false) (next : (s.cell g).todo.find? (fun h => !h.digital) = some h)
include written next

/-- The strike that a cell with no rows to write owes first, by its over-range columns and its witnesses. -/
theorem exec_strike_owed : exec (.strike g codes overs) s =
    let rest := (s.cell g).todo.erase h
    let used := s.usedColumns o l cp
    let bs := s.strikeBits o cp d h
    let phases := phasesOf (s.opImages o.recompute o.micro d).1
    if h.rows = 256 ∧ !((s.cell g).overRange overs used).isEmpty then
      .next ((s.struck g h).splitStrike o l g h rest bs ((s.cell g).overRange overs used).length used)
    else match (s.cell g).overRange overs used, (s.cell g).badWitnesses (s.witTol h.rows) h bs codes with
      | t :: _, _ =>
        .next (((s.struck g h).arr g PD.ARR_FLAG_FAULTS 1).strikeFailed o l cp g h phases rest ⟨t, (s.cell g).codeAt codes t, none⟩)
      | [], k :: _ => .next ((s.mismatched g h).strikeFailed o l cp g h phases rest
          ⟨528 + k, (s.cell g).codeAt codes (528 + k), some (witnessCount h bs k)⟩)
      | [], [] => .next (((s.struck g h).retrySettled g h).acceptCodes o l cp g used h phases
          ((List.range 512).map ((s.cell g).codeAt codes)) rest) := by
  have running : s.mode.running = true := by rcases mode with h | h <;> rw [h] <;> rfl
  have strikes : ¬((!s.mode.running) = true ∨ s.arrays.writes.any (fun w => w.1 = g) = true) := by simp [running, written]
  change execStrike g codes overs s = _
  unfold execStrike
  dsimp only
  rw [op, next]
  dsimp only
  rw [if_neg strikes, hl, hp, hd, ← s.witTol_struck g h]
  rfl

/-- A 256-row strike with a column over range is split. -/
theorem exec_strike_splits (rows : h.rows = 256) (beyond : (s.cell g).overRange overs (s.usedColumns o l cp) ≠ []) :
    ∃ n, exec (.strike g codes overs) s = .next ((s.struck g h).splitStrike o l g h ((s.cell g).todo.erase h) (s.strikeBits o cp d h) n
      (s.usedColumns o l cp)) := by
  refine ⟨_, (exec_strike_owed mode op hl hp hd written next).trans (if_pos ⟨rows, ?_⟩)⟩
  simpa using beyond

variable (inRange : (s.cell g).overRange overs (s.usedColumns o l cp) = [])
include inRange

/-- A strike in range fails by its lowest bad witness. -/
theorem exec_strike_mismatches (off : (s.cell g).badWitnesses (s.witTol h.rows) h (s.strikeBits o cp d h) codes ≠ []) :
    ∃ phases f, exec (.strike g codes overs) s
      = .next ((s.mismatched g h).strikeFailed o l cp g h phases ((s.cell g).todo.erase h) f) := by
  obtain ⟨k, ks, bad⟩ := List.exists_cons_of_ne_nil off
  have run := exec_strike_owed (codes := codes) (overs := overs) mode op hl hp hd written next
  dsimp only at run
  rw [inRange, bad] at run
  exact ⟨_, _, run.trans (if_neg fun split => absurd split.2 (by decide))⟩

/-- A strike in range with good witnesses is accepted. -/
theorem exec_strike_accepts (good : (s.cell g).badWitnesses (s.witTol h.rows) h (s.strikeBits o cp d h) codes = []) :
    ∃ used phases values, exec (.strike g codes overs) s
      = .next (((s.struck g h).retrySettled g h).acceptCodes o l cp g used h phases values ((s.cell g).todo.erase h)) := by
  have run := exec_strike_owed (codes := codes) (overs := overs) mode op hl hp hd written next
  dsimp only at run
  rw [inRange, good] at run
  exact ⟨_, _, _, run.trans (if_neg fun split => absurd split.2 (by decide))⟩
end

/-! ## DIGITAL_SUBSTITUTION (R135) -/

/-- The first substituted strike of a cell takes its exact counts while the bridge to the gradient die runs. -/
theorem exec_digitalSubstitution_substitutes (next : (s.cell g).todo.find? (fun h => h.digital) = some h)
    (bridge : (s.bridge (g / 2048)).stopped = false) : ∃ used phases counts, exec (.digitalSubstitution g) s =
      let rest := (s.cell g).todo.erase h
      let x := (s.arr g PD.ARR_SUBSTITUTED 1).acceptCodes o l cp g used h phases counts rest
      .next (if rest.any (·.digital) then x else x.closeWindow 1 (cellUnit g)) := by
  have running : s.mode.running = true := by rcases mode with h | h <;> rw [h] <;> rfl
  refine ⟨s.usedColumns o l cp, phasesOf (s.opImages o.recompute o.micro d).1, s.exactCounts o l cp h (s.strikeBits o cp d h), ?_⟩
  change execDigitalSubstitution g s = _
  unfold execDigitalSubstitution
  dsimp only
  rw [op, next]
  dsimp only
  rw [hl, hp, hd]
  exact (if_neg (by rw [running]; decide)).trans (if_neg (by rw [bridge]; decide))
end

end Sys2Proof.Machine

open Sys2Proof Sys2Proof.Machine

/-- Settles O27: a strike splits, fails or is accepted by its over-range columns and its witnesses, and a failed retry passes to the block. -/
theorem strikesAreAcceptedReplayedOrRetried : Obligations.StrikesAreAcceptedReplayedOrRetried := by
  unfold Obligations.StrikesAreAcceptedReplayedOrRetried
  intro s g o h l cp d ok mode op hl hp hd
  refine ⟨fun codes overs written next => ⟨fun rows beyond => ?split, fun inRange off first alone => ?first, fun inRange off again => ?again,
    fun inRange good => ?accepted⟩, fun next bridge => ?substituted⟩
  case split =>
    obtain ⟨n, run⟩ := exec_strike_splits mode op hl hp hd written next rows beyond
    refine ⟨_, run, ?_, ?_, ?_⟩
    · rw [State.num_splitStrike (ns := by decide) (nd := by decide), State.num_arr (by decide), s.num_struck_ne g h (by decide)]
    · rw [State.num_splitStrike (ns := by decide) (nd := by decide), State.num_arr_ne (by decide) (by decide), s.num_struck g h]
    · rw [State.todo_splitStrike, State.replayHalves_struck]
      rfl
  case first =>
    obtain ⟨phases, f, run⟩ := exec_strike_mismatches mode op hl hp hd written next inRange off
    rw [State.strikeFailed_first first ((s.coinciding_mismatched ..).trans alone)] at run
    refine ⟨_, run, ?_, ?_, ?_⟩
    · rw [State.num_setCell, State.num_openWindow, State.num_mismatched]
    · rw [State.num_setCell, State.num_openWindow, State.num_mismatched_strikes]
    · rw [State.cell_setCell]
  case again =>
    obtain ⟨phases, f, run⟩ := exec_strike_mismatches mode op hl hp hd written next inRange off
    have okx := s.dictOk_mismatched g h ok
    obtain ⟨passed, confirmed⟩ := (s.mismatched g h).strikeFailed_retried_counts o l cp g phases ((s.cell g).todo.erase h) f okx again
    refine ⟨_, run, ?_, ?_, ?_⟩
    · exact ((s.mismatched g h).strikeFailed_mismatches o l cp g phases _ f okx).trans (s.num_mismatched g h)
    · rw [passed, s.num_mismatched_ne g h (by decide) (by decide)]
    · rw [confirmed, s.num_mismatched_ne g h (by decide) (by decide)]
  case accepted =>
    obtain ⟨used, phases, values, run⟩ := exec_strike_accepts mode op hl hp hd written next inRange good
    have okx := State.dictOk_retrySettled _ g h (s.dictOk_struck g h ok)
    refine ⟨_, run, ?_, State.todo_acceptCodes ..⟩
    rw [(State.run_acceptCodes ..).num_eq okx rfl (by decide), State.num_retrySettled_strikes, s.num_struck]
  case substituted =>
    obtain ⟨used, phases, counts, run⟩ := exec_digitalSubstitution_substitutes mode op hl hp hd next bridge
    have count {rest : List StrikePos} : ((s.arr g PD.ARR_SUBSTITUTED 1).acceptCodes o l cp g used h phases counts rest).num PD.ARR_SUBSTITUTED
        = (s.num PD.ARR_SUBSTITUTED + 1) % 2 ^ 64 :=
      ((State.run_acceptCodes ..).num_eq (State.dictOk_arr ok) rfl (by decide)).trans (State.num_arr (by decide))
    refine ⟨_, run, ?_⟩
    split <;> exact ⟨count, State.todo_acceptCodes ..⟩
end

section
/-! Proofs of the history commands (R207, R209, R212): what a command that ends at once and one that goes on leave, when HIST_SAVE writes the
object, which of its checks an object under HIST_RESTORE fails, and the statement HistoryIsSavedAndRestoredWholeOrNotAtAll. -/
namespace Sys2Proof.Machine

/-! ## A write through BAR2 (R352) -/

section
variable (s : State) (o : Nat) (bs : List Byte)

@[simp] theorem State.writeBar2_upd : (s.writeBar2 o bs).upd = s.upd :=
  (writeBar2_run (f := 8589934592) (K := []) rfl (fun _ => id) (Run.refl _ _ s)).part .upd rfl
@[simp] theorem State.writeBar2_step : (s.writeBar2 o bs).step = s.step :=
  (writeBar2_run (f := 8589934592) (K := []) rfl (fun _ => id) (Run.refl _ _ s)).part .step rfl
end

/-- What a write through the window leaves in memory rests on the memory before it alone. -/
theorem State.writeBar2_mem_congr : ∀ (bs : List Byte) (o : Nat) {s t : State}, t.mem = s.mem → (t.writeBar2 o bs).mem = (s.writeBar2 o bs).mem
  | [], _, _, _, h => h
  | b :: bs, o, s, t, h => by
    unfold State.writeBar2
    refine writeBar2_mem_congr bs (o + 1) ?_
    split
    · exact congrArg (kvSetList memDefault · _ [b]) h
    · exact h

/-! ## How a history command ends or goes on (R209) -/

section
variable (s : State) (r cmd len : Nat)

@[simp] theorem State.num_histNow : (s.histNow r).num PD.HIST_RESULT = r := State.num_result ..
@[simp] theorem State.histNow_mem : (s.histNow r).mem = s.mem := State.cause_mem _ _
@[simp] theorem State.histNow_layers : (s.histNow r).layers = s.layers := State.cause_layers _ _
@[simp] theorem State.histNow_upd : (s.histNow r).upd = { s.upd with histCmd := 0 } := State.cause_upd _ _
theorem State.num_histNow_ne {k : Nat} (ne : k ≠ PD.HIST_RESULT) : (s.histNow r).num k = s.num k := State.num_result_ne _ _ _ ne

@[simp] theorem State.num_histStart : (s.histStart cmd r len).num PD.HIST_RESULT = 1 := State.num_setNum
@[simp] theorem State.histStart_upd : (s.histStart cmd r len).upd = { s.upd with histCmd := cmd, histResult := r, histLength := len } := rfl
@[simp] theorem State.histStart_mem : (s.histStart cmd r len).mem = s.mem := rfl
@[simp] theorem State.histStart_layers : (s.histStart cmd r len).layers = s.layers := rfl
@[simp] theorem State.histStart_step : (s.histStart cmd r len).step = s.step := rfl
end

/-! ## Saving (R209) -/

section
variable {s : State} {p : Plan} (plan : s.plan = some p)
include plan

theorem State.histWrite_eq :
    s.histWrite = (s.writeBar2 (s.num PD.HIST_OFFSET) (s.histObject p)).histStart 1 0 (s.histObject p).length := by
  unfold State.histWrite
  rw [plan]

theorem State.num_histWrite : s.histWrite.num PD.HIST_RESULT = 1 := by
  rw [State.histWrite_eq plan, State.num_histStart]

theorem State.histWrite_mem : s.histWrite.mem = (s.writeBar2 (s.num PD.HIST_OFFSET) (s.histObject p)).mem := by
  rw [State.histWrite_eq plan, State.histStart_mem]

theorem State.histWrite_step : s.histWrite.step = s.step := by
  rw [State.histWrite_eq plan, State.histStart_step, State.writeBar2_step]

theorem State.histWrite_upd : s.histWrite.upd = { s.upd with histCmd := 1, histResult := 0, histLength := (s.histObject p).length } := by
  rw [State.histWrite_eq plan, State.histStart_upd, State.writeBar2_upd]
end

/-- The states in which HIST_SAVE writes the object at once (R209). -/
abbrev State.savesNow (s : State) : Prop := s.mode = .held ∨ s.mode = .armed ∨ (s.mode = .fault ∧ s.allDies = true)

theorem State.not_savesNow {s : State} (nh : s.mode ≠ .held) (na : s.mode ≠ .armed) (nf : s.mode = .fault → s.allDies = false) :
    ¬ s.savesNow := by
  rintro (held | armed | ⟨fault, dies⟩)
  · exact nh held
  · exact na armed
  · exact Bool.false_ne_true ((nf fault).symm.trans dies)

/-- A save that waits for the step boundary. -/
def State.histWaits (s : State) : State := { s.setNum PD.HIST_RESULT 1 with step := { s.step with histDue := true } }

section
variable {s : State} (runs : s.mode.hubRuns = true) (idle : s.upd.histCmd = 0) (noSave : s.step.histDue = false)
include runs idle noSave

theorem State.histCommand_not_ignored : ¬((!s.mode.hubRuns) = true ∨ s.upd.histCmd ≠ 0 ∨ s.step.histDue = true) := by
  simp [runs, idle, noSave]

theorem State.histSave_unplanned (unplanned : s.planIn = false) : s.histSave 1 = s.histNow 5 :=
  (if_neg (State.histCommand_not_ignored runs idle noSave)).trans ((if_neg (by decide)).trans (if_pos (by simp [unplanned])))

/-- With a plan LOADED, the state of the module decides between the object, the wait and WRONG_STATE. -/
theorem State.histSave_planned (planned : s.planIn = true) :
    s.histSave 1 = if s.savesNow then s.histWrite else if s.mode = .run ∨ s.mode = .drain then s.histWaits else s.histNow 4 := by
  unfold State.histSave
  rw [if_neg (State.histCommand_not_ignored runs idle noSave), if_neg (by decide), if_neg (by simp [planned])]
  split
  case h_1 held => rw [if_pos (.inl held)]
  case h_2 armed => rw [if_pos (.inr (.inl armed))]
  case h_3 fault => simp [State.savesNow, fault]
  case h_4 run => rw [if_neg (by simp [run]), if_pos (.inl run)]; rfl
  case h_5 drain => rw [if_neg (by simp [drain]), if_pos (.inr drain)]; rfl
  case h_6 nh na nf nr nd => rw [if_neg (State.not_savesNow nh na fun fault => (nf fault).elim), if_neg (not_or_intro nr nd)]
end

/-! ## Restoring (R209) -/

section
variable {s : State} (runs : s.mode.hubRuns = true) (idle : s.upd.histCmd = 0) (noSave : s.step.histDue = false)
include runs idle noSave

theorem State.histRestore_elsewhere (elsewhere : s.mode ≠ .held) : s.histRestore 1 = s.histNow 4 :=
  (if_neg (State.histCommand_not_ignored runs idle noSave)).trans ((if_neg (by decide)).trans (if_pos elsewhere))

theorem State.histRestore_unplanned (held : s.mode = .held) (unplanned : s.planIn = false) : s.histRestore 1 = s.histNow 5 :=
  (if_neg (State.histCommand_not_ignored runs idle noSave)).trans
    ((if_neg (by decide)).trans ((if_neg (not_not_intro held)).trans (if_pos (by simp [unplanned]))))
end

/-- The bytes at HIST_OFFSET that an object of a plan takes. -/
def State.histBytes (s : State) (p : Plan) : List Byte := s.readBar2 (s.num PD.HIST_OFFSET) (128 + total (p.layers.map histLen))

/-- The object is of another digest or layer count. -/
abbrev histMismatch (p : Plan) (b : List Byte) : Prop :=
  sub b 16 48 ≠ padTo 48 p.digest ∨ bits (fieldAt b (8 * 1) 8) 48 16 ≠ p.layers.length % 2 ^ 16

/-- The header of the object fails a check. -/
abbrev histBadHeader (p : Plan) (b : List Byte) : Prop :=
  fieldAt b (8 * 0) 8 ≠ 0x54534948 + 2 ^ 32 ∨ bits (fieldAt b (8 * 8) 8) 0 32 ≠ 128 + total (p.layers.map histLen)
    ∨ bits (fieldAt b (8 * 8) 8) 32 32 ≠ 0 ∨ allZero (sub b 72 56) = false

/-- The layer states of an object's records are taken: a layer off rung 0 asks for a placement, and no layer off rung 0 counts as quantised. -/
def State.histTaken (s : State) (ls : List (Nat × LayerNum)) : State :=
  let s := s.each ls fun s l => s.setLayerNum l.1 l.2
  let s : State := { s with upd := { s.upd with quantised := s.upd.quantised.filter fun i => ls.any fun l => l.1 = i && l.2.rung = 0 } }
  { s with placeDue := if ls.any (fun l => l.2.rung ≠ 0) then orBit s.placeDue 2 else s.placeDue }

theorem State.histTaken_layers (s : State) (ls : List (Nat × LayerNum)) :
    (s.histTaken ls).layers = (s.each ls fun s l => s.setLayerNum l.1 l.2).layers := rfl

section
variable {s : State} {p : Plan} (idle : s.upd.histCmd = 0) (noSave : s.step.histDue = false)
variable (held : s.mode = .held) (planned : s.planIn = true) (plan : s.plan = some p)
include idle noSave held planned plan

/-- In HELD with a plan LOADED, the object's checks decide in this order; only an object that passes them all changes a layer. -/
theorem State.histRestore_planned : s.histRestore 1 =
    if histMismatch p (s.histBytes p) then s.histStart 2 3 0
    else if histBadHeader p (s.histBytes p) then s.histStart 2 2 0
    else (histParseAll p.layers.zipIdx ((s.histBytes p).drop 128)).elim (s.histStart 2 2 0) fun ls => (s.histTaken ls).histStart 2 0 0 := by
  unfold State.histRestore
  rw [if_neg (State.histCommand_not_ignored (by rw [held]; rfl) idle noSave), if_neg (by decide), if_neg (not_not_intro held),
    if_neg (by simp [planned]), plan]
  refine ite_congr rfl (fun _ => rfl) fun _ =>
    ite_congr (propext (or_congr .rfl (or_congr .rfl (or_congr .rfl ?zeros)))) (fun _ => rfl) fun _ => ?records
  case zeros => exact iff_of_eq (Bool.not_eq_true' _)
  case records =>
    split
    case h_1 failed => exact (congrArg (Option.elim · (s.histStart 2 2 0) _) failed).symm
    case h_2 ls parsed => exact (congrArg (Option.elim · _ fun ls => (s.histTaken ls).histStart 2 0 0) parsed).symm

theorem State.histRestore_mismatch (other : histMismatch p (s.histBytes p)) : s.histRestore 1 = s.histStart 2 3 0 :=
  (State.histRestore_planned idle noSave held planned plan).trans (if_pos other)

/-- Whatever the object is like, the command goes on until HISTORY_OBJECT_COMPLETE. -/
theorem State.histRestore_starts : ∃ x r, s.histRestore 1 = State.histStart x 2 r 0 := by
  rw [State.histRestore_planned idle noSave held planned plan]
  split
  · exact ⟨_, _, rfl⟩
  · split
    · exact ⟨_, _, rfl⟩
    · cases histParseAll p.layers.zipIdx ((s.histBytes p).drop 128) with
      | none => exact ⟨_, _, rfl⟩
      | some ls => exact ⟨_, _, rfl⟩

variable (same : ¬ histMismatch p (s.histBytes p))
include same

theorem State.histRestore_bad
    (bad : histBadHeader p (s.histBytes p) ∨ histParseAll p.layers.zipIdx ((s.histBytes p).drop 128) = none) :
    s.histRestore 1 = s.histStart 2 2 0 := by
  rw [State.histRestore_planned idle noSave held planned plan, if_neg same]
  split
  · rfl
  · next good => rw [bad.resolve_left good, Option.elim_none]

theorem State.histRestore_takes (good : ¬ histBadHeader p (s.histBytes p)) {ls : List (Nat × LayerNum)}
    (records : histParseAll p.layers.zipIdx ((s.histBytes p).drop 128) = some ls) : s.histRestore 1 = (s.histTaken ls).histStart 2 0 0 := by
  rw [State.histRestore_planned idle noSave held planned plan, if_neg same, if_neg good, records, Option.elim_some]
end

/-! ## The boundary and the completion (R209) -/

/-- The state in which a boundary carries the save out: it waits no longer. -/
def State.saveLeft (s : State) : State := { s with step := { s.step with histDue := false } }

section
variable {s : State} (runs : s.mode.hubRuns = true)
include runs

theorem exec_histSaveAtBoundary_writes (due : s.step.histDue = true) (boundary : s.step.boundary = true) (closed : s.step.opened = false)
    (planned : s.planIn = true) :
    exec .histSaveAtBoundary s = .next s.saveLeft.histWrite := by
  have now : s.histDueNow = s.saveLeft.histWrite := (if_pos due).trans (if_pos planned)
  exact congrArg Host.Outcome.next ((if_pos ⟨boundary, by rw [closed]; rfl, runs⟩).trans now)

theorem exec_historyObjectComplete_ends (busy : s.upd.histCmd ≠ 0) : exec .historyObjectComplete s
    = .next ((if s.upd.histCmd = 1 then s.setNum PD.HIST_LENGTH s.upd.histLength else s).histNow s.upd.histResult) :=
  if_neg (by simp [runs, busy])
end

end Sys2Proof.Machine

open Sys2Proof Sys2Proof.Machine

/-- Settles O31: each command by the module's state and the plan, a restored object by the first check it fails, and the end of the command. -/
theorem historyIsSavedAndRestoredWholeOrNotAtAll : Obligations.HistoryIsSavedAndRestoredWholeOrNotAtAll := by
  unfold Obligations.HistoryIsSavedAndRestoredWholeOrNotAtAll
  intro s _ runs
  refine ⟨fun idle noSave => ⟨fun p planned plan now => ?saved, fun planned running => ?waits, fun planned nh na nr nd nf => ?refused,
    fun unplanned => ?unplanned, fun nh => ?elsewhere, fun held unplanned => ?restoreUnplanned, fun p held planned plan => ?restored⟩,
    fun p due boundary closed planned plan => ?boundary, fun busy => ?completed⟩
  case saved =>
    have run := (State.histSave_planned runs idle noSave planned).trans (if_pos now)
    exact ⟨_, congrArg Host.Outcome.next run, State.num_histWrite plan, State.histWrite_mem plan, State.histWrite_upd plan⟩
  case waits =>
    have later : ¬ s.savesNow := by rcases running with h | h <;> simp [State.savesNow, h]
    have run := (State.histSave_planned runs idle noSave planned).trans ((if_neg later).trans (if_pos running))
    exact ⟨_, congrArg Host.Outcome.next run, State.num_setNum, rfl, rfl⟩
  case refused =>
    have run := (State.histSave_planned runs idle noSave planned).trans
      ((if_neg (State.not_savesNow nh na nf)).trans (if_neg (not_or_intro nr nd)))
    exact ⟨_, congrArg Host.Outcome.next run, State.num_histNow .., State.histNow_mem ..⟩
  case unplanned =>
    exact ⟨_, congrArg Host.Outcome.next (State.histSave_unplanned runs idle noSave unplanned), State.num_histNow .., State.histNow_mem ..⟩
  case elsewhere =>
    exact ⟨_, congrArg Host.Outcome.next (State.histRestore_elsewhere runs idle noSave nh), State.num_histNow .., State.histNow_layers ..⟩
  case restoreUnplanned =>
    exact ⟨_, congrArg Host.Outcome.next (State.histRestore_unplanned runs idle noSave held unplanned), State.num_histNow ..,
      State.histNow_layers ..⟩
  case restored =>
    obtain ⟨x, r, started⟩ := State.histRestore_starts idle noSave held planned plan
    refine ⟨s.histRestore 1, rfl, by rw [started, State.num_histStart], by rw [started, State.histStart_upd], fun other => ?_,
      fun same bad => ?_, fun ls same good records => ?_⟩
    · rw [State.histRestore_mismatch idle noSave held planned plan other]
      exact ⟨rfl, State.histStart_layers ..⟩
    · rw [State.histRestore_bad idle noSave held planned plan same bad]
      exact ⟨rfl, State.histStart_layers ..⟩
    · rw [State.histRestore_takes idle noSave held planned plan same good records]
      exact ⟨rfl, (State.histStart_layers ..).trans (State.histTaken_layers s ls)⟩
  case boundary =>
    have left : s.saveLeft.plan = some p := plan
    refine ⟨_, exec_histSaveAtBoundary_writes runs due boundary closed planned, State.num_histWrite left, ?_, State.histWrite_step left, ?_⟩
    · exact (State.histWrite_mem left).trans (State.writeBar2_mem_congr (s.histObject p) (s.num PD.HIST_OFFSET) rfl)
    · rw [State.histWrite_upd left]
  case completed =>
    refine ⟨_, exec_historyObjectComplete_ends runs busy, State.num_histNow .., by rw [State.histNow_upd], ?_⟩
    rw [State.num_histNow_ne _ _ (by decide)]
    split
    · exact State.num_setNum
    · rfl
end

section
/-! What the operations of a training step leave (10): votes, an entry to the queue, a decision, the end of an attempt, a local VOID, and the
module's leave of RUN, each with the parts and the dictionary entries that a later proof reads. -/
namespace Sys2Proof.Machine

/-! ## Votes (R284, R285) -/

section
variable (s : State)

theorem State.run_sendVotes (ps : List Nat) (m : List Byte) : Run 35253091565568 [] s (s.each ps fun s p => s.sendVote p m) :=
  each_run (fun _ _ => sendVote_run rfl (fun _ => id)) (Run.refl _ _ s)

@[simp] theorem State.sendVote_step (l : Nat) (m : List Byte) : (s.sendVote l m).step = s.step :=
  (sendVote_run (f := 35253091565568) (K := []) rfl (fun _ => id) (Run.refl _ _ s)).part .step rfl

theorem State.sendVerdict_step (extra : Nat) : (s.sendVerdict extra).step = { s.step with sent := true } := State.sendVote_step _ _ _
end

/-! ## The event queue (R53) -/

section
variable {s : State} {e : Event}

theorem State.present_ok (h : s.evTest e.time = .ok) : s.present e = (.ok, { s with events := s.events ++ [e] }) := by
  unfold State.present; rw [h]

theorem State.present_refused (h : s.evTest e.time ≠ .ok) : s.present e = (s.evTest e.time, s.bump PD.EVENT_REJECTED) := by
  unfold State.present
  split
  · next ok => exact absurd ok h
  · rfl

/-- The tests of an entry read the course and the length of the queue alone. -/
theorem State.evTest_congr {t : State} (hc : t.course = s.course) (he : t.events = s.events) (c : CTime) : t.evTest c = s.evTest c := by
  unfold State.evTest State.timed State.ctime; rw [hc, he]

theorem State.evTest_eq_ok {c : CTime} (timed : s.timed = true) (ahead : s.ctime.toNat < c.toNat)
    (near : c.toNat ≤ s.ctime.toNat + 2 ^ 24 * 65536) (room : s.events.length < 1024) : s.evTest c = .ok := by
  unfold State.evTest
  rw [timed, if_neg (by decide), if_neg (by omega), if_neg (by omega), if_neg (by omega)]
end

/-! ## The end of an attempt (R87, R274, R291) -/

section
variable (s : State)

@[simp] theorem State.endAttempt_opened : s.endAttempt.step.opened = false := rfl
@[simp] theorem State.endAttempt_attempt : s.endAttempt.step.attempt = false := rfl
@[simp] theorem State.endAttempt_writing : s.endAttempt.step.writing = s.step.writing := rfl
@[simp] theorem State.endAttempt_imageDue : s.endAttempt.step.imageDue = s.step.imageDue := rfl

theorem State.num_endAttempt {k : Nat} (ho : k ≠ PD.STEP_OPEN) (hr : k ≠ PD.STEP_REASONS) : s.endAttempt.num k = s.num k :=
  (State.num_setNum_ne hr).trans (State.num_setNum_ne ho)

theorem State.leaveFor_eq (m : Mode) : s.leaveFor m = (if s.mode.running then s.pauseStreams else s).endAttempt.enter m := rfl

@[simp] theorem State.leaveFor_mode (m : Mode) : (s.leaveFor m).mode = m := State.enter_mode _ m

@[simp] theorem State.leaveFor_step (m : Mode) : (s.leaveFor m).step = s.endAttempt.step := by
  rw [State.leaveFor_eq, State.enter_step]
  split <;> rfl

@[simp] theorem State.leaveFor_exch (m : Mode) : (s.leaveFor m).exch = s.exch :=
  (leaveFor_run (f := 35597763479233) (K := [0x600003, 0x600004]) rfl (fun _ => id) (Run.refl _ _ s)).part .exch rfl

theorem State.leaveFor_events (m : Mode) : (s.leaveFor m).events = s.events.filter fun e => !e.kind.ofAttempt := by
  rw [State.leaveFor_eq, State.enter_events]
  split <;> rfl

theorem State.num_leaveFor (m : Mode) {k : Nat} (ho : k ≠ PD.STEP_OPEN) (hr : k ≠ PD.STEP_REASONS) : (s.leaveFor m).num k = s.num k := by
  rw [State.leaveFor_eq, State.num_enter, State.num_endAttempt _ ho hr]
  split <;> rfl
end

/-! ## A VOID (R288, R291) -/

section
variable (s : State) (code reasons modules origin time : Nat)

theorem State.run_voidStep : Run 35600433202688 [0x600002, 0x600003, 0x600004, 0x600007] s (s.voidStep code reasons modules origin time) :=
  voidStep_run rfl (fun _ => id) (Run.refl _ _ s)

@[simp] theorem State.voidStep_opened : (s.voidStep code reasons modules origin time).step.opened = false := by
  unfold State.voidStep; rw [State.cause_step]; rfl
@[simp] theorem State.voidStep_attempt : (s.voidStep code reasons modules origin time).step.attempt = false := by
  unfold State.voidStep; rw [State.cause_step]; rfl
@[simp] theorem State.voidStep_mode : (s.voidStep code reasons modules origin time).mode = s.mode := (s.run_voidStep ..).part .mode rfl
@[simp] theorem State.voidStep_exch : (s.voidStep code reasons modules origin time).exch = s.exch.discard := by
  unfold State.voidStep; rw [State.cause_exch]; rfl

theorem State.num_voidStep_decision : (s.voidStep code reasons modules origin time).num PD.STEP_LAST_DECISION = code :=
  (State.num_cause _ _ _).trans State.num_setNum

theorem State.num_voidStep_attempt :
    (s.voidStep code reasons modules origin time).num PD.STEP_ATTEMPT = (s.num PD.STEP_ATTEMPT + 1) % 2 ^ 16 := by
  refine (State.num_cause _ _ _).trans ?_
  refine (State.num_setNum_ne (by decide)).trans ((State.num_endAttempt _ (by decide) (by decide)).trans ?_)
  exact State.num_setNum

theorem State.num_voidStep_ne (w : s.dictOk = true) {k : Nat} (h : k ∉ [0x600002, 0x600003, 0x600004, 0x600007]) :
    (s.voidStep code reasons modules origin time).num k = s.num k := (s.run_voidStep ..).num_eq w rfl h

/-- A module that voids locally votes first where its verdict has not gone. -/
def State.votedVoid : State :=
  if !s.isRoot && !s.step.sent && s.pickOne (s.num PD.VOTE_PARENT_PORT) ≠ .none
    then { s with step := { s.step with verdictFormed := true, verdictReasons := s.num PD.STEP_REASONS } }.sendVerdict 0 else s

theorem State.run_votedVoid : Run 35254165307392 [] s s.votedVoid :=
  ite_run (sendVerdict_run rfl (fun _ => id) (run_upd_step rfl (Run.refl _ _ s))) (Run.refl _ _ s)

theorem State.voidLocally_eq : ∃ m o t, s.voidLocally
    = (s.votedVoid.voidStep 3 (s.votedVoid.num PD.STEP_REASONS ||| s.votedVoid.unionReasons) m o t).bump PD.VOID_LOCAL := ⟨_, _, _, rfl⟩

theorem State.num_voidLocally (w : s.dictOk = true) : s.voidLocally.num PD.VOID_LOCAL = (s.num PD.VOID_LOCAL + 1) % 2 ^ 64 := by
  obtain ⟨m, o, t, h⟩ := s.voidLocally_eq
  rw [h, State.num_bump, State.num_voidStep_ne _ _ _ _ _ _ (s.run_votedVoid.dict w) (by decide), s.run_votedVoid.num_eq w rfl (by decide)]

@[simp] theorem State.voidLocally_exch : s.voidLocally.exch = s.exch.discard := by
  obtain ⟨m, o, t, h⟩ := s.voidLocally_eq
  rw [h, State.bump_exch, State.voidStep_exch, (s.run_votedVoid.part .exch rfl : s.votedVoid.exch = s.exch)]
end

/-! ## A spall -/

theorem State.run_spall (s : State) (p : Spall) : Run 39994735460352 [0xA10001, 0xA10006] s (s.spall p) :=
  spall_run rfl (fun _ => id) (Run.refl _ _ s)

theorem State.num_spall {s : State} (w : s.dictOk = true) (p : Spall) {k : Nat} (h : k ∉ [0xA10001, 0xA10006]) : (s.spall p).num k = s.num k :=
  (s.run_spall p).num_eq w rfl h

/-! ## Decisions (R286, R288) -/

section
variable (s : State)

@[simp] theorem State.lateDecision_mode (c : Nat) : (s.lateDecision c).mode = .held := State.leaveFor_mode _ _
@[simp] theorem State.lateDecision_opened (c : Nat) : (s.lateDecision c).step.opened = false := by
  unfold State.lateDecision; rw [State.leaveFor_step, State.endAttempt_opened]
@[simp] theorem State.lateDecision_attempt (c : Nat) : (s.lateDecision c).step.attempt = false := by
  unfold State.lateDecision; rw [State.leaveFor_step, State.endAttempt_attempt]

theorem State.num_lateDecision (w : s.dictOk = true) (c : Nat) :
    (s.lateDecision c).num PD.VOID_LOCAL = (s.num PD.VOID_LOCAL + 1) % 2 ^ 64 := by
  unfold State.lateDecision
  rw [State.num_leaveFor _ _ (by decide) (by decide), State.num_voidLocally _ ((s.run_spall _).dict w), State.num_spall w _ (by decide)]
end

/-- A decision is known, and its event not yet presented. -/
def State.deciding (s : State) (d : Decision) : State := { s with step := { s.step with decision := some d } }

section
variable {s : State} {d : Decision}

theorem State.takeDecision_queued (h : s.evTest d.time = .ok) : s.takeDecision d =
    { s.deciding d with events := s.events ++ [⟨d.time, .commit, 0, b2n d.void⟩] } := by
  unfold State.takeDecision
  dsimp only
  rw [State.present_ok (s := { s with step := { s.step with decision := some d } }) (e := ⟨d.time, .commit, 0, b2n d.void⟩) h]
  rfl

theorem State.takeDecision_late (h : s.evTest d.time ≠ .ok) : s.takeDecision d =
    ((s.deciding d).bump PD.EVENT_REJECTED).lateDecision 0 := by
  unfold State.takeDecision
  dsimp only
  rw [State.present_refused (s := { s with step := { s.step with decision := some d } }) (e := ⟨d.time, .commit, 0, b2n d.void⟩) h]
  split
  · next ok => exact absurd (congrArg Prod.fst ok) h
  · next r => exact congrArg (State.lateDecision · 0) (congrArg Prod.snd r).symm

/-- Where the queue takes it, a root's decision holds the reasons given and takes effect VOTE_COMMIT_LEAD from now. -/
theorem State.rootDecides_queued {void : Bool} {reasons : Nat} (h : s.evTest (s.ceilTime + BitVec.ofNat 64 (s.num PD.VOTE_COMMIT_LEAD)) = .ok) :
    ∃ d, (s.rootDecides void reasons).step.decision = some d ∧ d.void = void ∧ d.reasons = reasons
      ∧ d.time = s.ceilTime + BitVec.ofNat 64 (s.num PD.VOTE_COMMIT_LEAD)
      ∧ (s.rootDecides void reasons).events
        = s.events ++ [⟨s.ceilTime + BitVec.ofNat 64 (s.num PD.VOTE_COMMIT_LEAD), .commit, 0, b2n void⟩] := by
  have sent := s.run_sendVotes s.childPorts
    (Vote.bytes ⟨2, s.num PD.STEP_ATTEMPT, s.num PD.STEP_NUMBER, void, reasons, max 1 s.covered, s.excludedCount, s.originFor void,
      (s.ceilTime + BitVec.ofNat 64 (s.num PD.VOTE_COMMIT_LEAD)).toNat⟩)
  have events := sent.part .events rfl
  unfold State.rootDecides
  dsimp only
  rw [State.takeDecision_queued ((State.evTest_congr (sent.part .course rfl) events _).trans h)]
  exact ⟨_, rfl, rfl, rfl, rfl, congrArg (· ++ _) events⟩
end

end Sys2Proof.Machine
end

section
/-! Proofs of the deadlines of an attempt (R285, R286, R288, R304, R314, R315): what each does when it fires, and the statement
DeadlinesOfAnAttemptAct. -/
namespace Sys2Proof.Machine

/-! ## The contribution deadline (R304) -/

section
variable (s : State)

/-- The state in which C has stopped the step's work: the module's withdrawal sent, both phases ended, the arrays stopped, the streams reset. -/
def State.workStopped : State :=
  let s := ((s.selfExclude.endPhase .forward).endPhase .backward).stopArrays.resetStreams
  { s with step := { s.step with deadlinePassed := true } }

/-- What follows the stop, the counts and the owned shards, leaves the step, the streams and the arrays alone. -/
theorem State.run_shards : Run 39653285560320 [0x600004, 0x610105, 0x610106, 0x615101, 0x700208] s.workStopped s.atDeadline := by
  have unsent : ∀ x ∈ [PD.EXCH_UNSENT], x ∈ [0x600004, 0x610105, 0x610106, 0x615101, 0x700208] := fun _ => subk_mem rfl
  have empty : ∀ x ∈ [PD.EXCH_EMPTY], x ∈ [0x600004, 0x610105, 0x610106, 0x615101, 0x700208] := fun _ => subk_mem rfl
  unfold State.atDeadline
  dsimp only
  refine ite_run (each_run (fun t sh => compareTwin_run rfl (fun _ => subk_mem rfl)) (each_run (fun t p kept => ?sent) ?emitted)) ?emitted
  case sent =>
    split
    · exact send_run rfl (fun _ => subk_mem rfl) kept
    · exact kept
  case emitted =>
    refine each_run (fun t p kept => ?_) (bumpBy_run unsent (Run.refl _ _ s.workStopped))
    split
    · exact kept
    · next l _ =>
      have counted := bumpBy_run (n := t.emptyKinds l p) empty kept
      exact run_upd_exch rfl (ite_run (reason_run rfl (fun _ => subk_mem rfl) counted) counted)

theorem State.reset_or_undefined {p : Nat × Stream} (h : p ∈ s.resetStreams.streams) :
    p.2.st = .undefined ∨ (p.2.st = .idle ∧ p.2.head = p.2.tail ∧ p.2.entered = [] ∧ p.2.groups = []) := by
  obtain ⟨q, -, rfl⟩ := List.mem_map.1 h
  by_cases u : q.2.st = .undefined
  · rw [if_pos u]; exact .inl u
  · rw [if_neg u]; exact .inr ⟨rfl, rfl, rfl, rfl⟩

theorem State.atDeadline_step : s.atDeadline.step.deadlinePassed = true := by
  rw [(s.run_shards.part .step rfl : s.atDeadline.step = s.workStopped.step)]; rfl

theorem State.atDeadline_op : s.atDeadline.arrays.op = none := by
  rw [(s.run_shards.part .arrays rfl : s.atDeadline.arrays = s.workStopped.arrays)]; rfl

theorem State.atDeadline_streams {p : Nat × Stream} (h : p ∈ s.atDeadline.streams) :
    p.2.st = .undefined ∨ (p.2.st = .idle ∧ p.2.head = p.2.tail ∧ p.2.entered = [] ∧ p.2.groups = []) := by
  rw [(s.run_shards.part .streams rfl : s.atDeadline.streams = s.workStopped.streams)] at h
  exact State.reset_or_undefined _ h
end

section
variable {s s1 : State} (fired : s.fireDeadline .contribution = some s1)
include fired

theorem exec_contributionDeadline_acts (attempt : s1.step.attempt = true) : exec .contributionDeadline s = .next s1.atDeadline := by
  change execContributionDeadline s = _
  unfold execContributionDeadline
  rw [fired]
  exact congrArg Host.Outcome.next (if_pos attempt)
end

/-! ## The vote deadline (R285, R286) -/

theorem bit_orBit (n i : Nat) : bit (orBit n i) i = true := by
  unfold orBit
  split
  · assumption
  · next clear =>
    have one : (n + 2 ^ i) / 2 ^ i = n / 2 ^ i + 1 := Nat.add_div_right n (Nat.two_pow_pos i)
    simp only [bit, decide_eq_true_eq, one] at clear ⊢
    omega

section
variable {s s1 : State} (fired : s.fireDeadline .vote = some s1) (attempt : s1.step.attempt = true)
include fired attempt

theorem exec_voteDeadline_node (node : s1.isRoot = false) (silent : s1.step.sent = false) :
    exec .voteDeadline s = .next (s1.sendVerdict (2 ^ rsMissing)) := by
  change execVoteDeadline s = _
  unfold execVoteDeadline
  rw [fired]
  dsimp only
  rw [attempt, node, silent]
  rfl

theorem exec_voteDeadline_root (root : s1.isRoot = true) (undecided : s1.step.decision = none) :
    exec .voteDeadline s = .next (s1.rootDecides true (orBit s1.unionReasons rsMissing)) := by
  change execVoteDeadline s = _
  unfold execVoteDeadline
  rw [fired]
  dsimp only
  rw [attempt, root, undecided]
  rfl
end

/-! ## The broadcast and twin deadlines (R288, R315) -/

section
variable {s s1 : State}

theorem exec_broadcastDeadline_voids (fired : s.fireDeadline .broadcast = some s1) (attempt : s1.step.attempt = true)
    (undecided : s1.step.decision = none) : exec .broadcastDeadline s = .next (s1.lateDecision 1) := by
  change execBroadcastDeadline s = _
  unfold execBroadcastDeadline
  rw [fired]
  exact congrArg Host.Outcome.next (if_pos (by rw [attempt, undecided]; rfl))

theorem exec_twinShardDeadline_records (fired : s.fireDeadline .twinShard = some s1) (bonded : s1.bonded = true)
    (missing : s1.twinMissing = true) : exec .twinShardDeadline s = .next (s1.reason rsBond) := by
  change execTwinShardDeadline s = _
  unfold execTwinShardDeadline
  rw [fired]
  exact congrArg Host.Outcome.next (if_pos (by rw [bonded, missing]; rfl))

/-- A reason of a step or an attempt under way is recorded. -/
theorem State.reason_recorded (h : s.step.opened = true ∨ s.step.attempt = true) (r : Nat) :
    s.reason r = s.setNum PD.STEP_REASONS (orBit (s.num PD.STEP_REASONS) r) := if_pos (by simpa using h)
end

/-! ## The gather deadline (R314) -/

section
variable (s : State) (r : Nat)

theorem State.run_hold : Run 40067199190721 [0x600002, 0x600003, 0x600004, 0x600007, 0x600203, 0xA10001, 0xA10006] s (s.hold r) :=
  hold_run rfl (fun _ => id) (Run.refl _ _ s)

theorem State.hold_mode (h : s.mode = .run ∨ s.mode = .drain ∨ s.mode = .armed) : (s.hold r).mode = .held := by
  unfold State.hold
  rcases h with h | h | h <;> rw [h] <;> exact State.leaveFor_mode _ _

theorem State.abandon_awaited (outcome : Nat) : (s.abandon r outcome).exch.awaited = s.exch.awaited := by
  unfold State.abandon
  split
  · rw [State.voidLocally_exch, State.spall_exch, State.reason_exch]; rfl
  · rfl

/-- The hold at G discards the attempt's records and awaits what it awaited before. -/
theorem State.hold_awaited : (s.hold r).exch.awaited = s.exch.awaited := by
  unfold State.hold
  split
  · rw [State.leaveFor_exch, State.abandon_awaited]
  · split
    · rw [State.leaveFor_exch]
    · rfl

/-- What is missing at G counts and is awaited no longer. -/
def State.gatherMissed : State :=
  let n := s.exch.awaited.length
  let s := (s.bumpBy PD.GATHER_MISSING n).spall { kind := 0x24, level := 3, mech := 17, outcome := 3, detail := [detailUint 0 n] }
  { s with exch := { s.exch with awaited := [], ownDeltas := [] } }

theorem State.gatherMissed_mode : s.gatherMissed.mode = s.mode :=
  (State.spall_mode _ _).trans (State.bumpBy_mode _ _ _)

theorem State.dictOk_gatherMissed {s : State} (w : s.dictOk = true) : s.gatherMissed.dictOk = true :=
  (State.run_spall _ _).dict (State.dictOk_bumpBy w)

theorem State.num_gatherMissed {s : State} (w : s.dictOk = true) :
    s.gatherMissed.num PD.GATHER_MISSING = (s.num PD.GATHER_MISSING + s.exch.awaited.length) % 2 ^ 64 :=
  (State.num_spall (State.dictOk_bumpBy w) _ (by decide)).trans State.num_bumpBy

theorem exec_gatherDeadline_holds {s s1 : State} (fired : s.fireDeadline .gather = some s1) (missing : s1.exch.awaited ≠ []) :
    exec .gatherDeadline s = .next (s1.gatherMissed.hold rsFault) := by
  change execGatherDeadline s = _
  unfold execGatherDeadline
  rw [fired]
  exact if_neg fun h => missing (List.length_eq_zero_iff.1 h.1)
end

end Sys2Proof.Machine

open Sys2Proof Sys2Proof.Machine

/-- Settles O18: each deadline by the action that its command comes to once it has fired. -/
theorem deadlinesOfAnAttemptAct : Obligations.DeadlinesOfAnAttemptAct := by
  unfold Obligations.DeadlinesOfAnAttemptAct
  intro s s1 ok
  refine ⟨fun fired attempt => ?contribution, fun fired attempt node silent => ?node,
    fun fired attempt root undecided timed ahead near room => ?root, fun fired attempt undecided => ?broadcast,
    fun fired bonded missing attempt => ?twin, fun fired missing => ?gather⟩
  case contribution =>
    exact ⟨_, exec_contributionDeadline_acts fired attempt, s1.atDeadline_step, s1.atDeadline_op, fun p hp => s1.atDeadline_streams hp⟩
  case node =>
    exact ⟨_, exec_voteDeadline_node fired attempt node silent, congrArg Step.sent (s1.sendVerdict_step _)⟩
  case root =>
    obtain ⟨d, decided, void, reasons, time, queued⟩ := State.rootDecides_queued (void := true) (reasons := orBit s1.unionReasons rsMissing)
      (State.evTest_eq_ok timed ahead near room)
    exact ⟨_, d, exec_voteDeadline_root fired attempt root undecided, decided, void, by rw [reasons, bit_orBit], time, queued⟩
  case broadcast =>
    exact ⟨_, exec_broadcastDeadline_voids fired attempt undecided, s1.lateDecision_mode 1, s1.lateDecision_opened 1, s1.lateDecision_attempt 1,
      s1.num_lateDecision ok 1⟩
  case twin =>
    refine ⟨_, exec_twinShardDeadline_records fired bonded missing, ?_⟩
    rw [State.reason_recorded (.inr attempt), State.num_setNum]
  case gather =>
    refine ⟨_, exec_gatherDeadline_holds fired missing, State.hold_awaited _ _, ?_, fun mode => State.hold_mode _ _ ?_⟩
    · rw [(State.run_hold _ _).num_eq (State.dictOk_gatherMissed ok) rfl (by decide), State.num_gatherMissed ok]
    · rwa [State.gatherMissed_mode]
end

section
/-! Proofs of the commit event (R289-R292): what a COMMIT leaves before, at and after its counts, what a VOID leaves, the next attempt, and the
statement DecisionsTakeEffectAtCommitTime. -/
namespace Sys2Proof.Machine

/-! ## Deadlines and the next attempt (R303) -/

/-- The step after deadlines have been presented: those that act at once are noted, and nothing else but the next attempt's reasons changes. -/
def Step.Deadlines (a b : Step) : Prop := ∃ d n, b = { a with due := d, nextReasons := n }

theorem Step.Deadlines.refl (a : Step) : a.Deadlines a := ⟨_, _, rfl⟩

theorem Step.Deadlines.trans {a b c : Step} : a.Deadlines b → b.Deadlines c → a.Deadlines c := by
  rintro ⟨_, _, rfl⟩ ⟨d, n, rfl⟩
  exact ⟨d, n, rfl⟩

theorem State.deadline_step (s : State) (k : EventKind) (t : CTime) : s.step.Deadlines (s.deadline k t).step := by
  have kept : (s.present ⟨t, k, 0, 0⟩).2.step = s.step :=
    (present_run (f := 512) (K := [PD.EVENT_REJECTED]) rfl (fun _ => id) (Run.refl _ _ s)).part .step rfl
  unfold State.deadline
  revert kept
  generalize s.present ⟨t, k, 0, 0⟩ = r
  obtain ⟨status, x⟩ := r
  intro (kept : x.step = s.step)
  rw [← kept]
  cases status <;> exact ⟨_, _, rfl⟩

theorem Step.Deadlines.deadline {a : Step} {s : State} (h : a.Deadlines s.step) (k : EventKind) (t : CTime) :
    a.Deadlines (s.deadline k t).step := h.trans (s.deadline_step k t)

section
variable (s : State) (t : CTime)

theorem State.beginAttempt_step : ∃ x, Step.Deadlines { s.step with
      attempt := true, tBase := t, contribution := t + BitVec.ofNat 64 (s.num PD.EXCH_PERIOD) } x
    ∧ (s.beginAttempt t).step = { x with nextReasons := 0, holdAtVerdict := x.nextHold, nextHold := false } := by
  unfold State.beginAttempt
  refine ⟨_, ?_, rfl⟩
  have begun := Step.Deadlines.refl { s.step with attempt := true, tBase := t, contribution := t + BitVec.ofNat 64 (s.num PD.EXCH_PERIOD) }
  rw [State.setNum_step]
  split
  · exact (((begun.deadline _ _).deadline _ _).deadline _ _).deadline _ _
  · exact ((begun.deadline _ _).deadline _ _).deadline _ _

theorem State.run_nextAttempt : Run 1073742336 [0x202003, 0x600004] s (s.nextAttempt t) :=
  ite_run (beginAttempt_run rfl (fun _ => id) (Run.refl _ _ s)) (Run.refl _ _ s)

theorem State.num_nextAttempt {s : State} (w : s.dictOk = true) {k : Nat} (h : k ∉ [0x202003, 0x600004]) : (s.nextAttempt t).num k = s.num k :=
  (s.run_nextAttempt t).num_eq w rfl h

@[simp] theorem State.nextAttempt_mode : (s.nextAttempt t).mode = s.mode := (s.run_nextAttempt t).part .mode rfl

/-- After a boundary the next attempt has begun exactly in RUN, at the time given; what of the step is not the attempt's stays. -/
theorem State.nextAttempt_step (ended : s.step.attempt = false) : (s.nextAttempt t).step.opened = s.step.opened
    ∧ (s.nextAttempt t).step.updating = s.step.updating ∧ ((s.nextAttempt t).step.attempt = true ↔ s.mode = .run)
    ∧ (s.mode = .run → (s.nextAttempt t).step.tBase = t) := by
  unfold State.nextAttempt
  split
  · next run =>
    obtain ⟨_, ⟨_, _, rfl⟩, begun⟩ := s.beginAttempt_step t
    rw [begun]
    exact ⟨rfl, rfl, iff_of_true rfl run, fun _ => rfl⟩
  · next other => exact ⟨rfl, rfl, iff_of_false (by rw [ended]; decide) other, fun run => absurd run other⟩
end

/-! ## COMMIT (R290) -/

theorem State.applyWaiting_of_none {s : State} (h : s.dict.waiting = none) : s.applyWaiting = s := by
  unfold State.applyWaiting; rw [h]

section
variable (s : State) (t : CTime)

/-- What a COMMIT settles before it counts: the exchange, the staged numerics and the waiting configuration, the roots, the suspects, and the
attempt's row of the phase table. -/
def State.settled : State := ((s.endPhase .vote).commitExchange.commitNumerics.applyWaiting.adoptRoots.observe).commitRow t

/-- What follows the counts, up to the gather records awaited: the updates and the calibration of the boundary. -/
def State.updated (shards : List Shard) : State :=
  (((s.cause irqVerdict).updateAll shards).closeWindows fun w => w.level = 3).calVerdict

theorem State.applyCommit_eq : s.applyCommit t = ((s.settled t).commitCounts.beginUpdate.updated s.exch.shards).awaitGather t := rfl

theorem State.run_settled (none : s.dict.waiting = none) : Run 40002304360448
    [0x320103, 0x501103, 0x502103, 0x504102, 0x508105, 0x610103, 0x615103, 0xA00107, 0xA10001, 0xA10006] s (s.settled t) := by
  have numerics := commitNumerics_run rfl (fun _ => subk_mem rfl) (commitExchange_run rfl (fun _ => subk_mem rfl) (endPhase_run (x1 := .vote)
    rfl (fun _ => subk_mem rfl) (Run.refl 40002304360448
      [0x320103, 0x501103, 0x502103, 0x504102, 0x508105, 0x610103, 0x615103, 0xA00107, 0xA10001, 0xA10006] s)))
  unfold State.settled
  rw [State.applyWaiting_of_none ((congrArg Dictionary.waiting (numerics.part .dict rfl)).trans none)]
  exact commitRow_run rfl (fun _ => subk_mem rfl) (observe_run rfl (fun _ => subk_mem rfl) (adoptRoots_run rfl (fun _ => subk_mem rfl) numerics))

theorem updated_run {f K s0} (hf : 40001178960384 ||| f = f)
    (hK : ∀ x, x ∈ ([0x202003, 0x411004, 0x411008, 0x620201, 0x620208, 0xA01003, 0xA10001, 0xA10006] : List Nat) → x ∈ K) {s shards}
    (h : Run f K s0 s) : Run f K s0 (State.updated s shards) :=
  calVerdict_run (orr hf rfl) (sbk hK rfl) (closeWindows_run (orr hf rfl) (sbk hK rfl) (updateAll_run (orr hf rfl) (sbk hK rfl)
    (cause_run (orr hf rfl) (sbk hK rfl) h)))

theorem State.run_boundary (shards : List Shard) : Run 57594908819968
    [0x202003, 0x411004, 0x411008, 0x620201, 0x620208, 0xA01003, 0xA10001, 0xA10006] s ((s.beginUpdate.updated shards).awaitGather t) :=
  awaitGather_run rfl (fun _ => subk_mem rfl) (updated_run rfl (fun _ => id) (beginUpdate_run rfl (fun _ => subk_mem rfl) (Run.refl _ _ s)))

theorem State.awaitGather_step : s.step.Deadlines (s.awaitGather t).step := by
  unfold State.awaitGather
  dsimp only
  split
  · exact .refl _
  · exact State.deadline_step _ _ _

theorem State.boundary_step (shards : List Shard) :
    Step.Deadlines { s.step with updating := true, boundary := true } ((s.beginUpdate.updated shards).awaitGather t).step := by
  have kept : (s.beginUpdate.updated shards).step = { s.step with updating := true, boundary := true } :=
    (updated_run (f := 40001178960384) rfl (fun _ => id) (Run.refl _ _ s.beginUpdate)).part .step rfl
  exact kept ▸ State.awaitGather_step _ t
end

/-! ### The counts (R274, R290) -/

section
variable (s : State)

theorem State.num_commitCounts_number : s.commitCounts.num PD.STEP_NUMBER = (s.num PD.STEP_NUMBER + 1) % 2 ^ 48 := by
  unfold State.commitCounts
  rw [State.num_setNum_ne (by decide), State.num_endAttempt _ (by decide) (by decide), State.num_bump_ne (by decide),
    State.num_setNum_ne (by decide), State.num_setNum]

theorem State.num_commitCounts_attempt : s.commitCounts.num PD.STEP_ATTEMPT = 0 := by
  unfold State.commitCounts
  rw [State.num_setNum_ne (by decide), State.num_endAttempt _ (by decide) (by decide), State.num_bump_ne (by decide), State.num_setNum]

theorem State.num_commitCounts_committed : s.commitCounts.num PD.STEPS_COMMITTED = (s.num PD.STEPS_COMMITTED + 1) % 2 ^ 64 := by
  unfold State.commitCounts
  rw [State.num_setNum_ne (by decide), State.num_endAttempt _ (by decide) (by decide), State.num_bump, State.num_setNum_ne (by decide),
    State.num_setNum_ne (by decide)]

theorem State.num_commitCounts_decision : s.commitCounts.num PD.STEP_LAST_DECISION = 1 := State.num_setNum

theorem State.run_commitCounts : Run 1073742336 [0x600001, 0x600002, 0x600003, 0x600004, 0x600007, 0x600201] s s.commitCounts :=
  commitCounts_run rfl (fun _ => id) (Run.refl _ _ s)
end

section
variable {s : State} (w : s.dictOk = true) (none : s.dict.waiting = none) (t : CTime)
include w none

theorem State.dictOk_applyCommit : (s.applyCommit t).dictOk = true :=
  s.applyCommit_eq t ▸ (State.run_boundary _ t _).dict ((State.run_commitCounts _).dict ((s.run_settled t none).dict w))

theorem State.num_applyCommit {k : Nat} (h : k ∉ [0x202003, 0x411004, 0x411008, 0x620201, 0x620208, 0xA01003, 0xA10001, 0xA10006]) :
    (s.applyCommit t).num k = (s.settled t).commitCounts.num k := by
  rw [State.applyCommit_eq]
  exact (State.run_boundary _ t _).num_eq ((State.run_commitCounts _).dict ((s.run_settled t none).dict w)) rfl h

theorem State.applyCommit_counts : (s.applyCommit t).num PD.STEP_NUMBER = (s.num PD.STEP_NUMBER + 1) % 2 ^ 48
    ∧ (s.applyCommit t).num PD.STEP_ATTEMPT = 0 ∧ (s.applyCommit t).num PD.STEPS_COMMITTED = (s.num PD.STEPS_COMMITTED + 1) % 2 ^ 64
    ∧ (s.applyCommit t).num PD.STEP_LAST_DECISION = 1 := by
  have settled {k : Nat} (h : k ∉ [0x320103, 0x501103, 0x502103, 0x504102, 0x508105, 0x610103, 0x615103, 0xA00107, 0xA10001, 0xA10006]) :
      (s.settled t).num k = s.num k := (s.run_settled t none).num_eq w rfl h
  refine ⟨?_, ?_, ?_, ?_⟩ <;> rw [State.num_applyCommit w none t (by decide)]
  · rw [State.num_commitCounts_number, settled (by decide)]
  · exact State.num_commitCounts_attempt _
  · rw [State.num_commitCounts_committed, settled (by decide)]
  · exact State.num_commitCounts_decision _

omit w in
theorem State.applyCommit_mode : (s.applyCommit t).mode = s.mode := by
  rw [State.applyCommit_eq]
  exact ((State.run_boundary _ t _).part .mode rfl).trans (((State.run_commitCounts _).part .mode rfl).trans ((s.run_settled t none).part .mode rfl))
end

theorem State.applyCommit_step (s : State) (t : CTime) : (s.applyCommit t).step.updating = true ∧ (s.applyCommit t).step.opened = false
    ∧ (s.applyCommit t).step.attempt = false := by
  obtain ⟨d, n, h⟩ := State.boundary_step (s.settled t).commitCounts t s.exch.shards
  rw [State.applyCommit_eq, h]
  exact ⟨rfl, rfl, rfl⟩

/-! ## VOID (R291, R292) -/

section
variable (s : State)

@[simp] theorem State.imageWrite_step : s.imageWrite.step = s.step :=
  (imageWrite_run (f := 35188667056128) (K := [0x120103, 0x620103]) rfl (fun _ => id) (Run.refl _ _ s)).part .step rfl

@[simp] theorem State.imageNow_step (r : Nat) : (s.imageNow r).step = s.step :=
  (imageNow_run (f := 35600983916544) (K := [0x620103]) rfl (fun _ => id) (Run.refl _ _ s)).part .step rfl

/-- A save that waited waits no longer, and the step is otherwise as it was. -/
theorem State.imageDueNow_step : s.imageDueNow.step = { s.step with imageDue := false } := by
  unfold State.imageDueNow
  split
  · dsimp only
    split
    · exact State.imageWrite_step _
    · exact State.imageNow_step _ 5
  · next idle => rw [← eq_false_of_ne_true idle]

theorem State.run_histDueNow : Run 35610647592960 [0x505005] s s.histDueNow := histDueNow_run rfl (fun _ => id) (Run.refl _ _ s)
end

section
variable (s : State) (d : Decision)

/-- A VOID as it takes effect: the step's work gone, the void counted, the calibration of the boundary, and a save of images that waited. -/
def State.voided : State := ((s.voidStep 2 d.reasons d.modules d.origin d.time.toNat).bump PD.STEPS_VOIDED).calVerdict.imageDueNow

theorem State.applyVoid_eq : s.applyVoid d =
    if s.step.holdAtVerdict ∨ bit d.reasons rsMissing ∨ bit d.reasons rsCourse
        ∨ (s.voided d).num PD.VOTE_MAX_ATTEMPTS ≤ (s.voided d).num PD.STEP_ATTEMPT ∨ (s.voided d).mode = .drain then
      (s.voided d).histDueNow.leaveFor .held
    else ((s.voided d).closeWindows fun w => w.level = 3).nextAttempt d.time := rfl

theorem State.run_voided : Run 40000105218560 [0x120103, 0x202003, 0x411004, 0x411008, 0x620103, 0xA01003]
    ((s.voidStep 2 d.reasons d.modules d.origin d.time.toNat).bump PD.STEPS_VOIDED) (s.voided d) :=
  imageDueNow_run rfl (fun _ => subk_mem rfl) (calVerdict_run rfl (fun _ => subk_mem rfl) (Run.refl _ _ _))

@[simp] theorem State.voided_mode : (s.voided d).mode = s.mode :=
  ((s.run_voided d).part .mode rfl).trans ((State.bump_mode _ _).trans (State.voidStep_mode ..))

theorem State.voided_step : (s.voided d).step.opened = false ∧ (s.voided d).step.attempt = false := by
  have kept (x : State) : x.calVerdict.step = x.step :=
    (calVerdict_run (f := 4398047560192) (K := [0x202003, 0x411004, 0x411008, 0xA01003]) rfl (fun _ => id) (Run.refl _ _ x)).part .step rfl
  unfold State.voided
  rw [State.imageDueNow_step, kept, State.bump_step]
  exact ⟨State.voidStep_opened .., State.voidStep_attempt ..⟩
end

section
variable {s : State} (w : s.dictOk = true) (d : Decision)
include w

theorem State.dictOk_voided : (s.voided d).dictOk = true := (s.run_voided d).dict (State.dictOk_bump ((s.run_voidStep ..).dict w))

theorem State.voided_counts : (s.voided d).num PD.STEP_NUMBER = s.num PD.STEP_NUMBER
    ∧ (s.voided d).num PD.STEP_ATTEMPT = (s.num PD.STEP_ATTEMPT + 1) % 2 ^ 16
    ∧ (s.voided d).num PD.STEPS_VOIDED = (s.num PD.STEPS_VOIDED + 1) % 2 ^ 64 ∧ (s.voided d).num PD.STEP_LAST_DECISION = 2
    ∧ (s.voided d).num PD.VOTE_MAX_ATTEMPTS = s.num PD.VOTE_MAX_ATTEMPTS := by
  have ok : ((s.voidStep 2 d.reasons d.modules d.origin d.time.toNat).bump PD.STEPS_VOIDED).dictOk = true :=
    State.dictOk_bump ((s.run_voidStep ..).dict w)
  refine ⟨?_, ?_, ?_, ?_, ?_⟩ <;> rw [(s.run_voided d).num_eq ok rfl (by decide)]
  · rw [State.num_bump_ne (by decide), State.num_voidStep_ne _ _ _ _ _ _ w (by decide)]
  · rw [State.num_bump_ne (by decide), State.num_voidStep_attempt]
  · rw [State.num_bump, State.num_voidStep_ne _ _ _ _ _ _ w (by decide)]
  · rw [State.num_bump_ne (by decide), State.num_voidStep_decision]
  · rw [State.num_bump_ne (by decide), State.num_voidStep_ne _ _ _ _ _ _ w (by decide)]
end

/-- Where a VOID holds the module. -/
def State.voidHolds (s : State) (d : Decision) : Prop := s.step.holdAtVerdict ∨ bit d.reasons rsMissing ∨ bit d.reasons rsCourse
  ∨ s.num PD.VOTE_MAX_ATTEMPTS ≤ (s.num PD.STEP_ATTEMPT + 1) % 2 ^ 16 ∨ s.mode = .drain

section
variable {s : State} (w : s.dictOk = true) (d : Decision)
include w

theorem State.applyVoid_holds (h : s.voidHolds d) : s.applyVoid d = (s.voided d).histDueNow.leaveFor .held := by
  obtain ⟨-, attempt, -, -, most⟩ := State.voided_counts w d
  rw [State.applyVoid_eq, most, attempt, State.voided_mode]
  exact if_pos h

theorem State.applyVoid_goesOn (h : ¬ s.voidHolds d) :
    s.applyVoid d = ((s.voided d).closeWindows fun w => w.level = 3).nextAttempt d.time := by
  obtain ⟨-, attempt, -, -, most⟩ := State.voided_counts w d
  rw [State.applyVoid_eq, most, attempt, State.voided_mode]
  exact if_neg h

/-- The counts of a VOID stand whether the module holds or goes on. -/
theorem State.num_applyVoid {k : Nat} (h : k ∉ [0x202003, 0x505005, 0x600003, 0x600004]) : (s.applyVoid d).num k = (s.voided d).num k := by
  have ok := State.dictOk_voided w d
  by_cases held : s.voidHolds d
  · rw [State.applyVoid_holds w d held]
    exact (leaveFor_run rfl (fun _ => subk_mem rfl) (histDueNow_run rfl (fun _ => subk_mem rfl)
      (Run.refl 35610648381121 [0x505005, 0x600003, 0x600004] (s.voided d)))).num_eq ok rfl fun m => h (List.mem_cons_of_mem _ m)
  · rw [State.applyVoid_goesOn w d held]
    have closed : Run 4398046511104 [] (s.voided d) ((s.voided d).closeWindows fun w => w.level = 3) :=
      closeWindows_run rfl (fun _ => id) (Run.refl _ _ _)
    rw [State.num_nextAttempt _ (closed.dict ok) fun m => h (subk_mem rfl m), closed.num_eq ok rfl List.not_mem_nil]

theorem State.applyVoid_opened : (s.applyVoid d).step.opened = false := by
  obtain ⟨closed, ended⟩ := s.voided_step d
  by_cases held : s.voidHolds d
  · rw [State.applyVoid_holds w d held, State.leaveFor_step, State.endAttempt_opened]
  · rw [State.applyVoid_goesOn w d held]
    obtain ⟨kept, -⟩ := State.nextAttempt_step ((s.voided d).closeWindows fun w => w.level = 3) d.time ended
    exact kept.trans closed

theorem State.applyVoid_held (h : s.voidHolds d) : (s.applyVoid d).mode = .held ∧ (s.applyVoid d).step.attempt = false := by
  rw [State.applyVoid_holds w d h, State.leaveFor_step]
  exact ⟨State.leaveFor_mode _ _, State.endAttempt_attempt _⟩

theorem State.applyVoid_wentOn (h : ¬ s.voidHolds d) : (s.applyVoid d).mode = s.mode
    ∧ ((s.applyVoid d).step.attempt = true ↔ s.mode = .run) ∧ (s.mode = .run → (s.applyVoid d).step.tBase = d.time) := by
  obtain ⟨-, ended⟩ := s.voided_step d
  obtain ⟨-, -, begun, base⟩ := State.nextAttempt_step ((s.voided d).closeWindows fun w => w.level = 3) d.time ended
  have mode : ((s.voided d).closeWindows fun w => w.level = 3).mode = s.mode := s.voided_mode d
  rw [State.applyVoid_goesOn w d h, State.nextAttempt_mode, mode]
  rw [mode] at begun base
  exact ⟨rfl, begun, base⟩
end

/-! ## The event (R54, R289) -/

section
variable {s : State} {e : Event} {d : Decision}
variable (timed : s.timed = true) (runs : s.mode.hubRuns = true) (first : firstEvent s.events = some e)
include timed runs first

theorem State.fire_first {k : EventKind} (kind : e.kind = k) : ∃ x, s.fire k = some (e, x) := by
  unfold State.fire
  rw [timed, runs, first]
  exact ⟨_, if_pos kind⟩

theorem exec_commitEvent_decides (kind : e.kind = .commit) (decided : s.step.decision = some d) : ∃ x, Run 36283883717376 [] s x
    ∧ exec .commitEvent s = if d.void then .next (x.applyVoid d) else .next ((x.applyCommit d.time).nextAttempt d.time) := by
  obtain ⟨x, fires⟩ := State.fire_first timed runs first kind
  have run : Run 36283883717376 [] s x := fire_run rfl (fun _ => id) (Run.refl _ _ s) _ fires
  have step : x.step = s.step := run.part .step rfl
  refine ⟨x, run, ?_⟩
  change execCommitEvent s = _
  unfold execCommitEvent
  rw [fires]
  dsimp only
  rw [step, decided]
end

end Sys2Proof.Machine

open Sys2Proof Sys2Proof.Machine

/-- Settles O20: the counts, the step and the module's state after a COMMIT and after a VOID, in the state that the event has come to. -/
theorem decisionsTakeEffectAtCommitTime : Obligations.DecisionsTakeEffectAtCommitTime := by
  unfold Obligations.DecisionsTakeEffectAtCommitTime
  intro s e d ok timed runs first kind decided
  obtain ⟨x, run, next⟩ := exec_commitEvent_decides timed runs first kind decided
  have w : x.dictOk = true := run.dict ok
  have num (k : Nat) : x.num k = s.num k := run.num_eq ok rfl List.not_mem_nil
  have mode : x.mode = s.mode := run.part .mode rfl
  have step : x.step = s.step := run.part .step rfl
  refine ⟨fun commits unset => ?commit, fun voids => ?void⟩
  case commit =>
    have none : x.dict.waiting = none := (congrArg Dictionary.waiting (run.part .dict rfl)).trans unset
    have kept {k : Nat} := State.num_nextAttempt d.time (State.dictOk_applyCommit w none d.time) (k := k)
    obtain ⟨number, attempt, committed, decision⟩ := State.applyCommit_counts w none d.time
    obtain ⟨updating, closed, ended⟩ := x.applyCommit_step d.time
    obtain ⟨opened, updates, begun, base⟩ := State.nextAttempt_step (x.applyCommit d.time) d.time ended
    rw [State.applyCommit_mode none, mode] at begun base
    refine ⟨_, next.trans (if_neg (ne_true_of_eq_false commits)), ?_, ?_, ?_, ?_, updates.trans updating, opened.trans closed, ?_, begun, base⟩
    · rw [kept (by decide), number, num]
    · rw [kept (by decide), attempt]
    · rw [kept (by decide), committed, num]
    · rw [kept (by decide), decision]
    · rw [State.nextAttempt_mode, State.applyCommit_mode none, mode]
  case void =>
    obtain ⟨number, attempt, voided, decision, -⟩ := State.voided_counts w d
    refine ⟨_, next.trans (if_pos voids), ?_, ?_, ?_, ?_, State.applyVoid_opened w d, ?_⟩
    · rw [State.num_applyVoid w d (by decide), number, num]
    · rw [State.num_applyVoid w d (by decide), attempt, num]
    · rw [State.num_applyVoid w d (by decide), voided, num]
    · rw [State.num_applyVoid w d (by decide), decision]
    · have holds : x.voidHolds d ↔ s.voidHolds d := by
        unfold State.voidHolds
        rw [step, num, num, mode]
      split
      · next held => exact State.applyVoid_held w d (holds.2 held)
      · next goesOn => exact mode ▸ State.applyVoid_wentOn w d fun h => goesOn (holds.1 h)
end

section
/-! Proofs of verdicts and decisions (R282-R288): when a node votes and a root decides, what a message of each kind comes to, and the statement
VerdictsAndDecisionsFormOnceAndPass. -/
namespace Sys2Proof.Machine

/-! ## The first moment (R285, R286) -/

theorem Step.with_sent {a : Step} {b : Bool} (h : a.sent = b) : { a with sent := b } = a := by subst h; rfl

section
variable {s : State}

/-- A node whose verdict is formed votes when a VOID is there or every child has spoken, and once. -/
theorem State.progress_node (node : s.isRoot = false) (formed : s.step.verdictFormed = true) : s.progress.step = { s.step with
    sent := s.step.sent || s.anyVoid || s.childPorts.all fun p => s.step.children.any fun c => c.port = p } := by
  unfold State.progress
  rw [if_neg (ne_true_of_eq_false node), formed, Bool.true_and, Bool.or_assoc]
  split
  · next sent => exact (Step.with_sent (by rw [sent, Bool.true_or])).symm
  · next silent =>
    rw [eq_false_of_ne_true silent, Bool.false_or]
    split
    · next now => rw [State.sendVerdict_step, now]
    · next wait => exact (Step.with_sent ((eq_false_of_ne_true silent).trans (eq_false_of_ne_true wait).symm)).symm

section
variable (root : s.isRoot = true) (undecided : s.step.decision = none)
include root undecided

theorem State.progress_root : s.progress = if s.anyVoid then s.rootDecides true s.unionReasons
    else if s.step.verdictFormed && decide (s.num PD.VOTE_DOMAIN_SIZE ≤ s.covered) then s.rootDecides false 0 else s := by
  unfold State.progress
  rw [if_pos root, undecided]
  rfl

theorem State.progress_root_waits (clear : s.anyVoid = false) (short : s.covered < s.num PD.VOTE_DOMAIN_SIZE) : s.progress = s := by
  rw [State.progress_root root undecided, clear, decide_eq_false (Nat.not_le.2 short), Bool.and_false]
  rfl

theorem State.progress_root_decides (formed : s.step.verdictFormed = true) {void : Bool} (any : s.anyVoid = void)
    (whole : void = false → s.num PD.VOTE_DOMAIN_SIZE ≤ s.covered) :
    s.progress = s.rootDecides void (if void then s.unionReasons else 0) := by
  rw [State.progress_root root undecided, any]
  cases void with
  | true => rfl
  | false => exact (if_neg Bool.false_ne_true).trans (if_pos (by rw [formed, decide_eq_true (whole rfl)]; rfl))
end
end

/-! ## The local verdict (R282) and STEP_VOID_REQ (R283) -/

section
variable {s : State}

theorem exec_stepVoidReq_commands (commands : s.mode.commands = true) : exec .stepVoidReq s = .next s.stepVoidReq := if_pos commands

theorem State.stepVoidReq_closed (closed : s.step.opened = false) : s.stepVoidReq = s.bump PD.VOTE_CMD_IGNORED :=
  if_neg (ne_true_of_eq_false closed)

theorem State.stepVoidReq_opened (opened : s.step.opened = true) (still : ¬ (s.isRoot = true ∧ s.step.verdictFormed = true)) :
    s.stepVoidReq = s.setNum PD.STEP_REASONS (orBit (s.num PD.STEP_REASONS) rsHost) := by
  unfold State.stepVoidReq
  have root : (s.setNum PD.STEP_REASONS (orBit (s.num PD.STEP_REASONS) rsHost)).isRoot = s.isRoot := by
    unfold State.isRoot; rw [State.num_setNum_ne (by decide)]
  rw [if_pos opened, State.reason_recorded (.inl opened)]
  dsimp only
  rw [root]
  exact if_neg fun h => still (Bool.and_eq_true_iff.1 h)

theorem exec_localVerdict_attempts (attempt : s.step.attempt = true) (running : s.mode = .run ∨ s.mode = .drain) : exec .localVerdict s =
    if s.step.verdictFormed then .next s.progress else if !s.reduceEnded then .next s else .next s.formVerdict.progress := by
  have runs : s.mode.running = true := by rcases running with h | h <;> rw [h] <;> rfl
  exact if_neg (by rw [attempt, runs]; decide)
end

/-! ## Vote messages (R284) -/

section
variable {s : State} {port : Port} {msg : List Byte} {act : Vote → Nat → Res}

/-- What a vote message comes to: `act` on its fields and its logical port, or an error where it names no attempt under way or its port has no
logical number. -/
def State.readVote (s : State) (port : Port) (msg : List Byte) (act : Vote → Nat → Res) : Res :=
  match s.voteFor msg, s.logicalOf port.val with
  | some v, some l => act v l
  | _, _ => .next (s.bump PD.VOTE_MSG_ERR)

theorem State.readVote_read {v : Vote} {l : Nat} (hv : s.voteFor msg = some v) (hl : s.logicalOf port.val = some l) :
    s.readVote port msg act = act v l := by
  unfold State.readVote; rw [hv, hl]

/-- A message is an error where `act` finds one in each that can be read. -/
theorem State.readVote_wrong
    (wrong : ∀ v l, s.voteFor msg = some v → s.logicalOf port.val = some l → act v l = .next (s.bump PD.VOTE_MSG_ERR)) :
    s.readVote port msg act = .next (s.bump PD.VOTE_MSG_ERR) := by
  unfold State.readVote
  split
  · next v l hv hl => exact wrong v l hv hl
  · rfl
end

/-! ### VERDICT_RECEIVED (R284-R286) -/

/-- A child's VERDICT joins those there are, the first VOID seen as the origin. -/
def State.childCounted (s : State) (l : Nat) (v : Vote) : State := { s with step := { s.step with
  children := s.step.children ++ [⟨l, v.void, v.reasons, v.modules, v.excluded, v.origin⟩]
  origin := if v.void then some (s.step.origin.getD v.origin) else s.step.origin } }

/-- A VERDICT that is none of a child's first for this attempt is an error, one after the vote or the decision is late, another counts. -/
def State.takeVerdict (s : State) (v : Vote) (l : Nat) : Res :=
  if v.kind ≠ 1 ∨ !s.childPorts.contains l ∨ v.time ≠ 0 ∨ s.step.children.any (fun c => c.port = l) then .next (s.bump PD.VOTE_MSG_ERR)
  else if (if s.isRoot then s.step.decision.isSome else s.step.sent) then .next (s.bump PD.VERDICTS_LATE)
  else .next (s.childCounted l v).progress

section
variable {s : State} (runs : s.mode.hubRuns = true) {port : Port} {msg : List Byte}
include runs

theorem exec_verdictReceived_reads :
    exec (.verdictReceived port msg) s = (s.takeMessage 1 msg).readVote port msg (s.takeMessage 1 msg).takeVerdict := by
  change execVerdictReceived _ _ s = _
  unfold execVerdictReceived
  rw [runs]
  rfl

theorem exec_verdictReceived_child {v : Vote} {l : Nat} (hv : s.voteFor msg = some v) (hl : s.logicalOf port.val = some l) (kind : v.kind = 1)
    (child : l ∈ s.childPorts) (untimed : v.time = 0) (new : s.step.children.all (fun c => c.port ≠ l) = true) :
    exec (.verdictReceived port msg) s =
      if (if s.isRoot then s.step.decision.isSome else s.step.sent) then .next ((s.takeMessage 1 msg).bump PD.VERDICTS_LATE)
      else .next ((s.takeMessage 1 msg).childCounted l v).progress := by
  rw [exec_verdictReceived_reads runs, State.readVote_read (s := s.takeMessage 1 msg) hv hl]
  have first : ¬(v.kind ≠ 1 ∨ !s.childPorts.contains l ∨ v.time ≠ 0 ∨ s.step.children.any (fun c => c.port = l)) := by
    have other : ∀ c ∈ s.step.children, ¬ c.port = l := by simpa using new
    simpa [kind, child, untimed] using other
  exact if_neg first

theorem exec_verdictReceived_wrong (wrong : ∀ v l, s.voteFor msg = some v → s.logicalOf port.val = some l →
      v.kind ≠ 1 ∨ l ∉ s.childPorts ∨ v.time ≠ 0 ∨ s.step.children.any (fun c => c.port = l) = true) :
    exec (.verdictReceived port msg) s = .next ((s.takeMessage 1 msg).bump PD.VOTE_MSG_ERR) := by
  rw [exec_verdictReceived_reads runs]
  refine State.readVote_wrong fun v l hv hl => ?_
  have bad : v.kind ≠ 1 ∨ !s.childPorts.contains l ∨ v.time ≠ 0 ∨ s.step.children.any (fun c => c.port = l) := by
    simpa using wrong v l hv hl
  exact if_pos bad
end

/-! ### DECISION_RECEIVED (R284, R286, R288) -/

/-- The parent's first DECISION goes on to every child port and is taken; any other is an error. -/
def State.passDecision (s : State) (msg : List Byte) (v : Vote) (l : Nat) : Res :=
  if v.kind ≠ 2 ∨ s.isRoot ∨ l ≠ s.num PD.VOTE_PARENT_PORT ∨ s.step.decision.isSome then .next (s.bump PD.VOTE_MSG_ERR)
  else .next ((s.each s.childPorts fun s p => s.sendVote p msg).takeDecision
    ⟨v.void, v.reasons, v.modules, v.excluded, v.origin, BitVec.ofNat 64 v.time⟩)

section
variable {s : State} (runs : s.mode.hubRuns = true) {port : Port} {msg : List Byte}
include runs

theorem exec_decisionReceived_reads :
    exec (.decisionReceived port msg) s = (s.takeMessage 1 msg).readVote port msg ((s.takeMessage 1 msg).passDecision msg) := by
  change execDecisionReceived _ _ s = _
  unfold execDecisionReceived
  rw [runs]
  rfl

theorem exec_decisionReceived_parent {v : Vote} {l : Nat} (hv : s.voteFor msg = some v) (hl : s.logicalOf port.val = some l) (kind : v.kind = 2)
    (node : s.isRoot = false) (parent : l = s.num PD.VOTE_PARENT_PORT) (undecided : s.step.decision = none) :
    exec (.decisionReceived port msg) s = .next (((s.takeMessage 1 msg).each s.childPorts fun s p => s.sendVote p msg).takeDecision
      ⟨v.void, v.reasons, v.modules, v.excluded, v.origin, BitVec.ofNat 64 v.time⟩) := by
  rw [exec_decisionReceived_reads runs, State.readVote_read (s := s.takeMessage 1 msg) hv hl]
  have first : ¬(v.kind ≠ 2 ∨ s.isRoot ∨ l ≠ s.num PD.VOTE_PARENT_PORT ∨ s.step.decision.isSome) := by
    simp [kind, node, parent, undecided]
  exact if_neg first

theorem exec_decisionReceived_wrong (wrong : ∀ v l, s.voteFor msg = some v → s.logicalOf port.val = some l →
      v.kind ≠ 2 ∨ s.isRoot = true ∨ l ≠ s.num PD.VOTE_PARENT_PORT ∨ s.step.decision.isSome = true) :
    exec (.decisionReceived port msg) s = .next ((s.takeMessage 1 msg).bump PD.VOTE_MSG_ERR) := by
  rw [exec_decisionReceived_reads runs]
  exact State.readVote_wrong fun v l hv hl => if_pos (wrong v l hv hl)
end

/-- A decision that the queue refuses comes too late: the module voids locally and is HELD. -/
theorem State.takeDecision_voids {s : State} (w : s.dictOk = true) {d : Decision} (late : s.evTest d.time ≠ .ok) :
    (s.takeDecision d).mode = .held ∧ (s.takeDecision d).num PD.VOID_LOCAL = (s.num PD.VOID_LOCAL + 1) % 2 ^ 64 := by
  rw [State.takeDecision_late late]
  have noted : (s.deciding d).dictOk = true := w
  refine ⟨State.lateDecision_mode _ _, ?_⟩
  rw [State.num_lateDecision _ (State.dictOk_bump noted), State.num_bump_ne (by decide)]
  rfl

/-- What a node leaves that has passed its parent's decision on. -/
theorem State.decisionPassed (s : State) (w : s.dictOk = true) (msg : List Byte) (d : Decision) :
    ∃ u, u = ((s.takeMessage 1 msg).each s.childPorts fun s p => s.sendVote p msg).takeDecision d
      ∧ (s.evTest d.time = .ok → u.step.decision = some d ∧ u.events = s.events ++ [⟨d.time, .commit, 0, b2n d.void⟩]
        ∧ u.link = ((s.takeMessage 1 msg).each s.childPorts fun s p => s.sendVote p msg).link)
      ∧ (s.evTest d.time ≠ .ok → u.mode = .held ∧ u.num PD.VOID_LOCAL = (s.num PD.VOID_LOCAL + 1) % 2 ^ 64) := by
  have sent := (s.takeMessage 1 msg).run_sendVotes s.childPorts msg
  have events : _ = s.events := sent.part .events rfl
  have test := State.evTest_congr (s := s) (sent.part .course rfl) events d.time
  refine ⟨_, rfl, fun ok => ?queued, fun late => ?late⟩
  case queued =>
    rw [State.takeDecision_queued (test.trans ok)]
    exact ⟨rfl, congrArg (· ++ _) events, rfl⟩
  case late =>
    obtain ⟨held, counted⟩ := State.takeDecision_voids (sent.dict w) fun ok => late (test.symm.trans ok)
    exact ⟨held, counted.trans (congrArg (fun n => (n + 1) % 2 ^ 64) (sent.num_eq w rfl List.not_mem_nil))⟩

end Sys2Proof.Machine

open Sys2Proof Sys2Proof.Machine

/-- Settles O33: the local verdict and the first moment of a node and of a root, then each message by whether it is the first of its kind. -/
theorem verdictsAndDecisionsFormOnceAndPass : Obligations.VerdictsAndDecisionsFormOnceAndPass := by
  unfold Obligations.VerdictsAndDecisionsFormOnceAndPass
  intro s ok
  refine ⟨fun commands => ⟨fun closed => ?ignored, fun opened still => ?host⟩, fun attempt running => ?verdict,
    fun runs port msg => ⟨fun v l hv hl kind child untimed new => ?child, fun wrong => ?wrongVerdict,
      fun v l hv hl kind node parent undecided => ?decision, fun wrong => ?wrongDecision⟩⟩
  case ignored =>
    exact ⟨_, exec_stepVoidReq_commands commands, by rw [State.stepVoidReq_closed closed, State.num_bump],
      by rw [State.stepVoidReq_closed closed, State.bump_step]⟩
  case host =>
    exact ⟨_, exec_stepVoidReq_commands commands, by rw [State.stepVoidReq_opened opened still, State.num_setNum],
      by rw [State.stepVoidReq_opened opened still, State.setNum_step]⟩
  case verdict =>
    have next := exec_localVerdict_attempts attempt running
    refine ⟨fun unformed reducing => ?_, fun unformed reduced => ?_, fun formed => ⟨_, next.trans (if_pos formed), fun node => ?node,
      fun root undecided clear short => State.progress_root_waits root undecided clear short,
      fun void root undecided any whole fits => ?root⟩⟩
    · rw [next, unformed, reducing]; rfl
    · exact ⟨s.formVerdict, rfl, rfl, by rw [next, unformed, reduced]; rfl⟩
    case node => exact State.progress_node node formed
    case root =>
      rw [State.progress_root_decides root undecided formed any whole]
      obtain ⟨d, decided, hv, hr, ht, queued⟩ := State.rootDecides_queued (void := void) (reasons := if void then s.unionReasons else 0) fits
      exact ⟨by rw [decided, Option.map_some, hv, hr, ht], queued⟩
  case child =>
    have next := exec_verdictReceived_child runs hv hl kind child untimed new
    refine ⟨fun late => ⟨_, next.trans (if_pos late), State.num_bump, rfl⟩, fun early => ?_⟩
    exact ⟨(s.takeMessage 1 msg).childCounted l v, rfl, rfl, rfl, next.trans (if_neg (ne_true_of_eq_false early))⟩
  case wrongVerdict => exact ⟨_, exec_verdictReceived_wrong runs wrong, State.num_bump, rfl⟩
  case decision =>
    obtain ⟨u, eq, taken⟩ := s.decisionPassed ok msg ⟨v.void, v.reasons, v.modules, v.excluded, v.origin, BitVec.ofNat 64 v.time⟩
    exact ⟨u, eq ▸ exec_decisionReceived_parent runs hv hl kind node parent undecided, taken⟩
  case wrongDecision => exact ⟨_, exec_decisionReceived_wrong runs wrong, State.num_bump, rfl⟩
end

section
/-! Proofs of the ends of UPDATE and WRITEBACK and of the root jobs (R276, R277, R326-R333): what each leaves, and the statement
UpdateWritebackAndRootJobsEndInTurn. -/
namespace Sys2Proof.Machine

/-! ## UPDATE_END (R330) -/

section
variable {s : State}

/-- UPDATE is recorded in the phase table and WRITEBACK begins. -/
def State.updateOver (s : State) (P : List (List Nat)) : State :=
  { s with step := { s.step with phaseTable := P, updating := false, writing := true } }

theorem State.run_copiesSent (s : State) : Run 40076363710464 [0x40100D, 0x401101, 0x502101, 0x502104, 0x502105, 0x502106, 0x507001, 0x507003,
    0x600004, 0x620207, 0x620209, 0x62020A, 0x700208, 0xA10001, 0xA10006] s s.queueRoots.sendCopies :=
  sendCopies_run rfl (fun _ => subk_mem rfl) (queueRoots_run rfl (fun _ => subk_mem rfl) (Run.refl _ _ s))

theorem exec_updateEnd_ends (runs : s.mode.hubRuns = true) (updating : s.step.updating = true) (averaged : s.exch.ownDeltas = []) :
    ∃ P, exec .updateEnd s = .next (s.updateOver P).queueRoots.sendCopies :=
  ⟨_, if_neg (by rw [updating, averaged, runs]; decide)⟩

theorem exec_updateEnd_waits (h : s.step.updating = false ∨ s.exch.ownDeltas ≠ []) : exec .updateEnd s = .next s := by
  refine if_pos ?_
  rcases h with h | h
  · exact .inl (by rw [h]; rfl)
  · exact .inr (.inl (by simpa using h))
end

/-! ## WRITEBACK_END (R276, R277, R333) -/

/-- WRITEBACK is recorded in the phase table and over, its gather deadline gone, a save of images that waited taken, the arrays preloaded. -/
def State.writebackOver (s : State) : State :=
  let row := (s.step.phaseTable.reverse.find? fun r => r.getD 2 0 = 1).getD []
  let s := s.patchPhase 5 (row.getD 8 0) (duration (row.getD 8 0) s.ctime.toNat)
  State.preload (State.imageDueNow { s.dropEvents fun k => decide (k = .gather) with step := { s.step with writing := false } })

/-- A module that drains is HELD at the end of WRITEBACK, after a save of history that waited. -/
def State.drained (s : State) : State := if s.mode = .drain then s.histDueNow.leaveFor .held else s

section
variable (s : State)

theorem State.run_preload : Run 40007644233728 [0x40100D, 0x401101, 0x502101, 0x502104, 0x502105, 0x502106, 0x507001, 0x507003, 0x600004,
    0x620209, 0x62020A, 0xA10001, 0xA10006] s s.preload := preload_run rfl (fun _ => id) (Run.refl _ _ s)

theorem State.run_writebackOver : Run 40008717976064 [0x120103, 0x40100D, 0x401101, 0x502101, 0x502104, 0x502105, 0x502106, 0x507001, 0x507003,
    0x600004, 0x620103, 0x620209, 0x62020A, 0xA10001, 0xA10006] s s.writebackOver :=
  preload_run rfl (fun _ => subk_mem rfl) (imageDueNow_run rfl (fun _ => subk_mem rfl) (run_upd_step rfl (dropEvents_run rfl (fun _ => subk_mem rfl)
    (patchPhase_run rfl (fun _ => subk_mem rfl) (Run.refl _ _ s)))))

theorem State.writebackOver_step : s.writebackOver.step.writing = false ∧ s.writebackOver.step.imageDue = false := by
  unfold State.writebackOver
  dsimp only
  rw [((State.run_preload _).part .step rfl : State.step _ = State.step _), State.imageDueNow_step]
  exact ⟨rfl, rfl⟩

theorem State.imageDueNow_events : s.imageDueNow.events = s.events :=
  (imageDueNow_run (f := 35602057658368) (K := [0x120103, 0x620103]) rfl (fun _ => id) (Run.refl _ _ s)).part .events rfl

theorem State.writebackOver_events : s.writebackOver.events = s.events.filter fun e => !decide (e.kind = .gather) :=
  ((State.run_preload _).part .events rfl).trans (State.imageDueNow_events _)

theorem State.drained_mode : s.drained.mode = if s.mode = .drain then .held else s.mode := by
  unfold State.drained
  split
  · exact State.leaveFor_mode _ _
  · rfl

/-- A save of history that waited waits no longer, and the step is otherwise as it was. -/
theorem State.histDueNow_step : s.histDueNow.step = { s.step with histDue := false } := by
  unfold State.histDueNow
  split
  · dsimp only
    split
    · exact (histWrite_run (f := 12884901888) (K := [0x505005]) rfl (fun _ => id) (Run.refl _ _ _)).part .step rfl
    · exact (histNow_run (f := 35600983916544) (K := [0x505005]) rfl (fun _ => id) (Run.refl _ _ _)).part .step rfl
  · next idle => rw [← eq_false_of_ne_true idle]

theorem State.drained_step : s.drained.step.writing = s.step.writing ∧ s.drained.step.imageDue = s.step.imageDue := by
  unfold State.drained
  split
  · rw [State.leaveFor_step, State.endAttempt_writing, State.endAttempt_imageDue, State.histDueNow_step]
    exact ⟨rfl, rfl⟩
  · exact ⟨rfl, rfl⟩

theorem State.drained_events {e : Event} (h : e ∈ s.drained.events) : e ∈ s.events := by
  unfold State.drained at h
  split at h
  · rw [State.leaveFor_events, (s.run_histDueNow.part .events rfl : s.histDueNow.events = s.events)] at h
    exact (List.mem_filter.1 h).1
  · exact h

theorem State.run_drained : Run 35610648381121 [0x505005, 0x600003, 0x600004] s s.drained :=
  ite_run (leaveFor_run rfl (fun _ => subk_mem rfl) (histDueNow_run rfl (fun _ => subk_mem rfl) (Run.refl _ _ s))) (Run.refl _ _ s)

/-- The end of WRITEBACK and the leave of DRAIN keep the firmware unit. -/
theorem State.writebackOver_drained_fw : s.writebackOver.drained.fw = s.fw :=
  ((State.run_drained _).part .fw rfl).trans (s.run_writebackOver.part .fw rfl)
end

section
variable {s : State}

theorem exec_writebackEnd_ends (runs : s.mode.hubRuns = true) (writing : s.step.writing = true) (gathered : s.exch.awaited = [])
    (written : s.arrays.writes = []) : exec .writebackEnd s = .next (if s.fw.due && s.fw.dueCommit
      then s.writebackOver.drained.activate else s.writebackOver.drained) := by
  rw [← State.writebackOver_drained_fw]
  exact if_neg (by rw [writing, gathered, written, runs]; decide)

theorem exec_writebackEnd_waits (h : s.step.writing = false ∨ s.exch.awaited ≠ [] ∨ s.arrays.writes ≠ []) :
    exec .writebackEnd s = .next s := by
  refine if_pos ?_
  rcases h with h | h | h
  · exact .inl (by rw [h]; rfl)
  · exact .inr (.inl (by simpa using h))
  · exact .inr (.inr (.inl (by simpa using h)))
end

/-! ### An activation (R511, R512) -/

section
variable (s : State)

/-- An activation is no longer due and its outcome is pending. -/
def State.activationBegun : State :=
  let s := (s.setNum PD.FW_STAGE_STATE 3).setNum PD.FW_RESULT fwPending
  { s with fw := { s.fw with due := false, dueCommit := false } }

/-- An activation is counted and reported; the restart follows. -/
def State.activationCounted : State :=
  ((s.activationBegun.bump PD.FW_ACTIVATIONS).setNum PD.FW_ROLLBACK_MIN s.fw.packageRollback).fwSpall 1 0 0

theorem State.activate_eq : s.activate = s.activationCounted.warmRestart := rfl

theorem State.run_warmRestart : Run 38423887611841 [0x202003, 0x210202, 0x600003, 0x600004] s s.warmRestart :=
  warmRestart_run rfl (fun _ => id) (Run.refl _ _ s)

theorem State.run_fwSpall (event code part : Nat) : Run 110363479638016 [0xA10001, 0xA10006] s (s.fwSpall event code part) :=
  fwSpall_run rfl (fun _ => id) (Run.refl _ _ s)

theorem State.activate_mode : s.activate.mode = .boot := State.enter_mode _ _

theorem State.num_activate_cause : s.activate.num PD.RESET_CAUSE = 3 := (State.num_enter _ _ _).trans State.num_setNum

theorem State.num_activationBegun : s.activationBegun.num PD.FW_ACTIVATIONS = s.num PD.FW_ACTIVATIONS :=
  (State.num_setNum_ne (by decide)).trans (State.num_setNum_ne (by decide))

theorem State.num_activate {s : State} (w : s.dictOk = true) :
    s.activate.num PD.FW_ACTIVATIONS = (s.num PD.FW_ACTIVATIONS + 1) % 2 ^ 64 := by
  have begun : s.activationBegun.dictOk = true := State.dictOk_setNum (State.dictOk_setNum w)
  have counted := State.dictOk_setNum (k := PD.FW_ROLLBACK_MIN) (n := s.fw.packageRollback) (State.dictOk_bump (k := PD.FW_ACTIVATIONS) begun)
  have reported : s.activationCounted.dictOk = true := (State.run_fwSpall _ 1 0 0).dict counted
  rw [State.activate_eq, (State.run_warmRestart _).num_eq reported rfl (by decide), State.activationCounted,
    (State.run_fwSpall _ 1 0 0).num_eq counted rfl (by decide), State.num_setNum_ne (by decide), State.num_bump, State.num_activationBegun]
end

/-! ## ROOT_JOB (R326, R327, R329) -/

section
variable {s : State} {die : Fin 2}

@[simp] theorem State.countRoot_upd (s : State) (o : RootOutcome) (old : Bool) : (s.countRoot o old).upd = s.upd :=
  (countRoot_run (f := 0) (K := [0x620202, 0x620203, 0x620204, 0x620205, 0x620206]) rfl (fun _ => id) (Run.refl _ _ s)).part .upd rfl

section
variable (s) (j : RootJob) (p : Pane)

/-- The outcomes of both factors of a job count, the left one first. -/
def State.rootsCounted : State :=
  (s.countRoot (s.rootOf j.l p.rows p.lroot.isSome).1 p.lroot.isSome).countRoot (s.rootOf j.r p.cols p.rroot.isSome).1 p.rroot.isSome

/-- A job with the roots and the outcomes of both its factors. -/
def State.jobDone : RootJob := { j with staged := some ((s.rootOf j.l p.rows p.lroot.isSome).2, (s.rootOf j.r p.cols p.rroot.isSome).2,
  [(s.rootOf j.l p.rows p.lroot.isSome).1, (s.rootOf j.r p.cols p.rroot.isSome).1]) }

theorem State.rootsCounted_upd : (s.rootsCounted j p).upd = s.upd := by
  unfold State.rootsCounted; rw [State.countRoot_upd, State.countRoot_upd]

/-- The job is staged in its place among the jobs. -/
def State.jobStaged : State :=
  let t := s.rootsCounted j p
  { t with upd := { t.upd with jobs := t.upd.jobs.map fun x => if x = j then s.jobDone j p else x } }

theorem State.jobStaged_upd : (s.jobStaged j p).upd = { s.upd with jobs := s.upd.jobs.map fun x => if x = j then s.jobDone j p else x } := by
  unfold State.jobStaged; dsimp only; rw [State.rootsCounted_upd]
end

theorem exec_rootJob_stages (runs : s.mode.hubRuns = true) (idle : s.step.updating = false) (still : s.step.writing = false) {j : RootJob}
    {p : Pane} (job : s.upd.jobs.find? (fun j => j.die = die.val ∧ j.staged.isNone) = some j) (pane : s.findPane j.layer j.pane = some p) :
    exec (.rootJob die) s = .next (s.jobStaged j p) := by
  change execRootJob die s = _
  unfold execRootJob
  rw [if_neg (by rw [runs, idle, still]; decide), job]
  dsimp only
  rw [pane]
  rfl

theorem exec_rootJob_rests (h : s.step.updating = true ∨ s.step.writing = true
    ∨ s.upd.jobs.find? (fun j => j.die = die.val ∧ j.staged.isNone) = none) : exec (.rootJob die) s = .next s := by
  change execRootJob die s = _
  unfold execRootJob
  split
  · rfl
  · next engine =>
    rcases h with h | h | h
    · exact absurd (.inr (.inl h)) engine
    · exact absurd (.inr (.inr h)) engine
    · rw [h]
end
end Sys2Proof.Machine

open Sys2Proof Sys2Proof.Machine

/-- Settles O36: the end of UPDATE, the end of WRITEBACK without and with an activation due, and the oldest job of a die. -/
theorem updateWritebackAndRootJobsEndInTurn : Obligations.UpdateWritebackAndRootJobsEndInTurn := by
  unfold Obligations.UpdateWritebackAndRootJobsEndInTurn
  intro s ok runs
  refine ⟨fun updating averaged => ?update, exec_updateEnd_waits, fun writing gathered written => ?writeback, exec_writebackEnd_waits,
    fun die => ⟨fun idle still j p job pane => ?job, exec_rootJob_rests⟩⟩
  case update =>
    obtain ⟨P, next⟩ := exec_updateEnd_ends runs updating averaged
    have sent := (s.updateOver P).run_copiesSent
    exact ⟨_, P, next, sent.part .exch rfl, sent.part .mode rfl, sent.part .step rfl⟩
  case writeback =>
    refine ⟨_, exec_writebackEnd_ends runs writing gathered written, fun idle => ?stays, fun due dueCommit => ?restarts⟩
    case stays =>
      obtain ⟨written, saved⟩ := s.writebackOver_step
      obtain ⟨writing, waiting⟩ := s.writebackOver.drained_step
      rw [if_neg (by rcases idle with h | h <;> simp [h])]
      refine ⟨?_, writing.trans written, waiting.trans saved, fun e he => ?_⟩
      · rw [State.drained_mode, (s.run_writebackOver.part .mode rfl : s.writebackOver.mode = s.mode)]
      · have kept := State.drained_events _ he
        rw [State.writebackOver_events] at kept
        simpa using kept
    case restarts =>
      have w := s.run_writebackOver.dict ok
      rw [if_pos (by rw [due, dueCommit]; rfl)]
      refine ⟨State.activate_mode _, State.num_activate_cause _, ?_⟩
      rw [State.num_activate ((State.run_drained _).dict w), (State.run_drained _).num_eq w rfl (by decide),
        s.run_writebackOver.num_eq ok rfl (by decide)]
  case job =>
    exact ⟨_, exec_rootJob_stages runs idle still job pane, by rw [State.jobStaged_upd], rfl, by rw [State.jobStaged_upd]; rfl⟩
end

section
/-! Proofs of the exchange's records (R298-R311): how a record's command reads it, what each kind does in time and late, and the statement
RecordsActOnceOfTheRightAttemptAndOthersCount. -/
namespace Sys2Proof.Machine

/-! ## Reading a record (R298, R299) -/

@[simp] theorem State.num_takeMessage (s : State) (cls : Nat) (bytes : List Byte) (k : Nat) : (s.takeMessage cls bytes).num k = s.num k := rfl

/-- The counter of a record that is not of the attempt its kind asks for: a LATE notice of the attempt just committed has its own. -/
def State.staleCounter (s : State) (x : XHdr) : Nat :=
  if x.kind = 8 ∧ s.lastCommit = some (x.step, x.attempt) then PD.EXCH_NOTICE_LATE else PD.EXCH_STALE

section
variable {s : State} {cls : Nat} {kinds : List Nat} {bytes : List Byte} {f : State → XHdr → List Byte → State}
variable (runs : s.mode.hubRuns = true)
include runs

theorem State.receiveRecord_misformed (bad : XHdr.parse bytes (s.num PD.EXCH_SIZE) = none) :
    s.receiveRecord cls kinds bytes f = (s.takeMessage cls bytes).bump PD.EXCH_REC_ERR := by
  unfold State.receiveRecord
  rw [if_neg (by rw [runs, bad]; simp)]
  dsimp only
  rw [State.num_takeMessage, bad]

variable {x : XHdr} {body : List Byte} (parsed : XHdr.parse bytes (s.num PD.EXCH_SIZE) = some (x, body)) (named : x.kind = fieldAt bytes 1 1)
  (own : x.kind ∈ kinds)
include parsed named own

/-- A record of the command's kinds acts or counts by its attempt. -/
theorem State.receiveRecord_parsed : s.receiveRecord cls kinds bytes f =
    if s.fresh? x then f (s.takeMessage cls bytes) x body else (s.takeMessage cls bytes).bump (s.staleCounter x) := by
  unfold State.receiveRecord
  rw [if_neg (by rw [runs, ← named, List.contains_iff_mem.2 own]; simp)]
  dsimp only
  rw [State.num_takeMessage, parsed]
  exact ite_congr rfl (fun _ => rfl) fun _ => (apply_ite _ _ _ _).symm

theorem State.receiveRecord_stale (stale : s.fresh? x = false) :
    s.receiveRecord cls kinds bytes f = (s.takeMessage cls bytes).bump (s.staleCounter x) :=
  (State.receiveRecord_parsed runs parsed named own).trans (if_neg (ne_true_of_eq_false stale))

theorem State.receiveRecord_fresh (fresh : s.fresh? x = true) :
    s.receiveRecord cls kinds bytes f = f (s.takeMessage cls bytes) x body :=
  (State.receiveRecord_parsed runs parsed named own).trans (if_pos fresh)
end

/-! ## The actions of the kinds -/

/-- A LATE notice marks a record of a layer that this module has sent, once (R306). -/
def State.takeNotice (s : State) (x : XHdr) (_ : List Byte) : State :=
  let k := (x.layer, x.pane, x.tile)
  if s.exch.sentLayers.contains x.layer ∧ !s.exch.missed.contains k then
    { s.bump PD.EXCH_RECORDS with exch := { s.exch with missed := s.exch.missed ++ [k] } }
  else s.bump PD.EXCH_RECORDS

/-- A sender's records and proposals are withdrawn (R310). -/
def Exchange.without (e : Exchange) (sender : Nat) : Exchange :=
  { e with excluded := e.excluded ++ [sender]
           accepted := e.accepted.filter fun r => r.sender ≠ sender
           proposals := e.proposals.filter fun p => p.2.1 ≠ sender }

/-- An EXCLUDE record in time withdraws its sender once (R310). -/
def State.takeExclusion (s : State) (x : XHdr) (_ : List Byte) : State :=
  if s.late then s.lateRecord x
  else if (s.bump PD.EXCH_RECORDS).exch.excluded.contains x.sender then s.bump PD.EXCH_RECORDS
  else { (s.bump PD.EXCH_RECORDS).bump PD.EXCH_EXCLUDED with exch := s.exch.without x.sender }

/-- A member's outlier set joins the proposals (R313). -/
def Exchange.proposing (e : Exchange) (x : XHdr) (body : List Byte) : Exchange :=
  { e with proposals := e.proposals ++ [(x.layer, x.sender, (List.range x.elements).map fun i => fieldAt body (4 * i) 4)] }

/-- A SET record in time adds a proposal of a sender that is not excluded (R313). -/
def State.takeProposal (s : State) (x : XHdr) (body : List Byte) : State :=
  if s.late then s.lateRecord x
  else if s.exch.excluded.contains x.sender ∨ x.excl then s.bump PD.EXCH_RECORDS
  else { s.bump PD.EXCH_RECORDS with exch := s.exch.proposing x body }

/-- A staged tile is counted, stored in its place and noted as arrived (R311). -/
def State.tileStaged (s : State) (t : Tensor) (x : XHdr) (tile : List Byte) : State :=
  let s := ((s.bump PD.EXCH_RECORDS).bump PD.STAGE_TILES).tileWrite t false x.tile tile
  { s with exch := { s.exch with stageIn := s.exch.stageIn ++ [(x.tensor, x.tile)] } }

/-- A STAGE record brings a tile of an IN tensor, or is of a wrong form (R311). -/
def State.takeStage (s : State) (x : XHdr) (body : List Byte) : State :=
  match s.tensor x.tensor, (bodyTiles 1 body).map fun l => l.headD [] with
  | some t, some b =>
    if (s.rows PD.STAGE_TABLE).any (fun r => r.headD 0 = x.tensor && r.getD 1 0 = 1) ∧ x.tile < t.tiles then s.tileStaged t x b
    else s.bump PD.EXCH_REC_ERR
  | _, _ => s.bump PD.EXCH_REC_ERR

section
variable (bytes : List Byte) (s : State)

theorem exec_contributionRecord_receives :
    exec (.contributionRecord bytes) s = .next (s.receiveRecord 2 [1, 2] bytes State.takeContribution) := rfl
theorem exec_lateNotice_receives : exec (.lateNotice bytes) s = .next (s.receiveRecord 2 [8] bytes State.takeNotice) := rfl
theorem exec_excludeRecord_receives : exec (.excludeRecord bytes) s = .next (s.receiveRecord 2 [9] bytes State.takeExclusion) := rfl
theorem exec_setRecord_receives : exec (.setRecord bytes) s = .next (s.receiveRecord 3 [6] bytes State.takeProposal) := rfl
theorem exec_stageRecord_receives : exec (.stageRecord bytes) s = .next (s.receiveRecord 2 [7] bytes State.takeStage) := rfl
end

/-- A command, with the class and the kinds of its records, takes them from the link by `receiveRecord`. -/
def Receives (c : (List Byte → Instr) × Nat × List Nat) : Prop :=
  ∃ f, ∀ bytes s, exec (c.1 bytes) s = .next (s.receiveRecord c.2.1 c.2.2 bytes f)

/-- The eight commands of exchange records, each with the class and the kinds that it takes. -/
def recordCommands : List ((List Byte → Instr) × Nat × List Nat) :=
  [(.contributionRecord, 2, [1, 2]), (.lateNotice, 2, [8]), (.excludeRecord, 2, [9]), (.setRecord, 3, [6]), (.stageRecord, 2, [7]),
    (.gatherRecord, 3, [3, 4, 5]), (.twinShard, 3, [10]), (.twinDelta, 3, [11])]

theorem recordCommands_receive : ∀ c ∈ recordCommands, Receives c := by
  simp only [recordCommands, List.forall_mem_cons]
  exact ⟨⟨_, exec_contributionRecord_receives⟩, ⟨_, exec_lateNotice_receives⟩, ⟨_, exec_excludeRecord_receives⟩, ⟨_, exec_setRecord_receives⟩,
    ⟨_, exec_stageRecord_receives⟩, ⟨_, fun _ _ => rfl⟩, ⟨_, fun _ _ => rfl⟩, ⟨_, fun _ _ => rfl⟩, nofun⟩

/-! ### Contributions (R305, R310) -/

section
variable {s : State} {x : XHdr} {body : List Byte}

/-- A late contribution only counts: telling its sender leaves the exchange and the counter. -/
theorem State.takeContribution_late (w : s.dictOk = true) (late : s.late = true) : (s.takeContribution x body).exch = s.exch
    ∧ (s.takeContribution x body).num PD.EXCH_LATE = (s.num PD.EXCH_LATE + 1) % 2 ^ 64 := by
  have told : Run 35253091565568 [PD.FLITS_NO_ROUTE] (s.bump PD.EXCH_LATE) (s.lateRecord x) := sendTo_run rfl (fun _ => id) (Run.refl _ _ _)
  have discarded : s.takeContribution x body = s.lateRecord x := if_pos late
  rw [discarded]
  exact ⟨told.part .exch rfl, (told.num_eq (State.dictOk_bump w) rfl (by decide)).trans State.num_bump⟩

@[simp] theorem State.num_acceptOwn (k : Nat) : (s.acceptOwn x body).num k = s.num k := rfl

/-- The exchange with a contribution at the end of the accepted ones. -/
def Exchange.accepting (e : Exchange) (x : XHdr) (body : List Byte) : Exchange :=
  { e with accepted := e.accepted ++ [⟨x.kind, x.layer, x.pane, x.sender, x.samples, x.carried, body⟩] }

@[simp] theorem State.acceptOwn_exch : (s.acceptOwn x body).exch = s.exch.accepting x body := rfl

section
variable (timely : s.late = false) (member : s.exch.excluded.contains x.sender = false) (whole : x.excl = false)
include timely member whole

/-- A contribution in time of a sender that takes part goes by its values and by the policy. -/
theorem State.takeContribution_timely : s.takeContribution x body =
    if (bodyValues x.kind x.elements body).all f32Finite then (s.bump PD.EXCH_RECORDS).acceptOwn x body
    else if s.num PD.EXCH_POLICY = 1 then (s.bump PD.EXCH_RECORDS).bump PD.EXCH_EXCLUDED
    else ((s.bump PD.EXCH_RECORDS).reason rsNonfinite).acceptOwn x body := by
  unfold State.takeContribution
  rw [if_neg (ne_true_of_eq_false timely)]
  dsimp only
  rw [if_neg (by rw [State.bump_exch, member, whole]; decide), State.num_bump_ne (by decide)]

theorem State.takeContribution_finite (finite : (bodyValues x.kind x.elements body).all f32Finite = true) :
    s.takeContribution x body = (s.bump PD.EXCH_RECORDS).acceptOwn x body :=
  (State.takeContribution_timely timely member whole).trans (if_pos finite)

section
variable (broken : (bodyValues x.kind x.elements body).all f32Finite = false)
include broken

theorem State.takeContribution_excludes (policy : s.num PD.EXCH_POLICY = 1) :
    s.takeContribution x body = (s.bump PD.EXCH_RECORDS).bump PD.EXCH_EXCLUDED := by
  rw [State.takeContribution_timely timely member whole, if_neg (ne_true_of_eq_false broken), if_pos policy]

theorem State.takeContribution_nonfinite (policy : s.num PD.EXCH_POLICY ≠ 1) :
    s.takeContribution x body = ((s.bump PD.EXCH_RECORDS).reason rsNonfinite).acceptOwn x body := by
  rw [State.takeContribution_timely timely member whole, if_neg (ne_true_of_eq_false broken), if_neg policy]
end

/-- What a contribution in time of a sender that takes part leaves: it is accepted unless the policy excludes it for its values. -/
theorem State.takeContribution_counts : (s.takeContribution x body).num PD.EXCH_RECORDS = (s.num PD.EXCH_RECORDS + 1) % 2 ^ 64
    ∧ ((bodyValues x.kind x.elements body).all f32Finite = true ∨ s.num PD.EXCH_POLICY ≠ 1 →
      (s.takeContribution x body).exch = s.exch.accepting x body)
    ∧ ((bodyValues x.kind x.elements body).all f32Finite = false →
      (s.num PD.EXCH_POLICY = 1 → (s.takeContribution x body).exch = s.exch
        ∧ (s.takeContribution x body).num PD.EXCH_EXCLUDED = (s.num PD.EXCH_EXCLUDED + 1) % 2 ^ 64)
      ∧ (s.num PD.EXCH_POLICY ≠ 1 → s.step.attempt = true →
        (s.takeContribution x body).num PD.STEP_REASONS = orBit (s.num PD.STEP_REASONS) rsNonfinite)) := by
  cases values : (bodyValues x.kind x.elements body).all f32Finite
  case true =>
    rw [State.takeContribution_finite timely member whole values]
    exact ⟨State.num_bump, fun _ => rfl, nofun⟩
  case false =>
    by_cases policy : s.num PD.EXCH_POLICY = 1
    · rw [State.takeContribution_excludes timely member whole values policy]
      refine ⟨(State.num_bump_ne (by decide)).trans State.num_bump, fun accepts => ?_, fun _ => ⟨fun _ => ⟨rfl, ?_⟩, absurd policy⟩⟩
      · exact absurd policy (accepts.resolve_left nofun)
      · rw [State.num_bump, State.num_bump_ne (by decide)]
    · rw [State.takeContribution_nonfinite timely member whole values policy]
      refine ⟨?_, fun _ => ?_, fun _ => ⟨fun h => absurd h policy, fun _ attempt => ?_⟩⟩
      · rw [State.num_acceptOwn, State.num_reason_ne _ _ (by decide), State.num_bump]
      · rw [State.acceptOwn_exch, State.reason_exch, State.bump_exch]
      · rw [State.num_acceptOwn, State.reason_recorded (s := s.bump _) (.inr attempt), State.num_setNum, State.num_bump_ne (by decide)]
end
end

/-! ### Notices, exclusions, proposals and staged tiles (R306, R310, R311, R313) -/

/-- The exchange with the record that a notice names missed, once and in a layer that was sent. -/
def Exchange.marking (e : Exchange) (x : XHdr) : Exchange :=
  { e with missed := if e.sentLayers.contains x.layer ∧ e.missed.contains (x.layer, x.pane, x.tile) = false
      then e.missed ++ [(x.layer, x.pane, x.tile)] else e.missed }

section
variable {s : State} {x : XHdr} {body : List Byte}

theorem State.takeNotice_counts : (s.takeNotice x body).num PD.EXCH_RECORDS = (s.num PD.EXCH_RECORDS + 1) % 2 ^ 64
    ∧ (s.takeNotice x body).exch = s.exch.marking x := by
  unfold State.takeNotice Exchange.marking
  simp only [Bool.not_eq_true']
  split <;> exact ⟨State.num_bump, rfl⟩

theorem State.takeExclusion_counts (timely : s.late = false) (member : s.exch.excluded.contains x.sender = false) :
    (s.takeExclusion x body).num PD.EXCH_EXCLUDED = (s.num PD.EXCH_EXCLUDED + 1) % 2 ^ 64
      ∧ (s.takeExclusion x body).exch = s.exch.without x.sender := by
  have withdrawn : s.takeExclusion x body = { (s.bump PD.EXCH_RECORDS).bump PD.EXCH_EXCLUDED with exch := s.exch.without x.sender } :=
    (if_neg (ne_true_of_eq_false timely)).trans (if_neg (ne_true_of_eq_false member))
  rw [withdrawn]
  exact ⟨State.num_bump.trans (by rw [State.num_bump_ne (by decide)]), rfl⟩

theorem State.takeProposal_counts (timely : s.late = false) (member : s.exch.excluded.contains x.sender = false) (whole : x.excl = false) :
    (s.takeProposal x body).num PD.EXCH_RECORDS = (s.num PD.EXCH_RECORDS + 1) % 2 ^ 64
      ∧ (s.takeProposal x body).exch = s.exch.proposing x body := by
  have proposed : s.takeProposal x body = { s.bump PD.EXCH_RECORDS with exch := s.exch.proposing x body } :=
    (if_neg (ne_true_of_eq_false timely)).trans (if_neg (by rw [member, whole]; decide))
  rw [proposed]
  exact ⟨State.num_bump, rfl⟩

/-- Storing the tile changes neither the counter nor the exchange. -/
theorem State.tileStaged_counts (w : s.dictOk = true) (t : Tensor) (tile : List Byte) :
    (s.tileStaged t x tile).num PD.STAGE_TILES = (s.num PD.STAGE_TILES + 1) % 2 ^ 64
      ∧ (s.tileStaged t x tile).exch = { s.exch with stageIn := s.exch.stageIn ++ [(x.tensor, x.tile)] } := by
  have stored : Run 35192962023424 [] _ (((s.bump PD.EXCH_RECORDS).bump PD.STAGE_TILES).tileWrite t false x.tile tile) :=
    tileWrite_run rfl (fun _ => id) (Run.refl _ _ _)
  have kept : _ = s.exch := stored.part .exch rfl
  refine ⟨(stored.num_eq (State.dictOk_bump (State.dictOk_bump w)) rfl List.not_mem_nil).trans ?counted, ?arrived⟩
  case counted => rw [State.num_bump, State.num_bump_ne (by decide)]
  case arrived =>
    unfold State.tileStaged
    dsimp only
    rw [kept]

theorem State.takeStage_counts (w : s.dictOk = true) {t : Tensor} {tile : List Byte} (tensor : s.tensor x.tensor = some t)
    (tiles : bodyTiles 1 body = some [tile]) (inside : x.tile < t.tiles)
    (isIn : (s.rows PD.STAGE_TABLE).any (fun r => r.headD 0 = x.tensor && r.getD 1 0 = 1) = true) :
    (s.takeStage x body).num PD.STAGE_TILES = (s.num PD.STAGE_TILES + 1) % 2 ^ 64
      ∧ (s.takeStage x body).exch = { s.exch with stageIn := s.exch.stageIn ++ [(x.tensor, x.tile)] } := by
  have staged : s.takeStage x body = s.tileStaged t x tile := by
    unfold State.takeStage
    rw [tensor, tiles]
    exact if_pos ⟨isIn, inside⟩
  rw [staged]
  exact State.tileStaged_counts w t tile
end

end Sys2Proof.Machine

open Sys2Proof Sys2Proof.Machine

/-- Settles O34: the commands alike up to a fresh record, and then each kind by its action on the state that has taken the record. -/
theorem recordsActOnceOfTheRightAttemptAndOthersCount : Obligations.RecordsActOnceOfTheRightAttemptAndOthersCount := by
  unfold Obligations.RecordsActOnceOfTheRightAttemptAndOthersCount
  intro s ok runs
  refine ⟨fun c listed bytes => ?counted, fun bytes x body parsed named fresh => ?acts⟩
  case counted =>
    obtain ⟨f, receives⟩ := recordCommands_receive c listed
    refine ⟨fun bad => ⟨_, receives bytes s, ?_⟩, fun x body parsed named own stale => ⟨_, receives bytes s, ?_⟩⟩
    · rw [State.receiveRecord_misformed runs bad]
      exact ⟨rfl, State.num_bump, rfl⟩
    · rw [State.receiveRecord_stale runs parsed named own stale]
      exact ⟨rfl, State.num_bump, rfl⟩
  case acts =>
    have next {cls kinds f} (own : x.kind ∈ kinds) : s.receiveRecord cls kinds bytes f = f (s.takeMessage cls bytes) x body :=
      State.receiveRecord_fresh runs parsed named own fresh
    refine ⟨fun kind => ?contribution, fun kind => ?notice, fun kind timely member => ?exclusion, fun kind timely member whole => ?proposal,
      fun t tile kind tensor tiles inside isIn => ?stage⟩
    case contribution =>
      rw [exec_contributionRecord_receives, next (by simpa using kind)]
      exact ⟨fun late => ⟨_, rfl, State.takeContribution_late ok late⟩,
        fun timely member whole => ⟨_, rfl, State.takeContribution_counts timely member whole⟩⟩
    case notice =>
      rw [exec_lateNotice_receives, next (by simpa using kind)]
      exact ⟨_, rfl, State.takeNotice_counts⟩
    case exclusion =>
      rw [exec_excludeRecord_receives, next (by simpa using kind)]
      exact ⟨_, rfl, State.takeExclusion_counts timely member⟩
    case proposal =>
      rw [exec_setRecord_receives, next (by simpa using kind)]
      exact ⟨_, rfl, State.takeProposal_counts timely member whole⟩
    case stage =>
      rw [exec_stageRecord_receives, next (by simpa using kind)]
      exact ⟨_, rfl, State.takeStage_counts ok tensor tiles inside isIn⟩
end

section
/-! Proofs of the pane image commands (R334-R336): what a command that ends at once and one that goes on leave, what UPD_IMAGE_SAVE sends by the
region's size and the host, what UPD_IMAGE_RESTORE makes of the region, and the statement PaneImagesAreSavedAndRestoredWholeOrNotAtAll. -/
namespace Sys2Proof.Machine

/-! ## How an image command ends or goes on (R335, R336) -/

section
variable (s : State) (r cmd len : Nat)

@[simp] theorem State.num_imageNow : (s.imageNow r).num PD.UPD_IMAGE_RESULT = r := State.num_result ..
theorem State.num_imageNow_ne {k : Nat} (ne : k ≠ PD.UPD_IMAGE_RESULT) : (s.imageNow r).num k = s.num k := State.num_result_ne _ _ _ ne
@[simp] theorem State.imageNow_upd : (s.imageNow r).upd = { s.upd with imageCmd := 0 } := State.cause_upd _ _

@[simp] theorem State.num_imageStart : (s.imageStart cmd r len).num PD.UPD_IMAGE_RESULT = 1 := State.num_setNum
theorem State.num_imageStart_ne {k : Nat} (ne : k ≠ PD.UPD_IMAGE_RESULT) : (s.imageStart cmd r len).num k = s.num k := State.num_setNum_ne ne
@[simp] theorem State.imageStart_upd :
    (s.imageStart cmd r len).upd = { s.upd with imageCmd := cmd, imageResult := r, imageLength := len } := rfl
@[simp] theorem State.imageStart_mode : (s.imageStart cmd r len).mode = s.mode := rfl
@[simp] theorem State.imageStart_outs : (s.imageStart cmd r len).outs = s.outs := rfl
@[simp] theorem State.imageStart_mem : (s.imageStart cmd r len).mem = s.mem := rfl

/-- A command that goes on leaves every host region as it is. -/
theorem State.rows_imageStart {k : Nat} (ne : k ≠ PD.UPD_IMAGE_RESULT) : (s.imageStart cmd r len).rows k = s.rows k := State.rows_setNum_ne ne

theorem State.regionSize_imageStart (n : Nat) : (s.imageStart cmd r len).regionSize n = s.regionSize n := by
  unfold State.regionSize
  rw [State.rows_imageStart _ _ _ _ (by decide)]

theorem State.hostReachable_imageStart (n : Nat) : (s.imageStart cmd r len).hostReachable n = s.hostReachable n := by
  unfold State.hostReachable State.regionEp
  rw [State.rows_imageStart _ _ _ _ (by decide), State.regionSize_imageStart]
  rfl
end

section
variable {s : State} (idle : s.imageIdle = true)
include idle

theorem State.imageCmd_of_idle : s.upd.imageCmd = 0 := of_decide_eq_true ((Bool.and_eq_true_iff.mp idle).1)

/-- A command that ends at once while none is under way leaves the update unit as it was. -/
theorem State.imageNow_upd_of_idle (r : Nat) : (s.imageNow r).upd = s.upd := by
  rw [State.imageNow_upd, ← State.imageCmd_of_idle idle]

theorem State.imageCommand_not_ignored (runs : s.mode.hubRuns = true) : ¬((!s.mode.hubRuns) = true ∨ (!s.imageIdle) = true) := by
  simp [runs, idle]
end

/-! ## Saving (R335) -/

/-- The images of every owned pane, in order, with the step committed last. -/
abbrev State.paneImages (s : State) : List Byte := s.upd.panes.flatMap fun p => p.image (s.num PD.STEP_NUMBER - 1)

/-- A save that waits for the end of WRITEBACK or a VOID verdict. -/
def State.imageWaits (s : State) : State := { s.setNum PD.UPD_IMAGE_RESULT 1 with step := { s.step with imageDue := true } }

section
variable {s : State}

theorem State.imageWrite_tooSmall (small : s.regionSize (s.num PD.UPD_IMAGE_REGION) < s.paneImages.length) :
    s.imageWrite = s.imageStart 1 3 (s.num PD.UPD_IMAGE_LENGTH) := if_pos small

section
variable (fits : s.paneImages.length ≤ s.regionSize (s.num PD.UPD_IMAGE_REGION))
include fits

theorem State.imageWrite_hostError (unreachable : s.hostReachable (s.num PD.UPD_IMAGE_REGION) = false) :
    s.imageWrite = (s.bump PD.HOST_DMA_ERR).imageStart 1 6 (s.num PD.UPD_IMAGE_LENGTH) :=
  (if_neg (Nat.not_lt.mpr fits)).trans (if_pos (by rw [unreachable]; rfl))

theorem State.imageWrite_sends (reachable : s.hostReachable (s.num PD.UPD_IMAGE_REGION) = true) :
    s.imageWrite = (if s.paneImages.isEmpty then s else s.emit (.hostWrite (s.num PD.UPD_IMAGE_REGION) 0 s.paneImages)).imageStart 1 0
      s.paneImages.length :=
  (if_neg (Nat.not_lt.mpr fits)).trans (if_neg (by rw [reachable]; decide))
end

/-- Whatever the region and the host are like, the save goes on until PANE_IMAGE_COMPLETE. -/
theorem State.imageWrite_starts : ∃ x r len, s.imageWrite = State.imageStart x 1 r len := by
  unfold State.imageWrite
  dsimp only
  split
  · exact ⟨_, _, _, rfl⟩
  · split <;> exact ⟨_, _, _, rfl⟩

variable (runs : s.mode.hubRuns = true) (idle : s.imageIdle = true)
include runs idle

theorem State.imageSave_unplanned (unplanned : s.planIn = false) : s.imageSave = s.imageNow 5 :=
  (if_neg (State.imageCommand_not_ignored idle runs)).trans (if_pos (by rw [unplanned]; rfl))

variable (planned : s.planIn = true)
include planned

theorem State.imageSave_now (now : s.mode = .held ∨ s.mode = .armed) : s.imageSave = s.imageWrite := by
  refine (if_neg (State.imageCommand_not_ignored idle runs)).trans ((if_neg (by rw [planned]; decide)).trans ?_)
  rcases now with mode | mode <;> rw [mode]

theorem State.imageSave_waits (running : s.mode = .run ∨ s.mode = .drain) : s.imageSave = s.imageWaits := by
  refine (if_neg (State.imageCommand_not_ignored idle runs)).trans ((if_neg (by rw [planned]; decide)).trans ?_)
  rcases running with mode | mode <;> rw [mode] <;> rfl
end

/-! ## Restoring (R336) -/

/-- A restore that has passed its checks and waits for what the host's region holds. -/
def State.imageReads (s : State) : State := s.imageStart 2 1 (s.num PD.UPD_IMAGE_LENGTH)

/-- What a restore reads back to back from the bytes of its region. -/
def State.imagesRead (s : State) (region : List Byte) : ImageRead :=
  s.imageWalk region (s.regionSize (s.num PD.UPD_IMAGE_REGION)) (region.length / 64 + 1) 0 []

section
variable {s : State} {region : List Byte}

theorem State.imageData_hostError {hostOk : Bool} (fails : hostOk = false ∨ s.hostReachable (s.num PD.UPD_IMAGE_REGION) = false) :
    s.imageData region hostOk = (s.bump PD.HOST_DMA_ERR).imageStart 2 6 (s.num PD.UPD_IMAGE_LENGTH) :=
  if_pos (by simpa only [Bool.not_eq_true'] using fails)

section
variable (reachable : s.hostReachable (s.num PD.UPD_IMAGE_REGION) = true)
include reachable

theorem State.imageData_fails {c : Nat} (failed : s.imagesRead region = .fail c) :
    s.imageData region true = s.imageStart 2 c (s.num PD.UPD_IMAGE_LENGTH) := by
  refine (if_neg (by rw [reachable]; decide)).trans ?_
  unfold State.imagesRead at failed
  rw [failed]

theorem State.imageData_takes {n : Nat} {is : List ImageIn} (good : s.imagesRead region = .ok n is) :
    s.imageData region true = (s.takeImages is).imageStart 2 0 n := by
  refine (if_neg (by rw [reachable]; decide)).trans ?_
  unfold State.imagesRead at good
  rw [good]
end
end

section
variable (s : State)

theorem State.region_imageReads : s.imageReads.num PD.UPD_IMAGE_REGION = s.num PD.UPD_IMAGE_REGION := State.num_imageStart_ne _ _ _ _ (by decide)

theorem State.hostReachable_imageReads :
    s.imageReads.hostReachable (s.imageReads.num PD.UPD_IMAGE_REGION) = s.hostReachable (s.num PD.UPD_IMAGE_REGION) := by
  rw [State.region_imageReads]
  exact State.hostReachable_imageStart ..

/-- A restore under way reads the region that the command found. -/
theorem State.imagesRead_imageReads (region : List Byte) : s.imageReads.imagesRead region
    = s.imageReads.imageWalk region (s.regionSize (s.num PD.UPD_IMAGE_REGION)) (region.length / 64 + 1) 0 [] := by
  unfold State.imagesRead
  rw [State.region_imageReads]
  exact congrArg (s.imageReads.imageWalk region · _ 0 []) (State.regionSize_imageStart ..)
end

section
variable {s : State} {region : List Byte} {hostOk : Bool} (idle : s.imageIdle = true)
include idle

theorem exec_updImageRestore_elsewhere (runs : s.mode.hubRuns = true) (elsewhere : s.mode ≠ .held) :
    exec (.updImageRestore region hostOk) s = .next (s.imageNow 4) := by
  have check : s.restoreCheck = 4 := if_pos elsewhere
  have refused : s.imageRestore = s.imageNow 4 := by
    unfold State.imageRestore
    rw [if_neg (State.imageCommand_not_ignored idle runs), check]
    rfl
  have ended : (s.imageNow 4).upd.imageCmd = 0 := by rw [State.imageNow_upd]
  change execUpdImageRestore region hostOk s = _
  unfold execUpdImageRestore
  rw [if_pos idle, refused]
  exact congrArg Host.Outcome.next (if_neg fun reads => absurd (ended.symm.trans reads.1) (by decide))

theorem exec_updImageRestore_reads (held : s.mode = .held) (planned : s.planIn = true)
    (large : 64 ≤ s.regionSize (s.num PD.UPD_IMAGE_REGION)) :
    exec (.updImageRestore region hostOk) s = .next (s.imageReads.imageData region hostOk) := by
  have check : s.restoreCheck = 1 :=
    (if_neg (not_not_intro held)).trans ((if_neg (by rw [planned]; decide)).trans (if_neg (Nat.not_lt.mpr large)))
  have accepted : s.imageRestore = s.imageReads := by
    unfold State.imageRestore
    rw [if_neg (State.imageCommand_not_ignored idle (by rw [held]; rfl)), check]
    rfl
  change execUpdImageRestore region hostOk s = _
  unfold execUpdImageRestore
  rw [if_pos idle, accepted]
  exact congrArg Host.Outcome.next (if_pos ⟨rfl, rfl, (State.imageStart_mode ..).trans held⟩)
end

/-! ## The completion (R335, R336) -/

theorem exec_paneImageComplete_ends {s : State} (runs : s.mode.hubRuns = true) (busy : s.upd.imageCmd ≠ 0) (read : s.upd.imageResult ≠ 1) :
    exec .paneImageComplete s = .next ((s.setNum PD.UPD_IMAGE_LENGTH s.upd.imageLength).imageNow s.upd.imageResult) :=
  if_neg (by simp [runs, busy, read])

end Sys2Proof.Machine

open Sys2Proof Sys2Proof.Machine

/-- Settles O37: a save by the module's state, the region's size and the host, a restore by the images its region holds, and the end of the
command. -/
theorem paneImagesAreSavedAndRestoredWholeOrNotAtAll : Obligations.PaneImagesAreSavedAndRestoredWholeOrNotAtAll := by
  unfold Obligations.PaneImagesAreSavedAndRestoredWholeOrNotAtAll
  intro s _ runs
  refine ⟨fun idle planned => ⟨fun now => ?saved, fun running => ?waits⟩, fun idle unplanned => ?unplanned,
    fun region idle elsewhere => ?elsewhere, fun region hostOk idle held planned large => ?restored, fun busy read => ?completed⟩
  case saved =>
    obtain ⟨x, r, len, started⟩ := s.imageWrite_starts
    refine ⟨s.imageWrite, congrArg Host.Outcome.next (State.imageSave_now runs idle planned now), by rw [started, State.num_imageStart],
      by rw [started, State.imageStart_upd], fun small => ?_, fun fits unreachable => ?_, fun fits reachable => ?_⟩
    · rw [State.imageWrite_tooSmall small]
      exact ⟨rfl, State.imageStart_outs ..⟩
    · rw [State.imageWrite_hostError fits unreachable, State.num_imageStart_ne _ _ _ _ (by decide)]
      exact ⟨rfl, State.imageStart_outs .., State.num_bump⟩
    · rw [State.imageWrite_sends fits reachable]
      exact ⟨rfl, rfl, (State.imageStart_outs ..).trans (apply_ite State.outs _ _ _)⟩
  case waits =>
    exact ⟨_, congrArg Host.Outcome.next (State.imageSave_waits runs idle planned running), State.num_setNum, rfl, rfl, rfl⟩
  case unplanned =>
    exact ⟨_, congrArg Host.Outcome.next (State.imageSave_unplanned runs idle unplanned), State.num_imageNow ..,
      State.imageNow_upd_of_idle idle _⟩
  case elsewhere =>
    exact ⟨_, exec_updImageRestore_elsewhere idle runs elsewhere, State.num_imageNow .., State.imageNow_upd_of_idle idle _⟩
  case restored =>
    rw [exec_updImageRestore_reads idle held planned large]
    refine ⟨s.imageReads, rfl, rfl, rfl, fun fails => ⟨_, rfl, ?hostError⟩, ?read⟩
    case hostError =>
      rw [State.imageData_hostError (by rwa [State.hostReachable_imageReads]), State.num_imageStart_ne _ _ _ _ (by decide), State.num_bump]
      exact ⟨rfl, rfl, congrArg (fun n => (n + 1) % 2 ^ 64) (State.num_imageStart_ne _ _ _ _ (by decide))⟩
    case read =>
      rintro rfl reachable
      have reachable := (State.hostReachable_imageReads s).trans reachable
      refine ⟨fun c failed => ⟨_, rfl, ?_⟩, fun n is good => ?_⟩
      · rw [State.imageData_fails reachable ((State.imagesRead_imageReads s region).trans failed)]
        exact ⟨rfl, rfl, State.imageStart_mem ..⟩
      · rw [State.imageData_takes reachable ((State.imagesRead_imageReads s region).trans good)]
  case completed =>
    refine ⟨_, exec_paneImageComplete_ends runs busy read, State.num_imageNow .., ?_, State.imageNow_upd ..⟩
    rw [State.num_imageNow_ne _ _ (by decide)]
    exact State.num_setNum
end

section
/-! Proofs of the host window (13): where an offset of BAR2 leads, what a write through the window leaves in every store, what a read returns,
that an access goes word by word over the bytes it covers, and the statement TheHostWindowStoresAndReturnsEveryByteItMaps. -/
namespace Sys2Proof.Machine

/-! ## Where an offset leads (R352) -/

section
variable {o p st a : Nat}

/-- The two backed kinds of space: staging of the eight gradient dies, each at the start of its 256 MiB, and the eight stacks end to end. -/
theorem bar2Map_eq_some_iff : bar2Map o = some (st, a) ↔ (st < 8 ∧ a < 0x0C000000 ∧ o = st * 0x10000000 + a)
    ∨ (16 ≤ st ∧ st < 24 ∧ a < 0x1F0000000 ∧ o = 0x80000000 + (st - 16) * 0x1F0000000 + a) := by
  unfold bar2Map stStaging stStack
  split
  all_goals
    dsimp only
    split
    · rw [Option.some.injEq, Prod.mk.injEq]; omega
    · exact iff_of_false nofun (by omega)

theorem bar2Map_inj (h : bar2Map o = some (st, a)) (k : bar2Map p = some (st, a)) : o = p := by
  rw [bar2Map_eq_some_iff] at h k; omega

theorem bar2Map_addr_lt (h : bar2Map o = some (st, a)) : a < 2 ^ 48 := by
  rw [bar2Map_eq_some_iff] at h; omega

/-- The offsets of one 32-byte word lead to bytes side by side in one store, or none of them leads anywhere. -/
theorem bar2Map_word {i : Nat} (h : o % 32 + i < 32) : bar2Map (o + i) = (bar2Map o).map fun x => (x.1, x.2 + i) := by
  apply Option.ext
  rintro ⟨st, a⟩
  rw [Option.map_eq_some_iff, bar2Map_eq_some_iff]
  constructor
  · intro hit
    exact ⟨(st, a - i), bar2Map_eq_some_iff.2 (by omega), congrArg (Prod.mk st) (by omega)⟩
  · rintro ⟨⟨_, b⟩, hit, rfl, rfl⟩
    rw [bar2Map_eq_some_iff] at hit
    omega
end

theorem memKey_eq_iff {st st' a a' : Nat} (h : a < 2 ^ 48) (h' : a' < 2 ^ 48) : memKey st a = memKey st' a' ↔ st = st' ∧ a = a' := by
  unfold memKey; omega

theorem memKey_succ (st a : Nat) : memKey st (a + 1) = memKey st a + 1 := (Nat.add_assoc _ _ _).symm

/-- A fact of every offset of a run is one of its first offset and of every offset of the rest. -/
theorem forall_offset_succ {P : Nat → Nat → Prop} {o n : Nat} (h : ∀ i, i < n + 1 → P (o + i) i) :
    P o 0 ∧ ∀ i, i < n → P (o + 1 + i) (i + 1) :=
  ⟨h 0 (Nat.succ_pos n), fun i hi => by rw [Nat.add_assoc, Nat.add_comm 1]; exact h (i + 1) (Nat.succ_lt_succ hi)⟩

/-! ## A write through the window -/

section
variable {s : State} {st a b o : Nat} {v : Byte} {bs : List Byte}

theorem State.readByte_writeByte : (s.write st a [v]).readByte st a = v := kvGet_set_same _ _ _ _

theorem State.readByte_writeByte_ne {st' : Nat} (h : a < 2 ^ 48) (h' : b < 2 ^ 48) (ne : (st, a) ≠ (st', b)) :
    (s.write st a [v]).readByte st' b = s.readByte st' b :=
  kvGet_set_ne _ _ _ _ (fun e => ne (Prod.ext_iff.2 ((memKey_eq_iff h h').1 e.symm))) _

theorem State.write_cons : s.write st a (v :: bs) = (s.write st a [v]).write st (a + 1) bs := by
  unfold State.write
  rw [memKey_succ]
  rfl

theorem State.writeBar2_cons_backed (h : bar2Map o = some (st, a)) :
    s.writeBar2 o (v :: bs) = (s.write st a [v]).writeBar2 (o + 1) bs := by
  rw [State.writeBar2, h]

theorem State.writeBar2_cons_unbacked (h : bar2Map o = none) : s.writeBar2 o (v :: bs) = s.writeBar2 (o + 1) bs := by
  rw [State.writeBar2, h]

/-- A byte that no offset of the write leads to reads as before. -/
theorem State.readByte_writeBar2_out (ha : a < 2 ^ 48) (out : ∀ i, i < bs.length → bar2Map (o + i) ≠ some (st, a)) :
    (s.writeBar2 o bs).readByte st a = s.readByte st a := by
  induction bs generalizing o s with
  | nil => rfl
  | cons v bs ih =>
    obtain ⟨first, rest⟩ := forall_offset_succ (P := fun p _ => bar2Map p ≠ some (st, a)) out
    rcases hm : bar2Map o with _ | ⟨st', b⟩
    · rw [State.writeBar2_cons_unbacked hm, ih rest]
    · rw [State.writeBar2_cons_backed hm, ih rest,
        State.readByte_writeByte_ne (bar2Map_addr_lt hm) ha fun e => first (hm.trans (congrArg some e))]

/-- A byte that an offset of the write leads to reads as the byte written at that offset: no later offset leads to it. -/
theorem State.readByte_writeBar2_in {i : Nat} (hi : i < bs.length) (h : bar2Map (o + i) = some (st, a)) :
    (s.writeBar2 o bs).readByte st a = bs[i] := by
  induction bs generalizing o s i with
  | nil => cases hi
  | cons v bs ih =>
    cases i with
    | zero =>
      have h : bar2Map o = some (st, a) := h
      have later : ∀ j, j < bs.length → bar2Map (o + 1 + j) ≠ some (st, a) := fun j _ k => by
        have := bar2Map_inj h k; omega
      rw [State.writeBar2_cons_backed h, State.readByte_writeBar2_out (bar2Map_addr_lt h) later, State.readByte_writeByte,
        List.getElem_cons_zero]
    | succ i =>
      rw [State.writeBar2, ih (Nat.lt_of_succ_lt_succ hi) (by rw [Nat.add_assoc, Nat.add_comm 1]; exact h), List.getElem_cons_succ]

theorem State.writeBar2_append {cs : List Byte} : s.writeBar2 o (bs ++ cs) = (s.writeBar2 o bs).writeBar2 (o + bs.length) cs := by
  induction bs generalizing o s with
  | nil => rfl
  | cons v bs ih => rw [List.cons_append, State.writeBar2, ih, List.length_cons, Nat.add_assoc, Nat.add_comm 1, ← State.writeBar2]

/-- A write over offsets that lead to bytes side by side is one write of the store. -/
theorem State.writeBar2_backed (h : ∀ i, i < bs.length → bar2Map (o + i) = some (st, a + i)) : s.writeBar2 o bs = s.write st a bs := by
  induction bs generalizing o a s with
  | nil => rfl
  | cons v bs ih =>
    obtain ⟨first, rest⟩ := forall_offset_succ (P := fun p i => bar2Map p = some (st, a + i)) h
    have first : bar2Map o = some (st, a) := first
    have rest : ∀ i, i < bs.length → bar2Map (o + 1 + i) = some (st, a + 1 + i) := fun i hi => by rw [rest i hi, Nat.add_right_comm a]; rfl
    rw [State.writeBar2_cons_backed first, ih rest, ← State.write_cons]

theorem State.writeBar2_unbacked (h : ∀ i, i < bs.length → bar2Map (o + i) = none) : s.writeBar2 o bs = s := by
  induction bs generalizing o s with
  | nil => rfl
  | cons v bs ih =>
    obtain ⟨first, rest⟩ := forall_offset_succ (P := fun p _ => bar2Map p = none) h
    rw [State.writeBar2_cons_unbacked first, ih rest]

@[simp] theorem State.num_writeBar2 (k : Nat) : (s.writeBar2 o bs).num k = s.num k := by
  induction bs generalizing o s with
  | nil => rfl
  | cons v bs ih =>
    rw [State.writeBar2, ih]
    split <;> rfl
end

/-! ## A read through the window -/

/-- The byte that a window offset shows: that of its store, zero for unbacked space (R353). -/
def State.windowByte (s : State) (o : Nat) : Byte :=
  match bar2Map o with
  | some (st, a) => s.readByte st a
  | none => 0

section
variable (s : State) (n : Nat)

/-- Values at a run of places, the first one apart. -/
theorem map_range_succ {α : Type} (f : Nat → α) (o : Nat) :
    ((List.range (n + 1)).map fun i => f (o + i)) = f o :: (List.range n).map fun i => f (o + 1 + i) := by
  rw [List.range_succ_eq_map, List.map_cons, List.map_map]
  exact congrArg (_ :: ·) (List.map_congr_left fun i _ => by rw [Nat.add_assoc, Nat.add_comm 1]; rfl)

theorem State.readBar2_eq_map (o : Nat) : s.readBar2 o n = (List.range n).map fun i => s.windowByte (o + i) := by
  induction n generalizing o with
  | zero => rfl
  | succ n ih => rw [map_range_succ n s.windowByte, State.readBar2, ih]; rfl

theorem State.read_eq_map (st a : Nat) : s.read st a n = (List.range n).map fun i => s.readByte st (a + i) := by
  induction n generalizing a with
  | zero => rfl
  | succ n ih =>
    rw [map_range_succ n (s.readByte st), ← ih]
    unfold State.read
    rw [memKey_succ]
    rfl

theorem State.readBar2_add (o m : Nat) : s.readBar2 o (m + n) = s.readBar2 o m ++ s.readBar2 (o + m) n := by
  simp only [State.readBar2_eq_map, List.range_add, List.map_append, List.map_map, Nat.add_assoc]
  rfl
end

/-! ## Word by word -/

section
variable {s : State} {data : List Byte} {o m n : Nat}

/-- A word that no upset has struck is written as its bytes are. -/
theorem State.writeWord_unstruck (fits : o % 32 + n ≤ 32) : s.writeWord data [] (o, n, m) = s.writeBar2 o (sub data m n) := by
  have inWord : ∀ i, i < (sub data m n).length → bar2Map (o + i) = (bar2Map o).map fun x => (x.1, x.2 + i) := fun i hi =>
    bar2Map_word (by unfold sub at hi; rw [List.length_take] at hi; omega)
  unfold State.writeWord
  rcases hm : bar2Map o with _ | ⟨st, a⟩
  · exact (State.writeBar2_unbacked fun i hi => by rw [inWord i hi, hm]; rfl).symm
  · rw [State.writeBar2_backed (a := a) fun i hi => by rw [inWord i hi, hm]; rfl]
    dsimp only
    rw [List.find?_nil, ite_self]

/-- A word that no upset has struck is read as its bytes are. -/
theorem State.readWord_unstruck (fits : o % 32 + n ≤ 32) : s.readWord [] (o, n, m) = (some (s.readBar2 o n), s) := by
  have inWord : ∀ i, i < n → bar2Map (o + i) = (bar2Map o).map fun x => (x.1, x.2 + i) := fun i hi => bar2Map_word (by omega)
  unfold State.readWord
  rcases hm : bar2Map o with _ | ⟨st, a⟩
  · have zero : ∀ i ∈ List.range n, s.windowByte (o + i) = 0 := fun i hi => by
      unfold State.windowByte; rw [inWord i (List.mem_range.1 hi), hm]; rfl
    rw [State.readBar2_eq_map, List.map_congr_left zero, List.map_const', List.length_range]
    rfl
  · have stored : ∀ i ∈ List.range n, s.readByte st (a + i) = s.windowByte (o + i) := fun i hi => by
      unfold State.windowByte; rw [inWord i (List.mem_range.1 hi), hm]; rfl
    dsimp only
    rw [List.find?_nil, State.readBar2_eq_map, State.read_eq_map, List.map_congr_left stored]
end

/-- How many of n bytes from offset o lie in the first k words that they touch. -/
def wordsHold (o n k : Nat) : Nat := min (o + n) (max o ((o / 32 + k) * 32)) - o

section
variable (o n k : Nat)

theorem wordsHold_zero : wordsHold o n 0 = 0 := by unfold wordsHold; omega

theorem wordsHold_all : wordsHold o n ((o + n + 31) / 32 - o / 32) = n := by unfold wordsHold; omega

theorem wordsHold_le : wordsHold o n k ≤ n := by unfold wordsHold; omega

theorem wordsHold_le_succ : wordsHold o n k ≤ wordsHold o n (k + 1) := by unfold wordsHold; omega

/-- The pieces of an access, each beginning where the words before it end. -/
theorem wordParts_eq : wordParts o n = (List.range ((o + n + 31) / 32 - o / 32)).map fun k =>
    (o + wordsHold o n k, wordsHold o n (k + 1) - wordsHold o n k, wordsHold o n k) := by
  unfold wordParts
  refine List.map_congr_left fun k hk => ?_
  have hk := List.mem_range.1 hk
  simp only [wordsHold, Prod.mk.injEq]
  omega

/-- A piece ends where its word does or before. -/
theorem wordsHold_inWord : (o + wordsHold o n k) % 32 + (wordsHold o n (k + 1) - wordsHold o n k) ≤ 32 := by unfold wordsHold; omega
end

/-- Induction over the words of an access: `P m` says what the access has come to with its first m bytes. -/
theorem foldl_wordParts {β : Type} {P : Nat → β → Prop} {f : β → Nat × Nat × Nat → β} {b : β} {o n : Nat} (start : P 0 b)
    (word : ∀ m k b, P m b → (o + m) % 32 + k ≤ 32 → m + k ≤ n → P (m + k) (f b (o + m, k, m))) : P n ((wordParts o n).foldl f b) := by
  have upTo : ∀ w, w ≤ (o + n + 31) / 32 - o / 32 → P (wordsHold o n w) ((List.range w).foldl
      (fun b k => f b (o + wordsHold o n k, wordsHold o n (k + 1) - wordsHold o n k, wordsHold o n k)) b) := by
    intro w
    induction w with
    | zero => intro _; rw [wordsHold_zero]; exact start
    | succ w ih =>
      intro hw
      have ends : wordsHold o n w + (wordsHold o n (w + 1) - wordsHold o n w) = wordsHold o n (w + 1) :=
        Nat.add_sub_cancel' (wordsHold_le_succ o n w)
      have next := word _ _ _ (ih (Nat.le_of_succ_le hw)) (wordsHold_inWord o n w) (by rw [ends]; exact wordsHold_le o n _)
      rw [ends] at next
      rw [List.range_succ, List.foldl_append]
      exact next
  rw [wordParts_eq, List.foldl_map]
  simpa only [wordsHold_all] using upTo _ (Nat.le_refl _)

/-- A write that no upset meets, word by word, is a write byte by byte. -/
theorem State.each_writeWord_unstruck (s : State) (o : Nat) (data : List Byte) :
    s.each (wordParts o data.length) (fun s p => s.writeWord data [] p) = s.writeBar2 o data := by
  have words : s.each (wordParts o data.length) (fun s p => s.writeWord data [] p) = s.writeBar2 o (data.take data.length) :=
    foldl_wordParts (P := fun m t => t = s.writeBar2 o (data.take m)) rfl fun m k t ht fits within => by
      rw [ht, State.writeWord_unstruck fits, List.take_add, State.writeBar2_append, List.length_take_of_le (Nat.le_of_add_right_le within)]
      rfl
  rw [words, List.take_length]

/-- The fold of a read: its bytes so far, none once a word was lost. -/
def readStep (upsets : List Upset) (acc : Option (List Byte) × State) (p : Nat × Nat × Nat) : Option (List Byte) × State :=
  let (b, s) := acc.2.readWord upsets p
  (match acc.1, b with
    | some x, some y => some (x ++ y)
    | _, _ => none, s)

theorem State.foldl_readStep_unstruck (s : State) (o n : Nat) : (wordParts o n).foldl (readStep []) (some [], s) = (some (s.readBar2 o n), s) :=
  foldl_wordParts (P := fun m acc => acc = (some (s.readBar2 o m), s)) rfl fun m k acc h fits _ => by
    rw [h, readStep, State.readWord_unstruck fits, State.readBar2_add]

/-- How a read ends: the completion with its bytes, or an abort (R353). -/
def bar2Completion (ep : Ep) (r : Option (List Byte) × State) : Res :=
  match r with
  | (some bs, s) => .next (s.emit (.bar2 ep (some bs)))
  | (none, s) => .next ((s.bump PD.BAR2_ABORTS).emit (.bar2 ep none))

/-! ## The two commands (R352, R353, R396) -/

/-- BAR2_DISCARDED counts a write that any unbacked offset is in. -/
def State.countUnbacked (s : State) (o n : Nat) : State :=
  if (List.range n).any fun i => (bar2Map (o + i)).isNone then s.bump PD.BAR2_DISCARDED else s

section
variable {s : State} {ep : Ep} {o n : Nat} {data : List Byte} {upsets : List Upset}

theorem State.readByte_countUnbacked (st a : Nat) : (s.countUnbacked o n).readByte st a = s.readByte st a := by
  unfold State.countUnbacked; split <;> rfl

theorem State.num_countUnbacked : (s.countUnbacked o n).num PD.BAR2_DISCARDED =
    if (List.range n).any fun i => (bar2Map (o + i)).isNone then (s.num PD.BAR2_DISCARDED + 1) % 2 ^ 64 else s.num PD.BAR2_DISCARDED := by
  unfold State.countUnbacked
  split
  · exact State.num_bump
  · rfl

theorem exec_bar2Write_outside (far : 2 ^ 36 < o + data.length) : exec (.bar2Write ep o data upsets) s = .fault .outsideBar2 := if_pos far

theorem exec_bar2Write_closed (near : o + data.length ≤ 2 ^ 36) (closed : s.mode.windowOpen = false ∨ (s.ep ep).linkUp = false ∨ data = []) :
    exec (.bar2Write ep o data upsets) s = .next s :=
  (if_neg (Nat.not_lt.2 near)).trans (if_pos (by simpa using closed))

theorem exec_bar2Write_open (near : o + data.length ≤ 2 ^ 36) (opened : s.mode.windowOpen = true) (up : (s.ep ep).linkUp = true)
    (given : data ≠ []) : exec (.bar2Write ep o data []) s = .next ((s.countUnbacked o data.length).writeBar2 o data) := by
  rw [← State.each_writeWord_unstruck]
  exact (if_neg (Nat.not_lt.2 near)).trans (if_neg (by simp [opened, up, given]))

theorem exec_bar2Read_outside (far : 2 ^ 36 < o + n) : exec (.bar2Read ep o n upsets) s = .fault .outsideBar2 := if_pos far

/-- No completion comes from a module without supplies, in RESET, frozen or coasting, or over a link that is down. -/
theorem exec_bar2Read_unanswered (near : o + n ≤ 2 ^ 36)
    (dead : s.mode = .frozen ∨ s.mode = .off ∨ s.mode = .reset ∨ s.mode = .coast ∨ (s.ep ep).linkUp = false) :
    exec (.bar2Read ep o n upsets) s = .next s :=
  (if_neg (Nat.not_lt.2 near)).trans (if_pos (by
    rw [Bool.not_eq_true']
    rcases dead with h | h | h | h | down
    · exact .inr (.inl h)
    · exact .inr (.inr (.inl h))
    · exact .inr (.inr (.inr (.inl h)))
    · exact .inr (.inr (.inr (.inr h)))
    · exact .inl down))

theorem exec_bar2Read_closed (near : o + n ≤ 2 ^ 36) (starting : s.mode = .boot ∨ s.mode = .loader) (up : (s.ep ep).linkUp = true) :
    exec (.bar2Read ep o n upsets) s = .next (s.emit (.bar2 ep (some (zeros n)))) := by
  refine (if_neg (Nat.not_lt.2 near)).trans ((if_neg ?_).trans (if_pos ?_))
  · rcases starting with h | h <;> simp [h, up]
  · rcases starting with h | h <;> rw [h] <;> rfl

theorem exec_bar2Read_open (near : o + n ≤ 2 ^ 36) (opened : s.mode.windowOpen = true) (up : (s.ep ep).linkUp = true) :
    exec (.bar2Read ep o n []) s = .next (s.emit (.bar2 ep (some (s.readBar2 o n)))) := by
  have alive : ¬(s.mode = .frozen ∨ s.mode = .off ∨ s.mode = .reset ∨ s.mode = .coast) := by
    rintro (h | h | h | h) <;> rw [h] at opened <;> cases opened
  refine (if_neg (Nat.not_lt.2 near)).trans ((if_neg ?_).trans ((if_neg ?_).trans ?_))
  · simpa [up] using alive
  · simp [opened]
  · exact congrArg (bar2Completion ep) (s.foldl_readStep_unstruck o n)
end

end Sys2Proof.Machine

open Sys2Proof Sys2Proof.Machine

/-- Settles O38: a write word by word is a write byte by byte, whose offsets lead to bytes of their own, and a read likewise. -/
theorem theHostWindowStoresAndReturnsEveryByteItMaps : Obligations.TheHostWindowStoresAndReturnsEveryByteItMaps := by
  unfold Obligations.TheHostWindowStoresAndReturnsEveryByteItMaps
  intro s ep o _ _
  refine ⟨fun data near => ⟨fun opened up given => ?stored, fun upsets => exec_bar2Write_closed near⟩,
    fun n near => ⟨fun opened up => ?returned, fun upsets => ⟨exec_bar2Read_closed near, exec_bar2Read_unanswered near⟩⟩,
    fun data upsets => exec_bar2Write_outside, fun n upsets => exec_bar2Read_outside⟩
  case stored =>
    refine ⟨_, exec_bar2Write_open near opened up given, fun i st a hi led => ?_, fun st a ha unled => ?_, ?_⟩
    · rw [State.readByte_writeBar2_in hi led, List.getElem?_eq_getElem hi]; rfl
    · rw [State.readByte_writeBar2_out ha unled, State.readByte_countUnbacked]
    · rw [State.num_writeBar2, State.num_countUnbacked]
  case returned =>
    rw [exec_bar2Read_open near opened up, State.readBar2_eq_map]
    rfl
end

section
/-! Proofs about every command and every step: what `exec` does lies within the relation of Laws/Run, so a step keeps the invariant; every
command answers a next state, but for a BAR2 access past the window (R352, R353); and the reset state. The statements EveryStepKeepsInvariant,
OnlyUnreachableBar2AccessesStop and ResetHoldsInvariantAndDefaults. -/
namespace Sys2Proof.Machine

/-! ## A step keeps the invariant (R347, R401, R455) -/

theorem Run.inv {f : Nat} {K : List Nat} {s t : State} (run : Run f K s t) (hi : s.Inv = true) : t.Inv = true := by
  simp only [State.Inv, Bool.and_eq_true] at hi ⊢
  obtain ⟨⟨mem, dict⟩, pins⟩ := hi
  exact ⟨⟨run.mem mem, run.dict dict⟩, run.pins pins⟩

/-- A law for every set of parts and entries that hold the command's own gives those: the command runs within some set. -/
theorem exists_runRes {c : Nat} {l : List Nat} {s : State} {r : Res}
    (law : ∀ {f K}, c ||| f = f → (∀ x, x ∈ l → x ∈ K) → Run f K s s → RunRes f K s r) : ∃ f K, RunRes f K s r :=
  ⟨c, l, law (Nat.or_self c) (fun _ => id) (Run.refl _ _ s)⟩

/-- Every command runs within the relation that its own law in Laws/ names. -/
theorem exec_run (i : Instr) (s : State) : ∃ f K, RunRes f K s (exec i s) :=
  match i with
  | .courseFrame .. => exists_runRes (execCourseFrame_run · · ·)
  | .unmarkedWrap => exists_runRes (execUnmarkedWrap_run · · ·)
  | .courseMasterFrame => exists_runRes (execCourseMasterFrame_run · · ·)
  | .contributionDeadline => exists_runRes (execContributionDeadline_run · · ·)
  | .voteDeadline => exists_runRes (execVoteDeadline_run · · ·)
  | .broadcastDeadline => exists_runRes (execBroadcastDeadline_run · · ·)
  | .commitEvent => exists_runRes (execCommitEvent_run · · ·)
  | .calibrationTableSwap => exists_runRes (execCalibrationTableSwap_run · · ·)
  | .firmwareActivation => exists_runRes (execFirmwareActivation_run · · ·)
  | .measurementTrigger => exists_runRes (execMeasurementTrigger_run · · ·)
  | .courseScheduledFreeze => exists_runRes (execCourseScheduledFreeze_run · · ·)
  | .runEntry => exists_runRes (execRunEntry_run · · ·)
  | .doorbell .. => exists_runRes (execDoorbell_run · · ·)
  | .descriptorEntry .. => exists_runRes (execDescriptorEntry_run · · ·)
  | .descriptorComplete .. => exists_runRes (execDescriptorComplete_run · · ·)
  | .streamHalt .. => exists_runRes (execStreamHalt_run · · ·)
  | .retry .. => exists_runRes (execRetry_run · · ·)
  | .skip .. => exists_runRes (execSkip_run · · ·)
  | .streamReset .. => exists_runRes (execStreamReset_run · · ·)
  | .planLoad => exists_runRes (execPlanLoad_run · · ·)
  | .planUnload => exists_runRes (execPlanUnload_run · · ·)
  | .planLoadComplete => exists_runRes (execPlanLoadComplete_run · · ·)
  | .placement => exists_runRes (execPlacement_run · · ·)
  | .arrayOperationStart => exists_runRes (execArrayOperationStart_run · · ·)
  | .arrayOperationEnd => exists_runRes (execArrayOperationEnd_run · · ·)
  | .strike .. => exists_runRes (execStrike_run · · ·)
  | .digitalSubstitution .. => exists_runRes (execDigitalSubstitution_run · · ·)
  | .weightWrite .. => exists_runRes (execWeightWrite_run · · ·)
  | .calibrationWave .. => exists_runRes (execCalibrationWave_run · · ·)
  | .calibrationDone => exists_runRes (execCalibrationDone_run · · ·)
  | .calRunPattern => exists_runRes (execCalRunPattern_run · · ·)
  | .calRunResident => exists_runRes (execCalRunResident_run · · ·)
  | .residentProbeSet .. => exists_runRes (execResidentProbeSet_run · · ·)
  | .bankSettled => exists_runRes (execBankSettled_run · · ·)
  | .setFlashWrite .. => exists_runRes (execSetFlashWrite_run · · ·)
  | .histSave => exists_runRes (execHistSave_run · · ·)
  | .histSaveAtBoundary => exists_runRes (execHistSaveAtBoundary_run · · ·)
  | .histRestore => exists_runRes (execHistRestore_run · · ·)
  | .joint .. => exists_runRes (execJoint_run · · ·)
  | .jointRecord .. => exists_runRes (execJointRecord_run · · ·)
  | .recompute .. => exists_runRes (execRecompute_run · · ·)
  | .checkpointPrefetch .. => exists_runRes (execCheckpointPrefetch_run · · ·)
  | .localVerdict => exists_runRes (execLocalVerdict_run · · ·)
  | .stepVoidReq => exists_runRes (execStepVoidReq_run · · ·)
  | .verdictReceived .. => exists_runRes (execVerdictReceived_run · · ·)
  | .decisionReceived .. => exists_runRes (execDecisionReceived_run · · ·)
  | .updateEnd => exists_runRes (execUpdateEnd_run · · ·)
  | .writebackEnd => exists_runRes (execWritebackEnd_run · · ·)
  | .contributionRecord .. => exists_runRes (execContributionRecord_run · · ·)
  | .lateNotice .. => exists_runRes (execLateNotice_run · · ·)
  | .excludeRecord .. => exists_runRes (execExcludeRecord_run · · ·)
  | .setRecord .. => exists_runRes (execSetRecord_run · · ·)
  | .stageRecord .. => exists_runRes (execStageRecord_run · · ·)
  | .gatherRecord .. => exists_runRes (execGatherRecord_run · · ·)
  | .gatherDeadline => exists_runRes (execGatherDeadline_run · · ·)
  | .twinShard .. => exists_runRes (execTwinShard_run · · ·)
  | .twinShardDeadline => exists_runRes (execTwinShardDeadline_run · · ·)
  | .twinDelta .. => exists_runRes (execTwinDelta_run · · ·)
  | .rootJob .. => exists_runRes (execRootJob_run · · ·)
  | .updImageSave => exists_runRes (execUpdImageSave_run · · ·)
  | .updImageRestore .. => exists_runRes (execUpdImageRestore_run · · ·)
  | .patrolScrub .. => exists_runRes (execPatrolScrub_run · · ·)
  | .bar2Write .. => exists_runRes (execBar2Write_run · · ·)
  | .bar2Read .. => exists_runRes (execBar2Read_run · · ·)
  | .bridgeFlit .. => exists_runRes (execBridgeFlit_run · · ·)
  | .portTraining .. => exists_runRes (execPortTraining_run · · ·)
  | .portTrainingRetry .. => exists_runRes (execPortTrainingRetry_run · · ·)
  | .dataFlit .. => exists_runRes (execDataFlit_run · · ·)
  | .idleFlit .. => exists_runRes (execIdleFlit_run · · ·)
  | .identityFlit .. => exists_runRes (execIdentityFlit_run · · ·)
  | .identityResend .. => exists_runRes (execIdentityResend_run · · ·)
  | .replayTimeout .. => exists_runRes (execReplayTimeout_run · · ·)
  | .codewordTimeout .. => exists_runRes (execCodewordTimeout_run · · ·)
  | .retrainLimit .. => exists_runRes (execRetrainLimit_run · · ·)
  | .reassemblyTimeout .. => exists_runRes (execReassemblyTimeout_run · · ·)
  | .discoveryRestart => exists_runRes (execDiscoveryRestart_run · · ·)
  | .discoveryWindowEnd => exists_runRes (execDiscoveryWindowEnd_run · · ·)
  | .irqStatusClear .. => exists_runRes (execIrqStatusClear_run · · ·)
  | .irqMaskWrite .. => exists_runRes (execIrqMaskWrite_run · · ·)
  | .mboxReqLen .. => exists_runRes (execMboxReqLen_run · · ·)
  | .mailboxResponse .. => exists_runRes (execMailboxResponse_run · · ·)
  | .coalesceIntervalEnd .. => exists_runRes (execCoalesceIntervalEnd_run · · ·)
  | .hostDmaTimeout .. => exists_runRes (execHostDmaTimeout_run · · ·)
  | .perst .. => exists_runRes (execPerst_run · · ·)
  | .functionLevelReset .. => exists_runRes (execFunctionLevelReset_run · · ·)
  | .read .. => exists_runRes (execRead_run · · ·)
  | .readStaged .. => exists_runRes (execReadStaged_run · · ·)
  | .write .. => exists_runRes (execWrite_run · · ·)
  | .describe .. => exists_runRes (execDescribe_run · · ·)
  | .next .. => exists_runRes (execNext_run · · ·)
  | .sessionOpen .. => exists_runRes (execSessionOpen_run · · ·)
  | .sessionClose .. => exists_runRes (execSessionClose_run · · ·)
  | .sessionIdleTimeout .. => exists_runRes (execSessionIdleTimeout_run · · ·)
  | .pdxForward .. => exists_runRes (execPdxForward_run · · ·)
  | .forwardTimeout .. => exists_runRes (execForwardTimeout_run · · ·)
  | .cfgCommit => exists_runRes (execCfgCommit_run · · ·)
  | .cfgValidationDone => exists_runRes (execCfgValidationDone_run · · ·)
  | .cfgDiscard => exists_runRes (execCfgDiscard_run · · ·)
  | .cfgStageDefaults => exists_runRes (execCfgStageDefaults_run · · ·)
  | .stateReqArm => exists_runRes (execStateReqArm_run · · ·)
  | .stateReqHold => exists_runRes (execStateReqHold_run · · ·)
  | .ownerKey .. => exists_runRes (execOwnerKey_run · · ·)
  | .adcTrigger .. => exists_runRes (execAdcTrigger_run · · ·)
  | .extTrig .. => exists_runRes (execExtTrig_run · · ·)
  | .timerExpiry .. => exists_runRes (execTimerExpiry_run · · ·)
  | .samplingGroupDone .. => exists_runRes (execSamplingGroupDone_run · · ·)
  | .channelStale .. => exists_runRes (execChannelStale_run · · ·)
  | .sliceCalibration .. => exists_runRes (execSliceCalibration_run · · ·)
  | .levelTick => exists_runRes (execLevelTick_run · · ·)
  | .levelEvaluation => exists_runRes (execLevelEvaluation_run · · ·)
  | .levelTickLate => exists_runRes (execLevelTickLate_run · · ·)
  | .fastClamp hub _ _ => exists_runRes (execFastClamp_run (x0 := hub) · · ·)
  | .throttleIn .. => exists_runRes (execThrottleIn_run · · ·)
  | .tachStall .. => exists_runRes (execTachStall_run · · ·)
  | .pmbPoll .. => exists_runRes (execPmbPoll_run · · ·)
  | .pmbXfer .. => exists_runRes (execPmbXfer_run · · ·)
  | .powerOff => exists_runRes (execPowerOff_run · · ·)
  | .resetAssert .. => exists_runRes (execResetAssert_run · · ·)
  | .resetRelease .. => exists_runRes (execResetRelease_run · · ·)
  | .loopsLocked => exists_runRes (execLoopsLocked_run · · ·)
  | .firmwareVerified => exists_runRes (execFirmwareVerified_run · · ·)
  | .bridgesTrained .. => exists_runRes (execBridgesTrained_run · · ·)
  | .memoryStepDone .. => exists_runRes (execMemoryStepDone_run · · ·)
  | .flashReadsDone => exists_runRes (execFlashReadsDone_run · · ·)
  | .refclkLoss => exists_runRes (execRefclkLoss_run · · ·)
  | .refclkReturn => exists_runRes (execRefclkReturn_run · · ·)
  | .domainSnapshot => exists_runRes (execDomainSnapshot_run · · ·)
  | .audit .. => exists_runRes (execAudit_run · · ·)
  | .foremanBound .. => exists_runRes (execForemanBound_run · · ·)
  | .spallExport .. => exists_runRes (execSpallExport_run · · ·)
  | .spallReceived .. => exists_runRes (execSpallReceived_run · · ·)
  | .freezeN .. => exists_runRes (execFreezeN_run · · ·)
  | .freezeCmd .. => exists_runRes (execFreezeCmd_run · · ·)
  | .freezeAt .. => exists_runRes (execFreezeAt_run · · ·)
  | .readoutEnd .. => exists_runRes (execReadoutEnd_run · · ·)
  | .fwStageBegin => exists_runRes (execFwStageBegin_run · · ·)
  | .fwStageAbandon => exists_runRes (execFwStageAbandon_run · · ·)
  | .fwData .. => exists_runRes (execFwData_run · · ·)
  | .firmwareStagingGrant .. => exists_runRes (execFirmwareStagingGrant_run · · ·)
  | .stagingVerified => exists_runRes (execStagingVerified_run · · ·)
  | .fwActivateAt .. => exists_runRes (execFwActivateAt_run · · ·)
  | .attestReq .. => exists_runRes (execAttestReq_run · · ·)
  | .attestReport => exists_runRes (execAttestReport_run · · ·)
  | .powerUp => exists_runRes (execPowerUp_run · · ·)
  | .wrap => exists_runRes (execWrap_run · · ·)
  | .loopLockTimeout loop => exists_runRes (execLoopLockTimeout_run (x0 := loop) · · ·)
  | .lockLoss loop => exists_runRes (execLockLoss_run (x0 := loop) · · ·)
  | .msixTableWrite .. => exists_runRes (execMsixTableWrite_run · · ·)
  | .bar0Write .. => exists_runRes (execBar0Write_run · · ·)
  | .arpNdAndEchoRequest .. => exists_runRes (execArpNdAndEchoRequest_run · · ·)
  | .pdxForwardedResponse .. => exists_runRes (execPdxForwardedResponse_run · · ·)
  | .tachEdge .. => exists_runRes (execTachEdge_run · · ·)
  | .historyObjectComplete => exists_runRes (execHistoryObjectComplete_run · · ·)
  | .paneImageComplete => exists_runRes (execPaneImageComplete_run · · ·)

theorem exec_inv {i : Instr} {s t : State} (hi : s.Inv = true) (e : exec i s = .next t) : t.Inv = true := by
  obtain ⟨f, K, run⟩ := exec_run i s
  exact (run t e).inv hi

theorem State.tick_inv {s : State} (hi : s.Inv = true) : s.tick.Inv = true :=
  (tick_run (Nat.or_self _) (fun _ => id) (Run.refl _ _ s)).inv hi

/-! ## Every command answers but a BAR2 access past the window (R352, R353) -/

/-- The outcome is a next state. -/
def Answers (r : Res) : Prop := ∃ t, r = .next t

theorem Answers.next (t : State) : Answers (.next t) := ⟨t, rfl⟩

theorem Answers.ite {c : Prop} [Decidable c] {a b : Res} (ha : Answers a) (hb : Answers b) : Answers (if c then a else b) := by
  split <;> assumption

section
variable {s : State} {ep : Ep} {o n : Nat} {data : List Byte} {upsets : List Upset}

theorem exec_bar2Write_answers (near : o + data.length ≤ 2 ^ 36) : Answers (exec (.bar2Write ep o data upsets) s) := by
  dsimp only [exec, execBar2Write]
  rw [if_neg (Nat.not_lt.2 near)]
  exact Answers.ite (Answers.next _) (Answers.next _)

theorem exec_bar2Read_answers (near : o + n ≤ 2 ^ 36) : Answers (exec (.bar2Read ep o n upsets) s) := by
  dsimp only [exec, execBar2Read]
  rw [if_neg (Nat.not_lt.2 near)]
  refine Answers.ite (Answers.next _) (Answers.ite (Answers.next _) ?_)
  split <;> exact Answers.next _
end

/-- The accesses to the BAR2 window. -/
def isBar2Access : Instr → Bool
  | .bar2Write .. | .bar2Read .. => true
  | _ => false

/-- Every branch of the meaning of every other command ends in a next state. -/
theorem exec_answers (i : Instr) (s : State) (other : isBar2Access i = false) : Answers (exec i s) := by
  cases i
  case bar2Write | bar2Read => cases other
  -- meanings without a branch
  case doorbell | retry | skip | streamReset | planLoad | planUnload | calRunPattern | calRunResident | histSave | histSaveAtBoundary |
    histRestore | contributionRecord | lateNotice | excludeRecord | setRecord | stageRecord | gatherRecord | twinShard | twinDelta |
    updImageSave | updImageRestore | read | readStaged | write | describe | next | sessionOpen | sessionClose | pdxForward | ownerKey |
    adcTrigger | attestReq =>
    exact Answers.next _
  -- meanings with branches: each leaf is a next state
  all_goals
    dsimp only [exec, execCourseFrame, execUnmarkedWrap, execCourseMasterFrame, execContributionDeadline, execVoteDeadline, execBroadcastDeadline,
      execCommitEvent, execCalibrationTableSwap, execFirmwareActivation, execMeasurementTrigger, execCourseScheduledFreeze, execRunEntry,
      execDescriptorEntry, execDescriptorComplete, execStreamHalt, execPlanLoadComplete, execPlacement, execArrayOperationStart,
      execArrayOperationEnd, execStrike, execDigitalSubstitution, execWeightWrite, execCalibrationWave, execCalibrationDone,
      execResidentProbeSet, execBankSettled, execSetFlashWrite, execJoint, execJointRecord, execRecompute, execCheckpointPrefetch,
      execLocalVerdict, execStepVoidReq, execVerdictReceived, execDecisionReceived, execUpdateEnd, execWritebackEnd, execGatherDeadline,
      execTwinShardDeadline, execRootJob, execPatrolScrub, execBridgeFlit, execPortTraining, execPortTrainingRetry, execDataFlit,
      execIdleFlit, execIdentityFlit, execIdentityResend, execReplayTimeout, execCodewordTimeout, execRetrainLimit, execReassemblyTimeout,
      execDiscoveryRestart, execDiscoveryWindowEnd, execIrqStatusClear, execIrqMaskWrite, execMboxReqLen, execMailboxResponse,
      execCoalesceIntervalEnd, execHostDmaTimeout, execPerst, execFunctionLevelReset, execSessionIdleTimeout, execForwardTimeout,
      execCfgCommit, execCfgValidationDone, execCfgDiscard, execCfgStageDefaults, execStateReqArm, execStateReqHold, execExtTrig,
      execTimerExpiry, execSamplingGroupDone, execChannelStale, execSliceCalibration, execLevelTick, execLevelEvaluation,
      execLevelTickLate, execFastClamp, execThrottleIn, execTachStall, execPmbPoll, execPmbXfer, execPowerOff, execResetAssert,
      execResetRelease, execLoopsLocked, execFirmwareVerified, execBridgesTrained, execMemoryStepDone, execFlashReadsDone, execRefclkLoss,
      execRefclkReturn, execDomainSnapshot, execAudit, execForemanBound, execSpallExport, execSpallReceived, execFreezeN, execFreezeCmd,
      execFreezeAt, execReadoutEnd, execFwStageBegin, execFwStageAbandon, execFwData, execFirmwareStagingGrant, execStagingVerified,
      execFwActivateAt, execAttestReport, execPowerUp, execWrap, execLoopLockTimeout, execLockLoss, execMsixTableWrite, execBar0Write,
      execArpNdAndEchoRequest, execPdxForwardedResponse, execTachEdge, execHistoryObjectComplete, execPaneImageComplete]
    repeat' first
      | with_reducible exact Answers.next _
      | with_reducible apply Answers.ite
      | split

end Sys2Proof.Machine

open Sys2Proof Sys2Proof.Machine

/-- Settles O4: a step is a hub cycle or a command, and both run within a relation that keeps the canonical forms and the pins. -/
theorem everyStepKeepsInvariant : Obligations.EveryStepKeepsInvariant := by
  unfold Obligations.EveryStepKeepsInvariant
  intro s t hi e
  unfold step at e
  rcases hp : s.pending with _ | ⟨c, cs⟩ <;> rw [hp] at e
  · cases e
    exact State.tick_inv hi
  · have front : ({ s with pending := cs } : State).Inv = true := hi
    exact exec_inv front e

/-- Settles O6: the two accesses by whether they pass the window's end, every other command by its branches. -/
theorem onlyUnreachableBar2AccessesStop : Obligations.OnlyUnreachableBar2AccessesStop := by
  unfold Obligations.OnlyUnreachableBar2AccessesStop
  intro i s
  cases i with
  | bar2Write ep o data upsets =>
    rcases Nat.lt_or_ge (2 ^ 36) (o + data.length) with far | near
    · exact .inr ⟨exec_bar2Write_outside far, far⟩
    · exact .inl (exec_bar2Write_answers near)
  | bar2Read ep o n upsets =>
    rcases Nat.lt_or_ge (2 ^ 36) (o + n) with far | near
    · exact .inr ⟨exec_bar2Read_outside far, far⟩
    · exact .inl (exec_bar2Read_answers near)
  | _ => exact .inl (exec_answers _ s rfl)

/-- Settles O3: at reset no table lists an entry, so each key reads as its default. -/
theorem resetHoldsInvariantAndDefaults : Obligations.ResetHoldsInvariantAndDefaults :=
  ⟨State.reset_inv, rfl, rfl, rfl, rfl, fun _ => rfl, fun _ _ => rfl⟩
end

section
open Sys2Proof Sys2Proof.Machine

/-- Settles O1: the queue's front and rest are those of the list that the state is given. -/
theorem stepRunsFrontCommand : Obligations.StepRunsFrontCommand := by
  unfold Obligations.StepRunsFrontCommand
  intro c cs s
  rfl
end

section
/-! Proofs of the ports (R357, R361, R362, R374-R380): reading a port after each operation on the ports, what each command of training,
replay and discovery does, and the statement PortsTrainRetrainReplayAndAreDiscovered. -/
namespace Sys2Proof.Machine

/-! ## Reading a port -/

theorem State.port_of_link {s t : State} (h : t.link = s.link) (p : Nat) : t.port p = s.port p := by
  unfold State.port; rw [h]

section
variable (s : State) (p q k n : Nat) (l : LinkPort)

@[simp] theorem State.port_setPort : (s.setPort p l).port p = l := kvGet_set_same _ _ _ _
@[simp] theorem State.num_setPort : (s.setPort p l).num k = s.num k := rfl
@[simp] theorem State.setPort_outs : (s.setPort p l).outs = s.outs := rfl
@[simp] theorem State.setPort_mode : (s.setPort p l).mode = s.mode := rfl
@[simp] theorem State.dictOk_setPort : (s.setPort p l).dictOk = s.dictOk := rfl
@[simp] theorem State.port_bumpBy : (s.bumpBy k n).port p = s.port p := rfl
@[simp] theorem State.port_bump : (s.bump k).port p = s.port p := rfl
@[simp] theorem State.port_emit (o : Out) : (s.emit o).port p = s.port p := rfl
@[simp] theorem State.port_emits (os : List Out) : (s.emits os).port p = s.port p := rfl
@[simp] theorem State.port_cause : (s.cause k).port p = s.port p := State.port_of_link (s.cause_link k) p
@[simp] theorem State.port_spall (x : Spall) : (s.spall x).port p = s.port p := State.port_of_link (s.spall_link x) p
end

/-- A port's number and back. -/
@[simp] theorem Fin.ofNat_port (port : Port) : Fin.ofNat 12 port.val = port := Fin.ext (Nat.mod_eq_of_lt port.isLt)

/-! ## Training, replay, retraining (R357, R361, R362) -/

/-- A port that retrains: its unacknowledged flits stay. -/
def LinkPort.retrained (l : LinkPort) : LinkPort := { l with st := .training, retraining := true, peer := none, retrains := l.retrains + 1 }

section
variable (s : State) (p : Nat)

@[simp] theorem State.port_retrain : (s.retrain p).port p = (s.port p).retrained := State.port_setPort _ _ _

theorem State.num_retrain : (s.retrain p).num PD.LINK_RETRAINS = (s.num PD.LINK_RETRAINS + 1) % 2 ^ 64 := State.num_bump

theorem State.replayFlits_spent {s : State} {p : Nat} (spent : (s.port p).replay.any (fun r => 9 ≤ r.2) = true) :
    s.replayFlits p = s.retrain p := if_pos spent

/-- Every unacknowledged flit leaves again, with the ACK of now. -/
theorem State.replayFlits_sends {s : State} {p : Nat} (fresh : (s.port p).replay.any (fun r => 9 ≤ r.2) = false) :
    s.replayFlits p = ((s.setPort p { s.port p with
        replay := (s.port p).replay.map (fun r => (r.1, r.2 + 1)), replays := (s.port p).replays + (s.port p).replay.length }).bumpBy
          PD.FLIT_REPLAYS (s.port p).replay.length).emits
      ((s.port p).replay.map fun r => .kenlink (Fin.ofNat 12 p) (resealFlit r.1 (s.port p).lastRx.toNat)) := if_neg (ne_true_of_eq_false fresh)

theorem State.port_linkDown : (s.linkDown p).port p =
    { s.port p with st := .down, retraining := false, peer := none, replay := [], waiting := [], drops := (s.port p).drops + 1 } := by
  simp [State.linkDown]

/-- What goes DOWN is counted: the link, the flits it had sent and those that waited. -/
theorem State.linkDown_counts {s : State} (w : s.dictOk = true) (p : Nat) :
    (s.linkDown p).num PD.LINK_DROPS = (s.num PD.LINK_DROPS + 1) % 2 ^ 64
      ∧ (s.linkDown p).num PD.FLITS_FLUSHED = (s.num PD.FLITS_FLUSHED + (s.port p).replay.length) % 2 ^ 64
      ∧ (s.linkDown p).num PD.FLITS_NO_ROUTE = (s.num PD.FLITS_NO_ROUTE + (s.port p).waiting.length) % 2 ^ 64 := by
  have ok : ∀ (t : State) (a b c n m : Nat), t.dictOk = true → (((t.bumpBy a n).bumpBy b m).bump c).dictOk = true :=
    fun _ _ _ _ _ _ h => State.dictOk_bump (State.dictOk_bumpBy (State.dictOk_bumpBy h))
  unfold State.linkDown
  simp only [State.num_cause]
  refine ⟨?_, ?_, ?_⟩ <;> rw [State.num_spall (ok _ _ _ _ _ _ ((State.dictOk_setPort ..).trans w)) _ (by decide)]
  · rw [State.num_bump, State.num_bumpBy_ne (by decide), State.num_bumpBy_ne (by decide), State.num_setPort]
  · rw [State.num_bump_ne (by decide), State.num_bumpBy_ne (by decide), State.num_bumpBy, State.num_setPort]
  · rw [State.num_bump_ne (by decide), State.num_bumpBy, State.num_bumpBy_ne (by decide), State.num_setPort]
end

section
variable {s : State} {port : Port} (up : s.lanesUp = true)
include up

theorem exec_portTraining_failed (dark : (s.port port.val).st.live = false) :
    exec (.portTraining port .failed) s = .next (s.setPort port.val { s.port port.val with st := .down }) :=
  if_neg (by simp [up, dark])

theorem exec_portTraining_trained (dark : (s.port port.val).st.live = false) :
    exec (.portTraining port .trained) s = .next ((s.setPort port.val
      { (if (s.port port.val).retraining then s.port port.val else (s.port port.val).linkUp) with st := .identify, peer := none }).sendIdentity
        port.val) :=
  if_neg (by simp [up, dark])

theorem exec_portTrainingRetry_trains (down : (s.port port.val).st = .down) :
    exec (.portTrainingRetry port false) s = .next (s.setPort port.val { s.port port.val with st := .training }) :=
  if_pos ⟨up, down, rfl⟩

theorem exec_codewordTimeout_retrains (live : (s.port port.val).st.live = true) :
    exec (.codewordTimeout port) s = .next (s.retrain port.val) := if_pos ⟨up, live⟩

theorem exec_retrainLimit_drops (retraining : (s.port port.val).retraining = true) :
    exec (.retrainLimit port) s = .next (s.linkDown port.val) := if_pos ⟨up, retraining⟩

theorem exec_replayTimeout_replays (active : (s.port port.val).st = .active) (kept : (s.port port.val).replay ≠ []) :
    exec (.replayTimeout port) s = .next (s.replayFlits port.val) :=
  if_pos ⟨up, active, by simp [kept]⟩

theorem exec_identityResend_sends (live : (s.port port.val).st.live = true) (unknown : (s.port port.val).peer = none) :
    exec (.identityResend port) s = .next (s.sendIdentity port.val) :=
  if_pos ⟨up, live, by simp [unknown]⟩
end

theorem exec_portTrainingRetry_rests {s : State} {port : Port} {farIdle : Bool}
    (h : s.lanesUp = false ∨ (s.port port.val).st ≠ .down ∨ farIdle = true) : exec (.portTrainingRetry port farIdle) s = .next s := by
  refine if_neg ?_
  rintro ⟨up, down, busy⟩
  rcases h with h | h | h
  · rw [up] at h; cases h
  · exact h down
  · rw [h] at busy; cases busy

theorem State.sendIdentity_eq (s : State) (port : Port) : s.sendIdentity port.val = s.emit (.kenlink port
    (sealFlit (2 + 128 * 2 ^ 9) (s.identityFrame port.val) 0 (s.port port.val).lastRx.toNat)) := by
  unfold State.sendIdentity; rw [Fin.ofNat_port]

/-! ## Discovery (R374, R378-R380) -/

/-- From `s` to `t` nothing of the links has changed but the ports. -/
def State.PortsOnly (s t : State) : Prop := ∃ ps, t.link = { s.link with ports := ps }

theorem State.PortsOnly.refl (s : State) : s.PortsOnly s := ⟨_, rfl⟩

theorem State.PortsOnly.trans {s t u : State} : s.PortsOnly t → t.PortsOnly u → s.PortsOnly u := by
  rintro ⟨_, h⟩ ⟨ps, k⟩
  exact ⟨ps, by rw [k, h]⟩

theorem State.PortsOnly.each {α : Type} {f : State → α → State} (hf : ∀ (s : State) (x : α), s.PortsOnly (f s x)) :
    ∀ (l : List α) (s : State), s.PortsOnly (s.each l f)
  | [], s => .refl s
  | x :: l, s => (hf s x).trans (State.PortsOnly.each hf l (f s x))

theorem State.setPort_portsOnly (s : State) (p : Nat) (l : LinkPort) : s.PortsOnly (s.setPort p l) := ⟨_, rfl⟩

theorem State.sendFlit_portsOnly (s : State) (p head : Nat) (pay : List Byte) : s.PortsOnly (s.sendFlit p head pay) := by
  unfold State.sendFlit
  dsimp only
  split <;> exact ⟨_, rfl⟩

theorem State.sendWaiting_portsOnly (s : State) (p : Nat) : s.PortsOnly (s.sendWaiting p) :=
  (s.setPort_portsOnly p _).trans (.each (fun s _ => s.sendFlit_portsOnly p _ _) _ _)

theorem State.settlePort_portsOnly (s : State) (d : Decided) (out p : Nat) : s.PortsOnly (s.settlePort d out p) := by
  unfold State.settlePort
  dsimp only
  split
  · exact s.setPort_portsOnly _ _
  · split
    · exact s.setPort_portsOnly _ _
    · split
      · exact (s.setPort_portsOnly _ _).trans (State.sendWaiting_portsOnly _ _)
      · exact s.setPort_portsOnly _ _

@[simp] theorem State.setDiscovery_link (s : State) (v : Nat) : (s.setDiscovery v).link = s.link := by
  unfold State.setDiscovery
  split <;> simp

@[simp] theorem State.num_setDiscovery (s : State) (v : Nat) : (s.setDiscovery v).num PD.DISCOVERY_STATE = v := by
  unfold State.setDiscovery
  split
  · assumption
  · rw [State.num_cause, State.num_setNum]

@[simp] theorem State.setDiscovery_mode (s : State) (v : Nat) : (s.setDiscovery v).mode = s.mode := by
  unfold State.setDiscovery
  split <;> simp

@[simp] theorem State.num_decideRun (s : State) : s.decideRun.num PD.DISCOVERY_STATE = s.outcomeOf s.findAll.findings :=
  State.num_setDiscovery _ _

/-- A decision leaves its findings and its map; the ports' states come after them. -/
theorem State.decideRun_link (s : State) : ∃ ps, s.decideRun.link = { s.link with
    findings := s.findAll.findings
    logical := (List.range 12).map fun l => (s.findAll.pairs.find? fun x => x.1 = l).map (·.2)
    ports := ps } := by
  unfold State.decideRun
  dsimp only
  rw [State.setDiscovery_link]
  exact State.PortsOnly.each (fun s p => s.settlePort_portsOnly _ _ p) _ _

/-- A run has started: findings cleared, trained ports at IDENTIFY, the window open. -/
def State.discovering (s : State) : State :=
  let s : State := { s with link := { s.link with findings := [], ran := true,
                                                  ports := s.link.ports.map fun p => (p.1, if p.2.st.live then { p.2 with st := .identify } else p.2) } }
  s.setDiscovery 1

theorem State.discover_eq (s : State) : s.discover = s.discovering.tryDecide := rfl

section
variable (s : State)

@[simp] theorem State.discovering_findings : s.discovering.link.findings = [] := by simp [State.discovering]
@[simp] theorem State.discovering_ran : s.discovering.link.ran = true := by simp [State.discovering]
@[simp] theorem State.num_discovering : s.discovering.num PD.DISCOVERY_STATE = 1 := State.num_setDiscovery _ _
@[simp] theorem State.discovering_mode : s.discovering.mode = s.mode := State.setDiscovery_mode _ _

theorem State.discover_undecided (open_ : s.discovering.allFramed = false) : s.discover = s.discovering := by
  rw [State.discover_eq]
  exact if_neg fun h => by rw [open_] at h; cases h.2

theorem State.discover_decided (framed : s.discovering.allFramed = true) : s.discover = s.discovering.decideRun := by
  rw [State.discover_eq]
  exact if_pos ⟨s.num_discovering, framed⟩
end

theorem exec_discoveryRestart_discovers {s : State} (commands : s.mode.commands = true) : exec .discoveryRestart s = .next s.discover :=
  if_pos commands

theorem exec_discoveryWindowEnd_decides {s : State} (up : s.lanesUp = true) (run : s.num PD.DISCOVERY_STATE = 1) :
    exec .discoveryWindowEnd s = .next s.decideRun := if_pos ⟨up, run⟩

end Sys2Proof.Machine

open Sys2Proof Sys2Proof.Machine

/-- Settles O40: each command of a port by what the port's state makes of it, and a run of discovery by its beginning and its decision. -/
theorem portsTrainRetrainReplayAndAreDiscovered : Obligations.PortsTrainRetrainReplayAndAreDiscovered := by
  unfold Obligations.PortsTrainRetrainReplayAndAreDiscovered
  rintro s port _ w rfl
  refine ⟨fun up dark => ⟨⟨_, exec_portTraining_failed up dark, State.port_setPort .., rfl⟩, ?trained⟩,
    fun farIdle => ⟨fun up down far => ?retries, exec_portTrainingRetry_rests⟩,
    fun up live => ⟨_, exec_codewordTimeout_retrains up live, s.port_retrain _, s.num_retrain _⟩,
    fun up retraining => ⟨_, exec_retrainLimit_drops up retraining, s.port_linkDown _, State.linkDown_counts w _⟩,
    fun up active kept => ⟨fun spent => ?spent, fun fresh => ?replayed⟩, fun up live unknown => ?resent, fun commands => ?restarted,
    fun up run => ?decided⟩
  case trained =>
    refine ⟨_, exec_portTraining_trained up dark, ?_, ?_⟩
    · rw [State.sendIdentity_eq, State.port_emit, State.port_setPort]
    · rw [State.sendIdentity_eq, State.port_setPort]
      cases (s.port port.val).retraining <;> rfl
  case retries => subst far; exact ⟨_, exec_portTrainingRetry_trains up down, State.port_setPort ..⟩
  case spent => exact ⟨_, exec_replayTimeout_replays up active kept, by rw [State.replayFlits_spent spent, State.port_retrain]; rfl⟩
  case replayed =>
    refine ⟨_, exec_replayTimeout_replays up active kept, ?_⟩
    rw [State.replayFlits_sends fresh, Fin.ofNat_port]
    exact ⟨State.port_setPort .., State.num_bumpBy, rfl⟩
  case resent => rw [exec_identityResend_sends up live unknown, State.sendIdentity_eq]
  case restarted =>
    exact ⟨s.discovering, s.discover, s.discovering_findings, s.discovering_ran, s.num_discovering, s.discovering_mode,
      exec_discoveryRestart_discovers commands, s.discover_undecided, s.discover_decided⟩
  case decided =>
    obtain ⟨ps, link⟩ := s.decideRun_link
    exact ⟨_, exec_discoveryWindowEnd_decides up run, s.num_decideRun, by rw [link], by rw [link]⟩
end

section
/-! Proofs of the reception of flits (R358-R361, R363, R365, R376): the checks of a flit, what an acknowledgement, a discard and a delivery
leave on the port and in the links, and the statement FlitsAreTakenInSequenceAcknowledgedAndCredited. -/
namespace Sys2Proof.Machine

/-! ## The checks of a flit (R358-R360) -/

/-- A flit passes: its codewords, its length, its CRC and the fields of its kind. -/
def flitPasses (kind : Nat) (b : List Byte) (fecOk : Bool) : Bool :=
  fecOk && decide (b.length = 256) && fieldAt b 252 4 = crc32c (b.take 252) && flitFieldsOk kind b

/-- A port with the outcome of a flit's codewords counted. -/
def LinkPort.fecNoted (l : LinkPort) (fecOk : Bool) (corrected : Nat) : LinkPort :=
  { l with fecCorrected := l.fecCorrected + corrected, fecBad := l.fecBad + b2n (!fecOk) }

/-- A port with its replay buffer freed up to an ACK. -/
def LinkPort.acked (l : LinkPort) (ack : Nat) : LinkPort :=
  { l with replay := match l.replay.findIdx? fun r => fieldAt r.1 248 2 = ack with
      | some i => l.replay.drop (i + 1)
      | none => l.replay }

/-- The outcome of a flit's codewords is counted on the port and in the dictionary. -/
def State.fecCounted (s : State) (p : Nat) (fecOk : Bool) (corrected : Nat) : State :=
  ((s.setPort p ((s.port p).fecNoted fecOk corrected)).bumpBy PD.FEC_CORRECTED corrected).bumpBy PD.FEC_UNCORRECTABLE (b2n (!fecOk))

/-- A flit that fails counts on the port and in FLIT_CRC_ERR. -/
def State.flitFailed (s : State) (p : Nat) (fecOk : Bool) (corrected : Nat) : State :=
  ((s.fecCounted p fecOk corrected).setPort p { (s.port p).fecNoted fecOk corrected with crcErr := (s.port p).crcErr + 1 }).bump PD.FLIT_CRC_ERR

/-- What a flit that passes leaves: its codewords counted, its acknowledgement taken. -/
def State.flitAcked (s : State) (p : Nat) (fecOk : Bool) (corrected ack : Nat) : State :=
  (s.fecCounted p fecOk corrected).acknowledge p ack false

section
variable (s : State) (p : Nat) (fecOk : Bool) (corrected : Nat)

@[simp] theorem State.port_fecCounted : (s.fecCounted p fecOk corrected).port p = (s.port p).fecNoted fecOk corrected := State.port_setPort ..

theorem State.num_fecCounted {k : Nat} (hc : k ≠ PD.FEC_CORRECTED) (hu : k ≠ PD.FEC_UNCORRECTABLE) :
    (s.fecCounted p fecOk corrected).num k = s.num k := by
  unfold State.fecCounted
  rw [State.num_bumpBy_ne hu, State.num_bumpBy_ne hc, State.num_setPort]

theorem State.fecCounted_portsOnly : s.PortsOnly (s.fecCounted p fecOk corrected) := ⟨_, rfl⟩

@[simp] theorem State.port_flitFailed :
    (s.flitFailed p fecOk corrected).port p = { (s.port p).fecNoted fecOk corrected with crcErr := (s.port p).crcErr + 1 } := State.port_setPort ..

theorem State.num_flitFailed : (s.flitFailed p fecOk corrected).num PD.FLIT_CRC_ERR = (s.num PD.FLIT_CRC_ERR + 1) % 2 ^ 64 := by
  unfold State.flitFailed
  rw [State.num_bump, State.num_setPort, State.num_fecCounted _ _ _ _ (by decide) (by decide)]

theorem State.flitFailed_portsOnly : s.PortsOnly (s.flitFailed p fecOk corrected) := ⟨_, rfl⟩
end

section
variable {s : State} {p kind : Nat} {b : List Byte} {fecOk : Bool} {corrected : Nat}

theorem State.receive_passes (good : flitPasses kind b fecOk = true) :
    s.receive p kind b fecOk corrected = (true, s.fecCounted p fecOk corrected) := if_pos good

theorem State.receive_fails (bad : ¬flitPasses kind b fecOk = true) :
    s.receive p kind b fecOk corrected = (false, s.flitFailed p fecOk corrected) := by
  refine (if_neg bad).trans ?_
  simp only [State.port_bumpBy, State.port_setPort]
  rfl
end

/-! ## Acknowledgement (R361) -/

/-- Without waiting flits nothing is sent again. -/
theorem State.sendWaiting_of_none {s : State} {p : Nat} (h : (s.port p).waiting = []) : s.sendWaiting p = s.setPort p (s.port p) := by
  have same : { s.port p with waiting := [] } = s.port p := by rw [← h]
  unfold State.sendWaiting
  simp only [h]
  exact congrArg (s.setPort p) same

section
variable {s : State} {p ack : Nat} (idle : (s.port p).waiting = [])
include idle

/-- An ACK without NACK on a port where no flit waits frees the replay buffer and sends nothing. -/
theorem State.acknowledge_idle : s.acknowledge p ack false =
    if (s.port p).st = .active then (s.setPort p ((s.port p).acked ack)).setPort p ((s.port p).acked ack)
    else s.setPort p ((s.port p).acked ack) := by
  have idle' : ((s.setPort p ((s.port p).acked ack)).port p).waiting = [] := by rw [State.port_setPort]; exact idle
  have again := State.sendWaiting_of_none idle'
  rw [State.port_setPort] at again
  rw [← again]
  unfold State.acknowledge
  simp only [Bool.false_eq_true, false_and, if_false, State.port_setPort]
  rfl

theorem State.port_acknowledge : (s.acknowledge p ack false).port p = (s.port p).acked ack := by
  rw [State.acknowledge_idle idle]
  split <;> exact State.port_setPort ..

theorem State.num_acknowledge (k : Nat) : (s.acknowledge p ack false).num k = s.num k := by
  rw [State.acknowledge_idle idle]
  split <;> rfl

theorem State.acknowledge_portsOnly : s.PortsOnly (s.acknowledge p ack false) := by
  rw [State.acknowledge_idle idle]
  split <;> exact ⟨_, rfl⟩

theorem State.acknowledge_self : (s.acknowledge p ack false).self = s.self := by
  rw [State.acknowledge_idle idle]
  split <;> rfl
end

section
variable {s : State} {p ack corrected : Nat} {fecOk : Bool} (idle : (s.port p).waiting = [])
include idle

theorem State.port_flitAcked : (s.flitAcked p fecOk corrected ack).port p = ((s.port p).fecNoted fecOk corrected).acked ack := by
  rw [State.flitAcked, State.port_acknowledge (by rw [State.port_fecCounted]; exact idle), State.port_fecCounted]

theorem State.num_flitAcked {k : Nat} (hc : k ≠ PD.FEC_CORRECTED) (hu : k ≠ PD.FEC_UNCORRECTABLE) :
    (s.flitAcked p fecOk corrected ack).num k = s.num k := by
  rw [State.flitAcked, State.num_acknowledge (by rw [State.port_fecCounted]; exact idle), State.num_fecCounted _ _ _ _ hc hu]

theorem State.flitAcked_portsOnly : s.PortsOnly (s.flitAcked p fecOk corrected ack) :=
  (s.fecCounted_portsOnly p fecOk corrected).trans (State.acknowledge_portsOnly (by rw [State.port_fecCounted]; exact idle))

theorem State.flitAcked_self : (s.flitAcked p fecOk corrected ack).self = s.self := by
  rw [State.flitAcked, State.acknowledge_self (by rw [State.port_fecCounted]; exact idle)]
  unfold State.self
  rw [State.num_fecCounted _ _ _ _ (by decide) (by decide)]
  rfl
end

/-! ## Answers and discards (R361, R363) -/

section
variable (s : State) (p : Nat) (nack : Bool)

@[simp] theorem State.port_sendIdle :
    (s.sendIdle p nack).port p = { s.port p with owed := List.replicate 20 0, owedShared := 0 } := State.port_setPort ..

theorem State.sendIdle_portsOnly : s.PortsOnly (s.sendIdle p nack) := ⟨_, rfl⟩

/-- After a discard the port is in its NACK; the rest of what it received stays. -/
theorem State.port_discardFlit : ((s.discardFlit p).port p).nacked = true ∧ ((s.discardFlit p).port p).lastRx = (s.port p).lastRx
    ∧ ((s.discardFlit p).port p).crcErr = (s.port p).crcErr ∧ ((s.discardFlit p).port p).replay = (s.port p).replay := by
  unfold State.discardFlit
  dsimp only
  split
  · exact ⟨‹_›, rfl, rfl, rfl⟩
  · rw [State.port_sendIdle, State.port_setPort]
    exact ⟨rfl, rfl, rfl, rfl⟩

theorem State.num_discardFlit (k : Nat) : (s.discardFlit p).num k = s.num k := by
  unfold State.discardFlit
  dsimp only
  split <;> rfl

theorem State.discardFlit_portsOnly : s.PortsOnly (s.discardFlit p) := by
  unfold State.discardFlit
  dsimp only
  split
  · exact .refl s
  · exact (s.setPort_portsOnly p _).trans (State.sendIdle_portsOnly _ _ _)
end

theorem State.PortsOnly.inbox {s t : State} : s.PortsOnly t → t.link.inbox = s.link.inbox := by rintro ⟨_, h⟩; rw [h]
theorem State.PortsOnly.reasm {s t : State} : s.PortsOnly t → t.link.reasm = s.link.reasm := by rintro ⟨_, h⟩; rw [h]

/-! ## Delivery (R365) -/

/-- A message under reassembly is of this source, class and tag. -/
def Reasm.isOf (r : Reasm) (src : Addr) (cls tag : Nat) : Bool :=
  r.side.toNat = src.side && r.pallet.toNat = src.pallet && r.slot.toNat = src.slot && r.cls.toNat = cls && r.tag.toNat = tag

/-- The bytes of a message so far with a flit's payload: none when its earlier flits are not there. -/
def State.joined (s : State) (src : Addr) (cls tag : Nat) (first : Bool) (pay : List Byte) : Option (List Byte) :=
  if first then some pay else (s.link.reasm.find? fun r => r.isOf src cls tag).map fun r => r.bytes ++ pay

theorem State.PortsOnly.joined {s t : State} (h : s.PortsOnly t) (src : Addr) (cls tag : Nat) (first : Bool) (pay : List Byte) :
    t.joined src cls tag first pay = s.joined src cls tag first pay := by
  unfold State.joined
  rw [h.reasm]

section
variable {s : State} {src : Addr} {cls tag : Nat} {first last : Bool} {pay b : List Byte}

@[simp] theorem State.port_deliver (p : Nat) : (s.deliver src cls tag first last pay).port p = s.port p := by
  unfold State.deliver
  dsimp only
  split
  · rfl
  · split <;> rfl

theorem State.deliver_lost (h : s.joined src cls tag first pay = none) : s.deliver src cls tag first last pay = s := by
  unfold State.joined Reasm.isOf at h
  simp only [State.deliver, h]

theorem State.deliver_last (h : s.joined src cls tag first pay = some b) :
    (s.deliver src cls tag first true pay).link.inbox = s.link.inbox ++ [(cls, b)]
      ∧ (s.deliver src cls tag first true pay).link.reasm = s.link.reasm.filter fun r => !r.isOf src cls tag := by
  unfold State.joined Reasm.isOf at h
  simp only [State.deliver, h]
  exact ⟨rfl, rfl⟩

theorem State.deliver_waits (h : s.joined src cls tag first pay = some b) :
    (s.deliver src cls tag first false pay).link.inbox = s.link.inbox ∧ ∃ r : Reasm, r.bytes = b
      ∧ (s.deliver src cls tag first false pay).link.reasm = (s.link.reasm.filter fun r => !r.isOf src cls tag) ++ [r] := by
  unfold State.joined Reasm.isOf at h
  simp only [State.deliver, h]
  exact ⟨rfl, _, rfl, rfl⟩
end

/-- What a delivery leaves in the links after an operation on the ports, by what is there of the message and whether the flit ends it. -/
theorem State.PortsOnly.deliver {s t : State} (ports : s.PortsOnly t) (src : Addr) (cls tag : Nat) (first last : Bool) (pay : List Byte) :
    (s.joined src cls tag first pay = none → (t.deliver src cls tag first last pay).link.inbox = s.link.inbox
      ∧ (t.deliver src cls tag first last pay).link.reasm = s.link.reasm)
    ∧ (∀ b, s.joined src cls tag first pay = some b → last = true →
      (t.deliver src cls tag first last pay).link.inbox = s.link.inbox ++ [(cls, b)]
      ∧ (t.deliver src cls tag first last pay).link.reasm = s.link.reasm.filter fun r => !r.isOf src cls tag)
    ∧ ∀ b, s.joined src cls tag first pay = some b → last = false →
      (t.deliver src cls tag first last pay).link.inbox = s.link.inbox ∧ ∃ r : Reasm, r.bytes = b
        ∧ (t.deliver src cls tag first last pay).link.reasm = (s.link.reasm.filter fun r => !r.isOf src cls tag) ++ [r] := by
  rw [← ports.inbox, ← ports.reasm, ← ports.joined src cls tag first pay]
  refine ⟨fun lost => ?_, fun b msg ends => ?_, fun b msg waits => ?_⟩
  · rw [State.deliver_lost lost]
    exact ⟨rfl, rfl⟩
  · rw [ends]
    exact State.deliver_last msg
  · rw [waits]
    exact State.deliver_waits msg

/-! ## The commands -/

section
variable {s : State} {port : Port} {bytes : List Byte} {fecOk : Bool} {corrected : Nat} (up : s.lanesUp = true)
  (live : (s.port port.val).st.live = true)
include up live

theorem exec_dataFlit_fails (bad : ¬flitPasses 1 bytes fecOk = true) :
    exec (.dataFlit port bytes fecOk corrected) s = .next ((s.flitFailed port.val fecOk corrected).discardFlit port.val) := by
  refine (if_neg (by simp [up, live])).trans ?_
  rw [State.receive_fails bad]

theorem exec_idleFlit_fails (bad : ¬flitPasses 0 bytes fecOk = true) :
    exec (.idleFlit port bytes fecOk corrected) s = .next (s.flitFailed port.val fecOk corrected) := by
  refine (if_neg (by simp [up, live])).trans ?_
  rw [State.receive_fails bad]

theorem exec_identityFlit_fails (bad : ¬flitPasses 2 bytes fecOk = true) :
    exec (.identityFlit port bytes fecOk corrected) s = .next (s.flitFailed port.val fecOk corrected) := by
  refine (if_neg (by simp [up, live])).trans ?_
  rw [State.receive_fails bad]

theorem exec_idleFlit_passes (good : flitPasses 0 bytes fecOk = true) (plain : bit (fieldAt bytes 0 8) 59 = false) :
    exec (.idleFlit port bytes fecOk corrected) s = .next (((s.fecCounted port.val fecOk corrected).setPort port.val
      { (s.port port.val).fecNoted fecOk corrected with
        credits := (List.range 20).map fun i => ((s.port port.val).credits[i]?).getD 0 + fieldAt bytes (8 + 2 * i) 2
        shared := (s.port port.val).shared + fieldAt bytes 48 4 }).acknowledge port.val (fieldAt bytes 250 2) false) := by
  refine (if_neg (by simp [up, live])).trans ?_
  rw [State.receive_passes good]
  simp only [plain, State.port_fecCounted]
  rfl

theorem exec_identityFlit_passes (good : flitPasses 2 bytes fecOk = true) :
    exec (.identityFlit port bytes fecOk corrected) s =
      if idValid (BitVec.ofNat 1024 (fieldAt bytes 8 128)) ∧ ((s.flitAcked port.val fecOk corrected (fieldAt bytes 250 2)).port port.val).peer.isNone
        then .next ((s.flitAcked port.val fecOk corrected (fieldAt bytes 250 2)).identified port.val (BitVec.ofNat 1024 (fieldAt bytes 8 128)))
      else .next (s.flitAcked port.val fecOk corrected (fieldAt bytes 250 2)) := by
  refine (if_neg (by simp [up, live])).trans ?_
  rw [State.receive_passes good]
  rfl

section
variable (good : flitPasses 1 bytes fecOk = true) (plain : bit (fieldAt bytes 0 8) 59 = false) (idle : (s.port port.val).waiting = [])
include good plain idle

theorem exec_dataFlit_outOfSequence (off : BitVec.ofNat 16 (fieldAt bytes 248 2) ≠ (s.port port.val).lastRx + 1) :
    exec (.dataFlit port bytes fecOk corrected) s
      = .next ((s.flitAcked port.val fecOk corrected (fieldAt bytes 250 2)).discardFlit port.val) := by
  refine (if_neg (by simp [up, live])).trans ?_
  rw [State.receive_passes good]
  have acked : ((s.fecCounted port.val fecOk corrected).acknowledge port.val (fieldAt bytes 250 2) false).port port.val = _ :=
    State.port_flitAcked idle
  simp only [plain, acked]
  refine (if_neg ?_).trans (if_pos off)
  rw [show (((s.port port.val).fecNoted fecOk corrected).acked (fieldAt bytes 250 2)).st.live = true from live]
  decide

/-- The port after a DATA flit in sequence: no gap, the slot of its buffer owed as credit. -/
def LinkPort.accepted (l : LinkPort) (head : Nat) : LinkPort :=
  let i := creditIndex (bits head 4 3) (bits head 60 2)
  { l with lastRx := l.lastRx + 1, nacked := false, owed := l.owed.set i ((l.owed[i]?).getD 0 + 1) }

theorem exec_dataFlit_delivers (next : BitVec.ofNat 16 (fieldAt bytes 248 2) = (s.port port.val).lastRx + 1) (active : (s.port port.val).st = .active)
    (here : (⟨bits (fieldAt bytes 0 8) 29 1, bits (fieldAt bytes 0 8) 17 6, bits (fieldAt bytes 0 8) 23 6⟩ : Addr) = s.self) :
    exec (.dataFlit port bytes fecOk corrected) s =
      let h := fieldAt bytes 0 8
      .next ((((s.flitAcked port.val fecOk corrected (fieldAt bytes 250 2)).setPort port.val
        ((((s.port port.val).fecNoted fecOk corrected).acked (fieldAt bytes 250 2)).accepted h)).deliver
          ⟨bits h 42 1, bits h 30 6, bits h 36 6⟩ (bits h 4 3) (bits h 43 16) (bit h 7) (bit h 8) ((bytes.drop 8).take (bits h 9 8))).sendIdle
          port.val false) := by
  refine (if_neg (by simp [up, live])).trans ?_
  rw [State.receive_passes good]
  have acked : ((s.fecCounted port.val fecOk corrected).acknowledge port.val (fieldAt bytes 250 2) false).port port.val = _ :=
    State.port_flitAcked idle
  simp only [plain, acked]
  refine (if_neg ?_).trans ((if_neg (not_not.2 next)).trans ?_)
  · rw [show (((s.port port.val).fecNoted fecOk corrected).acked (fieldAt bytes 250 2)).st.live = true from live]
    decide
  · refine congrArg Host.Outcome.next (congrArg (fun t : State => t.sendIdle port.val false) ?_)
    refine (if_neg (not_not.2 active)).trans ((if_pos (here.trans (State.flitAcked_self idle).symm)).trans ?_)
    rw [next]
    rfl
end
end

/-- In a held discovery the peer is known and the port quiet. -/
theorem State.port_identified_held {s : State} {p : Nat} {l : LinkPort} (held : s.num PD.DISCOVERY_STATE = 3) (hl : s.port p = l) (f : BitVec 1024) :
    (s.identified p f).port p = { l with peer := some f, st := .quiet } := by
  unfold State.identified
  simp only [State.num_setPort, held, State.port_setPort, hl]

theorem exec_reassemblyTimeout_drops {s : State} {side : Bool} {pallet slot : BitVec 6} {cls : BitVec 3} {tag : W16} (up : s.lanesUp = true)
    (waits : s.link.reasm.any (fun r => r.side = side && r.pallet = pallet && r.slot = slot && r.cls = cls && r.tag = tag) = true) :
    exec (.reassemblyTimeout side pallet slot cls tag) s = .next (({ s with link := { s.link with
      reasm := s.link.reasm.filter fun r => !(r.side = side && r.pallet = pallet && r.slot = slot && r.cls = cls && r.tag = tag) } } : State).bump
        PD.MSG_REASSEMBLY_DROPS) := if_pos ⟨up, waits⟩

theorem exec_reassemblyTimeout_rests {s : State} {side : Bool} {pallet slot : BitVec 6} {cls : BitVec 3} {tag : W16}
    (none : s.link.reasm.any (fun r => r.side = side && r.pallet = pallet && r.slot = slot && r.cls = cls && r.tag = tag) = false) :
    exec (.reassemblyTimeout side pallet slot cls tag) s = .next s := if_neg fun h => by rw [none] at h; cases h.2

end Sys2Proof.Machine

open Sys2Proof Sys2Proof.Machine

/-- Settles O41: each kind of flit by whether it passes its checks, a DATA flit that passes by its SEQ, and a reassembly by whether its message
waits. -/
theorem flitsAreTakenInSequenceAcknowledgedAndCredited : Obligations.FlitsAreTakenInSequenceAcknowledgedAndCredited := by
  unfold Obligations.FlitsAreTakenInSequenceAcknowledgedAndCredited
  intro s w up
  refine ⟨?_, fun side pallet slot cls tag => ⟨fun waits => ⟨_, exec_reassemblyTimeout_drops up waits, State.num_bump, rfl⟩,
    exec_reassemblyTimeout_rests⟩⟩
  rintro port _ bytes fecOk corrected rfl live
  have fails := s.num_flitFailed port.val fecOk corrected
  refine ⟨fun bad => ?dataFails, fun bad => ⟨_, exec_idleFlit_fails up live bad, fails, State.port_flitFailed ..⟩,
    fun bad => ⟨_, exec_identityFlit_fails up live bad, fails, State.port_flitFailed ..⟩,
    fun good plain idle => ⟨fun off => ?dataOff, fun next active here => ?dataNext⟩, fun good plain idle => ?idle,
    fun good idle => ⟨fun known => ?identityStays, fun valid unknown held => ?identityKnown⟩⟩
  case dataFails =>
    obtain ⟨nacked, lastRx, crcErr, -⟩ := (s.flitFailed port.val fecOk corrected).port_discardFlit port.val
    rw [State.port_flitFailed] at lastRx crcErr
    exact ⟨_, exec_dataFlit_fails up live bad, (State.num_discardFlit ..).trans fails, crcErr, nacked, lastRx,
      ((s.flitFailed_portsOnly ..).trans (State.discardFlit_portsOnly _ _)).inbox⟩
  case dataOff =>
    obtain ⟨nacked, lastRx, -, replay⟩ := (s.flitAcked port.val fecOk corrected (fieldAt bytes 250 2)).port_discardFlit port.val
    rw [State.port_flitAcked idle] at lastRx replay
    exact ⟨_, exec_dataFlit_outOfSequence up live good plain idle off, replay, lastRx, nacked,
      ((State.flitAcked_portsOnly idle).trans (State.discardFlit_portsOnly _ _)).inbox⟩
  case dataNext =>
    refine ⟨_, exec_dataFlit_delivers up live good plain idle next active here, ?_⟩
    have ports : s.PortsOnly ((s.flitAcked port.val fecOk corrected (fieldAt bytes 250 2)).setPort port.val
        ((((s.port port.val).fecNoted fecOk corrected).acked (fieldAt bytes 250 2)).accepted (fieldAt bytes 0 8))) :=
      (State.flitAcked_portsOnly idle).trans (State.setPort_portsOnly _ _ _)
    simp only [State.port_sendIdle, State.port_deliver, State.port_setPort]
    let h := fieldAt bytes 0 8
    exact ⟨rfl, rfl, rfl, ports.deliver ⟨bits h 42 1, bits h 30 6, bits h 36 6⟩ (bits h 4 3) (bits h 43 16) (bit h 7) (bit h 8)
      ((bytes.drop 8).take (bits h 9 8))⟩
  case idle =>
    refine ⟨_, exec_idleFlit_passes up live good plain, ?_⟩
    rw [State.port_acknowledge (by rw [State.port_setPort]; exact idle), State.port_setPort]
    rfl
  case identityStays =>
    refine ⟨_, (exec_identityFlit_passes up live good).trans (if_neg ?_), State.port_flitAcked idle⟩
    rw [State.port_flitAcked idle]
    rintro ⟨valid, unknown⟩
    rcases known with invalid | known
    · rw [invalid] at valid; cases valid
    · rw [show (s.port port.val).peer = none from Option.isNone_iff_eq_none.1 unknown] at known; cases known
  case identityKnown =>
    have unmet : ((s.flitAcked port.val fecOk corrected (fieldAt bytes 250 2)).port port.val).peer.isNone = true := by
      rw [State.port_flitAcked idle]
      exact Option.isNone_iff_eq_none.2 unknown
    refine ⟨_, (exec_identityFlit_passes up live good).trans (if_pos ⟨valid, unmet⟩), ?_⟩
    exact State.port_identified_held ((State.num_flitAcked idle (by decide) (by decide)).trans held) (State.port_flitAcked idle) _
end

section
/-! Proofs of the endpoints' registers (R387, R388, R390, R391): what a message on a vector does, the writes to the interrupt registers and to
the MSI-X table, the offsets of BAR0, and the statement EndpointRegistersClearMaskAndSendInterrupts. -/
namespace Sys2Proof.Machine

/-! ## Endpoints -/

theorem Ep.other_ne (ep : Ep) : 1 - ep ≠ ep := by revert ep; decide

section
variable (s : State) (ep : Ep) (e : Endpoint)

@[simp] theorem State.ep_setEp_same : (s.setEp ep e).ep ep = e := s.ep_setEp ep e
@[simp] theorem State.ep_setEp_other : (s.setEp ep e).ep (1 - ep) = s.ep (1 - ep) := s.ep_setEp_ne ep _ e (Ep.other_ne ep)
@[simp] theorem State.ep_emit (o : Out) (i : Ep) : (s.emit o).ep i = s.ep i := rfl
@[simp] theorem State.ep_bump (k : Nat) (i : Ep) : (s.bump k).ep i = s.ep i := rfl
end

/-! ## Messages (R390) -/

section
variable {s : State} {ep : Ep} {v : Nat}

theorem State.sendVector_sends (runs : s.mode ≠ .frozen) (free : (s.ep ep).vectorMasked v = false) : s.sendVector ep v = s.emit (.msix ep v) := by
  unfold State.sendVector
  simp only [runs, free, if_false, Bool.false_eq_true]

theorem State.sendVector_pends (runs : s.mode ≠ .frozen) (masked : (s.ep ep).vectorMasked v = true) : s.sendVector ep v =
    s.setEp ep { s.ep ep with pending := if (s.ep ep).pending.contains v then (s.ep ep).pending else (s.ep ep).pending ++ [v] } := by
  unfold State.sendVector
  simp only [runs, masked, if_false, if_true]

/-- The message on a vector changes of its endpoint the pending bits alone. -/
theorem State.ep_sendVector (s : State) (ep : Ep) (v : Nat) : ∃ p, (s.sendVector ep v).ep ep = { s.ep ep with pending := p } := by
  unfold State.sendVector
  dsimp only
  split
  · exact ⟨_, rfl⟩
  · split
    · exact ⟨_, State.ep_setEp ..⟩
    · exact ⟨_, rfl⟩

theorem State.ep_sendVector_other (s : State) (ep : Ep) (v : Nat) : (s.sendVector ep v).ep (1 - ep) = s.ep (1 - ep) := by
  unfold State.sendVector
  dsimp only
  split
  · rfl
  · split
    · exact State.ep_setEp_other ..
    · rfl

/-- Messages on vectors: those leave whose vector is not masked; of the endpoint the pending bits alone may change. -/
theorem State.each_sendVector (ep : Ep) : ∀ (l : List Nat) (s : State), s.mode ≠ .frozen →
    (s.each l fun s k => s.sendVector ep k).outs = s.outs ++ (l.filter fun k => !(s.ep ep).vectorMasked k).map (Out.msix ep)
      ∧ (∃ p, (s.each l fun s k => s.sendVector ep k).ep ep = { s.ep ep with pending := p })
      ∧ (s.each l fun s k => s.sendVector ep k).ep (1 - ep) = s.ep (1 - ep)
  | [], s, _ => ⟨(List.append_nil _).symm, ⟨_, rfl⟩, rfl⟩
  | k :: l, s, runs => by
    obtain ⟨p, first⟩ := s.ep_sendVector ep k
    obtain ⟨outs, ⟨q, rest⟩, other⟩ := State.each_sendVector ep l (s.sendVector ep k) (by rw [State.sendVector_mode]; exact runs)
    have masks : ∀ j, ((s.sendVector ep k).ep ep).vectorMasked j = (s.ep ep).vectorMasked j := fun j => by rw [first]; rfl
    simp only [masks] at outs
    refine ⟨outs.trans ?_, ⟨q, rest.trans (by rw [first])⟩, other.trans (s.ep_sendVector_other ep k)⟩
    cases h : (s.ep ep).vectorMasked k with
    | false => rw [State.sendVector_sends runs h, List.filter_cons_of_pos (by rw [h]; rfl), List.map_cons]; exact List.append_assoc ..
    | true => rw [State.sendVector_pends runs h, List.filter_cons_of_neg (by rw [h]; decide), State.setEp_outs]
end

theorem State.not_frozen_of_hubRuns {s : State} (runs : s.mode.hubRuns = true) : s.mode ≠ .frozen := fun h => by rw [h] at runs; cases runs

theorem State.hubRuns_of_epOpen {s : State} {ep : Ep} (h : s.epOpen ep = true) : s.mode.hubRuns = true := (Bool.and_eq_true_iff.1 h).2

/-! ## Interrupt registers and the MSI-X table (R388, R390) -/

section
variable {s : State} {ep : Ep} (opened : s.epOpen ep = true)
include opened

theorem exec_irqStatusClear_open (v : W16) : exec (.irqStatusClear ep v) s = .next (s.clearIrq ep v) := if_pos opened
theorem exec_irqMaskWrite_open (v : W16) : exec (.irqMaskWrite ep v) s = .next (s.maskIrq ep v) := if_pos opened
theorem exec_mboxReqLen_open (v : W16) : exec (.mboxReqLen ep v) s = .next (s.mailStart ep v) := if_pos opened
theorem exec_msixTableWrite_open (vector : Fin 2048) (dword : Fin 4) (v : W32) :
    exec (.msixTableWrite ep vector dword v) s = .next (s.msixWrite ep vector.val dword.val v) := if_pos opened

/-- The causes that a mask sets free send, as far as their vectors are not masked in the table. -/
theorem State.maskIrq_frees (v : W16) : ((s.maskIrq ep v).ep ep).mask = v ∧ ((s.maskIrq ep v).ep ep).status = (s.ep ep).status
    ∧ (s.maskIrq ep v).ep (1 - ep) = s.ep (1 - ep)
    ∧ (s.maskIrq ep v).outs = s.outs ++ (((List.range 16).filter fun k => (s.ep ep).mask.getLsbD k && !v.getLsbD k && (s.ep ep).status.getLsbD k
        && (s.ep ep).msixOn).filter fun k => !(s.ep ep).vectorMasked k).map (Out.msix ep) := by
  obtain ⟨outs, ⟨p, own⟩, other⟩ := State.each_sendVector ep ((List.range 16).filter fun k => (s.ep ep).mask.getLsbD k && !v.getLsbD k
    && (s.ep ep).status.getLsbD k && (s.ep ep).msixOn) (s.setEp ep { s.ep ep with mask := v })
    (by rw [State.setEp_mode]; exact State.not_frozen_of_hubRuns (State.hubRuns_of_epOpen opened))
  rw [State.ep_setEp_same] at own outs
  rw [State.ep_setEp_other] at other
  rw [State.setEp_outs] at outs
  have own : (s.maskIrq ep v).ep ep = { s.ep ep with mask := v, pending := p } := own
  exact ⟨by rw [own], by rw [own], other, outs⟩
end

/-- An endpoint with a dword of its MSI-X table written. -/
def Endpoint.withDword (e : Endpoint) (vector dword : Nat) (v : W32) : Endpoint :=
  { e with msix := kvSet msixDefault e.msix (vector * 4 + dword) v }

section
variable {s : State} {ep : Ep} {vector dword : Nat} {v : W32}

/-- A pending vector that the write leaves unmasked sends. -/
theorem State.msixWrite_eq : s.msixWrite ep vector dword v =
    if (s.ep ep).pending.contains vector = true ∧ (!((s.ep ep).withDword vector dword v).vectorMasked vector) = true ∧ (s.ep ep).msixOn = true then
      (s.setEp ep { (s.ep ep).withDword vector dword v with pending := (s.ep ep).pending.filter fun p => p ≠ vector }).emit (.msix ep vector)
    else s.setEp ep ((s.ep ep).withDword vector dword v) := rfl

theorem State.msixWrite_sends (pending : (s.ep ep).pending.contains vector = true) (free : ((s.ep ep).withDword vector dword v).vectorMasked vector = false)
    (on : (s.ep ep).msixOn = true) : s.msixWrite ep vector dword v = (s.setEp ep { (s.ep ep).withDword vector dword v with
      pending := (s.ep ep).pending.filter fun p => p ≠ vector }).emit (.msix ep vector) :=
  State.msixWrite_eq.trans (if_pos ⟨pending, by rw [free]; rfl, on⟩)

theorem State.msixWrite_rests (h : (s.ep ep).pending.contains vector = false ∨ (s.ep ep).msixOn = false
    ∨ ((s.ep ep).withDword vector dword v).vectorMasked vector = true) :
    s.msixWrite ep vector dword v = s.setEp ep ((s.ep ep).withDword vector dword v) := by
  refine State.msixWrite_eq.trans (if_neg ?_)
  rintro ⟨pending, free, on⟩
  rcases h with h | h | h
  · exact absurd pending (ne_true_of_eq_false h)
  · exact absurd on (ne_true_of_eq_false h)
  · rw [h] at free; cases free

/-- Of its endpoint the write changes the dword, and the pending bit of the vector at most. -/
theorem State.ep_msixWrite : ∃ p, (s.msixWrite ep vector dword v).ep ep = { (s.ep ep).withDword vector dword v with pending := p } := by
  rw [State.msixWrite_eq]
  split
  · exact ⟨_, State.ep_setEp ..⟩
  · exact ⟨_, State.ep_setEp ..⟩

theorem State.ep_msixWrite_other : (s.msixWrite ep vector dword v).ep (1 - ep) = s.ep (1 - ep) := by
  rw [State.msixWrite_eq]
  split
  · exact State.ep_setEp_other ..
  · exact State.ep_setEp_other ..
end

/-! ## BAR0 (R387, R388, R396) -/

theorem BitVec.ofNat_mod_two_pow {w n : Nat} (m : Nat) (h : w ≤ n) : BitVec.ofNat w (m % 2 ^ n) = BitVec.ofNat w m :=
  BitVec.eq_of_toNat_eq (by simp only [BitVec.toNat_ofNat]; exact Nat.mod_mod_of_dvd _ (pow_dvd_pow 2 h))

/-- A write of 32 bits to the low half of a control word touches all of its low 16 bits. -/
theorem ctrlPart_low (v : W64) : ctrlPart 0 4 v = (BitVec.ofNat 16 (2 ^ 32 - 1), BitVec.ofNat 16 v.toNat) := by
  unfold ctrlPart
  simp only [Nat.mul_zero, Nat.pow_zero, Nat.mul_one]
  rw [BitVec.ofNat_mod_two_pow _ (by decide)]

section
variable {s : State} {ep : Ep} (opened : s.epOpen ep = true)
include opened

theorem exec_bar0Write_stores {offset size : Nat} {v : W64} (near : offset < 2 ^ 24) (apart : offset < 0x100000 ∨ 0x101000 ≤ offset)
    (mapped : bar0Mapped (s.mode = .boot || s.mode = .loader) offset = true) (hs : size = 4 ∨ size = 8) (aligned : offset % size = 0) :
    exec (.bar0Write ep offset size v) s = .next (s.bar0Store ep offset size v) := by
  refine (if_neg ?_).trans ((if_neg (by omega)).trans (if_pos ⟨mapped, hs, aligned⟩))
  rw [opened]
  simpa using near

theorem exec_bar0Write_discards {offset size : Nat} {v : W64} (near : offset < 2 ^ 24) (apart : offset < 0x100000 ∨ 0x101000 ≤ offset)
    (h : bar0Mapped (s.mode = .boot || s.mode = .loader) offset = false ∨ (size ≠ 4 ∧ size ≠ 8) ∨ offset % size ≠ 0) :
    exec (.bar0Write ep offset size v) s = .next (s.bump PD.BAR0_DISCARDED) := by
  refine (if_neg ?_).trans ((if_neg (by omega)).trans (if_neg ?_))
  · rw [opened]
    simpa using near
  · rintro ⟨mapped, hs, aligned⟩
    rcases h with h | h | h
    · rw [mapped] at h; cases h
    · omega
    · exact h aligned

theorem exec_bar0Write_doorbell {a size : Nat} {v : W64} (ha : a < 0x1000) :
    exec (.bar0Write ep (0x100000 + a) size v) s = exec (.doorbell ep a size v) s := by
  refine (if_neg ?_).trans ((if_pos (by omega)).trans ?_)
  · rw [opened]
    simp only [Bool.not_true, Bool.false_eq_true, false_or]
    omega
  · rw [Nat.add_sub_cancel_left]
    rfl

/-- A write of 32 bits to the low half of a word of the control page. -/
theorem exec_bar0Write_ctrl {w : Nat} {v : W64} (hw : w < 8) :
    exec (.bar0Write ep (8 * w) 4 v) s = .next (s.ctrlWrite ep (8 * w) 4 v) := by
  have mapped : ∀ early, bar0Mapped early (8 * w) = true := fun early => by
    unfold bar0Mapped; rw [decide_eq_true (by omega : 8 * w < 0x9100)]; rfl
  rw [exec_bar0Write_stores opened (by omega) (.inl (by omega)) (mapped _) (.inl rfl) (by omega)]
  exact congrArg Host.Outcome.next (if_pos (by omega))

theorem exec_bar0Write_statusClear (v : W64) : exec (.bar0Write ep 16 4 v) s = exec (.irqStatusClear ep (BitVec.ofNat 16 v.toNat)) s := by
  rw [exec_irqStatusClear_open opened, exec_bar0Write_ctrl (w := 2) opened (by decide)]
  unfold State.ctrlWrite
  rw [ctrlPart_low]
  rfl

theorem exec_bar0Write_mask (v : W64) : exec (.bar0Write ep 24 4 v) s = exec (.irqMaskWrite ep (BitVec.ofNat 16 v.toNat)) s := by
  rw [exec_irqMaskWrite_open opened, exec_bar0Write_ctrl (w := 3) opened (by decide)]
  unfold State.ctrlWrite
  rw [ctrlPart_low]
  rfl

theorem exec_bar0Write_reqLen (v : W64) : exec (.bar0Write ep 32 4 v) s = exec (.mboxReqLen ep (BitVec.ofNat 16 v.toNat)) s := by
  rw [exec_mboxReqLen_open opened, exec_bar0Write_ctrl (w := 4) opened (by decide)]
  unfold State.ctrlWrite
  rw [ctrlPart_low]
  rfl

theorem exec_bar0Write_msix (vector : Fin 2048) (dword : Fin 4) (v : W64) : exec (.bar0Write ep (0x1000 + 16 * vector.val + 4 * dword.val) 4 v) s
    = exec (.msixTableWrite ep vector dword (BitVec.ofNat 32 v.toNat)) s := by
  obtain ⟨n, hn⟩ := vector
  obtain ⟨d, hd⟩ := dword
  have mapped : ∀ early, bar0Mapped early (0x1000 + 16 * n + 4 * d) = true := fun early => by
    unfold bar0Mapped; rw [decide_eq_true (by omega : 0x1000 + 16 * n + 4 * d < 0x9100)]; rfl
  rw [exec_msixTableWrite_open opened, exec_bar0Write_stores opened (by omega) (.inl (by omega)) (mapped _) (.inl rfl)
    (by omega)]
  refine congrArg Host.Outcome.next ((if_neg (by omega)).trans ((if_pos (by omega)).trans ?_))
  have word : (0x1000 + 16 * n + 4 * d - 0x1000) / 16 = n := by omega
  have part : (0x1000 + 16 * n + 4 * d - 0x1000) % 16 / 4 = d := by omega
  simp only [word, part]
  rfl

theorem exec_bar0Write_request {offset size : Nat} (v : W64) (hs : size = 4 ∨ size = 8) (aligned : offset % size = 0) (low : 0x10000 ≤ offset)
    (high : offset < 0x18000) : exec (.bar0Write ep offset size v) s = .next (s.setEp ep { s.ep ep with
      request := kvSetList (fun _ => 0) (s.ep ep).request (offset - 0x10000) (le size v.toNat) }) := by
  have mapped : ∀ early, bar0Mapped early offset = true := fun early => by
    unfold bar0Mapped; rw [decide_eq_true (by omega : 0x10000 ≤ offset ∧ offset < 0x20000), Bool.or_true]; rfl
  rw [exec_bar0Write_stores opened (by omega) (.inl (by omega)) (mapped _) hs aligned]
  exact congrArg Host.Outcome.next ((if_neg (by omega)).trans ((if_neg (by omega)).trans (if_pos ⟨low, high⟩)))
end

/-! ## The end of a merge interval (R391) -/

section
variable {s : State} {ep : Ep} {vector : Nat} (runs : s.mode.hubRuns = true) (merging : (s.ep ep).merging.contains vector = true)
include runs merging

theorem exec_coalesceIntervalEnd_sends (merged : (s.ep ep).merged.contains vector = true) (up : (s.ep ep).linkUp = true)
    (on : (s.ep ep).msixOn = true) : exec (.coalesceIntervalEnd ep vector) s = .next ((s.setEp ep { s.ep ep with
      merged := (s.ep ep).merged.filter fun v => v ≠ vector }).sendVector ep vector) := by
  refine (if_neg ?_).trans ((if_pos merged).trans (if_pos ⟨up, on⟩))
  rw [runs, merging]
  decide

theorem exec_coalesceIntervalEnd_ends (none : (s.ep ep).merged.contains vector = false) : exec (.coalesceIntervalEnd ep vector) s
    = .next (s.setEp ep { s.ep ep with merging := (s.ep ep).merging.filter fun v => v ≠ vector }) := by
  refine (if_neg ?_).trans (if_neg (ne_true_of_eq_false none))
  rw [runs, merging]
  decide
end

end Sys2Proof.Machine

open Sys2Proof Sys2Proof.Machine

/-- Settles O42: each register by its write, a dword of the table by whether it frees a pending vector, BAR0 by the offset, and the end of an
interval by whether a completion has merged. -/
theorem endpointRegistersClearMaskAndSendInterrupts : Obligations.EndpointRegistersClearMaskAndSendInterrupts := by
  unfold Obligations.EndpointRegistersClearMaskAndSendInterrupts
  rintro s ep _ rfl
  refine ⟨fun opened => ⟨fun v => ⟨_, exec_irqStatusClear_open opened v, State.ep_setEp .., State.ep_setEp_other .., State.setEp_outs ..⟩,
    fun v => ⟨_, exec_irqMaskWrite_open opened v, State.maskIrq_frees opened v⟩, fun vector dword v => ?table,
    fun v => ⟨exec_bar0Write_statusClear opened v, exec_bar0Write_mask opened v, exec_bar0Write_reqLen opened v⟩, exec_bar0Write_msix opened,
    fun a size v => exec_bar0Write_doorbell opened, fun offset size v hs aligned low high =>
      ⟨_, exec_bar0Write_request opened v hs aligned low high, State.ep_setEp ..⟩,
    fun offset size v near apart => exec_bar0Write_discards opened near apart⟩,
    fun vector runs merging => ⟨fun merged up on free => ?sent, fun none =>
      ⟨_, exec_coalesceIntervalEnd_ends runs merging none, State.setEp_outs .., State.ep_setEp ..⟩⟩⟩
  case table =>
    obtain ⟨p, own⟩ := State.ep_msixWrite (s := s) (ep := ep) (vector := vector.val) (dword := dword.val) (v := v)
    have mask : ((s.msixWrite ep vector.val dword.val v).ep ep).vectorMasked vector.val
        = ((s.ep ep).withDword vector.val dword.val v).vectorMasked vector.val := by rw [own]; rfl
    refine ⟨_, exec_msixTableWrite_open opened vector dword v, by rw [own]; exact kvGet_set_same .., State.ep_msixWrite_other,
      fun k ne => by rw [own]; exact kvGet_set_ne _ _ _ _ ne _, fun pending on free => ?_, fun h => ?_⟩
    · rw [State.msixWrite_sends pending (mask.symm.trans free) on]
      exact ⟨congrArg (· ++ _) (State.setEp_outs ..), by rw [State.ep_emit, State.ep_setEp]⟩
    · rw [State.msixWrite_rests (by rw [← mask]; exact h), State.setEp_outs, State.ep_setEp]
      exact ⟨rfl, rfl⟩
  case sent =>
    refine ⟨_, exec_coalesceIntervalEnd_sends runs merging merged up on, ?_⟩
    rw [State.sendVector_sends (by rw [State.setEp_mode]; exact State.not_frozen_of_hubRuns runs) (by rw [State.ep_setEp]; exact free)]
    exact ⟨congrArg (· ++ _) (State.setEp_outs ..), State.ep_setEp ..⟩
end

section
/-! Proofs of the mailbox and of the resets of one endpoint (R393, R396, R397): what a cause does to an endpoint, the start and the response of
a request, PERST and function-level reset, and the statement MailboxesQueueAndEndpointResetsTouchOneEndpoint. -/
namespace Sys2Proof.Machine

/-! ## A cause on an endpoint (R389, R390) -/

/-- Of its endpoint a cause changes status and pending bits alone, and with the link up its status bit is set. -/
theorem State.ep_causeAt (s : State) (i : Ep) {k : Nat} (hk : k < 16) : ∃ st p, (s.causeAt i k).ep i = { s.ep i with status := st, pending := p }
    ∧ ((s.ep i).linkUp = true → st.getLsbD k = true) := by
  have bit_set : ((s.ep i).status ||| (1#16 <<< k)).getLsbD k = true := by simp [hk]
  unfold State.causeAt
  dsimp only
  split
  case isFalse down => exact ⟨_, _, rfl, fun up => absurd up down⟩
  case isTrue =>
    split
    case isTrue set => exact ⟨_, _, rfl, fun _ => set⟩
    case isFalse =>
      split
      · obtain ⟨p, own⟩ := (s.setEp i { s.ep i with status := (s.ep i).status ||| (1#16 <<< k) }).ep_sendVector i k
        exact ⟨_, p, own.trans (by rw [State.ep_setEp]), fun _ => bit_set⟩
      · exact ⟨_, _, State.ep_setEp .., fun _ => bit_set⟩

theorem State.ep_causeAt_other (s : State) (i : Ep) (k : Nat) : (s.causeAt i k).ep (1 - i) = s.ep (1 - i) := by
  unfold State.causeAt
  dsimp only
  split
  · split
    · rfl
    · split
      · rw [State.ep_sendVector_other, State.ep_setEp_other]
      · rw [State.ep_setEp_other]
  · rfl

theorem State.ep_cause (s : State) (i : Ep) {k : Nat} (hk : k < 16) : ∃ st p, (s.cause k).ep i = { s.ep i with status := st, pending := p }
    ∧ ((s.ep i).linkUp = true → st.getLsbD k = true) := by
  unfold State.cause
  rcases (by revert i; decide : i = 0 ∨ i = 1) with rfl | rfl
  · rw [show (0 : Ep) = 1 - 1 from rfl, State.ep_causeAt_other]
    exact s.ep_causeAt 0 hk
  · have first : (s.causeAt 0 k).ep 1 = s.ep 1 := s.ep_causeAt_other 0 k
    rw [← first]
    exact (s.causeAt 0 k).ep_causeAt 1 hk

/-! ## Requests and responses (R393) -/

section
variable {s : State} {ep : Ep} {v : W16}

theorem State.mailStart_dropped (h : (s.ep ep).mbox = 1 ∨ v.toNat = 0 ∨ 32768 < v.toNat) : s.mailStart ep v = s.bump PD.MBOX_DROPPED := if_pos h

theorem State.mailStart_queued (idle : (s.ep ep).mbox ≠ 1) (some_ : v.toNat ≠ 0) (fits : v.toNat ≤ 32768) : s.mailStart ep v =
    let t := s.setEp ep { s.ep ep with reqLen := v, mbox := 1 }
    { t with dict := { t.dict with queue := t.dict.queue ++ [⟨ep, kvGetList (fun _ => 0) (s.ep ep).request 0 v.toNat, false⟩] } } :=
  if_neg (by omega)

/-- The response is in the mailbox, with its cause. -/
def State.mailAnswered (s : State) (ep : Ep) (a : Ep × List Byte) : State :=
  (({ s with dict := { s.dict with answers := s.dict.answers.erase a } } : State).setEp ep
    { s.ep ep with response := a.2, rspLen := BitVec.ofNat 16 a.2.length, mbox := 2 }).cause irqMailbox

theorem State.freezeWhenSent_of_none {s : State} (h : s.dict.freezeAfter = false) : s.freezeWhenSent = s :=
  if_neg (by rw [h]; exact Bool.false_ne_true)

@[simp] theorem State.mailAnswered_dict (s : State) (ep : Ep) (a : Ep × List Byte) :
    (s.mailAnswered ep a).dict = { s.dict with answers := s.dict.answers.erase a } := by
  unfold State.mailAnswered
  rw [State.cause_dict, State.setEp_dict]

theorem exec_mailboxResponse_answers {a : Ep × List Byte} (up : s.pdxUp = true) (ready : s.dict.answers.find? (fun a => a.1 = ep) = some a)
    (plain : s.dict.freezeAfter = false) : exec (.mailboxResponse ep) s = .next (s.mailAnswered ep a) := by
  have any : s.dict.answers.any (fun a => a.1 = ep) = true :=
    List.any_eq_true.2 ⟨a, List.mem_of_find?_eq_some ready, by simpa using List.find?_some ready⟩
  refine (if_neg (by rw [up]; decide)).trans ?_
  simp only [any, if_true, ready]
  have unfrozen : (s.mailAnswered ep a).dict.freezeAfter = false := (congrArg Dictionary.freezeAfter (s.mailAnswered_dict ep a)).trans plain
  exact congrArg Host.Outcome.next (State.freezeWhenSent_of_none unfrozen)

theorem exec_mailboxResponse_rests (up : s.pdxUp = true) (none : s.dict.answers.any (fun a => a.1 = ep) = false) (empty : s.dict.queue = []) :
    exec (.mailboxResponse ep) s = .next s := by
  have stray : s.serveStray = s := by unfold State.serveStray; rw [empty]
  have absent : s.dict.answers.find? (fun a => a.1 = ep) = .none := by
    rw [List.find?_eq_none]
    exact fun a ha => List.any_eq_false.1 none a ha
  refine (if_neg (by rw [up]; decide)).trans ?_
  simp only [none, Bool.false_eq_true, if_false, stray, absent]
end

/-! ## Resets of one endpoint (R397) -/

/-- An endpoint's registers after its reset. -/
def Endpoint.afterReset (e : Endpoint) (link perstN : Bool) : Endpoint :=
  { linkUp := link, ready := link, perstN := perstN, perstEvents := e.perstEvents, flrEvents := e.flrEvents }

section
variable {s : State} {ep : Ep}

theorem State.resetEp_outcome (s : State) (ep : Ep) (link perstN : Bool) : (s.resetEp ep link perstN).ep ep = (s.ep ep).afterReset link perstN
    ∧ (s.resetEp ep link perstN).ep (1 - ep) = s.ep (1 - ep) ∧ (s.resetEp ep link perstN).mode = s.mode
    ∧ (s.resetEp ep link perstN).dict.queue = s.dict.queue.map (fun q => if q.ep = ep then { q with dead := true } else q)
    ∧ (s.resetEp ep link perstN).dict.answers = s.dict.answers.filter fun a => a.1 ≠ ep := by
  have own : (s.resetEp ep link perstN).ep ep = (s.setEp ep ((s.ep ep).afterReset link perstN)).ep ep := rfl
  have other : (s.resetEp ep link perstN).ep (1 - ep) = (s.setEp ep ((s.ep ep).afterReset link perstN)).ep (1 - ep) := rfl
  rw [own, other, State.ep_setEp, State.ep_setEp_other]
  unfold State.resetEp
  dsimp only
  rw [State.setEp_dict]
  exact ⟨rfl, rfl, State.setEp_mode .., rfl, rfl⟩

theorem exec_perst_falls (high : (s.ep ep).perstN = true) : exec (.perst ep false) s = .next ((s.setEp ep { s.ep ep with
    perstEvents := ((s.ep ep).perstEvents + 1) % 2 ^ 64 }).resetEp ep false false) :=
  (if_neg (by rw [high]; decide)).trans (if_neg (by decide))

theorem exec_perst_rises (low : (s.ep ep).perstN = false) : exec (.perst ep true) s = .next (s.setEp ep { s.ep ep with
    perstN := true, linkUp := s.linkTrains, ready := s.linkTrains }) :=
  (if_neg (by rw [low]; decide)).trans (if_pos rfl)

theorem exec_perst_same : exec (.perst ep (s.ep ep).perstN) s = .next s := if_pos rfl

theorem exec_functionLevelReset_open (opened : s.epOpen ep = true) : exec (.functionLevelReset ep) s = .next ((s.setEp ep { s.ep ep with
    flrEvents := ((s.ep ep).flrEvents + 1) % 2 ^ 64 }).resetEp ep true (s.ep ep).perstN) := if_pos opened
end

end Sys2Proof.Machine

open Sys2Proof Sys2Proof.Machine

/-- Settles O43: a request by the mailbox's state and its length, a response by whether one is there, and each reset by what it leaves of the
two endpoints and of the requests under way. -/
theorem mailboxesQueueAndEndpointResetsTouchOneEndpoint : Obligations.MailboxesQueueAndEndpointResetsTouchOneEndpoint := by
  unfold Obligations.MailboxesQueueAndEndpointResetsTouchOneEndpoint
  rintro s ep _ w rfl
  refine ⟨fun v opened => ⟨fun h => ?dropped, fun idle some_ fits => ?queued⟩, fun up => ⟨fun a ready plain => ?answered,
    exec_mailboxResponse_rests up⟩, fun high => ⟨_, exec_perst_falls high, ?fallen⟩, fun low => ⟨_, exec_perst_rises low, State.ep_setEp ..,
    State.ep_setEp_other ..⟩, exec_perst_same, fun opened => ⟨_, exec_functionLevelReset_open opened, ?reset⟩⟩
  case dropped =>
    rw [exec_mboxReqLen_open opened, State.mailStart_dropped h]
    exact ⟨_, rfl, State.num_bump, rfl, rfl⟩
  case queued =>
    rw [exec_mboxReqLen_open opened, State.mailStart_queued idle some_ fits]
    refine ⟨_, rfl, State.ep_setEp .., State.ep_setEp_other .., ?_⟩
    simp only [State.setEp_dict]
  case answered =>
    obtain ⟨st, p, own, set⟩ := State.ep_cause ((({ s with dict := { s.dict with answers := s.dict.answers.erase a } } : State).setEp ep
      { s.ep ep with response := a.2, rspLen := BitVec.ofNat 16 a.2.length, mbox := 2 })) ep (k := irqMailbox) (by decide)
    rw [State.ep_setEp] at own set
    have own : (s.mailAnswered ep a).ep ep = _ := own
    exact ⟨_, exec_mailboxResponse_answers up ready plain, by rw [own], by rw [own], by rw [own], fun link => by rw [own]; exact set link,
      State.mailAnswered_dict ..⟩
  case fallen =>
    obtain ⟨own, other, mode, queue, answers⟩ := State.resetEp_outcome (s.setEp ep { s.ep ep with
      perstEvents := ((s.ep ep).perstEvents + 1) % 2 ^ 64 }) ep false false
    rw [State.ep_setEp] at own
    rw [State.ep_setEp_other] at other
    rw [State.setEp_dict] at queue answers
    exact ⟨own, other, mode.trans (State.setEp_mode ..), queue, answers⟩
  case reset =>
    obtain ⟨own, other, mode, queue, answers⟩ := State.resetEp_outcome (s.setEp ep { s.ep ep with
      flrEvents := ((s.ep ep).flrEvents + 1) % 2 ^ 64 }) ep true (s.ep ep).perstN
    rw [State.ep_setEp] at own
    rw [State.ep_setEp_other] at other
    rw [State.setEp_dict] at queue answers
    exact ⟨own, other, mode.trans (State.setEp_mode ..), queue, answers⟩
end

section
/-! Proofs of PDX requests (R405, R416-R421, R424, R540): what taking a request, responding and answering leave, the outcomes of a local and of
a forwarded request, and the statement PdxReadsAreAnsweredAndRequestsForOthersGoOn. -/
namespace Sys2Proof.Machine

/-! ## Taking a request (R393, R416) -/

/-- A request taken: the front of a mailbox's queue, or a message of the inbox, is gone; nothing else has changed. -/
structure Taken (s T : State) (path : Path) : Prop where
  pd : T.pd = s.pd
  outs : T.outs = s.outs
  dict : ∃ q, T.dict = { s.dict with queue := q }
  sgmii : path = .sgmii → T = s

theorem State.takeRequest_taken {s T : State} {path : Path} {frame : List Byte} {dead : Bool} (h : s.takeRequest path frame = some (dead, T)) :
    Taken s T path := by
  cases path with
  | sgmii => cases h; exact ⟨rfl, rfl, ⟨_, rfl⟩, fun _ => rfl⟩
  | kenlink side pallet slot => cases h; exact ⟨rfl, rfl, ⟨_, rfl⟩, nofun⟩
  | mailbox ep =>
    simp only [State.takeRequest] at h
    split at h
    · split at h
      · cases h; exact ⟨rfl, rfl, ⟨_, rfl⟩, nofun⟩
      · cases h
    · cases h

section
variable {s T : State} {path : Path} (taken : Taken s T path)
include taken

theorem Taken.num (k : Nat) : T.num k = s.num k := State.num_of_pd taken.pd k
theorem Taken.dictOk : T.dictOk = s.dictOk := by unfold State.dictOk; rw [taken.pd]
theorem Taken.freezeAfter : T.dict.freezeAfter = s.dict.freezeAfter := by obtain ⟨q, h⟩ := taken.dict; rw [h]
theorem Taken.answers : T.dict.answers = s.dict.answers := by obtain ⟨q, h⟩ := taken.dict; rw [h]
theorem Taken.forwards : T.dict.forwards = s.dict.forwards := by obtain ⟨q, h⟩ := taken.dict; rw [h]
theorem Taken.sessions : T.dict.sessions = s.dict.sessions := by obtain ⟨q, h⟩ := taken.dict; rw [h]
end

/-! ## Responding (R416, R419) -/

section
variable (s : State) (path : Path) (dead : Bool) (b : List Byte)

theorem State.run_send (cls : Nat) (dst : Addr) : Run 35253091565568 [PD.FLITS_NO_ROUTE] s (s.send cls dst b) :=
  send_run rfl (fun _ => id) (Run.refl _ _ s)

@[simp] theorem State.send_dict (cls : Nat) (dst : Addr) : (s.send cls dst b).dict = s.dict := (s.run_send b cls dst).part .dict rfl

theorem State.run_respond : Run 35802847379456 [PD.FLITS_NO_ROUTE] s (s.respond path dead b) := respond_run rfl (fun _ => id) (Run.refl _ _ s)

theorem State.num_respond {s : State} (w : s.dictOk = true) {k : Nat} (ne : k ≠ PD.FLITS_NO_ROUTE) : (s.respond path dead b).num k = s.num k :=
  (s.run_respond path dead b).num_eq w rfl fun h => ne (List.mem_singleton.1 h)

/-- Of the dictionary engine a response changes the answers that wait alone. -/
theorem State.respond_dict : ∃ a, (s.respond path dead b).dict = { s.dict with answers := a } := by
  cases path with
  | sgmii => exact ⟨_, rfl⟩
  | kenlink side pallet slot => exact ⟨_, s.send_dict ..⟩
  | mailbox ep => cases dead <;> exact ⟨_, rfl⟩

theorem State.respond_mailbox (ep : Ep) : (s.respond (.mailbox ep) dead b).outs = s.outs
    ∧ (s.respond (.mailbox ep) dead b).dict.answers = if dead then s.dict.answers else s.dict.answers ++ [(ep, b)] := by
  cases dead <;> exact ⟨rfl, rfl⟩
end

/-! ## Answering (R417, R489) -/

/-- What an answer leaves when no freeze waits for it: counted, gone by its path, nothing else changed. -/
structure Answered (Z u : State) (path : Path) (dead : Bool) (frame : List Byte) : Prop where
  frames : u.num PD.PDX_FRAMES = (Z.num PD.PDX_FRAMES + 1) % 2 ^ 64
  sgmii : path = .sgmii → u.outs = Z.outs ++ [.pdx .sgmii frame] ∧ u.dict = Z.dict
  mailbox : ∀ ep, path = .mailbox ep → u.outs = Z.outs ∧ u.dict.answers = if dead then Z.dict.answers else Z.dict.answers ++ [(ep, frame)]
  num : ∀ k, k ≠ PD.PDX_FRAMES → k ≠ PD.PDX_BAD_FRAMES → k ≠ PD.FLITS_NO_ROUTE → u.num k = Z.num k
  dict : ∃ a, u.dict = { Z.dict with answers := a }

/-- A response counted in PDX_FRAMES. -/
theorem State.respond_answered {Z : State} (w : Z.dictOk = true) (path : Path) (dead : Bool) (frame : List Byte) :
    Answered Z ((Z.bump PD.PDX_FRAMES).respond path dead frame) path dead frame where
  frames := (State.num_respond _ _ _ (State.dictOk_bump w) (by decide)).trans State.num_bump
  sgmii h := by subst h; exact ⟨rfl, rfl⟩
  mailbox ep h := by subst h; exact State.respond_mailbox ..
  num k hf _ hr := (State.num_respond _ _ _ (State.dictOk_bump w) hr).trans (State.num_bump_ne hf)
  dict := State.respond_dict ..

theorem State.answer_answered {Z : State} (w : Z.dictOk = true) (plain : Z.dict.freezeAfter = false) (path : Path) (dead : Bool) (op : Nat)
    (r : PdxReq) (x : Reply) (y : Option Session) : Answered Z (Z.answer path dead op r x y) path dead (rspFrame op r x y) := by
  have unfrozen : ∀ t : State, t.dict.freezeAfter = false → ((t.bump PD.PDX_FRAMES).respond path dead (rspFrame op r x y)).freezeWhenSent
      = (t.bump PD.PDX_FRAMES).respond path dead (rspFrame op r x y) := fun t h => by
    obtain ⟨a, e⟩ := (t.bump PD.PDX_FRAMES).respond_dict path dead (rspFrame op r x y)
    exact State.freezeWhenSent_of_none (by rw [e]; exact h)
  unfold State.answer
  dsimp only
  split
  · rw [unfrozen (Z.bump PD.PDX_BAD_FRAMES) plain]
    obtain ⟨frames, sgmii, mailbox, num, dict⟩ := (State.respond_answered (State.dictOk_bump w) path dead (rspFrame op r x y) :
      Answered (Z.bump PD.PDX_BAD_FRAMES) _ _ _ _)
    exact ⟨by rw [frames, State.num_bump_ne (by decide)], sgmii, mailbox, fun k hf hb hr => (num k hf hb hr).trans (State.num_bump_ne hb), dict⟩
  · rw [unfrozen Z plain]
    exact State.respond_answered w path dead _

/-- From `s` a request ends in the state `u` with its answer: counted, gone by its path, no value changed but the counters of answers. -/
def AnsweredFrom (s u : State) (path : Path) (dead : Bool) (frame : List Byte) : Prop :=
    u.num PD.PDX_FRAMES = (s.num PD.PDX_FRAMES + 1) % 2 ^ 64
      ∧ (path = .sgmii → u.outs = s.outs ++ [.pdx .sgmii frame] ∧ u.dict = s.dict)
      ∧ (∀ ep, path = .mailbox ep → u.outs = s.outs ∧ u.dict.answers = if dead then s.dict.answers else s.dict.answers ++ [(ep, frame)])
      ∧ ∀ k, k ≠ PD.PDX_FRAMES → k ≠ PD.PDX_BAD_FRAMES → k ≠ PD.FLITS_NO_ROUTE → u.num k = s.num k

theorem Answered.of_taken {s T u : State} {path : Path} {dead : Bool} {frame : List Byte} (h : Answered T u path dead frame) (taken : Taken s T path) :
    AnsweredFrom s u path dead frame := by
  refine ⟨by rw [h.frames, taken.num], fun hs => ?_, fun ep hm => ?_, fun k hf hb hr => (h.num k hf hb hr).trans (taken.num k)⟩
  · obtain ⟨outs, dict⟩ := h.sgmii hs
    rw [taken.sgmii hs] at outs dict
    exact ⟨outs, dict⟩
  · obtain ⟨outs, answers⟩ := h.mailbox ep hm
    rw [taken.outs] at outs
    rw [taken.answers] at answers
    exact ⟨outs, answers⟩

/-! ## Serving (R417, R420, R421) -/

/-- The commands of the known operations. -/
def pdxCommands (path : Path) (req : PdxReq) : List (Instr × Nat) :=
  [(.read path req, 1), (.readStaged path req, 2), (.write path req, 3), (.describe path req, 4), (.next path req, 5),
    (.sessionOpen path req, 0x10), (.sessionClose path req, 0x11)]

theorem exec_pdxCommand {path : Path} {req : PdxReq} {i : Instr × Nat} (hi : i ∈ pdxCommands path req) (s : State) :
    exec i.1 s = .next (s.pdx path i.2 req) ∧ knownOps.contains i.2 = true := by
  simp only [pdxCommands, List.mem_cons, List.not_mem_nil, or_false] at hi
  rcases hi with rfl | rfl | rfl | rfl | rfl | rfl | rfl <;> exact ⟨rfl, rfl⟩

/-- The module a request names. -/
def reqTarget (r : PdxReq) : Addr := ⟨b2n r.tgtSide, r.tgtPallet.toNat, r.tgtSlot.toNat⟩

section
variable {s T : State} {path : Path} {op : Nat} {r : PdxReq} {dead : Bool} (up : s.pdxUp = true)
  (ht : s.takeRequest path (reqFrame op r) = some (dead, T))
include up ht

theorem State.pdx_local (here : ¬(r.forward = true ∧ reqTarget r ≠ T.self)) : s.pdx path op r = T.serveLocal path dead op r := by
  unfold State.pdx
  rw [if_neg (by rw [up]; decide), ht]
  exact if_neg (by simpa [reqTarget] using here)

theorem State.pdx_forward (forward : r.forward = true) (away : reqTarget r ≠ T.self) : s.pdx path op r = T.forwardPdx path dead op r (reqTarget r) := by
  unfold State.pdx
  rw [if_neg (by rw [up]; decide), ht]
  exact if_pos (by rw [forward]; exact decide_eq_true away)
end

/-- A request under way to another module, counted. -/
def State.forwarding (T : State) (f : Forward) : State :=
  { T.bump PD.PDX_FORWARDED with dict := { T.dict with forwards := T.dict.forwards ++ [f] } }

theorem State.num_forwarding (T : State) (f : Forward) : (T.forwarding f).num PD.PDX_FORWARDED = (T.num PD.PDX_FORWARDED + 1) % 2 ^ 64 :=
  State.num_bump

theorem State.dictOk_forwarding {T : State} (w : T.dictOk = true) (f : Forward) : (T.forwarding f).dictOk = true := State.dictOk_bump w

section
variable {T : State} {path : Path} {op : Nat} {r : PdxReq} {dead : Bool}

theorem State.serveLocal_dropped (auth : r.auth = true) (unknown : T.sessionFor op r = none) :
    T.serveLocal path dead op r = T.bump PD.PDX_AUTH_DROPPED := by
  unfold State.serveLocal
  rw [if_pos auth, unknown]

theorem State.serveLocal_badFrame (plain : r.auth = false) (bad : headerOk path r = false) :
    T.serveLocal path dead op r = T.answer path dead op r { status := stBadFrame } none := by
  unfold State.serveLocal
  rw [if_neg (by rw [plain]; decide), if_pos (by rw [bad]; rfl)]

section
variable (plain : r.auth = false) (good : headerOk path r = true) (known : knownOps.contains op = true)
include plain good known

theorem State.serveLocal_closed (closed : T.servesOpenly path op r = false) :
    T.serveLocal path dead op r = T.answer path dead op r { status := stNoSession } none := by
  unfold State.serveLocal
  rw [if_neg (by rw [plain]; decide), if_neg (by rw [good]; decide), if_neg (by rw [known]; decide), if_pos (by rw [closed]; rfl)]

theorem State.serveLocal_open (opened : T.servesOpenly path op r = true) :
    T.serveLocal path dead op r = (T.serveOp path op r).2.answer path dead op r (T.serveOp path op r).1 none := by
  unfold State.serveLocal
  rw [if_neg (by rw [plain]; decide), if_neg (by rw [good]; decide), if_neg (by rw [known]; decide), if_neg (by rw [opened]; decide)]
end

theorem State.forwardPdx_goes (good : headerOk path r = true) {dst : Addr} (room : T.dict.forwards.length < 64) (route : T.reaches dst = true) :
    T.forwardPdx path dead op r dst
      = (T.forwarding ⟨r.sequence, path, dead, r.index, r.sub, r.offset, BitVec.ofNat 8 op⟩).send 4 dst (reqFrame op r) := by
  unfold State.forwardPdx
  rw [if_neg (by rw [good]; decide), if_neg (by rw [route]; simpa using room)]
  rfl

theorem State.forwardPdx_unreachable (good : headerOk path r = true) {dst : Addr} (h : 64 ≤ T.dict.forwards.length ∨ T.reaches dst = false) :
    T.forwardPdx path dead op r dst = T.answer path dead op r { status := stUnreachable } none := by
  unfold State.forwardPdx
  rw [if_neg (by rw [good]; decide), if_pos (by simpa using h)]
end

/-! ## READ (R405) -/

section
variable {T : State} {k offset room : Nat} {staged : Bool} {m : Meta}

theorem State.readReply_absent (h : T.entry k = none) : T.readReply k offset room staged = { status := stNoEntry } := by
  unfold State.readReply; rw [h]

theorem State.readReply_closed (h : T.entry k = some m) (cls : 4 ≤ m.cls) : T.readReply k offset room staged = { status := stWrongAccess } := by
  unfold State.readReply; rw [h]; exact if_pos cls

theorem State.readReply_beyond (h : T.entry k = some m) (cls : m.cls < 4) (far : (m.encode (T.entryValue m staged)).length < offset) :
    T.readReply k offset room staged = { status := stBadOffset } := by
  unfold State.readReply; rw [h]; exact (if_neg (Nat.not_le.2 cls)).trans (if_pos far)

theorem State.readReply_value (h : T.entry k = some m) (cls : m.cls < 4) (near : offset ≤ (m.encode (T.entryValue m staged)).length) :
    T.readReply k offset room staged = { status := stOk, body := sub (m.encode (T.entryValue m staged)) offset room
                                         more := decide (room < (m.encode (T.entryValue m staged)).length - offset) } := by
  unfold State.readReply; rw [h]; exact (if_neg (Nat.not_le.2 cls)).trans (if_neg (Nat.not_lt.2 near))
end


section
variable {s T : State} {path : Path} {op : Nat} {r : PdxReq} {dead : Bool} {i : Instr} (w : s.dictOk = true) (up : s.pdxUp = true)
  (plain : s.dict.freezeAfter = false) (ht : s.takeRequest path (reqFrame op r) = some (dead, T))
include w plain ht

/-- An answer in the state in which the request has been taken. -/
theorem exec_answers_taken {x : Reply} {y : Option Session} (run : exec i s = .next (T.answer path dead op r x y)) :
    ∃ u, exec i s = .next u ∧ AnsweredFrom s u path dead (rspFrame op r x y) :=
  have taken := State.takeRequest_taken ht
  ⟨_, run, (State.answer_answered (taken.dictOk.trans w) (taken.freezeAfter.trans plain) path dead op r x y).of_taken taken⟩

include up in
/-- An open request of an operation that changes nothing is answered as that operation says. -/
theorem exec_answers_served {x : Reply} (here : ¬(r.forward = true ∧ reqTarget r ≠ T.self)) (hi : (i, op) ∈ pdxCommands path r)
    (bare : r.auth = false) (good : headerOk path r = true) (opened : T.servesOpenly path op r = true) (serves : T.serveOp path op r = (x, T)) :
    ∃ u, exec i s = .next u ∧ AnsweredFrom s u path dead (rspFrame op r x none) := by
  obtain ⟨run, known⟩ := exec_pdxCommand hi s
  rw [State.pdx_local up ht here, State.serveLocal_open bare good known opened, serves] at run
  exact exec_answers_taken w plain ht run
end

end Sys2Proof.Machine

open Sys2Proof Sys2Proof.Machine

/-- Settles O44: a request for this module by its authentication, its header and what the dictionary's entry is, one for another by its route. -/
theorem pdxReadsAreAnsweredAndRequestsForOthersGoOn : Obligations.PdxReadsAreAnsweredAndRequestsForOthersGoOn := by
  unfold Obligations.PdxReadsAreAnsweredAndRequestsForOthersGoOn
  intro s T path req dead w up unfrozen
  refine ⟨fun here => ⟨fun i hi ht => ?headers, fun plain good => ⟨fun ht opened => ?read, fun m ht opened hm cls near => ?staged,
    fun ht opened => ?describe, fun ht opened => ?next⟩⟩, fun op ht forward away good => ⟨fun room route => ?goes, fun h => ?unreachable⟩⟩
  case headers =>
    obtain ⟨run, known⟩ := exec_pdxCommand (path := path) (req := req) (i := i) (by simp [pdxCommands] at hi ⊢; tauto) s
    rw [State.pdx_local up ht here] at run
    refine ⟨fun plain bad => exec_answers_taken w unfrozen ht (run.trans (congrArg _ (State.serveLocal_badFrame plain bad))),
      fun plain good closed => exec_answers_taken w unfrozen ht (run.trans (congrArg _ (State.serveLocal_closed plain good known closed))),
      fun auth unknown => ?_⟩
    have taken := State.takeRequest_taken ht
    rw [State.serveLocal_dropped auth unknown] at run
    exact ⟨_, run, State.num_bump.trans (by rw [taken.num]), taken.outs⟩
  case read =>
    have reads : ∀ x, T.readReply _ _ (bodyRoom path req.auth) false = x → _ := fun x hx =>
      exec_answers_served w up unfrozen ht here (i := .read path req) (by simp [pdxCommands]) plain good opened (congrArg (·, T) hx)
    rw [plain] at reads
    exact ⟨fun absent => reads _ (State.readReply_absent absent), fun m hm cls => reads _ (State.readReply_closed hm cls),
      fun m hm cls far => reads _ (State.readReply_beyond hm cls far), fun m hm cls near => reads _ (State.readReply_value hm cls near)⟩
  case staged =>
    refine exec_answers_served w up unfrozen ht here (i := .readStaged path req) (by simp [pdxCommands]) plain good opened ?_
    rw [← plain]
    exact congrArg (·, T) (State.readReply_value hm cls near)
  case describe => exact exec_answers_served w up unfrozen ht here (by simp [pdxCommands]) plain good opened rfl
  case next => exact exec_answers_served w up unfrozen ht here (by simp [pdxCommands]) plain good opened rfl
  case goes =>
    have taken := State.takeRequest_taken ht
    refine ⟨_, congrArg Host.Outcome.next ((State.pdx_forward up ht forward away).trans (State.forwardPdx_goes good room route)), ?_, ?_⟩
    · rw [(State.run_send _ _ _ _).num_eq (State.dictOk_forwarding (taken.dictOk.trans w) _) rfl (by decide), State.num_forwarding, taken.num]
    · rw [State.send_dict, ← taken.forwards, BitVec.ofNat_toNat, BitVec.setWidth_eq]
      rfl
  case unreachable =>
    exact exec_answers_taken w unfrozen ht (congrArg Host.Outcome.next ((State.pdx_forward up ht forward away).trans
      (State.forwardPdx_unreachable good h)))
end

section
/-! Proofs of WRITE and of the owner's key (R402, R404, R420, R422, R424): the outcomes of a write in the order of its checks, values in force
and staged, and the statement WritesTakeEffectByTheirEntriesClass. -/
namespace Sys2Proof.Machine

/-! ## Values in force and staged (R402, R404) -/

theorem stagedGet_cons (p : Nat × PdVal) (l : List (Nat × PdVal)) (j : Nat) :
    stagedGet (p :: l) j = if p.1 = j then some p.2 else stagedGet l j := by
  unfold stagedGet
  by_cases h : p.1 = j <;> simp [h]

/-- A staged value reads as staged, and every other entry as before. -/
theorem stagedGet_stagedSet (k j : Nat) (v : PdVal) : ∀ l : List (Nat × PdVal),
    stagedGet (stagedSet l k v) j = if k = j then some v else stagedGet l j
  | [] => by rw [stagedSet, stagedGet_cons]
  | p :: l => by
    have ih := stagedGet_stagedSet k j v l
    unfold stagedSet
    split
    · rename_i same
      rw [stagedGet_cons, stagedGet_cons]
      by_cases h : k = j
      · rw [if_pos h, if_pos h]
      · rw [if_neg h, if_neg h, if_neg (same ▸ h)]
    · rename_i other
      split
      · rw [stagedGet_cons]
      · rw [stagedGet_cons, stagedGet_cons, ih]
        by_cases h : k = j
        · rw [if_pos h, if_pos h, if_neg (h ▸ other)]
        · rw [if_neg h, if_neg h]

theorem State.run_hostDuties (s : State) : Run 1099511627776 [] s s.hostDuties := hostDuties_run rfl (fun _ => id) (Run.refl _ _ s)

/-- A value written now is in force, and no other entry's value changes. -/
theorem State.pdGet_writeNow {s : State} (w : s.dictOk = true) (k j : Nat) (v : PdVal) : (s.writeNow k v).pdGet j = (s.pdSet k v).pdGet j := by
  unfold State.writeNow
  dsimp only
  split
  · exact (s.pdSet k v).run_hostDuties.entry (State.dictOk_pdSet w) rfl j List.not_mem_nil
  · rfl

theorem State.writeNow_dict (s : State) (k : Nat) (v : PdVal) : (s.writeNow k v).dict = s.dict := by
  unfold State.writeNow
  dsimp only
  split
  · exact (s.pdSet k v).run_hostDuties.part .dict rfl
  · rfl

/-! ## A write by its checks (R402, R404) -/

section
variable {s : State} {path : Path} {auth : Bool} {k offset : Nat} {b : List Byte}

theorem State.writeEntry_absent (h : s.entry k = none) : s.writeEntry path auth k offset b = (stNoEntry, s) := by
  unfold State.writeEntry; rw [h]

variable {m : Meta} (hm : s.entry k = some m)
include hm

theorem State.writeEntry_readOnly (ro : m.cls = 0) : s.writeEntry path auth k offset b = (stWrongAccess, s) := by
  unfold State.writeEntry; rw [hm]; exact if_pos ro

theorem State.writeEntry_closed (rw_ : m.cls ≠ 0) (closed : s.classOpen m.cls = false) :
    s.writeEntry path auth k offset b = (stWrongState, s) := by
  unfold State.writeEntry; rw [hm]; exact (if_neg rw_).trans (if_pos (by rw [closed]; rfl))

section
variable (rw_ : m.cls ≠ 0) (opened : s.classOpen m.cls = true)
include rw_ opened

/-- The class and the module's state allow the write: what is left is the value's length and encoding, and what the class asks. -/
theorem State.writeEntry_open : s.writeEntry path auth k offset b =
    if m.ty = 14 then s.writePiece m offset b
    else if offset ≠ 0 then (stBadOffset, s)
    else if m.cls = 5 then s.setOwnerKey (auth || s.mailboxOpen path) b
    else if k = PD.PMB_XFER ∧ (b.length < 4 ∨ 36 < b.length) then (stBadLength, s)
    else match m.parse b with
      | some v => s.writeValue m v
      | none => (stBadLength, s) := by
  unfold State.writeEntry; rw [hm]; exact (if_neg rw_).trans (if_neg (by rw [opened]; exact Bool.false_ne_true))

theorem State.writeEntry_table (table : m.ty = 14) : s.writeEntry path auth k offset b = s.writePiece m offset b :=
  (State.writeEntry_open hm rw_ opened).trans (if_pos table)

variable (scalar : m.ty ≠ 14)
include scalar

theorem State.writeEntry_offset (away : offset ≠ 0) : s.writeEntry path auth k offset b = (stBadOffset, s) :=
  (State.writeEntry_open hm rw_ opened).trans ((if_neg scalar).trans (if_pos away))

variable (start : offset = 0)
include start

theorem State.writeEntry_key (cls : m.cls = 5) : s.writeEntry path auth k offset b = s.setOwnerKey (auth || s.mailboxOpen path) b :=
  (State.writeEntry_open hm rw_ opened).trans ((if_neg scalar).trans ((if_neg (not_not.2 start)).trans (if_pos cls)))

theorem State.writeEntry_badLength (cls : m.cls ≠ 5) (h : (k = PD.PMB_XFER ∧ (b.length < 4 ∨ 36 < b.length)) ∨ m.parse b = none) :
    s.writeEntry path auth k offset b = (stBadLength, s) := by
  rw [State.writeEntry_open hm rw_ opened, if_neg scalar, if_neg (not_not.2 start), if_neg cls]
  by_cases raw : k = PD.PMB_XFER ∧ (b.length < 4 ∨ 36 < b.length)
  · exact if_pos raw
  · rw [if_neg raw, h.resolve_left raw]

theorem State.writeEntry_value (cls : m.cls ≠ 5) (fits : ¬(k = PD.PMB_XFER ∧ (b.length < 4 ∨ 36 < b.length))) {v : PdVal} (hv : m.parse b = some v) :
    s.writeEntry path auth k offset b = s.writeValue m v := by
  rw [State.writeEntry_open hm rw_ opened, if_neg scalar, if_neg (not_not.2 start), if_neg cls, if_neg fits, hv]
end
end

section
variable {s : State} {m : Meta} {v : PdVal}

theorem State.writeValue_now (cls : m.cls = 1) (good : m.inRange v = true) : s.writeValue m v = (stOk, s.writeNow m.key v) :=
  (if_pos cls).trans (if_pos good)

theorem State.writeValue_outOfRange (cls : m.cls = 1) (bad : m.inRange v = false) : s.writeValue m v = (stOutOfRange, s) :=
  (if_pos cls).trans (if_neg (ne_true_of_eq_false bad))

theorem State.writeValue_command (cls : m.cls = 4) : s.writeValue m v = (stOk, s.command m.key v) :=
  (if_neg (by omega)).trans (if_pos cls)

theorem State.writeValue_busy (cls : m.cls = 2 ∨ m.cls = 3) (validating : s.num PD.CFG_STATUS = 1) : s.writeValue m v = (stBusy, s) :=
  (if_neg (by omega)).trans ((if_neg (by omega)).trans (if_pos validating))

theorem State.writeValue_stages (cls : m.cls = 2 ∨ m.cls = 3) (idle : s.num PD.CFG_STATUS ≠ 1) :
    s.writeValue m v = (stOk, s.stage m.key v) :=
  (if_neg (by omega)).trans ((if_neg (by omega)).trans (if_neg idle))
end

/-- The states that keep a class closed to a write (R402). -/
theorem State.classOpen_closed {s : State} {cls : Nat} (h : (cls = 1 ∧ (s.mode = .frozen ∨ s.mode = .coast ∨ s.mode = .off))
    ∨ (cls = 2 ∧ s.mode ≠ .held) ∨ (cls = 3 ∧ s.mode.working = false)) : cls ≠ 0 ∧ s.classOpen cls = false := by
  rcases h with ⟨rfl, h⟩ | ⟨rfl, h⟩ | ⟨rfl, h⟩
  · refine ⟨by decide, ?_⟩
    unfold State.classOpen
    rcases h with h | h | h <;> rw [h] <;> rfl
  · exact ⟨by decide, decide_eq_false h⟩
  · exact ⟨by decide, h⟩

/-! ## A write served (R417, R424) -/

/-- A session keeps the response to its last request. -/
def State.noted (Z : State) (y : Option Session) (req : PdxReq) (rsp : List Byte) : State :=
  y.elim Z fun x => Z.noteSession x.id req.sequence rsp

theorem State.servesOpenly_of_mailboxOpen {T : State} {path : Path} (h : T.mailboxOpen path = true) (op : Nat) (req : PdxReq) :
    T.servesOpenly path op req = true := by
  unfold State.servesOpenly; rw [h, Bool.or_true]

/-- A request of a known operation, admitted by an open mailbox or by a session that it is the next of. -/
theorem State.serveLocal_admitted {T : State} {path : Path} {op : Nat} {req : PdxReq} {dead : Bool} {y : Option Session}
    (good : headerOk path req = true) (known : knownOps.contains op = true)
    (admitted : (req.auth = false ∧ y = none ∧ T.mailboxOpen path = true)
      ∨ ∃ x, req.auth = true ∧ y = some x ∧ T.sessionFor op req = y ∧ x.lastSeq.toNat < req.sequence.toNat) :
    T.serveLocal path dead op req = (((T.serveOp path op req).2.noted y req (rspFrame op req (T.serveOp path op req).1 y)).answer path dead op req
      (T.serveOp path op req).1 y) := by
  rcases admitted with ⟨plain, rfl, opened⟩ | ⟨x, auth, rfl, session, later⟩
  · exact State.serveLocal_open plain good known (State.servesOpenly_of_mailboxOpen opened op req)
  · unfold State.serveLocal
    rw [if_pos auth, session]
    refine (if_neg (by rw [good]; decide)).trans ((if_neg (by omega)).trans ((if_neg ?_).trans ?_))
    · intro same; rw [same] at later; exact Nat.lt_irrefl _ later
    · simp only [known, if_true]
      rfl

/-! ## The owner's key (R422) -/

section
variable {s : State} {allowed : Bool} {key : List Byte}

theorem State.setOwnerKey_held (held : s.mode = .held) (may : allowed = true) (unsigned_ : s.flag PD.FW_OWNER_SIG_REQUIRED = false)
    (size : key.length = 97) : s.setOwnerKey allowed key =
      if (!(if allZero key then [] else key).isEmpty && !Config.onCurve key) = true then (stOutOfRange, s)
      else if (if allZero key then [] else key) = s.dict.ownerKey then (stOk, s)
      else (stOk, { s with dict := { s.dict with ownerKey := if allZero key then [] else key, sessions := [] } }) := by
  refine (if_neg (not_not.2 size)).trans (if_neg ?_)
  rw [may, unsigned_]
  simpa using held

theorem State.keyAllowed {auth : Bool} {path : Path} (h : auth = true ∨ (∃ ep, path = .mailbox ep) ∧ s.flag PD.MBOX_AUTH_REQUIRED = false) :
    (auth || s.mailboxOpen path) = true := by
  rcases h with rfl | ⟨⟨ep, rfl⟩, free⟩
  · rfl
  · rw [show s.mailboxOpen (.mailbox ep) = !s.flag PD.MBOX_AUTH_REQUIRED from rfl, free, Bool.not_false, Bool.or_true]

/-- A key that is refused, or is the one held, changes nothing. -/
theorem State.setOwnerKey_same (h : key.length ≠ 97 ∨ s.mode ≠ .held ∨ s.flag PD.FW_OWNER_SIG_REQUIRED = true
    ∨ (allZero key = false ∧ Config.onCurve key = false) ∨ (allZero key = true ∧ s.dict.ownerKey = [])
    ∨ (allZero key = false ∧ key = s.dict.ownerKey)) : (s.setOwnerKey allowed key).2 = s := by
  unfold State.setOwnerKey
  split
  · rfl
  · rename_i size
    split
    · rfl
    · rename_i may
      simp only [not_or, not_not] at size may
      obtain ⟨held, -, unsigned_⟩ := may
      dsimp only
      rcases h with h | h | h | ⟨set, off⟩ | ⟨zero, empty⟩ | ⟨set, same⟩
      · exact absurd size h
      · exact absurd held h
      · exact absurd h unsigned_
      · have nonempty : key.isEmpty = false := by cases key with
          | nil => cases size
          | cons _ _ => rfl
        simp only [set, off, nonempty, Bool.false_eq_true, if_false, Bool.not_false, Bool.and_self, if_true]
      · simp only [zero, if_true, empty, List.isEmpty_nil, Bool.not_true, Bool.false_and, Bool.false_eq_true, if_false]
      · simp only [set, Bool.false_eq_true, if_false, ← same, if_true]
        split <;> rfl
end

end Sys2Proof.Machine

open Sys2Proof Sys2Proof.Machine

/-- Settles O45: a write by the first check that it fails, what a written, a staged and an answered value leave, and the owner's key by
whether it is taken. -/
theorem writesTakeEffectByTheirEntriesClass : Obligations.WritesTakeEffectByTheirEntriesClass := by
  unfold Obligations.WritesTakeEffectByTheirEntriesClass
  refine ⟨fun s T path req dead y up ht good here admitted => ?written, fun T k v w => ?values, fun Z path dead req st k y w plain hf hb hr => ?answer,
    fun s path auth key => ⟨fun held may unsigned_ size => ⟨fun zero set => ?cleared, fun nonzero onCurve other => ?set⟩, fun h => ?same⟩⟩
  case written =>
    -- a write that comes to a status and a state ends in the answer of that status
    have ends : ∀ {st : Nat} {Z : State}, T.writeEntry path req.auth (req.index.toNat * 256 + req.sub.toNat) req.offset.toNat req.body = (st, Z) →
        exec (.write path req) s = .next ((Z.noted y req (rspFrame 3 req { status := st } y)).answer path dead 3 req { status := st } y) := by
      intro st Z h
      have op : T.serveOp path 3 req = ({ status := st }, Z) := by
        refine Eq.trans ?_ (congrArg (fun p : Nat × State => (({ status := p.1 } : Reply), p.2)) h)
        rfl
      obtain ⟨run, known⟩ := exec_pdxCommand (path := path) (req := req) (i := (.write path req, 3)) (by simp [pdxCommands]) s
      rw [run, State.pdx_local up ht here, State.serveLocal_admitted good known admitted, op]
    refine ⟨fun absent => ends (State.writeEntry_absent absent), fun m hm => ⟨fun ro => ends (State.writeEntry_readOnly hm ro), fun h => ?_,
      fun opened rw_ => ⟨fun table => ends (State.writeEntry_table hm rw_ opened table), fun scalar away =>
        ends (State.writeEntry_offset hm rw_ opened scalar away), fun scalar start => ⟨fun cls => ends (State.writeEntry_key hm rw_ opened scalar start cls),
          fun cls h => ends (State.writeEntry_badLength hm rw_ opened scalar start cls h), fun v cls hv fits => ?_⟩⟩⟩⟩
    · obtain ⟨rw_, closed⟩ := State.classOpen_closed h
      exact ends (State.writeEntry_closed hm rw_ closed)
    · have value := State.writeEntry_value (path := path) (auth := req.auth) hm rw_ opened scalar start cls fits hv
      exact ⟨fun cls inRange => ends (value.trans (State.writeValue_now cls inRange)), fun cls bad => ends (value.trans (State.writeValue_outOfRange cls bad)),
        fun cls => ends (value.trans (State.writeValue_command cls)), fun cls busy => ends (value.trans (State.writeValue_busy cls busy)),
        fun cls idle => ends (value.trans (State.writeValue_stages cls idle))⟩
  case values =>
    refine ⟨(State.pdGet_writeNow w k k v).trans State.pdGet_pdSet, fun j ne => (State.pdGet_writeNow w k j v).trans (State.pdGet_pdSet_ne ne),
      T.writeNow_dict k v, rfl, (stagedGet_stagedSet k k v _).trans (if_pos rfl), fun j ne => (stagedGet_stagedSet k j v _).trans (if_neg ne.symm)⟩
  case answer =>
    have answered := State.answer_answered w plain path dead 3 req { status := st } y
    obtain ⟨a, dict⟩ := answered.dict
    exact ⟨answered.num k hf hb hr, by rw [dict], answered.frames⟩
  case cleared =>
    refine congrArg Host.Outcome.next ?_
    rw [State.setOwnerKey_held held (State.keyAllowed may) unsigned_ size]
    simp only [zero, if_true, List.isEmpty_nil, Bool.not_true, Bool.false_and, Bool.false_eq_true, if_false, if_neg set.symm]
  case set =>
    refine congrArg Host.Outcome.next ?_
    rw [State.setOwnerKey_held held (State.keyAllowed may) unsigned_ size]
    simp only [nonzero, onCurve, Bool.not_true, Bool.and_false, Bool.false_eq_true, if_false, if_neg other]
  case same => exact congrArg Host.Outcome.next (State.setOwnerKey_same h)
end

section
/-! Proofs of sessions and of forwarded requests (R421, R423, R424): a fresh session number, the outcomes of SESSION_OPEN and of requests through
a session, the ends of sessions and of forwards, and the statement SessionsOpenCloseAndForwardedRequestsAreAnswered. -/
namespace Sys2Proof.Machine

@[simp] theorem length_padTo (n : Nat) (b : List Byte) : (padTo n b).length = n := by simp [padTo, zeros]

/-! ## A fresh session number (R423) -/

/-- Candidate j for a session's number. -/
def sessionNumber (n j : Nat) : Nat := 1 + (n + j) % (2 ^ 32 - 1)

theorem sessionNumber_lt (n j : Nat) : sessionNumber n j < 2 ^ 32 := by unfold sessionNumber; omega

theorem sessionNumber_inj {n i j : Nat} (hi : i < 9) (hj : j < 9) (h : sessionNumber n i = sessionNumber n j) : i = j := by
  unfold sessionNumber at h; omega

/-- Fewer than nine sessions leave one of nine candidates free. -/
theorem exists_sessionNumber_free (l : List Session) (n : Nat) (few : l.length < 8) :
    ∃ j ∈ List.range 9, (!l.any fun x => x.id.toNat = sessionNumber n j) = true := by
  by_contra none
  have all : (List.range 9).map (sessionNumber n) ⊆ l.map fun x => x.id.toNat := by
    intro v hv
    obtain ⟨j, hj, rfl⟩ := List.mem_map.1 hv
    have used : (l.any fun x => x.id.toNat = sessionNumber n j) = true := by
      by_contra free
      exact none ⟨j, hj, by rw [Bool.not_eq_true] at free; rw [free]; rfl⟩
    obtain ⟨x, hx, same⟩ := List.any_eq_true.1 used
    exact List.mem_map.2 ⟨x, hx, of_decide_eq_true same⟩
  have distinct : ((List.range 9).map (sessionNumber n)).Nodup :=
    List.Nodup.map_on (fun i hi j hj => sessionNumber_inj (List.mem_range.1 hi) (List.mem_range.1 hj)) List.nodup_range
  have := (List.subperm_of_subset distinct all).length_le
  simp only [List.length_map, List.length_range] at this
  omega

theorem State.newSessionId_fresh {s : State} (i : Nat) (few : s.dict.sessions.length < 8) :
    (s.newSessionId i).toNat ≠ 0 ∧ ∀ x, x ∈ s.dict.sessions → x.id ≠ s.newSessionId i := by
  obtain ⟨n, hn⟩ : ∃ n, n = ofLe (Config.random i 4) % (2 ^ 32 - 1) := ⟨_, rfl⟩
  obtain ⟨j, hj⟩ := Option.isSome_iff_exists.1 (List.find?_isSome.2 (exists_sessionNumber_free s.dict.sessions n few))
  have number : (s.newSessionId i).toNat = sessionNumber n j := by
    have : s.newSessionId i = BitVec.ofNat 32 (sessionNumber n j) := by
      unfold State.newSessionId
      rw [← hn]
      exact congrArg (fun o : Option Nat => BitVec.ofNat 32 (sessionNumber n (o.getD 0))) hj
    rw [this, BitVec.toNat_ofNat, Nat.mod_eq_of_lt (sessionNumber_lt n j)]
  refine ⟨by rw [number]; unfold sessionNumber; omega, fun x hx same => ?_⟩
  have free := List.find?_some hj
  rw [Bool.not_eq_true', List.any_eq_false] at free
  exact free x hx (decide_eq_true (by rw [same, number]))

/-! ## SESSION_OPEN (R423) -/

/-- What the owner signs. -/
def openSigned (b : List Byte) : List Byte := ascii "PDX1-OPEN" ++ le 8 Config.serial.toNat ++ sub b 0 97 ++ sub b 97 32

section
variable {s : State} {path : Path} {b : List Byte}

theorem State.openSession_badLength (h : b.length ≠ 225) : s.openSession path b = ({ status := stBadLength }, s) := if_pos h

variable (size : b.length = 225)
include size

theorem State.openSession_noOwner (h : s.dict.ownerKey = []) : s.openSession path b = ({ status := stNoOwner }, s) :=
  (if_neg (not_not.2 size)).trans (if_pos (by rw [h]; rfl))

variable (owned : s.dict.ownerKey ≠ [])
include owned

theorem State.openSession_authFail (h : Config.ecdsaOk s.dict.ownerKey (openSigned b) (sub b 129 96) = false) :
    s.openSession path b = ({ status := stAuthFail }, s) :=
  (if_neg (not_not.2 size)).trans ((if_neg (by simpa using owned)).trans (if_pos (by rw [openSigned] at h; rw [h]; rfl)))

variable (ok : Config.ecdsaOk s.dict.ownerKey (openSigned b) (sub b 129 96) = true)
include ok

theorem State.openSession_limit (h : 8 ≤ s.dict.sessions.length) : s.openSession path b = ({ status := stSessionLimit }, s) :=
  (if_neg (not_not.2 size)).trans ((if_neg (by simpa using owned)).trans ((if_neg (by rw [openSigned] at ok; rw [ok]; decide)).trans (if_pos h)))

/-- A session of a fresh number is added, its keys derived from the two nonces; the module answers with its key, its nonce and its signature. -/
theorem State.openSession_opens (few : s.dict.sessions.length < 8) : ∃ (qm nm sig z : List Byte) (id : W32), qm.length = 97 ∧ nm.length = 32
    ∧ sig.length = 96 ∧ id.toNat ≠ 0 ∧ (∀ x, x ∈ s.dict.sessions → x.id ≠ id)
    ∧ s.openSession path b = ({ status := stOk, body := qm ++ nm ++ sig, sid := id.toNat }, { s.fresh.2 with dict := { s.dict with
      sessions := s.dict.sessions ++ [⟨id, path, Config.hkdf (sub b 97 32 ++ nm) z (ascii "PDX1 c2m"),
        Config.hkdf (sub b 97 32 ++ nm) z (ascii "PDX1 m2c"), 0, [], s.course.now⟩] } }) := by
  obtain ⟨nonzero, other⟩ := State.newSessionId_fresh (s := s.fresh.2) s.free few
  refine ⟨padTo 97 (Config.ephemeral s.free), padTo 32 (Config.random s.free 32), _, Config.ecdh s.free (sub b 0 97), s.fresh.2.newSessionId s.free,
    length_padTo .., length_padTo .., ?_, nonzero, other, (if_neg (not_not.2 size)).trans ((if_neg (by simpa using owned)).trans
      ((if_neg (by rw [openSigned] at ok; rw [ok]; decide)).trans ((if_neg (Nat.not_le.2 few)).trans rfl)))⟩
  exact length_padTo ..
end

/-! ## Requests through a session (R424) -/

section
variable {T : State} {path : Path} {op : Nat} {req : PdxReq} {dead : Bool} {x : Session} (good : headerOk path req = true) (auth : req.auth = true)
  (session : T.sessionFor op req = some x)
include good auth session

theorem State.serveLocal_again (same : req.sequence = x.lastSeq) : T.serveLocal path dead op req = T.respond path dead x.lastResponse := by
  unfold State.serveLocal
  rw [if_pos auth, session]
  refine (if_neg (by rw [good]; decide)).trans ((if_neg ?_).trans (if_pos same))
  rw [same]
  exact Nat.lt_irrefl _

theorem State.serveLocal_badSequence (earlier : req.sequence.toNat < x.lastSeq.toNat) :
    T.serveLocal path dead op req = T.answer path dead op req { status := stBadSequence } (some x) := by
  unfold State.serveLocal
  rw [if_pos auth, session]
  exact (if_neg (by rw [good]; decide)).trans (if_pos earlier)
end

theorem State.sessionFor_id {T : State} {op : Nat} {req : PdxReq} {x : Session} (h : T.sessionFor op req = some x) : x.id = req.sessionId := by
  have := List.find?_some h
  simp only [Bool.and_eq_true, decide_eq_true_eq] at this
  exact this.1.1

/-- A session that is closed is not there to keep its response. -/
theorem State.noteSession_closed (T : State) (id : W32) (seq : W64) (rsp : List Byte) :
    ((T.closeSession id).noteSession id seq rsp).dict.sessions = T.dict.sessions.filter fun z => z.id ≠ id := by
  refine (List.map_congr_left fun z hz => if_neg ?_).trans (List.map_id _)
  exact of_decide_eq_true (List.mem_filter.1 hz).2

theorem Answered.sessions {Z u : State} {path : Path} {dead : Bool} {frame : List Byte} (h : Answered Z u path dead frame) :
    u.dict.sessions = Z.dict.sessions := by obtain ⟨a, e⟩ := h.dict; rw [e]

/-- Nothing that an answer rests on has changed: the values, what has left, the answers that wait, a freeze that waits for them. -/
structure AnswersAlike (s Z : State) : Prop where
  pd : Z.pd = s.pd
  outs : Z.outs = s.outs
  answers : Z.dict.answers = s.dict.answers
  freezeAfter : Z.dict.freezeAfter = s.dict.freezeAfter

theorem Taken.answersAlike {s T : State} {path : Path} (taken : Taken s T path) : AnswersAlike s T :=
  ⟨taken.pd, taken.outs, taken.answers, taken.freezeAfter⟩

/-- A request answered by its path, with what else holds of the state after it. -/
def AnsweredWith (s : State) (i : Instr) (path : Path) (dead : Bool) (frame : List Byte) (post : State → Prop) : Prop :=
  ∃ u, exec i s = .next u ∧ post u ∧ u.num PD.PDX_FRAMES = (s.num PD.PDX_FRAMES + 1) % 2 ^ 64
    ∧ (path = .sgmii → u.outs = s.outs ++ [.pdx .sgmii frame])
    ∧ (∀ ep, path = .mailbox ep → u.outs = s.outs ∧ u.dict.answers = if dead then s.dict.answers else s.dict.answers ++ [(ep, frame)])

theorem exec_answersWith {s Z : State} {i : Instr} {path : Path} {dead : Bool} {op : Nat} {r : PdxReq} {x : Reply} {y : Option Session}
    {post : State → Prop} (w : s.dictOk = true) (plain : s.dict.freezeAfter = false) (alike : AnswersAlike s Z)
    (run : exec i s = .next (Z.answer path dead op r x y)) (holds : ∀ u, u.dict.sessions = Z.dict.sessions → post u) :
    AnsweredWith s i path dead (rspFrame op r x y) post := by
  have ok : Z.dictOk = true := by unfold State.dictOk; rw [alike.pd]; exact w
  have answered := State.answer_answered ok (alike.freezeAfter.trans plain) path dead op r x y
  refine ⟨_, run, holds _ answered.sessions, ?_, fun hs => ?_, fun ep hm => ?_⟩
  · rw [answered.frames, State.num_of_pd alike.pd]
  · rw [(answered.sgmii hs).1, alike.outs]
  · obtain ⟨outs, answers⟩ := answered.mailbox ep hm
    exact ⟨outs.trans alike.outs, by rw [answers, alike.answers]⟩

/-! ## The ends of sessions and of forwards (R421, R423) -/

theorem State.run_runTo (s : State) (t : Nat) : Run 36283883716864 [] s (s.runTo t) := runTo_run rfl (fun _ => id) (Run.refl _ _ s)

theorem exec_sessionIdleTimeout_closes {s : State} {n : W32} (up : s.pdxUp = true) (there : ∃ x, x ∈ s.dict.sessions ∧ x.id = n) :
    ∃ t, exec (.sessionIdleTimeout n) s = .next ((s.runTo t).closeSession n) := by
  obtain ⟨x, hx⟩ : ∃ x, s.dict.sessions.find? (fun x => x.id = n) = some x :=
    Option.isSome_iff_exists.1 (List.find?_isSome.2 (by simpa using there))
  refine ⟨x.lastAt + s.num PD.PDX_SESSION_IDLE_S * 10 ^ 9, ?_⟩
  simp only [exec, execSessionIdleTimeout, hx, up, if_true]

/-- A forwarded request that waits no more. -/
def State.unforward (s : State) (f : Forward) : State := { s with dict := { s.dict with forwards := s.dict.forwards.erase f } }

theorem State.respond_forwards (s : State) (path : Path) (dead : Bool) (b : List Byte) :
    (s.respond path dead b).dict.forwards = s.dict.forwards := by obtain ⟨a, e⟩ := s.respond_dict path dead b; rw [e]

theorem exec_forwardTimeout_unreachable {s : State} {f : Forward} (up : s.pdxUp = true)
    (hf : s.dict.forwards.find? (fun g => g.sequence = f.sequence) = some f) : exec (.forwardTimeout f.sequence) s
      = .next (((s.unforward f).bump PD.PDX_FRAMES).respond f.path f.dead
        (rspHead f.op.toNat stUnreachable false false 0 f.sequence.toNat f.index.toNat f.sub.toNat f.offset.toNat 0)) := by
  simp only [exec, execForwardTimeout, hf]
  exact if_neg (by rw [up]; decide)

/-- A response is that of a forwarded request. -/
def Forward.fits (b : List Byte) (f : Forward) : Bool :=
  bit (fieldAt b 3 1) 0 && f.sequence.toNat = fieldAt b 8 8 && f.op.toNat = fieldAt b 1 1 && f.index.toNat = fieldAt b 16 2
    && f.sub.toNat = fieldAt b 18 1

section
variable {s : State} {b : List Byte} (up : s.pdxUp = true)
include up

theorem exec_pdxForwardedResponse_returns {f : Forward} (hf : s.dict.forwards.find? (Forward.fits b) = some f) :
    exec (.pdxForwardedResponse b) s = .next (((s.takeMessage 4 b).unforward f).respond f.path f.dead b) := by
  refine (if_neg (by rw [up]; decide)).trans ?_
  have hf : (s.takeMessage 4 b).dict.forwards.find? (Forward.fits b) = some f := hf
  unfold Forward.fits at hf
  simp only [hf]
  rfl

theorem exec_pdxForwardedResponse_goes (none : s.dict.forwards.find? (Forward.fits b) = none) :
    exec (.pdxForwardedResponse b) s = .next (s.takeMessage 4 b) := by
  refine (if_neg (by rw [up]; decide)).trans ?_
  have hf : (s.takeMessage 4 b).dict.forwards.find? (Forward.fits b) = .none := none
  unfold Forward.fits at hf
  simp only [hf]
end

end Sys2Proof.Machine

open Sys2Proof Sys2Proof.Machine

/-- Settles O46: SESSION_OPEN by its checks, a request of a session by its SEQUENCE, and the ends of sessions and forwards by what is there. -/
theorem sessionsOpenCloseAndForwardedRequestsAreAnswered : Obligations.SessionsOpenCloseAndForwardedRequestsAreAnswered := by
  unfold Obligations.SessionsOpenCloseAndForwardedRequestsAreAnswered
  refine ⟨fun s T path req dead w up plain here good => ⟨fun ht bare => ?opens, fun ht bare => ?closesNone, fun x ht auth session later => ?closes,
    fun x i hi ht auth session => ?session⟩, fun s n w up there => ?idle, fun s f b w up => ⟨fun hf => ?timeout, fun hf => ?returned,
      exec_pdxForwardedResponse_goes up⟩⟩
  case opens =>
    have taken := (State.takeRequest_taken ht).answersAlike
    -- an opening that comes to a reply and a state ends in the answer of that reply
    have ends : ∀ {x : Reply} {Z : State} {post : State → Prop}, T.openSession path req.body = (x, Z) → AnswersAlike s Z →
        (∀ u, u.dict.sessions = Z.dict.sessions → post u) → AnsweredWith s (.sessionOpen path req) path dead (rspFrame 0x10 req x none) post := by
      intro x Z post h alike holds
      obtain ⟨run, known⟩ := exec_pdxCommand (path := path) (req := req) (i := (.sessionOpen path req, 0x10)) (by simp [pdxCommands]) s
      rw [State.pdx_local up ht here, State.serveLocal_open bare good known rfl] at run
      rw [show T.serveOp path 0x10 req = (x, Z) from h] at run
      exact exec_answersWith w plain alike run holds
    refine ⟨fun size => ends (State.openSession_badLength size) taken fun _ => id, fun size => ⟨fun h =>
      ends (State.openSession_noOwner size h) taken fun _ => id, fun owned fail => ends (State.openSession_authFail size owned fail) taken fun _ => id,
      fun owned ok => ⟨fun full => ends (State.openSession_limit size owned ok full) taken fun _ => id, fun few => ?_⟩⟩⟩
    obtain ⟨qm, nm, sig, z, id, hqm, hnm, hsig, nonzero, other, opens⟩ := State.openSession_opens (path := path) size owned ok few
    exact ⟨qm, nm, sig, z, id, hqm, hnm, hsig, nonzero, other, ends opens ⟨taken.pd, taken.outs, taken.answers, taken.freezeAfter⟩ fun _ h => h⟩
  case closesNone =>
    have taken := (State.takeRequest_taken ht).answersAlike
    obtain ⟨run, known⟩ := exec_pdxCommand (path := path) (req := req) (i := (.sessionClose path req, 0x11)) (by simp [pdxCommands]) s
    rw [State.pdx_local up ht here] at run
    have may : T.servesOpenly path 0x11 req = T.mailboxOpen path := rfl
    cases opened : T.mailboxOpen path with
    | false =>
      rw [State.serveLocal_closed bare good known (may.trans opened)] at run
      exact exec_answersWith w plain taken run fun _ => id
    | true =>
      have op : T.serveOp path 0x11 req = ({ status := stOk }, T) := congrArg (Prod.mk _) (if_neg (by rw [bare]; decide))
      rw [State.serveLocal_open bare good known (may.trans opened), op] at run
      exact exec_answersWith w plain taken run fun _ => id
  case closes =>
    have taken := (State.takeRequest_taken ht).answersAlike
    obtain ⟨run, known⟩ := exec_pdxCommand (path := path) (req := req) (i := (.sessionClose path req, 0x11)) (by simp [pdxCommands]) s
    have op : T.serveOp path 0x11 req = ({ status := stOk }, T.closeSession x.id) := by
      rw [State.sessionFor_id session]
      exact congrArg (Prod.mk _) (if_pos auth)
    rw [State.pdx_local up ht here, State.serveLocal_admitted good known (.inr ⟨x, auth, rfl, session, later⟩), op] at run
    have alike : AnswersAlike s ((T.closeSession x.id).noteSession x.id req.sequence (rspFrame 0x11 req { status := stOk } (some x))) :=
      ⟨taken.pd, taken.outs, taken.answers, taken.freezeAfter⟩
    exact exec_answersWith w plain alike run fun u h => h.trans (T.noteSession_closed x.id req.sequence _)
  case session =>
    have taken := (State.takeRequest_taken ht).answersAlike
    obtain ⟨run, known⟩ := exec_pdxCommand hi s
    rw [State.pdx_local up ht here] at run
    refine ⟨fun same => run.trans (congrArg _ (State.serveLocal_again good auth session same)), fun earlier => ?_⟩
    rw [State.serveLocal_badSequence good auth session earlier] at run
    exact exec_answersWith w plain taken run fun _ => id
  case idle =>
    obtain ⟨t, run⟩ := exec_sessionIdleTimeout_closes up there
    have dict : (s.runTo t).dict = s.dict := (s.run_runTo t).part .dict rfl
    exact ⟨_, run, by unfold State.closeSession; rw [dict], fun k => (s.run_runTo t).entry w rfl k List.not_mem_nil⟩
  case timeout =>
    exact ⟨_, exec_forwardTimeout_unreachable up hf, rfl, State.respond_forwards ..⟩
  case returned =>
    refine ⟨_, exec_pdxForwardedResponse_returns up hf, State.respond_forwards .., fun hs => ?_, fun ep hm => ?_⟩
    · rw [hs]; rfl
    · rw [hm]; exact State.respond_mailbox ..
end

section
/-! Proofs of the scheduled activation and of the attestation report (R511, R517): the outcome of an activation's test, of a nonce, the fields of a
report by their places, and the statement ActivationIsScheduledAndReportsAreSigned. -/
namespace Sys2Proof.Machine

/-! ## A firmware command's result (R510) -/

section
variable {s : State} {code : Nat}

theorem State.num_fwResult : (s.fwResult code).num PD.FW_RESULT = code := (State.num_cause ..).trans State.num_setNum

theorem State.num_fwResult_ne {k : Nat} (ne : k ≠ PD.FW_RESULT) : (s.fwResult code).num k = s.num k :=
  (State.num_cause ..).trans (State.num_setNum_ne ne)

@[simp] theorem State.fwResult_mode : (s.fwResult code).mode = s.mode := State.cause_mode ..
@[simp] theorem State.fwResult_events : (s.fwResult code).events = s.events := State.cause_events ..
@[simp] theorem State.fwResult_fw : (s.fwResult code).fw = s.fw := State.cause_fw ..
end

/-! ## Scheduling (R53, R511) -/

theorem State.evTest_ok_iff {s : State} {c : CTime} : s.evTest c = .ok
    ↔ s.timed = true ∧ s.ctime.toNat < c.toNat ∧ c.toNat ≤ s.ctime.toNat + 2 ^ 24 * 65536 ∧ s.events.length < 1024 := by
  refine ⟨fun h => ?_, fun ⟨timed, ahead, near, room⟩ => State.evTest_eq_ok timed ahead near room⟩
  unfold State.evTest at h
  split at h
  · cases h
  · next timed =>
    split at h
    · cases h
    · split at h
      · cases h
      · split at h
        · cases h
        · exact ⟨by simpa using timed, by omega, by omega, by omega⟩

theorem Mode.working_iff {m : Mode} : m.working = true ↔ m = .held ∨ m = .armed ∨ m = .run ∨ m = .drain := by
  cases m <;> decide

section
variable {s : State} {t : CTime}

theorem State.fwSchedule_queued (verified : s.num PD.FW_STAGE_STATE = 2) (working : s.mode.working = true) (ok : s.evTest t = .ok) :
    s.fwSchedule t = ({ s with events := s.events ++ [⟨t, .firmware, 0, 0⟩] } : State).setNum PD.FW_RESULT fwPending := by
  refine (if_neg (by rw [verified, working]; decide)).trans ?_
  rw [State.present_ok (e := ⟨t, .firmware, 0, 0⟩) ok]

/-- Refused, an activation's event counts where the queue refuses it, and the result is 9. -/
theorem State.fwSchedule_refused (h : ¬ (s.num PD.FW_STAGE_STATE = 2 ∧ s.mode.working = true ∧ s.evTest t = .ok)) :
    s.fwSchedule t = s.fwResult 9 ∨ s.fwSchedule t = (s.bump PD.EVENT_REJECTED).fwResult 9 := by
  unfold State.fwSchedule
  split
  · exact .inl rfl
  · next open_ =>
    have no : s.evTest t ≠ .ok := fun ok => h ⟨not_not.1 fun n => open_ (.inl n), by
      cases working : s.mode.working with
      | true => rfl
      | false => exact absurd (.inr (by rw [working]; rfl)) open_, ok⟩
    rw [State.present_refused (e := ⟨t, .firmware, 0, 0⟩) no]
    split
    · next ok => exact absurd (congrArg Prod.fst ok) no
    · next r u _ refused => exact .inr (congrArg (State.fwResult · 9) (congrArg Prod.snd refused).symm)
end

/-! ## A nonce (R517) -/

section
variable {s : State} {nonce : List Byte}

theorem State.attestStart_closed (h : ¬ ((s.mode.commands || s.mode = .loader) = true ∧ nonce.length = 32)) : s.attestStart nonce = s := by
  refine if_pos ?_
  by_contra h'
  rw [not_or, Bool.not_eq_true, Bool.not_eq_false', not_not] at h'
  exact h h'

variable (opens : (s.mode.commands || s.mode = .loader) = true ∧ nonce.length = 32)
include opens

theorem State.attestStart_idle (idle : s.fw.nonce = []) :
    s.attestStart nonce = { s.setNum PD.ATTEST_RESULT 1 with fw := { s.fw with nonce := nonce } } :=
  (if_neg (by rw [opens.1, opens.2]; decide)).trans (if_pos (by rw [idle]; rfl))

theorem State.attestStart_busy (busy : s.fw.nonce ≠ []) : s.attestStart nonce = s.setNum PD.ATTEST_RESULT 2 :=
  (if_neg (by rw [opens.1, opens.2]; decide)).trans (if_neg (by simpa using busy))
end

theorem Mode.attests_iff {m : Mode} : (m.commands || decide (m = .loader)) = true
    ↔ m = .held ∨ m = .armed ∨ m = .run ∨ m = .drain ∨ m = .fault ∨ m = .loader := by
  cases m <;> decide

/-! ## The report's fields (R517) -/

/-- A field that stands in the first of two strings. -/
theorem sub_append_of_le {a b : List Byte} {o n : Nat} (h : o + n ≤ a.length) : sub (a ++ b) o n = sub a o n := by
  unfold sub
  rw [List.drop_append_of_le_length (by omega), List.take_append_of_le_length (by rw [List.length_drop]; omega)]

/-- A field that is the second of two strings. -/
theorem sub_append_last {a b : List Byte} {o n : Nat} (ho : a.length = o) (hn : b.length = n) : sub (a ++ b) o n = b := by
  unfold sub
  rw [← ho, List.drop_left, ← hn, List.take_length]

theorem sub_whole {b : List Byte} {n : Nat} (h : b.length = n) : sub b 0 n = b := by unfold sub; rw [← h, List.drop_zero, List.take_length]

/-- A field that stands in the second of two strings. -/
theorem sub_append_right {a b : List Byte} {k : Nat} (h : a.length = k) (o n : Nat) : sub (a ++ b) (k + o) n = sub b o n := by
  unfold sub
  rw [← h, List.drop_length_add_append]

/-- A firmware digest in a report: zero in LOADER, where no firmware runs. -/
def State.reportDigest (s : State) (b : List Byte) : List Byte := if s.mode = .loader then zeros 48 else padTo 48 b

@[simp] theorem State.length_reportDigest (s : State) (b : List Byte) : (s.reportDigest b).length = 48 := by
  unfold State.reportDigest; split
  · rfl
  · exact length_padTo ..

/-- The five digests of a report. -/
def State.reportDigests (s : State) : List Byte :=
  s.reportDigest s.fw.runningDigest ++ s.reportDigest s.calDigest ++ s.reportDigest s.healthDigest.toBytes
    ++ s.reportDigest ((s.plan.map (·.digest)).getD []) ++ s.reportDigest s.cfgDigest.toBytes

/-- What stands before the digests. -/
def State.reportHead (s : State) : List Byte :=
  le 8 (0x54545441 + 2 ^ 32 + s.mode.code * 2 ^ 36 + b2n s.timed * 2 ^ 40 + b2n (s.mode = .loader) * 2 ^ 41)
    ++ le 8 Config.serial.toNat ++ padTo 32 s.fw.nonce ++ le 8 (if s.timed then s.ctime.toNat else 0) ++ le 8 (s.num PD.STEP_NUMBER % 2 ^ 48)

@[simp] theorem State.length_reportHead (s : State) : s.reportHead.length = 64 := by simp [State.reportHead]
@[simp] theorem State.length_reportDigests (s : State) : s.reportDigests.length = 240 := by simp [State.reportDigests]

theorem State.reportBody_eq (s : State) : s.reportBody = s.reportHead ++ s.reportDigests
    ++ le 8 (s.num PD.FW_ROLLBACK_MIN % 2 ^ 32) ++ le 8 (s.num PD.FW_OWNER_SIG_REQUIRED) := by
  simp only [State.reportBody, State.reportHead, State.reportDigests, State.reportDigest, List.append_assoc, decide_eq_true_eq]

/-- Each field of a report by its place. -/
theorem State.reportBody_fields (s : State) : s.reportBody.length = 320
    ∧ sub s.reportBody 0 8 = le 8 (0x54545441 + 2 ^ 32 + s.mode.code * 2 ^ 36 + b2n s.timed * 2 ^ 40 + b2n (s.mode = .loader) * 2 ^ 41)
    ∧ sub s.reportBody 8 8 = le 8 Config.serial.toNat ∧ sub s.reportBody 16 32 = padTo 32 s.fw.nonce
    ∧ sub s.reportBody 48 8 = le 8 (if s.timed then s.ctime.toNat else 0) ∧ sub s.reportBody 56 8 = le 8 (s.num PD.STEP_NUMBER % 2 ^ 48)
    ∧ sub s.reportBody 64 240 = s.reportDigests ∧ sub s.reportBody 304 8 = le 8 (s.num PD.FW_ROLLBACK_MIN % 2 ^ 32)
    ∧ sub s.reportBody 312 8 = le 8 (s.num PD.FW_OWNER_SIG_REQUIRED) := by
  have inHead : ∀ {o n}, o + n ≤ 64 → sub s.reportBody o n = sub s.reportHead o n := by
    intro o n h
    rw [State.reportBody_eq, List.append_assoc, List.append_assoc]
    exact sub_append_of_le (by rw [State.length_reportHead]; exact h)
  refine ⟨by simp [State.reportBody_eq], (inHead (by decide)).trans ?_, (inHead (by decide)).trans ?_, (inHead (by decide)).trans ?_,
    (inHead (by decide)).trans ?_, (inHead (by decide)).trans ?_, ?_, ?_, ?_⟩
  · simp (disch := simp) only [State.reportHead, sub_append_of_le, sub_whole]
  · simp (disch := simp) only [State.reportHead, sub_append_of_le, sub_append_last]
  · simp (disch := simp) only [State.reportHead, sub_append_of_le, sub_append_last]
  · simp (disch := simp) only [State.reportHead, sub_append_of_le, sub_append_last]
  · simp (disch := simp) only [State.reportHead, sub_append_last]
  · simp (disch := simp) only [State.reportBody_eq, sub_append_of_le, sub_append_last]
  · simp (disch := simp) only [State.reportBody_eq, sub_append_of_le, sub_append_last]
  · simp (disch := simp) only [State.reportBody_eq, sub_append_last]

theorem State.reportDigests_loader {s : State} (h : s.mode = .loader) : s.reportDigests = zeros 240 := by
  unfold State.reportDigests State.reportDigest
  simp only [if_pos h, zeros, List.replicate_append_replicate, Nat.reduceAdd]

/-- Outside LOADER each digest of a report by its place. -/
theorem State.reportBody_digests {s : State} (h : s.mode ≠ .loader) : sub s.reportBody 64 48 = padTo 48 s.fw.runningDigest
    ∧ sub s.reportBody 112 48 = padTo 48 s.calDigest ∧ sub s.reportBody 160 48 = padTo 48 s.healthDigest.toBytes
    ∧ sub s.reportBody 208 48 = padTo 48 ((s.plan.map (·.digest)).getD []) ∧ sub s.reportBody 256 48 = padTo 48 s.cfgDigest.toBytes := by
  have inDigests : ∀ {o n}, o + n ≤ 240 → sub s.reportBody (64 + o) n = sub s.reportDigests o n := by
    intro o n h
    rw [State.reportBody_eq, sub_append_of_le (by simp; omega), sub_append_of_le (by simp; omega)]
    exact sub_append_right (State.length_reportHead s) o n
  have digest : ∀ b, s.reportDigest b = padTo 48 b := fun b => if_neg h
  refine ⟨(inDigests (o := 0) (by decide)).trans ?_, (inDigests (o := 48) (by decide)).trans ?_, (inDigests (o := 96) (by decide)).trans ?_,
    (inDigests (o := 144) (by decide)).trans ?_, (inDigests (o := 192) (by decide)).trans ?_⟩
  · unfold State.reportDigests
    rw [sub_append_of_le (by simp), sub_append_of_le (by simp), sub_append_of_le (by simp), sub_append_of_le (by simp), sub_whole (by simp), digest]
  · unfold State.reportDigests
    rw [sub_append_of_le (by simp), sub_append_of_le (by simp), sub_append_of_le (by simp), sub_append_last (by simp) (by simp), digest]
  · unfold State.reportDigests
    rw [sub_append_of_le (by simp), sub_append_of_le (by simp), sub_append_last (by simp) (by simp), digest]
  · unfold State.reportDigests
    rw [sub_append_of_le (by simp), sub_append_last (by simp) (by simp), digest]
  · unfold State.reportDigests
    rw [sub_append_last (by simp) (by simp), digest]

theorem exec_attestReport_idle {s : State} (h : s.fw.nonce = []) : exec .attestReport s = .next s := if_pos (.inl (by rw [h]; rfl))

theorem exec_attestReport_reports {s : State} (asked : s.fw.nonce ≠ []) (runs : s.mode.hubRuns = true) : ∃ u, exec .attestReport s = .next u
    ∧ u.num PD.ATTEST_RESULT = 0 ∧ u.fw.nonce = [] ∧ (u.pdGet PD.ATTEST_REPORT).toBytes = s.reportBody ++ padTo 96 (Config.identitySign s.free s.reportBody) :=
  ⟨_, if_neg (by rw [runs]; simpa using asked), State.num_setNum, rfl,
    (congrArg PdVal.toBytes (State.pdGet_pdSet_ne (by decide))).trans State.bytes_setBytes⟩

end Sys2Proof.Machine

open Sys2Proof Sys2Proof.Machine

/-- Settles O57: an activation by the queue's test, a nonce by what is in progress, a report by its fields. -/
theorem activationIsScheduledAndReportsAreSigned : Obligations.ActivationIsScheduledAndReportsAreSigned := by
  unfold Obligations.ActivationIsScheduledAndReportsAreSigned
  refine fun s w => ⟨fun runs t => ?activate, fun nonce => ?nonce, exec_attestReport_idle, fun asked runs => ?report⟩
  case activate =>
    refine ⟨s.fwSchedule t, if_pos runs, ?_⟩
    have fits_iff : (s.num PD.FW_STAGE_STATE = 2 ∧ (s.mode = .held ∨ s.mode = .armed ∨ s.mode = .run ∨ s.mode = .drain) ∧ s.timed = true
        ∧ s.ctime.toNat < t.toNat ∧ t.toNat ≤ s.ctime.toNat + 2 ^ 24 * 65536 ∧ s.events.length < 1024)
        ↔ s.num PD.FW_STAGE_STATE = 2 ∧ s.mode.working = true ∧ s.evTest t = .ok := by rw [Mode.working_iff, State.evTest_ok_iff]
    rw [fits_iff]
    by_cases fits : s.num PD.FW_STAGE_STATE = 2 ∧ s.mode.working = true ∧ s.evTest t = .ok
    · rw [State.fwSchedule_queued fits.1 fits.2.1 fits.2.2]
      exact ⟨rfl, State.num_setNum_ne (by decide), fun _ => ⟨State.num_setNum, rfl⟩, fun h => absurd fits h⟩
    · rcases State.fwSchedule_refused fits with h | h <;> rw [h]
      · exact ⟨State.fwResult_mode, State.num_fwResult_ne (by decide), fun h => absurd h fits, fun _ => ⟨State.num_fwResult, State.fwResult_events⟩⟩
      · exact ⟨State.fwResult_mode, (State.num_fwResult_ne (by decide)).trans (State.num_bump_ne (by decide)), fun h => absurd h fits,
          fun _ => ⟨State.num_fwResult, State.fwResult_events⟩⟩
  case nonce =>
    refine ⟨s.attestStart nonce, rfl, ?_⟩
    rw [← Mode.attests_iff]
    refine ⟨fun opens idle => ?_, fun opens busy => ?_, State.attestStart_closed⟩
    · rw [State.attestStart_idle opens idle]; exact ⟨State.num_setNum, rfl⟩
    · rw [State.attestStart_busy opens busy]; exact ⟨State.num_setNum, rfl⟩
  case report =>
    obtain ⟨u, run, result, nonce, report⟩ := exec_attestReport_reports asked runs
    obtain ⟨size, magic, serial, asked, time, step, digests, rollback, owner⟩ := s.reportBody_fields
    exact ⟨u, run, result, nonce, s.reportBody, report, size, magic, serial, asked, time, step,
      fun h => digests.trans (State.reportDigests_loader h), State.reportBody_digests, rollback, owner⟩
end

section
/-! Proofs of freezes (R489-R500): the actions of a course loss and the restart of the course unit (R50, R52), a freeze request, its scheduling, the
release, the read-out, and the statement FreezesAreRequestedReadOutAndReleased. -/
namespace Sys2Proof.Machine

/-! ## The actions of a course loss (R50) -/

/-- A module of a step, which a course loss holds unless it stays. -/
def Mode.stepping (m : Mode) : Prop := m = .armed ∨ m.running = true

theorem Mode.stepping_iff {m : Mode} : m.stepping ↔ m = .armed ∨ m = .run ∨ m = .drain := by unfold Mode.stepping; cases m <;> decide

/-- The events of a lost course go, and an idle-bank write that waits for one is settled. -/
def State.courseCleared (s : State) : State :=
  { s with events := [], cal := { s.cal with idle := if s.cal.idle = .queued then .settled else s.cal.idle } }

/-- The first actions of R50: no event is left, an activation fails, and the reason is noted. -/
def State.courseReasoned (s : State) : State :=
  let activation : Bool := s.events.any fun e => e.kind = .firmware
  let s := s.courseCleared
  let s := if activation then (s.fwSpall 2 10 0).fwResult 10 else s
  s.reason rsCourse

/-- They are recorded. -/
def State.courseReported (s : State) (before : Nat) (stay : Bool) : State :=
  let s := s.courseReasoned
  s.spall { kind := 0x22, level := 3, mech := 12, outcome := if (s.mode = .armed ∨ s.mode.running) ∧ !stay then 3 else 0
            detail := [detailUint 0 before] }

/-- The actions of R50 but for the leaving of a step: the open step is void, the attempt over. -/
def State.courseActed (s : State) (before : Nat) (stay : Bool) : State :=
  let s := s.courseReported before stay
  if s.step.opened then s.voidLocally else s.endAttempt

theorem courseReasoned_run {f K s0} (hf : 110363480687104 ||| f = f) (hK : ∀ x, x ∈ ([0x600004, 0xA10001, 0xA10006, 0xB01006] : List Nat) → x ∈ K)
    {s} (h : Run f K s0 s) : Run f K s0 (State.courseReasoned s) := by
  have cleared : Run f K s0 s.courseCleared := run_upd_events_cal (orr hf rfl) h
  exact reason_run (orr hf rfl) (sbk hK rfl)
    (ite_run (fwResult_run (orr hf rfl) (sbk hK rfl) (fwSpall_run (orr hf rfl) (sbk hK rfl) cleared)) cleared)

section
variable (s : State) (before : Nat) (stay : Bool)

@[simp] theorem State.courseReasoned_mode : s.courseReasoned.mode = s.mode :=
  (courseReasoned_run (f := 110363480687104) rfl (fun _ => id) (Run.refl _ _ s)).part .mode rfl

@[simp] theorem State.courseReasoned_events : s.courseReasoned.events = [] := by
  unfold State.courseReasoned
  dsimp only
  rw [State.reason_events]
  split
  · rw [State.fwResult_events]; exact (State.run_fwSpall _ 2 10 0).part .events rfl
  · rfl

@[simp] theorem State.courseReported_events : (s.courseReported before stay).events = [] :=
  (State.spall_events ..).trans s.courseReasoned_events

theorem State.run_courseActed : Run 110435944416768 [0x600002, 0x600003, 0x600004, 0x600007, 0x600203, 0xA10001, 0xA10006, 0xB01006] s
    (s.courseActed before stay) := by
  have reported : Run 110435944416768 [0x600002, 0x600003, 0x600004, 0x600007, 0x600203, 0xA10001, 0xA10006, 0xB01006] s (s.courseReported before stay) := by
    unfold State.courseReported
    exact spall_run rfl (fun _ => subk_mem rfl) (courseReasoned_run rfl (fun _ => subk_mem rfl) (Run.refl _ _ s))
  unfold State.courseActed
  exact ite_run (voidLocally_run rfl (fun _ => subk_mem rfl) reported) (endAttempt_run rfl (fun _ => subk_mem rfl) reported)

/-- An attempt that ends takes events away and adds none. -/
theorem State.endAttempt_events_nil {s : State} (h : s.events = []) : s.endAttempt.events = [] := by
  show s.events.filter _ = []
  rw [h]; rfl

theorem State.voidStep_events_nil {s : State} (code reasons modules origin time : Nat) (h : s.events = []) :
    (s.voidStep code reasons modules origin time).events = [] := by
  unfold State.voidStep
  rw [State.cause_events]
  refine State.endAttempt_events_nil (Eq.trans (Run.part (f := 35600433202176) (K := [PD.STEP_ATTEMPT]) ?_ .events rfl) h)
  exact setNum_run (fun _ => id) (resetStreams_run rfl nofun (discard_run rfl nofun (stopArrays_run rfl nofun
    (run_upd_step rfl (endPhase_run rfl nofun (Run.refl _ _ s))))))

theorem State.voidLocally_events_nil {s : State} (h : s.events = []) : s.voidLocally.events = [] := by
  obtain ⟨m, o, t, eq⟩ := s.voidLocally_eq
  rw [eq, State.bump_events]
  exact State.voidStep_events_nil _ _ _ _ _ ((s.run_votedVoid.part .events rfl).trans h)

@[simp] theorem State.voidLocally_opened : s.voidLocally.step.opened = false := by
  obtain ⟨m, o, t, eq⟩ := s.voidLocally_eq
  rw [eq, State.bump_step, State.voidStep_opened]

@[simp] theorem State.courseActed_events : (s.courseActed before stay).events = [] := by
  unfold State.courseActed
  dsimp only
  split
  · exact State.voidLocally_events_nil (State.courseReported_events ..)
  · exact State.endAttempt_events_nil (State.courseReported_events ..)

@[simp] theorem State.courseActed_opened : (s.courseActed before stay).step.opened = false := by
  unfold State.courseActed
  dsimp only
  split
  · exact State.voidLocally_opened _
  · rfl

@[simp] theorem State.courseActed_mode : (s.courseActed before stay).mode = s.mode := (s.run_courseActed before stay).part .mode rfl

/-- The actions of R50 are those of a loss, and a module of a step that need not stay goes to HELD. -/
theorem State.courseActions_eq : s.courseActions before stay
    = if (s.mode = .armed ∨ s.mode.running) ∧ !stay then (s.courseActed before stay).leaveFor .held else s.courseActed before stay := by
  rw [← s.courseReasoned_mode]
  rfl

theorem State.run_courseActions : Run 110435944416961 [0x600002, 0x600003, 0x600004, 0x600007, 0x600203, 0xA10001, 0xA10006, 0xB01006] s
    (s.courseActions before stay) := courseActions_run rfl (fun _ => id) (Run.refl _ _ s)

@[simp] theorem State.courseActions_events : (s.courseActions before stay).events = [] := by
  rw [State.courseActions_eq]
  split
  · rw [State.leaveFor_events, State.courseActed_events]; rfl
  · exact State.courseActed_events ..

@[simp] theorem State.courseActions_opened : (s.courseActions before stay).step.opened = false := by
  rw [State.courseActions_eq]
  split
  · rw [State.leaveFor_step, State.endAttempt_opened]
  · exact State.courseActed_opened ..

theorem State.courseActions_mode : (s.courseActions before stay).mode = if (s.mode = .armed ∨ s.mode.running) ∧ !stay then .held else s.mode := by
  rw [State.courseActions_eq]
  split
  · exact State.leaveFor_mode ..
  · exact State.courseActed_mode ..

@[simp] theorem State.courseActions_course : (s.courseActions before stay).course = s.course := (s.run_courseActions before stay).part .course rfl
@[simp] theorem State.courseActions_freeze : (s.courseActions before stay).freeze = s.freeze := (s.run_courseActions before stay).part .freeze rfl
end

/-! ## The restart of the course unit (R52) -/

section
variable (s : State)

theorem State.run_courseRestart : Run 35596688950016 [0x202003] s s.courseRestart := courseRestart_run rfl (fun _ => id) (Run.refl _ _ s)

/-- An entry to another state than LOCKED changes no event. -/
theorem State.setCourse_events {st : CourseState} (unlocked : st ≠ .locked) : (s.setCourse st).events = s.events := by
  unfold State.setCourse
  split
  · rfl
  · exact State.cause_events ..

theorem State.setCourse_st (st : CourseState) : (s.setCourse st).course.st = st := by
  unfold State.setCourse
  split
  · next same => exact same
  · refine (congrArg Course.st (State.cause_course ..)).trans ?_
    split
    · exact congrArg Course.st (Run.part (f := 35596688949760) (K := [0x202003]) (queueMeasures_run rfl (fun _ => id) (Run.refl _ _ _)) .course rfl)
    · rfl

theorem State.courseRestart_events : s.courseRestart.events = s.events := State.setCourse_events s (by split <;> nofun)

theorem State.courseRestart_st : s.courseRestart.course.st = if s.course.configured = true then .acquiring else .unlocked := State.setCourse_st ..
end

/-! ## A freeze request (R489, R491) -/

theorem Mode.freezes_iff {m : Mode} : m.freezes = true ↔ m = .calibrate ∨ m = .held ∨ m = .armed ∨ m = .run ∨ m = .drain ∨ m = .fault := by
  cases m <;> decide

theorem Mode.freezes_eq_false {m : Mode} :
    m.freezes = false ↔ ¬ (m = .calibrate ∨ m = .held ∨ m = .armed ∨ m = .run ∨ m = .drain ∨ m = .fault) := by
  rw [← Mode.freezes_iff, Bool.not_eq_true]

/-- The module is FROZEN by trigger c: the state that it left, the trigger, the published time and the course state are latched, and the course unit is
LOST; pins, events, step and stores are as they were. -/
structure Froze (s u : State) (c : Nat) : Prop where
  mode : u.mode = .frozen
  from_ : u.freeze.from_ = s.mode
  trigger : u.freeze.trigger = c
  latch : u.freeze.latch = s.ctime
  courseBefore : u.freeze.courseBefore = s.course.st.code
  lastSent : u.freeze.lastSent = false
  st : u.course.st = .lost
  segs : u.course.segs = []
  counted : u.num PD.FREEZE_COUNT = (s.num PD.FREEZE_COUNT + 1) % 2 ^ 64
  lost : u.num PD.COURSE_LOST_ENTRIES = (s.num PD.COURSE_LOST_ENTRIES + 1) % 2 ^ 64
  ready : u.ready = s.ready
  faultN : u.faultN = s.faultN
  events : u.events = s.events
  step : u.step = s.step
  mem : u.mem = s.mem
  freezeN : u.freezeN = s.freezeN

theorem State.freezeNow_froze (s : State) (c : Nat) : Froze s (s.freezeNow c) c := by
  refine ⟨?_, rfl, rfl, rfl, rfl, rfl, rfl, rfl, ?_, ?_, ?_, ?_, ?_, ?_, ?_, ?_⟩
  · exact s.enter_mode .frozen
  · refine (State.num_bump_ne (s := (s.enter .frozen).bump PD.FREEZE_COUNT) (by decide)).trans (State.num_bump.trans ?_)
    rw [State.num_enter]
  · refine (State.num_bump (s := (s.enter .frozen).bump PD.FREEZE_COUNT)).trans ?_
    rw [State.num_bump_ne (by decide), State.num_enter]
  · exact s.enter_ready .frozen
  · exact s.enter_faultN .frozen
  · exact s.enter_events .frozen
  · exact s.enter_step .frozen
  · exact s.enter_mem .frozen
  · exact s.enter_freezeN .frozen

theorem State.freezeRequest_froze {s : State} (h : s.mode.freezes = true) (c : Nat) : Froze s (s.freezeRequest c) c := by
  unfold State.freezeRequest
  rw [if_pos h]
  exact s.freezeNow_froze c

/-- Elsewhere a request merges into the freeze in progress, does nothing without supplies or in RESET, or is ignored and counted. -/
theorem State.freezeRequest_refused {s : State} (h : s.mode.freezes = false) (c : Nat) :
    s.freezeRequest c = if s.mode = .frozen ∨ s.mode = .off ∨ s.mode = .reset then s else s.bump PD.FREEZE_IGNORED := by
  unfold State.freezeRequest
  rw [if_neg (by rw [h]; decide)]
  cases s.mode <;> rfl

/-- A request that does not freeze changes nothing but FREEZE_IGNORED. -/
theorem State.freezeRequest_same {s : State} (h : s.mode.freezes = false) (c : Nat) :
    ((s.freezeRequest c).mode = s.mode ∧ (s.freezeRequest c).events = s.events ∧ (s.freezeRequest c).step = s.step ∧ (s.freezeRequest c).mem = s.mem
      ∧ (s.freezeRequest c).freeze = s.freeze ∧ (s.freezeRequest c).course = s.course)
    ∧ (s.freezeRequest c).num PD.FREEZE_IGNORED = if s.mode = .frozen ∨ s.mode = .off ∨ s.mode = .reset then s.num PD.FREEZE_IGNORED
      else (s.num PD.FREEZE_IGNORED + 1) % 2 ^ 64 := by
  rw [State.freezeRequest_refused h]
  split
  · exact ⟨⟨rfl, rfl, rfl, rfl, rfl, rfl⟩, rfl⟩
  · exact ⟨⟨rfl, rfl, rfl, rfl, rfl, rfl⟩, State.num_bump⟩

theorem State.freezeRequest_freezeN (s : State) (c : Nat) : (s.freezeRequest c).freezeN = s.freezeN := by
  cases h : s.mode.freezes with
  | true => exact (State.freezeRequest_froze h c).freezeN
  | false =>
    rw [State.freezeRequest_refused h]
    split
    · rfl
    · rfl

/-! ## The release (R499, R500) -/

/-- The state that the module froze in, with the row of FREEZE_LAST. -/
def State.thawBegun (s : State) (ns : Nat) : State :=
  { s.enter s.freeze.from_ with
    freeze := { s.freeze with lastSent := false
                              last := [[s.freeze.trigger, s.freeze.latch.toNat, s.freeze.frames, s.freeze.uncorr, ns]] } }

/-- The actions of R50 and the restart of the course unit in that state. -/
def State.thawCourse (s : State) (ns : Nat) : State := ((s.thawBegun ns).courseActions s.freeze.courseBefore false).courseRestart

/-- Of the release but the ports: a record still awaited is due. -/
def State.thawGather (s : State) (ns : Nat) : State :=
  let gather : Bool := s.step.due.contains .gather || s.events.any fun e => e.kind = .gather
  if gather then { s.thawCourse ns with step := { (s.thawCourse ns).step with due := (s.thawCourse ns).step.due ++ [.gather] } } else s.thawCourse ns

section
variable (s : State) (ns : Nat)

theorem State.thaw_eq : s.thaw ns = (s.thawGather ns).thawPorts := by
  have begun : { s.enter s.freeze.from_ with
      freeze := { (s.enter s.freeze.from_).freeze with
        lastSent := false, last := [[s.freeze.trigger, s.freeze.latch.toNat, s.freeze.frames, s.freeze.uncorr, ns]] } } = s.thawBegun ns := by
    unfold State.thawBegun; rw [State.enter_freeze]
  unfold State.thaw State.thawGather State.thawCourse
  rw [← begun]

/-- A released module is in the state that it froze in, or in HELD from a state of a step; no event is left, no step open, the course unit starts
afresh, and FREEZE_LAST has the freeze's row. -/
structure Released (s u : State) (ns : Nat) : Prop where
  mode : u.mode = if s.freeze.from_ = .armed ∨ s.freeze.from_ = .run ∨ s.freeze.from_ = .drain then .held else s.freeze.from_
  events : u.events = []
  opened : u.step.opened = false
  course : u.course.st = if s.course.configured = true then .acquiring else .unlocked
  freeze : u.freeze = { s.freeze with lastSent := false
                                      last := [[s.freeze.trigger, s.freeze.latch.toNat, s.freeze.frames, s.freeze.uncorr, ns]] }
  freezeN : u.freezeN = s.freezeN
  outs : s.outs <+: u.outs

section
variable {s u : State} {ns : Nat} (h : Released s u ns)
include h

theorem Released.lastSent : u.freeze.lastSent = false := by rw [h.freeze]
theorem Released.frames : u.freeze.frames = s.freeze.frames := by rw [h.freeze]
theorem Released.uncorr : u.freeze.uncorr = s.freeze.uncorr := by rw [h.freeze]
theorem Released.last : u.freeze.last = [[s.freeze.trigger, s.freeze.latch.toNat, u.freeze.frames, u.freeze.uncorr, ns]] := by rw [h.freeze]
end

theorem State.thawCourse_released : Released s (s.thawCourse ns) ns := by
  have restart := State.run_courseRestart ((s.thawBegun ns).courseActions s.freeze.courseBefore false)
  have acted := State.run_courseActions (s.thawBegun ns) s.freeze.courseBefore false
  refine ⟨(restart.part .mode rfl).trans ((State.courseActions_mode ..).trans ?_), ?_, ?_, ?_, ?_, ?_, ?_⟩
  · have mode : (s.thawBegun ns).mode = s.freeze.from_ := s.enter_mode _
    rw [mode]
    exact if_congr ((and_iff_left rfl).trans Mode.stepping_iff) rfl rfl
  · exact (State.courseRestart_events _).trans (State.courseActions_events ..)
  · exact (congrArg Step.opened (restart.part .step rfl)).trans (State.courseActions_opened ..)
  · refine (State.courseRestart_st _).trans ?_
    rw [State.courseActions_course]
    exact congrArg (fun c : Course => if c.configured = true then CourseState.acquiring else .unlocked) (s.enter_course _)
  · exact (restart.part .freeze rfl).trans ((acted.part .freeze rfl).trans rfl)
  · exact (restart.part .freezeN rfl).trans ((acted.part .freezeN rfl).trans (s.enter_freezeN _))
  · exact (enter_run rfl (fun _ => id) (Run.refl 35596688949441 [] s)).outs.trans (acted.outs.trans restart.outs)

theorem State.thaw_released : Released s (s.thaw ns) ns := by
  have gathered : Released s (s.thawGather ns) ns := by
    obtain ⟨mode, events, opened, course, freeze, freezeN, outs⟩ := s.thawCourse_released ns
    unfold State.thawGather
    dsimp only
    split
    · exact ⟨mode, events, opened, course, freeze, freezeN, outs⟩
    · exact ⟨mode, events, opened, course, freeze, freezeN, outs⟩
  have ports := thawPorts_run rfl (fun _ => id) (Run.refl 68719476736 [] (s.thawGather ns))
  rw [State.thaw_eq]
  exact ⟨(ports.part .mode rfl).trans gathered.mode, (ports.part .events rfl).trans gathered.events,
    (congrArg Step.opened (ports.part .step rfl)).trans gathered.opened, (congrArg Course.st (ports.part .course rfl)).trans gathered.course,
    (ports.part .freeze rfl).trans gathered.freeze, (ports.part .freezeN rfl).trans gathered.freezeN, gathered.outs.trans ports.outs⟩
end

/-! ## The read-out (R494-R498) -/

/-- Its first frame is the inventory; without a region it is the last one. -/
theorem State.readoutFrames_map (s : State) (index : Nat) (upsets : List (Nat × Upset)) : ∃ rest last,
    (s.readoutFrames index upsets).map (·.1) = froutFrame 0 0 0 0 0 false last s.inventory :: rest ∧ (s.rows PD.FREEZE_MAP = [] → last = true) := by
  refine ⟨_, (s.readoutPieces index upsets).isEmpty, rfl, fun none => ?_⟩
  unfold State.readoutPieces
  rw [none]; rfl

/-- The read-out's frames have left, and are counted. -/
def State.readOut (s : State) (upsets : List (Nat × Upset)) (cycles : Nat) : State :=
  let fs := State.readoutFrames { s with free := s.free + 1 } s.free upsets
  { s with free := s.free + 1
           outs := s.outs ++ fs.map fun f => .frout f.1
           freeze := { s.freeze with frames := fs.length, uncorr := (fs.filter (·.2)).length, cycles := cycles, lastSent := true } }

/-- What its end releases. -/
def State.readOutReleases (s : State) : Prop := (s.freeze.trigger = 0 ∧ s.freezeN = true) ∨ (s.freeze.trigger ≠ 0 ∧ s.num PD.FREEZE_RELEASE = 0)

theorem exec_readoutEnd {s : State} (frozen : s.mode = .frozen) (ref : s.clk.refclk = true) (once : s.freeze.lastSent = false)
    (upsets : List (Nat × Upset)) (cycles : Nat) :
    (s.readOutReleases → exec (.readoutEnd upsets cycles) s = .next ((s.readOut upsets cycles).thaw (10 * cycles)))
    ∧ (¬ s.readOutReleases → exec (.readoutEnd upsets cycles) s = .next (s.readOut upsets cycles)) := by
  have once : ¬ (s.mode ≠ .frozen ∨ !s.clk.refclk ∨ s.freeze.lastSent) := by rw [frozen, ref, once]; decide
  have run : exec (.readoutEnd upsets cycles) s = if (if s.freeze.trigger = 0 then s.freezeN else s.num PD.FREEZE_RELEASE = 0)
      then .next ((s.readOut upsets cycles).thaw (10 * cycles)) else .next (s.readOut upsets cycles) := (if_neg once).trans rfl
  have releases : s.readOutReleases ↔ (if s.freeze.trigger = 0 then s.freezeN else s.num PD.FREEZE_RELEASE = 0) := by
    unfold State.readOutReleases
    by_cases pin : s.freeze.trigger = 0
    · simp [pin]
    · simp [pin]
  exact ⟨fun go => run.trans (if_pos (releases.1 go)), fun stay => run.trans (if_neg fun h => stay (releases.2 h))⟩

/-! ## Commands (R489, R490, R498) -/

theorem exec_freezeN_low {s : State} (high : s.freezeN = true) :
    exec (.freezeN false) s = .next (({ s with freezeN := false } : State).freezeRequest 0) := if_neg (by rw [high]; decide)

theorem exec_freezeN_same (s : State) : exec (.freezeN s.freezeN) s = .next s := if_pos rfl

section
variable {s : State} (low : s.freezeN = false)
include low

theorem exec_freezeN_releases (h : s.mode = .frozen ∧ s.freeze.lastSent = true ∧ (s.freeze.trigger = 0 ∨ s.num PD.FREEZE_RELEASE = 1)) :
    ∃ ns, exec (.freezeN true) s = .next (({ s with freezeN := true, free := s.free + 1 } : State).thaw ns) :=
  ⟨_, (if_neg (by rw [low]; decide)).trans ((if_neg (by decide)).trans ((if_pos h).trans rfl))⟩

theorem exec_freezeN_stays (h : ¬ (s.mode = .frozen ∧ s.freeze.lastSent = true ∧ (s.freeze.trigger = 0 ∨ s.num PD.FREEZE_RELEASE = 1))) :
    exec (.freezeN true) s = .next { s with freezeN := true } :=
  (if_neg (by rw [low]; decide)).trans ((if_neg (by decide)).trans (if_neg h))
end

/-- The code of the first of R53's tests that holds. -/
theorem State.evTest_code (s : State) (t : CTime) : (s.evTest t).code = if s.timed = false then 4 else if t.toNat ≤ s.ctime.toNat then 1
    else if s.ctime.toNat + 2 ^ 24 * 65536 < t.toNat then 2 else if 1024 ≤ s.events.length then 3 else 0 := by
  unfold State.evTest
  cases s.timed with
  | false => rfl
  | true => simp only [apply_ite EvStatus.code]; rfl

theorem exec_freezeCmd {s : State} (h : s.mode ≠ .calibrate) : exec (.freezeCmd 1) s = .next (s.freezeRequest 1) := congrArg Host.Outcome.next (if_neg h)

/-- In CALIBRATE no command acts; the freeze is refused and counted. -/
theorem exec_freezeCmd_calibrate {s : State} (h : s.mode = .calibrate) : exec (.freezeCmd 1) s = .next (s.bump PD.FREEZE_IGNORED) :=
  congrArg Host.Outcome.next (if_pos h)

section
variable {s : State} {t : CTime} (runs : s.mode.hubRuns = true)
include runs

theorem exec_freezeAt_closed (h : ¬ s.mode.freezes = true ∨ s.mode = .calibrate) : exec (.freezeAt t) s = .next (s.setNum PD.FREEZE_RESULT 5) :=
  (if_pos runs).trans (congrArg Host.Outcome.next (if_pos (h.imp_left fun n => by simpa using n)))

theorem exec_freezeAt_tested (h : ¬ (¬ s.mode.freezes = true ∨ s.mode = .calibrate)) : exec (.freezeAt t) s
    = .next ((s.present ⟨t, .freeze, 0, 0⟩).2.setNum PD.FREEZE_RESULT (s.present ⟨t, .freeze, 0, 0⟩).1.code) :=
  (if_pos runs).trans (congrArg Host.Outcome.next (if_neg fun n => h (n.imp_left fun n => by simpa using n)))
end

theorem State.present_code {s : State} (e : Event) : (s.present e).1 = s.evTest e.time := by
  by_cases ok : s.evTest e.time = .ok
  · rw [State.present_ok ok, ok]
  · rw [State.present_refused ok]

theorem State.present_events {s : State} (e : Event) :
    (s.present e).2.events = if (s.evTest e.time).code = 0 then s.events ++ [e] else s.events := by
  by_cases ok : s.evTest e.time = .ok
  · rw [State.present_ok ok, ok]; rfl
  · rw [State.present_refused ok, if_neg fun h => ok (by cases c : s.evTest e.time <;> rw [c] at h <;> first | rfl | cases h)]
    rfl

theorem State.present_mode {s : State} (e : Event) : (s.present e).2.mode = s.mode := by
  by_cases ok : s.evTest e.time = .ok
  · rw [State.present_ok ok]
  · rw [State.present_refused ok]; rfl

end Sys2Proof.Machine

open Sys2Proof Sys2Proof.Machine

/-- Settles O55: a request by the state that it meets, a scheduled freeze by R53's tests, a read-out by its frames, a release by the actions of a
course loss. -/
theorem freezesAreRequestedReadOutAndReleased : Obligations.FreezesAreRequestedReadOutAndReleased := by
  unfold Obligations.FreezesAreRequestedReadOutAndReleased
  refine fun s _ => ⟨fun high => ?low, exec_freezeN_same s, fun low => ⟨fun h => ?releases, exec_freezeN_stays low⟩, fun open_ => ?command,
    fun calibrate => ?ignored, fun v h => if_neg h, fun runs t => ?scheduled, fun frozen ref once upsets cycles => ?readOut⟩
  case low =>
    refine ⟨_, exec_freezeN_low high, State.freezeRequest_freezeN _ 0, fun h => ?_, fun h => ?_⟩
    · have froze := State.freezeRequest_froze (s := { s with freezeN := false }) (Mode.freezes_iff.2 h) 0
      exact ⟨froze.mode, froze.from_, froze.trigger, froze.latch, froze.courseBefore, froze.lastSent, froze.st, froze.segs, froze.counted, froze.lost,
        froze.ready, froze.faultN, froze.events, froze.step, froze.mem⟩
    · exact State.freezeRequest_same (s := { s with freezeN := false }) (Mode.freezes_eq_false.2 h) 0
  case releases =>
    obtain ⟨ns, run⟩ := exec_freezeN_releases low h
    have released := State.thaw_released { s with freezeN := true, free := s.free + 1 } ns
    refine ⟨_, run, released.freezeN, ⟨released.mode, released.events, released.opened, released.course, released.lastSent,
      ns, released.last⟩, released.frames, released.uncorr⟩
  case command =>
    refine ⟨s.freezeRequest 1, exec_freezeCmd open_, fun h => ?_, fun h => ?_⟩
    · have froze := State.freezeRequest_froze (Mode.freezes_iff.2 h) 1
      exact ⟨froze.mode, froze.from_, froze.trigger, froze.latch, froze.courseBefore, froze.lastSent, froze.st, froze.segs, froze.counted, froze.lost,
        froze.ready, froze.faultN, froze.events, froze.step, froze.mem⟩
    · exact State.freezeRequest_same (Mode.freezes_eq_false.2 h) 1
  case ignored =>
    exact ⟨s.bump PD.FREEZE_IGNORED, exec_freezeCmd_calibrate calibrate, ⟨rfl, rfl, rfl, rfl, rfl, rfl⟩, State.num_bump⟩
  case scheduled =>
    have closes : ∀ {a b : Nat}, (if ¬ (s.mode = .calibrate ∨ s.mode = .held ∨ s.mode = .armed ∨ s.mode = .run ∨ s.mode = .drain ∨ s.mode = .fault)
        ∨ s.mode = .calibrate then a else b) = if ¬ s.mode.freezes = true ∨ s.mode = .calibrate then a else b := fun {_ _} =>
      if_congr (or_congr_left (not_congr Mode.freezes_iff.symm)) rfl rfl
    rw [closes]
    by_cases closed : ¬ s.mode.freezes = true ∨ s.mode = .calibrate
    · refine ⟨_, exec_freezeAt_closed runs closed, State.num_setNum.trans (if_pos closed).symm, ?_, rfl⟩
      rw [State.num_setNum]
      rfl
    · refine ⟨_, exec_freezeAt_tested runs closed, State.num_setNum.trans ?_, ?_, State.present_mode _⟩
      · rw [State.present_code, if_neg closed]
        exact s.evTest_code t
      · rw [State.num_setNum, State.present_code]
        exact State.present_events _
  case readOut =>
    obtain ⟨release, stay⟩ := exec_readoutEnd frozen ref once upsets cycles
    obtain ⟨rest, last, inventory, only⟩ := State.readoutFrames_map { s with free := s.free + 1 } s.free upsets
    have first : ∃ rest, ((State.readoutFrames { s with free := s.free + 1 } s.free upsets).map (·.1)
          = froutFrame 0 0 0 0 0 false (s.rows PD.FREEZE_MAP).isEmpty s.inventory :: rest
        ∨ s.rows PD.FREEZE_MAP ≠ [] ∧ ∃ last, (State.readoutFrames { s with free := s.free + 1 } s.free upsets).map (·.1)
          = froutFrame 0 0 0 0 0 false last s.inventory :: rest) := by
      by_cases none : s.rows PD.FREEZE_MAP = []
      · rw [only none] at inventory
        exact ⟨rest, .inl (by rw [none]; exact inventory)⟩
      · exact ⟨rest, .inr ⟨none, last, inventory⟩⟩
    by_cases go : s.readOutReleases
    · have released := (s.readOut upsets cycles).thaw_released (10 * cycles)
      obtain ⟨more, outs⟩ := released.outs
      refine ⟨_, release go, first, released.frames, released.uncorr,
        ⟨more, outs.symm, fun n => absurd go n⟩, fun _ => ⟨released.mode, released.events, released.opened, released.course,
          released.lastSent, _, released.last⟩, fun n => absurd go n⟩
    · exact ⟨_, stay go, first, rfl, rfl, ⟨[], (List.append_nil _).symm, fun _ => rfl⟩, fun n => absurd n go, fun _ => ⟨frozen, rfl⟩⟩
end

section
/-! Proofs of supplies and RESET (R28, R347, R403, R455, R458): what a loss of power or RESET keeps, the release of RESET_N, and the statement
SuppliesAndTheResetPinMoveTheModule. -/
namespace Sys2Proof.Machine

/-! ## What RESET keeps (R28, R347, R403) -/

section
variable (s : State) (m : Mode)

theorem State.keepOver_rollback : (s.keepOver m).num PD.FW_ROLLBACK_MIN = s.num PD.FW_ROLLBACK_MIN := by
  unfold State.keepOver
  dsimp only
  rw [State.num_setNum_ne (by decide), State.num_setNum_ne (by decide), State.num_setNum_ne (by decide), State.num_setNum_ne (by decide),
    State.num_setNum]

/-- Every entry but those that flash and fuses keep reads its default. -/
theorem State.num_keepOver {k : Nat} (h : k ∉ [PD.FW_ROLLBACK_MIN, PD.FW_OWNER_SIG_REQUIRED, PD.SPALL_FLASH_NEXT, PD.SPALL_NEWEST, PD.SPALL_ACK]) :
    (s.keepOver m).num k = State.reset.num k := by
  simp only [List.mem_cons, List.not_mem_nil, or_false, not_or] at h
  obtain ⟨minimum, owner, next, newest, ack⟩ := h
  unfold State.keepOver
  dsimp only
  rw [State.num_setNum_ne ack, State.num_setNum_ne newest, State.num_setNum_ne next, State.num_setNum_ne owner, State.num_setNum_ne minimum]
  rfl

theorem State.mem_keepOver (c : Nat × Byte) : c ∈ (s.keepOver m).mem ↔ c ∈ s.mem ∧ c.1 / 2 ^ 48 = stFlash := by
  refine (List.mem_filter (as := s.mem)).trans ?_
  rw [decide_eq_true_eq]

end

/-- What a loss of power or RESET leaves: the flash's bytes alone, no plan, stream, pane, layer history, session, event or link, the pins low and high,
the retired units, suspects, weak rows, owner's key and rollback minimum, and a default step number. -/
structure Lost (s : State) (m : Mode) (u : State) : Prop where
  mode : u.mode = m
  mem : ∀ c, c ∈ u.mem ↔ c ∈ s.mem ∧ c.1 / 2 ^ 48 = stFlash
  plan : u.plan = none
  streams : u.streams = []
  panes : u.upd.panes = []
  layers : u.layers = []
  sessions : u.dict.sessions = []
  events : u.events = []
  cells : u.cells = []
  ports : ∀ p, p < 12 → (u.port p).st = .down
  ep0 : u.ep0.linkUp = false
  ep1 : u.ep1.linkUp = false
  ready : u.ready = false
  faultN : u.faultN = true
  retiredCells : u.faults.retiredCells = s.faults.retiredCells
  retiredBlocks : u.faults.retiredBlocks = s.faults.retiredBlocks
  suspects : u.faults.suspects = s.faults.suspects
  weak : u.memUnit.weak = s.memUnit.weak
  ownerKey : u.dict.ownerKey = s.dict.ownerKey
  rollback : u.num PD.FW_ROLLBACK_MIN = s.num PD.FW_ROLLBACK_MIN
  stepNumber : u.num PD.STEP_NUMBER = State.reset.num PD.STEP_NUMBER

/-- The state with the two reset pins at given levels. -/
def State.withPins (s : State) (resetN good : Bool) : State := { s with resetN := resetN, pwrGood := good }

/-- The reset pins are no part of it. -/
theorem Lost.withPins {s u : State} {m : Mode} (h : Lost s m u) (resetN good : Bool) : Lost s m (u.withPins resetN good) :=
  ⟨h.mode, h.mem, h.plan, h.streams, h.panes, h.layers, h.sessions, h.events, h.cells, h.ports, h.ep0, h.ep1, h.ready, h.faultN, h.retiredCells,
    h.retiredBlocks, h.suspects, h.weak, h.ownerKey, h.rollback, h.stepNumber⟩

theorem State.num_withPins (s : State) (resetN good : Bool) (k : Nat) : (s.withPins resetN good).num k = s.num k := State.num_of_pd rfl k

theorem State.keepOver_lost (s : State) (m : Mode) : Lost s m (s.keepOver m) :=
  ⟨rfl, s.mem_keepOver m, rfl, rfl, rfl, rfl, rfl, rfl, rfl, fun _ _ => rfl, rfl, rfl, rfl, rfl, rfl, rfl, rfl, rfl, rfl,
    s.keepOver_rollback m, s.num_keepOver m (by decide)⟩

/-- RESET_CAUSE is no part of it. -/
theorem Lost.setCause {s u : State} {m : Mode} (h : Lost s m u) (cause : Nat) : Lost s m (u.setNum PD.RESET_CAUSE cause) :=
  ⟨h.mode, h.mem, h.plan, h.streams, h.panes, h.layers, h.sessions, h.events, h.cells, h.ports, h.ep0, h.ep1, h.ready, h.faultN, h.retiredCells,
    h.retiredBlocks, h.suspects, h.weak, h.ownerKey, (State.num_setNum_ne (by decide)).trans h.rollback,
    (State.num_setNum_ne (by decide)).trans h.stepNumber⟩

/-! ## The commands (R455) -/

section
variable {s : State}

theorem exec_powerOff (h : s.mode ≠ .off) : exec .powerOff s = .next ((s.keepOver .off).withPins false false) := if_neg h

theorem exec_powerUp (h : s.mode = .off) : exec .powerUp s = .next ((s.keepOver .reset).withPins false false) := if_pos h

theorem exec_resetAssert (off : s.mode ≠ .off) (reset : s.mode ≠ .reset) (good : Bool) : exec (.resetAssert good) s
    = .next (((s.keepOver .reset).withPins (s.resetN && !good) good).setNum PD.RESET_CAUSE (if good then 1 else 2)) :=
  (if_neg off).trans (if_neg reset)

theorem exec_resetAssert_again (h : s.mode = .reset) (good : Bool) :
    exec (.resetAssert good) s = .next { s with resetN := s.resetN && !good, pwrGood := s.pwrGood && good } :=
  (if_neg (by rw [h]; decide)).trans (if_pos h)

theorem exec_resetRelease (h : s.mode = .reset) (slot : BitVec 6) (side ref : Bool) : exec (.resetRelease slot side ref) s
    = .next (({ s with resetN := true, pwrGood := true, slotId := slot, bondSide := side, clk := { refclk := ref } } : State).enter .boot) := if_pos h
end

end Sys2Proof.Machine

open Sys2Proof Sys2Proof.Machine

/-- Settles O51: each command by the state that it meets, and what a loss of power or RESET keeps field by field. -/
theorem suppliesAndTheResetPinMoveTheModule : Obligations.SuppliesAndTheResetPinMoveTheModule := by
  unfold Obligations.SuppliesAndTheResetPinMoveTheModule
  -- the statement lists what a loss leaves field by field
  have fields : ∀ {s u : State} {m : Mode}, Lost s m u → u.mode = m ∧ (∀ c, c ∈ u.mem ↔ c ∈ s.mem ∧ c.1 / 2 ^ 48 = stFlash)
      ∧ u.plan = none ∧ u.streams = [] ∧ u.upd.panes = [] ∧ u.layers = [] ∧ u.dict.sessions = [] ∧ u.events = [] ∧ u.cells = []
      ∧ (∀ p, p < 12 → (u.port p).st = .down) ∧ u.ep0.linkUp = false ∧ u.ep1.linkUp = false ∧ u.ready = false ∧ u.faultN = true
      ∧ u.faults.retiredCells = s.faults.retiredCells ∧ u.faults.retiredBlocks = s.faults.retiredBlocks ∧ u.faults.suspects = s.faults.suspects
      ∧ u.memUnit.weak = s.memUnit.weak ∧ u.dict.ownerKey = s.dict.ownerKey ∧ u.num PD.FW_ROLLBACK_MIN = s.num PD.FW_ROLLBACK_MIN
      ∧ u.num PD.STEP_NUMBER = State.reset.num PD.STEP_NUMBER := fun h =>
    ⟨h.mode, h.mem, h.plan, h.streams, h.panes, h.layers, h.sessions, h.events, h.cells, h.ports, h.ep0, h.ep1, h.ready, h.faultN, h.retiredCells,
      h.retiredBlocks, h.suspects, h.weak, h.ownerKey, h.rollback, h.stepNumber⟩
  refine fun s => ⟨fun on => ⟨_, exec_powerOff on, fields ((s.keepOver_lost .off).withPins _ _)⟩,
    fun off => ⟨_, exec_powerUp off, fields ((s.keepOver_lost .reset).withPins _ _), (State.num_withPins ..).trans (s.num_keepOver .reset (by decide))⟩,
    fun good off reset => ⟨_, exec_resetAssert off reset good, fields (((s.keepOver_lost .reset).withPins _ _).setCause _), State.num_setNum, rfl, rfl⟩,
    fun good reset => exec_resetAssert_again reset good, fun slot side ref reset => ⟨_, exec_resetRelease reset slot side ref, State.enter_mode ..,
      State.enter_slotId .., State.enter_bondSide .., State.enter_resetN .., State.enter_pwrGood .., State.enter_clk .., State.enter_mem ..⟩,
    fun off => if_pos off, fun on => if_neg on, fun good off => if_pos off, fun slot side ref stays => if_neg stays⟩
end

section
/-! Proofs of a loss and a return of REFCLK (R449-R454, R464, R493, R526): what COAST takes and keeps, the state that it ends in, and the statement
AReferenceLossCoastsAndItsReturnResumes. -/
namespace Sys2Proof.Machine

/-! ## Grants over records (R483, R486) -/

/-- The Foreman's queue and its running grants are as before. -/
def State.sameGrants (s t : State) : Prop := t.faults.running = s.faults.running ∧ t.faults.queue = s.faults.queue

theorem State.sameGrants.trans {s t u : State} (h : s.sameGrants t) (k : t.sameGrants u) : s.sameGrants u := ⟨k.1.trans h.1, k.2.trans h.2⟩

theorem State.sameGrants_of_faults {s t : State} (h : t.faults = s.faults) : s.sameGrants t := ⟨congrArg _ h, congrArg _ h⟩

theorem State.ringPush_sameGrants (s : State) (b : List Byte) : s.sameGrants (s.ringPush b) := by
  unfold State.ringPush
  dsimp only
  split
  · exact ⟨rfl, rfl⟩
  · split
    · exact ⟨rfl, rfl⟩
    · exact ⟨rfl, rfl⟩

theorem State.spall_sameGrants (s : State) (p : Spall) : s.sameGrants (s.spall p) :=
  (s.ringPush_sameGrants _).trans (State.sameGrants_of_faults (State.cause_faults ..))

theorem State.concernedDigest_faults (s : State) (event : Nat) : (s.concernedDigest event).2.faults = s.faults := by
  unfold State.concernedDigest
  split
  · rfl
  · split
    · rfl
    · split
      · rfl
      · rfl

theorem State.fwSpall_sameGrants (s : State) (event code part : Nat) : s.sameGrants (s.fwSpall event code part) :=
  (State.sameGrants_of_faults (s.concernedDigest_faults event)).trans (State.spall_sameGrants _ _)

section
variable (s : State)

theorem State.run_voidLocally : Run 35669152679424 [0x600002, 0x600003, 0x600004, 0x600007, 0x600203] s s.voidLocally :=
  voidLocally_run rfl (fun _ => id) (Run.refl _ _ s)

theorem State.run_leaveFor (m : Mode) : Run 35597763479233 [0x600003, 0x600004] s (s.leaveFor m) := leaveFor_run rfl (fun _ => id) (Run.refl _ _ s)

theorem State.endAttempt_faults : s.endAttempt.faults = s.faults := rfl
theorem State.endAttempt_cal : s.endAttempt.cal = s.cal := rfl

theorem State.courseReasoned_faults : s.sameGrants s.courseReasoned := by
  unfold State.courseReasoned
  dsimp only
  refine State.sameGrants.trans ?_ (State.sameGrants_of_faults (State.reason_faults ..))
  split
  · exact State.sameGrants.trans (State.fwSpall_sameGrants s.courseCleared 2 10 0) (State.sameGrants_of_faults (State.cause_faults ..))
  · exact ⟨rfl, rfl⟩

theorem State.courseReasoned_cal : s.courseReasoned.cal = s.courseCleared.cal := by
  unfold State.courseReasoned
  dsimp only
  rw [State.reason_cal]
  split
  · exact (State.cause_cal ..).trans ((State.run_fwSpall _ 2 10 0).part .cal rfl)
  · rfl

variable (before : Nat) (stay : Bool)

/-- The rest of the actions of a course loss leaves the Foreman and the calibration alone, but for a spall. -/
theorem State.courseActed_faults : (s.courseActed before stay).faults = (s.courseReported before stay).faults := by
  unfold State.courseActed
  dsimp only
  split
  · exact (State.run_voidLocally _).part .faults rfl
  · exact State.endAttempt_faults _

theorem State.courseActed_cal : (s.courseActed before stay).cal = s.courseCleared.cal := by
  have reported : (s.courseReported before stay).cal = s.courseCleared.cal := (State.spall_cal ..).trans s.courseReasoned_cal
  refine Eq.trans ?_ reported
  unfold State.courseActed
  dsimp only
  split
  · exact (State.run_voidLocally _).part .cal rfl
  · exact State.endAttempt_cal _

theorem State.courseActions_sameGrants : s.sameGrants (s.courseActions before stay) := by
  have acted : s.sameGrants (s.courseActed before stay) :=
    (s.courseReasoned_faults.trans (State.spall_sameGrants _ _)).trans (State.sameGrants_of_faults (s.courseActed_faults before stay))
  rw [State.courseActions_eq]
  split
  · exact acted.trans (State.sameGrants_of_faults ((State.run_leaveFor _ _).part .faults rfl))
  · exact acted

theorem State.courseActions_cal : (s.courseActions before stay).cal = s.courseCleared.cal := by
  rw [State.courseActions_eq]
  split
  · exact ((State.run_leaveFor _ _).part .cal rfl).trans (s.courseActed_cal before stay)
  · exact s.courseActed_cal before stay
end

theorem State.courseActions_cal_idle (s : State) (before : Nat) (stay : Bool) :
    (s.courseActions before stay).cal = { s.cal with idle := (s.courseActions before stay).cal.idle } := by
  rw [State.courseActions_cal]
  rfl

/-- A change of state moves no PCIe link. -/
theorem State.enter_linkUp (s : State) (m : Mode) (i : Ep) : ((s.enter m).ep i).linkUp = (s.ep i).linkUp := by
  unfold State.enter
  dsimp only
  split
  · obtain ⟨st, p, own, -⟩ := State.ep_cause { s with mode := m, ready := m.readyPin s.ready, faultN := m.faultPin s.faultN } i (k := irqState) (by decide)
    rw [own]
    rfl
  · rfl

/-! ## Entry to COAST (R451) -/

/-- The course is lost and its actions follow. -/
def State.coastCourse (s : State) : State := s.courseLost.courseActions s.course.st.code true

/-- The record of the entry. -/
def State.coastRecord (s : State) : Spall :=
  { kind := 0x33, level := 3, mech := 13, outcome := if s.step.opened then 2 else 0, detail := [detailUint 0 s.mode.code] }

/-- The streams stop, links go down, measurement and control stop, running grants go back to their queue. -/
def State.coastStopped (s : State) : State :=
  let t := s.coastCourse.spall s.coastRecord
  let t := if s.mode.running then t.pauseStreams else t
  let t := t.dropPorts
  let t : State := { t with ep0 := { t.ep0 with linkUp := false }, ep1 := { t.ep1 with linkUp := false } }
  t.stopMeasure.requeueGrants

/-- Whether a multiplexer switch is under way, which a BOOT without its loops leaves open. -/
def State.coastSwitch (s : State) : Bool × State :=
  if s.mode = .boot ∧ !s.coastStopped.clk.onLoop then (decide (Config.fnNat 17 [] s.coastStopped.free % 2 = 1), s.coastStopped.fresh.2)
  else (false, s.coastStopped)

/-- A state whose free choices stand at n. -/
def State.drawn (s : State) (n : Nat) : State := { s with free := n }

theorem State.fresh_snd (s : State) : s.fresh.2 = s.drawn (s.free + 1) := rfl
theorem State.drawn_free (s : State) : s.drawn s.free = s := rfl

theorem State.coastSwitch_free (s : State) : ∃ n, s.coastSwitch.2 = s.coastStopped.drawn n := by
  unfold State.coastSwitch
  split
  · exact ⟨_, s.coastStopped.fresh_snd⟩
  · exact ⟨s.coastStopped.free, s.coastStopped.drawn_free.symm⟩

/-- Bookkeeping of the clocks at the entry. -/
def State.coastClocks (s : State) (from_ : Mode) (w : Bool) : State := { s with clk := { s.clk with coastFrom := from_, waiting := w } }

/-- Both PCIe links are down. -/
def State.epsDown (s : State) : State := { s with ep0 := { s.ep0 with linkUp := false }, ep1 := { s.ep1 with linkUp := false } }

/-- The record of the entry, the streams paused, and the links down. -/
def State.coastLinks (s : State) : State :=
  let t := s.coastCourse.spall s.coastRecord
  (if s.mode.running then t.pauseStreams else t).dropPorts

theorem State.coastStopped_eq (s : State) : s.coastStopped = s.coastLinks.epsDown.stopMeasure.requeueGrants := rfl

/-- All but the change of state: measurement stops, grants go back to their queue, the clocks' bookkeeping. -/
def State.coastEntry (s : State) (n : Nat) (m : Mode) (w : Bool) : State :=
  { s with
    ep0 := { s.ep0 with linkUp := false }
    ep1 := { s.ep1 with linkUp := false }
    meas := { s.meas with running := [], waiting := [], tickOpen := false, xfer := none }
    faults := { s.faults with queue := s.faults.running ++ s.faults.queue, running := [] }
    free := n
    clk := { s.clk with coastFrom := m, waiting := w } }

theorem State.coastEntry_eq (s : State) (n : Nat) (m : Mode) (w : Bool) :
    (s.epsDown.stopMeasure.requeueGrants.drawn n).coastClocks m w = s.coastEntry n m w := by
  unfold State.epsDown State.stopMeasure State.requeueGrants State.drawn State.coastClocks State.coastEntry
  dsimp only

section
variable (s : State) (n : Nat) (m : Mode) (w : Bool)

theorem State.coastEntry_course : (s.coastEntry n m w).course = s.course := rfl
theorem State.coastEntry_events : (s.coastEntry n m w).events = s.events := rfl
theorem State.coastEntry_step : (s.coastEntry n m w).step = s.step := rfl
theorem State.coastEntry_link : (s.coastEntry n m w).link = s.link := rfl
theorem State.coastEntry_mem : (s.coastEntry n m w).mem = s.mem := rfl
theorem State.coastEntry_plan : (s.coastEntry n m w).plan = s.plan := rfl
theorem State.coastEntry_cal : (s.coastEntry n m w).cal = s.cal := rfl
theorem State.coastEntry_faultN : (s.coastEntry n m w).faultN = s.faultN := rfl
theorem State.coastEntry_linkUp (i : Ep) : ((s.coastEntry n m w).ep i).linkUp = false := by revert i; exact fun | 0 => rfl | 1 => rfl
theorem State.coastEntry_meas : (s.coastEntry n m w).meas = { s.meas with running := [], waiting := [], tickOpen := false, xfer := none } := rfl
theorem State.coastEntry_faults : (s.coastEntry n m w).faults = { s.faults with queue := s.faults.running ++ s.faults.queue, running := [] } := rfl
theorem State.coastEntry_clk : (s.coastEntry n m w).clk = { s.clk with coastFrom := m, waiting := w } := rfl
end

theorem State.coast_eq (s : State) : ∃ w n, s.coast = (s.coastLinks.coastEntry n s.mode.afterCoast w).enter .coast := by
  obtain ⟨n, free⟩ := s.coastSwitch_free
  have eq : s.coast = (s.coastSwitch.2.coastClocks s.mode.afterCoast s.coastSwitch.1).enter .coast := rfl
  exact ⟨s.coastSwitch.1, n, by rw [eq, free, State.coastStopped_eq, State.coastEntry_eq]⟩

theorem State.run_coastLinks (s : State) : Run 40063455724544 [0xA10001, 0xA10006] s.coastCourse s.coastLinks := by
  unfold State.coastLinks
  have recorded : Run 40063455724544 [0xA10001, 0xA10006] s.coastCourse (s.coastCourse.spall s.coastRecord) :=
    spall_run rfl (fun _ => id) (Run.refl _ _ _)
  exact dropPorts_run rfl nofun (ite_run (pauseStreams_run rfl nofun recorded) recorded)

theorem State.run_courseLost (s : State) : Run 35596688950016 [0x201108, 0x202003] s s.courseLost := courseLost_run rfl (fun _ => id) (Run.refl _ _ s)

/-- A property that each written port has holds of every port of the list, whatever the others are. -/
theorem State.port_each_setPort {P : LinkPort → Prop} {f : LinkPort → LinkPort} (hf : ∀ l, P (f l)) {q : Nat} :
    ∀ (l : List Nat) (s : State), q ∈ l ∨ P (s.port q) → P ((s.each l fun s p => s.setPort p (f (s.port p))).port q)
  | [], s, h => h.resolve_left List.not_mem_nil
  | p :: l, s, h => by
    refine State.port_each_setPort hf l (s.setPort p (f (s.port p))) ?_
    by_cases same : q = p
    · rw [same]; exact .inr (by rw [State.port_setPort]; exact hf _)
    · refine h.imp (fun m => (List.mem_cons.1 m).resolve_left same) fun held => ?_
      have other : (s.setPort p (f (s.port p))).port q = s.port q := kvGet_set_ne _ _ _ _ same _
      rw [other]
      exact held

theorem State.dropPorts_down (s : State) {p : Nat} (hp : p < 12) : (s.dropPorts.port p).st = .down :=
  State.port_each_setPort (P := fun l => l.st = .down)
    (f := fun l => { l with st := .down, peer := none, retraining := false, replay := [], waiting := [] }) (fun _ => rfl) (List.range 12) s
    (.inl (List.mem_range.2 hp))

theorem State.coastLinks_down (s : State) {p : Nat} (hp : p < 12) : (s.coastLinks.port p).st = .down := State.dropPorts_down _ hp

theorem State.dropPorts_faults (s : State) : s.dropPorts.faults = s.faults :=
  (dropPorts_run rfl nofun (Run.refl 68719476736 [] s)).part .faults rfl
theorem State.pauseStreams_faults (s : State) : s.pauseStreams.faults = s.faults := rfl

theorem State.coastLinks_sameGrants (s : State) : s.coastCourse.sameGrants s.coastLinks := by
  have recorded := s.coastCourse.spall_sameGrants s.coastRecord
  unfold State.coastLinks
  dsimp only
  split
  · exact (recorded.trans (State.sameGrants_of_faults (State.pauseStreams_faults _))).trans (State.sameGrants_of_faults (State.dropPorts_faults _))
  · exact recorded.trans (State.sameGrants_of_faults (State.dropPorts_faults _))

theorem State.coastCourse_sameGrants (s : State) : s.sameGrants s.coastCourse :=
  (State.sameGrants_of_faults (s.run_courseLost.part .faults rfl)).trans (State.courseActions_sameGrants _ _ _)

/-- Keys that the entry to COAST may write. -/
def coastKeys : List Nat := [0x201108, 0x202003, 0x600002, 0x600003, 0x600004, 0x600007, 0x600203, 0xA10001, 0xA10006, 0xB01006]

theorem State.run_coast (s : State) : Run 113734479300545 coastKeys s s.coast := coast_run rfl (fun _ => id) (Run.refl _ _ s)

section
variable (s : State)

theorem State.courseLost_st : s.courseLost.course.st = .lost := State.setCourse_st _ _

theorem State.num_setCourse {st : CourseState} (unlocked : st ≠ .locked) (k : Nat) : (s.setCourse st).num k = s.num k := by
  unfold State.setCourse
  split
  · rfl
  · exact State.num_cause ..

theorem State.num_courseLost : s.courseLost.num PD.COURSE_LOST_ENTRIES = (s.num PD.COURSE_LOST_ENTRIES + 1) % 2 ^ 64 :=
  (State.num_setCourse _ (by decide) _).trans State.num_bump

/-- The actions of R50 that leave the module where it is drive no pin. -/
theorem State.courseActions_stay_faultN (before : Nat) : (s.courseActions before true).faultN = s.faultN := by
  rw [State.courseActions_eq, if_neg fun h => absurd h.2 (by decide)]
  exact (s.run_courseActed before true).part .faultN rfl

/-- COAST as it stands after its entry. -/
structure Coasting (s u : State) : Prop where
  mode : u.mode = .coast
  st : u.course.st = .lost
  events : u.events = []
  opened : u.step.opened = false
  ports : ∀ p, p < 12 → (u.port p).st = .down
  ep0 : u.ep0.linkUp = false
  ep1 : u.ep1.linkUp = false
  running : u.meas.running = []
  waiting : u.meas.waiting = []
  queue : u.faults.queue = s.faults.running ++ s.faults.queue
  granted : u.faults.running = []
  mem : u.mem = s.mem
  plan : u.plan = s.plan
  cal : u.cal = { s.cal with idle := u.cal.idle }
  ready : u.ready = false
  faultN : u.faultN = s.faultN
  refclk : u.clk.refclk = s.clk.refclk
  coastFrom : u.clk.coastFrom = s.mode.afterCoast

theorem State.coast_coasting : Coasting s s.coast := by
  obtain ⟨w, n, eq⟩ := s.coast_eq
  have links := s.run_coastLinks
  have acted := State.run_courseActions s.courseLost s.course.st.code true
  have lost := s.run_courseLost
  have st : s.coastLinks.course.st = .lost :=
    (congrArg Course.st (links.part .course rfl)).trans ((congrArg Course.st (State.courseActions_course ..)).trans s.courseLost_st)
  have events : s.coastLinks.events = [] := (links.part .events rfl).trans (State.courseActions_events ..)
  have opened : s.coastLinks.step.opened = false := (congrArg Step.opened (links.part .step rfl)).trans (State.courseActions_opened ..)
  have grants := s.coastCourse_sameGrants.trans s.coastLinks_sameGrants
  have mem : s.coastLinks.mem = s.mem := (links.part .mem rfl).trans ((acted.part .mem rfl).trans (lost.part .mem rfl))
  have plan : s.coastLinks.plan = s.plan := (links.part .plan rfl).trans ((acted.part .plan rfl).trans (lost.part .plan rfl))
  have clk : s.coastLinks.clk = s.clk := (links.part .clk rfl).trans ((acted.part .clk rfl).trans (lost.part .clk rfl))
  have cal : s.coastLinks.cal = { s.cal with idle := s.coastLinks.cal.idle } := by
    have same : s.courseLost.cal = s.cal := lost.part .cal rfl
    have kept : s.coastLinks.cal = s.coastCourse.cal := links.part .cal rfl
    rw [kept, ← same]
    exact State.courseActions_cal_idle _ _ _
  have faultN : s.coastLinks.faultN = s.faultN :=
    (links.part .faultN rfl).trans ((State.courseActions_stay_faultN ..).trans (lost.part .faultN rfl))
  have ports := fun p (hp : p < 12) => s.coastLinks_down hp
  rw [eq]
  refine ⟨State.enter_mode .., ?_, ?_, ?_, fun p hp => ?_, ?_, ?_, ?_, ?_, ?_, ?_, ?_, ?_, ?_, State.enter_ready .., ?_, ?_, ?_⟩
  · rw [State.enter_course, State.coastEntry_course]; exact st
  · rw [State.enter_events, State.coastEntry_events]; exact events
  · rw [State.enter_step, State.coastEntry_step]; exact opened
  · rw [State.port_of_link (State.enter_link ..), State.port_of_link (State.coastEntry_link ..)]; exact ports p hp
  · exact (State.enter_linkUp _ .coast 0).trans (State.coastEntry_linkUp _ _ _ _ 0)
  · exact (State.enter_linkUp _ .coast 1).trans (State.coastEntry_linkUp _ _ _ _ 1)
  · rw [State.enter_meas, State.coastEntry_meas]
  · rw [State.enter_meas, State.coastEntry_meas]
  · rw [State.enter_faults, State.coastEntry_faults, grants.1, grants.2]
  · rw [State.enter_faults, State.coastEntry_faults]
  · rw [State.enter_mem, State.coastEntry_mem]; exact mem
  · rw [State.enter_plan, State.coastEntry_plan]; exact plan
  · rw [State.enter_cal, State.coastEntry_cal]; exact cal
  · rw [State.enter_faultN, State.coastEntry_faultN]; exact faultN
  · rw [State.enter_clk, State.coastEntry_clk, clk]
  · rw [State.enter_clk, State.coastEntry_clk]
end

theorem State.num_coast_lost {s : State} (w : s.dictOk = true) :
    s.coast.num PD.COURSE_LOST_ENTRIES = (s.num PD.COURSE_LOST_ENTRIES + 1) % 2 ^ 64 := by
  obtain ⟨v, n, eq⟩ := s.coast_eq
  have lost : s.courseLost.dictOk = true := s.run_courseLost.dict w
  have acted := State.run_courseActions s.courseLost s.course.st.code true
  have entry : ∀ t : State, (t.coastEntry n s.mode.afterCoast v).num PD.COURSE_LOST_ENTRIES = t.num PD.COURSE_LOST_ENTRIES := fun t =>
    State.num_of_pd rfl _
  rw [eq, State.num_enter, entry, s.run_coastLinks.num_eq (acted.dict lost) rfl (by decide)]
  exact (acted.num_eq lost rfl (by decide)).trans s.num_courseLost

/-- The clocks' flag of a missing reference. -/
theorem State.clkFlags_lost {s : State} (lost : s.clk.refclk = false) (boot : s.mode ≠ .boot) : s.clkFlags % 2 = 1 := by
  unfold State.clkFlags
  rw [lost, decide_eq_true boot, Nat.add_mul_mod_self_left]
  rfl

theorem State.clkFlags_none {s : State} (there : s.clk.refclk = true) (still : s.clk.waiting = false) : s.clkFlags = 0 := by
  unfold State.clkFlags
  rw [there, still]
  rfl

/-- REFCLK is gone, and the loss counted. -/
def State.refLost (s : State) : State := ({ s with clk := { s.clk with refclk := false } } : State).bump PD.REFCLK_LOSSES

theorem State.num_refLost (s : State) : s.refLost.num PD.REFCLK_LOSSES = (s.num PD.REFCLK_LOSSES + 1) % 2 ^ 64 := State.num_bump
theorem State.num_refLost_ne (s : State) {k : Nat} (ne : k ≠ PD.REFCLK_LOSSES) : s.refLost.num k = s.num k := State.num_bump_ne ne

/-- REFCLK is back. -/
def State.refBack (s : State) : State := { s with clk := { s.clk with refclk := true } }

/-! ## The return (R52, R396, R452) -/

/-- COAST's time is counted, no switch waits, and the module is in the state that COAST ends in. -/
def State.coastLeft (s : State) : State :=
  ({ s.fresh.2.bumpBy PD.COAST_NS (Config.fnNat 8 [] s.free) with clk := { s.clk with waiting := false } } : State).enter s.clk.coastFrom

/-- Links train, the course unit starts afresh, and HELD discovers its peers once. -/
def State.coastResumed (s : State) : State :=
  let t := (if s.coastLeft.linkTrains then s.coastLeft.epsUp else s.coastLeft).courseRestart
  if t.mode = .held then t.discoverOnce else t

theorem State.leaveCoast_eq (s : State) : s.leaveCoast = s.coastResumed.startCalibrate := rfl

section
variable (s : State)

theorem State.coastLeft_mode : s.coastLeft.mode = s.clk.coastFrom := State.enter_mode ..
theorem State.coastLeft_clk : s.coastLeft.clk = { s.clk with waiting := false } := State.enter_clk ..
theorem State.coastLeft_course : s.coastLeft.course = s.course := State.enter_course ..

theorem State.coastResumed_run : ∃ t, Run 412316860416 [] s.coastLeft t ∧ Run 35665408425984 [0x700103] t.courseRestart s.coastResumed := by
  refine ⟨if s.coastLeft.linkTrains then s.coastLeft.epsUp else s.coastLeft, ite_run (epsUp_run rfl nofun (Run.refl _ _ _)) (Run.refl _ _ _), ?_⟩
  exact ite_run (discoverOnce_run rfl (fun _ => id) (Run.refl _ _ _)) (Run.refl _ _ _)

theorem State.coastResumed_mode : s.coastResumed.mode = s.clk.coastFrom := by
  obtain ⟨t, up, rest⟩ := s.coastResumed_run
  exact (rest.part .mode rfl).trans ((t.run_courseRestart.part .mode rfl).trans ((up.part .mode rfl).trans s.coastLeft_mode))

theorem State.coastResumed_clk : s.coastResumed.clk = { s.clk with waiting := false } := by
  obtain ⟨t, up, rest⟩ := s.coastResumed_run
  exact (rest.part .clk rfl).trans ((t.run_courseRestart.part .clk rfl).trans ((up.part .clk rfl).trans s.coastLeft_clk))

theorem State.coastResumed_st : s.coastResumed.course.st = if s.course.configured = true then .acquiring else .unlocked := by
  obtain ⟨t, up, rest⟩ := s.coastResumed_run
  have same : t.course = s.course := (up.part .course rfl).trans s.coastLeft_course
  exact (congrArg Course.st (rest.part .course rfl)).trans (same ▸ t.courseRestart_st)
end

/-- CALIBRATE starts when both parts of a BOOT before it have ended; it changes mode, pins, arrays and calibration alone. -/
theorem State.startCalibrate_mode (s : State) :
    s.startCalibrate.mode = if s.mode = .boot ∧ s.clk.memory = true ∧ s.clk.flashReads = true then .calibrate else s.mode := by
  unfold State.startCalibrate
  split
  · exact State.enter_mode ..
  · rfl

theorem State.run_startCalibrate (s : State) : Run 35596690260161 [0x41100A] s s.startCalibrate := startCalibrate_run rfl (fun _ => id) (Run.refl _ _ s)

/-! ## The commands (R449-R454, R464) -/

theorem exec_refclkLoss_again {s : State} (h : s.mode = .frozen ∨ s.mode = .coast) : exec .refclkLoss s = .next s.refLost := by
  show execRefclkLoss s = _
  unfold execRefclkLoss
  split
  · next off => rw [off] at h; exact absurd h (by decide)
  · next reset => rw [reset] at h; exact absurd h (by decide)
  · rfl
  · rfl
  · next frozen coast => exact (h.elim frozen coast).elim

theorem exec_refclkLoss_coasts {s : State} (off : s.mode ≠ .off) (reset : s.mode ≠ .reset) (frozen : s.mode ≠ .frozen) (coast : s.mode ≠ .coast) :
    (s.clk.refclk = false → exec .refclkLoss s = .next s) ∧ (s.clk.refclk = true →
      exec .refclkLoss s = .next s.refLost.coast) := by
  have run : exec .refclkLoss s = if s.clk.refclk then
      .next s.refLost.coast else .next s := by
    show execRefclkLoss s = _
    unfold execRefclkLoss
    split
    · next h => exact absurd h off
    · next h => exact absurd h reset
    · next h => exact absurd h frozen
    · next h => exact absurd h coast
    · rfl
  exact ⟨fun h => run.trans (if_neg (by rw [h]; decide)), fun h => run.trans (if_pos h)⟩

end Sys2Proof.Machine

open Sys2Proof Sys2Proof.Machine

/-- Settles O53: a loss by the state that it meets and what its entry to COAST leaves, a return by the state that COAST ends in. -/
theorem aReferenceLossCoastsAndItsReturnResumes : Obligations.AReferenceLossCoastsAndItsReturnResumes := by
  unfold Obligations.AReferenceLossCoastsAndItsReturnResumes
  refine fun s w => ⟨fun h => ?asleep, fun h => ?again, fun off reset frozen coast => ⟨(exec_refclkLoss_coasts off reset frozen coast).1, fun ref => ?coasts⟩,
    fun ref => if_pos ref, fun gone stays => ?back, fun gone coast => ?returns, fun off reset ref loops loop => ?lock, fun runs loops still => ?snapshot⟩
  case asleep => rcases h with h | h <;> simp only [exec, execRefclkLoss, h]
  case again =>
    exact ⟨s.refLost, exec_refclkLoss_again h, rfl, rfl, s.num_refLost, State.clkFlags_lost rfl (by rcases h with h | h <;> exact h ▸ by decide)⟩
  case coasts =>
    have coasts := s.refLost.coast_coasting
    have lost : s.refLost.dictOk = true := State.dictOk_bump w
    have from_ : s.mode.afterCoast = match s.mode with
      | .boot | .calibrate => .boot
      | .loader => .loader
      | .fault => .fault
      | _ => .held := by cases s.mode <;> rfl
    exact ⟨_, (exec_refclkLoss_coasts off reset frozen coast).2 ref, coasts.mode, (s.refLost.run_coast.num_eq lost rfl (by decide)).trans s.num_refLost,
      (State.num_coast_lost lost).trans (by rw [s.num_refLost_ne (by decide)]), State.clkFlags_lost coasts.refclk (by rw [coasts.mode]; decide), coasts.st,
      coasts.events, coasts.opened, coasts.ports, coasts.ep0, coasts.ep1, coasts.running, coasts.waiting, coasts.queue, coasts.granted, coasts.mem,
      coasts.plan, coasts.cal, (s.refLost.run_coast.num_eq lost rfl (by decide)).trans (s.num_refLost_ne (by decide)), coasts.ready, coasts.faultN,
      coasts.refclk, coasts.coastFrom.trans from_⟩
  case back => exact (if_neg (by rw [gone]; decide)).trans (if_neg stays)
  case returns =>
    have run : exec .refclkReturn s = .next s.refBack.coastResumed.startCalibrate := (if_neg (by rw [gone]; decide)).trans (if_pos coast)
    have started := s.refBack.coastResumed.run_startCalibrate
    have clk : s.refBack.coastResumed.startCalibrate.clk = { s.refBack.clk with waiting := false } := (started.part .clk rfl).trans s.refBack.coastResumed_clk
    refine ⟨_, run, congrArg Clocks.refclk clk, congrArg Clocks.waiting clk, State.clkFlags_none (congrArg Clocks.refclk clk) (congrArg Clocks.waiting clk),
      ?_, (congrArg Course.st (started.part .course rfl)).trans s.refBack.coastResumed_st⟩
    rw [State.startCalibrate_mode, State.coastResumed_mode, State.coastResumed_clk]
    rfl
  case lock => exact ⟨_, if_pos ⟨off, reset, ref, loops⟩, State.num_bump, rfl, rfl⟩
  case snapshot => exact ⟨_, if_pos ⟨runs, loops, by rw [still]; rfl⟩, rfl⟩
end

section
/-! Proofs of the start-up (R344, R347, R449, R459-R461, R514): the rows of START_TABLE, the check of a package at a boot, the memory step by its parts,
and the statement StartUpStepsRunInOrderAndTheirFailuresAreNamed. -/
namespace Sys2Proof.Machine

/-! ## START_TABLE (R459) -/

/-- The clocks with rows added to START_TABLE. -/
def Clocks.logged (c : Clocks) (rows : List (List Nat)) : Clocks := { c with startTable := c.startTable ++ rows }

theorem Clocks.logged_logged (c : Clocks) (a b : List (List Nat)) : (c.logged a).logged b = c.logged (a ++ b) := by
  unfold Clocks.logged; rw [List.append_assoc]

/-- The row of a step that has ended. -/
def State.startRow (s : State) (x : Nat × Nat) : List Nat :=
  [Config.fnNat 16 [x.1, 0] s.free % 2 ^ 32, Config.fnNat 16 [x.1, 1] s.free % 2 ^ 32, x.2]

theorem State.run_started (s : State) (steps : List (Nat × Nat)) : Run 72567767433216 [] s (s.started steps) := started_run rfl nofun (Run.refl _ _ s)

/-- Steps that end add a row each, and change nothing else of the clocks. -/
theorem State.started_clk : ∀ (steps : List (Nat × Nat)) (s : State), ∃ rows : List (List Nat),
    (s.started steps).clk = s.clk.logged rows ∧ (rows.map fun r => r.getD 2 0) = steps.map (·.2)
  | [], s => ⟨[], by unfold Clocks.logged; rw [List.append_nil]; rfl, rfl⟩
  | x :: steps, s => by
    obtain ⟨rows, clk, results⟩ := State.started_clk steps (s.started [x])
    refine ⟨s.startRow x :: rows, ?_, by rw [List.map_cons, results]; rfl⟩
    have one : (s.started [x]).clk = s.clk.logged [s.startRow x] := rfl
    exact clk.trans (by rw [one, Clocks.logged_logged]; rfl)

/-! ## Failures (R461) -/

theorem State.run_startSpall (s : State) (step die mech outcome : Nat) : Run 39994735460352 [0xA10001, 0xA10006] s (s.startSpall step die mech outcome) :=
  startSpall_run rfl (fun _ => id) (Run.refl _ _ s)

theorem State.run_fault (s : State) : Run 48863292212929 [0x600002, 0x600003, 0x600004, 0x600007, 0x600203, 0xA10001, 0xA10006] s s.fault :=
  fault_run rfl (fun _ => id) (Run.refl _ _ s)

theorem State.run_epsUp (s : State) : Run 412316860416 [] s s.epsUp := epsUp_run rfl nofun (Run.refl _ _ s)

theorem State.fault_boot {s : State} (h : s.mode = .boot) : s.fault.mode = .fault := by
  have eq : s.fault = (s.leaveFor .fault).epsUp := by unfold State.fault; rw [h]
  rw [eq]
  exact ((State.run_epsUp _).part .mode rfl).trans (State.leaveFor_mode ..)

/-- A step fails: its rows, its spall, FAULT. -/
theorem State.stepFails {s : State} (h : s.mode = .boot) (steps : List (Nat × Nat)) (step die mech outcome : Nat) :
    (((s.started steps).startSpall step die mech outcome).fault).mode = .fault
    ∧ ∃ rows, (((s.started steps).startSpall step die mech outcome).fault).clk = s.clk.logged rows ∧ (rows.map fun r => r.getD 2 0) = steps.map (·.2) := by
  have recorded := (s.started steps).run_startSpall step die mech outcome
  obtain ⟨rows, clk, results⟩ := State.started_clk steps s
  exact ⟨State.fault_boot ((recorded.part .mode rfl).trans (((s.run_started steps).part .mode rfl).trans h)),
    rows, ((State.run_fault _).part .clk rfl).trans ((recorded.part .clk rfl).trans clk), results⟩

/-- Of the entries a failing step changes those of the spall ring and of the attempt that ends. -/
theorem State.num_stepFails {s : State} (w : s.dictOk = true) (steps : List (Nat × Nat)) (step die mech outcome : Nat) {k : Nat}
    (h : k ∉ [0x600002, 0x600003, 0x600004, 0x600007, 0x600203, 0xA10001, 0xA10006]) :
    (((s.started steps).startSpall step die mech outcome).fault).num k = s.num k := by
  have started := s.run_started steps
  have recorded := (s.started steps).run_startSpall step die mech outcome
  rw [(State.run_fault _).num_eq (recorded.dict (started.dict w)) rfl h, recorded.num_eq (started.dict w) rfl (fun m => h (subk_mem rfl m)),
    started.num_eq w rfl List.not_mem_nil]

theorem State.ep_of_parts {s t : State} (h0 : t.ep0 = s.ep0) (h1 : t.ep1 = s.ep1) (ep : Ep) : t.ep ep = s.ep ep := by
  unfold State.ep
  rw [h0, h1]

/-- One endpoint comes up where PERST is released. -/
def State.epUp (s : State) (i : Ep) : State := if (s.ep i).perstN then s.setEp i { s.ep i with linkUp := true, ready := true } else s

theorem State.epUp_up {s : State} {i : Ep} (h : (s.ep i).perstN = true) : (s.epUp i).ep i = { s.ep i with linkUp := true, ready := true } := by
  unfold State.epUp
  rw [if_pos h, State.ep_setEp_same]

theorem State.epUp_other (s : State) {i j : Ep} (ne : j ≠ i) : (s.epUp i).ep j = s.ep j := by
  unfold State.epUp
  split
  · exact State.ep_setEp_ne _ _ _ _ ne
  · rfl

theorem State.ep_epsUp {s : State} {ep : Ep} (h : (s.ep ep).perstN = true) : (s.epsUp.ep ep).linkUp = true ∧ (s.epsUp.ep ep).ready = true := by
  have both : s.epsUp = (s.epUp 0).epUp 1 := rfl
  rw [both]
  rcases (by clear h both; revert ep; decide : ep = 0 ∨ ep = 1) with rfl | rfl
  · rw [State.epUp_other _ (by decide), State.epUp_up h]
    exact ⟨rfl, rfl⟩
  · rw [State.epUp_up (by rw [State.epUp_other _ (by decide)]; exact h)]
    exact ⟨rfl, rfl⟩

theorem State.epUp_pd (s : State) (i : Ep) : (s.epUp i).pd = s.pd := by
  unfold State.epUp
  split
  · exact State.setEp_pd ..
  · rfl

theorem State.num_epsUp (s : State) (k : Nat) : s.epsUp.num k = s.num k := State.num_of_pd (((s.epUp 0).epUp_pd 1).trans (s.epUp_pd 0)) k

/-! ## The check of a package at a boot (R509, R514) -/

/-- A package passes for the parts that p picks. -/
def State.passes (s : State) (p : Nat → Bool) : Prop :=
  (s.fw.package = [] → s.flag PD.FW_OWNER_SIG_REQUIRED = false) ∧ ∀ r, r ∈ s.fw.package → p r.part = true → s.bootCode r = 0

theorem State.bootFault_eq_none {s : State} {p : Nat → Bool} : s.bootFault (fun r => p r.part) = none ↔ s.passes p := by
  unfold State.bootFault State.passes
  cases h : s.fw.package with
  | nil => cases s.flag PD.FW_OWNER_SIG_REQUIRED <;> simp
  | cons r rs => simp

/-- An activation under way has failed. -/
def State.activationFailed (s : State) (code : Nat) : State :=
  if s.num PD.FW_STAGE_STATE = 3 then (s.setNum PD.FW_STAGE_STATE 4).fwResult code else s

/-- No firmware runs. -/
def State.unrun (s : State) : State :=
  { s with fw := { s.fw with running := [], runningDigest := [] }, clk := { s.clk with firmware := false } }

section
variable (s : State) (code part : Nat)

theorem State.activationFailed_clk : (s.activationFailed code).clk = s.clk := by
  unfold State.activationFailed
  split
  · exact State.cause_clk ..
  · rfl

theorem State.num_activationFailed {s : State} (h : s.num PD.FW_STAGE_STATE = 3) : (s.activationFailed code).num PD.FW_STAGE_STATE = 4 := by
  unfold State.activationFailed
  rw [if_pos h, State.num_fwResult_ne (by decide), State.num_setNum]

theorem State.unrun_clk : s.unrun.clk = { s.clk with firmware := false } := rfl
theorem State.unrun_running : s.unrun.fw.running = [] := rfl
theorem State.num_unrun (k : Nat) : s.unrun.num k = s.num k := State.num_of_pd rfl k

theorem State.bootFails_eq : s.bootFails code part = ((((s.fwSpall 3 code part).activationFailed code).unrun).enter .loader).epsUp := rfl

/-- A boot whose verification fails is in LOADER, and no firmware runs; an activation under way has failed. -/
theorem State.bootFails_loader : (s.bootFails code part).mode = .loader ∧ (s.bootFails code part).clk = { s.clk with firmware := false }
    ∧ (s.bootFails code part).fw.running = []
    ∧ (s.dictOk = true → s.num PD.FW_STAGE_STATE = 3 → (s.bootFails code part).num PD.FW_STAGE_STATE = 4) := by
  rw [State.bootFails_eq]
  have spalled := s.run_fwSpall 3 code part
  have up := State.run_epsUp (((((s.fwSpall 3 code part).activationFailed code).unrun).enter .loader))
  refine ⟨(up.part .mode rfl).trans (State.enter_mode ..), (up.part .clk rfl).trans ?_, (congrArg Firmware.running (up.part .fw rfl)).trans ?_,
    fun w h => ?_⟩
  · rw [State.enter_clk, State.unrun_clk, State.activationFailed_clk, (spalled.part .clk rfl : (s.fwSpall 3 code part).clk = s.clk)]
  · rw [State.enter_fw, State.unrun_running]
  · rw [State.num_epsUp, State.num_enter, State.num_unrun]
    exact State.num_activationFailed code ((spalled.num_eq w rfl (by decide)).trans h)
end

/-! ## The memory step (R344, R347, R351, R461) -/

theorem State.slowDie_congr {s t : State} (h : t.clk.channels = s.clk.channels) (d : Nat) : t.slowDie d = s.slowDie d := by
  unfold State.slowDie
  rw [h]

theorem State.startCalibrate_of_boot {s : State} (boot : s.mode = .boot) (memory : s.clk.memory = true) :
    s.startCalibrate.mode = if s.clk.flashReads = true then .calibrate else .boot := by
  rw [State.startCalibrate_mode, boot, memory]
  cases s.clk.flashReads <;> rfl

section
variable {s : State} (stackUp : List Bool) (channels : List (Bool × Bool × Nat × Nat)) (repaired : List Nat)

/-- Stack n is recorded as failed, its dies out of health. -/
def State.stackFailed (s : State) (n : Nat) : State :=
  ((s.setNum PD.HEALTH_DIE_MASK (s.num PD.HEALTH_DIE_MASK - (s.num PD.HEALTH_DIE_MASK &&& (2 ^ n + 2 ^ (8 + n))))).started [(8, 1)]).startSpall 8 (20 + n) 17 4

theorem State.fillMemory_stack {n : Nat} (h : (List.range 8).find? (fun n => !(stackUp.getD n false)) = some n) :
    s.fillMemory stackUp channels repaired = (false, (s.clearForFill repaired).stackFailed n) := by
  unfold State.fillMemory
  rw [h]
  rfl

theorem State.fillMemory_slow (h : (List.range 8).find? (fun n => !(stackUp.getD n false)) = none) :
    s.fillMemory stackUp channels repaired = ((s.clearForFill repaired).trainSlow (fittedRows channels)).fillSlow := by
  unfold State.fillMemory
  rw [h]

/-- Either a stack has failed, and is the one that the search names, or none has. -/
theorem find_stack : (∃ n, (List.range 8).find? (fun n => !(stackUp.getD n false)) = some n ∧ n < 8 ∧ stackUp.getD n false = false)
    ∨ (List.range 8).find? (fun n => !(stackUp.getD n false)) = none := by
  cases h : (List.range 8).find? (fun n => !(stackUp.getD n false)) with
  | none => exact .inr rfl
  | some n => exact .inl ⟨n, rfl, List.mem_range.1 (List.mem_of_find?_eq_some h), by simpa using List.find?_some h⟩

theorem find_stack_none : (List.range 8).find? (fun n => !(stackUp.getD n false)) = none ↔ ∀ n, n < 8 → stackUp.getD n false = true := by
  simp [List.find?_eq_none]

theorem State.fillSlow_fails {d : Nat} (hd : d < 2) (h : s.slowDie d = 0) : ∃ e, s.fillSlow = (false, s.startSpall 9 (18 + e) 17 4) := by
  unfold State.fillSlow
  cases found : (List.range 2).find? fun d => s.slowDie d = 0 with
  | none => exact absurd (decide_eq_true h) (List.find?_eq_none.1 found d (List.mem_range.2 hd))
  | some e => exact ⟨e, rfl⟩

theorem State.fillSlow_fills (h : ∀ d, d < 2 → s.slowDie d ≠ 0) : s.fillSlow = (true, s.started [(10, 0)]) := by
  unfold State.fillSlow
  cases found : (List.range 2).find? fun d => s.slowDie d = 0 with
  | none => rfl
  | some e => exact absurd (by simpa using List.find?_some found) (h e (List.mem_range.1 (List.mem_of_find?_eq_some found)))

theorem State.run_clearForFill : Run 25769803776 [] s (s.clearForFill repaired) := clearForFill_run rfl nofun (Run.refl _ _ s)

theorem State.clearForFill_mem (c : Nat × Byte) : c ∈ (s.clearForFill repaired).mem ↔ c ∈ s.mem ∧ c.1 / 2 ^ 48 = stFlash := by
  unfold State.clearForFill
  dsimp only
  rw [List.mem_filter, decide_eq_true_eq]
  split
  · rfl
  · rfl

/-- The state with its channels as trained. -/
def State.withChannels (s : State) (rows : List (Nat × Nat × Nat × Bool)) : State := { s with clk := { s.clk with channels := rows } }

/-- The channels as trained, with their capacity. -/
def State.withCapacity (s : State) (rows : List (Nat × Nat × Nat × Bool)) : State :=
  (s.withChannels rows).setNum PD.SLOW_CAPACITY (((s.withChannels rows).slowDie 0 + (s.withChannels rows).slowDie 1) % 2 ^ 64)

/-- Training ends with two rows of START_TABLE and a record for each channel that failed. -/
theorem State.trainSlow_recorded (rows : List (Nat × Nat × Nat × Bool)) :
    ∃ steps, Run 39994735460352 [0xA10001, 0xA10006] ((s.withCapacity rows).started steps) (s.trainSlow rows) :=
  ⟨_, each_run (fun _ _ => startSpall_run rfl (fun _ => id)) (Run.refl _ _ _)⟩

theorem State.trainSlow_clk (rows : List (Nat × Nat × Nat × Bool)) : ∃ table, (s.trainSlow rows).clk = (s.withChannels rows).clk.logged table := by
  obtain ⟨steps, run⟩ := s.trainSlow_recorded rows
  obtain ⟨table, clk, -⟩ := State.started_clk steps (s.withCapacity rows)
  exact ⟨table, (run.part .clk rfl).trans clk⟩

theorem State.num_trainSlow (w : s.dictOk = true) (rows : List (Nat × Nat × Nat × Bool)) :
    (s.trainSlow rows).num PD.SLOW_CAPACITY = ((s.withChannels rows).slowDie 0 + (s.withChannels rows).slowDie 1) % 2 ^ 64 := by
  obtain ⟨steps, run⟩ := s.trainSlow_recorded rows
  have ok : (s.withCapacity rows).dictOk = true := State.dictOk_setNum w
  have started := (s.withCapacity rows).run_started steps
  rw [run.num_eq (started.dict ok) rfl (by decide), started.num_eq ok rfl List.not_mem_nil]
  exact State.num_setNum

theorem State.run_trainSlow (rows : List (Nat × Nat × Nat × Bool)) : Run 112562502893568 [0x800001, 0xA10001, 0xA10006] s (s.trainSlow rows) :=
  trainSlow_run rfl (fun _ => id) (Run.refl _ _ s)
end

/-- The slow tier trained in a BOOT whose stores have been cleared. -/
structure ColdTrained (s : State) (rows : List (Nat × Nat × Nat × Bool)) (repaired : List Nat) (u : State) : Prop where
  mode : u.mode = .boot
  clk : ∃ table, u.clk = (s.withChannels rows).clk.logged table
  mem : u.mem = (s.clearForFill repaired).mem
  ok : u.dictOk = true
  capacity : u.num PD.SLOW_CAPACITY = ((s.withChannels rows).slowDie 0 + (s.withChannels rows).slowDie 1) % 2 ^ 64
  slowDie : ∀ d, u.slowDie d = (s.withChannels rows).slowDie d

theorem State.trainSlow_cold {s : State} (boot : s.mode = .boot) (w : s.dictOk = true) (rows : List (Nat × Nat × Nat × Bool)) (repaired : List Nat) :
    ColdTrained s rows repaired ((s.clearForFill repaired).trainSlow rows) := by
  have cleared := State.run_clearForFill (s := s) repaired
  obtain ⟨table, clk⟩ := State.trainSlow_clk (s := s.clearForFill repaired) rows
  have trained := State.run_trainSlow (s := s.clearForFill repaired) rows
  have same : (s.clearForFill repaired).clk = s.clk := cleared.part .clk rfl
  have after : ((s.clearForFill repaired).withChannels rows).clk = (s.withChannels rows).clk := by unfold State.withChannels; rw [same]
  have room := fun d => State.slowDie_congr (congrArg Clocks.channels after) d
  refine ⟨(trained.part .mode rfl).trans ((cleared.part .mode rfl).trans boot), ⟨table, clk.trans (by rw [after])⟩, trained.part .mem rfl,
    trained.dict (cleared.dict w), (State.num_trainSlow (cleared.dict w) rows).trans (by rw [room, room]), fun d => ?_⟩
  exact State.slowDie_congr ((congrArg Clocks.channels clk).trans (by rw [after]; rfl)) d

/-- The memory step has ended well; CALIBRATE follows where the flash reads have ended too. -/
theorem State.memoryStep_ok {s : State} (boot : s.mode = .boot) :
    (s.memoryStep true).mode = (if s.clk.flashReads = true then .calibrate else .boot) ∧ (s.memoryStep true).clk = { s.clk with memory := true }
    ∧ (s.memoryStep true).mem = s.mem ∧ (s.dictOk = true → (s.memoryStep true).num PD.SLOW_CAPACITY = s.num PD.SLOW_CAPACITY) := by
  obtain ⟨t, ht⟩ : ∃ t : State, t = { s with clk := { s.clk with memory := true } } := ⟨_, rfl⟩
  have eq : s.memoryStep true = t.startCalibrate := by rw [ht]; rfl
  have run := t.run_startCalibrate
  rw [eq]
  refine ⟨(State.startCalibrate_of_boot (by rw [ht]; exact boot) (by rw [ht])).trans (by rw [ht]), (run.part .clk rfl).trans (by rw [ht]),
    (run.part .mem rfl).trans (by rw [ht]), fun w => (run.num_eq (by rw [ht]; exact w) rfl (by decide)).trans (State.num_of_pd (by rw [ht]) _)⟩

/-! ## The commands (R449, R459-R461) -/

section
variable {s : State} (boot : s.mode = .boot) (ref : s.clk.refclk = true)
include boot ref

theorem exec_loopsLocked (off : s.clk.onLoop = false) : exec .loopsLocked s
    = .next (({ s with clk := { s.clk with loopsLocked := true, onLoop := true, waiting := false } } : State).started [(3, 0)]) :=
  if_pos ⟨boot, ref, by rw [off]; rfl⟩

theorem exec_loopLockTimeout (off : s.clk.onLoop = false) (loop : Nat) :
    exec (.loopLockTimeout loop) s = .next ((s.started [(3, 1)]).startSpall 3 28 13 4).fault := if_pos ⟨boot, ref, by rw [off]; rfl⟩

section
variable (loops : s.clk.onLoop = true) (none : s.clk.firmware = false)
include loops none

theorem firmware_reading : ¬ (s.mode ≠ .boot ∨ !s.clk.refclk ∨ !s.clk.onLoop ∨ s.clk.firmware) := by rw [boot, ref, loops, none]; decide

theorem exec_firmwareVerified_runs (valid : s.fw.valid = true) (passes : s.passes fun k => decide (k ≤ 2)) : exec .firmwareVerified s
    = .next (({ s with
      clk := { s.clk with firmware := true }
      fw := { s.fw with running := s.flashParts, runningDigest := padTo 48 s.flashDigest } } : State).started [(4, 0), (5, 0)]) := by
  refine (if_neg (firmware_reading boot ref loops none)).trans ((if_neg (by rw [valid]; decide)).trans ?_)
  rw [State.bootFault_eq_none.2 passes]

/-- Otherwise verification has failed, with a code and a part. -/
theorem exec_firmwareVerified_fails (h : ¬ (s.fw.valid = true ∧ s.passes fun k => decide (k ≤ 2))) :
    ∃ (t : State) (code part : Nat), t.clk = s.clk ∧ t.pd = s.pd ∧ exec .firmwareVerified s = .next ((t.started [(4, 0), (5, 1)]).bootFails code part) := by
  have reading := firmware_reading boot ref loops none
  cases valid : s.fw.valid with
  | false => exact ⟨s.drawn (s.free + 1), _, _, rfl, rfl, (if_neg reading).trans (if_pos (by rw [valid]; rfl))⟩
  | true =>
    cases fault : s.bootFault fun r => decide (r.part ≤ 2) with
    | none => exact absurd ⟨valid, State.bootFault_eq_none.1 fault⟩ h
    | some x =>
      refine ⟨s, x.1, x.2, rfl, rfl, (if_neg reading).trans ((if_neg (by rw [valid]; decide)).trans ?_)⟩
      rw [fault]
end

section
variable (runs : s.clk.firmware = true) (none : s.clk.bridges = false)
include runs none

theorem bridges_training : ¬ (s.mode ≠ .boot ∨ !s.clk.refclk ∨ !s.clk.firmware ∨ s.clk.bridges) := by rw [boot, ref, runs, none]; decide

theorem exec_bridgesTrained_all {trained : List Nat} (all : ∀ c, c < connections → c ∈ trained) : exec (.bridgesTrained trained) s
    = .next (({ s with clk := { s.clk with bridges := true } } : State).started [(6, 0), (7, 0)]).epsUp := by
  refine (if_neg (bridges_training boot ref runs none)).trans (if_pos ?_)
  rw [List.all_eq_true]
  exact fun c hc => List.contains_iff_mem.2 (all c (List.mem_range.1 hc))

theorem exec_bridgesTrained_missing {trained : List Nat} (missing : ∃ c, c < connections ∧ c ∉ trained) :
    exec (.bridgesTrained trained) s = .next ((s.started [(6, 1)]).startSpall 6 28 6 4).fault := by
  refine (if_neg (bridges_training boot ref runs none)).trans (if_neg fun all => ?_)
  obtain ⟨c, hc, absent⟩ := missing
  exact absent (List.contains_iff_mem.1 (List.all_eq_true.1 all c (List.mem_range.2 hc)))
end

section
variable (runs : s.clk.firmware = true) (none : s.clk.flashReads = false)
include runs none

theorem flash_reading : ¬ (s.mode ≠ .boot ∨ !s.clk.refclk ∨ !s.clk.firmware ∨ s.clk.flashReads) := by rw [boot, ref, runs, none]; decide

theorem exec_flashReadsDone_passes (passes : s.passes fun k => decide (2 < k)) : exec .flashReadsDone s
    = .next ({ s.readSets with clk := { s.readSets.clk with flashReads := true } } : State).startCalibrate := by
  refine (if_neg (flash_reading boot ref runs none)).trans ?_
  rw [State.bootFault_eq_none.2 passes]

theorem exec_flashReadsDone_fails (h : ¬ s.passes fun k => decide (2 < k)) : ∃ code part, exec .flashReadsDone s = .next (s.bootFails code part) := by
  cases fault : s.bootFault fun r => decide (2 < r.part) with
  | none => exact absurd (State.bootFault_eq_none.1 fault) h
  | some x =>
    refine ⟨x.1, x.2, (if_neg (flash_reading boot ref runs none)).trans ?_⟩
    rw [fault]
end

section
variable (up : s.clk.bridges = true) (none : s.clk.memory = false) (stackUp : List Bool) (channels : List (Bool × Bool × Nat × Nat)) (repaired : List Nat)
include up none

theorem memory_filling : ¬ (s.mode ≠ .boot ∨ !s.clk.refclk ∨ !s.clk.bridges ∨ s.clk.memory) := by rw [boot, ref, up, none]; decide

theorem exec_memoryStepDone_warm (warm : s.clk.warm = true) :
    exec (.memoryStepDone stackUp channels repaired) s = .next ((s.started [(8, 0), (9, 0), (10, 0)]).memoryStep true) :=
  (if_neg (memory_filling boot ref up none)).trans (if_pos warm)

theorem exec_memoryStepDone_cold (cold : s.clk.warm = false) : exec (.memoryStepDone stackUp channels repaired) s
    = .next ((s.fillMemory stackUp channels repaired).2.memoryStep (s.fillMemory stackUp channels repaired).1) :=
  (if_neg (memory_filling boot ref up none)).trans (if_neg (by rw [cold]; decide))
end
end

end Sys2Proof.Machine

open Sys2Proof Sys2Proof.Machine

/-- Settles O52: each step of BOOT by what it met. -/
theorem startUpStepsRunInOrderAndTheirFailuresAreNamed : Obligations.StartUpStepsRunInOrderAndTheirFailuresAreNamed := by
  unfold Obligations.StartUpStepsRunInOrderAndTheirFailuresAreNamed
  refine fun s w boot ref => ⟨fun off => ⟨?loops, fun loop => ?loopLost⟩, fun loops none => ⟨fun valid passes => ?runs, fun fails => ?firmwareFails⟩,
    fun runs none trained => ⟨fun all => ?bridges, fun missing => ?bridgeMissing⟩, fun runs none => ⟨fun passes => ?flash, fun fails => ?flashFails⟩,
    fun up none stackUp channels repaired => ⟨fun warm => ?warm, fun cold => ⟨fun failed => ?stack, fun good room => ?noRoom, fun good room => ?filled⟩⟩⟩
  case loops =>
    have started := State.run_started { s with clk := { s.clk with loopsLocked := true, onLoop := true, waiting := false } } [(3, 0)]
    obtain ⟨rows, clk, results⟩ := State.started_clk [(3, 0)] { s with clk := { s.clk with loopsLocked := true, onLoop := true, waiting := false } }
    exact ⟨_, exec_loopsLocked boot ref off, (started.part .mode rfl).trans boot, congrArg Clocks.onLoop clk, congrArg Clocks.loopsLocked clk,
      congrArg Clocks.waiting clk, rows, congrArg Clocks.startTable clk, results⟩
  case loopLost =>
    obtain ⟨mode, rows, clk, results⟩ := State.stepFails boot [(3, 1)] 3 28 13 4
    exact ⟨_, exec_loopLockTimeout boot ref off loop, mode, (congrArg Clocks.onLoop clk).trans off, rows, congrArg Clocks.startTable clk, results⟩
  case runs =>
    have started := State.run_started { s with
      clk := { s.clk with firmware := true }
      fw := { s.fw with running := s.flashParts, runningDigest := padTo 48 s.flashDigest } } [(4, 0), (5, 0)]
    obtain ⟨rows, clk, results⟩ := State.started_clk [(4, 0), (5, 0)] { s with
      clk := { s.clk with firmware := true }
      fw := { s.fw with running := s.flashParts, runningDigest := padTo 48 s.flashDigest } }
    exact ⟨_, exec_firmwareVerified_runs boot ref loops none valid passes, (started.part .mode rfl).trans boot, congrArg Clocks.firmware clk,
      congrArg Firmware.running (started.part .fw rfl), rows, congrArg Clocks.startTable clk, results⟩
  case firmwareFails =>
    obtain ⟨t, code, part, tclk, tpd, run⟩ := exec_firmwareVerified_fails boot ref loops none fails
    obtain ⟨rows, clk, results⟩ := State.started_clk [(4, 0), (5, 1)] t
    obtain ⟨mode, after, running, stage⟩ := (t.started [(4, 0), (5, 1)]).bootFails_loader code part
    have ok : t.dictOk = true := by unfold State.dictOk; rw [tpd]; exact w
    have started := t.run_started [(4, 0), (5, 1)]
    refine ⟨_, run, ⟨mode, congrArg Clocks.firmware after, running, fun h => stage (started.dict ok) ?_⟩, rows, ?_, results⟩
    · rw [started.num_eq ok rfl List.not_mem_nil, State.num_of_pd tpd]; exact h
    · exact (congrArg Clocks.startTable after).trans ((congrArg Clocks.startTable clk).trans (by rw [tclk]; rfl))
  case bridges =>
    have started := State.run_started { s with clk := { s.clk with bridges := true } } [(6, 0), (7, 0)]
    obtain ⟨rows, clk, results⟩ := State.started_clk [(6, 0), (7, 0)] { s with clk := { s.clk with bridges := true } }
    have up := State.run_epsUp (State.started { s with clk := { s.clk with bridges := true } } [(6, 0), (7, 0)])
    have upClk := (up.part .clk rfl).trans clk
    refine ⟨_, exec_bridgesTrained_all boot ref runs none all, (up.part .mode rfl).trans ((started.part .mode rfl).trans boot), congrArg Clocks.bridges upClk,
      fun ep h => State.ep_epsUp ?_, rows, congrArg Clocks.startTable upClk, results⟩
    rw [State.ep_of_parts (started.part .ep0 rfl) (started.part .ep1 rfl)]
    exact h
  case bridgeMissing =>
    obtain ⟨mode, rows, clk, results⟩ := State.stepFails boot [(6, 1)] 6 28 6 4
    exact ⟨_, exec_bridgesTrained_missing boot ref runs none missing, mode, (congrArg Clocks.bridges clk).trans none, rows,
      congrArg Clocks.startTable clk, results⟩
  case flash =>
    have read : Run 1048576 [0x412004, 0x412005] s s.readSets := readSets_run rfl (fun _ => id) (Run.refl _ _ s)
    obtain ⟨t, ht⟩ : ∃ t : State, t = { s.readSets with clk := { s.readSets.clk with flashReads := true } } := ⟨_, rfl⟩
    have mode : t.mode = .boot := by rw [ht]; exact (read.part .mode rfl).trans boot
    have clk : t.clk = { s.clk with flashReads := true } := by
      rw [ht]; exact congrArg (fun c : Clocks => { c with flashReads := true }) (read.part .clk rfl)
    refine ⟨t.startCalibrate, ?_, congrArg Clocks.flashReads ((t.run_startCalibrate.part .clk rfl).trans clk), ?_⟩
    · rw [ht]; exact exec_flashReadsDone_passes boot ref runs none passes
    · rw [State.startCalibrate_mode, mode, clk]
      cases s.clk.memory <;> rfl
  case flashFails =>
    obtain ⟨code, part, run⟩ := exec_flashReadsDone_fails boot ref runs none fails
    obtain ⟨mode, after, running, stage⟩ := s.bootFails_loader code part
    exact ⟨_, run, mode, congrArg Clocks.firmware after, running, stage w⟩
  case warm =>
    have started := s.run_started [(8, 0), (9, 0), (10, 0)]
    obtain ⟨rows, clk, results⟩ := State.started_clk [(8, 0), (9, 0), (10, 0)] s
    obtain ⟨mode, after, mem, -⟩ := State.memoryStep_ok (s := s.started [(8, 0), (9, 0), (10, 0)]) ((started.part .mode rfl).trans boot)
    refine ⟨_, exec_memoryStepDone_warm boot ref up none stackUp channels repaired warm, congrArg Clocks.memory after, mem.trans (started.part .mem rfl),
      mode.trans (by rw [clk]; rfl), rows, (congrArg Clocks.startTable after).trans (congrArg Clocks.startTable clk), results⟩
  case stack =>
    obtain ⟨n, found, hn, off⟩ := (find_stack stackUp).resolve_right fun h => by
      obtain ⟨n, hn, off⟩ := failed
      exact absurd ((find_stack_none stackUp).1 h n hn) (by rw [off]; decide)
    have cleared := State.run_clearForFill (s := s) repaired
    have run := exec_memoryStepDone_cold boot ref up none stackUp channels repaired cold
    rw [State.fillMemory_stack stackUp channels repaired found] at run
    obtain ⟨t, ht⟩ : ∃ t, t = (s.clearForFill repaired).setNum PD.HEALTH_DIE_MASK ((s.clearForFill repaired).num PD.HEALTH_DIE_MASK
      - ((s.clearForFill repaired).num PD.HEALTH_DIE_MASK &&& (2 ^ n + 2 ^ (8 + n)))) := ⟨_, rfl⟩
    have tclk : t.clk = s.clk := by rw [ht]; exact cleared.part .clk rfl
    have ok : t.dictOk = true := by rw [ht]; exact State.dictOk_setNum (cleared.dict w)
    obtain ⟨mode, rows, clk, -⟩ := State.stepFails (s := t) (by rw [ht]; exact (cleared.part .mode rfl).trans boot) [(8, 1)] 8 (20 + n) 17 4
    refine ⟨((t.started [(8, 1)]).startSpall 8 (20 + n) 17 4).fault, by rw [ht]; exact run, mode,
      (congrArg Clocks.memory clk).trans (by rw [tclk]; exact none), n, hn, off, ?_⟩
    rw [State.num_stepFails ok _ _ _ _ _ (by decide), ht, State.num_setNum, cleared.num_eq w rfl List.not_mem_nil]
  case noRoom =>
    obtain ⟨d, hd, empty⟩ := room
    have run := exec_memoryStepDone_cold boot ref up none stackUp channels repaired cold
    have trained := State.trainSlow_cold boot w (fittedRows channels) repaired
    obtain ⟨t, ht⟩ : ∃ t, t = (s.clearForFill repaired).trainSlow (fittedRows channels) := ⟨_, rfl⟩
    rw [State.fillMemory_slow stackUp channels repaired ((find_stack_none stackUp).2 good), ← ht] at run
    rw [← ht] at trained
    obtain ⟨e, fails⟩ := State.fillSlow_fails hd ((trained.slowDie d).trans empty)
    rw [fails] at run
    obtain ⟨mode, rows, clk, -⟩ := State.stepFails trained.mode [] 9 (18 + e) 17 4
    obtain ⟨table, before⟩ := trained.clk
    exact ⟨((t.started []).startSpall 9 (18 + e) 17 4).fault, run, mode, by rw [clk, before]; exact none⟩
  case filled =>
    have run := exec_memoryStepDone_cold boot ref up none stackUp channels repaired cold
    have trained := State.trainSlow_cold boot w (fittedRows channels) repaired
    have fills := State.fillSlow_fills fun d hd => by rw [trained.slowDie d]; exact room d hd
    rw [State.fillMemory_slow stackUp channels repaired ((find_stack_none stackUp).2 good), fills] at run
    obtain ⟨t, ht⟩ : ∃ t, t = (s.clearForFill repaired).trainSlow (fittedRows channels) := ⟨_, rfl⟩
    rw [← ht] at run trained
    have started := t.run_started [(10, 0)]
    obtain ⟨rows, clk, -⟩ := State.started_clk [(10, 0)] t
    obtain ⟨table, before⟩ := trained.clk
    obtain ⟨mode, after, mem, capacity⟩ := State.memoryStep_ok ((started.part .mode rfl).trans trained.mode)
    refine ⟨_, run, congrArg Clocks.memory after, mode.trans (by rw [clk, before]; rfl),
      (congrArg Clocks.channels after).trans (by rw [clk, before]; rfl), ?_, fun c => ?_⟩
    · rw [capacity (started.dict trained.ok), started.num_eq trained.ok rfl List.not_mem_nil]
      exact trained.capacity
    · rw [mem, (started.part .mem rfl : (t.started [(10, 0)]).mem = t.mem), trained.mem]
      exact State.clearForFill_mem repaired c
end

section
/-! Proofs of stale channels, slice measurement, tachometers and the PMBus (R427, R429, R433, R436, R437): what each command leaves of each entry of
its table, and the statement ChannelsSlicesTachometersAndPmbusReport. -/
namespace Sys2Proof.Machine

/-! ## Entries of the measurement unit -/

section
variable (s : State) (i : Nat)

theorem State.chan_setChan (r : ChanResult) : (s.setChan i r).chan i = r := kvGet_set_same _ _ _ _
theorem State.chan_setChan_ne (r : ChanResult) {j : Nat} (ne : j ≠ i) : (s.setChan i r).chan j = s.chan j := kvGet_set_ne _ _ _ _ ne _
theorem State.tach_setTach (t : Tach) : (s.setTach i t).tach i = t := kvGet_set_same _ _ _ _
theorem State.tach_setTach_ne (t : Tach) {j : Nat} (ne : j ≠ i) : (s.setTach i t).tach j = s.tach j := kvGet_set_ne _ _ _ _ ne _
theorem State.pmb_setPmb (r : PmbResult) : (s.setPmb i r).pmb i = r := kvGet_set_same _ _ _ _
theorem State.pmb_setPmb_ne (r : PmbResult) {j : Nat} (ne : j ≠ i) : (s.setPmb i r).pmb j = s.pmb j := kvGet_set_ne _ _ _ _ ne _
end

/-- Time that passes restarts timers at a wrap, and changes nothing else of the measurement unit. -/
theorem State.wrapped_meas (s : State) (n : Nat) : ∃ ts, (s.wrapped n).meas = { s.meas with timers := ts } := by
  unfold State.wrapped
  split
  · exact ⟨_, rfl⟩
  · dsimp only
    split
    · split
      · exact ⟨_, rfl⟩
      · exact ⟨_, rfl⟩
    · exact ⟨_, rfl⟩

theorem State.runTo_meas (s : State) (t : Nat) : ∃ ts, (s.runTo t).meas = { s.meas with timers := ts } := by
  obtain ⟨ts, h⟩ := State.wrapped_meas { s with course := s.course.runTo t } ((s.course.runTo t).count - s.course.count).toNat
  exact ⟨ts, h⟩

/-! ## Slices (R429) -/

/-- The slice measurement of a converter after one more weight. -/
def Slice.measured (x : Slice) (weight : Nat) (time : CTime) : Slice :=
  let w := (if x.weights.isEmpty then List.replicate 12 0 else x.weights).set x.slice weight
  if x.slice = 11 then ⟨0, w, x.rotations + 1, time⟩ else ⟨x.slice + 1, w, x.rotations, x.time⟩

theorem Slice.measured_weights (x : Slice) (weight : Nat) (time : CTime) :
    (x.measured weight time).weights = (if x.weights = [] then List.replicate 12 0 else x.weights).set x.slice weight := by
  have empty : (if x.weights.isEmpty then List.replicate 12 0 else x.weights) = if x.weights = [] then List.replicate 12 0 else x.weights :=
    if_congr List.isEmpty_iff rfl rfl
  rw [← empty]
  unfold Slice.measured
  dsimp only
  split
  · rfl
  · rfl

theorem Slice.measured_next {x : Slice} (h : x.slice < 11) (weight : Nat) (time : CTime) : (x.measured weight time).slice = x.slice + 1
    ∧ (x.measured weight time).rotations = x.rotations ∧ (x.measured weight time).time = x.time := by
  unfold Slice.measured
  rw [if_neg (by omega)]
  exact ⟨rfl, rfl, rfl⟩

theorem Slice.measured_last {x : Slice} (h : x.slice = 11) (weight : Nat) (time : CTime) : (x.measured weight time).slice = 0
    ∧ (x.measured weight time).rotations = x.rotations + 1 ∧ (x.measured weight time).time = time := by
  unfold Slice.measured
  rw [if_pos h]
  exact ⟨rfl, rfl, rfl⟩

def State.slice (s : State) (c : Nat) : Slice := kvGet (fun _ => {}) s.meas.slices c

section
variable {s : State} {conv : Fin 8} {weight : Nat} (keeps : s.mode.maintains = true)
  (free : (s.meas.running.any fun r => (s.groupConvs r.1).contains conv.val) = false)
include keeps free

theorem exec_sliceCalibration_waits (h : (s.grant .slice conv.val).1 = false) :
    exec (.sliceCalibration conv weight) s = .next (s.grant .slice conv.val).2 := by
  refine (if_neg (by rw [keeps, free]; decide)).trans ?_
  split
  · next t eq => rw [eq]
  · next t eq => rw [eq] at h; cases h

theorem exec_sliceCalibration_measures (h : (s.grant .slice conv.val).1 = true) : exec (.sliceCalibration conv weight) s
    = .next { (s.grant .slice conv.val).2 with meas := { s.meas with
      slices := kvSet (fun _ => {}) s.meas.slices conv.val ((s.slice conv.val).measured weight s.ctime) } } := by
  refine (if_neg (by rw [keeps, free]; decide)).trans ?_
  have meas : (s.grant .slice conv.val).2.meas = s.meas := (s.run_grant .slice conv.val).part .meas rfl
  have time : (s.grant .slice conv.val).2.ctime = s.ctime := congrArg Course.time ((s.run_grant .slice conv.val).part .course rfl)
  unfold State.slice
  rw [← meas, ← time]
  generalize s.grant .slice conv.val = g at h
  obtain ⟨granted, t⟩ := g
  obtain rfl : granted = true := h
  rfl
end

/-! ## Tachometers (R436) -/

section
variable {s : State} {i : Fin 8} (on : s.tachOn i.val = true) (runs : s.mode.hubRuns = true)
include on runs

theorem exec_tachEdge (t : Nat) : exec (.tachEdge i t) s = .next ((s.runTo (t * 10)).setTach i.val
    ⟨(((s.runTo (t * 10)).tach i.val).edges.filter fun e => t < e + 100000000) ++ [t], false⟩) := if_neg (by rw [on, runs]; decide)

theorem exec_tachStall : exec (.tachStall i) s = .next (s.setTach i.val { s.tach i.val with stall := true }) := if_pos ⟨on, runs⟩
end

theorem State.tach_runTo (s : State) (t i : Nat) : (s.runTo t).tach i = s.tach i := by
  obtain ⟨ts, h⟩ := s.runTo_meas t
  unfold State.tach
  rw [h]

/-! ## The PMBus (R437) -/

/-- A device's result after a poll. -/
def PmbResult.polled (r : PmbResult) (status vout iout temp voutMode : PmbReply) : PmbResult :=
  { vout := match (pmbWord vout), (pmbWord voutMode) with
      | some v, some m => voutOf v (m % 256)
      | _, _ => r.vout
    iout := ((pmbWord iout).map fun w => toF32 (linear11 w)).getD r.iout
    temp := ((pmbWord temp).map fun w => toF32 (linear11 w)).getD r.temp
    status := ((pmbWord status).map fun w => BitVec.ofNat 16 w).getD r.status
    absent := decide (0 < ([status, vout, iout, temp, voutMode].filter pmbFailed).length) }

theorem PmbResult.polled_vout_kept (r : PmbResult) (status iout temp : PmbReply) {vout mode : PmbReply} (h : vout = .failed ∨ mode = .failed) :
    (r.polled status vout iout temp mode).vout = r.vout := by
  unfold PmbResult.polled
  rcases h with rfl | rfl
  · rfl
  · cases vout <;> rfl

theorem State.num_setBytes_ne {s : State} {j k : Nat} {b : List Byte} (ne : j ≠ k) : (s.setBytes k b).num j = s.num j := by
  unfold State.num State.setBytes
  rw [State.pdGet_pdSet_ne ne]

theorem exec_pmbPoll {s : State} (runs : s.mode.hubRuns = true) {row address : Nat} {rest : List Nat}
    (h : (s.rows PD.PMB_DEVICE_TABLE)[row]? = some (address :: rest)) (status vout iout temp voutMode : PmbReply) :
    exec (.pmbPoll row status vout iout temp voutMode) s
      = .next (((s.emits ([0x79, 0x8B, 0x8C, 0x8D].map fun c => .pmbus (pmbFrame address c 2 []))).setPmb row
        ((s.pmb row).polled status vout iout temp voutMode)).bumpBy PD.PMB_ERRORS ([status, vout, iout, temp, voutMode].filter pmbFailed).length) := by
  show execPmbPoll row status vout iout temp voutMode s = _
  unfold execPmbPoll
  rw [h]
  exact if_neg (by rw [runs]; decide)

/-- A listed device does not answer. -/
def State.markAbsent (s : State) (r : List Nat × Nat) : State := s.setPmb r.2 { s.pmb r.2 with absent := true }

/-- A form that a raw transaction must not have. -/
def pmbMalformed (b : List Byte) : Prop :=
  b.length < 4 ∨ b.length ≠ 4 + fieldAt b 2 1 ∨ 32 < fieldAt b 2 1 ∨ 32 < fieldAt b 3 1 ∨ 128 ≤ fieldAt b 0 1

theorem Mode.transfers_hubRuns {m : Mode} (h : m.transfers = true) : m.hubRuns = true := by revert h; cases m <;> decide

/-- The transaction of a raw transfer. -/
def pmbXferFrame (b : List Byte) : List Byte := pmbFrame (fieldAt b 0 1) (fieldAt b 1 1) (fieldAt b 3 1) (b.drop 4)

section
variable {s : State} {b : List Byte} (idle : s.meas.xfer = none)
include idle

/-- A transaction that does not start ends with its result. -/
theorem exec_pmbXfer_refused (reply : PmbReply) {code : Nat} (h : s.pmbStart b = s.pmbResult code []) :
    exec (.pmbXfer b reply) s = .next (s.setBytes PD.PMB_XFER_RESULT (padTo 33 (le 1 code))) := by
  have started : (if s.meas.xfer = some b then s else s.pmbStart b) = s.pmbResult code [] := (if_neg (by rw [idle]; exact nofun)).trans h
  show execPmbXfer b reply s = _
  unfold execPmbXfer
  rw [started]
  have none : (s.pmbResult code []).meas.xfer ≠ some b := by
    have same : (s.pmbResult code []).meas.xfer = s.meas.xfer := rfl
    rw [same, idle]; exact nofun
  exact (if_pos (.inl none)).trans (by unfold State.pmbResult; rw [List.append_nil])

variable (transfers : s.mode.transfers = true) (good : ¬ pmbMalformed b)
include transfers good

/-- A transaction leaves, and its reply ends it. -/
theorem exec_pmbXfer_sends (reply : PmbReply) : exec (.pmbXfer b reply) s = match reply with
    | .ok data => .next ((s.emit (.pmbus (pmbXferFrame b))).pmbResult 0 (data.take (fieldAt b 3 1)))
    | .failed => .next ((((s.emit (.pmbus (pmbXferFrame b))).each
        ((s.rows PD.PMB_DEVICE_TABLE).zipIdx.filter fun r => r.1.headD 0 = fieldAt b 0 1) State.markAbsent).bump
          PD.PMB_ERRORS).pmbResult 3 []) := by
  obtain ⟨t, ht⟩ : ∃ t : State, t = { s.emit (.pmbus (pmbXferFrame b)) with meas := { s.meas with xfer := some b } } := ⟨_, rfl⟩
  have start : (if s.meas.xfer = some b then s else s.pmbStart b) = t := by
    rw [ht]
    exact (if_neg (by rw [idle]; exact nofun)).trans ((if_neg (by rw [transfers]; decide)).trans (if_neg good))
  have running : ¬ (t.meas.xfer ≠ some b ∨ !t.mode.hubRuns) := by
    rw [ht]
    exact not_or.2 ⟨not_not.2 rfl, by rw [show (s.emit _).mode.hubRuns = true from Mode.transfers_hubRuns transfers]; decide⟩
  have ended : { t with meas := { t.meas with xfer := none } } = s.emit (.pmbus (pmbXferFrame b)) := by
    have same : ({ s.meas with xfer := none } : Measure) = s.meas := by rw [← idle]
    rw [ht]
    exact congrArg (fun m => { s.emit (.pmbus (pmbXferFrame b)) with meas := m }) same
  show execPmbXfer b reply s = _
  unfold execPmbXfer
  rw [start]
  refine (if_neg running).trans ?_
  rw [ended]
  cases reply <;> rfl
end

/-- What each step over a list keeps, all of them keep. -/
theorem State.each_keeps {α β : Type} {f : State → α → State} {g : State → β} (h : ∀ s x, g (f s x) = g s) : ∀ (l : List α) (s : State), g (s.each l f) = g s
  | [], _ => rfl
  | x :: l, s => (State.each_keeps h l (f s x)).trans (h s x)

/-- Each listed device of the rows is marked absent, and no other. -/
theorem State.pmb_marked (i : Nat) : ∀ (l : List (List Nat × Nat)) (s : State),
    (s.each l State.markAbsent).pmb i
      = if i ∈ l.map (·.2) then { s.pmb i with absent := true } else s.pmb i
  | [], s => rfl
  | r :: l, s => by
    have later := State.pmb_marked i l (s.markAbsent r)
    refine later.trans ?_
    by_cases same : i = r.2
    · unfold State.markAbsent
      rw [same, State.pmb_setPmb, if_pos (c := r.2 ∈ (r :: l).map (·.2)) List.mem_cons_self]
      split
      · rfl
      · rfl
    · unfold State.markAbsent
      rw [State.pmb_setPmb_ne _ _ _ same]
      exact if_congr (by rw [List.map_cons, List.mem_cons, or_iff_right same]) rfl rfl

/-- A row is listed exactly when its device has the address. -/
theorem mem_listed {rows : List (List Nat)} {i : Nat} {r : List Nat} (h : rows[i]? = some r) (a : Nat) :
    i ∈ (rows.zipIdx.filter fun x => x.1.headD 0 = a).map (·.2) ↔ r.headD 0 = a := by
  constructor
  · intro m
    obtain ⟨x, hx, rfl⟩ := List.mem_map.1 m
    obtain ⟨mx, ax⟩ := List.mem_filter.1 hx
    have := List.mem_zipIdx_iff_getElem?.1 mx
    rw [h] at this
    cases this
    exact of_decide_eq_true ax
  · exact fun ha => List.mem_map.2 ⟨(r, i), List.mem_filter.2 ⟨List.mem_zipIdx_iff_getElem?.2 h, decide_eq_true ha⟩, rfl⟩

end Sys2Proof.Machine

open Sys2Proof Sys2Proof.Machine

/-- Settles O49: each command by the entry that it writes, and what it leaves of the others. -/
theorem channelsSlicesTachometersAndPmbusReport : Obligations.ChannelsSlicesTachometersAndPmbusReport := by
  unfold Obligations.ChannelsSlicesTachometersAndPmbusReport
  refine ⟨fun s c => ⟨fun runs => ?stale, fun stops => if_neg (by rw [stops]; decide)⟩, fun s conv weight => ⟨fun h => ?resting, fun keeps free => ?slice⟩,
    fun s i t => ⟨fun on runs => ?tach, fun off => ?off⟩, fun s row address rest status vout iout temp mode runs listed => ?poll,
    fun s b reply idle => ⟨fun h => ?wrongState, fun transfers bad => ?bad, fun transfers good => ?sends⟩⟩
  case stale => exact ⟨_, if_pos runs, State.chan_setChan .., fun j ne => State.chan_setChan_ne _ _ _ ne, rfl⟩
  case resting => exact if_pos (h.imp_left fun h => by rw [h]; rfl)
  case slice =>
    refine ⟨exec_sliceCalibration_waits keeps free, fun granted _ => ⟨_, exec_sliceCalibration_measures keeps free granted, ⟨_, rfl, ?_⟩, fun j ne =>
      kvGet_set_ne _ _ _ _ ne _⟩⟩
    rw [kvGet_set_same]
    exact ⟨Slice.measured_weights .., fun h => Slice.measured_next h weight s.ctime, fun h => Slice.measured_last h weight s.ctime⟩
  case tach =>
    refine ⟨⟨_, exec_tachEdge on runs t, ?_, fun j ne => ?_⟩, _, exec_tachStall on runs, State.tach_setTach .., fun j ne => State.tach_setTach_ne _ _ _ ne⟩
    · rw [State.tach_setTach, State.tach_runTo]
    · rw [State.tach_setTach_ne _ _ _ ne, State.tach_runTo]
  case off => exact ⟨if_pos (.inl (by rw [off]; rfl)), if_neg fun h => by rw [off] at h; cases h.1⟩
  case poll =>
    refine ⟨_, exec_pmbPoll runs listed status vout iout temp mode, rfl, State.num_bumpBy, ?_⟩
    obtain ⟨u, hu⟩ : ∃ u, u = ((s.emits ([0x79, 0x8B, 0x8C, 0x8D].map fun c => .pmbus (pmbFrame address c 2 []))).setPmb row
      ((s.pmb row).polled status vout iout temp mode)).bumpBy PD.PMB_ERRORS ([status, vout, iout, temp, mode].filter pmbFailed).length := ⟨_, rfl⟩
    have own : u.pmb row = (s.pmb row).polled status vout iout temp mode := by rw [hu]; exact State.pmb_setPmb ..
    have others : ∀ j, j ≠ row → u.pmb j = s.pmb j := fun j ne => by rw [hu]; exact State.pmb_setPmb_ne _ _ _ ne
    rw [← hu, own]
    refine ⟨decide_eq_true_iff, fun h => by rw [h]; rfl, fun b h => by rw [h]; rfl, fun h => by rw [h]; rfl, fun b h => by rw [h]; rfl,
      fun h => by rw [h]; rfl, fun b h => by rw [h]; rfl, PmbResult.polled_vout_kept _ _ _ _, fun b m hb hm linear => ?_, others⟩
    rw [hb, hm]
    exact if_pos linear
  case wrongState => exact exec_pmbXfer_refused idle reply (if_pos (by rw [h]; rfl))
  case bad => exact exec_pmbXfer_refused idle reply ((if_neg (by rw [transfers]; decide)).trans (if_pos bad))
  case sends =>
    have run := exec_pmbXfer_sends idle transfers good reply
    refine ⟨fun data h => by rw [h] at run ⊢; exact run, fun h => ?_⟩
    rw [h] at run ⊢
    refine ⟨_, run, ?_, ?_, State.bytes_setBytes, fun i r hr => ?_⟩
    · exact State.each_keeps (f := State.markAbsent) (g := State.outs) (fun _ _ => rfl) _ _
    · refine (State.num_setBytes_ne (by decide)).trans (State.num_bump.trans ?_)
      rw [State.num_of_pd (State.each_keeps (f := State.markAbsent) (g := State.pd) (fun _ _ => rfl) _ _)]
      rfl
    · refine (State.pmb_marked i _ (s.emit (.pmbus (pmbXferFrame b)))).trans ?_
      exact if_congr (mem_listed hr _) rfl rfl
end

section
/-! Proofs of the sampling groups (R426-R434, R439): a trigger by what runs, the conversions of a round and of a group, what waits and starts, and the
statement SamplingGroupsAreTriggeredAndTheirResultsTakenTogether. -/
namespace Sys2Proof.Machine

/-! ## Triggers (R430, R432) -/

section
variable {s : State} {g : Nat}

theorem State.triggerOne_merged (h : (∃ r, r ∈ s.meas.running ∧ r.1 = g) ∨ g ∈ s.meas.waiting) : s.triggerOne g = s.bump PD.ADC_TRIGGER_MERGED := by
  refine if_pos (h.imp (fun ⟨r, hr, same⟩ => List.any_eq_true.2 ⟨r, hr, decide_eq_true same⟩) fun w => List.contains_iff_mem.2 w)

section
variable (idle : ∀ r, r ∈ s.meas.running → r.1 ≠ g) (free : g ∉ s.meas.waiting)
include idle free

theorem triggerOne_merges_not : ¬ ((s.meas.running.any fun r => r.1 = g) ∨ s.meas.waiting.contains g) := by
  rintro (h | h)
  · obtain ⟨r, hr, same⟩ := List.any_eq_true.1 h
    exact idle r hr (of_decide_eq_true same)
  · exact free (List.contains_iff_mem.1 h)

theorem State.triggerOne_urgent (urgent : s.groupCol g 4 ≠ 0) : s.triggerOne g = if s.convsIdle g then s.startGroup g else s.bump PD.ADC_URGENT_DROPPED :=
  (if_neg (triggerOne_merges_not idle free)).trans (if_pos urgent)

theorem State.triggerOne_normal (normal : s.groupCol g 4 = 0) : s.triggerOne g
    = if s.convsFree g then s.startGroup g else { s with meas := { s.meas with waiting := s.meas.waiting ++ [g] } } :=
  (if_neg (triggerOne_merges_not idle free)).trans (if_neg (not_not.2 normal))
end

/-- Groups of one cycle as they are served: URGENT ones first, each kind in rising number. -/
def State.serve (s : State) (p : Nat → Bool) : State :=
  (s.each (((List.range 16).filter p).filter fun g => s.groupCol g 4 ≠ 0) State.triggerOne).each
    (((List.range 16).filter p).filter fun g => s.groupCol g 4 = 0) State.triggerOne

theorem State.triggerAll_serve (runs : s.mode.hubRuns = true) (p : Nat → Bool) : s.triggerAll p = s.serve p := if_neg (by rw [runs]; decide)

theorem filter_range_eq {n g : Nat} (h : g < n) : ((List.range n).filter fun i => i = g) = [g] := by
  rw [List.filter_eq, List.Nodup.count List.nodup_range, if_pos (List.mem_range.2 h)]
  rfl

/-- One group alone is served by its trigger. -/
theorem State.serve_one (h : g < 16) : s.serve (fun i => i = g) = s.triggerOne g := by
  unfold State.serve
  rw [filter_range_eq h]
  by_cases urgent : s.groupCol g 4 = 0
  · simp [urgent, State.each]
  · simp [urgent, State.each]
end

theorem Mode.commands_hubRuns {m : Mode} (h : m.commands = true) : m.hubRuns = true := by revert h; cases m <;> decide

/-! ## What the conversions rest on -/

theorem State.groupCol_of_rows {s t : State} (h : t.rows PD.ADC_GROUPS = s.rows PD.ADC_GROUPS) (g c : Nat) : t.groupCol g c = s.groupCol g c := by
  unfold State.groupCol; rw [h]

/-- The groups' rows and the external channels' correction are the same. -/
structure SameGroups (s t : State) : Prop where
  groups : t.rows PD.ADC_GROUPS = s.rows PD.ADC_GROUPS
  external : t.rows PD.ADC_EXT_CORR = s.rows PD.ADC_EXT_CORR

theorem State.rows_of_pd {s t : State} (h : t.pd = s.pd) (k : Nat) : t.rows k = s.rows k := by unfold State.rows State.pdGet; rw [h]

theorem SameGroups.of_pd {s t : State} (h : t.pd = s.pd) : SameGroups s t := ⟨State.rows_of_pd h _, State.rows_of_pd h _⟩

section
variable {s t : State} (h : SameGroups s t)
include h

theorem SameGroups.groupCol (g c : Nat) : t.groupCol g c = s.groupCol g c := State.groupCol_of_rows h.groups g c
theorem SameGroups.groupChan (g k c : Nat) : t.groupChan g k c = s.groupChan g k c := by unfold State.groupChan; rw [h.groupCol]
theorem SameGroups.corrected (ch code : Nat) : t.corrected ch code = s.corrected ch code := by
  unfold State.corrected State.correction; rw [h.external]
theorem SameGroups.roundSamples (g k : Nat) (round : List Sample) : t.roundSamples g k round = s.roundSamples g k round := by
  unfold State.roundSamples; simp only [h.groupChan]
theorem SameGroups.groupConvs (g : Nat) : t.groupConvs g = s.groupConvs g := by
  unfold State.groupConvs; simp only [h.groupChan, h.groupCol]
theorem SameGroups.convsFree (running : t.meas.running = s.meas.running) (g : Nat) : t.convsFree g = s.convsFree g := by
  unfold State.convsFree; simp only [h.groupConvs, running]
end

/-- While a group's results are taken, time stands still too, and so does what runs or waits. -/
structure Sampling (s t : State) : Prop extends SameGroups s t where
  course : t.course = s.course
  level : t.num PD.LEVEL_GROUP = s.num PD.LEVEL_GROUP
  running : t.meas.running = s.meas.running
  waiting : t.meas.waiting = s.meas.waiting
  tickDone : t.meas.tickDone = s.meas.tickDone

section
variable {s t u : State}

theorem Sampling.refl (s : State) : Sampling s s := ⟨⟨rfl, rfl⟩, rfl, rfl, rfl, rfl, rfl⟩

theorem Sampling.trans (h : Sampling s t) (k : Sampling t u) : Sampling s u :=
  ⟨⟨k.groups.trans h.groups, k.external.trans h.external⟩, k.course.trans h.course, k.level.trans h.level, k.running.trans h.running,
    k.waiting.trans h.waiting, k.tickDone.trans h.tickDone⟩

theorem Sampling.ctimeAt (h : Sampling s t) (n : Nat) : t.ctimeAt n = s.ctimeAt n := by unfold State.ctimeAt State.ctime; rw [h.course]
end

/-! ## The results of a round (R427, R433) -/

/-- The result of a conversion. -/
def State.sampled (s : State) (g : Nat) (at_ : CTime) (ch : Nat) (x : Sample) : ChanResult :=
  ⟨readSample x, toF32 (s.corrected ch (readSample x).toNat), x.above, x.below, false, g, at_⟩

section
variable (s : State) (g : Nat) (at_ : CTime) (ch : Nat) (x : Sample)

theorem State.takeSample_sampling : Sampling s (s.takeSample g at_ ch x) :=
  ⟨⟨(State.rows_setNum_ne (by decide)).trans (State.rows_setNum_ne (by decide)),
    (State.rows_setNum_ne (by decide)).trans (State.rows_setNum_ne (by decide))⟩, rfl,
    (State.num_setNum_ne (by decide)).trans (State.num_setNum_ne (by decide)), rfl, rfl, rfl⟩

theorem State.chan_takeSample : (s.takeSample g at_ ch x).chan ch = s.sampled g at_ ch x := s.chan_setChan ch _
theorem State.chan_takeSample_ne {j : Nat} (ne : j ≠ ch) : (s.takeSample g at_ ch x).chan j = s.chan j := s.chan_setChan_ne ch _ ne
theorem State.num_takeSample : (s.takeSample g at_ ch x).num PD.ADC_SAMPLES = (s.num PD.ADC_SAMPLES + 1) % 2 ^ 64 :=
  (State.num_bumpBy_ne (by decide)).trans State.num_bump
end

/-- The conversions of a round are taken in order. -/
def State.takeSamples (s : State) (g : Nat) (at_ : CTime) (l : List (Nat × Sample)) : State := s.each l fun s p => s.takeSample g at_ p.1 p.2

section
variable (g : Nat) (at_ : CTime)

theorem State.takeSamples_sampling : ∀ (l : List (Nat × Sample)) (s : State), Sampling s (s.takeSamples g at_ l)
  | [], s => .refl s
  | p :: l, s => (s.takeSample_sampling g at_ p.1 p.2).trans (State.takeSamples_sampling l _)

theorem State.takeSamples_capture : ∀ (l : List (Nat × Sample)) (s : State), (s.takeSamples g at_ l).meas.capture = s.meas.capture
  | [], _ => rfl
  | p :: l, s => State.takeSamples_capture l (s.takeSample g at_ p.1 p.2)

theorem State.num_takeSamples : ∀ (l : List (Nat × Sample)) (s : State),
    (s.takeSamples g at_ l).num PD.ADC_SAMPLES % 2 ^ 64 = (s.num PD.ADC_SAMPLES + l.length) % 2 ^ 64
  | [], _ => rfl
  | p :: l, s => by
    refine (State.num_takeSamples l (s.takeSample g at_ p.1 p.2)).trans ?_
    rw [State.num_takeSample, List.length_cons, Nat.mod_add_mod, Nat.add_assoc, Nat.add_comm 1]

/-- A channel that no conversion names keeps its result. -/
theorem State.chan_takeSamples_out {ch : Nat} : ∀ (l : List (Nat × Sample)) (s : State), (∀ p, p ∈ l → p.1 ≠ ch) → (s.takeSamples g at_ l).chan ch = s.chan ch
  | [], _, _ => rfl
  | p :: l, s, h => (State.chan_takeSamples_out l _ fun q hq => h q (List.mem_cons_of_mem _ hq)).trans
      (s.chan_takeSample_ne g at_ p.1 p.2 (h p List.mem_cons_self).symm)

/-- A channel that one conversion names takes its result. -/
theorem State.chan_takeSamples_in {ch : Nat} {x : Sample} : ∀ (l : List (Nat × Sample)) (s : State), (∀ p, p ∈ l → p.1 = ch → p.2 = x) →
    ((ch, x) ∈ l ∨ s.chan ch = s.sampled g at_ ch x) → (s.takeSamples g at_ l).chan ch = s.sampled g at_ ch x
  | [], _, _, h => h.resolve_left List.not_mem_nil
  | p :: l, s, only, h => by
    have same : ∀ y, (s.takeSample g at_ p.1 p.2).sampled g at_ ch y = s.sampled g at_ ch y := fun y => by
      unfold State.sampled
      rw [(s.takeSample_sampling g at_ p.1 p.2).corrected]
    rw [← same]
    refine State.chan_takeSamples_in l _ (fun q hq => only q (List.mem_cons_of_mem _ hq)) ?_
    rw [same]
    by_cases mine : p.1 = ch
    · have value : p.2 = x := only p List.mem_cons_self mine
      refine .inr ?_
      rw [← mine, ← value]
      exact s.chan_takeSample ..
    · refine h.imp (fun m => (List.mem_cons.1 m).resolve_left fun e => mine (congrArg Prod.fst e).symm) fun held => ?_
      rw [s.chan_takeSample_ne g at_ p.1 p.2 (Ne.symm mine)]
      exact held
end

/-- The conversions that round k takes. -/
def State.roundTaken (s : State) (g k : Nat) (round : List Sample) : List (Nat × Sample) := (s.roundSamples g k round).filterMap id

theorem State.mem_roundTaken {s : State} {g k : Nat} {round : List Sample} {p : Nat × Sample} : p ∈ s.roundTaken g k round
    ↔ ∃ c, c < 8 ∧ s.groupChan g k c = some p.1 ∧ round.find? (fun x => x.conv.val = c) = some p.2 := by
  unfold State.roundTaken State.roundSamples
  rw [List.mem_filterMap]
  constructor
  · rintro ⟨o, ho, eq⟩
    obtain ⟨c, hc, rfl⟩ := List.mem_map.1 ho
    obtain ⟨ch, hch, rest⟩ := Option.bind_eq_some_iff.1 eq
    obtain ⟨x, hx, rfl⟩ := Option.map_eq_some_iff.1 rest
    exact ⟨c, List.mem_range.1 hc, hch, hx⟩
  · rintro ⟨c, hc, hch, hx⟩
    refine ⟨_, List.mem_map_of_mem (List.mem_range.2 hc), ?_⟩
    rw [hch, id, Option.bind_some, hx, Option.map_some]

/-- When round k of a group samples. -/
def roundAt (start k : Nat) : Nat := start + 200 + k * 1000

/-- The record of a round. -/
def State.roundRecord (s : State) (g start k : Nat) (round : List Sample) : List Nat :=
  [g, k, (s.ctimeAt (roundAt start k)).toNat] ++ (s.roundSamples g k round).map fun o => (o.map fun p => (readSample p.2).toNat).getD 0xFFF

/-- The state with another capture ring. -/
def State.setCapture (s : State) (l : List (List Nat)) : State := { s with meas := { s.meas with capture := l } }

section
variable (s : State) (l : List (List Nat))

theorem State.setCapture_sampling : Sampling s (s.setCapture l) := ⟨.of_pd rfl, rfl, State.num_of_pd rfl _, rfl, rfl, rfl⟩
theorem State.setCapture_capture : (s.setCapture l).meas.capture = l := rfl
theorem State.num_setCapture (k : Nat) : (s.setCapture l).num k = s.num k := State.num_of_pd rfl k
theorem State.chan_setCapture (ch : Nat) : (s.setCapture l).chan ch = s.chan ch := rfl
end

section
variable (s : State) (g start k : Nat) (round : List Sample)

theorem State.takeRound_eq : s.takeRound g start k round =
    if s.groupCol g 5 = 0 then s.takeSamples g (s.ctimeAt (roundAt start k)) (s.roundTaken g k round)
    else (s.takeSamples g (s.ctimeAt (roundAt start k)) (s.roundTaken g k round)).setCapture (pushLast 4096 s.meas.capture (s.roundRecord g start k round)) := by
  have col := (State.takeSamples_sampling g (s.ctimeAt (roundAt start k)) (s.roundTaken g k round) s).groupCol g 5
  have capture := State.takeSamples_capture g (s.ctimeAt (roundAt start k)) (s.roundTaken g k round) s
  rw [← col, ← capture]
  rfl

theorem State.takeRound_sampling : Sampling s (s.takeRound g start k round) := by
  rw [State.takeRound_eq]
  split
  · exact State.takeSamples_sampling ..
  · exact (State.takeSamples_sampling g _ _ s).trans (State.setCapture_sampling _ _)

theorem State.takeRound_capture : (s.takeRound g start k round).meas.capture
    = if s.groupCol g 5 = 0 then s.meas.capture else pushLast 4096 s.meas.capture (s.roundRecord g start k round) := by
  rw [State.takeRound_eq]
  split
  · exact State.takeSamples_capture ..
  · exact State.setCapture_capture ..

theorem State.num_takeRound : (s.takeRound g start k round).num PD.ADC_SAMPLES % 2 ^ 64
    = (s.num PD.ADC_SAMPLES + (s.roundTaken g k round).length) % 2 ^ 64 := by
  rw [State.takeRound_eq]
  split
  · exact State.num_takeSamples ..
  · rw [State.num_setCapture]; exact State.num_takeSamples ..

theorem State.chan_takeRound (ch : Nat) : (s.takeRound g start k round).chan ch
    = (s.takeSamples g (s.ctimeAt (roundAt start k)) (s.roundTaken g k round)).chan ch := by
  rw [State.takeRound_eq]
  split
  · rfl
  · exact State.chan_setCapture ..
end

/-! ## The rounds of a group (R433) -/

/-- The rounds ks of a group are taken in order. -/
def State.takeRounds (s : State) (g start : Nat) (rounds : List (List Sample)) (ks : List Nat) : State :=
  s.each ks fun s k => s.takeRound g start k ((rounds[k]?).getD [])

section
variable (g start : Nat) (rounds : List (List Sample))

theorem State.takeRounds_sampling : ∀ (ks : List Nat) (s : State), Sampling s (s.takeRounds g start rounds ks)
  | [], s => .refl s
  | _ :: ks, s => (s.takeRound_sampling ..).trans (State.takeRounds_sampling ks _)

theorem State.num_takeRounds : ∀ (ks : List Nat) (s : State), (s.takeRounds g start rounds ks).num PD.ADC_SAMPLES % 2 ^ 64
    = (s.num PD.ADC_SAMPLES + (ks.map fun k => (s.roundTaken g k ((rounds[k]?).getD [])).length).sum) % 2 ^ 64
  | [], _ => rfl
  | k :: ks, s => by
    have alike := s.takeRound_sampling g start k ((rounds[k]?).getD [])
    have same : ∀ i round, (s.takeRound g start k ((rounds[k]?).getD [])).roundTaken g i round = s.roundTaken g i round := fun i round => by
      unfold State.roundTaken; rw [alike.roundSamples]
    refine (State.num_takeRounds ks (s.takeRound g start k ((rounds[k]?).getD []))).trans ?_
    rw [Nat.add_mod, State.num_takeRound, ← Nat.add_mod, List.map_cons, List.sum_cons, Nat.add_assoc]
    simp only [same]

theorem State.takeRounds_capture : ∀ (ks : List Nat) (s : State), (s.takeRounds g start rounds ks).meas.capture
    = if s.groupCol g 5 = 0 then s.meas.capture
      else ks.foldl (fun l k => pushLast 4096 l (s.roundRecord g start k ((rounds[k]?).getD []))) s.meas.capture
  | [], s => by split <;> rfl
  | k :: ks, s => by
    have alike := s.takeRound_sampling g start k ((rounds[k]?).getD [])
    have same : ∀ i round, (s.takeRound g start k ((rounds[k]?).getD [])).roundRecord g start i round = s.roundRecord g start i round := fun i round => by
      unfold State.roundRecord; rw [alike.roundSamples, alike.ctimeAt]
    refine (State.takeRounds_capture ks (s.takeRound g start k ((rounds[k]?).getD []))).trans ?_
    rw [alike.groupCol, State.takeRound_capture]
    simp only [same]
    by_cases off : s.groupCol g 5 = 0
    · rw [if_pos off, if_pos off, if_pos off]
    · rw [if_neg off, if_neg off, if_neg off, List.foldl_cons]

/-- A channel that no conversion of the rounds names keeps its result. -/
theorem State.chan_takeRounds_out {ch : Nat} : ∀ (ks : List Nat) (s : State), (∀ k, k ∈ ks → ∀ c, c < 8 → s.groupChan g k c ≠ some ch) →
    (s.takeRounds g start rounds ks).chan ch = s.chan ch
  | [], _, _ => rfl
  | k :: ks, s, h => by
    have alike := s.takeRound_sampling g start k ((rounds[k]?).getD [])
    refine (State.chan_takeRounds_out ks _ fun i hi c hc => by rw [alike.groupChan]; exact h i (List.mem_cons_of_mem _ hi) c hc).trans ?_
    rw [State.chan_takeRound]
    refine State.chan_takeSamples_out _ _ _ _ fun p hp same => ?_
    obtain ⟨c, hc, hch, -⟩ := State.mem_roundTaken.1 hp
    exact h k List.mem_cons_self c hc (by rw [hch, same])

/-- A channel that one conversion of the rounds names takes its result. -/
theorem State.chan_takeRounds_in {ch k c : Nat} {x : Sample} (hc : c < 8) : ∀ (ks : List Nat) (s : State), s.groupChan g k c = some ch →
    (∀ i j, i ∈ ks → j < 8 → s.groupChan g i j = some ch → i = k ∧ j = c) → ((rounds[k]?).getD []).find? (fun y => y.conv.val = c) = some x →
    (k ∈ ks ∨ s.chan ch = s.sampled g (s.ctimeAt (roundAt start k)) ch x) →
    (s.takeRounds g start rounds ks).chan ch = s.sampled g (s.ctimeAt (roundAt start k)) ch x
  | [], _, _, _, _, h => h.resolve_left List.not_mem_nil
  | i :: ks, s, named, once, hx, h => by
    have alike := s.takeRound_sampling g start i ((rounds[i]?).getD [])
    obtain ⟨t, ht⟩ : ∃ t, t = s.takeRound g start i ((rounds[i]?).getD []) := ⟨_, rfl⟩
    rw [← ht] at alike
    have same : t.sampled g (t.ctimeAt (roundAt start k)) ch x = s.sampled g (s.ctimeAt (roundAt start k)) ch x := by
      unfold State.sampled; rw [alike.corrected, alike.ctimeAt]
    have later := State.chan_takeRounds_in hc ks t (by rw [alike.groupChan]; exact named)
      (fun a j ha hj e => once a j (List.mem_cons_of_mem _ ha) hj (by rw [← alike.groupChan]; exact e)) hx
    rw [same] at later
    have step : (s.takeRounds g start rounds (i :: ks)) = t.takeRounds g start rounds ks := by rw [ht]; rfl
    rw [step]
    refine later ?_
    by_cases here : i = k
    · refine .inr ?_
      rw [ht, State.chan_takeRound, here]
      refine State.chan_takeSamples_in _ _ _ _ (fun p hp mine => ?_) (.inl (State.mem_roundTaken.2 ⟨c, hc, named, hx⟩))
      obtain ⟨j, hj, hch, hp⟩ := State.mem_roundTaken.1 hp
      obtain ⟨-, rfl⟩ := once k j (here ▸ List.mem_cons_self) hj (by rw [hch, mine])
      exact Option.some_inj.1 (hp.symm.trans hx)
    · refine h.imp (fun m => (List.mem_cons.1 m).resolve_left (Ne.symm here)) fun held => ?_
      rw [ht, State.chan_takeRound]
      refine (State.chan_takeSamples_out _ _ _ _ fun p hp mine => ?_).trans held
      obtain ⟨j, hj, hch, -⟩ := State.mem_roundTaken.1 hp
      exact here (once i j List.mem_cons_self hj (by rw [hch, mine])).1
end

/-! ## The end of a group (R432, R433) -/

/-- A group's results are in: it runs no more, and the tick's group has completed. -/
def State.groupEnded (s : State) (g : Nat) : State :=
  { s with meas := { s.meas with
      running := s.meas.running.filter fun r => r.1 ≠ g
      tickDone := s.meas.tickDone || g = s.num PD.LEVEL_GROUP } }

theorem exec_samplingGroupDone {s : State} {group : Fin 16} {start : Nat} (runs : s.mode.hubRuns = true)
    (h : s.meas.running.find? (fun r => r.1 = group.val) = some (group.val, start)) (rounds : List (List Sample)) :
    exec (.samplingGroupDone group rounds) s = .next ((((s.runTo (start + 200 + s.groupCol group.val 6 * 1000)).takeRounds group.val start rounds
      (List.range (s.groupCol group.val 6))).groupEnded group.val).startWaiting.calWhenIdle) := by
  show execSamplingGroupDone group rounds s = _
  unfold execSamplingGroupDone
  dsimp only
  rw [h]
  exact if_neg (by rw [runs]; decide)

/-- Of the measurement unit the start of pending groups changes what runs and what waits. -/
structure Waiting (s t : State) : Prop where
  results : t.meas.results = s.meas.results
  capture : t.meas.capture = s.meas.capture
  tickDone : t.meas.tickDone = s.meas.tickDone
  pd : t.pd = s.pd
  course : t.course = s.course
  running : ∃ l, t.meas.running = s.meas.running ++ l ∧ ∀ r, r ∈ l → r.1 ∈ s.meas.waiting

/-- A pending group starts where its converters are free. -/
def State.startPending (s : State) (g : Nat) : State := if s.convsFree g then s.startGroup g else s

theorem State.startPendings (ws : List Nat) : ∀ (l : List Nat) (s : State), (∀ g, g ∈ l → g ∈ ws) →
    (s.each l State.startPending).meas.results = s.meas.results ∧ (s.each l State.startPending).meas.capture = s.meas.capture
    ∧ (s.each l State.startPending).meas.tickDone = s.meas.tickDone ∧ (s.each l State.startPending).pd = s.pd
    ∧ (s.each l State.startPending).course = s.course
    ∧ ∃ rs, (s.each l State.startPending).meas.running = s.meas.running ++ rs ∧ ∀ r, r ∈ rs → r.1 ∈ ws
  | [], s, _ => ⟨rfl, rfl, rfl, rfl, rfl, [], (List.append_nil _).symm, nofun⟩
  | g :: l, s, h => by
    obtain ⟨results, capture, tickDone, pd, course, rs, running, pending⟩ :=
      State.startPendings ws l (s.startPending g) fun i hi => h i (List.mem_cons_of_mem _ hi)
    by_cases free : s.convsFree g = true
    · have one : s.startPending g = s.startGroup g := if_pos free
      rw [one] at results capture tickDone pd course running
      have step : s.each (g :: l) State.startPending = (s.startGroup g).each l State.startPending := by rw [← one]; rfl
      rw [step]
      refine ⟨results, capture, tickDone, pd, course, (g, s.course.now) :: rs, running.trans (List.append_assoc _ [_] rs), fun r hr => ?_⟩
      rcases List.mem_cons.1 hr with rfl | hr
      · exact h g List.mem_cons_self
      · exact pending r hr
    · have one : s.startPending g = s := if_neg free
      rw [one] at results capture tickDone pd course running
      have step : s.each (g :: l) State.startPending = s.each l State.startPending := by
        show (s.startPending g).each l State.startPending = _
        rw [one]
      rw [step]
      exact ⟨results, capture, tickDone, pd, course, rs, running, pending⟩

theorem State.run_calWhenIdle (s : State) : Run 4398047559680 [0xA01003] s s.calWhenIdle := calWhenIdle_run rfl (fun _ => id) (Run.refl _ _ s)

theorem State.run_takeRounds (s : State) (g start : Nat) (rounds : List (List Sample)) (ks : List Nat) :
    Run 1099511627776 [0x900204, 0x900206] s (s.takeRounds g start rounds ks) :=
  each_run (fun _ _ => takeRound_run rfl (fun _ => id)) (Run.refl _ _ s)

theorem State.startWaiting_eq (s : State) : s.startWaiting = s.each ((List.range 16).filter s.meas.waiting.contains) State.startPending := rfl

theorem State.startWaiting_waiting (s : State) : Waiting s s.startWaiting := by
  obtain ⟨results, capture, tickDone, pd, course, running⟩ := State.startPendings s.meas.waiting ((List.range 16).filter s.meas.waiting.contains) s
    fun g hg => List.contains_iff_mem.1 (List.mem_filter.1 hg).2
  exact ⟨results, capture, tickDone, pd, course, running⟩

/-- One pending group alone starts when its converters are free. -/
theorem State.startWaiting_starts {s : State} {g : Nat} (h : g < 16) (one : s.meas.waiting = [g]) (free : s.convsFree g = true) :
    (g, s.course.now) ∈ s.startWaiting.meas.running := by
  have pending : (List.range 16).filter s.meas.waiting.contains = [g] := by
    rw [← filter_range_eq h]
    exact List.filter_congr fun i _ => by rw [one, List.contains_eq_mem]; exact decide_eq_decide.2 List.mem_singleton
  have started : s.startWaiting = s.startGroup g := by
    rw [State.startWaiting_eq, pending]
    exact if_pos free
  rw [started]
  exact List.mem_append_right _ List.mem_cons_self

theorem State.wrapped_pd (s : State) (n : Nat) : (s.wrapped n).pd = s.pd := by
  unfold State.wrapped
  split
  · rfl
  · dsimp only
    split
    · split
      · rfl
      · rfl
    · rfl

theorem State.runTo_pd (s : State) (t : Nat) : (s.runTo t).pd = s.pd := State.wrapped_pd _ _

/-! ## Commands, edges, timers and ticks (R430, R434, R439) -/

section
variable {s : State}

theorem exec_adcTrigger_group {g : Byte} (h : s.mode.commands = true) (small : g.toNat < 16) (kind : s.groupCol g.toNat 0 = 6) :
    exec (.adcTrigger g) s = .next ((s.setNum PD.ADC_TRIGGER_RESULT 0).triggerOne g.toNat) := by
  have good : ¬ (16 ≤ g.toNat ∨ s.groupCol g.toNat 0 ≠ 6) := by omega
  refine congrArg Host.Outcome.next ((if_neg (by rw [h]; decide)).trans ((if_neg good).trans ?_))
  exact (State.triggerAll_serve (s := s.setNum PD.ADC_TRIGGER_RESULT 0) (Mode.commands_hubRuns h) _).trans (State.serve_one small)

theorem exec_extTrig_edge {rising : Bool} {b : Nat} (ball : (s.rows PD.BALL_SELECT)[8]? = some [b]) (runs : s.mode.hubRuns = true) (h : b < 8) :
    exec (.extTrig rising) s = .next (s.serve fun g => s.groupCol g 0 = if rising then 3 else 4) := by
  show execExtTrig rising s = _
  unfold execExtTrig
  rw [ball]
  exact (if_pos h).trans (congrArg Host.Outcome.next (State.triggerAll_serve runs _))

theorem exec_extTrig_none {rising : Bool} {b : Nat} (ball : (s.rows PD.BALL_SELECT)[8]? = some [b]) (h : 8 ≤ b) : exec (.extTrig rising) s = .next s := by
  show execExtTrig rising s = _
  unfold execExtTrig
  rw [ball]
  exact if_neg (Nat.not_lt.2 h)

/-- A timer that has expired starts its next period, and duties that wait for it take effect. -/
def State.timerTurned (s : State) (i due : Nat) : State :=
  let t : State := { s with meas := { s.meas with timers := kvSet (fun _ => 0) s.meas.timers i due } }
  if t.num PD.PWM_TIMER = i then { t with meas := { t.meas with duty := t.meas.dutyNext } } else t

theorem State.timerTurned_eq (s : State) (i due : Nat) : s.timerTurned i due = { s with meas := { s.meas with
    timers := kvSet (fun _ => 0) s.meas.timers i due
    duty := if s.num PD.PWM_TIMER = i then s.meas.dutyNext else s.meas.duty } } := by
  have num : ∀ m, ({ s with meas := m } : State).num PD.PWM_TIMER = s.num PD.PWM_TIMER := fun _ => State.num_of_pd rfl _
  unfold State.timerTurned
  dsimp only
  rw [num]
  split
  · rfl
  · rfl

theorem State.timerTurned_runTo (s : State) (i due : Nat) : (s.runTo due).timerTurned i due = { s.runTo due with meas := { (s.runTo due).meas with
    timers := kvSet (fun _ => 0) (s.runTo due).meas.timers i due
    duty := if s.num PD.PWM_TIMER = i then s.meas.dutyNext else s.meas.duty } } := by
  obtain ⟨ts, meas⟩ := s.runTo_meas due
  have next : (s.runTo due).meas.dutyNext = s.meas.dutyNext := by rw [meas]
  have duty : (s.runTo due).meas.duty = s.meas.duty := by rw [meas]
  rw [State.timerTurned_eq, State.num_of_pd (s.runTo_pd due), next, duty]

theorem exec_timerExpiry {timer : Fin 16} {due : Nat} (runs : s.mode.hubRuns = true)
    (on : (((s.rows PD.TIMER_TABLE)[timer.val]?).getD []).getD 0 0 ≠ 0)
    (hd : due = kvGet (fun _ => 0) s.meas.timers timer.val + (((s.rows PD.TIMER_TABLE)[timer.val]?).getD []).getD 0 0) :
    exec (.timerExpiry timer) s = .next (((s.runTo due).timerTurned timer.val due).serve fun g => s.groupCol g 0 = 2 && s.groupCol g 1 = timer.val) := by
  have run : exec (.timerExpiry timer) s = .next (((s.runTo due).timerTurned timer.val due).triggerAll fun g =>
      ((s.runTo due).timerTurned timer.val due).groupCol g 0 = 2 && ((s.runTo due).timerTurned timer.val due).groupCol g 1 = timer.val) := by
    rw [hd]
    exact if_neg (not_or.2 ⟨on, by rw [runs]; decide⟩)
  have pd : ((s.runTo due).timerTurned timer.val due).pd = s.pd := by rw [State.timerTurned_eq]; exact s.runTo_pd due
  have working : ((s.runTo due).timerTurned timer.val due).mode.hubRuns = true := by
    have mode : ((s.runTo due).timerTurned timer.val due).mode = s.mode := by rw [State.timerTurned_eq]; exact (s.run_runTo due).part .mode rfl
    rw [mode]; exact runs
  rw [State.triggerAll_serve working] at run
  simp only [(SameGroups.of_pd pd).groupCol] at run
  exact run

theorem exec_levelTick (runs : s.mode.hubRuns = true) : exec .levelTick s
    = .next (({ s with meas := { s.meas with tickOpen := true, tickDone := false } } : State).serve fun g => g = s.num PD.LEVEL_GROUP) :=
  (if_neg (by rw [runs]; decide)).trans (congrArg Host.Outcome.next
    (State.triggerAll_serve (s := { s with meas := { s.meas with tickOpen := true, tickDone := false } }) runs _))

end

end Sys2Proof.Machine

open Sys2Proof Sys2Proof.Machine

/-- Settles O48: a trigger by what runs and waits, a cycle's triggers in their order, a group's end by its conversions. -/
theorem samplingGroupsAreTriggeredAndTheirResultsTakenTogether : Obligations.SamplingGroupsAreTriggeredAndTheirResultsTakenTogether := by
  unfold Obligations.SamplingGroupsAreTriggeredAndTheirResultsTakenTogether
  refine ⟨fun s g => ⟨State.triggerOne_merged, fun idle free => ⟨fun urgent now => ?urgentStarts, fun urgent busy => ?urgentDropped,
      fun normal now => ?normalStarts, fun busy normal => ?normalWaits⟩⟩,
    fun s g => ⟨fun h => ?wrongState, fun h bad => ?badArgument, fun h small kind => ?commanded⟩, fun s rising b ball runs => ⟨fun h => ?edge, fun h => ?noBall⟩,
    fun s timer period w runs hp on => ?timer, fun s runs => ⟨_, rfl, ?tick⟩, fun s group rounds start w runs running => ?done⟩
  case urgentStarts => exact ⟨_, (State.triggerOne_urgent idle free urgent).trans (if_pos now), rfl, rfl⟩
  case urgentDropped => exact (State.triggerOne_urgent idle free urgent).trans (if_neg (by rw [busy]; decide))
  case normalStarts => exact ⟨_, (State.triggerOne_normal idle free normal).trans (if_pos now), rfl, rfl⟩
  case normalWaits => exact (State.triggerOne_normal idle free normal).trans (if_neg (by rw [busy]; decide))
  case wrongState => exact congrArg Host.Outcome.next (if_pos (by rw [h]; rfl))
  case badArgument => exact congrArg Host.Outcome.next ((if_neg (by rw [h]; decide)).trans (if_pos bad))
  case commanded => exact exec_adcTrigger_group h small kind
  case edge => exact exec_extTrig_edge ball runs h
  case noBall => exact exec_extTrig_none ball h
  case timer =>
    subst hp
    refine (exec_timerExpiry runs on rfl).trans ?_
    rw [State.timerTurned_runTo]
    rfl
  case tick => exact exec_levelTick runs
  case done =>
    intro n T W got
    have run : exec (.samplingGroupDone group rounds) s = .next (((T.takeRounds group.val start rounds (List.range n)).groupEnded
      group.val).startWaiting.calWhenIdle) := exec_samplingGroupDone runs running rounds
    obtain ⟨ts, meas⟩ : ∃ ts, T.meas = { s.meas with timers := ts } := s.runTo_meas _
    have pd : T.pd = s.pd := s.runTo_pd _
    have same := SameGroups.of_pd pd
    have okT : T.dictOk = true := (s.run_runTo _).dict w
    clear_value T
    obtain ⟨R, hR⟩ : ∃ R, R = T.takeRounds group.val start rounds (List.range n) := ⟨_, rfl⟩
    have taken : Sampling T R := by rw [hR]; exact State.takeRounds_sampling ..
    have okR : R.dictOk = true := by rw [hR]; exact (State.run_takeRounds ..).dict okT
    have waits := (R.groupEnded group.val).startWaiting_waiting
    have rest := State.run_calWhenIdle (R.groupEnded group.val).startWaiting
    rw [← hR] at run
    obtain ⟨u, hu⟩ : ∃ u, u = (R.groupEnded group.val).startWaiting.calWhenIdle := ⟨_, rfl⟩
    rw [← hu] at run rest
    have umeas : u.meas = (R.groupEnded group.val).startWaiting.meas := rest.part .meas rfl
    have uchan : ∀ ch, u.chan ch = R.chan ch := fun ch => by unfold State.chan; rw [umeas, waits.results]; rfl
    have tchan : ∀ ch, T.chan ch = s.chan ch := fun ch => by unfold State.chan; rw [meas]
    have waiting : (R.groupEnded group.val).meas.waiting = s.meas.waiting := taken.waiting.trans (by rw [meas])
    have left : (R.groupEnded group.val).meas.running = s.meas.running.filter fun r => r.1 ≠ group.val :=
      congrArg (List.filter _) (taken.running.trans (by rw [meas]))
    refine ⟨u, run, fun k c ch x hk hc named once hx => ?_, fun ch none => ?_, ?_, ?_, ?_, fun apart r hr => ?_, fun h hh one free => ?_⟩
    · have result := State.chan_takeRounds_in group.val start rounds hc (List.range n) T (by rw [same.groupChan]; exact named)
        (fun i j hi hj e => once i j (List.mem_range.1 hi) hj (by rw [← same.groupChan]; exact e)) hx (.inl (List.mem_range.2 hk))
      rw [uchan, hR, result]
      unfold State.sampled
      rw [same.corrected]
      rfl
    · rw [uchan, hR, State.chan_takeRounds_out group.val start rounds (List.range n) T fun k hk c hc => by
        rw [same.groupChan]; exact none k c (List.mem_range.1 hk) hc]
      exact tchan ch
    · have okW : (R.groupEnded group.val).startWaiting.dictOk = true := by unfold State.dictOk; rw [waits.pd]; exact okR
      rw [rest.num_eq okW rfl (by decide), State.num_of_pd waits.pd]
      have kept : (R.groupEnded group.val).num PD.ADC_SAMPLES = R.num PD.ADC_SAMPLES := State.num_of_pd rfl _
      rw [kept, hR, State.num_takeRounds, State.num_of_pd pd]
      simp only [State.roundTaken, same.roundSamples]
      rfl
    · have kept : u.meas.capture = R.meas.capture := by rw [umeas, waits.capture]; rfl
      rw [kept, hR, State.takeRounds_capture, same.groupCol]
      simp only [State.roundRecord, same.roundSamples, show T.meas.capture = s.meas.capture by rw [meas]]
      rfl
    · have kept : u.meas.tickDone = (R.meas.tickDone || decide (group.val = R.num PD.LEVEL_GROUP)) := by rw [umeas, waits.tickDone]; rfl
      rw [kept, taken.tickDone, taken.level, State.num_of_pd pd, meas]
    · obtain ⟨l, now, pending⟩ := waits.running
      rw [umeas, now, left] at hr
      rcases List.mem_append.1 hr with old | new
      · exact of_decide_eq_true (List.mem_filter.1 old).2
      · intro mine
        exact apart (by rw [← mine, ← waiting]; exact pending r new)
    · have starts := State.startWaiting_starts hh (waiting.trans one) ?_
      · rw [umeas, ← taken.course]; exact starts
      · have groups : SameGroups W (R.groupEnded group.val) := ⟨taken.groups, taken.external⟩
        exact (groups.convsFree left h).trans free
end

section
/-! Proofs of the Level loop (R438-R443): what a change of F leaves, an alarm's tick, the valve, THROTTLE_OUT_N, and the statement
TheLevelLoopSetsFAlarmsAndTheValve. -/
namespace Sys2Proof.Machine

/-! ## A trigger moves only what runs and waits (R432) -/

section
variable (s : State)

theorem State.triggerOne_meas (g : Nat) : ∃ r w, (s.triggerOne g).meas = { s.meas with running := r, waiting := w } := by
  unfold State.triggerOne
  split_ifs
  · exact ⟨_, _, rfl⟩
  · exact ⟨_, _, rfl⟩
  · exact ⟨_, _, rfl⟩
  · exact ⟨_, _, rfl⟩
  · exact ⟨_, _, rfl⟩

theorem State.each_triggerOne_meas : ∀ (l : List Nat) (s : State), ∃ r w, (s.each l State.triggerOne).meas = { s.meas with running := r, waiting := w }
  | [], _ => ⟨_, _, rfl⟩
  | g :: l, s => by
    obtain ⟨_, _, first⟩ := s.triggerOne_meas g
    obtain ⟨r, w, rest⟩ := State.each_triggerOne_meas l (s.triggerOne g)
    exact ⟨r, w, rest.trans (by rw [first])⟩

theorem State.triggerKind_meas (kind : Nat) : ∃ r w, (s.triggerKind kind).meas = { s.meas with running := r, waiting := w } := by
  unfold State.triggerKind State.triggerAll
  split
  · exact ⟨_, _, rfl⟩
  · obtain ⟨_, _, urgent⟩ := State.each_triggerOne_meas (((List.range 16).filter fun g => s.groupCol g 0 = kind).filter fun g => s.groupCol g 4 ≠ 0) s
    obtain ⟨r, w, normal⟩ := State.each_triggerOne_meas (((List.range 16).filter fun g => s.groupCol g 0 = kind).filter fun g => s.groupCol g 4 = 0)
      (s.each (((List.range 16).filter fun g => s.groupCol g 0 = kind).filter fun g => s.groupCol g 4 ≠ 0) State.triggerOne)
    exact ⟨r, w, normal.trans (by rw [urgent])⟩

/-! ## THROTTLE_OUT_N (R438) -/

/-- THROTTLE_OUT_N asserted, its count of quiet ticks anew. -/
def State.throttled : State := { s with meas := { s.meas with throttleOutN := false, quietTicks := 0 } }

theorem State.run_throttleOut : Run 1099511627776 [] s s.throttleOut := throttleOut_run rfl nofun (Run.refl _ _ s)

theorem State.throttleOut_meas : ∃ o q, s.throttleOut.meas = { s.meas with throttleOutN := o, quietTicks := q } := by
  unfold State.throttleOut
  split
  · exact ⟨_, _, rfl⟩
  · exact ⟨_, _, rfl⟩

theorem State.throttleOut_asserted (h : s.num PD.LEVEL_F < 64 ∨ s.num PD.LEVEL_ALARMS ≠ 0) : s.throttleOut = s.throttled := if_pos h

/-! ## A change of F (R438, R441) -/

/-- F has its new value; it signals POWER as it leaves 64. -/
def State.leaveFull (f : Nat) : State :=
  if s.num PD.LEVEL_F = 64 ∧ f < 64 then (s.setNum PD.LEVEL_F f).cause irqPower else s.setNum PD.LEVEL_F f

/-- F has its new value and its fall is signalled; THROTTLE_OUT_N is as before. -/
def State.signalF (f : Nat) : State := if f < s.num PD.LEVEL_F then (s.leaveFull f).triggerKind 5 else s.leaveFull f

theorem State.setF_eq (f : Nat) : s.setF f = if f < 64 then (s.signalF f).throttled else s.signalF f := rfl

theorem State.run_leaveFull (f : Nat) : Run 36696200577024 [0x900202, 0x900203] (s.setNum PD.LEVEL_F f) (s.leaveFull f) := by
  unfold State.leaveFull
  exact ite_run (cause_run rfl nofun (Run.refl _ _ _)) (Run.refl _ _ _)

theorem State.run_signalF (f : Nat) : Run 36696200577024 [0x900202, 0x900203] (s.setNum PD.LEVEL_F f) (s.signalF f) := by
  unfold State.signalF
  exact ite_run (triggerKind_run rfl (fun _ => id) (s.run_leaveFull f)) (s.run_leaveFull f)

/-- What a new F changes beyond LEVEL_F. -/
theorem State.run_setF (f : Nat) : Run 36696200577024 [0x900202, 0x900203] (s.setNum PD.LEVEL_F f) (s.setF f) := by
  rw [s.setF_eq f]
  exact ite_run (run_upd_meas rfl (s.run_signalF f)) (s.run_signalF f)

theorem State.leaveFull_meas (f : Nat) : (s.leaveFull f).meas = s.meas := by
  unfold State.leaveFull
  split
  · exact (cause_run rfl nofun (Run.refl 35596688949248 [] (s.setNum PD.LEVEL_F f))).part .meas rfl
  · rfl

theorem State.signalF_meas (f : Nat) : ∃ r w, (s.signalF f).meas = { s.meas with running := r, waiting := w } := by
  unfold State.signalF
  split
  · obtain ⟨r, w, triggered⟩ := (s.leaveFull f).triggerKind_meas 5
    exact ⟨r, w, triggered.trans (by rw [s.leaveFull_meas f])⟩
  · exact ⟨_, _, s.leaveFull_meas f⟩

theorem State.setF_meas (f : Nat) : ∃ r w o q, (s.setF f).meas = { s.meas with running := r, waiting := w, throttleOutN := o, quietTicks := q } := by
  obtain ⟨r, w, signal⟩ := s.signalF_meas f
  rw [s.setF_eq f]
  split
  · exact ⟨r, w, _, _, by show { (s.signalF f).meas with throttleOutN := false, quietTicks := 0 } = _; rw [signal]⟩
  · exact ⟨r, w, _, _, signal⟩

theorem State.setF_throttles {f : Nat} (low : f < 64) : (s.setF f).meas.throttleOutN = false := by rw [s.setF_eq f, if_pos low]; rfl

@[simp] theorem State.setF_mode (f : Nat) : (s.setF f).mode = s.mode := (s.run_setF f).part .mode rfl

variable {s} (w : s.dictOk = true)
include w

theorem State.dictOk_setF (f : Nat) : (s.setF f).dictOk = true := (s.run_setF f).dict (State.dictOk_setNum w)
theorem State.num_setF_F (f : Nat) : (s.setF f).num PD.LEVEL_F = f :=
  ((s.run_setF f).num_eq (State.dictOk_setNum w) rfl (by decide)).trans State.num_setNum
theorem State.num_setF_ne (f : Nat) {k : Nat} (hk : k ∉ [0x900202, 0x900203, PD.LEVEL_F]) : (s.setF f).num k = s.num k :=
  ((s.run_setF f).num_eq (State.dictOk_setNum w) rfl (fun m => hk (subk_mem rfl m))).trans
    (State.num_setNum_ne fun e => hk (by rw [e]; exact List.mem_of_getLast? rfl))
end

/-! ## FAULT (R455) -/

theorem State.fault_mode {s : State} (off : s.mode ≠ .off) (reset : s.mode ≠ .reset) (frozen : s.mode ≠ .frozen) : s.fault.mode = .fault := by
  unfold State.fault
  split
  case h_1 h => exact absurd h off
  case h_2 h => exact absurd h reset
  case h_3 h => exact h
  case h_4 => exact (State.run_epsUp _).part .mode rfl |>.trans (State.leaveFor_mode ..)
  case h_5 => exact State.leaveFor_mode ..
  case h_6 => exact State.leaveFor_mode ..
  case h_7 h => exact absurd h frozen
  case h_8 => exact State.leaveFor_mode ..

/-! ## An alarm (R443) -/

section
variable (s : State) (b : Nat)

/-- Whether an alarm stops the module: LEAK and TJ_TRIP. -/
def alarmStops : Bool := b = alLeak || b = alTjTrip

theorem alarmStops_iff : alarmStops b = true ↔ b = alLeak ∨ b = alTjTrip := by simp [alarmStops]

/-- The spall of an alarm. -/
def alarmSpall : Spall := { kind := 0x31, level := 3, mech := 14, outcome := if alarmStops b then 4 else 0, detail := [detailUint 0 b] }

/-- An alarm's bit is set and its spall recorded. -/
def State.alarmed : State := (s.setNum PD.LEVEL_ALARMS (orBit (s.num PD.LEVEL_ALARMS) b)).spall (alarmSpall b)

theorem State.setAlarm_eq : s.setAlarm b
    = if s.alarm b then s else if alarmStops b then ((s.alarmed b).throttled.setF 0).fault else (s.alarmed b).throttled := rfl

theorem State.run_alarmed : Run 39994735460352 [0xA10001, 0xA10006] (s.setNum PD.LEVEL_ALARMS (orBit (s.num PD.LEVEL_ALARMS) b)) (s.alarmed b) :=
  State.run_spall _ _

theorem State.run_alarmed_throttled : Run 41094247088128 [0xA10001, 0xA10006] (s.setNum PD.LEVEL_ALARMS (orBit (s.num PD.LEVEL_ALARMS) b))
    (s.alarmed b).throttled := run_upd_meas rfl (spall_run rfl (fun _ => id) (Run.refl _ _ _))

/-- What an alarm that stops the module changes once its bit is set. -/
theorem State.run_alarmed_stops : Run 49962803840705 [0x600002, 0x600003, 0x600004, 0x600007, 0x600203, 0x900202, 0x900203, 0x903101, 0xA10001, 0xA10006]
    (s.setNum PD.LEVEL_ALARMS (orBit (s.num PD.LEVEL_ALARMS) b)) ((s.alarmed b).throttled.setF 0).fault :=
  fault_run rfl (fun _ => subk_mem rfl) (setF_run rfl (fun _ => subk_mem rfl) (run_upd_meas rfl (spall_run rfl (fun _ => subk_mem rfl) (Run.refl _ _ _))))

variable {s} {b} (w : s.dictOk = true)
include w

theorem State.num_setAlarm_alarms : (s.setAlarm b).num PD.LEVEL_ALARMS = orBit (s.num PD.LEVEL_ALARMS) b := by
  rw [s.setAlarm_eq b]
  split_ifs with on stop
  · exact (if_pos on).symm
  · exact ((s.run_alarmed_stops b).num_eq (State.dictOk_setNum w) rfl (by decide)).trans State.num_setNum
  · exact ((s.run_alarmed_throttled b).num_eq (State.dictOk_setNum w) rfl (by decide)).trans State.num_setNum

variable (off : s.alarm b = false)
include off

/-- LEAK and TJ_TRIP put F to 0 and bring the module to FAULT. -/
theorem State.setAlarm_stops (stop : alarmStops b = true) : (s.setAlarm b).num PD.LEVEL_F = 0
    ∧ (s.mode ≠ .off → s.mode ≠ .reset → s.mode ≠ .frozen → (s.setAlarm b).mode = .fault) := by
  have set : s.setAlarm b = ((s.alarmed b).throttled.setF 0).fault :=
    (s.setAlarm_eq b).trans ((if_neg (by rw [off]; decide)).trans (if_pos stop))
  have raised := s.run_alarmed_throttled b
  have w' := raised.dict (State.dictOk_setNum w)
  have mode : ((s.alarmed b).throttled.setF 0).mode = s.mode := (State.setF_mode _ 0).trans (raised.part .mode rfl)
  rw [set]
  refine ⟨?_, fun off reset frozen => State.fault_mode (mode ▸ off) (mode ▸ reset) (mode ▸ frozen)⟩
  exact ((State.run_fault _).num_eq (State.dictOk_setF w' 0) rfl (by decide)).trans (State.num_setF_F w' 0)

/-- Another alarm asserts THROTTLE_OUT_N and leaves F and the module's state. -/
theorem State.setAlarm_signals (go : alarmStops b = false) : (s.setAlarm b).num PD.LEVEL_F = s.num PD.LEVEL_F ∧ (s.setAlarm b).mode = s.mode
    ∧ (s.setAlarm b).meas.throttleOutN = false := by
  have set : s.setAlarm b = (s.alarmed b).throttled :=
    (s.setAlarm_eq b).trans ((if_neg (by rw [off]; decide)).trans (if_neg (by rw [go]; decide)))
  have raised := s.run_alarmed_throttled b
  rw [set]
  exact ⟨(raised.num_eq (State.dictOk_setNum w) rfl (by decide)).trans (State.num_setNum_ne (by decide)), raised.part .mode rfl, rfl⟩
end

/-! ## An alarm's tick (R443) -/

section
variable (s : State) (b need : Nat) (cond : Bool)

/-- Consecutive ticks with the alarm's condition, with this one. -/
def State.ticksWith : Nat := if cond then kvGet (fun _ => 0) s.meas.causeTicks b + 1 else 0

/-- Consecutive ticks without it, with this one. -/
def State.ticksWithout : Nat := kvGet (fun _ => 0) s.meas.clearTicks b + 1

/-- An alarm's ticks counted. -/
def State.countTick (n q : Nat) : State :=
  { s with meas := { s.meas with
    causeTicks := kvSet (fun _ => 0) s.meas.causeTicks b (min n 100)
    clearTicks := kvSet (fun _ => 0) s.meas.clearTicks b (min q 10) } }

theorem State.run_countTick (n q : Nat) : Run 1099511627776 [] s (s.countTick b n q) := run_upd_meas rfl (Run.refl _ _ s)
theorem State.num_countTick (n q k : Nat) : (s.countTick b n q).num k = s.num k := State.num_of_pd rfl k
theorem State.alarm_countTick (n q : Nat) : (s.countTick b n q).alarm b = s.alarm b := by unfold State.alarm; rw [State.num_countTick]

variable {s b need cond}

theorem State.alarmTick_sets (held : need ≤ s.ticksWith b cond) : s.alarmTick b need cond = (s.countTick b (s.ticksWith b cond) 0).setAlarm b := by
  have q : (if need ≤ s.ticksWith b cond then 0 else s.ticksWithout b) = 0 := if_pos held
  exact (if_pos held).trans (congrArg (fun q => (s.countTick b (s.ticksWith b cond) q).setAlarm b) q)

/-- An alarm's bit goes once its condition has been away for its ticks; LEAK and TJ_TRIP stay. -/
def State.clearTick (s : State) (b q : Nat) : State :=
  if 10 ≤ q ∧ b ≠ alLeak ∧ b ≠ alTjTrip ∧ s.alarm b then s.setNum PD.LEVEL_ALARMS (setBit (s.num PD.LEVEL_ALARMS) b false) else s

theorem State.alarmTick_clears (short : s.ticksWith b cond < need) :
    s.alarmTick b need cond = (s.countTick b (s.ticksWith b cond) (s.ticksWithout b)).clearTick b (s.ticksWithout b) := by
  have q : (if need ≤ s.ticksWith b cond then 0 else s.ticksWithout b) = s.ticksWithout b := if_neg (Nat.not_le.2 short)
  exact (if_neg (Nat.not_le.2 short)).trans (congrArg (fun q => (s.countTick b (s.ticksWith b cond) q).clearTick b q) q)

theorem State.num_clearTick_alarms (q : Nat) : (s.clearTick b q).num PD.LEVEL_ALARMS
    = if 10 ≤ q ∧ b ≠ alLeak ∧ b ≠ alTjTrip ∧ s.alarm b then setBit (s.num PD.LEVEL_ALARMS) b false else s.num PD.LEVEL_ALARMS := by
  unfold State.clearTick
  split
  · exact State.num_setNum
  · rfl

theorem State.clearTick_mode (q : Nat) : (s.clearTick b q).mode = s.mode := by unfold State.clearTick; split <;> rfl

theorem State.num_clearTick_F (q : Nat) : (s.clearTick b q).num PD.LEVEL_F = s.num PD.LEVEL_F := by
  unfold State.clearTick
  split
  · exact State.num_setNum_ne (by decide)
  · rfl
end

section
variable {s : State} {b need : Nat} {cond : Bool} (w : s.dictOk = true)
include w

theorem alarm_set (held : need ≤ s.ticksWith b cond) : (s.alarmTick b need cond).num PD.LEVEL_ALARMS = orBit (s.num PD.LEVEL_ALARMS) b := by
  rw [State.alarmTick_sets held, State.num_setAlarm_alarms ((s.run_countTick b _ 0).dict w), State.num_countTick]

omit w in
theorem alarm_not_set (short : s.ticksWith b cond < need) :
    (s.alarmTick b need cond).num PD.LEVEL_ALARMS = (if 10 ≤ s.ticksWithout b ∧ b ≠ alLeak ∧ b ≠ alTjTrip ∧ s.alarm b = true
      then setBit (s.num PD.LEVEL_ALARMS) b false else s.num PD.LEVEL_ALARMS)
    ∧ (s.alarmTick b need cond).mode = s.mode ∧ (s.alarmTick b need cond).num PD.LEVEL_F = s.num PD.LEVEL_F := by
  rw [State.alarmTick_clears short]
  refine ⟨?_, State.clearTick_mode _, (State.num_clearTick_F _).trans (State.num_countTick ..)⟩
  rw [State.num_clearTick_alarms, State.num_countTick, State.alarm_countTick]

theorem alarm_newly_set (held : need ≤ s.ticksWith b cond) (off : s.alarm b = false) :
    (b = alLeak ∨ b = alTjTrip → (s.alarmTick b need cond).num PD.LEVEL_F = 0
      ∧ (s.mode ≠ .off → s.mode ≠ .reset → s.mode ≠ .frozen → (s.alarmTick b need cond).mode = .fault))
    ∧ (b ≠ alLeak → b ≠ alTjTrip → (s.alarmTick b need cond).num PD.LEVEL_F = s.num PD.LEVEL_F ∧ (s.alarmTick b need cond).mode = s.mode
      ∧ (s.alarmTick b need cond).meas.throttleOutN = false) := by
  have w' := (s.run_countTick b (s.ticksWith b cond) 0).dict w
  have off' := (s.alarm_countTick b (s.ticksWith b cond) 0).trans off
  rw [State.alarmTick_sets held]
  refine ⟨fun stop => State.setAlarm_stops w' off' ((alarmStops_iff b).2 stop), fun leak trip => ?_⟩
  obtain ⟨f, mode, out⟩ := State.setAlarm_signals w' off' (by rw [Bool.eq_false_iff, Ne, alarmStops_iff]; exact not_or.2 ⟨leak, trip⟩)
  exact ⟨f.trans (State.num_countTick ..), mode, out⟩
end

/-! ## The valve (R442) -/

section
variable (s : State)

/-- The largest die temperature as FP32. -/
def State.tmax : FV := ((FV.ofInt s.maxT16).scale (-4)).r32

/-- The valve loop's integral term after a tick. -/
def State.valveInteg : FV :=
  .min .one (.max .zero (add32 (f32 s.meas.integ) (mul32 (mul32 (s.fv PD.VALVE_KI) (sub32 s.tmax (s.fv PD.VALVE_TARGET))) (FV.ratio 1 1000).r32)))

/-- The valve's duty. -/
def State.valveDuty : FV :=
  .min .one (.max (s.fv PD.VALVE_MIN_DUTY) (add32 (mul32 (s.fv PD.VALVE_KP) (sub32 s.tmax (s.fv PD.VALVE_TARGET))) s.valveInteg))

/-- Its count. -/
def State.valveCount : Nat := (mul32 (.ofNat 4000) s.valveDuty).toInt.toNat

theorem State.run_valve : Run 1099511627776 [] s s.valve := valve_run rfl nofun (Run.refl _ _ s)

theorem State.valve_off (h : s.flag PD.VALVE_EN = false) : s.valve = s := if_pos (by rw [h]; rfl)

theorem State.valve_on (h : s.flag PD.VALVE_EN = true) : s.valve
    = ({ s with meas := { s.meas with integ := toF32 s.valveInteg } } : State).setDuty (s.num PD.VALVE_PWM) s.valveCount := if_neg (by rw [h]; decide)
end

/-- What the valve acts on is the same: the temperatures, its integral term and its entries. -/
structure SameValve (s t : State) : Prop where
  results : t.meas.results = s.meas.results
  integ : t.meas.integ = s.meas.integ
  num : ∀ k, k ∈ [PD.VALVE_EN, PD.VALVE_KI, PD.VALVE_KP, PD.VALVE_TARGET, PD.VALVE_MIN_DUTY, PD.VALVE_PWM] → t.num k = s.num k

section
variable {s t : State} (h : SameValve s t)
include h

theorem SameValve.chanT16 (c : Nat) : t.chanT16 c = s.chanT16 c := by unfold State.chanT16; rw [h.results]
theorem SameValve.maxT16 : t.maxT16 = s.maxT16 := by unfold State.maxT16 State.dieT16; simp only [h.chanT16]
theorem SameValve.tmax : t.tmax = s.tmax := by unfold State.tmax; rw [h.maxT16]
theorem SameValve.fv {k : Nat} (m : k ∈ [PD.VALVE_EN, PD.VALVE_KI, PD.VALVE_KP, PD.VALVE_TARGET, PD.VALVE_MIN_DUTY, PD.VALVE_PWM]) : t.fv k = s.fv k := by
  unfold State.fv; rw [h.num k m]
theorem SameValve.valveInteg : t.valveInteg = s.valveInteg := by
  unfold State.valveInteg
  rw [h.integ, h.tmax, h.fv (k := PD.VALVE_KI) (by decide), h.fv (k := PD.VALVE_TARGET) (by decide)]
theorem SameValve.valveCount : t.valveCount = s.valveCount := by
  unfold State.valveCount State.valveDuty
  rw [h.valveInteg, h.tmax, h.fv (k := PD.VALVE_KP) (by decide), h.fv (k := PD.VALVE_TARGET) (by decide), h.fv (k := PD.VALVE_MIN_DUTY) (by decide)]
theorem SameValve.flag : t.flag PD.VALVE_EN = s.flag PD.VALVE_EN := by unfold State.flag; rw [h.num PD.VALVE_EN (by decide)]
end

/-! ## The end of a tick (R439, R441) -/

section
variable (s : State)

/-- A tick that ends with F below 64 counts. -/
def State.tickEnd : State := if s.num PD.LEVEL_F < 64 then s.bump PD.LEVEL_THROTTLE_TICKS else s

theorem State.tickEnd_meas : s.tickEnd.meas = s.meas := by unfold State.tickEnd; split <;> rfl

theorem State.num_tickEnd_ne {k : Nat} (ne : k ≠ PD.LEVEL_THROTTLE_TICKS) : s.tickEnd.num k = s.num k := by
  unfold State.tickEnd
  split
  · exact State.num_bump_ne ne
  · rfl

theorem State.num_tickEnd : s.tickEnd.num PD.LEVEL_THROTTLE_TICKS
    = if s.num PD.LEVEL_F < 64 then (s.num PD.LEVEL_THROTTLE_TICKS + 1) % 2 ^ 64 else s.num PD.LEVEL_THROTTLE_TICKS := by
  unfold State.tickEnd
  split
  · exact State.num_bump
  · rfl

theorem State.dictOk_tickEnd (w : s.dictOk = true) : s.tickEnd.dictOk = true := by
  unfold State.tickEnd
  split
  · exact State.dictOk_bump w
  · exact w

/-- The next F by R439's cases: a stop, above 97 % of the cap, too warm, room for one more, as before. -/
def nextIssue (F : Nat) (p1 cap tmax throttle : FV) (stop : Prop) [Decidable stop] : Nat :=
  if stop then 0
  else if FV.one.lt (div32 p1 cap) then max 1 (div32 (.ofNat F) (div32 p1 cap)).floorNat
  else if throttle.le tmax then max 1 (F - 4)
  else if (div32 (mul32 p1 (.ofNat (F + 1))) (.ofNat F)).le cap = true ∧ tmax.lt (sub32 throttle (.ofNat 2)) = true then min 64 (F + 1)
  else F

theorem nextF_eq (f : Nat) (p1 cap tmax throttle : FV) (leak trip : Bool) : nextF f p1 cap tmax throttle (leak || trip)
    = nextIssue f p1 (mul32 (FV.ratio 97 100).r32 cap) tmax throttle (leak = true ∨ trip = true) := by
  simp only [nextF, nextIssue, Bool.or_eq_true, Bool.and_eq_true]

/-- F's next value at the end of a tick. -/
def State.tickF : Nat :=
  nextIssue (s.num PD.LEVEL_F) s.railPower (mul32 (FV.ratio 97 100).r32 s.powerCap) s.tmax (s.fv PD.TJ_THROTTLE) (s.alarm alLeak = true ∨ s.alarm alTjTrip = true)
end

/-! ## An evaluation -/

section
variable (s : State)

/-- P1 of a tick. -/
def State.powered : State := s.setNum PD.LEVEL_P1 (fp32.encode s.railPower)

theorem State.num_powered_ne {k : Nat} (ne : k ≠ PD.LEVEL_P1) : s.powered.num k = s.num k := State.num_setNum_ne ne
theorem State.fv_powered {k : Nat} (ne : k ≠ PD.LEVEL_P1) : s.powered.fv k = s.fv k := by unfold State.fv; rw [s.num_powered_ne ne]
theorem State.alarm_powered (b : Nat) : s.powered.alarm b = s.alarm b := by unfold State.alarm; rw [s.num_powered_ne (by decide)]
theorem State.meas_powered : s.powered.meas = s.meas := rfl

theorem State.powerCap_powered : s.powered.powerCap = s.powerCap := by
  unfold State.powerCap
  simp only [State.alarm_powered, State.meas_powered, s.fv_powered (k := PD.LEVEL_CAP_W) (by decide), s.fv_powered (k := PD.THROTTLE_IN_W) (by decide),
    s.fv_powered (k := PD.COOL_ALARM_CAP_W) (by decide)]

/-- F of a tick is R439's case over what its P1 leaves. -/
theorem State.tickF_powered : s.tickF = nextF (s.powered.num PD.LEVEL_F) s.railPower s.powered.powerCap s.powered.tmax (s.powered.fv PD.TJ_THROTTLE)
    (s.powered.alarm alLeak || s.powered.alarm alTjTrip) := by
  rw [nextF_eq, s.num_powered_ne (by decide), s.powerCap_powered, s.fv_powered (by decide), s.alarm_powered, s.alarm_powered]
  rfl

/-- A tick's evaluation once its alarms are checked. -/
def State.evaluated : State := (s.powered.setF s.tickF).tickEnd.valve.throttleOut

theorem State.evaluated_eq : s.evaluated = ((s.powered.setF (nextF (s.powered.num PD.LEVEL_F) s.railPower s.powered.powerCap s.powered.tmax
    (s.powered.fv PD.TJ_THROTTLE) (s.powered.alarm alLeak || s.powered.alarm alTjTrip))).tickEnd).valve.throttleOut := by
  rw [← s.tickF_powered]; rfl
end

theorem exec_levelEvaluation {s : State} (runs : s.mode.hubRuns = true) (open_ : s.meas.tickOpen = true) (done : s.meas.tickDone = true) :
    exec .levelEvaluation s = .next ({ s with meas := { s.meas with tickOpen := false } } : State).checkAlarms.evaluated :=
  (if_neg (by rw [runs, open_, done]; decide)).trans (congrArg Host.Outcome.next (State.evaluated_eq _).symm)

section
variable (A : State)

/-- The state in which a tick's evaluation moves the valve. -/
def State.beforeValve : State := (A.powered.setF A.tickF).tickEnd

theorem State.evaluated_valve : A.evaluated = A.beforeValve.valve.throttleOut := rfl

variable {A} (w : A.dictOk = true)
include w

theorem State.dictOk_powered : A.powered.dictOk = true := State.dictOk_setNum w
theorem State.dictOk_beforeValve : A.beforeValve.dictOk = true := State.dictOk_tickEnd _ (State.dictOk_setF (State.dictOk_powered w) _)

theorem State.num_beforeValve_F : A.beforeValve.num PD.LEVEL_F = A.tickF :=
  (State.num_tickEnd_ne _ (by decide)).trans (State.num_setF_F (State.dictOk_powered w) _)

theorem State.num_beforeValve_P1 : A.beforeValve.num PD.LEVEL_P1 = fp32.encode A.railPower :=
  (State.num_tickEnd_ne _ (by decide)).trans ((State.num_setF_ne (State.dictOk_powered w) _ (by decide)).trans State.num_setNum)

/-- An entry that neither a tick's F nor its P1 nor its counts name is as before. -/
theorem State.num_beforeValve {k : Nat} (h : k ∉ [0x900202, 0x900203, PD.LEVEL_F, PD.LEVEL_P1, PD.LEVEL_THROTTLE_TICKS]) : A.beforeValve.num k = A.num k := by
  simp only [List.mem_cons, not_or] at h
  obtain ⟨merged, dropped, f, p1, ticks, _⟩ := h
  refine (State.num_tickEnd_ne _ ticks).trans ((State.num_setF_ne (State.dictOk_powered w) _ ?_).trans (A.num_powered_ne p1))
  simp only [List.mem_cons, not_or]
  exact ⟨merged, dropped, f, List.not_mem_nil⟩

theorem State.num_beforeValve_ticks : A.beforeValve.num PD.LEVEL_THROTTLE_TICKS
    = if A.tickF < 64 then (A.num PD.LEVEL_THROTTLE_TICKS + 1) % 2 ^ 64 else A.num PD.LEVEL_THROTTLE_TICKS := by
  refine (State.num_tickEnd _).trans ?_
  rw [State.num_setF_F (State.dictOk_powered w), State.num_setF_ne (State.dictOk_powered w) _ (by decide), A.num_powered_ne (by decide)]

omit w in
theorem State.beforeValve_meas : ∃ r v o q, A.beforeValve.meas = { A.meas with running := r, waiting := v, throttleOutN := o, quietTicks := q } := by
  obtain ⟨r, v, o, q, set⟩ := A.powered.setF_meas A.tickF
  exact ⟨r, v, o, q, (State.tickEnd_meas _).trans set⟩

theorem State.sameValve_beforeValve : SameValve A A.beforeValve := by
  obtain ⟨r, v, o, q, meas⟩ := A.beforeValve_meas
  refine ⟨by rw [meas], by rw [meas], fun k m => State.num_beforeValve w fun n => ?_⟩
  have apart : ∀ k, k ∈ [PD.VALVE_EN, PD.VALVE_KI, PD.VALVE_KP, PD.VALVE_TARGET, PD.VALVE_MIN_DUTY, PD.VALVE_PWM] →
      k ∉ [0x900202, 0x900203, PD.LEVEL_F, PD.LEVEL_P1, PD.LEVEL_THROTTLE_TICKS] := by decide
  exact apart k m n

/-- The valve and THROTTLE_OUT_N change no entry. -/
theorem State.num_evaluated (k : Nat) : A.evaluated.num k = A.beforeValve.num k := by
  have moved := A.beforeValve.run_valve
  exact ((State.run_throttleOut _).num_eq (moved.dict (State.dictOk_beforeValve w)) rfl List.not_mem_nil).trans
    (moved.num_eq (State.dictOk_beforeValve w) rfl List.not_mem_nil)

theorem State.evaluated_valve_on (on : A.flag PD.VALVE_EN = true) : A.evaluated.meas.integ = toF32 A.valveInteg
    ∧ kvGet dutyDefault A.evaluated.meas.dutyNext (A.num PD.VALVE_PWM) = A.valveCount := by
  have same := State.sameValve_beforeValve w
  have moved := A.beforeValve.valve_on (same.flag.trans on)
  obtain ⟨o, q, out⟩ := A.beforeValve.valve.throttleOut_meas
  rw [A.evaluated_valve, out, moved, same.valveInteg, same.valveCount, same.num PD.VALVE_PWM (by decide)]
  exact ⟨rfl, kvGet_set_same ..⟩

theorem State.evaluated_valve_off (off : A.flag PD.VALVE_EN = false) : A.evaluated.meas.integ = A.meas.integ
    ∧ A.evaluated.meas.dutyNext = A.meas.dutyNext := by
  obtain ⟨_, _, _, _, before⟩ := A.beforeValve_meas
  obtain ⟨o, q, out⟩ := A.beforeValve.valve.throttleOut_meas
  rw [A.evaluated_valve, out, A.beforeValve.valve_off ((State.sameValve_beforeValve w).flag.trans off), before]
  exact ⟨rfl, rfl⟩

theorem State.evaluated_throttles (h : A.tickF < 64 ∨ A.num PD.LEVEL_ALARMS ≠ 0) : A.evaluated.meas.throttleOutN = false := by
  have moved := A.beforeValve.run_valve
  have w' := State.dictOk_beforeValve w
  refine congrArg (fun u : State => u.meas.throttleOutN) (State.throttleOut_asserted A.beforeValve.valve ?_)
  rwa [moved.num_eq w' rfl List.not_mem_nil, moved.num_eq w' rfl List.not_mem_nil, State.num_beforeValve_F w, State.num_beforeValve w (by decide)]
end

theorem State.dictOk_checkAlarms {s : State} (w : s.dictOk = true) : s.checkAlarms.dictOk = true :=
  (checkAlarms_run rfl (fun _ => id) (Run.refl 49962803840705
    [0x600002, 0x600003, 0x600004, 0x600007, 0x600203, 0x900202, 0x900203, 0x903101, 0x903103, 0xA10001, 0xA10006] s)).dict w

/-! ## A late tick (R441) -/

section
variable (s : State)

/-- The tick counts as late. -/
def State.tickLate : State := ({ s with meas := { s.meas with tickOpen := false } } : State).bump PD.LEVEL_TICKS_LATE

theorem State.num_tickLate : s.tickLate.num PD.LEVEL_TICKS_LATE = (s.num PD.LEVEL_TICKS_LATE + 1) % 2 ^ 64 := State.num_bump
theorem State.num_tickLate_ne {k : Nat} (ne : k ≠ PD.LEVEL_TICKS_LATE) : s.tickLate.num k = s.num k := State.num_bump_ne ne

variable {s}

theorem exec_levelTickLate (runs : s.mode.hubRuns = true) (open_ : s.meas.tickOpen = true) (late : s.meas.tickDone = false) :
    exec .levelTickLate s = .next (s.tickLate.alarmTick alSensor 1 true).tickEnd.throttleOut := if_neg (by rw [runs, open_, late]; decide)

/-- An alarm that does not stop the module changes neither F nor the tick. -/
theorem State.run_setAlarm {b : Nat} (go : alarmStops b = false) :
    Run 41094247088128 [PD.LEVEL_ALARMS, 0xA10001, 0xA10006] s (s.setAlarm b) := by
  rw [s.setAlarm_eq b, go]
  exact ite_run (Run.refl _ _ s) (run_upd_meas rfl (spall_run rfl (fun _ => subk_mem rfl) (setNum_run (fun _ => subk_mem rfl) (Run.refl _ _ s))))

theorem State.setAlarm_tickOpen {b : Nat} (go : alarmStops b = false) : (s.setAlarm b).meas.tickOpen = s.meas.tickOpen := by
  rw [s.setAlarm_eq b, go]
  split
  · rfl
  · have kept : (s.alarmed b).meas = s.meas := (s.run_alarmed b).part .meas rfl
    rw [if_neg Bool.false_ne_true, ← kept]
    rfl

variable (s)

/-- A tick that finds the sensors failing. -/
theorem State.sensorTick : s.alarmTick alSensor 1 true = (s.countTick alSensor (s.ticksWith alSensor true) 0).setAlarm alSensor :=
  State.alarmTick_sets (Nat.le_add_left 1 _)

theorem State.run_sensorTick : Run 41094247088128 [PD.LEVEL_ALARMS, 0xA10001, 0xA10006] s (s.alarmTick alSensor 1 true) := by
  rw [s.sensorTick]
  exact (run_upd_meas rfl (Run.refl _ _ s)).trans (State.run_setAlarm rfl)

theorem State.sensorTick_tickOpen : (s.alarmTick alSensor 1 true).meas.tickOpen = s.meas.tickOpen := by
  rw [s.sensorTick]
  exact State.setAlarm_tickOpen rfl

variable {s} (w : s.dictOk = true)
include w

theorem State.dictOk_tickLate : s.tickLate.dictOk = true := State.dictOk_bump w

theorem State.num_sensorTick {k : Nat} (h : k ∉ [PD.LEVEL_ALARMS, 0xA10001, 0xA10006]) : (s.alarmTick alSensor 1 true).num k = s.num k :=
  s.run_sensorTick.num_eq w rfl h

/-- The state after a late tick. -/
def State.afterLate (s : State) : State := (s.tickLate.alarmTick alSensor 1 true).tickEnd.throttleOut

theorem State.num_afterLate {k : Nat} (ne : k ≠ PD.LEVEL_THROTTLE_TICKS) : s.afterLate.num k = (s.tickLate.alarmTick alSensor 1 true).num k :=
  ((State.run_throttleOut _).num_eq (State.dictOk_tickEnd _ (s.tickLate.run_sensorTick.dict (State.dictOk_tickLate w))) rfl List.not_mem_nil).trans
    (State.num_tickEnd_ne _ ne)

omit w in
theorem State.afterLate_tickOpen : s.afterLate.meas.tickOpen = false := by
  obtain ⟨o, q, out⟩ := (s.tickLate.alarmTick alSensor 1 true).tickEnd.throttleOut_meas
  refine (congrArg Measure.tickOpen out).trans ((congrArg Measure.tickOpen (State.tickEnd_meas _)).trans ?_)
  exact s.tickLate.sensorTick_tickOpen

theorem late_tick_counts : s.afterLate.num PD.LEVEL_TICKS_LATE = (s.num PD.LEVEL_TICKS_LATE + 1) % 2 ^ 64
    ∧ s.afterLate.num PD.LEVEL_F = s.num PD.LEVEL_F ∧ s.afterLate.num PD.LEVEL_ALARMS = orBit (s.num PD.LEVEL_ALARMS) alSensor
    ∧ s.afterLate.meas.tickOpen = false := by
  have w' := State.dictOk_tickLate w
  refine ⟨?_, ?_, ?_, State.afterLate_tickOpen⟩
  · exact (State.num_afterLate w (by decide)).trans ((State.num_sensorTick w' (by decide)).trans s.num_tickLate)
  · exact (State.num_afterLate w (by decide)).trans ((State.num_sensorTick w' (by decide)).trans (s.num_tickLate_ne (by decide)))
  · rw [State.num_afterLate w (by decide), alarm_set w' (Nat.le_add_left 1 _), s.num_tickLate_ne (by decide)]
end

/-! ## The fast clamp (R440) -/

section
variable (s : State)

theorem exec_fastClamp (hub : Fin 2) {i limit : Nat} (runs : s.mode.hubRuns = true) (above : limit < i) :
    exec (.fastClamp hub i limit) s = .next ((s.halfF.2.bump PD.LEVEL_FAST_CLAMPS).setF s.halfF.1) := by
  refine if_neg ?_
  rintro (stopped | below)
  · rw [runs] at stopped; cases stopped
  · exact absurd above (Nat.not_lt.2 below)

/-- Half of an odd F is one of the two integers beside it. -/
theorem State.halfF_between : s.num PD.LEVEL_F / 2 ≤ s.halfF.1 ∧ s.halfF.1 ≤ (s.num PD.LEVEL_F + 1) / 2 := by
  have half : s.halfF.1 = s.num PD.LEVEL_F / 2 + (if s.num PD.LEVEL_F % 2 = 1 then Config.fnNat 11 [s.num PD.LEVEL_F] s.free % 2 else 0) := rfl
  rw [half]
  split <;> omega

theorem State.num_clamped {s : State} (w : s.dictOk = true) (f : Nat) :
    ((s.bump PD.LEVEL_FAST_CLAMPS).setF f).num PD.LEVEL_FAST_CLAMPS = (s.num PD.LEVEL_FAST_CLAMPS + 1) % 2 ^ 64
    ∧ ((s.bump PD.LEVEL_FAST_CLAMPS).setF f).num PD.LEVEL_F = f :=
  ⟨(State.num_setF_ne (State.dictOk_bump w) f (by decide)).trans State.num_bump, State.num_setF_F (State.dictOk_bump w) f⟩

theorem State.num_halfF (k : Nat) : s.halfF.2.num k = s.num k := State.num_of_pd rfl k
end

theorem exec_throttleIn {s : State} {low : Bool} (runs : s.mode.hubRuns = true) (moves : s.meas.throttleIn ≠ low) :
    exec (.throttleIn low) s = .next (if low then (({ s with meas := { s.meas with throttleIn := low } } : State).cause irqPower).triggerKind 5
      else { s with meas := { s.meas with throttleIn := low } }) := by
  refine if_neg ?_
  rintro (same | stopped)
  · exact moves same
  · rw [runs] at stopped; cases stopped

end Sys2Proof.Machine

open Sys2Proof Sys2Proof.Machine

/-- Settles O50: an evaluation's entries by what its F, its P1, the valve and THROTTLE_OUT_N each leave; an alarm's tick by its counts; a late tick by
the alarm SENSOR that it sets. -/
theorem theLevelLoopSetsFAlarmsAndTheValve : Obligations.TheLevelLoopSetsFAlarmsAndTheValve := by
  unfold Obligations.TheLevelLoopSetsFAlarmsAndTheValve
  refine ⟨fun s w runs open_ => ⟨fun done => ?_, fun late => ?_⟩, fun s b need cond w => ?_, fun s f w => ?_, fun s hub i limit w runs => ?_,
    fun s low runs moves => exec_throttleIn runs moves⟩
  · have w' : ({ s with meas := { s.meas with tickOpen := false } } : State).checkAlarms.dictOk = true := State.dictOk_checkAlarms w
    have evaluates := exec_levelEvaluation runs open_ done
    refine ⟨_, rfl, ?_⟩
    generalize ({ s with meas := { s.meas with tickOpen := false } } : State).checkAlarms = A at w' evaluates ⊢
    refine ⟨A.evaluated, evaluates, ?_, ?_, ?_, ?_, State.evaluated_valve_on w', State.evaluated_valve_off w', State.evaluated_throttles w'⟩
    · exact (State.num_evaluated w' _).trans (State.num_beforeValve_P1 w')
    · exact (State.num_evaluated w' _).trans (State.num_beforeValve_F w')
    · exact (State.num_evaluated w' _).trans (State.num_beforeValve w' (by decide))
    · exact (State.num_evaluated w' _).trans (State.num_beforeValve_ticks w')
  · exact ⟨s.afterLate, exec_levelTickLate runs open_ late, late_tick_counts w⟩
  · exact ⟨alarm_set w, alarm_not_set, alarm_newly_set w⟩
  · exact ⟨State.num_setF_F w f, State.setF_throttles s⟩
  · refine ⟨fun above => ⟨_, exec_fastClamp s hub runs above, ?_⟩, fun below => if_pos (.inr below)⟩
    have w' : s.halfF.2.dictOk = true := w
    obtain ⟨counts, set⟩ := State.num_clamped w' s.halfF.1
    rw [counts, set, s.num_halfF]
    exact ⟨rfl, s.halfF_between⟩
end

section
/-! Proofs of configurations and module states (R375, R402, R406-R410, R418, R455): the commands of CFG_COMMIT, what a commit takes and what follows it,
requests of a state, ARP, and the statement ConfigurationsCommitWholeAndModuleStatesAreRequested. -/
namespace Sys2Proof.Machine

/-! ## Entries and their metadata (R399) -/

theorem metas_ascend : (metas.map (·.key)).Pairwise (· < ·) := by decide +kernel

/-- Where keys ascend, no later row has the first one's key. -/
theorem find?_key_none {m : Meta} {l : List Meta} (h : ((m :: l).map (·.key)).Pairwise (· < ·)) : (l.find? fun n => n.key = m.key) = none := by
  refine List.find?_eq_none.2 fun n hn same => ?_
  have lt : m.key < n.key := (List.pairwise_cons.1 h).1 _ (List.mem_map_of_mem hn)
  exact absurd (of_decide_eq_true same) (Nat.ne_of_gt lt)

/-! ## Staging of defaults (R375, R409) -/

/-- What CFG_STAGE_DEFAULTS stages of an entry. -/
def State.stagedDefault (s : State) (m : Meta) : PdVal := if m.key = PD.WIRING_PLAN then .table (torusPlan s.self) else m.dflt

theorem State.stagedDefault_stage (s : State) (k : Nat) (v : PdVal) (m : Meta) : (s.stage k v).stagedDefault m = s.stagedDefault m := rfl

theorem State.stagedGet_stage (s : State) (k j : Nat) (v : PdVal) :
    stagedGet (s.stage k v).dict.staged j = if k = j then some v else stagedGet s.dict.staged j := stagedGet_stagedSet k j v _

/-- Of rows with ascending keys, the chosen ones stage their defaults and no other entry's staged value changes. -/
theorem State.stagedGet_stageAll (q : Meta → Bool) (k : Nat) : ∀ (l : List Meta) (s : State), (l.map (·.key)).Pairwise (· < ·) →
    stagedGet (s.each (l.filter q) fun s m => s.stage m.key (s.stagedDefault m)).dict.staged k
      = match l.find? fun m => m.key = k with
        | some m => if q m then some (s.stagedDefault m) else stagedGet s.dict.staged k
        | none => stagedGet s.dict.staged k
  | [], _, _ => rfl
  | m :: l, s, h => by
    have tail := State.stagedGet_stageAll q k l
    have ascend : (l.map (·.key)).Pairwise (· < ·) := (List.pairwise_cons.1 h).2
    by_cases same : m.key = k
    · have none_ : (l.find? fun n => n.key = k) = none := same ▸ find?_key_none h
      rw [List.find?_cons_of_pos (p := fun m : Meta => decide (m.key = k)) (decide_eq_true same)]
      by_cases chosen : q m = true
      · rw [List.filter_cons_of_pos chosen]
        refine (tail (s.stage m.key (s.stagedDefault m)) ascend).trans ?_
        simp only [none_, chosen, if_true, State.stagedGet_stage, same]
      · rw [List.filter_cons_of_neg chosen, tail s ascend]
        simp only [none_, if_neg chosen]
    · rw [List.find?_cons_of_neg (p := fun m : Meta => decide (m.key = k)) (by simpa using same)]
      by_cases chosen : q m = true
      · rw [List.filter_cons_of_pos chosen]
        refine (tail (s.stage m.key (s.stagedDefault m)) ascend).trans ?_
        simp only [State.stagedGet_stage, if_neg same, State.stagedDefault_stage]
      · rw [List.filter_cons_of_neg chosen, tail s ascend]

theorem State.stagedGet_stageDefaults (s : State) (k : Nat) : stagedGet s.stageDefaults.dict.staged k = match metaOf k with
    | some m => if m.cls = 3 ∨ (m.cls = 2 ∧ s.mode = .held) then some (if k = PD.WIRING_PLAN then .table (torusPlan s.self) else m.dflt)
      else stagedGet s.dict.staged k
    | none => stagedGet s.dict.staged k := by
  refine (State.stagedGet_stageAll (fun m => m.cls = 3 || (m.cls = 2 && s.mode = .held)) k metas s metas_ascend).trans ?_
  unfold metaOf
  cases found : metas.find? fun m => m.key = k with
  | none => rfl
  | some m =>
    have key : m.key = k := of_decide_eq_true (List.find?_some (p := fun m : Meta => decide (m.key = k)) found)
    simp only [Bool.or_eq_true, Bool.and_eq_true, decide_eq_true_eq, State.stagedDefault, key]

theorem State.stageDefaults_pd (s : State) : s.stageDefaults.pd = s.pd :=
  State.each_keeps (f := fun s (m : Meta) => s.stage m.key (s.stagedDefault m)) (g := State.pd) (fun _ _ => rfl) _ s

/-! ## The commands of CFG_COMMIT (R402, R409) -/

section
variable {s : State}

theorem Mode.working_acts {m : Mode} (h : m.working = true) : ¬ (m = .boot ∨ m = .calibrate) := by revert h; cases m <;> decide

/-- The number that each command of CFG_COMMIT writes. -/
theorem cfg_commands (up : s.dictOpen = true) : exec .cfgCommit s = .next (s.cfgCommand 1) ∧ exec .cfgDiscard s = .next (s.cfgCommand 2)
    ∧ exec .cfgStageDefaults s = .next (s.cfgCommand 3) := ⟨if_pos up, if_pos up, if_pos up⟩

theorem State.cfgCommand_wrongState {v : Nat} (h : s.mode.working = false) (ok : ¬ (v = 0 ∨ 3 < v)) : s.cfgCommand v = s.setNum PD.CFG_CMD_RESULT 2 := by
  unfold State.cfgCommand
  dsimp only
  rw [if_neg ok, h]
  exact ite_self _

section
variable (h : s.mode.working = true)
include h

theorem State.cfgCommand_working {v : Nat} (ok : ¬ (v = 0 ∨ 3 < v)) : s.cfgCommand v
    = if s.num PD.CFG_STATUS = 1 ∨ (v = 1 ∧ s.num PD.CFG_STATUS = 4) then s.setNum PD.CFG_CMD_RESULT 3
      else if v = 1 then (s.setNum PD.CFG_CMD_RESULT 0).setNum PD.CFG_STATUS 1
      else if v = 2 then (s.setNum PD.CFG_CMD_RESULT 0).discardConfig else (s.setNum PD.CFG_CMD_RESULT 0).stageDefaults :=
  (if_neg (Mode.working_acts h)).trans ((if_neg ok).trans (if_neg (by rw [h]; decide)))

theorem State.cfgCommand_busy {v : Nat} (ok : ¬ (v = 0 ∨ 3 < v)) (busy : s.num PD.CFG_STATUS = 1 ∨ (v = 1 ∧ s.num PD.CFG_STATUS = 4)) :
    s.cfgCommand v = s.setNum PD.CFG_CMD_RESULT 3 := (State.cfgCommand_working h ok).trans (if_pos busy)

variable (free : s.num PD.CFG_STATUS ≠ 1)
include free

theorem State.cfgCommand_commit (pending : s.num PD.CFG_STATUS ≠ 4) : s.cfgCommand 1 = (s.setNum PD.CFG_CMD_RESULT 0).setNum PD.CFG_STATUS 1 :=
  (State.cfgCommand_working h (by decide)).trans (if_neg (by rintro (a | ⟨-, a⟩); exacts [free a, pending a]))

theorem State.cfgCommand_discard : s.cfgCommand 2 = (s.setNum PD.CFG_CMD_RESULT 0).discardConfig :=
  (State.cfgCommand_working h (by decide)).trans (if_neg (by rintro (a | ⟨a, -⟩); exacts [free a, absurd a (by decide)]))

theorem State.cfgCommand_defaults : s.cfgCommand 3 = (s.setNum PD.CFG_CMD_RESULT 0).stageDefaults :=
  (State.cfgCommand_working h (by decide)).trans (if_neg (by rintro (a | ⟨a, -⟩); exacts [free a, absurd a (by decide)]))
end
end

section
variable (s : State)

theorem State.discardConfig_dict : s.discardConfig.dict = { s.dict with staged := [], pieces := [], waiting := none } := by
  unfold State.discardConfig
  dsimp only
  split
  · exact State.cause_dict _ _
  · rfl

theorem State.num_discardConfig_status : s.discardConfig.num PD.CFG_STATUS = if s.num PD.CFG_STATUS = 4 then 2 else s.num PD.CFG_STATUS := by
  unfold State.discardConfig
  by_cases pending : s.num PD.CFG_STATUS = 4
  · exact (congrArg (fun t : State => t.num PD.CFG_STATUS) (if_pos pending)).trans ((State.num_result ..).trans (if_pos pending).symm)
  · exact (congrArg (fun t : State => t.num PD.CFG_STATUS) (if_neg pending)).trans (if_neg pending).symm

theorem State.pdGet_result_ne {k j : Nat} (v : Nat) (ne : j ≠ k) : (s.result k v).pdGet j = s.pdGet j :=
  (State.pdGet_cause ..).trans (State.pdGet_pdSet_ne ne)

theorem State.pdGet_discardConfig {k : Nat} (ne : k ≠ PD.CFG_STATUS) : s.discardConfig.pdGet k = s.pdGet k := by
  unfold State.discardConfig
  dsimp only
  split
  · exact State.pdGet_result_ne _ _ ne
  · rfl
end

/-! ## Requests of a state (R402, R410, R455) -/

section
variable {s : State}

theorem state_requests (up : s.dictOpen = true) : exec .stateReqArm s = .next (s.stateReq 1) ∧ exec .stateReqHold s = .next (s.stateReq 2) :=
  ⟨if_pos up, if_pos up⟩

theorem State.stateReq_wrongState {v : Nat} (h : s.mode.working = false) (ok : ¬ (v ≠ 1 ∧ v ≠ 2)) : s.stateReq v = s.setNum PD.STATE_REQ_RESULT 2 := by
  unfold State.stateReq
  rw [if_neg ok, h]
  exact ite_self _

section
variable (h : s.mode.working = true)
include h

theorem State.stateReq_working {v : Nat} (ok : ¬ (v ≠ 1 ∧ v ≠ 2)) : s.stateReq v
    = if v = 2 then s.drainOrHold.setNum PD.STATE_REQ_RESULT 0 else if s.mode ≠ .held then s.setNum PD.STATE_REQ_RESULT 2
      else if s.armable then s.arm.setNum PD.STATE_REQ_RESULT 0 else s.setNum PD.STATE_REQ_RESULT 3 :=
  (if_neg (Mode.working_acts h)).trans ((if_neg ok).trans (if_neg (by rw [h]; decide)))

theorem State.stateReq_hold : s.stateReq 2 = s.drainOrHold.setNum PD.STATE_REQ_RESULT 0 := (State.stateReq_working h (by decide)).trans (if_pos rfl)

theorem State.stateReq_arm_elsewhere (other : s.mode ≠ .held) : s.stateReq 1 = s.setNum PD.STATE_REQ_RESULT 2 :=
  (State.stateReq_working h (by decide)).trans ((if_neg (by decide)).trans (if_pos other))
end

section
variable (held : s.mode = .held)
include held

theorem State.stateReq_arm : s.stateReq 1 = if s.armable then s.arm.setNum PD.STATE_REQ_RESULT 0 else s.setNum PD.STATE_REQ_RESULT 3 :=
  (State.stateReq_working (by rw [held]; rfl) (by decide)).trans ((if_neg (by decide)).trans (if_neg (not_not.2 held)))

theorem State.stateReq_armed (ready : s.armable = true) : s.stateReq 1 = s.arm.setNum PD.STATE_REQ_RESULT 0 :=
  (State.stateReq_arm held).trans (if_pos ready)

theorem State.stateReq_notReady (ready : s.armable = false) : s.stateReq 1 = s.setNum PD.STATE_REQ_RESULT 3 :=
  (State.stateReq_arm held).trans (if_neg (by rw [ready]; decide))
end
end

section
variable (s : State)

/-- Step numbers as an ARM request sets them. -/
def State.numbered : State := (s.setNum PD.STEP_NUMBER (s.num PD.STEP_FIRST)).setNum PD.STEP_ATTEMPT 0

/-- The state that an ARM request enters ARMED from. -/
def State.firstStep : State := { s with step := { s.step with firstAfterArm := true } }

theorem State.arm_mode : s.arm.mode = .armed := State.enter_mode _ _

theorem State.num_arm (k : Nat) : s.arm.num k = s.numbered.num k := (State.num_enter ..).trans (State.num_of_pd rfl k)

theorem State.num_arm_number : s.arm.num PD.STEP_NUMBER = s.num PD.STEP_FIRST :=
  (s.num_arm _).trans ((State.num_setNum_ne (by decide)).trans State.num_setNum)

theorem State.num_arm_attempt : s.arm.num PD.STEP_ATTEMPT = 0 := (s.num_arm _).trans State.num_setNum

theorem State.arm_step : s.arm.step = { s.step with firstAfterArm := true } :=
  (enter_run rfl (fun _ => id) (Run.refl 35596688949441 [] (s.numbered.firstStep.closeWindows fun w => w.level = 3))).part .step rfl

theorem State.drainOrHold_mode : s.drainOrHold.mode
    = if s.mode = .run ∧ s.step.opened = true then .drain else if s.mode = .run ∨ s.mode = .armed then .held else s.mode := by
  unfold State.drainOrHold
  split_ifs
  · exact State.enter_mode _ _
  · exact State.leaveFor_mode ..
  · rfl
end

/-! ## What a commit takes (R407) -/

section
variable (s : State)

/-- A value of a class. -/
def ofClass (n : Nat) (p : Nat × PdVal) : Bool := (metaOf p.1).any fun m => decide (m.cls = n)

theorem ofClass_iff {n : Nat} {p : Nat × PdVal} {m : Meta} (h : metaOf p.1 = some m) : ofClass n p = true ↔ m.cls = n := by
  unfold ofClass; rw [h]; exact decide_eq_true_iff

/-- RWS values wait for a later COMMIT. -/
def State.commitWaits : Bool :=
  !(s.dict.staged.filter (ofClass 3)).isEmpty && !((s.mode = .held || s.mode = .armed) && s.num PD.CFG_APPLY_STEP = 0)

theorem State.commitWaits_iff : s.commitWaits = true ↔ s.dict.staged.filter (ofClass 3) ≠ []
    ∧ ¬ ((s.mode = .held ∨ s.mode = .armed) ∧ s.num PD.CFG_APPLY_STEP = 0) := by
  simp only [State.commitWaits, Bool.and_eq_true, Bool.not_eq_true', Bool.and_eq_false_iff, Bool.or_eq_false_iff, decide_eq_false_iff_not,
    List.isEmpty_eq_false_iff, not_and_or, not_or]

/-- The values of a commit in force. -/
def State.valued : State :=
  if s.commitWaits then s.applyValues (s.dict.staged.filter (ofClass 2))
  else (s.applyValues (s.dict.staged.filter (ofClass 2))).applyValues (s.dict.staged.filter (ofClass 3))

/-- The staged set gone; RWS values wait where they must. -/
def State.unstaged (v : State) (waiting : Option (Nat × List (Nat × PdVal))) : State :=
  { v with dict := { v.dict with staged := [], pieces := [], ownerSig := v.flag PD.FW_OWNER_SIG_REQUIRED, waiting := waiting } }

/-- The set that waits after a commit. -/
def State.waitingSet : Option (Nat × List (Nat × PdVal)) :=
  if s.commitWaits then some (s.num PD.CFG_APPLY_STEP, s.dict.staged.filter (ofClass 3)) else s.valued.dict.waiting

/-- The report of a commit. -/
def State.committed (v : State) (status : Nat) : State :=
  ((v.setRows PD.CFG_FAULTS []).setNum PD.CFG_GENERATION ((v.num PD.CFG_GENERATION + 1) % 2 ^ 32)).result PD.CFG_STATUS status

theorem State.takeConfig_eq : s.takeConfig = (s.valued.unstaged s.waitingSet).committed (if s.commitWaits then 4 else 2) := by
  unfold State.takeConfig
  extract_lets -merge cls now later step waits s1 s2 flagged s3 s4
  have emptied : s3 = s.valued.unstaged s.waitingSet := rfl
  clear_value s3
  show s3.committed (if s.commitWaits then 4 else 2) = _
  rw [emptied]
end

/-! ## Values that a commit puts in force -/

section
variable {k : Nat}

theorem State.pdGet_applyValues_out : ∀ (vs : List (Nat × PdVal)) (s : State), (∀ p, p ∈ vs → p.1 ≠ k) → (s.applyValues vs).pdGet k = s.pdGet k
  | [], _, _ => rfl
  | p :: vs, _, h => (State.pdGet_applyValues_out vs _ fun q hq => h q (List.mem_cons_of_mem _ hq)).trans
      (State.pdGet_pdSet_ne (h p List.mem_cons_self).symm)

theorem State.pdGet_applyValues_in {p : Nat × PdVal} : ∀ (vs : List (Nat × PdVal)) (s : State), p ∈ vs → (∀ q, q ∈ vs → q.1 = p.1 → q = p) →
    (s.applyValues vs).pdGet p.1 = p.2
  | [], _, hp, _ => absurd hp List.not_mem_nil
  | v :: vs, s, hp, only => by
    by_cases later : p ∈ vs
    · exact State.pdGet_applyValues_in vs _ later fun q hq => only q (List.mem_cons_of_mem _ hq)
    · have first : p = v := (List.mem_cons.1 hp).resolve_right later
      refine (State.pdGet_applyValues_out vs _ fun q hq same => later (only q (List.mem_cons_of_mem _ hq) same ▸ hq)).trans ?_
      rw [first]
      exact State.pdGet_pdSet

theorem State.applyValues_dict (vs : List (Nat × PdVal)) (s : State) : (s.applyValues vs).dict = s.dict :=
  State.each_keeps (f := fun s (v : Nat × PdVal) => s.pdSet v.1 v.2) (g := State.dict) (fun _ _ => rfl) vs s
end

section
variable (s : State)

theorem State.valued_dict : s.valued.dict = s.dict := by
  unfold State.valued
  split
  · exact State.applyValues_dict _ s
  · exact (State.applyValues_dict _ _).trans (State.applyValues_dict _ s)

/-- An entry of neither class keeps its value. -/
theorem State.pdGet_valued_out {k : Nat} (h : ∀ p, p ∈ s.dict.staged → p.1 = k → ofClass 2 p = false ∧ ofClass 3 p = false) : s.valued.pdGet k = s.pdGet k := by
  have out (n : Nat) (hn : n = 2 ∨ n = 3) (t : State) : (t.applyValues (s.dict.staged.filter (ofClass n))).pdGet k = t.pdGet k := by
    refine State.pdGet_applyValues_out _ t fun p hp same => ?_
    obtain ⟨staged, cls⟩ := List.mem_filter.1 hp
    obtain ⟨two, three⟩ := h p staged same
    rcases hn with rfl | rfl
    · rw [two] at cls; cases cls
    · rw [three] at cls; cases cls
  unfold State.valued
  split
  · exact out 2 (.inl rfl) s
  · exact (out 3 (.inr rfl) _).trans (out 2 (.inl rfl) s)

section
variable {s} {p : Nat × PdVal} {m : Meta} (known : metaOf p.1 = some m) (staged : p ∈ s.dict.staged) (only : ∀ q, q ∈ s.dict.staged → q.1 = p.1 → q = p)
include known

/-- Values of a key are of its own class. -/
theorem ofClass_same {q : Nat × PdVal} {n : Nat} (same : q.1 = p.1) (other : m.cls ≠ n) : ofClass n q = false :=
  Bool.eq_false_iff.2 fun c => other ((ofClass_iff (same ▸ known)).1 c)

include staged only

/-- RWH values are in force at once. -/
theorem State.pdGet_valued_now (now : m.cls = 2) : s.valued.pdGet p.1 = p.2 := by
  have inForce : (s.applyValues (s.dict.staged.filter (ofClass 2))).pdGet p.1 = p.2 :=
    State.pdGet_applyValues_in _ s (List.mem_filter.2 ⟨staged, (ofClass_iff known).2 now⟩) fun q hq => only q (List.mem_filter.1 hq).1
  unfold State.valued
  split
  · exact inForce
  · refine (State.pdGet_applyValues_out _ _ fun q hq same => ?_).trans inForce
    exact absurd (List.mem_filter.1 hq).2 (Bool.eq_false_iff.1 (ofClass_same known same (by rw [now]; decide)))

/-- RWS values too where they need not wait. -/
theorem State.pdGet_valued_later (later : m.cls = 3) (go : s.commitWaits = false) : s.valued.pdGet p.1 = p.2 := by
  unfold State.valued
  rw [if_neg (by rw [go]; decide)]
  exact State.pdGet_applyValues_in _ _ (List.mem_filter.2 ⟨staged, (ofClass_iff known).2 later⟩) fun q hq => only q (List.mem_filter.1 hq).1

omit staged only in
/-- RWS values that wait are not in force. -/
theorem State.pdGet_valued_waits (later : m.cls = 3) (waits : s.commitWaits = true) : s.valued.pdGet p.1 = s.pdGet p.1 := by
  unfold State.valued
  rw [if_pos waits]
  refine State.pdGet_applyValues_out _ s fun q hq same => ?_
  exact absurd (List.mem_filter.1 hq).2 (Bool.eq_false_iff.1 (ofClass_same known same (by rw [later]; decide)))
end

/-! ## The report of a commit (R407) -/

section
variable (v : State) (status : Nat)

theorem State.num_committed_status : (v.committed status).num PD.CFG_STATUS = status := State.num_result ..
theorem State.rows_committed : (v.committed status).rows PD.CFG_FAULTS = [] :=
  (State.rows_result_ne _ _ _ (by decide)).trans ((State.rows_setNum_ne (by decide)).trans State.rows_setRows)
theorem State.num_committed_generation : (v.committed status).num PD.CFG_GENERATION = (v.num PD.CFG_GENERATION + 1) % 2 ^ 32 :=
  (State.num_result_ne _ _ _ (by decide)).trans State.num_setNum
theorem State.committed_dict : (v.committed status).dict = v.dict := State.cause_dict _ _

theorem State.pdGet_committed {k : Nat} (st : k ≠ PD.CFG_STATUS) (fs : k ≠ PD.CFG_FAULTS) (gen : k ≠ PD.CFG_GENERATION) :
    (v.committed status).pdGet k = v.pdGet k :=
  (State.pdGet_result_ne _ _ st).trans ((State.pdGet_pdSet_ne gen).trans (State.pdGet_pdSet_ne fs))
end

/-! ## What follows a commit (R47, R56, R374, R408, R431) -/

theorem State.run_sendAll : Run 35253091565568 [] s (s.each (List.range 12) State.sendWaiting) :=
  each_run (fun _ _ r => sendWaiting_run rfl (fun _ => id) r) (Run.refl _ _ s)

/-- The outputs are no longer held back. -/
theorem State.unsilence_dict : s.unsilence.dict = { s.dict with silenced := false, heldBalls := [] } := by
  unfold State.unsilence
  split
  · exact (State.run_sendAll _).part .dict rfl
  next on =>
    have off : s.dict.silenced = false := Bool.eq_false_iff.2 on
    show { s.dict with heldBalls := [] } = _
    rw [← off]

/-- The unit, the master and the sampling groups follow a commit. -/
def State.followCourse (before : State) : State :=
  let t : State := { s with course := { s.course with configured := true } }
  ((if t.course.st = .unlocked then t.setCourse .acquiring else t).commitMaster (before.flag PD.COURSE_MASTER_EN)).requeueGroups before

theorem State.followConfig_eq (before : State) : s.followConfig before
    = ((((s.followCourse before).unsilence.rediscover before).restartTimers before).hostDuties) := rfl

theorem State.run_followCourse (before : State) : Run 35596688950016 [0x202003] s (s.followCourse before) := by
  unfold State.followCourse
  have configured : Run 35596688950016 [0x202003] s { s with course := { s.course with configured := true } } := run_upd_course rfl (Run.refl _ _ s)
  exact requeueGroups_run rfl (fun _ => id) (commitMaster_run rfl nofun (ite_run (setCourse_run rfl (fun _ => id) configured) configured))

theorem State.followConfig_dict (before : State) : (s.followConfig before).dict = { s.dict with silenced := false, heldBalls := [] } := by
  rw [s.followConfig_eq]
  have after : Run 36764920053760 [0x700103] (s.followCourse before).unsilence
      ((((s.followCourse before).unsilence.rediscover before).restartTimers before).hostDuties) :=
    hostDuties_run rfl nofun (restartTimers_run rfl (rediscover_run rfl (fun _ => id) (Run.refl _ _ _)))
  have course : (s.followCourse before).dict = s.dict := (s.run_followCourse before).part .dict rfl
  exact (after.part .dict rfl).trans ((State.unsilence_dict _).trans (by rw [course]))

theorem State.run_followConfig (before : State) : Run 37314675868416 [PD.EVENT_REJECTED, PD.DISCOVERY_STATE] s (s.followConfig before) :=
  followConfig_run rfl (fun _ => id) (Run.refl _ _ s)
end

/-! ## A valid commit (R407) -/

/-- Entries that a commit reports in. -/
def commitReports : List Nat := [PD.CFG_STATUS, PD.CFG_FAULTS, PD.CFG_GENERATION, PD.EVENT_REJECTED, PD.DISCOVERY_STATE]

theorem commitReports_unstaged : (commitReports.all fun k => (metaOf k).all fun m => m.cls ≠ 2 && m.cls ≠ 3) = true := by decide +kernel

/-- None of them can be staged. -/
theorem not_commitReport {k : Nat} {m : Meta} (known : metaOf k = some m) (cls : m.cls = 2 ∨ m.cls = 3) : k ∉ commitReports := by
  intro report
  have none_ := List.all_eq_true.1 commitReports_unstaged k report
  rw [known] at none_
  simp only [Option.all_some, Bool.and_eq_true, decide_eq_true_eq] at none_
  exact cls.elim none_.1 none_.2

theorem commitReport_class {k n : Nat} (report : k ∈ commitReports) (hn : n = 2 ∨ n = 3) {p : Nat × PdVal} (same : p.1 = k) : ofClass n p = false := by
  refine Bool.eq_false_iff.2 fun c => ?_
  obtain ⟨m, known, cls⟩ := (Option.any_eq_true _ _).1 c
  exact not_commitReport known (of_decide_eq_true cls ▸ hn) (same ▸ report)

section
variable {s : State} (w : s.dictOk = true)

theorem State.applyConfig_eq : s.applyConfig = ((s.valued.unstaged s.waitingSet).committed (if s.commitWaits then 4 else 2)).followConfig s := by
  unfold State.applyConfig
  rw [s.takeConfig_eq]

theorem State.applyConfig_dict : s.applyConfig.dict = { (s.valued.unstaged s.waitingSet).dict with silenced := false, heldBalls := [] } := by
  rw [State.applyConfig_eq, State.followConfig_dict, State.committed_dict]

theorem State.waitingSet_eq : s.waitingSet
    = if s.commitWaits then some (s.num PD.CFG_APPLY_STEP, s.dict.staged.filter (ofClass 3)) else s.dict.waiting := by
  unfold State.waitingSet
  rw [s.valued_dict]

include w

theorem State.dictOk_committed (status : Nat) : ((s.valued.unstaged s.waitingSet).committed status).dictOk = true := by
  have values (vs : List (Nat × PdVal)) (t : State) (w : t.dictOk = true) : (t.applyValues vs).dictOk = true :=
    (applyValues_run rfl nofun (Run.refl (2 ^ 63) [] t)).dict w
  have valued : s.valued.dictOk = true := by
    unfold State.valued
    split
    · exact values _ s w
    · exact values _ _ (values _ s w)
  unfold State.committed State.result
  rw [State.dictOk_cause]
  exact State.dictOk_setNum (State.dictOk_setNum (State.dictOk_setRows valued))

theorem State.pdGet_applyConfig_report {k : Nat} (h : k ≠ PD.EVENT_REJECTED) (d : k ≠ PD.DISCOVERY_STATE) : s.applyConfig.pdGet k
    = ((s.valued.unstaged s.waitingSet).committed (if s.commitWaits then 4 else 2)).pdGet k := by
  rw [State.applyConfig_eq]
  refine (State.run_followConfig _ s).entry (State.dictOk_committed w _) rfl k ?_
  simp only [List.mem_cons, not_or]
  exact ⟨h, d, List.not_mem_nil⟩

theorem State.num_applyConfig_status : s.applyConfig.num PD.CFG_STATUS = if s.commitWaits then 4 else 2 :=
  (congrArg PdVal.toNat (State.pdGet_applyConfig_report w (by decide) (by decide))).trans (State.num_committed_status ..)

theorem State.rows_applyConfig : s.applyConfig.rows PD.CFG_FAULTS = [] :=
  (congrArg PdVal.toRows (State.pdGet_applyConfig_report w (by decide) (by decide))).trans (State.rows_committed ..)

theorem State.num_applyConfig_generation : s.applyConfig.num PD.CFG_GENERATION = (s.num PD.CFG_GENERATION + 1) % 2 ^ 32 := by
  refine (congrArg PdVal.toNat (State.pdGet_applyConfig_report w (by decide) (by decide))).trans ((State.num_committed_generation ..).trans ?_)
  have kept : s.valued.pdGet PD.CFG_GENERATION = s.pdGet PD.CFG_GENERATION := State.pdGet_valued_out s fun p _ same =>
    ⟨commitReport_class (by decide) (.inl rfl) same, commitReport_class (by decide) (.inr rfl) same⟩
  have num : (s.valued.unstaged s.waitingSet).num PD.CFG_GENERATION = s.num PD.CFG_GENERATION := congrArg PdVal.toNat kept
  rw [num]

/-- An entry that reports nothing of the commit has the value that the commit puts in force. -/
theorem State.pdGet_applyConfig {k : Nat} (h : k ∉ commitReports) : s.applyConfig.pdGet k = s.valued.pdGet k := by
  simp only [commitReports, List.mem_cons, not_or] at h
  obtain ⟨status, faults, generation, rejected, discovery, _⟩ := h
  exact (State.pdGet_applyConfig_report w rejected discovery).trans (State.pdGet_committed _ _ status faults generation)
end

/-! ## The end of validation (R407, R408) -/

section
variable {s : State}

section
variable (validating : s.num PD.CFG_STATUS = 1) (runs : s.mode.hubRuns = true) (boot : s.mode ≠ .boot) (loader : s.mode ≠ .loader)
include validating runs boot loader

theorem validation_acts : ¬ (s.num PD.CFG_STATUS ≠ 1 ∨ !s.mode.hubRuns ∨ s.mode = .boot ∨ s.mode = .loader) := by
  rintro (h | h | h | h)
  · exact h validating
  · rw [runs] at h; cases h
  · exact boot h
  · exact loader h

theorem exec_cfgValidationDone_valid (valid : s.commitFaults = []) : exec .cfgValidationDone s = .next s.applyConfig :=
  (if_neg (validation_acts validating runs boot loader)).trans (if_pos (by rw [valid]; rfl))

theorem exec_cfgValidationDone_invalid (invalid : s.commitFaults ≠ []) : exec .cfgValidationDone s
    = .next (((if s.mode = .held then s.silence else s).setRows PD.CFG_FAULTS s.commitFaults).result PD.CFG_STATUS 3) :=
  (if_neg (validation_acts validating runs boot loader)).trans (if_neg (by simpa using invalid))
end

/-- The outputs of an invalid configuration are held back in HELD. -/
def State.silencedHeld (s : State) : State := if s.mode = .held then s.silence else s

theorem State.silencedHeld_pd : s.silencedHeld.pd = s.pd := by unfold State.silencedHeld; split <;> rfl

theorem State.silencedHeld_dict : s.silencedHeld.dict.staged = s.dict.staged ∧ s.silencedHeld.dict.waiting = s.dict.waiting
    ∧ s.silencedHeld.dict.silenced = (s.dict.silenced || decide (s.mode = .held)) := by
  unfold State.silencedHeld
  split
  next held => exact ⟨rfl, rfl, by rw [held]; exact (Bool.or_true _).symm⟩
  next other => exact ⟨rfl, rfl, by rw [decide_eq_false other]; exact (Bool.or_false _).symm⟩

/-- The report of an invalid configuration. -/
def State.rejected (s t : State) : State := (t.setRows PD.CFG_FAULTS s.commitFaults).result PD.CFG_STATUS 3

theorem State.rejected_dict (t : State) : (s.rejected t).dict = t.dict := State.cause_dict _ _

theorem State.pdGet_rejected {k : Nat} (t : State) (st : k ≠ PD.CFG_STATUS) (fs : k ≠ PD.CFG_FAULTS) : (s.rejected t).pdGet k = t.pdGet k :=
  (State.pdGet_result_ne _ _ st).trans (State.pdGet_pdSet_ne fs)
end

/-! ## ARP on the management port (R418) -/

section
variable {dst mac ip target addr : List Byte} (tail : List Byte) (hdst : dst.length = 6) (hmac : mac.length = 6) (hip : ip.length = 4)
  (htarget : target.length = 6) (haddr : addr.length = 4)

/-- The packet of an ARP request. -/
def arpPacket (mac ip target addr tail : List Byte) : List Byte := [0, 1, 8, 0, 6, 4, 0, 1] ++ mac ++ ip ++ target ++ addr ++ tail

theorem sub_arpPacket_head (o n : Nat) (h : o + n ≤ 8) : sub (arpPacket mac ip target addr tail) o n = sub [0, 1, 8, 0, 6, 4, 0, 1] o n := by
  unfold arpPacket
  simp only [List.append_assoc]
  exact sub_append_of_le h

include hmac

theorem sub_arpPacket_mac : sub (arpPacket mac ip target addr tail) 8 6 = mac := by
  unfold arpPacket
  rw [List.append_assoc, List.append_assoc, List.append_assoc, sub_append_of_le (by rw [List.length_append, hmac]; decide)]
  exact sub_append_last rfl hmac

include hip

theorem sub_arpPacket_ip : sub (arpPacket mac ip target addr tail) 14 4 = ip := by
  have size : ([0, 1, 8, 0, 6, 4, 0, 1] ++ mac : List Byte).length = 14 := by rw [List.length_append, hmac]; rfl
  unfold arpPacket
  rw [List.append_assoc, List.append_assoc, sub_append_of_le (by rw [List.length_append, size, hip])]
  exact sub_append_last size hip

include htarget haddr

theorem sub_arpPacket_addr : sub (arpPacket mac ip target addr tail) 24 4 = addr := by
  have size : ([0, 1, 8, 0, 6, 4, 0, 1] ++ mac ++ ip ++ target : List Byte).length = 24 := by
    simp only [List.length_append, hmac, hip, htarget, List.length_cons, List.length_nil]
  unfold arpPacket
  rw [sub_append_of_le (by rw [List.length_append, size, haddr])]
  exact sub_append_last size haddr

theorem length_arpPacket : 28 ≤ (arpPacket mac ip target addr tail).length := by
  simp only [arpPacket, List.length_append, hmac, hip, htarget, haddr, List.length_cons, List.length_nil]
  omega

/-- A frame that carries an ARP request. -/
def arpFrame (dst mac packet : List Byte) : List Byte := dst ++ mac ++ [8, 6] ++ packet

omit hip htarget haddr in
include hdst in
theorem drop_arpFrame (packet : List Byte) : (arpFrame dst mac packet).drop 14 = packet :=
  List.drop_left' (by simp only [List.length_append, hdst, hmac, List.length_cons, List.length_nil])

omit hip htarget haddr in
include hdst in
theorem sub_arpFrame_type (packet : List Byte) : sub (arpFrame dst mac packet) 12 2 = [8, 6] := by
  have size : (dst ++ mac).length = 12 := by rw [List.length_append, hdst, hmac]
  unfold arpFrame
  rw [sub_append_of_le (by rw [List.length_append, size]; decide)]
  exact sub_append_last size rfl

/-- The packet of an ARP reply. -/
def State.arpAnswer (s : State) (mac ip : List Byte) : List Byte :=
  macBytes ++ [8, 6] ++ [0, 1, 8, 0, 6, 4, 0, 2] ++ macBytes ++ be 4 s.ipv4 ++ mac ++ ip

include hdst

theorem State.arpReply_request {s : State} (set : s.ipv4 ≠ 0) (mine : ofBe addr = s.ipv4) :
    s.arpReply (arpFrame dst mac (arpPacket mac ip target addr tail)) = some (padTo 60 (mac ++ s.arpAnswer mac ip)) := by
  have field (o n : Nat) (h : o + n ≤ 8) : beAt (arpPacket mac ip target addr tail) o n = ofBe (sub [0, 1, 8, 0, 6, 4, 0, 1] o n) :=
    congrArg ofBe (sub_arpPacket_head tail o n h)
  unfold State.arpReply
  rw [drop_arpFrame hdst hmac]
  refine (if_pos ⟨set, field 0 2 (by decide), field 2 2 (by decide), field 4 1 (by decide), field 5 1 (by decide), field 6 2 (by decide),
    length_arpPacket tail hmac hip htarget haddr, (congrArg ofBe (sub_arpPacket_addr tail hmac hip htarget haddr)).trans mine⟩).trans ?_
  rw [sub_arpPacket_mac tail hmac, sub_arpPacket_ip tail hmac hip]
  have size : (mac ++ s.arpAnswer mac ip).length < 60 := by
    have four : (be 4 s.ipv4).length = 4 := rfl
    have six : macBytes.length = 6 := length_padTo ..
    simp only [State.arpAnswer, List.length_append, hmac, hip, four, six, List.length_cons, List.length_nil]
    decide
  have body : mac ++ macBytes ++ be 2 0x0806 ++ (be 2 1 ++ be 2 0x0800 ++ [6, 4] ++ be 2 2 ++ macBytes ++ be 4 s.ipv4 ++ mac ++ ip)
      = mac ++ s.arpAnswer mac ip := by
    simp only [State.arpAnswer, List.append_assoc]
    rfl
  unfold replyFrame
  dsimp only
  rw [body, if_pos size]

theorem exec_arp {s : State} (up : s.pdxUp = true) (set : s.ipv4 ≠ 0) (mine : ofBe addr = s.ipv4) :
    exec (.arpNdAndEchoRequest (arpFrame dst mac (arpPacket mac ip target addr tail))) s = .next (s.emit (.sgmii (padTo 60 (mac ++ s.arpAnswer mac ip)))) := by
  show execArpNdAndEchoRequest _ s = _
  have arp : beAt (arpFrame dst mac (arpPacket mac ip target addr tail)) 12 2 = 0x0806 := congrArg ofBe (sub_arpFrame_type hdst hmac _)
  unfold execArpNdAndEchoRequest
  simp only [arp, if_true, State.arpReply_request tail hdst hmac hip htarget haddr set mine, up]
end

end Sys2Proof.Machine

open Sys2Proof Sys2Proof.Machine

/-- Settles O47: each command by its state and CFG_STATUS; a commit by the values it puts in force, its report and what follows it, whose entries and
dictionary the follow-up leaves but for those named. -/
theorem configurationsCommitWholeAndModuleStatesAreRequested : Obligations.ConfigurationsCommitWholeAndModuleStatesAreRequested := by
  unfold Obligations.ConfigurationsCommitWholeAndModuleStatesAreRequested
  refine ⟨fun s w up => ?_, fun s w validating runs boot loader => ?_, fun s dst mac ip target addr tail up set size mine hdst hmac hip htarget => ?_⟩
  · obtain ⟨commit, discard, defaults⟩ := cfg_commands up
    obtain ⟨arm, hold⟩ := state_requests up
    have working {m : Mode} (h : m = .armed ∨ m = .run ∨ m = .drain) : m.working = true ∧ m ≠ .held := by
      rcases h with rfl | rfl | rfl <;> decide
    refine ⟨fun i hi => ⟨fun off => ?_, fun on busy => ?_⟩, fun on free => ⟨fun pending => ?_, ⟨_, discard, ?_⟩, ⟨_, defaults, ?_⟩⟩, fun i hi off => ?_,
      fun elsewhere => ?_, fun held notReady => ?_, fun held ready => ⟨_, arm, ?_⟩, fun on => ⟨_, hold, ?_⟩⟩
    · rcases List.mem_cons.1 hi with rfl | hi
      · rw [commit, State.cfgCommand_wrongState off (by decide)]
      rcases List.mem_cons.1 hi with rfl | hi
      · rw [discard, State.cfgCommand_wrongState off (by decide)]
      · rw [List.mem_singleton.1 hi, defaults, State.cfgCommand_wrongState off (by decide)]
    · rcases List.mem_cons.1 hi with rfl | hi
      · rw [commit, State.cfgCommand_busy on (by decide) (busy.imp_right fun b => ⟨rfl, b.2⟩)]
      rcases List.mem_cons.1 hi with rfl | hi
      · rw [discard, State.cfgCommand_busy on (by decide) (.inl (busy.resolve_right fun b => by cases b.1))]
      · obtain rfl := List.mem_singleton.1 hi
        rw [defaults, State.cfgCommand_busy on (by decide) (.inl (busy.resolve_right fun b => by cases b.1))]
    · rw [commit, State.cfgCommand_commit on free pending]
    · rw [State.cfgCommand_discard on free]
      have result : (s.setNum PD.CFG_CMD_RESULT 0).num PD.CFG_STATUS = s.num PD.CFG_STATUS := State.num_setNum_ne (by decide)
      refine ⟨State.discardConfig_dict _, ?_, ?_, fun k cmd status => (State.pdGet_discardConfig _ status).trans (State.pdGet_pdSet_ne cmd)⟩
      · exact (congrArg PdVal.toNat (State.pdGet_discardConfig _ (by decide))).trans State.num_setNum
      · rw [State.num_discardConfig_status, result]
    · rw [State.cfgCommand_defaults on free]
      have self : (s.setNum PD.CFG_CMD_RESULT 0).self = s.self := by
        unfold State.self
        rw [State.num_setNum_ne (by decide)]
        rfl
      refine ⟨State.stageDefaults_pd _, fun k => ?_⟩
      rw [State.stagedGet_stageDefaults, self]
      rfl
    · rcases List.mem_cons.1 hi with rfl | hi
      · rw [arm, State.stateReq_wrongState off (by decide)]
      · rw [List.mem_singleton.1 hi, hold, State.stateReq_wrongState off (by decide)]
    · obtain ⟨on, other⟩ := working elsewhere
      rw [arm, State.stateReq_arm_elsewhere on other]
    · rw [arm, State.stateReq_notReady held notReady]
    · rw [State.stateReq_armed held ready]
      exact ⟨s.arm_mode, State.num_setNum, (State.num_setNum_ne (by decide)).trans s.num_arm_number,
        (State.num_setNum_ne (by decide)).trans s.num_arm_attempt, s.arm_step⟩
    · rw [State.stateReq_hold on]
      exact ⟨State.num_setNum, s.drainOrHold_mode⟩
  · refine ⟨fun invalid => ⟨_, exec_cfgValidationDone_invalid validating runs boot loader invalid, ?_⟩,
      fun valid => ⟨_, exec_cfgValidationDone_valid validating runs boot loader valid, ?_⟩⟩
    · obtain ⟨staged, waiting, silenced⟩ := s.silencedHeld_dict
      have dict := s.rejected_dict s.silencedHeld
      refine ⟨State.num_result .., (State.rows_result_ne _ _ _ (by decide)).trans State.rows_setRows, ?_, ?_, ?_, fun k status faults => ?_⟩
      · exact (congrArg Dictionary.staged dict).trans staged
      · exact (congrArg Dictionary.waiting dict).trans waiting
      · exact (congrArg Dictionary.silenced dict).trans silenced
      · refine (State.pdGet_rejected s.silencedHeld status faults).trans ?_
        unfold State.pdGet
        rw [s.silencedHeld_pd]
    · have waits := s.commitWaits_iff
      have dict := s.applyConfig_dict
      refine ⟨(State.num_applyConfig_status w).trans (if_congr waits rfl rfl), State.rows_applyConfig w, State.num_applyConfig_generation w,
        congrArg Dictionary.staged dict, congrArg Dictionary.pieces dict, congrArg Dictionary.silenced dict,
        (congrArg Dictionary.waiting dict).trans (s.waitingSet_eq.trans (if_congr waits rfl rfl)), fun p m staged known only => ⟨?_, ?_⟩, ?_⟩
      · intro now
        refine (State.pdGet_applyConfig w (not_commitReport known (now.imp_right And.left))).trans ?_
        rcases now with now | ⟨later, go⟩
        · exact State.pdGet_valued_now known staged only now
        · exact State.pdGet_valued_later known staged only later (Bool.eq_false_iff.2 fun c => go (waits.1 c))
      · rintro ⟨later, wait⟩
        exact (State.pdGet_applyConfig w (not_commitReport known (.inr later))).trans (State.pdGet_valued_waits known later (waits.2 wait))
      · intro k unstaged status faults generation rejected discovery
        have report : k ∉ commitReports := by
          simp only [commitReports, List.mem_cons, not_or]
          exact ⟨status, faults, generation, rejected, discovery, List.not_mem_nil⟩
        exact (State.pdGet_applyConfig w report).trans (State.pdGet_valued_out s fun p staged same => absurd same (unstaged p staged))
  · have answers := exec_arp tail hdst hmac hip htarget size up set mine
    simpa only [arpFrame, arpPacket, State.arpAnswer, List.append_assoc] using answers
end

section
/-! Proofs of audits, grants and spall exports (R467-R474, R481-R487): what a repeat and an audited unit change, a granted audit, the Foreman's queue, the
three ways out of a record, and the statement AuditsGrantsAndSpallExportsRun. -/
namespace Sys2Proof.Machine

/-! ## Repeats (R474-R476) -/

/-- What the settling of a mismatch changes at most: the entries of repeats and of the spall ring; blocks keep their last clean audit. -/
structure Repeats (s t : State) : Prop where
  run : Run 39996882960384 [0xA00105, 0xA00106, 0xA00108, 0xA10001, 0xA10006] s t
  audits : t.faults.audits = s.faults.audits

section
variable {s t u : State}

theorem Repeats.refl (s : State) : Repeats s s := ⟨Run.refl _ _ s, rfl⟩
theorem Repeats.trans (h : Repeats s t) (k : Repeats t u) : Repeats s u := ⟨h.run.trans k.run, k.audits.trans h.audits⟩

theorem Repeats.ite {c : Prop} [Decidable c] {x y : State} (h : Repeats s x) (k : Repeats s y) : Repeats s (if c then x else y) := by
  split
  · exact h
  · exact k

/-- A change of the health map's other parts. -/
theorem Repeats.faults {x : State} (h : Repeats s x) (f : Faults) (same : f.audits = x.faults.audits) : Repeats s { x with faults := f } :=
  ⟨run_upd_faults rfl h.run, same.trans h.audits⟩

theorem Repeats.triggers {x : State} (h : Repeats s x) (n : Nat) (f : Faults) (same : f.audits = x.faults.audits) :
    Repeats s { x with triggers := n, faults := f } := ⟨run_upd_triggers_faults rfl h.run, same.trans h.audits⟩

variable (s)

theorem State.ringPush_audits (rec : List Byte) : (s.ringPush rec).faults.audits = s.faults.audits := by
  unfold State.ringPush
  dsimp only
  split_ifs <;> rfl

theorem State.spall_audits (p : Spall) : (s.spall p).faults.audits = s.faults.audits :=
  (congrArg (fun f : Faults => f.audits) (State.cause_faults ..)).trans (s.ringPush_audits _)

variable {s}

theorem Repeats.spall {x : State} (h : Repeats s x) (p : Spall) : Repeats s (x.spall p) :=
  h.trans ⟨spall_run rfl (fun _ => subk_mem rfl) (Run.refl _ _ x), x.spall_audits p⟩

theorem Repeats.bump {x : State} (h : Repeats s x) {k : Nat} (hk : k ∈ [0xA00105, 0xA00106, 0xA00108]) : Repeats s (x.bump k) :=
  h.trans ⟨bump_run (fun _ hy => List.mem_singleton.1 hy ▸ List.mem_append_left [0xA10001, 0xA10006] hk) (Run.refl _ _ x), rfl⟩

theorem Repeats.retireBlock {x : State} (h : Repeats s x) (die block cause mech : Nat) : Repeats s (x.retireBlock die block cause mech) := by
  unfold State.retireBlock
  refine h.ite (Repeats.spall (Repeats.triggers h _ _ ?_) _)
  rfl

theorem Repeats.retireCell {x : State} (h : Repeats s x) (u : FaultUnit) (cause mech : Nat) : Repeats s (x.retireCell u cause mech) := by
  unfold State.retireCell
  refine h.ite (Repeats.ite (Repeats.retireBlock (Repeats.spall (Repeats.triggers h _ _ ?_) _) ..)
    (Repeats.spall (Repeats.triggers h _ _ ?_) _))
  · rfl
  · rfl

/-- A confirmation but for its count: the suspect's row, and its retirement. -/
theorem State.confirm_repeats (s : State) (u : FaultUnit) (mech : Nat) : Repeats (s.bump PD.REPEATS_CONFIRMED) (s.confirm u mech) := by
  have start := Repeats.refl (s.bump PD.REPEATS_CONFIRMED)
  unfold State.confirm
  refine Repeats.ite (Repeats.ite (Repeats.retireBlock (Repeats.bump (Repeats.faults start _ ?_) ?_) ..)
    (Repeats.retireCell (Repeats.bump (Repeats.faults start _ ?_) ?_) ..)) (Repeats.faults start _ ?_)
  · rfl
  · decide
  · rfl
  · decide
  · rfl

theorem Repeats.suspectSide {x : State} (h : Repeats s x) (key : Nat) : Repeats s (x.suspectSide key) := by
  refine h.trans ⟨suspectSide_run rfl nofun (Run.refl _ _ x), ?_⟩
  unfold State.suspectSide
  split <;> rfl

/-- A repeat's outcome. -/
theorem Repeats.repeatResult {x : State} (h : Repeats s x) (u : FaultUnit) (agrees : Bool) : Repeats s (x.repeatResult u agrees).2 := by
  unfold State.repeatResult
  split
  · exact h.bump (by decide)
  · exact (h.bump (by decide)).trans (x.confirm_repeats u 8)

theorem Repeats.each {α : Type} {g : State → α → State} (hg : ∀ t x, Repeats s t → Repeats s (g t x)) :
    ∀ (l : List α) {t : State}, Repeats s t → Repeats s (t.each l g)
  | [], _, h => h
  | x :: l, _, h => Repeats.each hg l (hg _ x h)

theorem State.num_repeatResult (w : s.dictOk = true) (u : FaultUnit) :
    (s.repeatResult u true).2.num PD.REPEATS_TRANSIENT = (s.num PD.REPEATS_TRANSIENT + 1) % 2 ^ 64
    ∧ (s.repeatResult u false).2.num PD.REPEATS_CONFIRMED = (s.num PD.REPEATS_CONFIRMED + 1) % 2 ^ 64 :=
  ⟨State.num_bump, State.num_confirm u 8 w⟩
end

/-! ## What an audited unit counts (R470-R472) -/

/-- Units audited from s to t: `hard` mismatches and `drift` drifts counted, the reason AUDIT on the attempt for the first kind, the step, the number of
steps and the block's last clean audit as they were. -/
structure Audited (s t : State) (hard drift : Nat) : Prop where
  dict : t.dictOk = true
  step : t.step = s.step
  audits : t.faults.audits = s.faults.audits
  mismatches : t.num PD.AUDIT_MISMATCHES % 2 ^ 64 = (s.num PD.AUDIT_MISMATCHES + hard) % 2 ^ 64
  drifts : t.num PD.AUDIT_DRIFTS % 2 ^ 64 = (s.num PD.AUDIT_DRIFTS + drift) % 2 ^ 64
  kept : bit (s.num PD.STEP_REASONS) 9 = true → bit (t.num PD.STEP_REASONS) 9 = true
  found : 0 < hard → s.step.attempt = true → bit (t.num PD.STEP_REASONS) 9 = true
  num : ∀ k, k ∈ [PD.AUDITS_DONE, PD.AUDITS_ABANDONED, PD.STEP_NUMBER, PD.AUDIT_RMS_FACTOR] → t.num k = s.num k

section
variable {s t u : State} {h d h' d' : Nat}

theorem Audited.refl (w : s.dictOk = true) : Audited s s 0 0 := ⟨w, rfl, rfl, rfl, rfl, id, nofun, fun _ _ => rfl⟩

theorem Audited.trans (a : Audited s t h d) (b : Audited t u h' d') : Audited s u (h + h') (d + d') := by
  refine ⟨b.dict, b.step.trans a.step, b.audits.trans a.audits, ?_, ?_, fun x => b.kept (a.kept x), fun some_ attempt => ?_,
    fun k m => (b.num k m).trans (a.num k m)⟩
  · rw [b.mismatches, ← Nat.mod_add_mod, a.mismatches, Nat.mod_add_mod, Nat.add_assoc]
  · rw [b.drifts, ← Nat.mod_add_mod, a.drifts, Nat.mod_add_mod, Nat.add_assoc]
  · by_cases first : 0 < h
    · exact b.kept (a.found first attempt)
    · exact b.found (by omega) (a.step ▸ attempt)

/-- The settling of a mismatch counts nothing of an audit. -/
theorem Audited.settled (a : Audited s t h d) (r : Repeats t u) : Audited s u h d := by
  have num {k : Nat} (hk : k ∉ [0xA00105, 0xA00106, 0xA00108, 0xA10001, 0xA10006]) : u.num k = t.num k := r.run.num_eq a.dict rfl hk
  have others : ∀ k, k ∈ [PD.AUDITS_DONE, PD.AUDITS_ABANDONED, PD.STEP_NUMBER, PD.AUDIT_RMS_FACTOR] →
      k ∉ [0xA00105, 0xA00106, 0xA00108, 0xA10001, 0xA10006] := by decide
  have reasons : u.num PD.STEP_REASONS = t.num PD.STEP_REASONS := num (by decide)
  refine ⟨r.run.dict a.dict, (r.run.part .step rfl).trans a.step, r.audits.trans a.audits, ?_, ?_, fun x => ?_, fun some_ attempt => ?_,
    fun k m => (num (others k m)).trans (a.num k m)⟩
  · rw [num (by decide), a.mismatches]
  · rw [num (by decide), a.drifts]
  · rw [reasons]; exact a.kept x
  · rw [reasons]; exact a.found some_ attempt

/-- A mismatch counts, and its reason is on the attempt. -/
theorem State.mismatch_audited (w : s.dictOk = true) : Audited s ((s.bump PD.AUDIT_MISMATCHES).reason rsAudit) 1 0 := by
  unfold State.reason
  split
  · refine ⟨State.dictOk_setNum (State.dictOk_bump w), rfl, rfl, ?_, ?_, fun _ => ?_, fun _ _ => ?_, fun k m => ?_⟩
    · rw [State.num_setNum_ne (by decide), State.num_bump, Nat.mod_mod]
    · rw [State.num_setNum_ne (by decide), State.num_bump_ne (by decide)]; rfl
    · rw [State.num_setNum]; exact bit_orBit _ 9
    · rw [State.num_setNum]; exact bit_orBit _ 9
    · exact (State.num_setNum_ne fun e => absurd m (by rw [e]; decide)).trans (State.num_bump_ne fun e => absurd m (by rw [e]; decide))
  next idle =>
    refine ⟨State.dictOk_bump w, rfl, rfl, ?_, ?_, fun x => ?_, fun _ attempt => ?_, fun k m => State.num_bump_ne fun e => absurd m (by rw [e]; decide)⟩
    · rw [State.num_bump, Nat.mod_mod]
    · rw [State.num_bump_ne (by decide)]; rfl
    · rw [State.num_bump_ne (by decide)]; exact x
    · exact absurd (Bool.or_eq_true_iff.2 (.inr attempt)) idle

theorem State.drift_audited (w : s.dictOk = true) : Audited s (s.bump PD.AUDIT_DRIFTS) 0 1 := by
  refine ⟨State.dictOk_bump w, rfl, rfl, ?_, ?_, fun x => ?_, nofun, fun k m => State.num_bump_ne fun e => absurd m (by rw [e]; decide)⟩
  · rw [State.num_bump_ne (by decide)]; rfl
  · rw [State.num_bump, Nat.mod_mod]
  · rw [State.num_bump_ne (by decide)]; exact x

/-- Drifts that wait for their repeats are forgotten or noted: the health map alone. -/
theorem Audited.drifting (a : Audited s t h d) (l : List Nat) : Audited s { t with faults := { t.faults with drifts := l } } h d :=
  a.settled ((Repeats.refl t).faults _ rfl)

/-- An audited cell counts as hard, as drift or as clean (R470). -/
theorem State.auditCell_audited (w : s.dictOk = true) (die block : Nat) (a : ArrayAudit) :
    (s.auditCell die block a).1 = (!auditHard a && !auditDrift a (s.fv PD.AUDIT_RMS_FACTOR))
    ∧ Audited s (s.auditCell die block a).2 (b2n (auditHard a)) (b2n (!auditHard a && auditDrift a (s.fv PD.AUDIT_RMS_FACTOR))) := by
  unfold State.auditCell
  extract_lets -merge u key waits forget span record
  have forgotten {x : State} {h d : Nat} (k : Audited s x h d) : Audited s (forget x) h d := k.drifting _
  clear_value waits
  split
  next hard =>
    rw [hard]
    exact ⟨rfl, (State.mismatch_audited w).settled (((Repeats.refl _).repeatResult _ _).spall _ |>.suspectSide _)⟩
  next soft =>
    rw [Bool.eq_false_iff.2 soft]
    split
    next drift =>
      rw [drift]
      have counted := Repeats.refl (s.bump PD.AUDIT_DRIFTS)
      have repeated := (counted.repeatResult u false).ite (c := waits = true) counted
      exact ⟨rfl, (forgotten ((State.drift_audited w).settled
        (Repeats.ite (c := waits = true) (Repeats.suspectSide (Repeats.spall repeated _) _) (Repeats.spall repeated _)))).drifting _⟩
    next exact_ =>
      rw [Bool.eq_false_iff.2 exact_]
      split
      · exact ⟨rfl, forgotten ((Audited.refl w).settled ((Repeats.refl s).repeatResult _ _))⟩
      · exact ⟨rfl, Audited.refl w⟩

/-- A comparison of the two computations of a gradient-die unit (R471). -/
theorem State.auditDigital_audited (w : s.dictOk = true) (die block : Nat) (d : DigitalAudit) :
    (s.auditDigital die block d).1 = decide (d.own = d.second) ∧ Audited s (s.auditDigital die block d).2 (b2n (d.own ≠ d.second)) 0 := by
  unfold State.auditDigital
  split
  next same =>
    rw [decide_eq_true same, decide_eq_false (not_not.2 same)]
    exact ⟨rfl, Audited.refl w⟩
  next differ =>
    rw [decide_eq_false differ, decide_eq_true differ]
    refine ⟨rfl, (State.mismatch_audited w).settled (Repeats.suspectSide (Repeats.ite (Repeats.spall ?_ _) ?_) _)⟩
    all_goals exact Repeats.each (fun t u h => (Repeats.spall (h.repeatResult u d.repeatAgrees) _).ite (h.repeatResult u d.repeatAgrees)) _ (Repeats.refl _)

/-- One more cell of an audit. -/
def auditStep (die block : Nat) (acc : Bool × State) (a : ArrayAudit) : Bool × State := (acc.1 && (acc.2.auditCell die block a).1, (acc.2.auditCell die block a).2)

theorem length_filter_cons {α : Type} (p : α → Bool) (a : α) (l : List α) : ((a :: l).filter p).length = b2n (p a) + (l.filter p).length := by
  cases h : p a
  · rw [List.filter_cons_of_neg (Bool.eq_false_iff.1 h)]; exact (Nat.zero_add _).symm
  · rw [List.filter_cons_of_pos h]; exact Nat.add_comm ..

/-- An audit stays clean over a unit that counts neither as hard nor as drift. -/
theorem stays_clean (clean hard drift : Bool) (n m : Nat) : (clean && (!hard && !drift) && decide (n = 0 ∧ m = 0))
    = (clean && decide (b2n hard + n = 0 ∧ b2n (!hard && drift) + m = 0)) := by
  cases hard
  · cases drift
    · simp [b2n]
    · simp [b2n]
  · simp [b2n]

/-- The cells of an audit in turn. -/
theorem auditCells (die block : Nat) : ∀ (l : List ArrayAudit) (clean : Bool) {s : State}, s.dictOk = true →
    (l.foldl (auditStep die block) (clean, s)).1 = (clean && decide ((l.filter auditHard).length = 0
      ∧ (l.filter fun a => !auditHard a && auditDrift a (s.fv PD.AUDIT_RMS_FACTOR)).length = 0))
    ∧ Audited s (l.foldl (auditStep die block) (clean, s)).2 (l.filter auditHard).length
        (l.filter fun a => !auditHard a && auditDrift a (s.fv PD.AUDIT_RMS_FACTOR)).length
  | [], clean, _, w => ⟨(Bool.and_true clean).symm, .refl w⟩
  | a :: l, clean, s, w => by
    obtain ⟨ok, first⟩ := State.auditCell_audited w die block a
    obtain ⟨rest, audited⟩ := auditCells die block l (clean && (s.auditCell die block a).1) first.dict
    have factor : (s.auditCell die block a).2.fv PD.AUDIT_RMS_FACTOR = s.fv PD.AUDIT_RMS_FACTOR := congrArg fp32.decode (first.num _ (by decide))
    rw [factor] at rest audited
    rw [length_filter_cons, length_filter_cons]
    exact ⟨rest.trans (by rw [ok]; exact stays_clean ..), first.trans audited⟩
end

/-! ## Grants (R481, R482) -/

section
variable (s : State) (a : Activity) (r : Nat)

/-- A grant touches the Foreman's queue and its statistics alone. -/
theorem State.grant_faults : ∃ q st, (s.grant a r).2.faults = { s.faults with queue := q, stats := st } := by
  have asked : ∃ q st, (s.request a r).faults = { s.faults with queue := q, stats := st } := by
    unfold State.request
    split
    · exact ⟨_, _, rfl⟩
    · exact ⟨_, _, rfl⟩
  obtain ⟨q, st, asked⟩ := asked
  have again (f : Faults) (same : f = { s.faults with queue := q, stats := st }) (p : List Request) (tt : List (Nat × Nat × Nat)) :
      { f with queue := p, stats := tt } = { s.faults with queue := p, stats := tt } := by rw [same]
  unfold State.grant
  dsimp only
  split
  · exact ⟨q, st, asked⟩
  split
  · exact ⟨q, st, asked⟩
  split_ifs
  · exact ⟨q, st, asked⟩
  · exact ⟨_, _, again _ asked _ _⟩
  · exact ⟨_, _, again _ asked _ _⟩

/-- A request is in the queue once it has arrived. -/
theorem State.request_queued : ∃ x, x ∈ (s.request a r).faults.queue ∧ x.activity = a ∧ x.resource = r := by
  unfold State.request
  split
  next there =>
    obtain ⟨x, hx, same⟩ := List.any_eq_true.1 there
    exact ⟨x, hx, by simpa using same⟩
  · exact ⟨⟨a, r, s.ctime, false⟩, List.mem_append_right _ List.mem_cons_self, rfl, rfl⟩

theorem State.request_running : (s.request a r).faults.running = s.faults.running := by
  unfold State.request
  split <;> rfl

variable {s a r}

/-- A running grant in conflict keeps the request waiting. -/
theorem State.grant_conflict {x : Request} (running : x ∈ s.faults.running) (conflict : grantsConflict a r x.activity x.resource = true) :
    s.grant a r = (false, s.request a r) := by
  unfold State.grant
  have busy : ((s.request a r).faults.running.any fun x => grantsConflict a r x.activity x.resource) = true := by
    rw [s.request_running]
    exact List.any_eq_true.2 ⟨x, running, conflict⟩
  dsimp only
  split
  · rfl
  split
  · rfl
  · exact if_pos (.inr busy)

/-- A request alone is granted. -/
theorem State.grant_alone (running : s.faults.running = []) (queue : s.faults.queue = []) : (s.grant a r).1 = true ∧ (s.grant a r).2.faults.queue = [] := by
  have asked : (s.request a r).faults.queue = [⟨a, r, s.ctime, false⟩] := by
    unfold State.request
    rw [queue]
    rfl
  have none_ := (s.request_running a r).trans running
  unfold State.grant
  generalize s.request a r = t at asked none_
  have found : (t.faults.queue.findIdx? fun x => x.activity = a && x.resource = r) = some 0 := by rw [asked]; simp [List.findIdx?_cons]
  have first : t.faults.queue[0]? = some ⟨a, r, s.ctime, false⟩ := by rw [asked]; rfl
  have ahead : (t.faults.queue.zipIdx.any fun x => x.2 ≠ 0 && grantsConflict a r x.1.activity x.1.resource
      && (if x.2 < 0 then x.1.before ⟨a, r, s.ctime, false⟩ else !(⟨a, r, s.ctime, false⟩ : Request).before x.1)) = false := by rw [asked]; rfl
  have busy : (t.faults.running.any fun x => grantsConflict a r x.activity x.resource) = false := by rw [none_]; rfl
  have gone : t.faults.queue.eraseIdx 0 = [] := by rw [asked]; rfl
  dsimp only
  rw [found]
  dsimp only
  rw [first]
  dsimp only
  rw [if_neg (by rw [ahead, busy]; decide)]
  exact ⟨rfl, gone⟩
end

/-- What a grant leaves: the dictionary but for its late count, the step, the health map but for the Foreman's queue. -/
structure Granted (s g : State) : Prop where
  run : Run 4398046511104 [PD.FOREMAN_LATE] s g
  faults : ∃ q st, g.faults = { s.faults with queue := q, stats := st }

theorem State.granted (s : State) (a : Activity) (r : Nat) : Granted s (s.grant a r).2 := ⟨s.run_grant a r, s.grant_faults a r⟩

section
variable {s g : State} (h : Granted s g)
include h

theorem Granted.num (w : s.dictOk = true) {k : Nat} (ne : k ≠ PD.FOREMAN_LATE) : g.num k = s.num k :=
  h.run.num_eq w rfl fun m => ne (List.mem_singleton.1 m)
theorem Granted.rows (w : s.dictOk = true) {k : Nat} (ne : k ≠ PD.FOREMAN_LATE) : g.rows k = s.rows k :=
  h.run.rows_eq w rfl fun m => ne (List.mem_singleton.1 m)
theorem Granted.audits : g.faults.audits = s.faults.audits := by obtain ⟨q, st, eq⟩ := h.faults; rw [eq]
theorem Granted.retiredCells : g.faults.retiredCells = s.faults.retiredCells := by obtain ⟨q, st, eq⟩ := h.faults; rw [eq]
theorem Granted.step : g.step = s.step := h.run.part .step rfl
theorem Granted.outs : g.outs = s.outs := h.run.part .outs rfl
end

/-! ## A granted audit (R469, R472, R483) -/

/-- The comparisons of an audit end: it counts, and a clean block has its last clean audit now. -/
def State.endAudit (s : State) (key : Nat) (clean : Bool) : State :=
  { s.bump PD.AUDITS_DONE with faults := { s.faults with
    audits := if clean then kvSet (fun _ => 0) s.faults.audits key ((s.bump PD.AUDITS_DONE).num PD.STEP_NUMBER) else s.faults.audits
    immediate := s.faults.immediate.filter (· ≠ key) } }

section
variable {s : State} {die block : Nat}

section
variable (run : s.mode = .run) (hd : die < 16) (hb : block < 128) (slots : 64 ≤ s.num PD.LEVEL_F) (service : die * 128 + block ∉ s.faults.retiredBlocks)
  (writes : s.writesOpen die block = false) (granted : (s.grant .audit (die * 128 + block)).1 = true)
include run hd hb slots service writes granted

/-- An audit in service is what its grant lets it compare. -/
theorem exec_audit_granted (data : AuditData) : exec (.audit die block data) s =
    if (s.grant .audit (die * 128 + block)).2.step.verdictFormed then .next ((s.grant .audit (die * 128 + block)).2.bump PD.AUDITS_ABANDONED)
    else match data with
      | .abandoned => .next ((s.grant .audit (die * 128 + block)).2.bump PD.AUDITS_ABANDONED)
      | .array cells =>
        let g := (s.grant .audit (die * 128 + block)).2
        let mine := cells.filter fun a => decide (a.cell < 16) && !g.faults.retiredCells.contains (die * 2048 + block * 16 + a.cell)
        if 8 ≤ die ∨ mine.isEmpty then .next g
        else .next ((mine.foldl (auditStep die block) (true, g)).2.endAudit (die * 128 + block) (mine.foldl (auditStep die block) (true, g)).1)
      | .digital mac row =>
        let g := (s.grant .audit (die * 128 + block)).2
        let a := g.auditDigital die block { mac with rowEngine := false }
        let b := a.2.auditDigital die block { row with rowEngine := true }
        if die < 8 then .next g else .next (b.2.endAudit (die * 128 + block) (a.1 && b.1)) := by
  have acts : ¬ (s.mode ≠ .run ∨ 16 ≤ die ∨ 128 ≤ block ∨ s.num PD.LEVEL_F < 64 ∨ s.faults.retiredBlocks.contains (die * 128 + block)
      ∨ s.writesOpen die block) := by
    rintro (h | h | h | h | h | h)
    · exact h run
    · omega
    · omega
    · omega
    · exact service (List.contains_iff_mem.1 h)
    · rw [writes] at h; cases h
  show execAudit die block data s = _
  unfold execAudit
  refine (if_neg acts).trans ?_
  dsimp only
  generalize s.grant .audit (die * 128 + block) = p at granted ⊢
  obtain ⟨b, g⟩ := p
  obtain rfl : b = true := granted
  rfl
end

/-- A block's last clean audit. -/
def State.lastClean (s : State) (key : Nat) : Nat := kvGet (fun _ => 0) s.faults.audits key

section
variable {g t : State} {key hard drift : Nat} (w : s.dictOk = true) (h : Granted s g)

theorem State.num_endAudit (t : State) (key : Nat) (clean : Bool) (k : Nat) : (t.endAudit key clean).num k = (t.bump PD.AUDITS_DONE).num k :=
  State.num_of_pd rfl k

theorem State.lastClean_endAudit (t : State) (key : Nat) (clean : Bool) :
    (t.endAudit key clean).lastClean key = if clean then t.num PD.STEP_NUMBER else t.lastClean key := by
  have steps : (t.bump PD.AUDITS_DONE).num PD.STEP_NUMBER = t.num PD.STEP_NUMBER := State.num_bump_ne (by decide)
  unfold State.endAudit State.lastClean
  cases clean
  · rfl
  · rw [steps]; exact kvGet_set_same ..

include w h

/-- What a finished audit counts and notes. -/
theorem Audited.ends (a : Audited g t hard drift) {clean : Bool} (all : clean = decide (hard = 0 ∧ drift = 0)) :
    (t.endAudit key clean).num PD.AUDITS_DONE = (s.num PD.AUDITS_DONE + 1) % 2 ^ 64
    ∧ (t.endAudit key clean).num PD.AUDITS_ABANDONED = s.num PD.AUDITS_ABANDONED
    ∧ (t.endAudit key clean).num PD.AUDIT_MISMATCHES % 2 ^ 64 = (s.num PD.AUDIT_MISMATCHES + hard) % 2 ^ 64
    ∧ (t.endAudit key clean).num PD.AUDIT_DRIFTS % 2 ^ 64 = (s.num PD.AUDIT_DRIFTS + drift) % 2 ^ 64
    ∧ (0 < hard → s.step.attempt = true → bit ((t.endAudit key clean).num PD.STEP_REASONS) 9 = true)
    ∧ (t.endAudit key clean).lastClean key = if hard = 0 ∧ drift = 0 then s.num PD.STEP_NUMBER else s.lastClean key := by
  have steps : t.num PD.STEP_NUMBER = s.num PD.STEP_NUMBER := (a.num _ (by decide)).trans (h.num w (by decide))
  have last : t.lastClean key = s.lastClean key := by unfold State.lastClean; rw [a.audits, h.audits]
  rw [State.num_endAudit, State.num_endAudit, State.num_endAudit, State.num_endAudit, State.num_endAudit, State.lastClean_endAudit, State.num_bump,
    State.num_bump_ne (by decide), State.num_bump_ne (by decide), State.num_bump_ne (by decide), State.num_bump_ne (by decide), steps, last, all]
  refine ⟨?_, ?_, ?_, ?_, fun some_ attempt => a.found some_ (h.step ▸ attempt), ?_⟩
  · rw [a.num _ (by decide), h.num w (by decide)]
  · rw [a.num _ (by decide), h.num w (by decide)]
  · rw [a.mismatches, h.num w (by decide)]
  · rw [a.drifts, h.num w (by decide)]
  · exact if_congr decide_eq_true_iff rfl rfl

/-- What an abandoned audit counts. -/
theorem Granted.abandons : (g.bump PD.AUDITS_ABANDONED).num PD.AUDITS_ABANDONED = (s.num PD.AUDITS_ABANDONED + 1) % 2 ^ 64
    ∧ (g.bump PD.AUDITS_ABANDONED).num PD.AUDITS_DONE = s.num PD.AUDITS_DONE
    ∧ (g.bump PD.AUDITS_ABANDONED).lastClean key = s.lastClean key := by
  refine ⟨?_, (State.num_bump_ne (by decide)).trans (h.num w (by decide)), congrArg (fun l => kvGet (fun _ => 0) l key) h.audits⟩
  rw [State.num_bump, h.num w (by decide)]
end

theorem auditDigital_both {g : State} (w : g.dictOk = true) (mac row : DigitalAudit) :
    Audited g ((g.auditDigital die block { mac with rowEngine := false }).2.auditDigital die block { row with rowEngine := true }).2
      (b2n (mac.own ≠ mac.second) + b2n (row.own ≠ row.second)) 0
    ∧ ((g.auditDigital die block { mac with rowEngine := false }).1
        && ((g.auditDigital die block { mac with rowEngine := false }).2.auditDigital die block { row with rowEngine := true }).1)
      = decide (b2n (mac.own ≠ mac.second) + b2n (row.own ≠ row.second) = 0 ∧ 0 = 0) := by
  obtain ⟨mac_, first⟩ := State.auditDigital_audited w die block { mac with rowEngine := false }
  obtain ⟨row_, second⟩ := State.auditDigital_audited first.dict die block { row with rowEngine := true }
  refine ⟨first.trans second, ?_⟩
  rw [mac_, row_]
  by_cases m : mac.own = mac.second
  · by_cases r : row.own = row.second
    · simp [m, r, b2n]
    · simp [m, r, b2n]
  · simp [m, b2n]
end

/-! ## The Foreman's bound and order (R482) -/

theorem exec_foremanBound {s : State} {a : Activity} {r : Nat} (frozen : s.mode ≠ .frozen) (coast : s.mode ≠ .coast) (bank : ¬ (a = .calibration ∧ r = 8))
    (slots : needsSlots a r = true → s.num PD.LEVEL_F = 64) : exec (.foremanBound a r) s
      = .next { s with faults := { s.faults with queue := s.faults.queue.map fun x => if x.activity = a ∧ x.resource = r then { x with bound := true } else x } } := by
  refine if_neg ?_
  rintro (h | h | h | ⟨needs, low⟩)
  · exact frozen h
  · exact coast h
  · exact bank h
  · rw [slots needs] at low
    exact absurd low (by decide)

theorem Request.before_bound {x y : Request} (hx : x.bound = true) (hy : y.bound = false) : x.before y = true ∧ y.before x = false := by
  simp [Request.before, hx, hy]

theorem Request.before_unbound {x y : Request} (hx : x.bound = false) (hy : y.bound = false) :
    x.before y = true ↔ activityNum x.activity ≤ activityNum y.activity := by
  simp [Request.before, hx, hy]

/-! ## Export of the spall ring (R487) -/

/-- The next record written to its flash slot. -/
def State.spallToFlash (g : State) (seq : Nat) (rec : List Byte) : State :=
  let s := g.write stFlash (0x38000000 + 512 * (seq % 32768)) (padTo 512 rec)
  ({ s with faults := { s.faults with toFlash := seq, flashSeq := max s.faults.flashSeq seq } } : State).setNum PD.SPALL_FLASH_NEXT ((seq + 1) % 32768)

/-- The next record written to its place in the host's region. -/
def State.spallToHost (g : State) (region seq : Nat) (rec : List Byte) : State :=
  { g.emit (.hostWrite region (g.spallOffset seq) (padTo 512 rec)) with faults := { g.faults with toHost := seq } }

/-- The next record sent to the collector. -/
def State.spallToCollector (g : State) (to_ : Addr) (seq : Nat) (rec : List Byte) : State :=
  { g.send 5 to_ rec with faults := { g.faults with toCollector := seq } }

section
variable {s : State} {seq : Nat} {rec : List Byte} (maintains : s.mode.maintains = true)
include maintains

theorem exec_spallExport_flash (next : s.nextRecord s.faults.toFlash = some (seq, rec)) (on : s.flag PD.SPALL_FLASH_EN = true)
    (granted : (s.grant .spallExport 0).1 = true) : exec (.spallExport .flash) s = .next ((s.grant .spallExport 0).2.spallToFlash seq rec) := by
  show execSpallExport .flash s = _
  unfold execSpallExport
  dsimp only
  rw [next]
  refine (if_neg (by rw [on, maintains]; decide)).trans ?_
  generalize s.grant .spallExport 0 = p at granted ⊢
  obtain ⟨b, g⟩ := p
  obtain rfl : b = true := granted
  rfl

theorem exec_spallExport_host (next : s.nextRecord s.faults.toHost = some (seq, rec)) (on : 0 < s.regionSize (s.num PD.SPALL_HOST_REGION))
    (granted : (s.grant .spallExport 1).1 = true) : exec (.spallExport .host) s
      = if (s.grant .spallExport 1).2.hostReachable (s.num PD.SPALL_HOST_REGION)
        then .next ((s.grant .spallExport 1).2.spallToHost (s.num PD.SPALL_HOST_REGION) seq rec)
        else .next ((s.grant .spallExport 1).2.bump PD.HOST_DMA_ERR) := by
  show execSpallExport .host s = _
  unfold execSpallExport
  dsimp only
  rw [next]
  refine (if_neg (by rw [decide_eq_true on, maintains]; decide)).trans ?_
  generalize s.grant .spallExport 1 = p at granted ⊢
  obtain ⟨b, g⟩ := p
  obtain rfl : b = true := granted
  rfl

theorem exec_spallExport_collector {to_ : Addr} (next : s.nextRecord s.faults.toCollector = some (seq, rec)) (on : s.collector = some to_)
    (same : (s.grant .spallExport 2).2.collector = some to_)
    (granted : (s.grant .spallExport 2).1 = true) : exec (.spallExport .collector) s = .next ((s.grant .spallExport 2).2.spallToCollector to_ seq rec) := by
  show execSpallExport .collector s = _
  unfold execSpallExport
  dsimp only
  rw [next]
  refine (if_neg (by rw [on, maintains, Option.isSome_some]; decide)).trans ?_
  generalize s.grant .spallExport 2 = p at granted same ⊢
  obtain ⟨b, g⟩ := p
  obtain rfl : b = true := granted
  dsimp only at same ⊢
  rw [same]
  rfl
end

section
variable {s g : State} (w : s.dictOk = true) (h : Granted s g)
include w h

theorem Granted.regionSize (r : Nat) : g.regionSize r = s.regionSize r := by unfold State.regionSize; rw [h.rows w (by decide)]

theorem Granted.hostReachable (r : Nat) : g.hostReachable r = s.hostReachable r := by
  have ep : g.regionEp r = s.regionEp r := by unfold State.regionEp; rw [h.rows w (by decide)]
  have eps : g.ep (s.regionEp r) = s.ep (s.regionEp r) := State.ep_of_parts (h.run.part .ep0 rfl) (h.run.part .ep1 rfl) _
  unfold State.hostReachable
  rw [h.regionSize w, ep, eps]

theorem Granted.collector : g.collector = s.collector := by unfold State.collector; rw [h.num w (by decide)]

theorem Granted.spallOffset (seq : Nat) (room : 512 ≤ s.regionSize (s.num PD.SPALL_HOST_REGION)) :
    g.spallOffset seq = 512 * (seq % (s.regionSize (s.num PD.SPALL_HOST_REGION) / 512)) := by
  unfold State.spallOffset
  rw [h.num w (by decide), h.regionSize w, Nat.max_eq_right ((Nat.le_div_iff_mul_le (by decide)).2 (by omega))]
end

section
variable (g : State) (seq : Nat) (rec : List Byte)

theorem State.read_spallToFlash : (g.spallToFlash seq rec).read stFlash (0x38000000 + 512 * (seq % 32768)) 512 = padTo 512 rec := by
  have whole := State.read_write (s := g) (st := stFlash) (a := 0x38000000 + 512 * (seq % 32768)) (bs := padTo 512 rec)
  rw [length_padTo] at whole
  exact (State.read_of_mem rfl _ _ _).trans whole
end

/-! ## A record received (R487) -/

section
variable (s : State) (bytes : List Byte)

/-- The record at the end of the ring. -/
def State.ringed : State :=
  let s := s.takeMessage 5 bytes
  { s with faults := { s.faults with ring := pushLast 4096 s.faults.ring (0, bytes) } }

/-- An uncollected record is overwritten. -/
def State.overwrites : Bool := decide (4096 ≤ s.faults.ring.length) && decide (s.num PD.SPALL_ACK < (s.faults.ring.head?.map (·.1)).getD 0)

/-- A received record in the ring, and the count of one it overwrites. -/
def State.received : State := ((if s.overwrites then (s.ringed bytes).bump PD.SPALL_LOST else s.ringed bytes).cause irqSpall)

theorem exec_spallReceived (runs : s.mode.hubRuns = true) : exec (.spallReceived bytes) s = .next (s.received bytes) := if_neg (by rw [runs]; decide)

theorem State.ringed_ring : (s.ringed bytes).faults.ring = pushLast 4096 s.faults.ring (0, bytes) := by
  have taken : (s.takeMessage 5 bytes).faults = s.faults := rfl
  unfold State.ringed
  dsimp only
  rw [taken]
theorem State.num_ringed (k : Nat) : (s.ringed bytes).num k = s.num k := State.num_of_pd rfl k

theorem State.received_ring : (s.received bytes).faults.ring = pushLast 4096 s.faults.ring (0, bytes) := by
  unfold State.received
  rw [State.cause_faults]
  split
  · exact s.ringed_ring bytes
  · exact s.ringed_ring bytes

theorem State.num_received_newest : (s.received bytes).num PD.SPALL_NEWEST = s.num PD.SPALL_NEWEST := by
  unfold State.received
  rw [State.num_cause]
  split
  · exact (State.num_bump_ne (by decide)).trans (s.num_ringed bytes _)
  · exact s.num_ringed bytes _

theorem State.num_received_lost : (s.received bytes).num PD.SPALL_LOST
    = if s.overwrites then (s.num PD.SPALL_LOST + 1) % 2 ^ 64 else s.num PD.SPALL_LOST := by
  unfold State.received
  rw [State.num_cause]
  split
  · rw [State.num_bump, s.num_ringed]
  · exact s.num_ringed bytes _

variable {s}

/-- A ring with room takes the record at its end. -/
theorem State.received_room (room : s.faults.ring.length < 4096) : (s.received bytes).faults.ring = s.faults.ring ++ [(0, bytes)]
    ∧ (s.received bytes).num PD.SPALL_LOST = s.num PD.SPALL_LOST := by
  refine ⟨(s.received_ring bytes).trans ?_, (s.num_received_lost bytes).trans (if_neg ?_)⟩
  · unfold pushLast
    rw [Nat.sub_eq_zero_of_le (by omega), List.drop_zero]
  · unfold State.overwrites
    rw [decide_eq_false (Nat.not_le.2 room), Bool.false_and]
    decide

/-- A full ring loses its first record. -/
theorem State.received_full {old : Nat × List Byte} {rest : List (Nat × List Byte)} (ring : s.faults.ring = old :: rest) (full : s.faults.ring.length = 4096) :
    (s.received bytes).faults.ring = rest ++ [(0, bytes)]
    ∧ (s.received bytes).num PD.SPALL_LOST = if s.num PD.SPALL_ACK < old.1 then (s.num PD.SPALL_LOST + 1) % 2 ^ 64 else s.num PD.SPALL_LOST := by
  refine ⟨(s.received_ring bytes).trans ?_, (s.num_received_lost bytes).trans (if_congr ?_ rfl rfl)⟩
  · unfold pushLast
    rw [full, ring]
    rfl
  · unfold State.overwrites
    rw [decide_eq_true (Nat.le_of_eq full.symm), ring]
    exact decide_eq_true_iff
end

end Sys2Proof.Machine

open Sys2Proof Sys2Proof.Machine

/-- Settles O54: an audit by what its units count, over what its grant leaves; the queue by the request's arrival; each way out of a record by what its grant lets it
write or send. -/
theorem auditsGrantsAndSpallExportsRun : Obligations.AuditsGrantsAndSpallExportsRun := by
  unfold Obligations.AuditsGrantsAndSpallExportsRun
  refine ⟨fun s die block w run hd hb slots service writes granted => ?_, fun s u w => State.num_repeatResult w u, fun s a r => ⟨?_, State.grant_alone⟩,
    fun s a r frozen coast bank slots => ⟨_, exec_foremanBound frozen coast bank slots, List.length_map _, fun n x at_ => ?_⟩,
    fun x y => ⟨Request.before_bound, Request.before_unbound⟩, fun s seq rec w maintains => ⟨?_, ?_, ?_⟩, fun s bytes w runs => ?_⟩
  · have h := s.granted .audit (die * 128 + block)
    have step : (s.grant .audit (die * 128 + block)).2.step = s.step := h.step
    have audits := exec_audit_granted run hd hb slots service writes granted
    refine ⟨fun data stops => ⟨_, ?_, h.abandons w⟩, fun open_ low cells some_ => ?_, fun open_ high mac row => ?_⟩
    · refine (audits data).trans ?_
      rw [step]
      rcases stops with rfl | formed
      · exact ite_self _
      · exact if_pos formed
    · refine ⟨_, (audits _).trans ((if_neg (by rw [step, open_]; decide)).trans (if_neg ?_)), ?_⟩
      · rw [h.retiredCells]
        rintro (digital | none_)
        · omega
        · exact some_ (List.isEmpty_iff.1 none_)
      · have w' := h.run.dict w
        obtain ⟨clean, audited⟩ := auditCells die block (cells.filter fun a => decide (a.cell < 16)
          && !(s.grant .audit (die * 128 + block)).2.faults.retiredCells.contains (die * 2048 + block * 16 + a.cell)) true w'
        have factor : (s.grant .audit (die * 128 + block)).2.fv PD.AUDIT_RMS_FACTOR = s.fv PD.AUDIT_RMS_FACTOR := congrArg fp32.decode (h.num w (by decide))
        rw [factor] at clean audited
        have ends := audited.ends (key := die * 128 + block) w h (clean.trans (Bool.true_and _))
        rw [h.retiredCells] at ends ⊢
        exact ends
    · obtain ⟨audited, clean⟩ := auditDigital_both (die := die) (block := block) (h.run.dict w) mac row
      exact ⟨_, (audits _).trans ((if_neg (by rw [step, open_]; decide)).trans (if_neg (Nat.not_lt.2 high))), audited.ends w h clean⟩
  · rintro ⟨x, hx, conflict⟩
    rw [State.grant_conflict hx conflict]
    exact ⟨rfl, s.request_queued a r⟩
  · rw [List.getElem?_map, at_]
    rfl
  · intro next on granted size
    refine ⟨_, exec_spallExport_flash maintains next on granted, State.read_spallToFlash _ seq rec, rfl, State.num_setNum⟩
  · intro next room granted
    have h := s.granted .spallExport 1
    have sends := exec_spallExport_host maintains next (Nat.lt_of_lt_of_le (by decide) room) granted
    rw [h.hostReachable w] at sends
    refine ⟨fun reach => ⟨_, sends.trans (if_pos reach), rfl, ?_⟩, fun lost => ⟨_, sends.trans (if_neg (by rw [lost]; decide)), ?_, h.outs⟩⟩
    · rw [← h.spallOffset w seq room, ← h.outs]
      rfl
    · rw [State.num_bump, h.num w (by decide)]
  · intro next granted to_ on
    have h := s.granted .spallExport 2
    exact ⟨_, exec_spallExport_collector maintains next on ((h.collector w).trans on) granted, rfl, rfl, rfl⟩
  · exact ⟨_, exec_spallReceived s bytes runs, s.num_received_newest bytes, State.received_room bytes, fun old rest => State.received_full bytes⟩
end

section
/-! Proofs of the staging of a firmware package (R502-R510, R514): begin and abandon, pieces and headers, flash operations, verification, and the
statement FirmwareIsStagedProgrammedAndVerified. -/
namespace Sys2Proof.Machine

/-! ## Failures and refusals (R509, R510) -/

section
variable (s : State) (code part : Nat)

@[simp] theorem State.fwSpall_fw (event : Nat) : (s.fwSpall event code part).fw = s.fw := (s.run_fwSpall event code part).part .fw rfl
@[simp] theorem State.fwSpall_mode (event : Nat) : (s.fwSpall event code part).mode = s.mode := (s.run_fwSpall event code part).part .mode rfl
@[simp] theorem State.fwSpall_events (event : Nat) : (s.fwSpall event code part).events = s.events := (s.run_fwSpall event code part).part .events rfl

theorem State.num_fwSpall {s : State} (w : s.dictOk = true) (event code part : Nat) {k : Nat} (h : k ∉ [0xA10001, 0xA10006]) :
    (s.fwSpall event code part).num k = s.num k := (s.run_fwSpall event code part).num_eq w rfl h

/-- Staging has FAILED; nothing is buffered. -/
def State.fwFailed : State := { s.setNum PD.FW_STAGE_STATE 4 with fw := { s.fw with buffer := [] } }

theorem State.fwFail_eq : s.fwFail code part = (s.fwFailed.fwSpall 0 code part).fwResult code := rfl

theorem State.fwFail_fw : (s.fwFail code part).fw = { s.fw with buffer := [] } := by
  rw [s.fwFail_eq, State.fwResult_fw, State.fwSpall_fw]
  rfl

theorem State.fwFail_mode : (s.fwFail code part).mode = s.mode := by
  rw [s.fwFail_eq, State.fwResult_mode, State.fwSpall_mode]
  rfl

variable {s} (w : s.dictOk = true)
include w

theorem State.num_fwFail_ne {k : Nat} (h : k ∉ [0xA10001, 0xA10006, PD.FW_STAGE_STATE, PD.FW_RESULT]) : (s.fwFail code part).num k = s.num k := by
  simp only [List.mem_cons, not_or] at h
  obtain ⟨newest, lost, state, result, _⟩ := h
  rw [s.fwFail_eq, State.num_fwResult_ne result, State.num_fwSpall (s := s.fwFailed) (State.dictOk_setNum w)]
  · exact State.num_setNum_ne state
  · simp only [List.mem_cons, not_or]
    exact ⟨newest, lost, List.not_mem_nil⟩

/-- What a failure shows. -/
theorem State.fwFail_shows : (s.fwFail code part).num PD.FW_STAGE_STATE = 4 ∧ (s.fwFail code part).num PD.FW_RESULT = code
    ∧ (s.fwFail code part).fw.buffer = [] ∧ (s.fwFail code part).mode = s.mode := by
  refine ⟨?_, State.num_fwResult, by rw [s.fwFail_fw], s.fwFail_mode code part⟩
  rw [s.fwFail_eq, State.num_fwResult_ne (by decide), State.num_fwSpall (s := s.fwFailed) (State.dictOk_setNum w) _ _ _ (by decide)]
  exact State.num_setNum

omit w in
/-- What a refusal shows. -/
theorem State.fwRefuse_shows : (s.fwRefuse code).num PD.FW_STAGE_STATE = s.num PD.FW_STAGE_STATE ∧ (s.fwRefuse code).num PD.FW_RESULT = code
    ∧ (s.fwRefuse code).fw = s.fw ∧ (s.fwRefuse code).mode = s.mode :=
  ⟨State.num_fwResult_ne (by decide), State.num_fwResult, State.fwResult_fw, State.fwResult_mode⟩
end

theorem Mode.stages_iff {m : Mode} : m.stages = true ↔ m = .loader ∨ m = .held ∨ m = .armed ∨ m = .run ∨ m = .drain := by cases m <;> decide

/-! ## Begin and abandon (R507, R508) -/

section
variable (s : State)

/-- No activation is queued or due. -/
def State.inactive : State := { s.dropEvents fun k => decide (k = .firmware) with fw := { s.fw with due := false, dueCommit := false } }

theorem State.fwCancel_eq : s.fwCancel
    = if !(s.events.any fun e => e.kind = .firmware) && !s.fw.due then s else (s.inactive.fwSpall 2 10 0).fwResult 10 := rfl

/-- A cancelled activation is neither due nor queued. -/
theorem State.fwCancel_clears : s.fwCancel.fw.due = false ∧ (∀ e, e ∈ s.fwCancel.events → e.kind ≠ .firmware) ∧ s.fwCancel.mode = s.mode := by
  rw [s.fwCancel_eq]
  split
  next none_ =>
    rw [Bool.and_eq_true, Bool.not_eq_true', Bool.not_eq_true'] at none_
    obtain ⟨queued, due⟩ := none_
    refine ⟨due, fun e he kind => ?_, rfl⟩
    rw [List.any_eq_true.2 ⟨e, he, decide_eq_true kind⟩] at queued
    cases queued
  next =>
    rw [State.fwResult_fw, State.fwSpall_fw, State.fwResult_events, State.fwSpall_events, State.fwResult_mode, State.fwSpall_mode]
    refine ⟨rfl, fun e he kind => ?_, rfl⟩
    have kept : (!decide (e.kind = .firmware)) = true := (List.mem_filter.1 he).2
    rw [kind] at kept
    cases kept

/-- Receiving starts afresh. -/
def State.receiving : State :=
  let t := (((s.setNum PD.FW_RECEIVED 0).setNum PD.FW_STAGE_STATE 1).setNum PD.FW_RESULT fwPending).setBytes PD.FW_STAGED_DIGEST (zeros 48)
  { t with fw := { t.fw with buffer := [], programmed := 0, erased := 0, flashed := false, images := [], nextHeader := 0, rollback := 0 } }

theorem State.num_receiving (k : Nat) : s.receiving.num k
    = ((((s.setNum PD.FW_RECEIVED 0).setNum PD.FW_STAGE_STATE 1).setNum PD.FW_RESULT fwPending).setBytes PD.FW_STAGED_DIGEST (zeros 48)).num k :=
  State.num_of_pd rfl k

theorem State.receiving_parts : s.receiving.fw.buffer = [] ∧ s.receiving.fw.images = [] ∧ s.receiving.fw.due = s.fw.due ∧ s.receiving.events = s.events
    ∧ s.receiving.mode = s.mode := ⟨rfl, rfl, rfl, rfl, rfl⟩

theorem State.receiving_shows : s.receiving.num PD.FW_RECEIVED = 0 ∧ s.receiving.num PD.FW_STAGE_STATE = 1 ∧ s.receiving.num PD.FW_RESULT = 1 := by
  rw [s.num_receiving, s.num_receiving, s.num_receiving, State.num_setBytes_ne (by decide), State.num_setBytes_ne (by decide),
    State.num_setBytes_ne (by decide)]
  refine ⟨?_, ?_, State.num_setNum⟩
  · rw [State.num_setNum_ne (by decide), State.num_setNum_ne (by decide), State.num_setNum]
  · rw [State.num_setNum_ne (by decide), State.num_setNum]

variable {s}

theorem State.fwBegin_elsewhere (h : s.mode.stages = false) : s.fwBegin = s.fwRefuse 9 := if_pos (by rw [h]; rfl)

section
variable (h : s.mode.stages = true)
include h

theorem State.fwBegin_length (bad : s.num PD.FW_PACKAGE_LENGTH < 1024 ∨ 532676608 < s.num PD.FW_PACKAGE_LENGTH) : s.fwBegin = s.fwRefuse 7 :=
  (if_neg (by rw [h]; decide)).trans (if_pos bad)

theorem State.fwBegin_starts (lo : 1024 ≤ s.num PD.FW_PACKAGE_LENGTH) (hi : s.num PD.FW_PACKAGE_LENGTH ≤ 532676608) : s.fwBegin = s.fwCancel.receiving :=
  (if_neg (by rw [h]; decide)).trans (if_neg (by omega))
end

/-- The result code of an abandonment. -/
def State.abandonCode (s : State) : Nat := Config.fnNat 13 [b2n s.fw.flashed] s.free % 12

theorem State.fwAbandon_refused (h : s.mode.stages = false ∨ s.num PD.FW_STAGE_STATE ≠ 1) : s.fwAbandon = s.fwRefuse 9 :=
  if_pos (h.imp_left fun off => by rw [off]; rfl)

theorem State.fwAbandon_receiving (h : s.mode.stages = true) (state : s.num PD.FW_STAGE_STATE = 1) : s.fwAbandon
    = if s.fw.flashed then s.fresh.2.fwFail s.abandonCode 0
      else ({ s.fresh.2.setNum PD.FW_STAGE_STATE 0 with fw := { s.fresh.2.fw with buffer := [] } } : State).fwResult s.abandonCode :=
  if_neg (by rw [h, state]; decide)
end

/-! ## A piece (R507-R509) -/

section
variable {s : State} {b : List Byte}

/-- A piece that is well formed, in its place and has room. -/
def State.takesPiece (s : State) (b : List Byte) : Prop :=
  b.length = 1032 ∧ s.mode.stages = true ∧ s.num PD.FW_STAGE_STATE = 1 ∧ fieldAt b 4 2 ≠ 0 ∧ fieldAt b 4 2 ≤ 1024 ∧ fieldAt b 6 2 = 0
    ∧ allZero (b.drop (8 + fieldAt b 4 2)) = true ∧ fieldAt b 0 4 = s.num PD.FW_RECEIVED ∧ s.fw.buffer.length + fieldAt b 4 2 ≤ 0x400000
    ∧ s.num PD.FW_RECEIVED + fieldAt b 4 2 ≤ s.num PD.FW_PACKAGE_LENGTH

/-- The piece's bytes taken. -/
def State.withPiece (s : State) (b : List Byte) : State :=
  { s.setNum PD.FW_RECEIVED (s.num PD.FW_RECEIVED + fieldAt b 4 2) with fw := { s.fw with buffer := s.fw.buffer ++ sub b 8 (fieldAt b 4 2) } }

theorem State.fwPiece_discarded (h : ¬ s.takesPiece b) : s.fwPiece b = s.bump PD.FW_PIECES_DISCARDED := by
  refine if_pos ?_
  by_contra clear
  simp only [not_or, not_not, not_lt, Bool.not_eq_true'] at clear
  simp only [Bool.not_eq_false] at clear
  exact h clear

theorem State.fwPiece_taken (h : s.takesPiece b) : s.fwPiece b = (s.withPiece b).passHeaders 4 := by
  refine if_neg ?_
  obtain ⟨size, stages, state, some_, most, zero, rest, place, room, within⟩ := h
  simp only [not_or, not_not, not_lt, Bool.not_eq_true']
  simp only [Bool.not_eq_false]
  exact ⟨size, stages, state, some_, most, zero, rest, place, room, within⟩
end

/-! ## Headers (R509) -/

section
variable {t : State}

/-- The verdict of the header that comes next. -/
def State.nextCheck (t : State) : Nat × Option (ImageHead × ImageRec) :=
  t.checkHead (t.stagedBytes t.fw.nextHeader 512) t.fw.images t.fw.nextHeader (t.num PD.FW_PACKAGE_LENGTH) (t.stagedEntry (t.fw.images.length - 1)) t.fw.rollback

/-- A header that passed: its image, and the next header past its body. -/
def State.withImage (t : State) (i : ImageHead) (r : ImageRec) : State :=
  { t with fw := { t.fw with images := t.fw.images ++ [r], nextHeader := t.fw.nextHeader + r.length
                             rollback := if t.fw.images.isEmpty then i.rollback else t.fw.rollback } }

/-- A header that failed ends what is accepted. -/
def State.badHeader (t : State) (code : Nat) : State :=
  (t.setNum PD.FW_RECEIVED (t.fw.nextHeader + 512)).fwFail code (((parseHead (t.stagedBytes t.fw.nextHeader 512)).map (·.part)).getD 0)

/-- Bytes that end before the next header's end pass nothing. -/
theorem State.passHeaders_short {fuel : Nat} (short : t.num PD.FW_RECEIVED < t.fw.nextHeader + 512) : t.passHeaders fuel = t := by
  cases fuel with
  | zero => rfl
  | succ n => exact if_pos (.inr short)

section
variable {fuel : Nat} (state : t.num PD.FW_STAGE_STATE = 1) (whole : t.fw.nextHeader + 512 ≤ t.num PD.FW_RECEIVED)
include state whole

theorem State.passHeaders_bad {code : Nat} (check : t.nextCheck = (code, none)) : t.passHeaders (fuel + 1) = t.badHeader code := by
  unfold State.nextCheck at check
  rw [State.passHeaders]
  refine (if_neg (by omega)).trans ?_
  dsimp only
  rw [check]
  rfl

theorem State.passHeaders_good {code : Nat} {i : ImageHead} {r : ImageRec} (check : t.nextCheck = (code, some (i, r))) :
    t.passHeaders (fuel + 1) = (t.withImage i r).passHeaders fuel := by
  unfold State.nextCheck at check
  rw [State.passHeaders]
  refine (if_neg (by omega)).trans ?_
  dsimp only
  rw [check]
  rfl
end
end

section
variable (s : State) {h : List Byte} {seen : List ImageRec} {o len : Nat} {entry : Option ImageRec} {rb : Nat} {i : ImageHead}

/-- The record of a header at an offset. -/
def ImageHead.record (i : ImageHead) (o : Nat) : ImageRec := ⟨i.part, i.version, o, 512 + i.bodyLength, i.digest⟩

/-- A header whose place and manifest entry agree is left to its signatures and its rollback. -/
theorem State.checkHead_placed (parsed : parseHead h = some i) (fresh : ∀ x, x ∈ seen → x.part ≠ i.part) (first : seen = [] → i.part = 1)
    (fits : o + 512 + i.bodyLength ≤ len) (listed : seen ≠ [] → entry = some (i.record o)) : s.checkHead h seen o len entry rb
      = if !s.sigsOk h i then (3, none)
        else if i.rollback < s.num PD.FW_ROLLBACK_MIN ∨ (!seen.isEmpty ∧ i.rollback ≠ rb) then (4, none) else (0, some (i, i.record o)) := by
  unfold State.checkHead
  rw [parsed]
  refine (if_neg ?_).trans ((if_neg ?_).trans ((if_neg ?_).trans rfl))
  · rintro twice
    obtain ⟨x, hx, same⟩ := List.any_eq_true.1 twice
    exact fresh x hx (of_decide_eq_true same)
  · rintro (⟨none_, part⟩ | long)
    · exact part (first (List.isEmpty_iff.1 none_))
    · omega
  · rintro ⟨some_, other⟩
    exact other (listed (by simpa using some_))
end

section
variable {s : State} {b : List Byte}

theorem State.num_withPiece (k : Nat) : (s.withPiece b).num k = (s.setNum PD.FW_RECEIVED (s.num PD.FW_RECEIVED + fieldAt b 4 2)).num k := State.num_of_pd rfl k

theorem State.num_withPiece_received : (s.withPiece b).num PD.FW_RECEIVED = s.num PD.FW_RECEIVED + fieldAt b 4 2 :=
  (State.num_withPiece _).trans State.num_setNum

theorem State.num_withPiece_ne {k : Nat} (ne : k ≠ PD.FW_RECEIVED) : (s.withPiece b).num k = s.num k := (State.num_withPiece _).trans (State.num_setNum_ne ne)

theorem State.nextCheck_withPiece : (s.withPiece b).nextCheck = (s.withPiece b).checkHead ((s.withPiece b).stagedBytes s.fw.nextHeader 512) s.fw.images s.fw.nextHeader
    (s.num PD.FW_PACKAGE_LENGTH) ((s.withPiece b).stagedEntry (s.fw.images.length - 1)) s.fw.rollback := by
  unfold State.nextCheck
  rw [State.num_withPiece_ne (by decide)]
  rfl

theorem State.num_withImage (t : State) (i : ImageHead) (r : ImageRec) (k : Nat) : (t.withImage i r).num k = t.num k := State.num_of_pd rfl k

/-- What a failing header shows. -/
theorem State.badHeader_shows {t : State} (w : t.dictOk = true) (code : Nat) : (t.badHeader code).num PD.FW_STAGE_STATE = 4
    ∧ (t.badHeader code).num PD.FW_RESULT = code ∧ (t.badHeader code).fw.buffer = [] ∧ (t.badHeader code).mode = t.mode
    ∧ (t.badHeader code).num PD.FW_RECEIVED = t.fw.nextHeader + 512 := by
  have w' : (t.setNum PD.FW_RECEIVED (t.fw.nextHeader + 512)).dictOk = true := State.dictOk_setNum w
  obtain ⟨state, result, buffer, mode⟩ := State.fwFail_shows code (((parseHead (t.stagedBytes t.fw.nextHeader 512)).map (·.part)).getD 0) w'
  exact ⟨state, result, buffer, mode, (State.num_fwFail_ne _ _ w' (by decide)).trans State.num_setNum⟩
end

/-! ## Flash operations (R510) -/

/-- Entries that a filter drops read as if never written. -/
theorem kvGet_filter_out {α : Type} (d : Nat → α) (p : Nat × α → Bool) (k : Nat) (out : ∀ v, p (k, v) = false) :
    ∀ m : List (Nat × α), kvGet d (m.filter p) k = d k
  | [] => rfl
  | (j, v) :: m => by
    by_cases kept : p (j, v) = true
    · have ne : j ≠ k := fun e => by rw [e, out v] at kept; cases kept
      rw [List.filter_cons_of_pos kept]
      exact (if_neg ne).trans (kvGet_filter_out d p k out m)
    · rw [List.filter_cons_of_neg kept]
      exact kvGet_filter_out d p k out m

section
variable (g : State)

/-- The valid marker cleared before the first flash operation. -/
def State.flashing : State := { g with fw := { g.fw with valid := false, flashed := true, package := [] } }

/-- Whether a flash operation has something to do. -/
def State.flashReady : Bool :=
  decide (256 ≤ g.fw.buffer.length) || (g.num PD.FW_RECEIVED = g.num PD.FW_PACKAGE_LENGTH && !g.fw.buffer.isEmpty)

theorem State.flashReady_iff : g.flashReady = true ↔ 256 ≤ g.fw.buffer.length ∨ (g.num PD.FW_RECEIVED = g.num PD.FW_PACKAGE_LENGTH ∧ g.fw.buffer ≠ []) := by
  simp [State.flashReady]

theorem Mode.stages_maintains {m : Mode} (h : m.stages = true) : (m.maintains || decide (m = .loader)) = true := by revert h; cases m <;> decide

theorem exec_firmwareStagingGrant {s : State} (state : s.num PD.FW_STAGE_STATE = 1) (stages : s.mode.stages = true) (ready : s.flashReady = true)
    (granted : (s.grant .firmwareStaging 0).1 = true) (ok : Bool) : exec (.firmwareStagingGrant ok) s
      = if ok then .next (s.grant .firmwareStaging 0).2.flashing.fwOperate else .next ((s.grant .firmwareStaging 0).2.flashing.fwFail 8 0) := by
  show execFirmwareStagingGrant ok s = _
  unfold execFirmwareStagingGrant
  refine (if_neg ?_).trans ?_
  · rintro (h | h | h)
    · exact h state
    · exact absurd (show (!s.flashReady) = true from h) (by rw [ready]; decide)
    · rw [Mode.stages_maintains stages] at h; cases h
  · generalize s.grant .firmwareStaging 0 = p at granted ⊢
    obtain ⟨b, g⟩ := p
    obtain rfl : b = true := granted
    rfl

/-- A sector erased. -/
def State.eraseSector : State :=
  { g with mem := g.mem.filter (fun c => !(decide (memKey stFlash (packageBase + g.fw.erased) ≤ c.1 ∧ c.1 < memKey stFlash (packageBase + g.fw.erased) + 65536)))
           fw := { g.fw with erased := g.fw.erased + 65536 } }

/-- A page programmed. -/
def State.programPage : State :=
  { g.write stFlash (packageBase + g.fw.programmed) (g.fw.buffer.take 256) with
    fw := { g.fw with programmed := g.fw.programmed + (g.fw.buffer.take 256).length, buffer := g.fw.buffer.drop 256 } }

theorem State.fwOperate_erase (h : g.fw.erased ≤ g.fw.programmed) : g.fwOperate = g.eraseSector := if_pos h
theorem State.fwOperate_program (h : g.fw.programmed < g.fw.erased) : g.fwOperate = g.programPage := if_neg (Nat.not_le.2 h)

theorem State.readByte_eraseSector {o : Nat} (lo : g.fw.erased ≤ o) (hi : o < g.fw.erased + 65536) (store : o + packageBase < 2 ^ 48) :
    g.eraseSector.readByte stFlash (packageBase + o) = 0xFF := by
  refine (kvGet_filter_out memDefault _ _ (fun v => ?_) g.mem).trans ?_
  · have within : memKey stFlash (packageBase + g.fw.erased) ≤ memKey stFlash (packageBase + o)
        ∧ memKey stFlash (packageBase + o) < memKey stFlash (packageBase + g.fw.erased) + 65536 := by
      unfold memKey
      omega
    exact congrArg not (decide_eq_true within)
  · have flash : memKey stFlash (packageBase + o) / 2 ^ 48 = stFlash := by
      unfold memKey stFlash
      omega
    exact if_pos flash

theorem State.read_programPage : g.programPage.read stFlash (packageBase + g.fw.programmed) (min 256 g.fw.buffer.length) = g.fw.buffer.take 256 := by
  have whole := State.read_write (s := g) (st := stFlash) (a := packageBase + g.fw.programmed) (bs := g.fw.buffer.take 256)
  rw [List.length_take] at whole
  exact (State.read_of_mem rfl _ _ _).trans whole
end

/-! ## Verification (R510, R514) -/

section
variable (s : State)

/-- The manifest's head says that it lists six parts. -/
def State.manifestHead : Bool :=
  fieldAt (s.read stFlash (packageBase + 512) 64) 0 2 = 6 && allZero (sub (s.read stFlash (packageBase + 512) 64) 2 6)
    && allZero (sub (s.read stFlash (packageBase + 512) 64) 12 52)

/-- The first image that the manifest does not list as it came. -/
def State.unlisted : Option (ImageRec × Nat) := s.fw.images.tail.zipIdx.find? fun r => s.stagedEntry r.2 ≠ some r.1

/-- The package is VERIFIED. -/
def State.verified : State :=
  let t : State := { s with fw := { s.fw with valid := true, package := s.fw.images, packageRollback := s.fw.rollback } }
  ((t.setNum PD.FW_STAGE_STATE 2).setBytes PD.FW_STAGED_DIGEST ((s.fw.images.head?.map (·.digest)).getD [])).fwResult 0

/-- The state after a package verified in LOADER starts BOOT, or elsewhere. -/
def State.afterVerified : State := if s.verified.mode = .loader then s.verified.bootFromLoader else s.verified

theorem State.unlisted_none_iff : s.unlisted = none ↔ ∀ k r, s.fw.images.tail[k]? = some r → s.stagedEntry k = some r := by
  unfold State.unlisted
  rw [List.find?_eq_none]
  refine ⟨fun h k r at_ => ?_, fun h x hx => ?_⟩
  · have listed := h (r, k) (List.mem_zipIdx_iff_getElem?.2 at_)
    simpa using listed
  · have at_ := h x.2 x.1 (List.mem_zipIdx_iff_getElem?.1 hx)
    simpa using at_

section
variable {s} (state : s.num PD.FW_STAGE_STATE = 1) (received : s.num PD.FW_RECEIVED = s.num PD.FW_PACKAGE_LENGTH)
  (programmed : s.fw.programmed = s.num PD.FW_PACKAGE_LENGTH) (runs : s.mode.hubRuns = true)
include state received programmed runs

theorem verification_acts : ¬ (s.num PD.FW_STAGE_STATE ≠ 1 ∨ s.num PD.FW_RECEIVED ≠ s.num PD.FW_PACKAGE_LENGTH ∨ s.fw.programmed ≠ s.num PD.FW_PACKAGE_LENGTH
    ∨ !s.mode.hubRuns) := by
  rintro (h | h | h | h)
  · exact h state
  · exact h received
  · exact h programmed
  · rw [runs] at h; cases h

theorem exec_stagingVerified : exec .stagingVerified s = match s.fw.images.find? fun r => !s.bodyOk r with
    | some r => .next (s.fwFail 5 r.part)
    | none => if s.unlisted.isSome ∨ !s.manifestHead ∨ s.fw.images.length ≠ 7 ∨ s.fw.nextHeader ≠ s.num PD.FW_PACKAGE_LENGTH
        then .next (s.fwFail 6 ((s.unlisted.map (·.1.part)).getD 0))
        else .next s.afterVerified := by
  refine (if_neg (verification_acts state received programmed runs)).trans ?_
  cases bad : s.fw.images.find? fun r => !s.bodyOk r with
  | some r => rfl
  | none => rfl
end

theorem State.num_verified (k : Nat) (ne : k ≠ PD.FW_RESULT) (d : k ≠ PD.FW_STAGED_DIGEST) : s.verified.num k = (s.setNum PD.FW_STAGE_STATE 2).num k :=
  (State.num_fwResult_ne ne).trans ((State.num_setBytes_ne d).trans (State.num_of_pd rfl k))

theorem State.verified_fw : s.verified.fw = { s.fw with valid := true, package := s.fw.images, packageRollback := s.fw.rollback } :=
  State.fwResult_fw
theorem State.verified_mode : s.verified.mode = s.mode := State.fwResult_mode

theorem State.num_bootFromLoader_ne (t : State) {k : Nat} (ne : k ≠ PD.RESET_CAUSE) : t.bootFromLoader.num k = t.num k :=
  (State.num_enter ..).trans ((State.num_setNum_ne ne).trans (State.num_of_pd rfl k))

theorem State.bootFromLoader_fw (t : State) : t.bootFromLoader.fw = t.fw := State.enter_fw _ _

theorem State.num_afterVerified {k : Nat} (ne : k ≠ PD.RESET_CAUSE) : s.afterVerified.num k = s.verified.num k := by
  unfold State.afterVerified
  split
  · exact State.num_bootFromLoader_ne _ ne
  · rfl

theorem State.afterVerified_fw : s.afterVerified.fw = s.verified.fw := by
  unfold State.afterVerified
  split
  · exact State.bootFromLoader_fw _
  · rfl

/-- What a verified package shows. -/
theorem State.afterVerified_shows : s.afterVerified.num PD.FW_STAGE_STATE = 2 ∧ s.afterVerified.num PD.FW_RESULT = 0 ∧ s.afterVerified.fw.valid = true
    ∧ s.afterVerified.fw.package = s.fw.images ∧ (s.mode = .loader → s.afterVerified.mode = .boot ∧ s.afterVerified.num PD.RESET_CAUSE = 3)
    ∧ (s.mode ≠ .loader → s.afterVerified.mode = s.mode) := by
  refine ⟨?_, ?_, ?_, ?_, fun loader => ?_, fun other => ?_⟩
  · rw [s.num_afterVerified (by decide), s.num_verified _ (by decide) (by decide)]
    exact State.num_setNum
  · exact (s.num_afterVerified (by decide)).trans State.num_fwResult
  · rw [s.afterVerified_fw, s.verified_fw]
  · rw [s.afterVerified_fw, s.verified_fw]
  · unfold State.afterVerified
    rw [if_pos (s.verified_mode.trans loader)]
    exact ⟨State.enter_mode _ _, (State.num_enter ..).trans State.num_setNum⟩
  · unfold State.afterVerified
    rw [if_neg fun loader => other (s.verified_mode.symm.trans loader)]
    exact s.verified_mode
end

/-! ## The commands' outcomes -/

section
variable {s : State}

/-- A command is refused with a result: nothing else of the staging changes. -/
def State.refusesTo (s u : State) (code : Nat) : Prop :=
  u.num PD.FW_STAGE_STATE = s.num PD.FW_STAGE_STATE ∧ u.num PD.FW_RESULT = code ∧ u.fw = s.fw ∧ u.mode = s.mode

/-- Staging fails with a result. -/
def State.failsTo (s u : State) (code : Nat) : Prop :=
  u.num PD.FW_STAGE_STATE = 4 ∧ u.num PD.FW_RESULT = code ∧ u.fw.buffer = [] ∧ u.mode = s.mode

/-- The states that stage a package. -/
def State.staging (s : State) : Prop := s.mode = .loader ∨ s.mode = .held ∨ s.mode = .armed ∨ s.mode = .run ∨ s.mode = .drain

theorem State.stages_of (h : s.staging) : s.mode.stages = true := Mode.stages_iff.2 h
theorem State.stages_not (h : ¬ s.staging) : s.mode.stages = false := Bool.eq_false_iff.2 fun on => h (Mode.stages_iff.1 on)

theorem fwBegin_outcomes : (¬ s.staging → s.refusesTo s.fwBegin 9)
    ∧ (s.staging → s.num PD.FW_PACKAGE_LENGTH < 1024 ∨ 532676608 < s.num PD.FW_PACKAGE_LENGTH → s.refusesTo s.fwBegin 7)
    ∧ (s.staging → 1024 ≤ s.num PD.FW_PACKAGE_LENGTH → s.num PD.FW_PACKAGE_LENGTH ≤ 532676608 → s.fwBegin.num PD.FW_RECEIVED = 0
      ∧ s.fwBegin.num PD.FW_STAGE_STATE = 1 ∧ s.fwBegin.num PD.FW_RESULT = 1 ∧ s.fwBegin.fw.buffer = [] ∧ s.fwBegin.fw.images = [] ∧ s.fwBegin.fw.due = false
      ∧ (∀ e, e ∈ s.fwBegin.events → e.kind ≠ .firmware) ∧ s.fwBegin.mode = s.mode) := by
  refine ⟨fun off => ?_, fun on bad => ?_, fun on lo hi => ?_⟩
  · rw [State.fwBegin_elsewhere (State.stages_not off)]
    exact State.fwRefuse_shows 9
  · rw [State.fwBegin_length (State.stages_of on) bad]
    exact State.fwRefuse_shows 7
  · rw [State.fwBegin_starts (State.stages_of on) lo hi]
    obtain ⟨received, receiving, pending⟩ := s.fwCancel.receiving_shows
    obtain ⟨due, events, mode⟩ := s.fwCancel_clears
    obtain ⟨buffer, images, sameDue, sameEvents, sameMode⟩ := s.fwCancel.receiving_parts
    exact ⟨received, receiving, pending, buffer, images, sameDue.trans due, by rw [sameEvents]; exact events, sameMode.trans mode⟩

theorem fwAbandon_outcomes (w : s.dictOk = true) : (¬ s.staging ∨ s.num PD.FW_STAGE_STATE ≠ 1 → s.refusesTo s.fwAbandon 9)
    ∧ (s.staging → s.num PD.FW_STAGE_STATE = 1 → (s.fw.flashed = true → ∃ code, s.failsTo s.fwAbandon code)
      ∧ (s.fw.flashed = false → s.fwAbandon.num PD.FW_STAGE_STATE = 0 ∧ s.fwAbandon.fw.buffer = [] ∧ s.fwAbandon.mode = s.mode)) := by
  refine ⟨fun off => ?_, fun on state => ⟨fun flashed => ?_, fun fresh => ?_⟩⟩
  · rw [State.fwAbandon_refused (off.imp_left State.stages_not)]
    exact State.fwRefuse_shows 9
  · rw [State.fwAbandon_receiving (State.stages_of on) state, if_pos flashed]
    exact ⟨_, State.fwFail_shows (s := s.fresh.2) s.abandonCode 0 w⟩
  · rw [State.fwAbandon_receiving (State.stages_of on) state, if_neg (by rw [fresh]; decide)]
    refine ⟨(State.num_fwResult_ne (by decide)).trans ?_, by rw [State.fwResult_fw], State.fwResult_mode⟩
    exact (State.num_of_pd (s := s.fresh.2.setNum PD.FW_STAGE_STATE 0) rfl _).trans State.num_setNum

section
variable {b : List Byte}

theorem fwPiece_bad (h : ¬ s.takesPiece b) : (s.fwPiece b).num PD.FW_PIECES_DISCARDED = (s.num PD.FW_PIECES_DISCARDED + 1) % 2 ^ 64
    ∧ (s.fwPiece b).num PD.FW_RECEIVED = s.num PD.FW_RECEIVED ∧ (s.fwPiece b).fw = s.fw := by
  rw [State.fwPiece_discarded h]
  exact ⟨State.num_bump, State.num_bump_ne (by decide), rfl⟩

variable (h : s.takesPiece b)
include h

theorem State.withPiece_receiving : (s.withPiece b).num PD.FW_STAGE_STATE = 1 := (State.num_withPiece_ne (by decide)).trans h.2.2.1

/-- A piece that completes no header is buffered. -/
theorem fwPiece_short (short : s.num PD.FW_RECEIVED + fieldAt b 4 2 < s.fw.nextHeader + 512) :
    (s.fwPiece b).num PD.FW_RECEIVED = s.num PD.FW_RECEIVED + fieldAt b 4 2 ∧ (s.fwPiece b).fw.buffer = s.fw.buffer ++ sub b 8 (fieldAt b 4 2)
    ∧ (s.fwPiece b).fw.images = s.fw.images ∧ (s.fwPiece b).num PD.FW_STAGE_STATE = 1 := by
  rw [State.fwPiece_taken h, State.passHeaders_short (t := s.withPiece b) (by rw [State.num_withPiece_received]; exact short)]
  exact ⟨State.num_withPiece_received, rfl, rfl, State.withPiece_receiving h⟩

variable (whole : s.fw.nextHeader + 512 ≤ s.num PD.FW_RECEIVED + fieldAt b 4 2)
include whole

/-- A piece that completes a bad header ends staging. -/
theorem fwPiece_badHeader (w : s.dictOk = true) {code : Nat} (bad : (s.withPiece b).nextCheck = (code, none)) :
    s.failsTo (s.fwPiece b) code ∧ (s.fwPiece b).num PD.FW_RECEIVED = s.fw.nextHeader + 512 := by
  rw [State.fwPiece_taken h, State.passHeaders_bad (State.withPiece_receiving h) (by rw [State.num_withPiece_received]; exact whole) bad]
  obtain ⟨state, result, buffer, mode, end_⟩ := State.badHeader_shows (t := s.withPiece b) (State.dictOk_setNum w) code
  exact ⟨⟨state, result, buffer, mode⟩, end_⟩

/-- A piece that completes a good header appends its image. -/
theorem fwPiece_goodHeader {code : Nat} {i : ImageHead} {r : ImageRec} (good : (s.withPiece b).nextCheck = (code, some (i, r)))
    (short : s.num PD.FW_RECEIVED + fieldAt b 4 2 < s.fw.nextHeader + r.length + 512) :
    (s.fwPiece b).num PD.FW_RECEIVED = s.num PD.FW_RECEIVED + fieldAt b 4 2 ∧ (s.fwPiece b).fw.images = s.fw.images ++ [r]
    ∧ (s.fwPiece b).fw.nextHeader = s.fw.nextHeader + r.length ∧ (s.fwPiece b).fw.buffer = s.fw.buffer ++ sub b 8 (fieldAt b 4 2)
    ∧ (s.fwPiece b).num PD.FW_STAGE_STATE = 1 := by
  rw [State.fwPiece_taken h, State.passHeaders_good (State.withPiece_receiving h) (by rw [State.num_withPiece_received]; exact whole) good,
    State.passHeaders_short (t := (s.withPiece b).withImage i r) (by rw [State.num_withImage, State.num_withPiece_received]; exact short)]
  exact ⟨(State.num_withImage ..).trans State.num_withPiece_received, rfl, rfl, rfl, (State.num_withImage ..).trans (State.withPiece_receiving h)⟩
end

/-- Signatures come before the rollback number, and both after the place. -/
theorem header_verdicts (s : State) {h : List Byte} {seen : List ImageRec} {o len : Nat} {entry : Option ImageRec} {rb : Nat} {i : ImageHead}
    (parsed : parseHead h = some i) (fresh : ∀ x, x ∈ seen → x.part ≠ i.part) (first : seen = [] → i.part = 1) (fits : o + 512 + i.bodyLength ≤ len)
    (listed : seen ≠ [] → entry = some (i.record o)) :
    (s.sigsOk h i = false → s.checkHead h seen o len entry rb = (3, none))
    ∧ (s.sigsOk h i = true → (i.rollback < s.num PD.FW_ROLLBACK_MIN ∨ (seen ≠ [] ∧ i.rollback ≠ rb)) → s.checkHead h seen o len entry rb = (4, none))
    ∧ (s.sigsOk h i = true → s.num PD.FW_ROLLBACK_MIN ≤ i.rollback → (seen ≠ [] → i.rollback = rb)
      → s.checkHead h seen o len entry rb = (0, some (i, i.record o))) := by
  rw [s.checkHead_placed (rb := rb) parsed fresh first fits listed]
  have none_ : (!seen.isEmpty) = true ↔ seen ≠ [] := by simp
  refine ⟨fun bad => if_pos (by rw [bad]; rfl), fun good old => (if_neg (by rw [good]; decide)).trans (if_pos ?_),
    fun good min_ same => (if_neg (by rw [good]; decide)).trans (if_neg ?_)⟩
  · exact old.imp_right fun ⟨some_, other⟩ => ⟨none_.2 some_, other⟩
  · rintro (low | ⟨some_, other⟩)
    · omega
    · exact other (same (none_.1 some_))

section
variable (g : State)

theorem State.eraseSector_fw : g.eraseSector.fw = { g.fw with erased := g.fw.erased + 65536 } := rfl
theorem State.programPage_fw : g.programPage.fw
    = { g.fw with programmed := g.fw.programmed + (g.fw.buffer.take 256).length, buffer := g.fw.buffer.drop 256 } := rfl
theorem State.flashing_fw : g.flashing.fw = { g.fw with valid := false, flashed := true, package := [] } := rfl
end

/-- A flash operation that fails. -/
theorem flash_fails {g : State} (wg : g.dictOk = true) (mode : g.mode = s.mode) :
    s.failsTo (g.flashing.fwFail 8 0) 8
    ∧ (g.flashing.fwFail 8 0).fw.valid = false ∧ (g.flashing.fwFail 8 0).fw.flashed = true := by
  obtain ⟨state, result, buffer, same⟩ := State.fwFail_shows (s := g.flashing) 8 0 wg
  exact ⟨⟨state, result, buffer, same.trans mode⟩, by rw [State.fwFail_fw]; rfl, by rw [State.fwFail_fw]; rfl⟩

theorem erase_outcomes {g : State} (fw : g.fw = s.fw) (due : s.fw.erased ≤ s.fw.programmed) :
    g.flashing.fwOperate.fw = { s.fw with valid := false, flashed := true, package := [], erased := s.fw.erased + 65536 }
    ∧ ∀ o, s.fw.erased ≤ o → o < s.fw.erased + 65536 → o + packageBase < 2 ^ 48 → g.flashing.fwOperate.readByte stFlash (packageBase + o) = 0xFF := by
  have erased : g.flashing.fw.erased = s.fw.erased := by rw [State.flashing_fw, fw]
  have programmed : g.flashing.fw.programmed = s.fw.programmed := by rw [State.flashing_fw, fw]
  rw [State.fwOperate_erase _ (by rw [erased, programmed]; exact due)]
  refine ⟨by rw [State.eraseSector_fw, State.flashing_fw, fw], fun o lo hi store => ?_⟩
  exact State.readByte_eraseSector _ (by rw [erased]; exact lo) (by rw [erased]; exact hi) store

theorem program_outcomes {g : State} (fw : g.fw = s.fw) (ready : s.fw.programmed < s.fw.erased) :
    g.flashing.fwOperate.fw = { s.fw with valid := false, flashed := true, package := [], programmed := s.fw.programmed + min 256 s.fw.buffer.length,
                                          buffer := s.fw.buffer.drop 256 }
    ∧ g.flashing.fwOperate.read stFlash (packageBase + s.fw.programmed) (min 256 s.fw.buffer.length) = s.fw.buffer.take 256 := by
  have erased : g.flashing.fw.erased = s.fw.erased := by rw [State.flashing_fw, fw]
  have programmed : g.flashing.fw.programmed = s.fw.programmed := by rw [State.flashing_fw, fw]
  have buffer : g.flashing.fw.buffer = s.fw.buffer := by rw [State.flashing_fw, fw]
  rw [State.fwOperate_program _ (by rw [erased, programmed]; exact ready)]
  refine ⟨by rw [State.programPage_fw, State.flashing_fw, fw, List.length_take], ?_⟩
  have page := g.flashing.read_programPage
  rwa [programmed, buffer] at page
end

/-! ## The outcomes of verification -/

section
variable {s : State}

/-- The manifest and the headers agree, and nothing follows the last image. -/
def State.manifestAgrees (s : State) : Prop :=
  (fieldAt (s.read stFlash (packageBase + 512) 64) 0 2 = 6 ∧ allZero (sub (s.read stFlash (packageBase + 512) 64) 2 6) = true
    ∧ allZero (sub (s.read stFlash (packageBase + 512) 64) 12 52) = true)
  ∧ s.fw.images.length = 7 ∧ s.fw.nextHeader = s.num PD.FW_PACKAGE_LENGTH ∧ ∀ k r, s.fw.images.tail[k]? = some r → s.stagedEntry k = some r

theorem State.manifestAgrees_iff : s.manifestAgrees
    ↔ ¬ (s.unlisted.isSome ∨ !s.manifestHead ∨ s.fw.images.length ≠ 7 ∨ s.fw.nextHeader ≠ s.num PD.FW_PACKAGE_LENGTH) := by
  have head : s.manifestHead = true ↔ fieldAt (s.read stFlash (packageBase + 512) 64) 0 2 = 6 ∧ allZero (sub (s.read stFlash (packageBase + 512) 64) 2 6) = true
      ∧ allZero (sub (s.read stFlash (packageBase + 512) 64) 12 52) = true := by
    unfold State.manifestHead
    rw [Bool.and_eq_true, Bool.and_eq_true, decide_eq_true_eq, and_assoc]
  unfold State.manifestAgrees
  rw [← head, ← s.unlisted_none_iff, not_or, not_or, not_or, not_not, not_not, Bool.not_eq_true', Bool.not_eq_false, Option.not_isSome_iff_eq_none]
  exact ⟨fun ⟨h, seven, last, listed⟩ => ⟨listed, h, seven, last⟩, fun ⟨listed, h, seven, last⟩ => ⟨h, seven, last, listed⟩⟩

variable (state : s.num PD.FW_STAGE_STATE = 1) (received : s.num PD.FW_RECEIVED = s.num PD.FW_PACKAGE_LENGTH)
  (programmed : s.fw.programmed = s.num PD.FW_PACKAGE_LENGTH) (runs : s.mode.hubRuns = true)
include state received programmed runs

theorem exec_stagingVerified_body (bad : ∃ r, r ∈ s.fw.images ∧ s.bodyOk r = false) : ∃ part, exec .stagingVerified s = .next (s.fwFail 5 part) := by
  rw [exec_stagingVerified state received programmed runs]
  obtain ⟨r, hr, fails⟩ := bad
  cases found : s.fw.images.find? fun r => !s.bodyOk r with
  | some q => exact ⟨_, rfl⟩
  | none => exact absurd (by rw [fails]; rfl) (List.find?_eq_none.1 found r hr)

variable (bodies : ∀ r, r ∈ s.fw.images → s.bodyOk r = true)
include bodies

theorem exec_stagingVerified_bodies : exec .stagingVerified s
    = if s.unlisted.isSome ∨ !s.manifestHead ∨ s.fw.images.length ≠ 7 ∨ s.fw.nextHeader ≠ s.num PD.FW_PACKAGE_LENGTH
        then .next (s.fwFail 6 ((s.unlisted.map (·.1.part)).getD 0)) else .next s.afterVerified := by
  have none_ : (s.fw.images.find? fun r => !s.bodyOk r) = none := List.find?_eq_none.2 fun r hr => by rw [bodies r hr]; decide
  rw [exec_stagingVerified state received programmed runs, none_]

theorem exec_stagingVerified_manifest (disagrees : ¬ s.manifestAgrees) : ∃ part, exec .stagingVerified s = .next (s.fwFail 6 part) :=
  ⟨_, (exec_stagingVerified_bodies state received programmed runs bodies).trans
    (if_pos (by rwa [State.manifestAgrees_iff, not_not] at disagrees))⟩

theorem exec_stagingVerified_agrees (agrees : s.manifestAgrees) : exec .stagingVerified s = .next s.afterVerified :=
  (exec_stagingVerified_bodies state received programmed runs bodies).trans (if_neg (State.manifestAgrees_iff.1 agrees))
end

end Sys2Proof.Machine

open Sys2Proof Sys2Proof.Machine

/-- Settles O56: each command by the state it is given in; a piece by whether it is taken, and then by the header it completes; a flash operation by what
is erased; a package by its bodies and its manifest. -/
theorem firmwareIsStagedProgrammedAndVerified : Obligations.FirmwareIsStagedProgrammedAndVerified := by
  unfold Obligations.FirmwareIsStagedProgrammedAndVerified
  intro s w runs stages n got state failed refused
  refine ⟨⟨_, if_pos runs, fwBegin_outcomes⟩, ⟨_, if_pos runs, fwAbandon_outcomes w⟩, fun b => ?_, fun h seen o len entry rb i parsed => ?_,
    fun rec on some_ granted ok => ?_, fun rec whole prog => ?_⟩
  · intro len good T h check
    have takes : good ↔ s.takesPiece b :=
      ⟨fun ⟨size, on, rest⟩ => ⟨size, State.stages_of on, rest⟩, fun ⟨size, on, rest⟩ => ⟨size, Mode.stages_iff.1 on, rest⟩⟩
    have checks : (s.withPiece b).nextCheck = check := State.nextCheck_withPiece
    exact ⟨_, if_pos runs, fun bad => fwPiece_bad fun ok => bad (takes.2 ok), fun ok short => fwPiece_short (takes.1 ok) short,
      fun ok whole code bad => fwPiece_badHeader (takes.1 ok) whole w (checks.trans bad),
      fun ok whole code i r passed short => fwPiece_goodHeader (takes.1 ok) whole (checks.trans passed) short⟩
  · intro r fresh first fits listed
    exact header_verdicts s parsed fresh first fits listed
  · have grants := exec_firmwareStagingGrant rec (State.stages_of on) ((s.flashReady_iff).2 some_) granted ok
    have run := s.run_grant .firmwareStaging 0
    have fw : (s.grant .firmwareStaging 0).2.fw = s.fw := run.part .fw rfl
    cases ok
    case false =>
      obtain ⟨fails, valid, flashed⟩ := flash_fails (s := s) (run.dict w) (run.part .mode rfl)
      exact ⟨_, grants, valid, flashed, fun _ => fails, nofun, nofun⟩
    case true =>
      refine ⟨_, grants, ?_⟩
      rcases Nat.lt_or_ge s.fw.programmed s.fw.erased with ready | due
      · obtain ⟨parts, page⟩ := program_outcomes fw ready
        exact ⟨by rw [parts], by rw [parts], nofun, fun _ due => absurd ready (Nat.not_lt.2 due), fun _ _ => ⟨page, by rw [parts], by rw [parts]⟩⟩
      · obtain ⟨parts, bytes⟩ := erase_outcomes fw due
        exact ⟨by rw [parts], by rw [parts], nofun, fun _ _ => ⟨by rw [parts], by rw [parts], by rw [parts], bytes⟩, fun _ ready => absurd ready (Nat.not_lt.2 due)⟩
  · intro okHead agrees
    by_cases bad : ∃ r, r ∈ s.fw.images ∧ s.bodyOk r = false
    · obtain ⟨part, ends⟩ := exec_stagingVerified_body rec whole prog runs bad
      obtain ⟨r, hr, fails⟩ := bad
      have not_all (all : ∀ r, r ∈ s.fw.images → s.bodyOk r = true) : False := by rw [all r hr] at fails; cases fails
      exact ⟨_, ends, fun _ => State.fwFail_shows 5 part w, fun all _ => (not_all all).elim, fun all _ => (not_all all).elim⟩
    · have bodies : ∀ r, r ∈ s.fw.images → s.bodyOk r = true := fun r hr => Bool.eq_true_of_not_eq_false fun fails => bad ⟨r, hr, fails⟩
      by_cases same : s.manifestAgrees
      · exact ⟨_, exec_stagingVerified_agrees rec whole prog runs bodies same, fun b => absurd b bad, fun _ other => absurd same other,
          fun _ _ => s.afterVerified_shows⟩
      · obtain ⟨part, ends⟩ := exec_stagingVerified_manifest rec whole prog runs bodies same
        exact ⟨_, ends, fun b => absurd b bad, fun _ _ => State.fwFail_shows 6 part w, fun _ agree => absurd agree same⟩
end
